-- ==== Sys2Proof/Word.lean ====
section
/-!
DEFINITION. The machine's plain word types: bytes and the descriptor, record and flit words of the SC2.
-/

namespace Sys2Proof

/-- One byte (R10: multi-byte fields are lists of these, least significant first). -/
abbrev Byte := BitVec 8

/-- A 64-byte host descriptor (R47). -/
abbrev Desc := BitVec 512

end Sys2Proof
end

