-- ==== Sys2Proof/Syntax.lean ====
section
/-!
DEFINITION. The commands and events of the SC2: one constructor per row of the opcode table, with its operands.

Conventions. A host command carries the function it came through, the submission ring and its 64-byte descriptor
(R47); data the SC2 reads by DMA for it is an operand, none where that read failed (R342). A link message carries its
header as the word its chapter's table maps, and its data bytes. An internal event carries the ids it concerns. A
command that reads an island clock carries the time of its taking in ns of island time as `t`.
-/

namespace Sys2Proof

/-- The path a Dictionary transaction came by (Table 17-4). -/
inductive Origin
  /-- The mailbox of function `fn`, plaintext. -/
  | mailbox (fn : Nat)
  /-- The field network, from source address `mac`, in frame `fseq`. -/
  | net (mac fseq : Nat)
  /-- Application data of SPDM session `sid`. -/
  | session (sid : Nat)
deriving DecidableEq, Repr

/-- The transport of an SPDM message (R362): the DOE mailbox of a function, or the field network address. -/
inductive Via
  | doe (fn : Nat)
  | net (mac : Nat)
deriving DecidableEq, Repr

/-- The commands and events of the SC2, one constructor per row of the opcode table. -/
inductive Instr where
  /-- OPEN (R35). Session command that allocates the lowest free directory entry of the chosen half and returns a new handle. -/
  | openCmd (fn sq : Nat) (d : Desc)
  /-- SUBMIT (R41). Session command that starts a request on a session, taking a stream slot and queuing it for its lane. -/
  | submit (fn sq : Nat) (d : Desc) (input : Option (List Byte)) (t : Nat)
  /-- CANCEL (R38). Session command that cancels the session's request, and closes the session when CLOSE is set. -/
  | cancel (fn sq : Nat) (d : Desc)
  /-- PAUSE (R38). Session command that sets pause pending so the request ends PAUSED at the next step boundary. -/
  | pause (fn sq : Nat) (d : Desc)
  /-- PARK (R95). Session command that demotes a session's pages to a lower tier and starts its TTL. -/
  | park (fn sq : Nat) (d : Desc)
  /-- REVIVE (R110). Session command that starts the Developer and completes when the window of layers is resident. -/
  | revive (fn sq : Nat) (d : Desc)
  /-- FORK (R40). Session command that creates a child session sharing the parent's first prefix tokens. -/
  | fork (fn sq : Nat) (d : Desc)
  /-- CLOSE (R38). Session command that closes a session and releases its pages. -/
  | close (fn sq : Nat) (d : Desc)
  /-- SET_TTL (R38). Session command that stores a new TTL and returns the previous one. -/
  | setTtl (fn sq : Nat) (d : Desc)
  /-- QUERY (R38). Session command that reports a session's state, profile and tail token. -/
  | query (fn sq : Nat) (d : Desc)
  /-- TTL_SCAN (R39). Once-per-second visit of every PARKED entry that expires those whose expires value has passed. -/
  | ttlScan (half first last : Nat)
  /-- ENTRY_FREE (R38). A CLOSED entry whose last page is released and scrub queued becomes FREE with generation advanced. -/
  | entryFree (idx : Nat)
  /-- FUNCTION_SPLIT_WRITE (R32). Write of a partition's function-split mode subindex, taking effect at the next step boundary or next detection. -/
  | functionSplitWrite (o : Origin) (p sub : Nat) (v : List Byte)
  /-- QUOTA_WRITE (R49). Write of a partition's session or slot quota, refusing new work until use falls below it. -/
  | quotaWrite (o : Origin) (p sub : Nat) (v : List Byte)
  /-- T1_QUOTA_WRITE (R68). Write of a partition's T1 pool quota, refusing admissions until the charge falls below it. -/
  | t1QuotaWrite (o : Origin) (p sub : Nat) (v : List Byte)
  /-- SEAL_DONE (R60). Completion of sealing: pagecv written, page added to a stripe, entry SEALED and copy B released. -/
  | sealDone (pid : Nat)
  /-- SCRUB_DONE (R67). Completion of the zero-write and read-back of released space, returning it to the half's free pool. -/
  | scrubDone (half stack : Nat)
  /-- STACK_LOST (R76). A Lysing port declares its stack LOST after a fatal report or three timed-out attempts. -/
  | stackLost (half stack : Nat)
  /-- LYSING_ACCESS_TIMEOUT (R76). Expiry of the 2 µs limit on one Lysing access attempt. -/
  | lysingAccessTimeout (half stack : Nat)
  /-- REBUILD_ROW_DONE (R78). Completion of the rebuild of one band row, moving its members and rewriting page-table locations. -/
  | rebuildRowDone (half group row : Nat)
  /-- T2_BUFFER_WRITE (R83). A half writes its stripe buffer when full, after 200 µs of inactivity, or when a PARK waits on it. -/
  | t2BufferWrite (half : Nat)
  /-- T2_SHARE_ACK (R84). Acknowledgement of the T2 shares of a stripe, making its objects durable. -/
  | t2ShareAck (stripe stack : Nat)
  /-- T2_COMPACTION (R85). Flash ports compact a half whose free stripes fall below the threshold. -/
  | t2Compaction (half : Nat)
  /-- FLOPIRY_STACK_LOST (R86). A Flopiry stack is lost on a fatal report or 10 ms of silence; its shares become erasures. -/
  | flopiryStackLost (stack : Nat)
  /-- WEAR_READ (R87). Once-per-second read of each Flopiry controller's cycle count, raising wear events at 80% and 100%. -/
  | wearRead (stack cycles : Nat)
  /-- DEMOTION_PASS_START (R93). A half whose free T1 falls below the low mark starts a demotion pass selecting candidates. -/
  | demotionPassStart (half : Nat)
  /-- IDLE_DEMOTION (R93). An IDLE session whose idle time reaches the configured seconds is demoted. -/
  | idleDemotion (idx : Nat)
  /-- DEMOTION_PAGE_DURABLE (R95). A demoted page's lower-tier object becomes durable or acknowledged and its T1 slots are released. -/
  | demotionPageDurable (idx pid t : Nat)
  /-- T2_LOW_STRIPES_MOVE (R94). PARKED sessions are moved from T2 to the next tier while free stripes are below 1/32. -/
  | t2LowStripesMove (half : Nat)
  /-- GRANULE_PIECE_MOVED (R100). A 64 KiB piece of a moving granule is copied; the last piece triggers the switch of the map entry. -/
  | granulePieceMoved (g : Nat)
  /-- EXTENT_LEASE_LAPSE (R101). A T3 extent's lease lapses so revivals and accesses needing it complete LEASE_EXPIRED. -/
  | extentLeaseLapse (part id : Nat)
  /-- POOL_LEASE_LAPSE (R102). A pool lease not renewed in time frees the lender's extent, and the borrower treats it as lapsed. -/
  | poolLeaseLapse (lent : Bool) (peer ext : Nat)
  /-- EXTENT_ADD (R101). Tier command that lends host memory to the partition as a T3 extent, or reattaches a lapsed one. -/
  | extentAdd (fn sq : Nat) (d : Desc)
  /-- EXTENT_REMOVE (R101). Tier command that removes a T3 extent, evacuating its objects when EVACUATE is set. -/
  | extentRemove (fn sq : Nat) (d : Desc)
  /-- MAP (R104). Tier command that maps granules, zero-filled, in a tier. -/
  | map (fn sq : Nat) (d : Desc)
  /-- UNMAP (R104). Tier command that releases mapped granules. -/
  | unmap (fn sq : Nat) (d : Desc)
  /-- PLACE (R104). Tier command that moves granules to a named tier and sets or clears PIN. -/
  | place (fn sq : Nat) (d : Desc)
  /-- REBUILD (R78). Tier command from partition 0 naming band rows to rebuild in host-assisted mode. -/
  | rebuild (fn sq : Nat) (d : Desc)
  /-- ATOMIC (R103). Tier command applying an atomic add to an element in device memory. -/
  | atomic (fn sq : Nat) (d : Desc)
  /-- DEVELOPER_PAGE_FETCHED (R108). A page fetched by the Developer arrives, is decoded, placed and sealed or mirrored. -/
  | developerPageFetched (idx pid : Nat) (reachable : Bool) (chk : Nat)
  /-- OWN_READ (R120). Ownership READ message answered by the home with the record image. -/
  | ownRead (src part : Nat) (hdr : BitVec 256)
  /-- OWN_RENEW (R120). Ownership RENEW message extending the owner or offer lease. -/
  | ownRenew (src part : Nat) (hdr : BitVec 256)
  /-- OWN_OFFER (R120). Ownership OFFER message from the owner making the record OFFERED to a target. -/
  | ownOffer (src part : Nat) (hdr : BitVec 256)
  /-- OWN_ACCEPT (R120). Ownership ACCEPT message from the target making it owner. -/
  | ownAccept (src part : Nat) (hdr : BitVec 256)
  /-- OWN_RECALL (R120). Ownership RECALL message withdrawing an offer. -/
  | ownRecall (src part : Nat) (hdr : BitVec 256)
  /-- OWN_CLAIM (R120). Ownership CLAIM message taking a lapsed session, or closing it with DROP. -/
  | ownClaim (src part : Nat) (hdr : BitVec 256)
  /-- OWN_RELEASE (R120). Ownership RELEASE message closing the session at the home. -/
  | ownRelease (src part : Nat) (hdr : BitVec 256)
  /-- OWN_NOTE (R118). NOTE carrying a new record image, acted on by its recipient. -/
  | ownNote (src part : Nat) (hdr : BitVec 256)
  /-- OWN_LEASE_SCAN (R119). Once-per-millisecond scan of remote and OFFERED records for ended leases. -/
  | ownLeaseScan (half : Nat)
  /-- OWN_RENEW_TIMER (R119). Owner or offerer's periodic timer sending a RENEW to the home. -/
  | ownRenewTimer (idx : Nat)
  /-- OWN_REPLY_TIMEOUT (R122). No reply within the timeout, so the party sends a READ and the request again. -/
  | ownReplyTimeout (idx : Nat)
  /-- FROZEN_END (R121). End of the frozen period after a restore, after which the record table applies. -/
  | frozenEnd
  /-- STAGED_HOLD_EXPIRY (R126). Staged copy released once the hold has passed and a record names another owner. -/
  | stagedHoldExpiry (idx : Nat)
  /-- MIGRATE (R123). Command moving a session to the other half or to another session peer. -/
  | migrate (fn sq : Nat) (d : Desc)
  /-- MOVE_ENDS (R127). The target reads itself owner and the session leaves MOVING. -/
  | moveEnds (idx : Nat) (hdr : BitVec 256)
  /-- RECALL (R122). Command withdrawing an offer so the MIGRATE completes CANCELLED. -/
  | recall (fn sq : Nat) (d : Desc)
  /-- CLAIM (R131). Partition 0 command confirming a claim of a lapsed session, or closing it with DROP. -/
  | claim (fn sq : Nat) (d : Desc)
  /-- WHERE (R128). Command returning a session's owner, serving half and handle at the owner. -/
  | whereCmd (fn sq : Nat) (d : Desc)
  /-- DISCARD (R126). Partition 0 command releasing a staged copy. -/
  | discard (fn sq : Nat) (d : Desc)
  /-- MOVE_FIELDS (R125). MOVE FIELDS message carrying the directory entry and remaining TTL to the target. -/
  | moveFields (src part : Nat) (hdr : BitVec 256) (data : List Byte) (crc : Nat)
  /-- MOVE_OBJECT (R126). MOVE OBJECT message carrying one coded object, verified by the target. -/
  | moveObject (src part : Nat) (hdr : BitVec 256) (data : List Byte) (crc : Nat)
  /-- MOVE_RESEND (R126). MOVE RESEND asking for an object again after it failed verification. -/
  | moveResend (src part : Nat) (hdr : BitVec 256)
  /-- MOVE_REFUSE (R126). MOVE REFUSE from a target lacking space or a slot, making the offerer RECALL. -/
  | moveRefuse (src part : Nat) (hdr : BitVec 256)
  /-- MOVE_GUEST (R126). MOVE GUEST returning the guest handle from the target. -/
  | moveGuest (src part : Nat) (hdr : BitVec 256)
  /-- MOVE_RELAY (R129). MOVE RELAY carrying an output record or completion to the source to post. -/
  | moveRelay (src part : Nat) (hdr : BitVec 256) (data : List Byte) (crc : Nat)
  /-- MOVE_RELAY_ACK (R129). MOVE RELAY_ACK acknowledging a posted relay. -/
  | moveRelayAck (src part : Nat) (hdr : BitVec 256)
  /-- RELAY_RESEND_TIMER (R129). Each unacknowledged relay is sent again every 1 ms. -/
  | relayResendTimer (peer handle rseq : Nat)
  /-- LANE_ENABLE_WRITE (R134). Write enabling or disabling a lane, refused with an empty mask or unloaded profile. -/
  | laneEnableWrite (o : Origin) (lane : Nat) (v : List Byte)
  /-- ROUND_OPEN (R137). ROUND_OPEN message checked and admitted, held or refused for a lane's round or selection phase. -/
  | roundOpen (half src : Nat) (hdr : BitVec 256) (t : Nat)
  /-- ROUND_OPEN_ABANDON (R138). Abandon open committing the half's step at once with every open outcome deferred. -/
  | roundOpenAbandon (half src : Nat) (hdr : BitVec 256) (t : Nat)
  /-- QKV (R140). QKV message of one request for a round, appending its rows and readying its splits. -/
  | qkv (link src lane : Nat) (hdr : BitVec 128) (data : List Byte) (crc : Nat) (t : Nat)
  /-- ROUND_TIMER_EXPIRY (R141). Expiry of a lane's round timer, abandoning the step or making drop-outs. -/
  | roundTimerExpiry (half lane : Nat) (t : Nat)
  /-- SPLIT_FINISH (R144). A core finishes a split, its partial is checked and the core takes its next work. -/
  | splitFinish (core t x : Nat)
  /-- SELECT (R203). SELECT message carrying a shard of a request's logits or candidates. -/
  | select (link src lane : Nat) (hdr : BitVec 192) (data : List Byte) (crc : Nat)
  /-- HOST_ASSIST_WAIT_EXPIRY (R146). Host-assist wait ends and unanswered requests are deferred. -/
  | hostAssistWaitExpiry (half lane : Nat)
  /-- STEP_COMMIT (R147). A half commits its step once every outcome is fixed and mirror writes are done. -/
  | stepCommit (half lane t : Nat)
  /-- STOP_BATH_START (R148). Write of a level to 0x2200.03 starting a round- or step-level Stop bath. -/
  | stopBathStart (o : Origin) (v : List Byte)
  /-- STOP_BATH_LEVEL_CHANGE (R149). Write of the other non-zero level changing the bath level at once. -/
  | stopBathLevelChange (o : Origin) (v : List Byte)
  /-- STOP_BATH_END (R149). Write of 0 ending the bath and releasing held opens. -/
  | stopBathEnd (o : Origin) (v : List Byte)
  /-- STOP_BATH_QUIET (R148). The bath becomes quiet; 0x2200.05 reads 2. -/
  | stopBathQuiet
  /-- STOP_BATH_LATE (R148). The bath is not quiet 100 ms after it started. -/
  | stopBathLate
  /-- CORE_SET_WRITE (R151). Write of a partition's core set, applying to splits placed afterwards. -/
  | coreSetWrite (o : Origin) (p sub : Nat) (v : List Byte)
  /-- PROFILE_LOAD (R173). Write of 0x01 to a profile's subindex 0x01 validating and installing its staging copy. -/
  | profileLoad (o : Origin) (p : Nat) (v : List Byte)
  /-- PROFILE_UNLOAD (R173). Write of 0x02 to a profile's subindex 0x01 unloading it. -/
  | profileUnload (o : Origin) (p : Nat) (v : List Byte)
  /-- CURVE_WRITE (R165). Write of a curve table validated at its samples. -/
  | curveWrite (o : Origin) (id : Nat) (v : List Byte)
  /-- DECODE_TABLE_WRITE (R175). Write of a KV decode table, validated and refused when named by a loaded profile. -/
  | decodeTableWrite (o : Origin) (id : Nat) (v : List Byte)
  /-- TEXT_TABLE_WRITE (R193). Write of a tokenizer, grammar or stop-string table, validated by the checks of Table 8-7. -/
  | textTableWrite (o : Origin) (kind id : Nat) (v : List Byte)
  /-- TEXT_MORE (R182). Command adding the next input buffer to a collecting request. -/
  | textMore (fn sq : Nat) (d : Desc) (input : Option (List Byte))
  /-- ASSIST_POST (R197). Command lending a buffer for host-assisted exchanges. -/
  | assistPost (fn sq : Nat) (d : Desc)
  /-- ASSIST_EXCHANGE (R197). The SC2 writes an exchange into the next posted buffer and completes it. -/
  | assistExchange (xid : Nat)
  /-- ASSIST_REPLY (R198). Command carrying the host's answer to an exchange. -/
  | assistReply (fn sq : Nat) (d : Desc) (reply : Option (List Byte))
  /-- GATHER (R227). GATHER message answered with one ROWS message. -/
  | gather (src part : Nat) (hdr : BitVec 192) (data : List Byte) (crc : Nat)
  /-- ADD (R229). ADD message applying scatter-adds to a writable table. -/
  | add (src part : Nat) (hdr : BitVec 192) (data : List Byte) (crc : Nat)
  /-- SET (R230). SET message buffering row sets to apply at the lane's commit. -/
  | set (src part : Nat) (hdr : BitVec 192) (data : List Byte) (crc : Nat)
  /-- FILL_SWITCH (R223). A fill's tail copy is verified and written, the way switches VALID and held updates apply. -/
  | fillSwitch (table row : Nat)
  /-- EVICTION_SWITCH (R224). An eviction writes back a DIRTY slot and the way switches EMPTY. -/
  | evictionSwitch (table row : Nat)
  /-- SKETCH_HALVING (R221). Periodic halving of every frequency-sketch cell. -/
  | sketchHalving (half : Nat)
  /-- EMB_TABLE_LOAD (R218). Write of 0x01 to a table's subindex 0x01 validating and loading it. -/
  | embTableLoad (o : Origin) (id : Nat) (v : List Byte)
  /-- EMB_TABLE_UNLOAD (R219). Write of 0x02 applying buffered updates, writing back DIRTY slots and unloading. -/
  | embTableUnload (o : Origin) (id : Nat) (v : List Byte)
  /-- EMB_GATHER (R233). Command gathering rows into host memory. -/
  | embGather (fn sq : Nat) (d : Desc) (input : Option (List Byte))
  /-- EMB_ADD (R233). Command applying scatter-adds from host memory. -/
  | embAdd (fn sq : Nat) (d : Desc) (input : Option (List Byte))
  /-- EMB_SET (R233). Command buffering row sets from host memory. -/
  | embSet (fn sq : Nat) (d : Desc) (input : Option (List Byte))
  /-- EMB_REQUANT (R231). Command recomputing rows of a code table from an FP table. -/
  | embRequant (fn sq : Nat) (d : Desc)
  /-- EMB_FLUSH (R233). Command writing back every DIRTY slot of a table. -/
  | embFlush (fn sq : Nat) (d : Desc)
  /-- VS_QUERY (R247). Command finding the k nearest visible items passing a filter. -/
  | vsQuery (fn sq : Nat) (d : Desc) (input : Option (List Byte))
  /-- SCAN_TASK_FINISH (R249). A scan task of 1,024 slots finishes on a core. -/
  | scanTaskFinish (core task : Nat)
  /-- VS_INSERT (R244). Mutation command inserting items and publishing a new epoch. -/
  | vsInsert (fn sq : Nat) (d : Desc) (input : Option (List Byte))
  /-- VS_DELETE (R245). Mutation command deleting items and publishing a new epoch. -/
  | vsDelete (fn sq : Nat) (d : Desc) (input : Option (List Byte))
  /-- INDEX_LOAD (R237). Write of 0x01 loading a vector index after its checks. -/
  | indexLoad (o : Origin) (id : Nat) (v : List Byte)
  /-- INDEX_UNLOAD (R237). Write of 0x02 unloading an index once queries and mutations in flight end. -/
  | indexUnload (o : Origin) (id : Nat) (v : List Byte)
  /-- HOLD_EPOCH_WRITE (R246). Write of an index's hold epoch. -/
  | holdEpochWrite (o : Origin) (id : Nat) (v : List Byte)
  /-- PROOF_RUN_FINISH (R265). A replay or third run finishes and the Proof decision is taken. -/
  | proofRunFinish (core x : Nat)
  /-- KAT_PERIOD (R269). Start of a test period running every valid pattern on each in-service core. -/
  | katPeriod (half : Nat)
  /-- KAT_RUN_FINISH (R269). A known-answer run finishes and is counted pass or fail. -/
  | katRunFinish (core x : Nat)
  /-- PATTERN_WRITE (R268). Write of a known-answer pattern, validated. -/
  | patternWrite (o : Origin) (id : Nat) (v : List Byte)
  /-- EXCLUDE (R271). Command taking a core, link or stack out of service. -/
  | exclude (fn sq : Nat) (d : Desc)
  /-- ADMIT (R271). Command returning a unit to service. -/
  | admitUnit (fn sq : Nat) (d : Desc)
  /-- TEST (R270). Command running one pattern on a named core. -/
  | test (fn sq : Nat) (d : Desc)
  /-- FORGO (R257). Command placing a poisoned page in place of an unreadable one. -/
  | forgo (fn sq : Nat) (d : Desc)
  /-- COUNTER_CLEAR (R274). Write of a clear mask to a counter index's subindex 0xF1. -/
  | counterClear (o : Origin) (idx : Nat) (v : List Byte)
  /-- CKPT (R283). Command starting a Negative checkpoint, or the double-copy method with DOUBLE. -/
  | ckpt (fn sq : Nat) (d : Desc)
  /-- CKPT_DOUBLE (R287). Double-copy checkpoint writing the image to both slots in turn. -/
  | ckptDouble (fn sq : Nat) (d : Desc)
  /-- CKPT_ZERO_DURABLE (R283). The zeroed commit record becomes durable; buffers are reserved and the bath starts. -/
  | ckptZeroDurable
  /-- CKPT_CUT (R283). Each half takes its cut when the bath is quiet and arms copy-on-write. -/
  | ckptCut
  /-- CKPT_QUIESCE_TIMEOUT (R283). The bath is not quiet within the quiesce limit and CKPT completes CANCELLED. -/
  | ckptQuiesceTimeout
  /-- DRAIN_COMPLETE (R285). All segments are durable and the Fixer writes the contact sheet. -/
  | drainComplete (half : Nat)
  /-- SHEET_DURABLE (R285). The contact sheet is durable and the commit record is written. -/
  | sheetDurable
  /-- COMMIT_DURABLE (R285). The commit record is durable, the slot becomes current and CKPT completes OK. -/
  | commitDurable
  /-- CKPT_ABORT (R286). Command ending the open checkpoint without commit. -/
  | ckptAbort (fn sq : Nat) (d : Desc)
  /-- RESTORE (R289). Command restoring the device's state from a checkpoint image in maintenance state. -/
  | restore (fn sq : Nat) (d : Desc)
  /-- CAP (R298). CAP record received during training, answered with CAP_ACK. -/
  | cap (link : Nat) (rec : BitVec 256)
  /-- CAP_ACK (R298). CAP_ACK received, completing training with the agreed width. -/
  | capAck (link : Nat) (rec : BitVec 256)
  /-- CAP_SEND_TIMER (R298). Each training end sends a CAP every 10 µs. -/
  | capSendTimer (link : Nat)
  /-- TRAINING_TIMEOUT (R298). A training attempt not succeeded within 20 ms fails. -/
  | trainingTimeout (link : Nat)
  /-- LINK_RETRY_TIMER (R299). A DOWN link retries training after the retry interval. -/
  | linkRetryTimer (link : Nat)
  /-- SIGNAL_DETECT (R299). Signal on any wavelength of a DOWN link starts training. -/
  | signalDetect (link : Nat)
  /-- WAVELENGTH_LOSS (R299). A wavelength loses lock or passes its error threshold, narrowing or downing the link. -/
  | wavelengthLoss (link wave : Nat)
  /-- NARROWING_RETRAIN_DONE (R299). A narrowing retrain completes and the link runs at half width. -/
  | narrowingRetrainDone (link : Nat)
  /-- LINK_SILENCE (R299). No valid flit for the silence limit takes the link DOWN. -/
  | linkSilence (link : Nat)
  /-- LASER_SOURCE_FAIL (R299). A laser source fails, losing its wavelength on 12 links. -/
  | laserSourceFail (port wave : Nat)
  /-- FLIT_RECEIVE (R301). A flit arrives; ack, credits and data are taken, or it is discarded and a NAK sent. -/
  | flitReceive (link : Nat) (flit : BitVec 2048)
  /-- NAK_RECEIVE (R301). A NAK arrives and replay starts from the flit after ack. -/
  | nakReceive (link : Nat) (flit : BitVec 2048)
  /-- REPLAY_TIMER (R301). No ack advance within the replay timer starts replay; the limit downs the link. -/
  | replayTimer (link : Nat)
  /-- MESSAGE_RECEIVE (R304). A whole message is received, checked, decrypted and routed. -/
  | messageReceive (link : Nat) (hdr : BitVec 256) (body : List Byte) (abt : Bool) (t : Nat)
  /-- CUT_THROUGH_FORWARD (R317). A forwarder starts sending a message as its routing header arrives. -/
  | cutThroughForward (link : Nat) (hdr : BitVec 256) (body : List Byte) (abt : Bool) (t : Nat)
  /-- SPILL_DEPARTURE (R318). Spilled flits leave as credit appears; occupancy thresholds release back-pressure. -/
  | spillDeparture (link vc : Nat)
  /-- WFQ_START (R319). A free link VC starts the eligible head with the lowest finish tag. -/
  | wfqStart (link vc t : Nat)
  /-- TIME_GATE_ENTRY (R324). A time-gate schedule moves to its next entry, opening or closing VCs. -/
  | timeGateEntry (link t : Nat)
  /-- HELLO_TIMER (R316). Periodic sending of HELLO on each link to a session peer. -/
  | helloTimer (link : Nat)
  /-- HELLO (R316). HELLO received; the link is marked or cleared mismatched by digest. -/
  | hello (link : Nat) (hdr : BitVec 128)
  /-- POLICER_PROFILE_WRITE (R322). Write of a policer profile, refilling the meters that use it. -/
  | policerProfileWrite (o : Origin) (id sub : Nat) (v : List Byte)
  /-- SCHEDULE_WRITE (R323). Write of a time-gate schedule, validated. -/
  | scheduleWrite (o : Origin) (id : Nat) (v : List Byte)
  /-- MARK_CLEAR (R325). Write of 1 to a clear subindex setting high-water marks to 0. -/
  | markClear (o : Origin) (idx : Nat) (v : List Byte)
  /-- POOL_GRANT_REQ (R102). POOL GRANT_REQ asking a lender for an extent. -/
  | poolGrantReq (src part : Nat) (hdr : BitVec 256)
  /-- POOL_GRANT (R102). POOL GRANT answering an extent request. -/
  | poolGrant (src part : Nat) (hdr : BitVec 256)
  /-- POOL_RENEW (R102). POOL RENEW extending a pool lease. -/
  | poolRenew (src part : Nat) (hdr : BitVec 256)
  /-- POOL_WRITE (R102). POOL WRITE storing bytes in a lent extent. -/
  | poolWrite (src part : Nat) (hdr : BitVec 256) (data : List Byte) (crc : Nat)
  /-- POOL_READ (R102). POOL READ asking for bytes of a lent extent. -/
  | poolRead (src part : Nat) (hdr : BitVec 256)
  /-- POOL_DATA (R102). POOL DATA returning bytes of a lent extent. -/
  | poolData (src part : Nat) (hdr : BitVec 256) (data : List Byte) (crc : Nat)
  /-- POOL_ACK (R102). POOL ACK answering a write. -/
  | poolAck (src part : Nat) (hdr : BitVec 256)
  /-- POOL_FREE (R102). POOL FREE releasing an extent. -/
  | poolFree (src part : Nat) (hdr : BitVec 256)
  /-- POOL_RETRY_TIMER (R102). A borrower resends an unanswered POOL request after 1 ms. -/
  | poolRetryTimer (seq : Nat) (late : Bool)
  /-- SQ_TAIL_WRITE (R335). The tracker observes a host write to a watched tail word. -/
  | sqTailWrite (port fn id tail : Nat) (owned : Bool)
  /-- TAIL_SNOOP_DELAY (R335). After the snoop delay the tracker recalls a tail line held with ownership. -/
  | tailSnoopDelay (port fn id : Nat)
  /-- TAIL_POLL (R336). Periodic read of every SQ's host index in polled mode. -/
  | tailPoll (port fn id tail : Nat)
  /-- RING_HEAD_UPDATE (R338). A ring's host index advances and backlogged records are posted. -/
  | ringHeadUpdate (fn kind id head : Nat)
  /-- MSIX_TIMER (R339). The moderation time threshold expires and an MSI-X message is sent. -/
  | msixTimer (fn kind id : Nat)
  /-- FUNCTION_RESET (R340). FLR, VF disable, binding change or TDISP unlock resets a function. -/
  | functionReset (fn cause : Nat)
  /-- PERST (R432). Assertion of a port's PERST# contact. -/
  | perst (port : Nat)
  /-- PCIE_LINK_UP (R344). A port's link comes up and its host lease is granted. -/
  | pcieLinkUp (port lanes rate : Nat) (cxl : Bool)
  /-- PCIE_LINK_DOWN (R345). A port's link goes down; owned lines may be poisoned in start-up, test or restore. -/
  | pcieLinkDown (port : Nat)
  /-- HOST_LEASE_END (R345). A port's host lease ends: lines reclaimed or poisoned and extents lapse. -/
  | hostLeaseEnd (port : Nat)
  /-- CXL_MEM_ACCESS (R347). A CXL.mem read or write served through a window or answered outside every window. -/
  | cxlMemAccess (port hoff : Nat) (excl : Bool) (data : Option (List Byte)) (mask : Nat)
  /-- SNOOP_RESPONSE (R348). A host's answer to a back-invalidate snoop lets a waiting access proceed. -/
  | snoopResponse (port line : Nat) (data : Option (List Byte)) (keepShared : Bool)
  /-- DIRTY_WRITEBACK (R345). A dirty write-back arrives and is applied, or discarded as late. -/
  | dirtyWriteback (port line : Nat) (data : List Byte)
  /-- DMA_COMPLETION (R342). A completion to an SC2 DMA read arrives, failing the read when poisoned or unsuccessful. -/
  | dmaCompletion (fn id : Nat) (ok : Bool) (data : List Byte)
  /-- DMA_TIMEOUT (R342). A DMA read without completion for 50 ms fails. -/
  | dmaTimeout (fn id : Nat)
  /-- IDE_FAILURE (R352). An IDE stream's integrity check fails and the stream becomes insecure. -/
  | ideFailure (port stream fn : Nat)
  /-- IDE_KM (R352). IDE_KM installs stream keys over the DOE mailbox in a secured session. -/
  | ideKm (port stream sid : Nat) (install : Bool)
  /-- TDISP_MESSAGE (R353). A TDISP request moves a TDI between CONFIG_UNLOCKED, CONFIG_LOCKED, RUN and ERROR. -/
  | tdispMessage (fn code sid : Nat)
  /-- RING_CREATE (R332). Command creating a ring, starting at a restored count when one matches. -/
  | ringCreate (fn sq : Nat) (d : Desc)
  /-- RING_DELETE (R334). Command deleting a ring. -/
  | ringDelete (fn sq : Nat) (d : Desc)
  /-- RING0_CREATE (R331). Write of 1 to 0x1180.09 creating SQ 0 and CQ 0. -/
  | ring0Create (o : Origin) (v : List Byte)
  /-- RING0_DELETE (R331). Write of 0 to 0x1180.09 deleting SQ 0 and CQ 0. -/
  | ring0Delete (o : Origin) (v : List Byte)
  /-- RENEW (R344). Host port command extending the port's host lease. -/
  | renew (fn sq : Nat) (d : Desc)
  /-- REGION_CREATE (R349). Command creating a shared region. -/
  | regionCreate (fn sq : Nat) (d : Desc)
  /-- REGION_DELETE (R349). Command deleting a shared region. -/
  | regionDelete (fn sq : Nat) (d : Desc)
  /-- WINDOW_OPEN (R346). Command opening a CXL.mem window. -/
  | windowOpen (fn sq : Nat) (d : Desc)
  /-- WINDOW_CLOSE (R346). Command recalling a window's lines and removing it. -/
  | windowClose (fn sq : Nat) (d : Desc)
  /-- PUBLISH (R350). Command swapping a staging extent into a region under version compare-and-swap. -/
  | publish (fn sq : Nat) (d : Desc)
  /-- REGION_QUERY (R349). Command writing a region's publication record to host memory. -/
  | regionQuery (fn sq : Nat) (d : Desc)
  /-- BRIDGE_DOWN (R24). The bridge between halves goes down. -/
  | bridgeDown
  /-- BRIDGE_UP (R24). The bridge returns and waiting operations resume in order. -/
  | bridgeUp
  /-- DRBG_RESEED (R357). Per-second reseed of the DRBG, with health tests of the entropy source. -/
  | drbgReseed (ok : Bool)
  /-- GET_VERSION (R361). SPDM GET_VERSION request. -/
  | getVersion (via : Via) (sid : Option Nat) (msg : List Byte) (t : Nat)
  /-- GET_CAPABILITIES (R361). SPDM GET_CAPABILITIES request. -/
  | getCapabilities (via : Via) (sid : Option Nat) (msg : List Byte) (t : Nat)
  /-- NEGOTIATE_ALGORITHMS (R361). SPDM NEGOTIATE_ALGORITHMS request. -/
  | negotiateAlgorithms (via : Via) (sid : Option Nat) (msg : List Byte) (t : Nat)
  /-- GET_DIGESTS (R361). SPDM GET_DIGESTS request. -/
  | getDigests (via : Via) (sid : Option Nat) (msg : List Byte) (t : Nat)
  /-- GET_CERTIFICATE (R359). SPDM GET_CERTIFICATE request returning a slot's chain. -/
  | getCertificate (via : Via) (sid : Option Nat) (msg : List Byte) (t : Nat)
  /-- CHALLENGE (R361). SPDM CHALLENGE request signed with the Attestation key. -/
  | challenge (via : Via) (sid : Option Nat) (msg : List Byte) (t : Nat)
  /-- GET_MEASUREMENTS (R360). SPDM GET_MEASUREMENTS request returning measurement blocks. -/
  | getMeasurements (via : Via) (sid : Option Nat) (msg : List Byte) (t : Nat)
  /-- KEY_EXCHANGE (R363). SPDM KEY_EXCHANGE with mutual authentication deciding the session's principal. -/
  | keyExchange (via : Via) (sid : Option Nat) (msg : List Byte) (t : Nat)
  /-- FINISH (R361). SPDM FINISH completing a session handshake. -/
  | finish (via : Via) (sid : Option Nat) (msg : List Byte) (t : Nat)
  /-- HEARTBEAT (R362). SPDM HEARTBEAT keeping a session alive. -/
  | heartbeat (via : Via) (sid : Option Nat) (msg : List Byte) (t : Nat)
  /-- KEY_UPDATE (R361). SPDM KEY_UPDATE of session keys. -/
  | keyUpdate (via : Via) (sid : Option Nat) (msg : List Byte) (t : Nat)
  /-- END_SESSION (R362). SPDM END_SESSION ending a secured session. -/
  | endSession (via : Via) (sid : Option Nat) (msg : List Byte) (t : Nat)
  /-- SET_CERTIFICATE (R359). SPDM SET_CERTIFICATE installing the slot 1 chain in an operator session. -/
  | setCertificate (via : Via) (sid : Option Nat) (msg : List Byte) (t : Nat)
  /-- CHUNK_SEND (R361). SPDM CHUNK_SEND carrying a large request in chunks. -/
  | chunkSend (via : Via) (sid : Option Nat) (msg : List Byte) (t : Nat)
  /-- CHUNK_GET (R361). SPDM CHUNK_GET retrieving a large response in chunks. -/
  | chunkGet (via : Via) (sid : Option Nat) (msg : List Byte) (t : Nat)
  /-- GET_ENCAPSULATED_REQUEST (R363). SPDM GET_ENCAPSULATED_REQUEST for the responder's requests to the requester. -/
  | getEncapsulatedRequest (via : Via) (sid : Option Nat) (msg : List Byte) (t : Nat)
  /-- DELIVER_ENCAPSULATED_RESPONSE (R363). SPDM DELIVER_ENCAPSULATED_RESPONSE carrying the requester's certificate chain. -/
  | deliverEncapsulatedResponse (via : Via) (sid : Option Nat) (msg : List Byte) (t : Nat)
  /-- SPDM_SESSION_TIMEOUT (R362). A secured session receiving no message for 30 s ends. -/
  | spdmSessionTimeout (sid : Nat)
  /-- PARTITION_ENABLE (R364). Write of 1 enabling a partition and generating its memory key. -/
  | partitionEnable (o : Origin) (p : Nat) (v : List Byte)
  /-- PARTITION_DISABLE (R364). Write of 2 disabling a partition and destroying its keys. -/
  | partitionDisable (o : Origin) (p : Nat) (v : List Byte)
  /-- OWNER_KEY_WRITE (R364). Write of a partition's owner public key in an operator session. -/
  | ownerKeyWrite (o : Origin) (p : Nat) (v : List Byte)
  /-- FUNCTION_BINDING_WRITE (R365). Write binding a function to a partition, performing a function reset. -/
  | functionBindingWrite (o : Origin) (port sub : Nat) (v : List Byte)
  /-- LINK_KEY_WRITE (R370). Write installing or removing a partition's link key. -/
  | linkKeyWrite (o : Origin) (p : Nat) (v : List Byte)
  /-- KEY_EXPORT_REQUEST (R371). Write of a target import key producing a key package. -/
  | keyExportRequest (o : Origin) (p : Nat) (v : List Byte)
  /-- KEY_PACKAGE_IMPORT (R372). Write of a key package replacing a partition's memory key. -/
  | keyPackageImport (o : Origin) (p : Nat) (v : List Byte)
  /-- CONFIDENTIAL_MODE_WRITE (R374). Write turning confidential mode on or off in maintenance state. -/
  | confidentialModeWrite (o : Origin) (v : List Byte)
  /-- SAFELIGHT_UPDATE (R375). Once-per-second update of the per-partition Safelight aggregates. -/
  | safelightUpdate
  /-- READ (R383). Dictionary READ transaction returning value bytes and taking a snapshot at offset 0. -/
  | read (o : Origin) (pdu : BitVec 256) (t : Nat)
  /-- WRITE (R384). Dictionary WRITE segment staged and applied at LAST for entries without behaviour of their own. -/
  | write (o : Origin) (pdu : BitVec 256) (data : List Byte) (t : Nat)
  /-- DESCRIBE (R383). Dictionary DESCRIBE returning an entry's type, access and lengths. -/
  | describe (o : Origin) (pdu : BitVec 256) (t : Nat)
  /-- NEXT (R383). Dictionary NEXT returning the next existing entry and its description. -/
  | next (o : Origin) (pdu : BitVec 256) (t : Nat)
  /-- PEND_TIMER (R385). PEND responses every 100 ms until a transaction is final. -/
  | pendTimer (o : Origin)
  /-- SNAPSHOT_EXPIRY (R383). A read snapshot with no read for 10 s is discarded. -/
  | snapshotExpiry (o : Origin) (t : Nat)
  /-- STAGED_WRITE_EXPIRY (R384). A staged write with no segment for 10 s is discarded. -/
  | stagedWriteExpiry (o : Origin) (t : Nat)
  /-- MAILBOX_POLL (R386). Every 10 µs the host port island takes a mailbox with a new rseq. -/
  | mailboxPoll (fn : Nat) (mreq : BitVec 64) (req : List Byte)
  /-- FN_FRAME_RECEIVE (R390). A field network frame is received and checked. -/
  | fnFrameReceive (dst src ethertype : Nat) (hdr : BitVec 128) (payload : List Byte)
  /-- DICT_FRAME (R391). A DICT request frame, answered again when its fseq repeats. -/
  | dictFrame (src : Nat) (hdr : BitVec 128) (payload : List Byte)
  /-- EVENT_ACK (R396). EVENT_ACK acknowledging event records up to eseq. -/
  | eventAck (src : Nat) (hdr : BitVec 128)
  /-- SPDM_FRAME (R392). SPDM fragment frame assembled into a message. -/
  | spdmFrame (src : Nat) (hdr : BitVec 128) (payload : List Byte)
  /-- DISCOVER (R392). DISCOVER frame answered with ANNOUNCE within 1 ms. -/
  | discover (src : Nat) (hdr : BitVec 128)
  /-- FN_LINK_UP (R392). The field network link carries frames again and ANNOUNCE is sent. -/
  | fnLinkUp (plca : Bool)
  /-- EVENT_RESEND_TIMER (R396). Unacknowledged EVENT frames are sent again. -/
  | eventResendTimer
  /-- MAINTENANCE_ENTER (R397). Write of 1 to 0xF000.01 starting entry to maintenance state. -/
  | maintenanceEnter (o : Origin) (v : List Byte)
  /-- MAINTENANCE_LEAVE (R397). Write of 0 to 0xF000.01 leaving maintenance or cancelling entry. -/
  | maintenanceLeave (o : Origin) (v : List Byte)
  /-- MAINTENANCE_REACHED (R397). No lane has a step in flight and maintenance state is reached. -/
  | maintenanceReached
  /-- MAINTENANCE_ENTRY_LATE (R397). Entry not complete after the entry report time. -/
  | maintenanceEntryLate
  /-- TIME_MAP_SAMPLE (R404). Write of a host time sample to a port's time map. -/
  | timeMapSample (o : Origin) (port : Nat) (v : List Byte) (t : Nat)
  /-- TIME_MAP_EMPTY (R404). Write of 1 to 0x9020+p.07 emptying the map. -/
  | timeMapEmpty (o : Origin) (port : Nat) (v : List Byte)
  /-- TIME_MAP_INVALID (R406). A time map becomes invalid as its last sample ages past the validity limit. -/
  | timeMapInvalid (port half : Nat)
  /-- CALENDAR_SET (R407). Write setting the device calendar by step or slew. -/
  | calendarSet (o : Origin) (v : List Byte)
  /-- CALENDAR_DISTRIBUTE (R409). Once-per-millisecond sending of the calendar to every island. -/
  | calendarDistribute
  /-- CALENDAR_FREE_RUN (R409). An island receiving no calendar for 10 ms marks its copy free-running. -/
  | calendarFreeRun (half : Nat)
  /-- CALENDAR_PERSIST (R410). The always-on island writes the calendar to eMRAM every 1,000 ms. -/
  | calendarPersist
  /-- LIFETIME_UPDATE (R411). Once-per-second update of lifetime and stress counters. -/
  | lifetimeUpdate (temps : List Int)
  /-- LIFETIME_PERSIST (R411). Lifetime counters written to eMRAM every 600 s. -/
  | lifetimePersist
  /-- REPLAN_PERIOD (R413). Periodic re-plan of every island's voltage. -/
  | replanPeriod
  /-- REPLAN_NOW (R413). Write of 1 to 0x9040.02 re-planning at once. -/
  | replanNow (o : Origin) (v : List Byte)
  /-- MARGIN_CURVE_WRITE (R412). Write of a kind's margin curve or envelope, starting a re-plan of that kind. -/
  | marginCurveWrite (o : Origin) (kind sub : Nat) (v : List Byte)
  /-- SLACK_READ (R414). Once-per-second slack read; slack below floor may apply a stage at once. -/
  | slackRead (island slack ring : Nat)
  /-- PLAN_APPROVE (R415). Write to an island's subindex 0x09 approving or rejecting a proposed plan. -/
  | planApprove (o : Origin) (island : Nat) (v : List Byte)
  /-- LEASE_RENEW_REQUEST (R416). Each half's scheduler asks the root-of-trust for renewal every 2.5 ms. -/
  | leaseRenewRequest (half t : Nat)
  /-- LEASE_GRANT (R416). A grant arrives at a half, extending its lease and setting lead duties. -/
  | leaseGrant (half epoch : Nat) (lead : Bool) (t : Nat)
  /-- HALF_LEASE_END (R419). A half's lease ends and it enters HOLD. -/
  | halfLeaseEnd (half : Nat)
  /-- ROT_GRANT_END (R417). A grant ends in the root-of-trust's view and lead may pass. -/
  | rotGrantEnd (half : Nat)
  /-- LEAD_MOVE_WRITE (R417). Write to 0x9000.06 moving lead to the named half. -/
  | leadMoveWrite (o : Origin) (v : List Byte)
  /-- LEAD_MESSAGE (R418). A lead-duty message between halves compared by epoch. -/
  | leadMessage (half epoch : Nat)
  /-- REFCLK_LOSS (R425). Loss of the reference clock: PLLs hold over and both halves act as in HOLD. -/
  | refclkLoss
  /-- REFCLK_RETURN (R425). Refclk present for 10 ms: PLLs relock and the hold ends. -/
  | refclkReturn
  /-- POWER_ON (R424). 48 V rises above threshold and the start-up sequence runs. -/
  | powerOn (straps : Nat) (refclk : Bool)
  /-- STARTUP_END (R426). Start-up ends and the device mode leaves STARTING. -/
  | startupEnd
  /-- WARM_RESET (R423). Write of 0x01 to 0xF001.01 making a warm reset. -/
  | warmReset (o : Origin) (v : List Byte)
  /-- HALF_RESET (R433). Write of 0x02 or 0x03 to 0xF001.01 resetting one half. -/
  | halfReset (o : Origin) (v : List Byte)
  /-- HALF_STARTUP_END (R433). A half start-up completes. -/
  | halfStartupEnd (half : Nat)
  /-- HEARTBEAT_MISS (R434). A control core misses heartbeats for 1 s and its half is denied leases. -/
  | heartbeatMiss (half : Nat)
  /-- STARTUP_READY_TIMEOUT (R438). Control cores not ready 5 s after the ROM started; slot failed and warm reset onto the next. -/
  | startupReadyTimeout
  /-- TEST_MODE_ENTER (R426). Write of 2 to 0xF000.08 entering TEST mode. -/
  | testModeEnter (o : Origin) (v : List Byte)
  /-- TEST_MODE_LEAVE (R426). Write of 1 to 0xF000.08 leaving TEST mode. -/
  | testModeLeave (o : Origin) (v : List Byte)
  /-- RAISE_FLOORS (R440). Write of 1 to 0xF002.0C setting security version floors. -/
  | raiseFloors (o : Origin) (v : List Byte)
  /-- ALERT_RELEASE (R447). Write of 1 to 0xF000.0A releasing ALERT_N for dropped records. -/
  | alertRelease (o : Origin) (v : List Byte)
  /-- SERVICE_BEGIN (R443). Service frame BEGIN opening a firmware delivery to a slot. -/
  | serviceBegin (frame : List Byte)
  /-- SERVICE_DATA (R443). Service frame DATA writing bundle bytes at an offset. -/
  | serviceData (frame : List Byte)
  /-- SERVICE_END (R443). Service frame END checking the bundle and making the slot TRIAL. -/
  | serviceEnd (frame : List Byte)
  /-- SERVICE_ABORT (R439). Service frame ABORT emptying the slot being written. -/
  | serviceAbort (frame : List Byte)
  /-- SERVICE_ACTIVATE (R443). Service frame ACTIVATE making a warm reset when permitted. -/
  | serviceActivate (frame : List Byte)
  /-- DELIVERY_TIMEOUT (R439). A delivery with no frame for 10 s ends with the slot EMPTY. -/
  | deliveryTimeout
  /-- SERVICE_STATUS_READ (R442). I3C private read returning the service status record. -/
  | serviceStatusRead
  /-- I3C_CCC (R441). An I3C common command code addressed to the service port target. -/
  | i3cCcc (ccc : Nat) (data : List Byte)
  /-- FEED_UNDERVOLTAGE (R452). The 48 V feed falls below 37 V and every rail falls. -/
  | feedUndervoltage (mv : Nat)
  /-- FEED_OVERVOLTAGE (R452). The feed exceeds 57 V for 1 ms and the device shuts down. -/
  | feedOvervoltage
  /-- POWER_SAMPLE (R454). Every 100 µs input power is sampled and pacing stepped against the power limit. -/
  | powerSample (watts feedMv : Nat)
  /-- THERMAL_SAMPLE (R455). Every 100 µs each island's hottest sensor is read and thermal pacing or shutdown applied. -/
  | thermalSample (temps : List Int)
  /-- PERST_DEASSERT (R432). Deassertion of a port's PERST# contact, after which the port starts training within 20 ms. -/
  | perstDeassert (port : Nat)
  /-- FN_LINK_DOWN (R396). The field network link goes down, so events queue in the backlog, 0x1000.06 reads 0 and SPDM sessions over it end. -/
  | fnLinkDown
  /-- RESTORE_COMPLETE (R289). The restore finishes loading and building its state, clears the restore mark and completes OK, or stops at its first failure. -/
  | restoreComplete
  /-- MAP_CHECK_DONE (R397). The fabric map check finishes, moving the maintenance state from LEAVING to SERVICE, releasing lanes and starting restored round timers. -/
  | mapCheckDone
  /-- LEAD_DROP_ACK (R417). The present lead acknowledges its grant without the lead flag, or 10.1 ms pass without the acknowledgement, and the root-of-trust grants lead to the named half. -/
  | leadDropAck
  /-- DAILY_COUNT_REPORT (R88). Every 10 ms each half reports its daily T2 and corrected-failure counts to the lead half, which sums them. -/
  | dailyCountReport (half : Nat)
  /-- STACK_ANSWERS_AGAIN (R76). A LOST Lysing stack answers again, which is counted and leaves the stack unused until it is excluded and admitted. -/
  | stackAnswersAgain (half stack : Nat)
  /-- MSIX_VECTOR_UNMASK (R339). A write to the MSI-X table in BAR0 unmasks a vector whose pending bit is set, and the pending message is sent under the PCI Express rules. -/
  | msixVectorUnmask (fn vector : Nat)
  /-- POOL_LEASE_RENEWAL (R102). The borrower of a pool extent sends its periodic lease renewal to the lender. -/
  | poolLeaseRenewal (part holder ext : Nat)
deriving DecidableEq, Repr

end Sys2Proof
end

