-- ==== Sys2Proof/Decode.lean ====
section
/-!
DEFINITION. The command a table word spells: the rows of the opcode table give no bits (they are commands and events, not
words), so no word spells one.
-/

namespace Sys2Proof

/-- The command that a word of `nbits` bits spells: none, since no row of the table has an encoding. -/
def decodeTableWord (_nbits _w : Nat) : Option Instr := none

end Sys2Proof
end

