-- ==== Sys2Proof/Config.lean ====
section
/-!
DEFINITION. What the spec leaves to one device or does not publish: constants without a body, so that no proof can
see their values. Every use names the assumption log's entry.
-/

namespace Sys2Proof.Config

/-- The coefficients of built-in curve `id` (R164 gives their accuracy and some values, not their bits): FP32 bits of
coefficient `i`, segment-major. Log 5. -/
opaque curveCoef (id i : Nat) : BitVec 32

/-- Byte `i` of built-in known-answer pattern 0, its header included (R267 does not publish it). Log 6. -/
opaque patternByte (i : Nat) : BitVec 8

/-- The `n`-th 128-bit value drawn from the DRBG (R357). Log 7. -/
opaque drbg (n : Nat) : BitVec 128

/-- Character `i` of the serial number (Table 18-11), 0 to 35 for A to Z and 0 to 9. Log 8. -/
opaque serialChar (i : Nat) : Fin 36

/-- Byte `i` of key material or certificate `kind` of this device (ch 17). Log 9. -/
opaque secretByte (kind i : Nat) : BitVec 8

/-- The outcome bytes of cryptographic primitive `op` over its inputs (ch 17): digests, tags, signatures. Log 9. -/
opaque crypto (op : Nat) (key data : List (BitVec 8)) : List (BitVec 8)

/-- Does the signature or chain check `op` over these bytes pass? (ch 17, ch 20) Log 9. -/
opaque cryptoOk (op : Nat) (key data : List (BitVec 8)) : Bool

/-- Fused values of island kinds (Table 19-7): factory envelope and voltages, in mV. Log 10. -/
opaque fused (what k : Nat) : Nat

/-- Byte `i` of the factory margin curve of island kind `k`. Log 10. -/
opaque factoryCurveByte (k i : Nat) : BitVec 8

/-- The bits of a floating-point result (0 a sum, 1 a BF16 sum, 2 a product, 3 a quotient) for operand bits of which one
is not finite, or whose rounded result passes the format's largest finite magnitude, where the spec states none: R7
gives the rounding and no rule beyond the format. Log 11. -/
opaque outside (op a b : Nat) : BitVec 32

/-- Which status of Table 0-5, in its order after OK, the completion of a descriptor has that ends as its message's DISABLED does (R219,
R230, R233), for which the table has no code of its own. Log 12. -/
opaque openStatus (k : Nat) : BitVec 16

/-- What a sensor of the device reads that no command of the model carries: `what` and unit `k` at island time `t` (0x4020 + k,
subindices 0x05 and 0x06). Log 13. -/
opaque measured (what k t : Nat) : BitVec 32

/-- Byte `i` that the service port answers to an I3C common command code `what` where Table 20-8 names the command and not its
value (GETPID, GETBCR, GETDCR, GETSTATUS). Log 55. -/
opaque i3cByte (what i : Nat) : BitVec 8

/-- The code lengths, symbol by symbol, that the device's encoder chooses for a block of elements of format `fmt`: R91 lets an encoder
choose any valid table. Log 89. -/
opaque codeLengths (fmt : Nat) (block : List (BitVec 8)) : List Nat

/-- The session's handle at an owner that the home learns of from a RENEW in the frozen time, which carries none (R121, R128), by owner and
epoch. Log 91. -/
opaque remoteHandle (owner epoch : Nat) : BitVec 64

/-- What the transfer of R129 brings of a request that the source attached during a device move, which no message of the spec carries: the
bits of its descriptor, by source endpoint, handle there and 64-bit word. Log 39. -/
opaque movedDesc (source handle word : Nat) : BitVec 64

/-- The prompt bytes of such a request. Log 39. -/
opaque movedInput (source handle : Nat) : List (BitVec 8)

end Sys2Proof.Config
end

