-- ==== Sys2Proof/Machine/Bits.lean ====
section
/-!
DEFINITION. Bit fields, little-endian bytes, parity, check values, sparse tables and byte memories: the plain
helpers every chapter uses.
-/

namespace Sys2Proof.Machine

/-- The two halves, West then East. -/
structure Two (α : Type) where
  w : α
  e : α
deriving DecidableEq, Repr

/-- The value of half `h`: 0 is West, anything else East. -/
def Two.get {α : Type} (t : Two α) (h : Nat) : α := if h = 0 then t.w else t.e

/-- `t` with half `h` holding `v`. -/
def Two.set {α : Type} (t : Two α) (h : Nat) (v : α) : Two α :=
  if h = 0 then { t with w := v } else { t with e := v }

/-- `t` with half `h` changed by `f`. -/
def Two.upd {α : Type} (t : Two α) (h : Nat) (f : α → α) : Two α := t.set h (f (t.get h))

/-- Both halves changed by `f`. -/
def Two.map {α β : Type} (f : α → β) (t : Two α) : Two β := { w := f t.w, e := f t.e }

/-- The other half. -/
def otherHalf (h : Nat) : Nat := if h = 0 then 1 else 0

/-- A sparse table: key and value pairs, keys strictly rising. -/
abbrev Tab (α : Type) := List (Nat × α)

/-- The entry of key `k`. -/
def Tab.get? {α : Type} : Tab α → Nat → Option α
  | [], _ => none
  | (k', v) :: t, k => if k' = k then some v else Tab.get? t k

/-- The entry of key `k`, or `d`. -/
def Tab.getD {α : Type} (t : Tab α) (k : Nat) (d : α) : α := (t.get? k).getD d

/-- Is key `k` listed? -/
def Tab.has {α : Type} (t : Tab α) (k : Nat) : Bool := (t.get? k).isSome

/-- `t` with `v` at key `k`, in order. -/
def Tab.put {α : Type} : Tab α → Nat → α → Tab α
  | [], k, v => [(k, v)]
  | (k', v') :: t, k, v =>
    if k < k' then (k, v) :: (k', v') :: t
    else if k = k' then (k, v) :: t
    else (k', v') :: Tab.put t k v

/-- `t` without key `k`. -/
def Tab.del {α : Type} (t : Tab α) (k : Nat) : Tab α := t.filter (fun p => p.1 != k)

/-- The listed entry of `k` changed by `f`; nothing where `k` is not listed. -/
def Tab.upd {α : Type} (t : Tab α) (k : Nat) (f : α → α) : Tab α :=
  t.map (fun p => if p.1 = k then (p.1, f p.2) else p)

/-- The entries, without their keys. -/
def Tab.vals {α : Type} (t : Tab α) : List α := t.map Prod.snd

/-- The entries satisfying `p`. -/
def Tab.keep {α : Type} (t : Tab α) (p : Nat → α → Bool) : Tab α := t.filter (fun kv => p kv.1 kv.2)

/-- Every value changed by `f`. -/
def Tab.mapV {α β : Type} (t : Tab α) (f : Nat → α → β) : Tab β := t.map (fun p => (p.1, f p.1 p.2))

/-- The table's keys rise strictly. -/
def Tab.wf {α : Type} : Tab α → Bool
  | [] => true
  | [_] => true
  | (k, _) :: (k', v') :: t => decide (k < k') && Tab.wf ((k', v') :: t)

/-- The smallest number from `n` on that is not a key satisfying `busy`, the keys rising. -/
def Tab.firstFree {α : Type} (busy : α → Bool) : Tab α → Nat → Nat
  | [], n => n
  | (k, v) :: t, n =>
    if k < n then Tab.firstFree busy t n
    else if k = n then (if busy v then Tab.firstFree busy t (n + 1) else n)
    else n

/-- Bits `[hi:lo]` of a number (R9). -/
def bitsN (n hi lo : Nat) : Nat := (n >>> lo) % 2 ^ (hi + 1 - lo)

/-- Bits `[hi:lo]` of a word. -/
def bits {w : Nat} (d : BitVec w) (hi lo : Nat) : Nat := bitsN d.toNat hi lo

/-- Bit `i` of a number. -/
def bitN (n i : Nat) : Bool := n.testBit i

/-- Bit `i` of a word. -/
def bit {w : Nat} (d : BitVec w) (i : Nat) : Bool := d.toNat.testBit i

/-- 1 for true, 0 for false. -/
def b2n (b : Bool) : Nat := if b then 1 else 0

/-- Are all bits `[hi:lo]` zero? (R11) -/
def zeroBits {w : Nat} (d : BitVec w) (hi lo : Nat) : Bool := bits d hi lo == 0

/-- The number of set bits among the lowest `k` bits of `n`. -/
def popCount : Nat → Nat → Nat
  | 0, _ => 0
  | k + 1, n => n % 2 + popCount k (n / 2)

/-- Even parity of the 64-bit word `n`: 1 when it has an odd number of set bits. -/
def parity64 (n : Nat) : Nat := popCount 64 n % 2

/-- The par value over the `words` 64-bit words of `n`: bit i is the parity of word i (R465). -/
def parOf : Nat → Nat → Nat
  | 0, _ => 0
  | k + 1, n => parity64 (n % 2 ^ 64) + 2 * parOf k (n / 2 ^ 64)

/-- `n` with bits `[hi:lo]` replaced by `v`. -/
def setBits (n hi lo v : Nat) : Nat :=
  n - (bitsN n hi lo) * 2 ^ lo + (v % 2 ^ (hi + 1 - lo)) * 2 ^ lo

/-- Does the par field `[hi:lo]` of the structure `n` of `words` words agree with it, computed with par taken as zero? -/
def parOk (n words hi lo : Nat) : Bool := bitsN n hi lo == parOf words (setBits n hi lo 0)

/-- The structure `n` with its par field filled in. -/
def withPar (n words hi lo : Nat) : Nat := setBits n hi lo (parOf words (setBits n hi lo 0))

/-- The little-endian number of a byte list (R10). -/
def leNat : List Byte → Nat
  | [] => 0
  | b :: t => b.toNat + 256 * leNat t

/-- `n` as `k` little-endian bytes. -/
def leBytes : Nat → Nat → List Byte
  | 0, _ => []
  | k + 1, n => BitVec.ofNat 8 n :: leBytes k (n / 256)

/-- The `k` bytes of `b` from offset `off`. -/
def slice (b : List Byte) (off k : Nat) : List Byte := (b.drop off).take k

/-- The little-endian number of `k` bytes of `b` at `off`. -/
def leAt (b : List Byte) (off k : Nat) : Nat := leNat (slice b off k)

/-- The big-endian number of a byte list (R10: network byte order). -/
def beNat (b : List Byte) : Nat := leNat b.reverse

/-- `n` as a two's complement number of `w` bits. -/
def sext (w n : Nat) : Int := if n % 2 ^ w < 2 ^ (w - 1) then ((n % 2 ^ w : Nat) : Int) else ((n % 2 ^ w : Nat) : Int) - (2 ^ w : Nat)

/-- An integer as a `w`-bit two's complement number. -/
def toW (w : Nat) (i : Int) : Nat := (i % ((2 ^ w : Nat) : Int)).toNat

/-- `⌈a / b⌉`. -/
def cdiv (a b : Nat) : Nat := (a + b - 1) / b

/-- `a / b` rounded to nearest, ties to even (R7). -/
def rneDiv (a b : Nat) : Nat :=
  let q := a / b
  let r := a % b
  if 2 * r < b then q else if b < 2 * r then q + 1 else if q % 2 = 0 then q else q + 1

/-- One reflected CRC bit step with the reflected polynomial `p`. -/
def crcBit (p c : Nat) : Nat := if c % 2 = 1 then (c >>> 1) ^^^ p else c >>> 1

/-- The register after one more byte. -/
def crcByte (p : Nat) (c : Nat) (b : Byte) : Nat :=
  let x := c ^^^ b.toNat
  crcBit p (crcBit p (crcBit p (crcBit p (crcBit p (crcBit p (crcBit p (crcBit p x)))))))

/-- CRC-32C of R254: polynomial 0x1EDC_6F41 reflected is 0x82F6_3B78. -/
def crc32c (b : List Byte) : Nat := (b.foldl (crcByte 0x82F63B78) 0xFFFFFFFF) ^^^ 0xFFFFFFFF

/-- The poison syndrome (R258). -/
def poisonSyndrome : Nat := 0x50D150D1

/-- The outcome of a verification (R258). -/
inductive Check
  | good
  | poisoned
  | failed
deriving DecidableEq, Repr

/-- The three outcomes of verifying bytes against a stored check value (R258). -/
def verify (b : List Byte) (cv : Nat) : Check :=
  if crc32c b = cv then .good
  else if crc32c b ^^^ poisonSyndrome = cv then .poisoned
  else .failed

/-- A check value status combined over two blocks read together: a failure wins, then poison. -/
def Check.join : Check → Check → Check
  | .failed, _ => .failed
  | _, .failed => .failed
  | .poisoned, _ => .poisoned
  | _, .poisoned => .poisoned
  | .good, .good => .good

/-- Byte memory: address and byte pairs, addresses strictly rising, no listed byte zero. -/
abbrev Mem := List Host.Cell

/-- What an unlisted byte reads as: 0, since MAP zero-fills every granule (R104). -/
def Mem.blank : Byte := 0#8

/-- The byte at address `a`. -/
def Mem.read (m : Mem) (a : Nat) : Byte := (Tab.get? m a).getD Mem.blank

/-- `m` with byte `v` at `a`, kept canonical: a blank byte is not listed. -/
def Mem.write (m : Mem) (a : Nat) (v : Byte) : Mem :=
  if v = Mem.blank then Tab.del m a else Tab.put m a v

/-- `k` bytes from `a`. -/
def Mem.readN (m : Mem) (a : Nat) : Nat → List Byte
  | 0 => []
  | k + 1 => m.read a :: Mem.readN m (a + 1) k

/-- The bytes `b` written from `a` on. -/
def Mem.writeN (m : Mem) (a : Nat) : List Byte → Mem
  | [] => m
  | v :: t => Mem.writeN (m.write a v) (a + 1) t

/-- Bytes `[a, a + k)` blanked. -/
def Mem.clear (m : Mem) (a k : Nat) : Mem := m.filter (fun c => c.1 < a || a + k ≤ c.1)

/-- The canonical form: addresses strictly rising and no blank byte listed. -/
def Mem.wf (m : Mem) : Bool := Tab.wf m && m.all (fun c => c.2 != Mem.blank)

/-- The index of the first element satisfying `p`. -/
def findIdx0 {α : Type} (p : α → Bool) (l : List α) : Option Nat := l.findIdx? p

/-- Element `i` of a list, or `d`. -/
def nth {α : Type} (l : List α) (i : Nat) (d : α) : α := (l[i]?).getD d

/-- The ASCII bytes of a string. -/
def ascii (s : String) : List Byte := s.toList.map (fun c => BitVec.ofNat 8 c.toNat)

end Sys2Proof.Machine
end

