-- ==== Sys2Proof/Machine/Fp.lean ====
section
/-!
DEFINITION. Floating point by exact arithmetic: the formats of Table 3-2 and FP32, rounding to nearest even with
saturation (R7, R154, R159), sums and products, the pairwise tree (R158), and the correctly rounded cosine, sine,
exponential and hyperbolic tangent (R157, R165). A value is its bits as a number.
-/

namespace Sys2Proof.Machine

/-- A binary format: significand bits, the exponent of the least subnormal bit, the bits of the largest finite
magnitude, and the position of the sign. -/
structure Fmt where
  p : Nat
  emin : Int
  maxBits : Nat
  sgn : Nat
deriving DecidableEq, Repr

/-- IEEE binary32. -/
def fp32 : Fmt := { p := 24, emin := -149, maxBits := 0x7F7FFFFF, sgn := 31 }
/-- BF16: the high half of binary32 (R153). -/
def bf16 : Fmt := { p := 8, emin := -133, maxBits := 0x7F7F, sgn := 15 }
/-- IEEE binary16. -/
def fp16 : Fmt := { p := 11, emin := -24, maxBits := 0x7BFF, sgn := 15 }
/-- FP8 E4M3 (Table 7-2). -/
def e4m3 : Fmt := { p := 4, emin := -9, maxBits := 0x7E, sgn := 7 }
/-- FP8 E5M2 (Table 7-2). -/
def e5m2 : Fmt := { p := 3, emin := -16, maxBits := 0x7B, sgn := 7 }

/-- A finite value: sign, and magnitude `m · 2^e`. -/
structure Dya where
  neg : Bool
  m : Nat
  e : Int
deriving DecidableEq, Repr

/-- The value of a format's finite bits. -/
def Fmt.dec (f : Fmt) (b : Nat) : Dya :=
  let mag := b % 2 ^ f.sgn
  let fld := mag >>> (f.p - 1)
  let fr := mag % 2 ^ (f.p - 1)
  { neg := b.testBit f.sgn
    m := if fld = 0 then fr else fr + 2 ^ (f.p - 1)
    e := if fld = 0 then f.emin else f.emin + (fld : Int) - 1 }

/-- Shift by a signed amount, as numerator and denominator factors. -/
def pow2n (e : Int) : Nat := 2 ^ e.toNat

/-- The floor of the base-2 logarithm of the positive rational `num / den`. -/
def flog2 (num den : Nat) : Int :=
  let t : Int := (num.log2 : Int) - (den.log2 : Int)
  if num * pow2n (-t) < den * pow2n t then t - 1 else t

/-- The magnitude bits of the positive rational `num / den` in `f`, rounded to nearest even, before saturation. -/
def Fmt.encMag (f : Fmt) (num den : Nat) : Nat :=
  if num = 0 then 0 else
    let e := max (flog2 num den - ((f.p : Int) - 1)) f.emin
    let q := rneDiv (num * pow2n (-e)) (den * pow2n e)
    (e - f.emin).toNat * 2 ^ (f.p - 1) + q

/-- A signed rational in `f`, rounded to nearest even and saturated (R154, R159). -/
def Fmt.enc (f : Fmt) (neg : Bool) (num den : Nat) : Nat :=
  min (f.encMag num den) f.maxBits + (if neg then 2 ^ f.sgn else 0)

/-- Would rounding `num / den` pass the largest finite magnitude? -/
def Fmt.over (f : Fmt) (num den : Nat) : Bool := decide (f.maxBits < f.encMag num den)

/-- A dyadic value in `f`. -/
def Fmt.ofDya (f : Fmt) (d : Dya) : Nat := f.enc d.neg (d.m * pow2n d.e) (pow2n (-d.e))

/-- A result with the number of replacements by the largest finite magnitude that went into it (R159). -/
structure Fv where
  v : Nat
  s : Nat
deriving DecidableEq, Repr

/-- rnd of a signed rational: FP32 bits, and 1 when the magnitude had to be replaced. -/
def rndRat (neg : Bool) (num den : Nat) : Fv :=
  { v := fp32.enc neg num den, s := b2n (fp32.over num den) }

/-- The exact sum of two dyadic values; a zero sum is +0 unless both are negative. -/
def Dya.add (a b : Dya) : Dya :=
  let e := min a.e b.e
  let x : Int := (if a.neg then -1 else 1) * ((a.m * pow2n (a.e - e) : Nat) : Int)
  let y : Int := (if b.neg then -1 else 1) * ((b.m * pow2n (b.e - e) : Nat) : Int)
  let z := x + y
  { neg := if z = 0 then a.neg && b.neg else decide (z < 0), m := z.natAbs, e := e }

/-- The exact product. -/
def Dya.mul (a b : Dya) : Dya := { neg := xor a.neg b.neg, m := a.m * b.m, e := a.e + b.e }

/-- rnd of a dyadic value. -/
def rndDya (d : Dya) : Fv := rndRat d.neg (d.m * pow2n d.e) (pow2n (-d.e))

/-- FP32 sum under R7 and R159. -/
def fadd' (a b : Nat) : Fv := rndDya ((fp32.dec a).add (fp32.dec b))
/-- FP32 product under R7 and R159. -/
def fmul' (a b : Nat) : Fv := rndDya ((fp32.dec a).mul (fp32.dec b))
/-- The bits of an FP32 sum. -/
def fadd (a b : Nat) : Nat := (fadd' a b).v
/-- The bits of an FP32 product. -/
def fmul (a b : Nat) : Nat := (fmul' a b).v
/-- An FP32 value with its sign changed. -/
def fneg (a : Nat) : Nat := a ^^^ 2 ^ 31
/-- FP32 difference. -/
def fsub (a b : Nat) : Nat := fadd a (fneg b)
/-- FP32 quotient of two finite values, the divisor not zero. -/
def fdiv' (a b : Nat) : Fv :=
  let x := fp32.dec a
  let y := fp32.dec b
  rndRat (xor x.neg y.neg) (x.m * pow2n (x.e - y.e)) (y.m * pow2n (y.e - x.e))
/-- The bits of an FP32 quotient. -/
def fdiv (a b : Nat) : Nat := (fdiv' a b).v
/-- The magnitude of an FP32 value. -/
def fabs (a : Nat) : Nat := a % 2 ^ 31
/-- A natural number in FP32. -/
def fofNat (n : Nat) : Nat := fp32.enc false n 1
/-- An integer in FP32. -/
def fofInt (i : Int) : Nat := fp32.enc (decide (i < 0)) i.natAbs 1

/-- An FP32 sum where the spec states no saturation (R103): free outside the format (log 11). -/
def oadd (a b : Nat) : Nat :=
  let d := (fp32.dec a).add (fp32.dec b)
  if bitsN a 30 23 = 255 ∨ bitsN b 30 23 = 255 ∨ fp32.over (d.m * pow2n d.e) (pow2n (-d.e)) then (Config.outside 0 a b).toNat
  else fadd a b
/-- The exact sum of a BF16 value and an FP32 operand, rounded once to BF16 (R103, R229): free outside the format. -/
def oaddBf (a b : Nat) : Nat :=
  let d := (bf16.dec a).add (fp32.dec b)
  if bitsN a 14 7 = 255 ∨ bitsN b 30 23 = 255 ∨ bf16.over (d.m * pow2n d.e) (pow2n (-d.e)) then (Config.outside 1 a b).toNat % 65536
  else bf16.ofDya d
/-- An FP32 product where the spec states no saturation. -/
def omul (a b : Nat) : Nat :=
  let d := (fp32.dec a).mul (fp32.dec b)
  if bitsN a 30 23 = 255 ∨ bitsN b 30 23 = 255 ∨ fp32.over (d.m * pow2n d.e) (pow2n (-d.e)) then (Config.outside 2 a b).toNat
  else fmul a b
/-- An FP32 quotient where the spec states no saturation. -/
def odiv (a b : Nat) : Nat :=
  let x := fp32.dec a
  let y := fp32.dec b
  if bitsN a 30 23 = 255 ∨ bitsN b 30 23 = 255 ∨ y.m = 0 ∨ fp32.over (x.m * pow2n (x.e - y.e)) (y.m * pow2n (y.e - x.e)) then
    (Config.outside 3 a b).toNat
  else fdiv a b
/-- An FP32 difference where the spec states no saturation. -/
def osub (a b : Nat) : Nat := oadd a (fneg b)

/-- Order of FP32 values as reals: -0 and +0 are equal. -/
def flt (a b : Nat) : Bool :=
  let x := fp32.dec a
  let y := fp32.dec b
  let e := min x.e y.e
  let m : Int := (if x.neg then -1 else 1) * ((x.m * pow2n (x.e - e) : Nat) : Int)
  let n : Int := (if y.neg then -1 else 1) * ((y.m * pow2n (y.e - e) : Nat) : Int)
  decide (m < n)
/-- FP32 at most. -/
def fle (a b : Nat) : Bool := !flt b a
/-- The larger of two FP32 values, the first where they are equal. -/
def fmax (a b : Nat) : Nat := if flt a b then b else a

/-- Is an FP32 value finite? -/
def ffinite (a : Nat) : Bool := bitsN a 30 23 != 255
/-- Is a BF16 (code 0) or FP16 (code 1) value finite? -/
def inFinite (fmt a : Nat) : Bool := if fmt = 0 then bitsN a 14 7 != 255 else bitsN a 14 10 != 31

/-- Bytes per element of a KV format (Table 3-2). -/
def fmtBytes (fmt : Nat) : Nat := if fmt ≤ 1 then 2 else 1

/-- FP32 bits of a 16-bit value, exactly: BF16 is code 0, FP16 otherwise. -/
def dec16 (fmt b : Nat) : Nat := if fmt = 0 then b * 65536 else fp32.ofDya (fp16.dec b)

/-- Is a stored code a NaN or an infinity of its format? (R153) -/
def oddCode (fmt b : Nat) : Bool :=
  if fmt = 0 then bitsN b 14 7 == 255
  else if fmt = 1 then bitsN b 14 10 == 31
  else if fmt = 2 then bitsN b 6 0 == 127
  else if fmt = 3 then decide (0x7C ≤ bitsN b 6 0)
  else false

/-- A stored element decoded to FP32 bits (R153): a NaN reads +0.0, an infinity the largest finite value with its
sign. `tab` is the decode table of code 4, as BF16 values. -/
def decodeElem (fmt : Nat) (tab : List Nat) (b : Nat) : Nat :=
  if fmt = 0 then
    if bitsN b 14 7 = 255 then (if bitsN b 6 0 = 0 then bitsN b 15 15 * 2 ^ 31 + 0x7F7F0000 else 0) else b * 65536
  else if fmt = 1 then
    if bitsN b 14 10 = 31 then
      (if bitsN b 9 0 = 0 then fp32.ofDya (fp16.dec (bitsN b 15 15 * 2 ^ 15 + 0x7BFF)) else 0)
    else fp32.ofDya (fp16.dec b)
  else if fmt = 2 then
    if bitsN b 6 0 = 127 then 0 else fp32.ofDya (e4m3.dec b)
  else if fmt = 3 then
    if bitsN b 6 0 = 0x7C then fp32.ofDya (e5m2.dec (bitsN b 7 7 * 128 + 0x7B))
    else if 0x7C < bitsN b 6 0 then 0 else fp32.ofDya (e5m2.dec b)
  else nth tab b 0 * 65536

/-- The exact distance of two FP32 values as a dyadic magnitude at the common exponent `e`. -/
def distAt (a b : Nat) : Dya := let d := (fp32.dec a).add (fp32.dec (fneg b)); { d with neg := false }

/-- Order of dyadic magnitudes. -/
def Dya.magLt (a b : Dya) : Bool := let e := min a.e b.e; decide (a.m * pow2n (a.e - e) < b.m * pow2n (b.e - e))

/-- The lowest code of `tab` nearest to the FP32 value `x` (R154): `i` is the code looked at, `best` the nearest. -/
def nearestCode (x : Nat) : List Nat → Nat → Nat × Option Dya → Nat
  | [], _, best => best.1
  | t :: ts, i, best =>
    let d := distAt (t * 65536) x
    match best.2 with
    | none => nearestCode x ts (i + 1) (i, some d)
    | some b => nearestCode x ts (i + 1) (if d.magLt b then (i, some d) else best)

/-- An FP32 value converted to a stored format (R154). -/
def encodeElem (fmt : Nat) (tab : List Nat) (x : Nat) : Nat :=
  if fmt = 0 then bf16.ofDya (fp32.dec x)
  else if fmt = 1 then fp16.ofDya (fp32.dec x)
  else if fmt = 2 then e4m3.ofDya (fp32.dec x)
  else if fmt = 3 then e5m2.ofDya (fp32.dec x)
  else nearestCode x tab 0 (0, none)

/-- Conversion of an FP32 value to BF16 (code 0) or FP16. -/
def enc16 (fmt x : Nat) : Nat := encodeElem (if fmt = 0 then 0 else 1) [] x

/-- One level of the pairwise tree: a missing partner is +0.0. -/
def treeLevel : List Nat → List Fv → List Fv
  | a :: b :: t, acc => treeLevel t (fadd' a b :: acc)
  | [a], acc => (fadd' a 0 :: acc).reverse
  | [], acc => acc.reverse

/-- The tree sum over `2^lg` leaves (R158), with the replacements made. -/
def treeSum' : Nat → List Nat → Nat → Fv
  | 0, x, s => { v := nth x 0 0, s := s }
  | lg + 1, x, s =>
    let l := treeLevel x []
    treeSum' lg (l.map (·.v)) (l.foldl (fun n f => n + f.s) s)

/-- `⌈log₂ n⌉`. -/
def clog2 (n : Nat) : Nat := if n ≤ 1 then 0 else (n - 1).log2 + 1

/-- The tree sum over `2^lg` leaves. -/
def treeSum (lg : Nat) (x : List Nat) : Fv := treeSum' lg x 0

/-- The binary point of the high-precision fixed-point functions. -/
def fxBits : Nat := 192
/-- 2π in units of 2⁻¹⁹². -/
def twoPiFx : Nat := 39440193395453077124792266728456537782926901730380179465120

/-- Taylor terms of sine or cosine, in fixed point: the current term, its next divisor index, and the alternating sum. -/
def trigTerms (x2 : Nat) : Nat → Nat → Nat → Bool → Int → Int
  | 0, _, _, _, acc => acc
  | k + 1, term, i, neg, acc =>
    trigTerms x2 k (((term * x2) >>> fxBits) / (i * (i + 1))) (i + 2) (!neg)
      (if neg then acc - (term : Int) else acc + (term : Int))

/-- sin and cos of `2π r / 2^32` for r below 2^30, in fixed point. -/
def trigQuarter (r : Nat) : Int × Int :=
  let x := (twoPiFx * r) >>> 32
  let x2 := (x * x) >>> fxBits
  (trigTerms x2 40 x 2 false 0, trigTerms x2 40 (2 ^ fxBits) 1 false 0)

/-- A fixed-point value rounded once to FP32. -/
def fxToFp (i : Int) : Nat := fp32.enc (decide (i < 0)) i.natAbs (2 ^ fxBits)

/-- cos(2π·t/2³²) rounded once to FP32 (R157). -/
def cosTurn (t : Nat) : Nat :=
  let sc := trigQuarter (t % 2 ^ 30)
  let q := (t / 2 ^ 30) % 4
  fxToFp (if q = 0 then sc.2 else if q = 1 then -sc.1 else if q = 2 then -sc.2 else sc.1)

/-- sin(2π·t/2³²) rounded once to FP32 (R157). -/
def sinTurn (t : Nat) : Nat :=
  let sc := trigQuarter (t % 2 ^ 30)
  let q := (t / 2 ^ 30) % 4
  fxToFp (if q = 0 then sc.1 else if q = 1 then sc.2 else if q = 2 then -sc.1 else -sc.2)

/-- Fixed-point binary point of the exponential. -/
def exBits : Nat := 320

/-- Taylor terms of e^(-y): alternating sum. -/
def expTerms (y : Nat) : Nat → Nat → Nat → Bool → Int → Int
  | 0, _, _, _, acc => acc
  | k + 1, term, i, neg, acc =>
    expTerms y k (((term * y) >>> exBits) / i) (i + 1) (!neg) (if neg then acc - (term : Int) else acc + (term : Int))

/-- Repeated squaring in fixed point. -/
def sqFx : Nat → Nat → Nat
  | 0, a => a
  | k + 1, a => sqFx k ((a * a) >>> exBits)

/-- e^(-num/den) in fixed point, for a magnitude below 256. -/
def expNegFx (num den : Nat) : Nat :=
  let y := (num * 2 ^ exBits / den) >>> 9
  sqFx 9 (expTerms y 60 (2 ^ exBits) 1 false 0).toNat

/-- The correctly rounded e^x of an FP32 x ≤ 0 (R165). -/
def expRef (x : Nat) : Nat :=
  let d := fp32.dec x
  let num := d.m * pow2n d.e
  let den := pow2n (-d.e)
  if 110 * den ≤ num then 0 else fp32.enc false (expNegFx num den) (2 ^ exBits)

/-- The correctly rounded tanh of an FP32 x (R165). -/
def tanhRef (x : Nat) : Nat :=
  let d := fp32.dec x
  let num := 2 * d.m * pow2n d.e
  let den := pow2n (-d.e)
  if d.m = 0 then x
  else if 100 * den ≤ num then fp32.enc d.neg 1 1
  else
    let t := expNegFx num den
    fp32.enc d.neg (2 ^ exBits - t) (2 ^ exBits + t)

end Sys2Proof.Machine
end

