-- ==== Sys2Proof/Machine/Text.lean ====
section
/-!
DEFINITION. Text (ch 8): UTF-8 decoding, tokenizer tables and encoding, stop strings, grammar automata, and the
validation of each table.
-/

namespace Sys2Proof.Machine

/-- A decoded character: its code point, and whether it is a U+FFFD that replaced a subpart (R179); `off` is the byte
offset at which it began. -/
structure Chr where
  cp : Nat
  fix : Bool
  off : Nat
deriving DecidableEq, Repr

/-- The UTF-8 bytes of a code point. -/
def utf8Enc (cp : Nat) : List Byte :=
  if cp < 0x80 then [BitVec.ofNat 8 cp]
  else if cp < 0x800 then [BitVec.ofNat 8 (0xC0 + cp / 64), BitVec.ofNat 8 (0x80 + cp % 64)]
  else if cp < 0x10000 then
    [BitVec.ofNat 8 (0xE0 + cp / 4096), BitVec.ofNat 8 (0x80 + cp / 64 % 64), BitVec.ofNat 8 (0x80 + cp % 64)]
  else
    [BitVec.ofNat 8 (0xF0 + cp / 262144), BitVec.ofNat 8 (0x80 + cp / 4096 % 64), BitVec.ofNat 8 (0x80 + cp / 64 % 64),
      BitVec.ofNat 8 (0x80 + cp % 64)]

/-- The length of the sequence a lead byte opens and the bounds of its second byte (Table 8-4); length 0 for a byte
that opens none. -/
def utf8Lead (b : Nat) : Nat × Nat × Nat :=
  if b ≤ 0x7F then (1, 0, 0)
  else if b < 0xC2 then (0, 0, 0)
  else if b ≤ 0xDF then (2, 0x80, 0xBF)
  else if b = 0xE0 then (3, 0xA0, 0xBF)
  else if b = 0xED then (3, 0x80, 0x9F)
  else if b ≤ 0xEF then (3, 0x80, 0xBF)
  else if b = 0xF0 then (4, 0x90, 0xBF)
  else if b ≤ 0xF3 then (4, 0x80, 0xBF)
  else if b = 0xF4 then (4, 0x80, 0x8F)
  else (0, 0, 0)

/-- How many of the bytes after the lead fit their positions, of at most `k`; `pos` is 1 for the second byte. -/
def utf8Fit (lo hi : Nat) : Nat → Nat → List Byte → Nat
  | 0, _, _ => 0
  | _, _, [] => 0
  | k + 1, pos, b :: t =>
    let l := if pos = 1 then lo else 0x80
    let h := if pos = 1 then hi else 0xBF
    if l ≤ b.toNat && b.toNat ≤ h then 1 + utf8Fit lo hi k (pos + 1) t else 0

/-- The code point of a whole sequence. -/
def utf8Cp (b : List Byte) : Nat :=
  match b.map (·.toNat) with
  | [a] => a
  | [a, b] => (a % 32) * 64 + b % 64
  | [a, b, c] => (a % 16) * 4096 + (b % 64) * 64 + c % 64
  | [a, b, c, d] => (a % 8) * 262144 + (b % 64) * 4096 + (c % 64) * 64 + d % 64
  | _ => 0xFFFD

/-- Decoding under R179: the characters, and the bytes held back when more input follows. -/
def utf8Dec (last : Bool) : Nat → Nat → List Byte → List Chr → List Chr × List Byte
  | 0, _, b, acc => (acc.reverse, b)
  | _, _, [], acc => (acc.reverse, [])
  | fuel + 1, off, b :: t, acc =>
    let ld := utf8Lead b.toNat
    if ld.1 = 0 then utf8Dec last fuel (off + 1) t ({ cp := 0xFFFD, fix := true, off := off } :: acc)
    else
      let n := utf8Fit ld.2.1 ld.2.2 (ld.1 - 1) 1 t
      if n + 1 = ld.1 then
        utf8Dec last fuel (off + ld.1) (t.drop n) ({ cp := utf8Cp ((b :: t).take ld.1), fix := false, off := off } :: acc)
      else if t.length = n && !last then (acc.reverse, b :: t)
      else utf8Dec last fuel (off + n + 1) (t.drop n) ({ cp := 0xFFFD, fix := true, off := off } :: acc)

/-- Decoding of a byte list starting at offset `off`. -/
def decodeText (last : Bool) (off : Nat) (b : List Byte) : List Chr × List Byte := utf8Dec last (b.length + 1) off b []

/-- Is a byte list complete, well-formed UTF-8? -/
def utf8Ok (b : List Byte) : Bool := (decodeText true 0 b).1.all (fun c => !c.fix)

/-- The bytes of characters. -/
def chrBytes (l : List Chr) : List Byte := l.flatMap (fun c => utf8Enc c.cp)

/-- `n` rounded up to a multiple of 8. -/
def align8 (n : Nat) : Nat := 8 * cdiv n 8

/-- A tokenizer table (Table 8-1) with the offsets of its sections (Table 8-2). -/
structure Tokz where
  b : List Byte
  whole : Bool
  v : Nat
  ncls : Nat
  nst : Nat
  nrange : Nat
  nmerge : Nat
  trielen : Nat
  poollen : Nat
  oTrans : Nat
  oByte : Nat
  oStr : Nat
  oMerge : Nat
  oTrie : Nat
  oPool : Nat
deriving DecidableEq, Repr

/-- A tokenizer table read from bytes. -/
def Tokz.parse (b : List Byte) : Tokz :=
  let h := leAt b 0 32
  let ncls := bitsN h 209 205
  let nst := bitsN h 204 196
  let nrange := bitsN h 195 180
  let v := bitsN h 230 210
  let nmerge := bitsN h 159 128
  let trielen := bitsN h 127 96
  let t1 := 32 + 8 * nrange
  let t2 := align8 (t1 + 2 * nst * ncls)
  let t3 := t2 + 1024
  let t4 := t3 + 8 * v
  let t5 := t4 + 8 * nmerge
  let t6 := align8 (t5 + 4 * trielen)
  { b := b, whole := bitN h 231, v := v, ncls := ncls, nst := nst, nrange := nrange, nmerge := nmerge
    trielen := trielen, poollen := bitsN h 95 64, oTrans := t1, oByte := t2, oStr := t3, oMerge := t4, oTrie := t5
    oPool := t6 }

/-- The class of a code point (R177). -/
def Tokz.cls (t : Tokz) (cp : Nat) : Nat :=
  match ((List.range t.nrange).map (fun i => leAt t.b (32 + 8 * i) 8)).find?
      (fun r => decide (bitsN r 63 43 ≤ cp) && decide (cp ≤ bitsN r 42 22)) with
  | some r => bitsN r 3 0
  | none => 0

/-- A pre-split transition: next state and action. -/
def Tokz.trans (t : Tokz) (s c : Nat) : Nat × Nat :=
  let w := leAt t.b (t.oTrans + 2 * (s * t.ncls + c)) 2
  (bitsN w 15 8, bitsN w 7 6)

/-- The id of a byte. -/
def Tokz.byteTok (t : Tokz) (b : Nat) : Nat := leAt t.b (t.oByte + 4 * b) 4
/-- A token's string entry. -/
def Tokz.strEnt (t : Tokz) (id : Nat) : Nat := leAt t.b (t.oStr + 8 * id) 8
/-- A token's string. -/
def Tokz.str (t : Tokz) (id : Nat) : List Byte :=
  let e := t.strEnt id
  slice t.b (t.oPool + bitsN e 63 32) (bitsN e 31 16)
/-- A token's SKIP bit. -/
def Tokz.skip (t : Tokz) (id : Nat) : Bool := bitN (t.strEnt id) 0
/-- Merge `k`: left, right, result. -/
def Tokz.merge (t : Tokz) (k : Nat) : Nat × Nat × Nat :=
  let w := leAt t.b (t.oMerge + 8 * k) 8
  (bitsN w 62 42, bitsN w 41 21, bitsN w 20 0)

/-- A trie node (R178): its tid, its label, its children (first byte and word offset), the bytes that fill its label's last word, and its length in
words. -/
structure TrieNode where
  tid : Option Nat
  label : List Byte
  kids : List (Nat × Nat)
  rsvd : Nat
  pad : Nat
  words : Nat
deriving DecidableEq, Repr

/-- The node at word `w`. -/
def Tokz.node (t : Tokz) (w : Nat) : TrieNode :=
  let o := t.oTrie + 4 * w
  let h := leAt t.b o 8
  let tid := bitsN h 63 43
  let nc := bitsN h 42 34
  let ll := bitsN h 33 26
  let lw := cdiv ll 4
  { tid := if tid = 0x1FFFFF then none else some tid
    label := slice t.b (o + 8) ll
    kids := (List.range nc).map (fun i => let c := leAt t.b (o + 8 + 4 * lw + 4 * i) 4; (bitsN c 31 24, bitsN c 23 0))
    rsvd := bitsN h 25 0
    pad := leAt t.b (o + 8 + ll) (4 * lw - ll)
    words := 2 + lw + nc }

/-- The token whose string is `b`, by a walk of the trie from word `w`. -/
def Tokz.trieFind (t : Tokz) : Nat → Nat → List Byte → Option Nat
  | 0, _, _ => none
  | fuel + 1, w, b =>
    let n := t.node w
    if n.label.isPrefixOf b then
      match b.drop n.label.length with
      | [] => n.tid
      | x :: rest =>
        match n.kids.find? (fun k => k.1 == x.toNat) with
        | some k => t.trieFind fuel k.2 (x :: rest)
        | none => none
    else none

/-- The pre-split machine between buffers (R180): its state, the open piece and the pieces closed. -/
structure PreSplit where
  s : Nat
  cur : List Nat
  out : List (List Nat)
deriving DecidableEq, Repr

/-- One code point through the pre-split machine (R180). -/
def preStep (t : Tokz) (p : PreSplit) (cp : Nat) : PreSplit :=
  let tr := t.trans p.s (t.cls cp)
  let len := ((p.cur ++ [cp]).flatMap utf8Enc).length
  let act := if 4096 < len then 1 else tr.2
  if act = 1 && p.cur != [] then { s := tr.1, cur := [cp], out := p.out ++ [p.cur] }
  else if act = 2 && decide (2 ≤ p.cur.length) then
    { s := tr.1, cur := (p.cur.drop (p.cur.length - 1)) ++ [cp], out := p.out ++ [p.cur.take (p.cur.length - 1)] }
  else { s := tr.1, cur := p.cur ++ [cp], out := p.out }

/-- The lowest rank of an adjacent pair, with its position: the best so far is carried. -/
def bestMerge (rank : Nat → Nat → Option Nat) : List Nat → Nat → Option (Nat × Nat) → Option (Nat × Nat)
  | a :: b :: t, i, best =>
    let best' := match rank a b, best with
      | some r, none => some (r, i)
      | some r, some (r0, i0) => if r < r0 then some (r, i) else some (r0, i0)
      | none, x => x
    bestMerge rank (b :: t) (i + 1) best'
  | _, _, best => best

/-- The rank of a pair: the index of its merge (R177). -/
def Tokz.rank (t : Tokz) (l r : Nat) : Option Nat :=
  (List.range t.nmerge).find? (fun k => let m := t.merge k; m.1 == l && m.2.1 == r)

/-- The merging loop of R181; each turn shortens the list by one. -/
def mergeLoop (t : Tokz) : Nat → List Nat → List Nat
  | 0, ids => ids
  | fuel + 1, ids =>
    match bestMerge t.rank ids 0 none with
    | none => ids
    | some (r, i) => mergeLoop t fuel (ids.take i ++ [(t.merge r).2.2] ++ ids.drop (i + 2))

/-- A piece's ids (R181). -/
def encodePiece (t : Tokz) (b : List Byte) : List Nat :=
  match (if t.whole then t.trieFind (b.length + 2) 0 b else none) with
  | some id => [id]
  | none => mergeLoop t b.length (b.map (fun x => t.byteTok x.toNat))

/-- The ids of pieces in order. -/
def encodePieces (t : Tokz) (ps : List (List Nat)) : List Nat := ps.flatMap (fun p => encodePiece t (p.flatMap utf8Enc))

/-- Closure of a set under a successor map. -/
def closure (f : Nat → List Nat) : Nat → List Nat → List Nat → List Nat
  | 0, _, seen => seen
  | _, [], seen => seen
  | fuel + 1, x :: todo, seen =>
    let new := (f x).eraseDups.filter (fun y => !seen.contains y)
    closure f fuel (todo ++ new) (seen ++ new)

/-- Is a list free of repeats? -/
def nodupB : List Nat → Bool
  | [] => true
  | a :: t => !t.contains a && nodupB t

/-- Every (string, tid) reached by a walk of the trie, with the word offsets met; none where the trie breaks a rule of
R178. -/
def Tokz.trieWalk (t : Tokz) : Nat → Nat → List Byte → Bool → Option (List (List Byte × Nat) × List Nat)
  | 0, _, _, _ => none
  | fuel + 1, w, pre, root =>
    if t.trielen < w + 2 then none else
      let n := t.node w
      if t.trielen < w + n.words || n.pad != 0 || decide (256 < n.kids.length)
          || (root && n.label != []) || (!root && n.label == [])
          || (!root && n.tid.isNone && decide (n.kids.length < 2))
          || !Tab.wf (n.kids.map (fun k => (k.1, k.2))) then none
      else
        let s := pre ++ n.label
        let here := match n.tid with
          | some id => [(s, id)]
          | none => []
        n.kids.foldl (fun acc k =>
          match acc with
          | none => none
          | some (l, ws) =>
            if (t.node k.2).label.head?.map (·.toNat) != some k.1 then none
            else match t.trieWalk fuel k.2 s false with
              | none => none
              | some (l', ws') => some (l ++ l', ws ++ ws')) (some (here, [w]))

/-- Has a node that the trie's root leads to a non-zero rsvd field (check 2)? -/
def Tokz.trieRsvd (t : Tokz) : Bool :=
  (closure (fun w => (t.node w).kids.filterMap (fun k => if k.2 + 2 ≤ t.trielen then some k.2 else none)) (t.trielen + 1) [0] [0]).any
    (fun w => (t.node w).rsvd != 0)

/-- Are the gaps between the sections filled with zeros (R176)? -/
def Tokz.gapsOk (t : Tokz) : Bool :=
  leAt t.b (t.oTrans + 2 * t.nst * t.ncls) (t.oByte - (t.oTrans + 2 * t.nst * t.ncls)) == 0
    && leAt t.b (t.oTrie + 4 * t.trielen) (t.oPool - (t.oTrie + 4 * t.trielen)) == 0

/-- The number of the first failed check of a tokenizer table (Table 8-7), none when it is valid. A gap that is not zero counts as a field of
check 2 (DEDUCED log 77). -/
def tokenizerCheck (b : List Byte) : Option Nat :=
  let h := leAt b 0 32
  let t := Tokz.parse b
  let ids := List.range t.v
  if b.length < 32 || b.length != t.oPool + t.poollen || decide (128 * 2 ^ 20 < b.length) then some 1
  else if bitsN h 255 240 != 0x544B || bitsN h 239 232 != 1 || decide (t.v < 256) || t.ncls == 0 || decide (16 < t.ncls)
      || t.nst == 0 || decide (256 < t.nst) || decide (4096 < t.nrange) || decide (t.v - 256 < t.nmerge)
      || decide (t.trielen < 2) || decide (2 ^ 24 < t.trielen) || bitsN h 179 160 != 0 || bitsN h 63 32 != 0
      || (List.range t.nrange).any (fun i =>
          let r := leAt b (32 + 8 * i) 8
          bitsN r 21 4 != 0 || decide (bitsN r 42 22 < bitsN r 63 43) || decide (t.ncls ≤ bitsN r 3 0))
      || (List.range (t.nst * t.ncls)).any (fun i =>
          let w := leAt b (t.oTrans + 2 * i) 2
          bitsN w 5 0 != 0 || decide (t.nst ≤ bitsN w 15 8))
      || ids.any (fun i => bitsN (t.strEnt i) 15 1 != 0 || decide (1024 < bitsN (t.strEnt i) 31 16))
      || (List.range t.nmerge).any (fun k => leAt b (t.oMerge + 8 * k) 8 / 2 ^ 63 != 0) || !t.gapsOk || t.trieRsvd then some 2
  else if crc32c (leBytes 32 (setBits h 31 0 0) ++ b.drop 32) != bitsN h 31 0 then some 3
  else if (List.range (t.nrange - 1)).any (fun i =>
        decide (bitsN (leAt b (32 + 8 * (i + 1)) 8) 63 43 ≤ bitsN (leAt b (32 + 8 * i) 8) 42 22))
      || (List.range (t.nst * t.ncls)).any (fun i => bitsN (leAt b (t.oTrans + 2 * i) 2) 7 6 == 3) then some 4
  else if !nodupB ((List.range 256).map t.byteTok) || (List.range 256).any (fun x =>
        let id := t.byteTok x
        decide (t.v ≤ id) || t.skip id || t.str id != [BitVec.ofNat 8 x]) then some 5
  else if ids.any (fun i => let e := t.strEnt i; decide (t.poollen < bitsN e 63 32 + bitsN e 31 16)) then some 6
  else if (List.range t.nmerge).any (fun k =>
        let m := t.merge k
        decide (t.v ≤ m.1) || decide (t.v ≤ m.2.1) || decide (t.v ≤ m.2.2) || t.skip m.1 || t.skip m.2.1 || t.skip m.2.2
          || t.str m.2.2 != t.str m.1 ++ t.str m.2.1)
      || !nodupB ((List.range t.nmerge).map (fun k => let m := t.merge k; m.1 * 2 ^ 21 + m.2.1)) then some 7
  else match t.trieWalk (t.trielen + 1) 0 [] true with
    | none => some 8
    | some (l, ws) =>
      if !nodupB ws || l.any (fun p => decide (t.v ≤ p.2) || t.str p.2 != p.1 || t.skip p.2 || p.1 == [])
          || !nodupB (l.map (·.2))
          || ids.any (fun i => !t.skip i && t.str i != [] && !(l.any (fun p => p.2 == i))) then some 8
      else none

/-- The strings of a stop set (R186). -/
def stopStrings (b : List Byte) : List (List Byte) :=
  let n := bitsN (leAt b 0 16) 103 99
  (List.range n).map (fun i => slice b (16 + 72 * i + 8) (leAt b (16 + 72 * i) 1))

/-- The first failed check of a stop set. -/
def stopCheck (b : List Byte) : Option Nat :=
  let h := leAt b 0 16
  let n := bitsN h 103 99
  if b.length != 16 + 72 * n || b.length < 16 then some 1
  else if bitsN h 127 112 != 0x5353 || bitsN h 111 104 != 1 || n == 0 || decide (16 < n) || bitsN h 98 32 != 0
      || (List.range n).any (fun i => let l := leAt b (16 + 72 * i) 1; l == 0 || decide (64 < l)) then some 2
  else if crc32c (leBytes 16 (setBits h 31 0 0) ++ b.drop 16) != bitsN h 31 0 then some 3
  else
    let ss := stopStrings b
    if (List.range n).any (fun i =>
          let l := leAt b (16 + 72 * i) 1
          (slice b (16 + 72 * i + 1) 7).any (· != 0#8)
            || (slice b (16 + 72 * i + 8 + l) (64 - l)).any (· != 0#8))
        || ss.any (fun s => !utf8Ok s) || (List.range n).any (fun i => (List.range i).any (fun j => nth ss i [] == nth ss j []))
    then some 11 else none

/-- The occurrence of a stop string among characters: it ends earliest, and of those starts earliest (R187). -/
def stopFind (ss : List (List Byte)) (cs : List Chr) : Option (Nat × Nat) :=
  (List.range cs.length).findSome? (fun e =>
    ((List.range (e + 1)).find? (fun s => ss.contains (chrBytes ((cs.drop s).take (e + 1 - s))))).map (fun s => (s, e + 1)))

/-- How many trailing characters form a proper prefix of a stop string (R187). -/
def stopHold (ss : List (List Byte)) (cs : List Chr) : Nat :=
  match (List.range cs.length).find? (fun s =>
      let b := chrBytes (cs.drop s)
      ss.any (fun t => b.isPrefixOf t && b != t)) with
  | some s => cs.length - s
  | none => 0

/-- A grammar table (Table 8-6). -/
structure Gram where
  b : List Byte
  nstate : Nat
  ncls : Nat
  depth : Nat
  start : Nat
deriving DecidableEq, Repr

/-- A grammar table read from bytes. -/
def Gram.parse (b : List Byte) : Gram :=
  let h := leAt b 0 32
  { b := b, nstate := bitsN h 231 216, ncls := bitsN h 215 207, depth := bitsN h 206 199, start := bitsN h 198 183 }

/-- The class of a byte. -/
def Gram.cmap (g : Gram) (x : Nat) : Nat := leAt g.b (32 + x) 1
/-- A transition word. -/
def Gram.word (g : Gram) (s c : Nat) : Nat := leAt g.b (288 + 4 * (s * g.ncls + c)) 4
/-- Is a state accepting? -/
def Gram.acc (g : Gram) (s : Nat) : Bool := bitN (leAt g.b (288 + 4 * g.nstate * g.ncls + s / 8) 1) (s % 8)
/-- The length its header gives. -/
def Gram.size (g : Gram) : Nat := 288 + 4 * g.nstate * g.ncls + align8 (cdiv g.nstate 8)

/-- A configuration: a state and a stack, top first (R191). -/
structure GCfg where
  s : Nat
  st : List Nat
deriving DecidableEq, Repr

/-- One byte through the automaton; none where there is no move (R191). -/
def Gram.step (g : Gram) (c : GCfg) (x : Nat) : Option GCfg :=
  let w := g.word c.s (g.cmap x)
  let op := bitsN w 15 14
  let nxt := bitsN w 31 16
  if op = 3 then none
  else if op = 1 then (if c.st.length = g.depth then none else some { s := nxt, st := bitsN w 7 0 :: c.st })
  else if op = 2 then
    match c.st with
    | [] => none
    | a :: t => if a = bitsN w 7 0 then some { s := nxt, st := t } else none
  else some { s := nxt, st := c.st }

/-- A byte string through the automaton. -/
def Gram.run (g : Gram) : GCfg → List Byte → Option GCfg
  | c, [] => some c
  | c, x :: t => match g.step c x.toNat with
    | some c' => g.run c' t
    | none => none

/-- Is a token permitted at a configuration? (R191) -/
def permitted (g : Gram) (t : Tokz) (ends : List Nat) (c : GCfg) (id : Nat) : Bool :=
  if ends.contains id then g.acc c.s && c.st.isEmpty
  else if t.skip id || (t.str id).isEmpty then false
  else (g.run c (t.str id)).isSome

/-- The states one move away from a state, by transitions of a class that some byte has, ignoring the stack (log 77). -/
def Gram.succs (g : Gram) (s : Nat) : List Nat :=
  ((List.range g.ncls).filter (fun c => (List.range 256).any (fun x => g.cmap x == c))).filterMap (fun c => let w := g.word s c; if bitsN w 15 14 = 3 then none else some (bitsN w 31 16))

/-- The first failed check of a grammar table (Table 8-7). -/
def grammarCheck (b : List Byte) : Option Nat :=
  let h := leAt b 0 32
  let g := Gram.parse b
  let cells := (List.range g.nstate).flatMap (fun s => (List.range g.ncls).map (fun c => g.word s c))
  if b.length < 32 || b.length != g.size || decide (64 * 2 ^ 20 < b.length) then some 1
  else if bitsN h 255 240 != 0x4741 || bitsN h 239 232 != 1 || g.nstate == 0 || g.ncls == 0 || decide (256 < g.ncls)
      || bitsN h 182 32 != 0 || leAt b (288 + 4 * g.nstate * g.ncls) (8 * cdiv (cdiv g.nstate 8) 8) / 2 ^ g.nstate != 0 || cells.any (fun w => bitsN w 13 8 != 0) then some 2
  else if crc32c (leBytes 32 (setBits h 31 0 0) ++ b.drop 32) != bitsN h 31 0 then some 3
  else if decide (g.nstate ≤ g.start) || cells.any (fun w => bitsN w 15 14 != 3 && decide (g.nstate ≤ bitsN w 31 16))
      || (List.range 256).any (fun x => decide (g.ncls ≤ g.cmap x))
      || cells.any (fun w =>
          let op := bitsN w 15 14
          (if op = 1 || op = 2 then bitsN w 7 0 == 0 else bitsN w 7 0 != 0) || (op == 1 && g.depth == 0)) then some 9
  else
    let reach := closure g.succs (g.nstate + 1) [g.start] [g.start]
    if reach.any (fun s => !(closure g.succs (g.nstate + 1) [s] [s]).any g.acc) then some 10 else none

end Sys2Proof.Machine
end

