-- ==== Sys2Proof/Machine/State.lean ====
section
/-!
DEFINITION. The state of the SC2: plain data, every register, buffer, table and mode the spec names, grouped by the
part of the device that owns it, and the queue of commands that wait. State.reset is the device right after reset.
-/

namespace Sys2Proof.Machine

/-- Why the block stops with a fault. -/
inductive Fault
  /-- Raised by the link, port, core and stack events that name a unit the device does not have (a link above 95, a
  port above 3). Safe: no such unit exists, so no hardware event is lost. -/
  | noSuchUnit (kind : String) (n : Nat)
deriving DecidableEq, Repr

/-- Why the block refuses a command. -/
inductive Refusal
  /-- Raised by exec for a row of the table that has no meaning yet. Safe: the model stops where the hardware goes on. -/
  | notModelled (mnemonic : String)
deriving DecidableEq, Repr

/-- Where the completions of a command go, and what they echo (R47, R48). `gen` is the function's reset count when the
command was taken: completions of a command older than the last function reset are discarded (R340). -/
structure Cmd where
  fn : Nat
  cq : Nat
  tag : Nat
  handle : Nat
  gen : Nat
  lc : Bool
deriving DecidableEq, Repr

/-- A completion (Table 2-5); ph and par are formed when it is written. -/
structure Completion where
  status : Nat
  detail : Nat
  aux : Nat
  count : Nat
  produced : Nat
  handle : Nat
  tag : Nat
  slot : Nat
  half : Nat
  fin : Bool
deriving DecidableEq, Repr

/-- An output record (Table 8-5); par is formed when it is written. -/
structure OutRec where
  text : List Byte
  tag : Nat
  slot : Nat
  kind : Nat
  end_ : Bool
  fix : Bool
  cut : Bool
  fin : Bool
  token : Nat
  produced : Nat
deriving DecidableEq, Repr

/-- An event record (Table 18-9); par is formed when it is written. -/
structure EventRec where
  seq : Nat
  time : Nat
  code : Nat
  part : Nat
  half : Nat
  lost : Bool
  words : List Nat
deriving DecidableEq, Repr

/-- A record of a ring the device posts on. -/
inductive Rec
  | comp (c : Completion) (lc : Bool)
  | output (o : OutRec)
  | event (e : EventRec)
deriving DecidableEq, Repr

/-- Counters (R8, R274): values, sticky SAT bits by counter key, and the bytes not yet making up a unit of a counter
that counts in units. A key is 256 × index + subindex; an unlisted counter is 0. -/
structure Counters where
  val : Tab Nat
  sat : List Nat
  rest : Tab Nat
deriving DecidableEq, Repr

/-- Events (R394, R395): the device-wide sequence, every record raised (newest first) and the latches of events that
are raised once or once per second (latch key to the value latched); `wait` the records that the path on the other half has yet to get
while the bridge is down, oldest first (R24). -/
structure Events where
  seq : Nat
  log : List EventRec
  latch : Tab Nat
  wait : List EventRec
deriving DecidableEq, Repr

/-- A ring (R331 to R339). Kind 1 SQ, 2 CQ, 3 output, 4 event. `hostIdx` is the host index last read, `posted` the
device index (descriptors fetched of an SQ), `msg` the records counted since the last MSI-X message, `lost` that a
record was dropped since the last one delivered. `coh` that its host index is watched in device memory (R332). -/
structure Ring where
  fn : Nat
  kind : Nat
  id : Nat
  base : Nat
  hidx : Nat
  didx : Nat
  lgsz : Nat
  cq : Nat
  vector : Nat
  iv : Bool
  lci : Bool
  cthr : Nat
  tthr : Nat
  hostIdx : Nat
  posted : Nat
  stopped : Bool
  backlog : List Rec
  msg : Nat
  lost : Bool
  coh : Bool
deriving DecidableEq, Repr

/-- A CXL.mem window of a port (R346). A region window follows its region. `closing` while it waits for
lines to return before it is removed, and `closer` the WINDOW_CLOSE that completes then. -/
structure Window where
  reg : Bool
  region : Nat
  gran : Nat
  count : Nat
  hoff : Nat
  ro : Bool
  fn : Nat
  part : Nat
  closing : Bool
  closer : Option Cmd
  recalled : Nat
deriving DecidableEq, Repr

/-- A shared region's publication record (Table 16-4), its magic, version and window bits formed when written. -/
structure Region where
  part : Nat
  gran : Nat
  count : Nat
  version : Nat
  time : Nat
  pub : Bool
  pubfn : Nat
deriving DecidableEq, Repr

/-- A line the tracker records as held (R348): its 64-byte line number, held with ownership or shared, and whether a
snoop for it is outstanding. -/
structure Line where
  addr : Nat
  owned : Bool
  snooped : Bool
deriving DecidableEq, Repr

/-- A CXL.mem access that waits for a snoop answer, the bridge's hold buffer or the bridge (R345, R343). -/
structure Access where
  port : Nat
  hoff : Nat
  excl : Bool
  data : Option (List Byte)
  mask : Nat
deriving DecidableEq, Repr

/-- A PUBLISH in its region's sequence (R350): `active` while it recalls the lines, waiting for its turn before. -/
structure PubWait where
  cmd : Cmd
  region : Nat
  gran : Nat
  expect : Nat
  active : Bool
deriving DecidableEq, Repr

/-- A port (Table 16-8). `link` 0 down, 1 PCIe, 2 PCIe with CXL; `perst` while PERST# is asserted; `lease` whether the
host lease runs and `leaseEnd` its expiry; `lines` oldest first. -/
structure Port where
  link : Nat
  lanes : Nat
  rate : Nat
  perst : Bool
  lease : Bool
  leaseEnd : Nat
  ide : Nat
  lines : List Line
  windows : Tab Window
deriving DecidableEq, Repr

/-- A DMA read outstanding (R342): its id, the bytes asked for, and the Dictionary write whose value it fetches (R387). -/
structure DmaRead where
  fn : Nat
  id : Nat
  len : Nat
  o : Origin
  pdu : Nat
deriving DecidableEq, Repr

/-- A DMA write that waits while its function may not use DMA (R352, R353). -/
structure DmaWrite where
  fn : Nat
  gen : Nat
  addr : Nat
  data : List Byte
deriving DecidableEq, Repr

/-- An ATOMIC that waits for a line a host holds (R345). -/
structure AtomWait where
  cmd : Cmd
  part : Nat
  addr : Nat
  op : Nat
  v : Nat
deriving DecidableEq, Repr

/-- A write held while the bridge is down (R343): line and bytes. -/
structure HeldWrite where
  line : Nat
  data : List Byte
  mask : Nat
deriving DecidableEq, Repr

/-- The host port. `fnGen` counts the resets of each function; `masked` and `pendingV` are the MSI-X mask and pending
bits that differ from reset (masked), by 2048 × function + vector; `tdi` the TDI state of a function (0
CONFIG_UNLOCKED, 1 CONFIG_LOCKED, 2 RUN, 3 ERROR); `ideStreams` the secure streams as 256 × port + stream (0 link IDE, 1
to 4 selective, 5 CXL IDE, log 40) and `ideDown` the functions whose stream failed, with it; `stops` the functions whose
fetching and DMA stand still, with their DMA writes in `dmaHeld`; `imgRings` the RINGS segment of the image restored
(R341); `bifur` the bifurcation in force since the last start-up (R328). -/
structure HostPort where
  rings : Tab Ring
  fnGen : Tab Nat
  unmasked : List Nat
  pendingV : List Nat
  ports : Tab Port
  regions : Tab Region
  waiting : List Access
  pubs : List PubWait
  held : List HeldWrite
  heldLost : List Nat
  dma : List DmaRead
  tdi : Tab Nat
  ideStreams : List Nat
  ideDown : Tab Nat
  stops : List Nat
  dmaHeld : List DmaWrite
  atoms : List AtomWait
  dmaNext : Nat
  imgRings : Tab Nat
  bifur : Nat
deriving DecidableEq, Repr

/-- A read snapshot of an origin (R383). -/
structure Snap where
  o : Origin
  key : Nat
  value : List Byte
  last : Nat
deriving DecidableEq, Repr

/-- A staged write of an origin (R384). -/
structure Staged where
  o : Origin
  key : Nat
  total : Nat
  value : List Byte
  last : Nat
deriving DecidableEq, Repr

/-- The Dictionary (ch 18). `vals` holds the values that differ from their defaults by key 256 × index + subindex,
function-relative ones by 2^24 × (function + 1) + key; `store` the persisted store with each value's write count
(R380); `pend` the transactions that are not final, with
their request PDUs (R385). -/
structure Dict where
  vals : Tab (List Byte)
  store : Tab (Nat × List Byte)
  snaps : List Snap
  staged : List Staged
  pend : List (Origin × Nat)
deriving DecidableEq, Repr

/-- A function's mailbox (Table 18-6): the last rseq taken, the request copied, the response and its bits. -/
structure Mailbox where
  rseq : Nat
  done : Bool
  pend : Bool
  busy : Bool
  req : List Byte
  rsp : List Byte
deriving DecidableEq, Repr

/-- An EVENT frame not yet acknowledged (R396). -/
structure EvFrame where
  eseq : Nat
  fseq : Nat
  recs : List EventRec
deriving DecidableEq, Repr

/-- A response kept for a source address (R391). -/
structure KeptRsp where
  mac : Nat
  fseq : Nat
  pdu : Nat
  value : List Byte
deriving DecidableEq, Repr

/-- An SPDM message being assembled from fragments (R392). -/
structure FragAsm where
  src : Nat
  next : Nat
  bytes : List Byte
  secured : Bool
deriving DecidableEq, Repr

/-- The field network (ch 18). `link` 0 down, 1 up with CSMA/CD, 2 up with PLCA; `kept` newest first. The link
settings of 0x1000.01 to .05 in force since the last link return stand in `cfg`. -/
structure FieldNet where
  link : Nat
  kept : List KeptRsp
  backlog : List EventRec
  unacked : List EvFrame
  lost : Bool
  asm : List FragAsm
  fseq : Nat
  cfg : List (List Byte)
deriving DecidableEq, Repr

/-- Maintenance state (Table 18-10): 0 SERVICE, 1 ENTERING, 2 MAINTENANCE, 3 LEAVING; `written` the last value written
to 0xF000.01. -/
structure Maint where
  st : Nat
  written : Nat
deriving DecidableEq, Repr

/-- The state of a directory entry (Table 2-1). -/
inductive SessState
  | free
  | idle
  | live
  | parked
  | developing
  | moving
  | expired
  | closed
deriving DecidableEq, Repr

/-- A directory entry (Table 2-1), its par formed when it is written out; `retired` marks an entry never allocated
again (R35), `lost` one whose two copies failed parity (R262), `copyBad` that one copy has bad parity. -/
structure DirEntry where
  state : SessState
  part : Nat
  profile : Nat
  gen : Nat
  lx : Bool
  fk : Bool
  ton : Bool
  pp : Bool
  cp : Bool
  cl : Bool
  count : Nat
  prefixLen : Nat
  ptroot : Nat
  children : Nat
  parent : Nat
  sv : Bool
  slot : Nat
  reslayers : Nat
  ttl : Nat
  tail : Nat
  tv : Bool
  expires : Nat
  epoch : Nat
  offered : Bool
  shalf : Nat
  thalf : Nat
  owner : Nat
  target : Nat
  olease : Nat
  retired : Bool
  lost : Bool
  copyBad : Bool
deriving DecidableEq, Repr

/-- A stored row of a page: key and value bytes head by head, the V-row sums, and what its check value says (R55). -/
structure Row where
  k : List Byte
  v : List Byte
  sums : List Nat
  chkA : Check
  chkB : Check
deriving DecidableEq, Repr

/-- The state of a page (Table 3-6); FREE pages are not listed and pages in SCRUB are in the scrub queue. -/
inductive PageState
  | open_
  | sealing
  | sealed
deriving DecidableEq, Repr

/-- A KV page: its header fields (Table 3-3), its rows by token position, its copies (page handles, 0 none), and its
object below T1: `low` the handle of one that is durable or acknowledged, `next` of one that is written and not yet so (R84, R95),
`clen` its KiB, `lowChk` what its check value says. `pchk` is the outcome of pagecv; `rel` the session whose release of it is held until the seal is done (Table
3-6). -/
structure Page where
  origin : Nat
  layer : Nat
  pidx : Nat
  profile : Nat
  kfmt : Nat
  vfmt : Nat
  latent : Bool
  bytes : Nat
  st : PageState
  rows : Tab Row
  pchk : Check
  a : Nat
  b : Nat
  low : Nat
  clen : Nat
  next : Nat
  lowChk : Check
  part : Nat
  half : Nat
  rel : Option Nat
deriving DecidableEq, Repr

/-- A page-table entry that is not ABSENT: it names a page, or a share record (pstate SHARED). -/
inductive PageRef
  | own (pid : Nat)
  | shared (rid : Nat)
deriving DecidableEq, Repr

/-- One layer's tree (R56): its depth, the leaves it has, and its entries by page index. -/
structure LayerTab where
  depth : Nat
  leaves : Nat
  ents : Tab PageRef
deriving DecidableEq, Repr

/-- A table block (R56): 0 a KiB of the root, 1 a leaf, 2 a spine of leaves, 3 a spine of spines; its layer, its number among those
of its kind in the layer, and its two copies. -/
structure TBlk where
  kind : Nat
  layer : Nat
  n : Nat
  a : Nat
  b : Nat
deriving DecidableEq, Repr

/-- A session's page table: one tree per layer, its table blocks, root first; `low` the handle of the root below T1 while the blocks
are there, `next` that of a copy of the blocks not yet durable there, and whether they are in T1. -/
structure PageTable where
  layers : Tab LayerTab
  blocks : List TBlk
  inT1 : Bool
  low : Nat
  next : Nat
deriving DecidableEq, Repr

/-- A share record (Table 3-7); `blk` names the charged block of 32 records it lies in (Table 3-8), and `at_` its place there. -/
structure ShareRec where
  refs : Nat
  pid : Nat
  blk : Nat
  at_ : Nat
  half : Nat
  part : Nat
deriving DecidableEq, Repr

/-- A charged block of 32 share records (Table 3-8): its records left, the stack position where its placement starts (R65), its two
copies, and whom it is charged to. -/
structure ShareBlk where
  n : Nat
  home : Nat
  a : Nat
  b : Nat
  part : Nat
  half : Nat
deriving DecidableEq, Repr

/-- Space queued for scrub on a stack (R67): its location, KiB, and what is freed when it is done. -/
structure Scrub where
  loc : Nat
  kib : Nat
deriving DecidableEq, Repr

/-- The KV pages of the device: charges in KiB by 2 × partition + half,
reservations of moves by directory index as (half, KiB); `next` names the next page, record or block of the model's own
tables. -/
structure Pages where
  tables : Tab PageTable
  pages : Tab Page
  shares : Tab ShareRec
  blkRecs : Tab ShareBlk
  charge : Tab Nat
  resv : Tab (Nat × Nat)
  next : Nat
deriving DecidableEq, Repr

/-- A band row in use (Table 4-2): kind 1 KV, 2 control, 3 granules; rstate 0 normal, 1 degraded, 2 rebuilding, 3
retired; `slots` the slots occupied or queued for scrub, and `members` the sealed members, as 65,536 × stack in the
group + slot. -/
structure BandRow where
  kind : Nat
  slotkib : Nat
  rstate : Nat
  slots : List Nat
  members : List Nat
  lostRec : Bool
deriving DecidableEq, Repr

/-- A Lysing stack (Table 4-3): 0 OK, 1 LOST, 2 EXCLUDED; failed attempts in a row; failures counted; whether it
answers. -/
structure Stack where
  cond : Nat
  tries : Nat
  fails : Nat
  answers : Bool
deriving DecidableEq, Repr

/-- A rebuild of a parity group (R78): the stack lost, whether host-assisted, the band rows still to do, the pages
rebuilt so far, and the REBUILD commands with their rows left and pages. -/
structure Rebuild where
  stack : Nat
  assisted : Bool
  rows : List Nat
  done : Nat
  cmds : List (Cmd × List Nat × Nat)
deriving DecidableEq, Repr

/-- What an object below T1 is. -/
inductive ObjKind
  | page (pid : Nat)
  | tables (idx : Nat)
  | granule (g : Nat)
  | pool (borrower ext kib : Nat)
deriving DecidableEq, Repr

/-- An object in T2: where it starts, its KiB and what it is. -/
structure T2Obj where
  unit : Nat
  kib : Nat
  kind : ObjKind
deriving DecidableEq, Repr

/-- A written T2 stripe: live units, shares acknowledged, its objects. -/
structure Stripe where
  live : Nat
  acked : List Nat
  objs : List T2Obj
deriving DecidableEq, Repr

/-- The T2 side of a half (R83): the stripe being filled and its buffer, and the stripes written. -/
structure T2Half where
  cur : Nat
  fill : Nat
  buf : List T2Obj
  last : Nat
  stripes : Tab Stripe
deriving DecidableEq, Repr

/-- A Flopiry stack (R86, R87): 0 OK, 1 LOST, 2 EXCLUDED, its cycle count, the wear marks raised, and the first stripe
it holds shares of again after an admission. -/
structure Flash where
  cond : Nat
  cycles : Nat
  worn80 : Bool
  worn100 : Bool
  admittedAt : List Nat
deriving DecidableEq, Repr

/-- A demotion that runs (R95): its tier, the pages still to go in order, whether the table blocks are to go after them, the part of a
pass it is, and the PARKs that wait, each with the tier it asks for. -/
structure Demotion where
  tier : Nat
  left : List Nat
  tabs : Bool
  pass : Bool
  parks : List (Cmd × Nat)
deriving DecidableEq, Repr

/-- A demotion pass of a half (R93): sessions and granules it selected that have not ended. -/
structure Pass where
  running : Bool
  sessions : List Nat
  granules : List Nat
deriving DecidableEq, Repr

/-- A granule on its way to another tier (R100): destination, pieces copied, and whether a command asked for it. -/
structure GranMove where
  tier : Nat
  loc : Nat
  pieces : Nat
  byCmd : Bool
deriving DecidableEq, Repr

/-- A mapped granule (Table 4-7), with its move, the atomic adds held until it can take them as (address, operation, operand) (R99,
R100, R103), and its access count in the current second (R100). -/
structure Granule where
  tier : Nat
  pin : Bool
  loc : Nat
  mv : Option GranMove
  adds : List (Nat × Nat × Nat)
  accSec : Nat
  acc : Nat
  lastAcc : Nat
deriving DecidableEq, Repr

/-- A PLACE, REMOVE with EVACUATE or ATOMIC that waits on granules: the granules left and those done, and whether space ran out
for others it named (R104). -/
structure GranCmd where
  cmd : Cmd
  kind : Nat
  left : List Nat
  done : Nat
  arg : Nat
  short : Bool
deriving DecidableEq, Repr

/-- A T3 extent (R101), keyed 128 × partition + id: allocations by KiB offset. -/
structure Extent where
  fn : Nat
  addr : Nat
  len : Nat
  leased : Bool
  allocs : Tab Nat
deriving DecidableEq, Repr

/-- A pool extent borrowed from a session peer (R102), keyed by holder and extent id. -/
structure Borrowed where
  part : Nat
  holder : Nat
  ext : Nat
  kib : Nat
  lapsed : Bool
  leaseEnd : Nat
  allocs : Tab Nat
deriving DecidableEq, Repr

/-- A pool extent lent to a session peer (R102): what it wrote by KiB, and the KiB that carry poison. -/
structure Lent where
  borrower : Nat
  part : Nat
  kib : Nat
  leaseEnd : Nat
  data : Tab (List Byte)
  bad : List Nat
deriving DecidableEq, Repr

/-- A pool request not answered yet (R102): sequence, kind, peer, what it is for and the bytes it carries. -/
structure PoolReq where
  seq : Nat
  op : Nat
  part : Nat
  holder : Nat
  ext : Nat
  kib : Nat
  len : Nat
  obj : Option ObjKind
  data : List Byte
deriving DecidableEq, Repr

/-- The tiers (ch 4). `t2day` counts the bytes a half wrote to T2 in day `day`, `t2rep` what it last reported (R88); `compact` that a half compacts (R85); `poison` the 4 KiB granule blocks poisoned
(by device address ÷ 4,096); `mem` the bytes of mapped granules by device address. -/
structure Tiers where
  bands : Tab BandRow
  lys : Tab Stack
  rebuilds : Tab Rebuild
  scrub : Tab (List Scrub)
  t2 : Two T2Half
  flash : Tab Flash
  t2day : Two Nat
  t2rep : Two Nat
  compact : Two Bool
  day : Nat
  demos : Tab Demotion
  pass : Two Pass
  grans : Tab Granule
  gcmds : List GranCmd
  extents : Tab Extent
  borrowed : Tab Borrowed
  lent : Tab Lent
  poolReqs : List PoolReq
  poolSeq : Nat
  poison : List Nat
  mem : Mem
deriving DecidableEq, Repr

/-- The Developer on one session (R107 to R111): the window in force, the T1 KiB still reserved, the REVIVEs that wait,
and the pages fetched whose arrival is awaited are those of the session below T1. -/
structure DevRun where
  window : Nat
  reserve : Nat
  revives : List Cmd
deriving DecidableEq, Repr

/-- A link record (Table 5-3): kind 0 guest (names the home), 1 remote (names the owner). -/
structure LinkRec where
  kind : Nat
  peer : Nat
  handle : Nat
deriving DecidableEq, Repr

/-- An ownership request without its reply (R122). `hdr` is the payload sent; `waits` that it waits for the end of HOLD
(R420); `goal` what a READ is to allow (R118): 0 nothing, 1 the DISCARD, 2 the CLAIM of `cmd`. -/
structure OwnReq where
  waits : Bool
  idx : Nat
  op : Nat
  seq : Nat
  peer : Nat
  handle : Nat
  hdr : Nat
  timeouts : Nat
  cmd : Option Cmd
  goal : Nat
deriving DecidableEq, Repr

/-- A move in progress at its source (R123 to R127): the command, its target endpoint or for a half move the new half, the
state before it, the TTL left in ms, the epoch of its OFFER and whether the home has it, the RESENDs of each object, the
guest handle, whether the move started or waits, AFTER, the status a recall of it gives MIGRATE, and the slot of the new
half kept for the request. -/
structure MoveRun where
  cmd : Cmd
  half : Bool
  target : Nat
  before : SessState
  ttlLeft : Nat
  offerEpoch : Nat
  offered : Bool
  fails : Tab Nat
  guest : Nat
  started : Bool
  after : Bool
  reason : Nat
  slot : Option Nat
deriving DecidableEq, Repr

/-- A staged copy at the target of a device move (R126): the source endpoint and the handle there, the offer's epoch, the
remaining TTL, the state it takes when it becomes owner, the objects expected and placed, whether all are, since when, and
whether a record that names another owner was seen; `asks` how often an object was asked for again, by 2^20 × layer + page; `old` the
home's entry as it stood, where the target of the move is the home. -/
structure StagedCopy where
  source : Nat
  srcHandle : Nat
  offerEpoch : Nat
  ttlLeft : Nat
  before : SessState
  expect : Nat
  got : Nat
  complete : Bool
  doneAt : Nat
  lapsed : Bool
  asks : Tab Nat
  old : Option DirEntry
deriving DecidableEq, Repr

/-- A record relayed to the source of a move, not acknowledged yet (R129). -/
structure Relay where
  seq : Nat
  peer : Nat
  handle : Nat
  guest : Nat
  part : Nat
  body : Rec
deriving DecidableEq, Repr

/-- Revival, ownership and migration (ch 5). `relaySeq` the relays sent by guest session, by its handle; `taken` the last relay posted and `fwd` the SUBMIT and output
ring of a request that runs at the target of its session's move, by the session's handle here (R129); `lapsed` the records that are A-lapsed; `held`
the OFFERs and ACCEPTs that wait for the end of HOLD, as (sender, stream, payload) (R420). -/
structure Own where
  dev : Tab DevRun
  links : Tab LinkRec
  reqs : List OwnReq
  seq : Nat
  moves : Tab MoveRun
  staged : Tab StagedCopy
  relays : List Relay
  relaySeq : Tab Nat
  taken : Tab Nat
  fwd : Tab (Cmd × Nat)
  lapsed : List Nat
  frozenUntil : Nat
  held : List (Nat × Nat × Nat)
deriving DecidableEq, Repr

/-- The mark of a request in a step (Table 6-5). -/
inductive Mark
  | data
  | deferred
  | cancelled
  | poisoned
  | integrity
deriving DecidableEq, Repr

/-- The partial of a split for one query head and position (R166): m, l and o as FP32 bits, whether a finite
contribution exists, and whether the run saturated. -/
structure Partial where
  m : Nat
  l : Nat
  o : List Nat
  empty : Bool
deriving DecidableEq, Repr

/-- Where a split of a round stands. -/
inductive SplitState
  | waiting
  | queued
  | running (core : Nat)
  | proof
  | done (p : List Partial)
deriving DecidableEq, Repr

/-- A request of the step's roster (R139 to R147). `arrived` its QKV of the open round is in; `outSent` its output or
mark of the open round is sent; `q` the query bytes held; `token` the token selected; `dead` GRAMMAR_DEAD; `saved` the
reservation of R66; `grown` KiB of table blocks added in the step and `opened` the pages opened in it. -/
structure InReq where
  slot : Nat
  idx : Nat
  pos : Nat
  ntok : Nat
  sel : Bool
  lc : Bool
  part : Nat
  ids : List Nat
  mark : Mark
  arrived : Bool
  outSent : Bool
  sender : Nat
  q : List Byte
  splits : Tab SplitState
  token : Option Nat
  dead : Bool
  reserve : Nat
  grown : Nat
  opened : List Nat
  inputDone : Bool
  maskHost : Bool
  selHost : Bool
deriving DecidableEq, Repr

/-- A step in flight of a lane on a half (R135): its admission time, the layer and phase of its last open, whether that
round is open, and how many outputs it has sent. `restored` that the lane's next step may have any seq: this one was restored with RESUME,
or its lane was enabled anew while it ran (R137, R292). -/
structure Step where
  seq : Nat
  t0 : Nat
  layer : Nat
  selPhase : Bool
  roundOpen : Bool
  nout : Nat
  nmark : Nat
  reqs : List InReq
  opener : Nat
  ab : Bool
  restored : Bool
deriving DecidableEq, Repr

/-- A round open that is held: its header word and sender. -/
structure HeldOpen where
  half : Nat
  lane : Nat
  src : Nat
  hdr : Nat
deriving DecidableEq, Repr

/-- A lane on one half. `last` the last committed seq, none since the lane was enabled or restored; `shown` what the
entry reads; `ivals` the round intervals kept, newest first, with the time of the last admission; `prev` the seq, last
layer, selection phase and abandonment of the step committed last (R136). -/
structure LaneHalf where
  step : Option Step
  last : Option Nat
  shown : Nat
  held : Option HeldOpen
  ivals : List Nat
  lastOpen : Option Nat
  stopping : Bool
  timer : Bool
  prev : Option (Nat × Nat × Bool × Bool)
deriving DecidableEq, Repr

/-- What a core runs. -/
inductive Work
  | split (half lane slot layer j : Nat)
  | proof (id run : Nat)
  | kat (pattern : Nat) (byTest : Bool)
  | scan (task : Nat)
deriving DecidableEq, Repr

/-- A compute core: the partition it serves with the end of its slice, what it runs, whether it is excluded, whether
its last test failed and whether its scratchpad was cleared since the last partition change. -/
structure Core where
  cur : Option Nat
  sliceEnd : Nat
  run : Option Work
  excluded : Bool
  failed : Bool
deriving DecidableEq, Repr

/-- A queue of splits (R143): half, partition and class (0 Proof, 1 LC, 2 BE, 3 scans). -/
structure WorkQ where
  half : Nat
  part : Nat
  cls : Nat
  items : List Work
deriving DecidableEq, Repr

/-- The Stop bath (R148): its level, whether it is quiet, whether its lateness was reported, who started it, and the
opens held in arrival order. `ckpt` that a checkpoint holds it. -/
structure Bath where
  level : Nat
  mask : Nat
  quiet : Bool
  ckpt : Bool
  held : List HeldOpen
deriving DecidableEq, Repr

/-- Lanes, steps and cores (ch 6), lanes by 8 × half + lane. `modes` the modes of subindices 0x01 to 0x06 that a partition's work on a
lane still runs in until the lane's step boundary after a write (R33), by 16 × partition + 8 × half + lane. -/
structure Sched where
  lanes : Tab LaneHalf
  cores : Tab Core
  queues : List WorkQ
  bath : Bath
  modes : Tab (List Nat)
deriving DecidableEq, Repr

/-- A curve table installed or built in (Table 7-3): its id, header fields and FP32 coefficients, segment-major. -/
structure Curve where
  id : Nat
  kind : Nat
  deg : Nat
  lgseg : Nat
  lo : Nat
  hi : Nat
  coef : List Nat
deriving DecidableEq, Repr

/-- An installed model profile (R173): the fields of Tables 7-5, 8-8 and 9-4 as they stood when it was loaded.
`rcap` is formed at the load (R160); `kdt` and `vdt` are the decode tables by id (R175 keeps them while it is loaded). `raw` are the
staging subindices as they stood, by subindex. -/
structure Profile where
  latent : Bool
  heads : Nat
  g : Nat
  dk : Nat
  dv : Nat
  kfmt : Nat
  vfmt : Nat
  kvin : Nat
  qfmt : Nat
  ofmt : Nat
  layers : Nat
  maxCtx : Nat
  scale : Nat
  kdt : Nat
  vdt : Nat
  expCurve : Nat
  cap : Nat
  rcap : Nat
  tanhCurve : Nat
  rotMode : Nat
  rbase : Nat
  rlen : Nat
  freqs : List Nat
  window : Nat
  wbits : Nat
  sinks : Nat
  alibi : Bool
  slopes : List Nat
  sinkOn : Bool
  sinkZ : List Nat
  chunk : Nat
  tokenizer : Nat
  endToks : List Nat
  vocab : Nat
  raw : Tab (List Byte)
deriving DecidableEq, Repr

/-- A parameter block (Table 9-1). -/
structure SelParams where
  temp : Nat
  topp : Nat
  minp : Nat
  rep : Nat
  freq : Nat
  pres : Nat
  seed : Nat
  topk : Nat
  incp : Bool
  raw : List Byte
deriving DecidableEq, Repr

/-- A candidate: its id and its value. -/
structure Cand where
  id : Nat
  x : Nat
deriving DecidableEq, Repr

/-- A detokenize exchange's place in commit order (R199): its exchange id, the token, its answer when it came, and the
produced count of its commit. -/
structure DetokWait where
  xid : Nat
  token : Nat
  reply : Option (List Byte)
  produced : Nat
deriving DecidableEq, Repr

/-- Where the records of a moved request go (R129): the source endpoint and the session's handle there. -/
structure RelayTo where
  peer : Nat
  handle : Nat
deriving DecidableEq, Repr

/-- The request record of an occupied stream slot (ch 2, Tracking on the control core). Input: `collecting` until the
last buffer is tokenized, `heldIn` and `pre` what is held between buffers, `ids` the prompt ids so far; `todo` the ids
of the prompt not stored yet, tail token included once queued. Output: `heldOut` the incomplete subpart, `unrel` the
withheld characters. `counts` is the slot's count table, and `countSats` the ids whose entry has its SAT bit set. -/
structure Request where
  idx : Nat
  cmd : Cmd
  desc : Desc
  half : Nat
  part : Nat
  lane : Nat
  lc : Bool
  order : Nat
  maxNew : Nat
  deadline : Nat
  ring : Nat
  chunk : Nat
  tok : Bool
  tokHost : Bool
  detokHost : Bool
  collecting : Bool
  inBytes : Nat
  heldIn : List Byte
  pre : PreSplit
  bufs : List (Nat × Nat)
  ids : List Nat
  replaced : Nat
  firstRep : Option Nat
  started : Bool
  todo : List Nat
  charge : Nat
  produced : Nat
  params : SelParams
  counts : Tab Nat
  countFull : Bool
  countSats : List Nat
  grammar : Nat
  stops : Nat
  gcfg : Option GCfg
  sinceG : List Nat
  sinceS : List Nat
  heldOut : List Byte
  outOff : Nat
  unrel : List Chr
  outFix : Bool
  cut : Bool
  discarded : Nat
  detok : List DetokWait
  deferRun : Bool
  missRun : Bool
  relay : Option RelayTo
deriving DecidableEq, Repr

/-- An accepted SELECT message's shard (R203): its normaliser and its candidates, or its slice of logits. -/
structure Shard where
  ms : Nat
  ls : Nat
  base : Nat
  cands : List Cand
deriving DecidableEq, Repr

/-- The selection input of a request in its step (R203, R210). `list` the list stage 1 left once the mask is applied,
`rho` its rest mass; `mask` and `pick` that the mask or the selection waits for the host. -/
structure SelIn where
  full : Bool
  nshard : Nat
  shards : Tab Shard
  senders : List Nat
  trip : Bool
  complete : Bool
  list : List Cand
  rho : Nat
deriving DecidableEq, Repr

/-- An exchange (R197): its function code, whom it is for, its payload, and whether it has been written to a buffer.
`ref` is the vector query or requantize command it belongs to. -/
structure Exch where
  xid : Nat
  func : Nat
  part : Nat
  half : Nat
  slot : Nat
  handle : Nat
  seq : Nat
  n : Nat
  kc : Nat
  payload : List Byte
  sent : Bool
  ref : Nat
deriving DecidableEq, Repr

/-- A buffer lent with ASSIST_POST. -/
structure AssistBuf where
  cmd : Cmd
  part : Nat
  addr : Nat
  len : Nat
deriving DecidableEq, Repr

/-- Sessions and requests (ch 2, ch 8, ch 9): the directory by index (unlisted entries are as after reset), the request
records by slot, the selection inputs of the steps in flight by slot, the exchanges and the buffers posted; `order`
counts submissions and turns to IDLE, and `idle` holds the count at which an IDLE session became so (R93); `closes` the CLOSEs
that waits for the step boundary, `pgen` the generation of a fork child's parent, and `held` the slots of requests that ended while their
session was MOVING, freed when the move ends (Table 2-2), by directory index. -/
structure Sess where
  dir : Tab DirEntry
  slots : Tab Request
  order : Nat
  idle : Tab Nat
  selIn : Tab SelIn
  exs : List Exch
  bufs : List AssistBuf
  xid : Two Nat
  closes : Tab (List Cmd)
  pgen : Tab Nat
  held : Tab (List Nat)
deriving DecidableEq, Repr

/-- The tag word of a hot-region slot that is not EMPTY (R220): the row, 1 FILLING, 2 VALID or 3 EVICTING, DIRTY, and
the row whose fill takes the way after the eviction (R222). -/
structure EmbTag where
  row : Nat
  st : Nat
  dirty : Bool
  next : Option Nat
deriving DecidableEq, Repr

/-- A row update held in the side buffer of memory port `port` (R223 to R225): an add with its deltas (BF16 when `df`),
or a set with its row. -/
structure RowUpd where
  table : Nat
  row : Nat
  isSet : Bool
  df : Bool
  data : List Byte
  port : Nat
deriving DecidableEq, Repr

/-- A set waiting for the commit of its table's lane (R230). -/
structure SetRec where
  table : Nat
  row : Nat
  seq : Nat
  pos : Nat
  sender : Nat
  data : List Byte
deriving DecidableEq, Repr

/-- A loaded embedding table: its home half, the tags by slot index, and the cells of its sketch that are not 0, by
16,384 × bank + cell (R221). -/
structure EmbTab where
  home : Nat
  tags : Tab EmbTag
  sketch : Tab Nat
deriving DecidableEq, Repr

/-- A REQUANT in host mode (R232): its command, tables, the exchanges open as (exchange id, first row, rows), and the rows answered so far by
first row. -/
structure Requant where
  cmd : Cmd
  src : Nat
  dst : Nat
  count : Nat
  open_ : List (Nat × Nat × Nat)
  got : Tab (List Byte)
deriving DecidableEq, Repr

/-- The rows of a step's ids that wait for the bridge (R24, R228): the table, the half of the lane, the sender of the open, the step's
sequence and the ids. -/
structure InputWait where
  table : Nat
  half : Nat
  dst : Nat
  seq : Nat
  ids : List Nat
deriving DecidableEq, Repr

/-- The embedding service islands (ch 10). -/
structure Emb where
  tabs : Tab EmbTab
  held : List RowUpd
  sets : Two (List SetRec)
  reqs : List Requant
  inputs : List InputWait
deriving DecidableEq, Repr

/-- A match of a query (Table 11-6). -/
structure VMatch where
  id : Nat
  attr : Nat
  dist : Nat
  num : Nat
  list : Nat
  slot : Nat
deriving DecidableEq, Repr

/-- A scan task (R249): its query, the list and the first of its 1,024 slots. -/
structure VTask where
  query : Nat
  list : Nat
  first : Nat
deriving DecidableEq, Repr

/-- A query in flight (R247): `ranking` the lists by centroid distance, `probed` how many of them are probed, `left` the
scan tasks unfinished, `xid` its ranking exchange. -/
structure VQuery where
  cmd : Cmd
  index : Nat
  desc : Desc
  half : Nat
  part : Nat
  q : List Nat
  qe : Nat
  ranking : List Nat
  probed : Nat
  left : List Nat
  found : List VMatch
  hostMode : Bool
  xid : Option Nat
deriving DecidableEq, Repr

/-- A loaded index (R237): its home half, the published epoch of the island's copy, and the unload that waits. -/
structure VIndex where
  home : Nat
  epoch : Nat
  unloading : Bool
deriving DecidableEq, Repr

/-- The vector search islands (ch 11); `next` names the next query and task. -/
structure Vec where
  idx : Tab VIndex
  queries : Tab VQuery
  tasks : Tab VTask
  next : Nat
deriving DecidableEq, Repr

/-- An open Proof (R263 to R266): the split, the original's core and partials, the run in progress (2 replay, 3 third,
0 none placed yet), the replay's core, partials and whether its check passed, the first page handle of the split, and the held work: session,
positions and query rows. -/
structure Proof where
  half : Nat
  lane : Nat
  slot : Nat
  layer : Nat
  j : Nat
  part : Nat
  core : Nat
  orig : List Partial
  run : Nat
  rcore : Nat
  rep : List Partial
  repOk : Bool
  page : Nat
  discard : Bool
  idx : Nat
  pos : Nat
  ntok : Nat
  q : List Byte
deriving DecidableEq, Repr

/-- A TEST that waits (R270). -/
structure TestRun where
  cmd : Cmd
  core : Nat
  pattern : Nat
  addr : Nat
deriving DecidableEq, Repr

/-- Integrity (ch 12): open Proofs by id, TESTs waiting, the automatic runs still to do in the period per half as
64 × core + pattern, the cores whose last test failed, and the failures of each unit in the current day by
1,000 × kind + unit (core faults under kind 9). -/
structure Integ where
  proofs : Tab Proof
  next : Nat
  tests : List TestRun
  kat : Two (List Nat)
  badCores : List Nat
  daily : Tab Nat
deriving DecidableEq, Repr

/-- A message (Table 14-6): its routing header fields, and the bytes after that header. -/
structure Msg where
  dst : Nat
  src : Nat
  part : Nat
  mtype : Nat
  vc : Nat
  enc : Bool
  hops : Nat
  ctr : Nat
  body : List Byte
deriving DecidableEq, Repr

/-- A data flit (Table 14-4), its ack, credit return and crc formed when it is sent. -/
structure Flit where
  seq : Nat
  vc : Nat
  som : Bool
  eom : Bool
  abt : Bool
  payload : List Byte
deriving DecidableEq, Repr

/-- A message waiting on a link and VC; `tag` its finish tag once it is the head of its partition's queue (R319); `spilled` that its
flits stand in the spill buffer (R318); `cut` the len of the routing header of a forwarded message that ends early, with EOM and
ABT (R306). -/
structure QMsg where
  msg : Msg
  tag : Option Nat
  fwd : Bool
  arrived : Nat
  spilled : Bool
  cut : Option Nat
deriving DecidableEq, Repr

/-- The sending side of a VC of a link (R303, R319): virtual time, finish tags, the queues by partition, the flits of
the message started that are still to send, the credits left and the last ctot seen. -/
structure VcOut where
  v : Nat
  f : Tab Nat
  queues : Tab (List QMsg)
  cur : List Flit
  curFwd : Bool
  credit : Nat
  ctot : Nat
deriving DecidableEq, Repr

/-- The receiving side of a VC of a link: the bytes of the message being received, whether one is, the flits freed
since training, and those whose credit is held back (R318). -/
structure VcIn where
  asm : List Byte
  on : Bool
  freed : Nat
  owed : Nat
deriving DecidableEq, Repr

/-- An Ikieb link (Table 14-3): state 0 DOWN, 1 TRAIN, 2 UP, 3 HALF, 4 EXCLUDED; wavelengths in use and lost; the peer
of the CAP; the training attempt's CAP and CAP_ACK; the replay buffer oldest first; `narrowing` while a narrowing
retrain runs; `last` the seq of the last data flit in order, `nak` that a NAK is out; `gate` the time its schedule's
cycle began and `gateAt` its entry; `cvc` the VC whose credit return the next flit names (R303). -/
structure Link where
  st : Nat
  used : Nat
  lost : Nat
  peer : Nat
  peerKind : Nat
  gotCap : Option Nat
  gotAck : Bool
  narrowing : Bool
  replay : List Flit
  nextSeq : Nat
  last : Nat
  nak : Bool
  replays : Nat
  vout : Tab VcOut
  vin : Tab VcIn
  mismatch : Bool
  gate : Nat
  gateAt : Nat
  replayUs : Nat
  replayMax : Nat
  cvc : Nat
deriving DecidableEq, Repr

/-- A meter (R321): its tokens in 2⁻³² byte and the island cycle of its last update. -/
structure Meter where
  tc : Nat
  tp : Nat
  last : Nat
deriving DecidableEq, Repr

/-- A half's spill buffer (R318): the flits in it, its size in MiB in force, whether 3/4 and full hold. The flits
themselves wait in the queues and in the message being sent. -/
structure Spill where
  occ : Nat
  mib : Nat
  high : Bool
  full : Bool
deriving DecidableEq, Repr

/-- A per-request message that waits for the bridge (R21, R24): a SELECT or a QKV, as it arrived. -/
structure Crossing where
  sel : Bool
  src : Nat
  lane : Nat
  hdr : Nat
  data : List Byte
  crc : Nat
deriving DecidableEq, Repr

/-- The links and the fabric (ch 14, ch 15). `meters` stage A by 64 × group + partition and stage B by 4,096 + group;
`mapOk` that the fabric map was accepted; `txCtr` and `rxTop` the message counters by 64 × partition + endpoint, and
`rxSeen` the counters seen within the window; `keys` the partitions with a link key installed; `lasers` the sources
failed, 4 × port + wavelength; `crossing` the messages that wait for the bridge, oldest first, `waiting` those to be forwarded over
it, with the link each came in on, and `parked` the commands and messages that wait for it, each command as taken and its partition. -/
structure Fabric where
  links : Tab Link
  meters : Tab Meter
  spill : Two Spill
  mapOk : Bool
  keys : List Nat
  txCtr : Tab Nat
  rxTop : Tab Nat
  rxSeen : Tab (List Nat)
  lasers : List Nat
  crossing : List Crossing
  waiting : List (Nat × Msg × Option Nat)
  parked : List (Option (Cmd × Nat) × Instr)
deriving DecidableEq, Repr

/-- The progress of SPDM on a transport outside sessions (R361): 0 nothing, 1 version, 2 capabilities, 3 algorithms;
the bytes of a large request being sent in chunks with its handle and next number, and of a large response. -/
structure SpdmConn where
  via : Via
  stage : Nat
  chunkIn : List Byte
  chunkHandle : Nat
  chunkNext : Nat
  chunkOut : List Byte
  outHandle : Nat
  outNext : Nat
  transcript : List Byte
deriving DecidableEq, Repr

/-- A secured session (R362, R363): its transport, whether FINISH completed it, the principal (0 none, partition + 1
otherwise), whether the requester's chain was asked for and came, and when its last message came. -/
structure SpdmSess where
  via : Via
  open_ : Bool
  principal : Nat
  asked : Bool
  chain : List Byte
  last : Nat
  keyGen : Nat
deriving DecidableEq, Repr

/-- The root-of-trust's security state (ch 17): SPDM by transport and session; `memKeys` the DRBG draw that made each
memory key held, `imported` packages' wrapped bytes for keys that came by import, `linkKeys` the link keys held;
`draws` counts the DRBG's draws; `chainKey` the Attestation key that the chain of slot 1 certifies (R359). -/
structure Sec where
  conns : List SpdmConn
  sess : Tab SpdmSess
  memKeys : Tab Nat
  imported : Tab (List Byte)
  linkKeys : Tab (List Byte)
  entropyBad : Bool
  draws : Nat
  noKeySeen : List Nat
  chainKey : List Byte
deriving DecidableEq, Repr

/-- A port's time map on one half (R404, R405): the last accepted sample and the island time of it. -/
structure TimeMap where
  h : Nat
  s : Nat
  e : Int
  have_ : Bool
  valid : Bool
deriving DecidableEq, Repr

/-- The device calendar (R407 to R410): state 0 UNSET, 1 RESUMED, 2 SET; ms now; the slew left in ms with its fraction
in 10⁻⁶ ms; `saved` the copy in eMRAM; each half's copy with the ms since a value came and whether it runs
free. -/
structure Calendar where
  st : Nat
  now : Nat
  slew : Int
  frac : Nat
  saved : Nat
  copy : Two Nat
  age : Two Nat
  free : Two Bool
deriving DecidableEq, Repr

/-- A half's lease and the root-of-trust's view of it (R416 to R420): HOLD, when the half's own lease ends, the epoch
and lead flag of its last grant, and whether the root-of-trust's grant runs. -/
structure HalfLease where
  hold : Bool
  sentAt : Nat
  ends : Nat
  epoch : Nat
  lead : Bool
  rotRuns : Bool
  stalled : Bool
deriving DecidableEq, Repr

/-- The lead (R417): the half that leads in the root-of-trust's view, none while nobody does, the epoch E, and the half
that a write names while the drop of the present lead is awaited. -/
structure Lead where
  half : Option Nat
  epoch : Nat
  moving : Option Nat
deriving DecidableEq, Repr

/-- An island (Table 19-7): slack, ring oscillator, temperature, applied voltage, its plan (0 NONE, 1 PENDING, 2
PROPOSED, 3 APPROVED) with Vp and sequence, the lifetime counts, and the fraction of a stress second carried as FP32. -/
structure Island where
  slack : Nat
  ring : Nat
  temp : Int
  volt : Nat
  plan : Nat
  vp : Nat
  seq : Nat
  active : Nat
  stress : Nat
  frac : Nat
  hottest : Int
  duty : Nat
  low : Bool
deriving DecidableEq, Repr

/-- Clocks, time and lifetime (ch 19); maps by 2 × port + half. `base` is the extreme of the hottest sensor since the last turn
of a thermal cycle, and `falling` that a fall of 40 °C is awaited. -/
structure Clocks where
  maps : Tab TimeMap
  cal : Calendar
  lease : Two HalfLease
  lead : Lead
  islands : Tab Island
  planSeq : Nat
  onSeconds : Nat
  cycles : Nat
  thermal : Nat
  hotSeconds : Nat
  base : Option Int
  falling : Bool
deriving DecidableEq, Repr

/-- A firmware slot (Table 20-7): 0 EMPTY, 1 WRITING, 2 TRIAL, 3 ACTIVE, 4 STANDBY, 5 FAILED; its bytes and bseq. -/
structure FwSlot where
  st : Nat
  bseq : Nat
  bytes : List Byte
deriving DecidableEq, Repr

/-- The service port (Table 20-9): the delivery's slot, bytes received, length and result, and the I3C settings. -/
structure Service where
  slot : Nat
  recv : Nat
  blen : Nat
  bseq : Nat
  result : Nat
  st : Nat
  lastLen : Nat
  addr : Nat
  dyn : Bool
  mwl : Nat
  mrl : Nat
  events : Bool
deriving DecidableEq, Repr

/-- An anchor run of a checkpoint slot (R429). -/
structure AnchorRun where
  first : Nat
  count : Nat
  tier : Nat
  loc : Nat
  ext : Nat
  len : Nat
  addr : Nat
deriving DecidableEq, Repr

/-- Start-up, reset and firmware (ch 20): mode 0 STARTING, 1 NORMAL, 2 TEST, 3 RECOVERY; whether it was TEST before the
reset; the last reset; start-ups ever; the slots, the slot in use (2 before the ROM chose), those failed in this power cycle and the one tried
last, the fall back to report; halves in their half start-up; secver and version running by kind; the refclk absent; the bridge down
(R24); straps; power off (shutdown); records dropped since 0xF000.0A was written. -/
structure Boot where
  mode : Nat
  wasTest : Bool
  lastReset : Nat
  starts : Nat
  slots : Two FwSlot
  use : Nat
  failed : List Nat
  fellBack : Option (Nat × Nat)
  halfStart : Two Bool
  secver : List Nat
  version : List Nat
  refLost : Bool
  bridge : Bool
  bslot : Nat
  leadPref : Nat
  off : Bool
  shut : Bool
  dropped : Bool
  serv : Service
  anchors : Two (List AnchorRun)
deriving DecidableEq, Repr

/-- Power pacing (R454): duty of the three kinds in %, the samples of the last 10 ms in W, newest first, the 100 µs
intervals the average has stayed below the limit less 50 W. -/
structure Power where
  duty : List Nat
  samples : List Nat
  below : Nat
deriving DecidableEq, Repr

/-- A segment of an image (Table 13-3): its kind, half, partition, bytes and records. -/
structure Seg where
  kind : Nat
  half : Nat
  part : Nat
  len : Nat
  nrec : Nat
deriving DecidableEq, Repr

/-- A checkpoint image (Table 13-1): its record fields, the state captured at the cut and the segments that carry it; `base` the device
address of the slot that holds it, `keys` what names each partition's memory key at the cut (R281), `waits` the slots that await a
tokenize exchange. The bytes of its segments are encrypted; the model holds what they say. -/
structure Image where
  seq : Nat
  method : Nat
  src : Nat
  base : Nat
  keys : Tab (List Byte)
  cut : Nat
  step : Nat
  parts : Nat
  vals : Tab (List Byte)
  dir : Tab DirEntry
  links : Tab LinkRec
  pages : Pages
  slots : Tab Request
  selIn : Tab SelIn
  bufs : List AssistBuf
  lanes : Tab LaneHalf
  grans : Tab Granule
  mem : Mem
  poison : List Nat
  emb : Emb
  holds : Tab Nat
  rings : Tab Nat
  waits : List Nat
  segs : List Seg
deriving DecidableEq, Repr

/-- An open checkpoint (R283 to R287): phase 1 quiescing, 2 draining, 3 the contact sheet and 4 the commit record being written; the command, none when a Dictionary
write started it; the target slot (1 A, 2 B); whether the zeros are durable; the image cut; the second image of the
double-copy method; the halves drained; the pages of the cut neither drained nor copied; and per half the bytes in the
Negative buffer and whether it was full. -/
structure CkptRun where
  phase : Nat
  cmd : Option Cmd
  target : Nat
  double : Bool
  second : Bool
  seq : Nat
  zeroed : Bool
  img : Option Image
  drained : Two Bool
  todo : List Nat
  buf : Two Nat
  full : Two Bool
deriving DecidableEq, Repr

/-- Checkpoints (ch 13): the open one, the images that slots 1 (A) and 2 (B) hold with a valid record, the restore mark
of eMRAM, the restore in progress (its command, image slot and RESUME), and per lane and half (2 × lane + half) the seq
of the restored step. -/
structure Ckpt where
  run : Option CkptRun
  slots : Tab Image
  mark : Bool
  restore : Option (Option Cmd × Nat × Bool)
  resumed : Tab Nat
deriving DecidableEq, Repr

/-- What the device sends out, newest first: the model's trace of its pins, links, ports and answers. -/
inductive Out
  /-- A link message originated or delivered to the unit that serves it (`inward`). -/
  | msg (m : Msg) (inward : Bool)
  /-- A flit on a link: ftype, the data flit sent, the record of a link-control flit, and its 2,048 bits (Table 14-4). -/
  | flit (link ftype : Nat) (f : Option Flit) (rec bits : Nat)
  /-- A record posted on a ring, with the ring's key and index. -/
  | post (ring idx : Nat) (r : Rec)
  /-- A DMA write to host memory of function `fn`. -/
  | dma (fn addr : Nat) (b : List Byte)
  /-- An MSI-X message. -/
  | msix (fn vector : Nat)
  /-- A CXL.mem answer: data, poison, or 0 data outside every window, and whether the line was granted. -/
  | cxl (port hoff : Nat) (data : List Byte) (poison granted : Bool)
  /-- A back-invalidate snoop for a line. -/
  | snoop (port line : Nat)
  /-- A Dictionary response PDU with its value bytes. -/
  | dict (o : Origin) (pdu : Nat) (value : List Byte)
  /-- A field network frame: destination, ethertype frame type and header, payload. -/
  | frame (dst kind hdr : Nat) (payload : List Byte)
  /-- An SPDM message assembled from fragments, delivered to the root-of-trust. -/
  | spdmMsg (via : Via) (secured : Bool) (b : List Byte)
  /-- An SPDM response. -/
  | spdm (via : Via) (sid : Option Nat) (b : List Byte)
  /-- A service port answer. -/
  | i3c (b : List Byte)
  /-- A TDISP or IDE key-management response of a function or port. -/
  | tdisp (fn code : Nat)
  /-- A request between the halves or to the root-of-trust: kind, sender and value. -/
  | inner (kind a b : Nat)
deriving DecidableEq, Repr

/-- The state of the SC2: its parts, the island time last seen in ns, the trace of what it sent, and the commands that
wait. -/
structure State where
  pending : List Instr
  out : List Out
  ns : Nat
  free : Nat
  ctr : Counters
  ev : Events
  sess : Sess
  pages : Pages
  tiers : Tiers
  own : Own
  sched : Sched
  profs : Tab Profile
  emb : Emb
  vec : Vec
  integ : Integ
  ckpt : Ckpt
  fab : Fabric
  host : HostPort
  sec : Sec
  dict : Dict
  boxes : Tab Mailbox
  fnet : FieldNet
  maint : Maint
  clk : Clocks
  boot : Boot
  power : Power
deriving DecidableEq, Repr

/-- Every Lysing stack with all of its 48 GiB queued for scrub (R67, R428). -/
def scrubAll : Tab (List Scrub) :=
  (List.range 32).map (fun k => (k, [{ loc := k * 2 ^ 26, kib := 50331648 }]))

/-- A half's T2 side with nothing written. -/
def T2Half.empty : T2Half := { cur := 0, fill := 0, buf := [], last := 0, stripes := [] }

/-- The T1 to T4 state a start-up leaves: no band in use, no object, every T1 byte queued for scrub. -/
def Tiers.start : Tiers :=
  { bands := [], lys := [], rebuilds := [], scrub := scrubAll, t2 := { w := T2Half.empty, e := T2Half.empty }, flash := []
    t2day := { w := 0, e := 0 }, t2rep := { w := 0, e := 0 }, compact := { w := false, e := false }, day := 0, demos := []
    pass := { w := { running := false, sessions := [], granules := [] }
              e := { running := false, sessions := [], granules := [] } }
    grans := [], gcmds := [], extents := [], borrowed := [], lent := [], poolReqs := [], poolSeq := 1, poison := []
    mem := [] }

/-- No session. -/
def Sess.start : Sess :=
  { dir := [], slots := [], order := 0, idle := [], selIn := [], exs := [], bufs := [], xid := { w := 0, e := 0 }
    closes := [], pgen := [], held := [] }

/-- No page. -/
def Pages.start : Pages :=
  { tables := [], pages := [], shares := [], blkRecs := [], charge := [], resv := [], next := 1 }

/-- No revival, move or request outstanding. -/
def Own.start : Own :=
  { dev := [], links := [], reqs := [], seq := 1, moves := [], staged := [], relays := [], relaySeq := [], taken := []
    fwd := [], lapsed := [], frozenUntil := 0, held := [] }

/-- Every lane as after a start-up, every core idle, no bath. -/
def Sched.start : Sched :=
  { lanes := [], cores := [], queues := []
    bath := { level := 0, mask := 0xFF, quiet := false, ckpt := false, held := [] }, modes := [] }

/-- No embedding table loaded. -/
def Emb.start : Emb := { tabs := [], held := [], sets := { w := [], e := [] }, reqs := [], inputs := [] }

/-- No index loaded. -/
def Vec.start : Vec := { idx := [], queries := [], tasks := [], next := 1 }

/-- No Proof, no test waiting. -/
def Integ.start : Integ :=
  { proofs := [], next := 1, tests := [], kat := { w := [], e := [] }, badCores := [], daily := [] }

/-- A spill buffer of 0x4100.04's default size, empty. -/
def Spill.start : Spill := { occ := 0, mib := 512, high := false, full := false }

/-- Every link DOWN, no map accepted, no key held. -/
def Fabric.start : Fabric :=
  { links := [], meters := [], spill := { w := Spill.start, e := Spill.start }, mapOk := false, keys := []
    txCtr := [], rxTop := [], rxSeen := [], lasers := [], crossing := [], waiting := [], parked := [] }

/-- No ring, every port down. -/
def HostPort.start : HostPort :=
  { rings := [], fnGen := [], unmasked := [], pendingV := [], ports := [], regions := [], waiting := [], pubs := []
    held := [], heldLost := [], dma := [], tdi := [], ideStreams := [], ideDown := [], stops := []
    dmaHeld := [], atoms := [], dmaNext := 1, imgRings := [], bifur := 0 }

/-- No SPDM session and no key but partition 0's memory key. -/
def Sec.start : Sec :=
  { conns := [], sess := [], memKeys := [(0, 0)], imported := [], linkKeys := [], entropyBad := false, draws := 1
    noKeySeen := [], chainKey := [] }

/-- The field network before its link comes up. -/
def FieldNet.start : FieldNet :=
  { link := 0, kept := [], backlog := [], unacked := [], lost := false, asm := []
    fseq := 0, cfg := [] }

/-- A half's lease at a start-up: RUN (Table 19-6), no grant received yet. -/
def HalfLease.start : HalfLease :=
  { hold := false, sentAt := 0, ends := 0, epoch := 0, lead := false, rotRuns := false, stalled := false }

/-- Clocks and lifetime of a device first powered: calendar UNSET, lead epoch 1, lead with the strap's half. -/
def Clocks.start : Clocks :=
  { maps := []
    cal := { st := 0, now := 0, slew := 0, frac := 0, saved := 0, copy := { w := 0, e := 0 }, age := { w := 0, e := 0 }
             free := { w := false, e := false } }
    lease := { w := HalfLease.start, e := HalfLease.start }
    lead := { half := some 0, epoch := 1, moving := none }
    islands := [], planSeq := 0, onSeconds := 0, cycles := 1, thermal := 0, hotSeconds := 0, base := none
    falling := false }

/-- An EMPTY firmware slot. -/
def FwSlot.empty : FwSlot := { st := 0, bseq := 0, bytes := [] }

/-- The service port at its own reset (Table 20-8). -/
def Service.start : Service :=
  { slot := 0xFF, recv := 0, blen := 0, bseq := 0, result := 0, st := 0, lastLen := 0, addr := 0, dyn := false
    mwl := 1036, mrl := 16, events := true }

/-- STARTING after the first power-on, firmware slots EMPTY as Table 20-10 gives them. -/
def Boot.start : Boot :=
  { mode := 0, wasTest := false, lastReset := 0, starts := 1, slots := { w := FwSlot.empty, e := FwSlot.empty }, use := 2
    failed := [], fellBack := none, halfStart := { w := false, e := false }, secver := [0, 0, 0], version := [0, 0, 0]
    refLost := false, bridge := false, bslot := 0, leadPref := 0, off := false, shut := false, dropped := false
    serv := Service.start, anchors := { w := [], e := [] } }

/-- The machine right after its first power-on reset: the device mode is STARTING, everything of Table 20-1 that a
power-on loses is absent, and the Dictionary holds its defaults. -/
def State.reset : State :=
  { pending := [], out := [], ns := 0, free := 0
    ctr := { val := [], sat := [], rest := [] }
    ev := { seq := 0, log := [], latch := [], wait := [] }
    sess := Sess.start, pages := Pages.start, tiers := Tiers.start, own := Own.start, sched := Sched.start, profs := []
    emb := Emb.start, vec := Vec.start, integ := Integ.start
    ckpt := { run := none, slots := [], mark := false, restore := none, resumed := [] }
    fab := Fabric.start, host := HostPort.start, sec := Sec.start
    dict := { vals := [], store := [], snaps := [], staged := [], pend := [] }
    boxes := [], fnet := FieldNet.start, maint := { st := 0, written := 0 }, clk := Clocks.start, boot := Boot.start
    power := { duty := [100, 100, 100], samples := [], below := 0 } }

end Sys2Proof.Machine
end

