-- ==== Sys2Proof/Machine/Attn.lean ====
section
/-!
DEFINITION. Attention arithmetic (ch 7): page geometry, element conversion, rotary encoding, curves, split partials,
the check of a split, the merge tree and the output, bit for bit.
-/

namespace Sys2Proof.Machine

/-- Heads of value rows stored: 0 for a latent profile (Table 3-1). -/
def Profile.vbytes (p : Profile) : Nat := if p.latent then 0 else p.heads * p.dv * fmtBytes p.vfmt
/-- Bytes of a key row over every head. -/
def Profile.kbytes (p : Profile) : Nat := p.heads * p.dk * fmtBytes p.kfmt

/-- The page size P in bytes (R50). -/
def Profile.pageBytes (p : Profile) : Nat := 1024 * cdiv (128 + 16 * p.kbytes + 16 * p.vbytes + 64 * p.heads) 1024
/-- P in KiB. -/
def Profile.pageKib (p : Profile) : Nat := p.pageBytes / 1024
/-- ⌈P ÷ 7⌉ in KiB: the parity share of a page (R66). -/
def parityKib (kib : Nat) : Nat := cdiv kib 7
/-- The charge of an OPEN page of `kib` KiB (Table 3-8). -/
def openCharge (kib : Nat) : Nat := 2 * kib + parityKib kib
/-- The charge of a SEALED page of `kib` KiB (Table 3-8). -/
def sealedCharge (kib : Nat) : Nat := kib + parityKib kib

/-- A byte list cut into elements of `n` bytes, `fuel` of them. -/
def elems (n : Nat) : Nat → List Byte → List Nat
  | 0, _ => []
  | k + 1, b => leNat (b.take n) :: elems n k (b.drop n)

/-- Elements as bytes. -/
def elemBytes (n : Nat) (l : List Nat) : List Byte := l.flatMap (leBytes n)

/-- The first `k` lists of `n` elements of a list. -/
def groups {α : Type} (n : Nat) : Nat → List α → List (List α)
  | 0, _ => []
  | k + 1, l => l.take n :: groups n k (l.drop n)

/-- Horner's steps of R163: from the coefficients below the highest, highest first. -/
def horner (u : Nat) : List Nat → Nat → Nat → Fv
  | [], y, s => { v := y, s := s }
  | c :: t, y, s =>
    let a := fmul' y u
    let b := fadd' a.v c
    horner u t b.v (s + a.s + b.s)

/-- A curve evaluated at `x0` (R163). -/
def Curve.eval (c : Curve) (x0 : Nat) : Fv :=
  let x := if c.kind = 1 && x0 == 2 ^ 31 then 0 else x0
  if flt x c.lo then { v := if c.kind = 1 then 0 else 0xBF800000, s := 0 }
  else if flt c.hi x then { v := 0x3F800000, s := 0 }
  else
    let dl := fp32.dec c.lo
    let dh := fp32.dec c.hi
    let d := (fp32.dec x).add (fp32.dec (fneg c.lo))
    let w := dh.add (fp32.dec (fneg c.lo))
    let e := min d.e w.e
    let n := 2 ^ c.lgseg
    let k := min (n - 1) (d.m * pow2n (d.e - e) * n / (w.m * pow2n (w.e - e)))
    -- lo + k·w with w = (hi − lo) ÷ N, exactly
    let seg := dl.add { neg := false, m := w.m * k, e := w.e - (c.lgseg : Int) }
    let u := rndDya ((fp32.dec x).add { seg with neg := !seg.neg })
    let cs := slice' c.coef (k * (c.deg + 1)) (c.deg + 1)
    match cs.reverse with
    | [] => { v := 0, s := 0 }
    | top :: rest => horner u.v rest top u.s
where
  /-- A run of a list. -/
  slice' (l : List Nat) (off n : Nat) : List Nat := (l.drop off).take n

/-- A free coefficient of built-in curve `id`, finite. -/
def freeCoef (id i : Nat) : Nat :=
  let a := (Config.curveCoef id i).toNat
  if ffinite a then a else 0

/-- The last segment of curve 0, such that the curve is exactly 1.0 at 0.0 (R164): coefficient 0 makes up to 1.0 what the free ones give
at u = 1/16, and where no FP32 value does, the segment is constant. -/
def expLast : List Nat :=
  let c := (List.range 5).map (fun e => freeCoef 0 (6 * 2047 + 1 + e))
  let t := fmul (horner 0x3D800000 [nth c 3 0, nth c 2 0, nth c 1 0, nth c 0 0] (nth c 4 0) 0).v 0x3D800000
  let c0 := fsub 0x3F800000 t
  if fadd t c0 = 0x3F800000 then c0 :: c else [0x3F800000, 0, 0, 0, 0, 0]

/-- The coefficients of a built-in curve (R164): 2,048 segments of degree 5, free but where R164 fixes the value at a point: −1.0 and −2.0
begin segments 2,032 and 2,016 of curve 0, and 0.0 segment 1,024 of curve 1 (log 5). -/
def builtinCoef (id : Nat) : List Nat :=
  let last := expLast
  (List.range (2048 * 6)).map (fun i =>
    if id = 0 then
      if i = 6 * 2032 then 0x3EBC5AB2
      else if i = 6 * 2016 then 0x3E0A9555
      else if 6 * 2047 ≤ i then nth last (i - 6 * 2047) 0
      else freeCoef 0 i
    else if i = 6 * 1024 then 0
    else freeCoef 1 i)

/-- Built-in curve 0 or 1 (Table 7-4). -/
def builtinCurve (id : Nat) : Curve :=
  if id = 0 then { id := 0, kind := 1, deg := 5, lgseg := 11, lo := 0xC3000000, hi := 0, coef := builtinCoef 0 }
  else { id := 1, kind := 2, deg := 5, lgseg := 11, lo := 0xC1800000, hi := 0x41800000, coef := builtinCoef 1 }

/-- A curve table as bytes (R163, R164). -/
def Curve.bytes (c : Curve) : List Byte :=
  leBytes 16 (c.kind * 2 ^ 120 + c.deg * 2 ^ 116 + c.lgseg * 2 ^ 112 + 2 ^ 104 + c.lo * 2 ^ 32 + c.hi)
    ++ elemBytes 4 c.coef

/-- A curve table read from bytes, not yet validated. -/
def Curve.parse (id : Nat) (b : List Byte) : Curve :=
  let h := leAt b 0 16
  { id := id, kind := bitsN h 127 120, deg := bitsN h 119 116, lgseg := bitsN h 115 112, lo := bitsN h 63 32
    hi := bitsN h 31 0, coef := elems 4 ((b.length - 16) / 4) (b.drop 16) }

/-- The distance of two FP32 values in ulps, each a step from one FP32 value to the next, at a change of binade too: the chapter does not
say which of the two spacings an ulp is there (DESIGN CHOICE, log 48). -/
def ulpDist (a b : Nat) : Nat :=
  let x : Int := if a < 2 ^ 31 then (a : Int) else -((a - 2 ^ 31 : Nat) : Int)
  let y : Int := if b < 2 ^ 31 then (b : Int) else -((b - 2 ^ 31 : Nat) : Int)
  (x - y).natAbs

/-- The samples of a curve (R165): both ends and the midpoint of every segment, as the nearest FP32 values. -/
def Curve.samples (c : Curve) : List Nat :=
  let dl := fp32.dec c.lo
  let w := (fp32.dec c.hi).add (fp32.dec (fneg c.lo))
  (List.range (2 * 2 ^ c.lgseg + 1)).map (fun i =>
    fp32.ofDya (dl.add { neg := false, m := w.m * i, e := w.e - (c.lgseg : Int) - 1 }))

/-- A sample is within its limits (R165). -/
def Curve.sampleOk (c : Curve) (x : Nat) : Bool :=
  let y := (c.eval x).v
  if c.kind = 1 then
    let r := expRef x
    let tiny := flt r 0x00800000
    fle 0 y && fle y 0x3F800000 &&
      (if tiny then fle (fabs (fsub y r)) 0x00800000 else decide (ulpDist y r ≤ 1))
  else
    fle 0xBF800000 y && fle y 0x3F800000 && decide (ulpDist y (tanhRef x) ≤ 1)

/-- Is `hi − lo` a power of two? -/
def Curve.widthOk (c : Curve) : Bool :=
  let w := (fp32.dec c.hi).add (fp32.dec (fneg c.lo))
  !w.neg && decide (0 < w.m) && 2 ^ w.m.log2 == w.m

/-- Validation of a written curve (R165). -/
def curveOk (b : List Byte) : Bool :=
  let h := leAt b 0 16
  let c := Curve.parse 2 b
  decide (16 ≤ b.length) && (c.kind == 1 || c.kind == 2) && decide (1 ≤ c.deg) && decide (c.deg ≤ 5) &&
    decide (c.lgseg ≤ 12) && bitsN h 111 104 == 1 && bitsN h 103 64 == 0 &&
    b.length == 16 + 4 * 2 ^ c.lgseg * (c.deg + 1) && ffinite c.lo && ffinite c.hi && c.coef.all ffinite &&
    flt c.lo c.hi && c.widthOk && (c.kind == 2 || (c.hi % 2 ^ 31 == 0 && (c.eval 0).v == 0x3F800000)) &&
    c.samples.all c.sampleOk

/-- One rotated pair: x′a and x′b (R157). -/
def rotPair (c s xa xb : Nat) : Fv × Fv :=
  let a := fmul' xa c
  let b := fmul' xb s
  let d := fmul' xb c
  let e := fmul' xa s
  let x := fadd' a.v (fneg b.v)
  let y := fadd' d.v e.v
  ({ v := x.v, s := a.s + b.s + x.s }, { v := y.v, s := d.s + e.s + y.s })

/-- cos and sin of frequency k at position i (R157). -/
def rotAngle (p : Profile) (k i : Nat) : Nat × Nat :=
  let t := (i * nth p.freqs k 0 % 2 ^ 64) >>> 32
  (cosTurn t, sinTurn t)

/-- Element `e` of the rotated head `x` at position `i`, with the replacements of R159; none where it lies outside the rotated range
(R157). -/
def rotElem (p : Profile) (i e : Nat) (x : List Nat) : Option Fv :=
  if p.rotMode = 0 || decide (e < p.rbase) || decide (p.rbase + p.rlen ≤ e) then none
  else
    let o := e - p.rbase
    let h := p.rlen / 2
    let k := if p.rotMode = 1 then o % h else o / 2
    let isA := if p.rotMode = 1 then decide (o < h) else o % 2 == 0
    let a := p.rbase + (if p.rotMode = 1 then k else 2 * k)
    let b := if p.rotMode = 1 then a + h else a + 1
    let cs := rotAngle p k i
    let r := rotPair cs.1 cs.2 (nth x a 0) (nth x b 0)
    some (if isA then r.1 else r.2)

/-- The replacements of R159 that the rotation of head `x` at position `i` makes. -/
def rotSat (p : Profile) (i : Nat) (x : List Nat) : Nat :=
  ((List.range x.length).map (fun e => ((rotElem p i e x).map (·.s)).getD 0)).foldl (· + ·) 0

/-- A query head of raw `qfmt` elements, rotated and rounded back (R157). -/
def rotQuery (p : Profile) (i : Nat) (q : List Nat) : List Nat :=
  let x := q.map (dec16 p.qfmt)
  q.mapIdx (fun e raw => match rotElem p i e x with
    | some y => enc16 p.qfmt y.v
    | none => raw)

/-- A key head of raw `kvin` elements, rotated and converted to the stored format (R155, R157). -/
def rotKey (p : Profile) (tab : List Nat) (i : Nat) (k : List Nat) : List Nat :=
  let x := k.map (dec16 p.kvin)
  x.mapIdx (fun e v => encodeElem p.kfmt tab (((rotElem p i e x).map (·.v)).getD v))

/-- A value head of raw `kvin` elements converted to the stored format (R155). -/
def storeVal (p : Profile) (tab : List Nat) (v : List Nat) : List Nat :=
  v.map (fun e => encodeElem p.vfmt tab (dec16 p.kvin e))

/-- The value elements of head `h` of a row, decoded: the first dv elements of the latent row for a latent profile. That row is stored as
a key row, so code 0x4 reads the table of the key codes there (DEDUCED, log 48). -/
def rowVals (p : Profile) (ktab vtab : List Nat) (r : Row) (h : Nat) : List Nat :=
  if p.latent then ((elems (fmtBytes p.kfmt) p.dk r.k).take p.dv).map (decodeElem p.kfmt ktab)
  else
    let n := fmtBytes p.vfmt
    (elems n p.dv (slice r.v (h * p.dv * n) (p.dv * n))).map (decodeElem p.vfmt vtab)

/-- The key elements of head `h` of a row, decoded. -/
def rowKeys (p : Profile) (ktab : List Nat) (r : Row) (h : Nat) : List Nat :=
  let n := fmtBytes p.kfmt
  (elems n p.dk (slice r.k (h * p.dk * n) (p.dk * n))).map (decodeElem p.kfmt ktab)

/-- The sum of head `h` of a row (R53), with the replacements of R159. -/
def rowSum (p : Profile) (ktab vtab : List Nat) (r : Row) (h : Nat) : Fv := treeSum (clog2 p.dv) (rowVals p ktab vtab r h)

/-- The V-row sums of a row as stored (R53). -/
def rowSums (p : Profile) (ktab vtab : List Nat) (r : Row) : List Nat := (List.range p.heads).map (fun h => (rowSum p ktab vtab r h).v)

/-- The replacements of R159 made in forming row `r` from its key heads `ks` at position `i`. -/
def rowSat (p : Profile) (ktab vtab : List Nat) (i : Nat) (ks : List (List Nat)) (r : Row) : Nat :=
  (ks.map (fun k => rotSat p i (k.map (dec16 p.kvin)))).foldl (· + ·) 0
    + ((List.range p.heads).map (fun h => (rowSum p ktab vtab r h).s)).foldl (· + ·) 0

/-- A row formed from the key and value heads of a QKV at position `i` (R58, R155). -/
def makeRow (p : Profile) (ktab vtab : List Nat) (i : Nat) (ks vs : List (List Nat)) : Row :=
  let k := ks.flatMap (fun h => elemBytes (fmtBytes p.kfmt) (rotKey p ktab i h))
  let v := if p.latent then [] else vs.flatMap (fun h => elemBytes (fmtBytes p.vfmt) (storeVal p vtab h))
  let r : Row := { k := k, v := v, sums := [], chkA := .good, chkB := .good }
  { r with sums := rowSums p ktab vtab r }

/-- Is key position `j` visible to a query at `i` in layer `l`? (R161) -/
def visible (p : Profile) (l i j : Nat) : Bool :=
  decide (j ≤ i) && (p.window == 0 || !p.wbits.testBit l || decide (i - j < p.window) || decide (j < p.sinks))

/-- The score s3 of a query head at `i` and key `j` (R160), with the replacements made. -/
def score (p : Profile) (tc : Curve) (lam i j : Nat) (q k : List Nat) : Fv :=
  let prods := List.zipWith fmul' q k
  let d := treeSum (clog2 p.dk) (prods.map (·.v))
  let s1 := fmul' d.v p.scale
  let s2 : Fv :=
    if flt 0 p.cap then
      let u := fmul' s1.v p.rcap
      let y := tc.eval u.v
      let z := fmul' y.v p.cap
      { v := z.v, s := u.s + y.s + z.s }
    else { v := s1.v, s := 0 }
  let s3 : Fv :=
    if p.alibi then
      let a := fmul' lam (fofNat (i - j))
      let z := fadd' s2.v (fneg a.v)
      { v := z.v, s := a.s + z.s }
    else { v := s2.v, s := 0 }
  { v := s3.v, s := prods.foldl (fun n f => n + f.s) 0 + d.s + s1.s + s2.s + s3.s }

/-- A run's result for one query head and position: its partial, the values the checker uses (p̂ by slot, the decoded
value rows and stored sums), and the replacements made. -/
structure PartRun where
  part : Partial
  phat : List Nat
  sat : Nat
deriving DecidableEq, Repr

/-- The empty partial (R166). -/
def Partial.none (dv : Nat) : Partial := { m := 0, l := 0, o := List.replicate dv 0, empty := true }

/-- The rows of a split by slot: none where a position holds no row of the work. -/
abbrev SplitRows := List (Option Row)

/-- The partial of query head `qh` at position `i` over the 1,024 slots of split `n` (R166); a slot that the query does not see holds +0.0
in every sum, whatever row lies there (R158, R161). -/
def partialOf (p : Profile) (ec tc : Curve) (ktab vtab : List Nat) (l n i qh : Nat) (q : List Nat)
    (rows : SplitRows) : PartRun :=
  let h := qh / p.g
  let lam := nth p.slopes qh 0
  let sc : List (Option Fv) := rows.mapIdx (fun j r =>
    match r with
    | none => none
    | some r => if visible p l i (1024 * n + j) then some (score p tc lam i (1024 * n + j) q (rowKeys p ktab r h)) else none)
  match sc.filterMap id with
  | [] => { part := Partial.none p.dv, phat := [], sat := 0 }
  | f :: fs =>
    let m := fs.foldl (fun a x => fmax a x.v) f.v
    let ps : List Fv := sc.map (fun s => match s with
      | none => { v := 0, s := 0 }
      | some s3 =>
        let x := fadd' s3.v (fneg m)
        let y := ec.eval x.v
        { v := dec16 (if p.vfmt = 1 then 1 else 0) (enc16 (if p.vfmt = 1 then 1 else 0) y.v), s := s3.s + x.s + y.s })
    let ph := ps.map (·.v)
    let l := treeSum 10 ph
    let vals : List (List Nat) := List.zipWith (fun r (c : Option Fv) => match r, c with
      | some r, some _ => rowVals p ktab vtab r h
      | _, _ => []) rows sc
    let cols : List Fv := (List.range p.dv).map (fun e =>
      let pr := List.zipWith (fun a v => fmul' a (nth v e 0)) ph vals
      let t := treeSum 10 (pr.map (·.v))
      { v := t.v, s := t.s + pr.foldl (fun n f => n + f.s) 0 })
    { part := { m := m, l := l.v, o := cols.map (·.v), empty := false }, phat := ph
      sat := ps.foldl (fun n f => n + f.s) 0 + l.s + cols.foldl (fun n f => n + f.s) 0 }

/-- Does |`x`| exceed `y` + 2^-120, the sum taken exactly (R170)? -/
def overBound (x y : Nat) : Bool :=
  ((fp32.dec y).add { neg := false, m := 1, e := -120 }).magLt { fp32.dec x with neg := false }

/-- The checker's verdict on a partial (R170), with the replacements of R159 it makes; `vis` that the query sees the position of a slot. -/
def checkPartial (p : Profile) (ktab vtab : List Nat) (qh : Nat) (vis : Nat → Bool) (r : PartRun) (rows : SplitRows) : Bool × Nat :=
  if r.part.empty then (true, 0)
  else
    let h := qh / p.g
    let lgv := clog2 p.dv
    let seen := rows.mapIdx (fun j x => if vis j then x else none)
    let a := treeSum lgv r.part.o
    let sums := seen.map (fun x => match x with
      | none => 0
      | some w => nth w.sums h 0)
    let mags : List Fv := seen.map (fun x => match x with
      | none => { v := 0, s := 0 }
      | some w => treeSum lgv ((rowVals p ktab vtab w h).map fabs))
    let bs := List.zipWith fmul' r.phat sums
    let ms := List.zipWith (fun x (y : Fv) => fmul' x y.v) r.phat mags
    let b := treeSum 10 (bs.map (·.v))
    let m := treeSum 10 (ms.map (·.v))
    let lam := treeSum 10 r.phat
    let d := fadd' a.v (fneg b.v)
    let k := fmul' 0x37800000 m.v
    (lam.v == r.part.l && !overBound d.v k.v,
      (mags ++ bs ++ ms).foldl (fun n f => n + f.s) (a.s + b.s + m.s + lam.s + d.s + k.s))

/-- The merge of two partials in split order (R167). -/
def mergeP (ec : Curve) (a b : Partial) : Partial × Nat :=
  if a.empty then (b, 0) else if b.empty then (a, 0) else
    let m := fmax a.m b.m
    let xa := fadd' a.m (fneg m)
    let xb := fadd' b.m (fneg m)
    let ca := ec.eval xa.v
    let cb := ec.eval xb.v
    let la := fmul' ca.v a.l
    let lb := fmul' cb.v b.l
    let l := fadd' la.v lb.v
    let os := List.zipWith (fun x y =>
      let p := fmul' ca.v x
      let q := fmul' cb.v y
      let r := fadd' p.v q.v
      ({ v := r.v, s := p.s + q.s + r.s } : Fv)) a.o b.o
    ({ m := m, l := l.v, o := os.map (·.v), empty := false },
      xa.s + xb.s + ca.s + cb.s + la.s + lb.s + l.s + os.foldl (fun n f => n + f.s) 0)

/-- One level of the merge tree; an odd last partial is carried up (R168). -/
def mergeLevel (ec : Curve) : List Partial → List Partial × Nat
  | a :: b :: t =>
    let r := mergeP ec a b
    let x := mergeLevel ec t
    (r.1 :: x.1, r.2 + x.2)
  | [a] => ([a], 0)
  | [] => ([], 0)

/-- The fixed merge tree over `lg` levels. -/
def mergeTree (ec : Curve) : Nat → List Partial → Nat → List Partial × Nat
  | 0, x, s => (x, s)
  | lg + 1, x, s =>
    let r := mergeLevel ec x
    mergeTree ec lg r.1 (s + r.2)

/-- The output of a query head from its partials in split order, as `ofmt` elements, with the replacements made and
the merges done (R168). -/
def formOutput (p : Profile) (ec : Curve) (qh : Nat) (parts : List Partial) : List Nat × Nat :=
  let t := mergeTree ec (clog2 parts.length) parts 0
  let root := nth t.1 0 (Partial.none p.dv)
  let r2 : Partial × Nat :=
    if p.sinkOn then
      mergeP ec root { m := nth p.sinkZ qh 0, l := 0x3F800000, o := List.replicate p.dv 0, empty := false }
    else (root, 0)
  let r := fdiv' 0x3F800000 r2.1.l
  let os := r2.1.o.map (fun x => fmul' x r.v)
  (os.map (fun x => enc16 p.ofmt x.v), t.2 + r2.2 + r.s + os.foldl (fun n f => n + f.s) 0)

end Sys2Proof.Machine
end

