-- ==== Sys2Proof/Machine/Select.lean ====
section
/-!
DEFINITION. Token selection (ch 9): the parameter block, the rest mass, penalties, ordering, top-k, top-p, min-p and the
draw, in the order of R206.
-/

namespace Sys2Proof.Machine

/-- Greedy selection without penalties: params 0 (R202). -/
def SelParams.greedy : SelParams :=
  { temp := 0, topp := 0x3F800000, minp := 0, rep := 0x3F800000, freq := 0, pres := 0, seed := 1, topk := 0
    incp := false, raw := List.replicate 64 0#8 }

/-- The block read from its 64 bytes. -/
def SelParams.parse (b : List Byte) : SelParams :=
  let n := leAt b 0 64
  { temp := bitsN n 511 480, topp := bitsN n 479 448, minp := bitsN n 447 416, rep := bitsN n 415 384
    freq := bitsN n 383 352, pres := bitsN n 351 320, seed := bitsN n 319 256, topk := bitsN n 255 240
    incp := bitN n 231, raw := b }

/-- Is an FP32 value finite and within [lo, hi]? (R466) -/
def fIn (lo hi x : Nat) : Bool := ffinite x && fle lo x && fle x hi

/-- The status and detail of the first failed check of a parameter block (R202), none when it passes. -/
def SelParams.check (b : List Byte) : Option (Nat × Nat) :=
  let n := leAt b 0 64
  let p := SelParams.parse b
  if crc32c (leBytes 64 (setBits n 31 0 0)) != bitsN n 31 0 then some (0x22, 0)
  else if bitsN n 239 232 != 1 then some (0x60, 0x103)
  else if bitsN n 230 32 != 0 then some (0x60, 0x105)
  else if !(ffinite p.temp && (p.temp % 2 ^ 31 == 0 || fIn 0x3C23D70A 0x42C80000 p.temp))
      || !(ffinite p.topp && flt 0 p.topp && fle p.topp 0x3F800000) || !fIn 0 0x3F800000 p.minp
      || !fIn 0x3E000000 0x41000000 p.rep || !fIn 0xC0000000 0x40000000 p.freq || !fIn 0xC0000000 0x40000000 p.pres
  then some (0x60, 0x106)
  else none

/-- The order of R207: larger value first, then the lower id. -/
def candBefore (a b : Cand) : Bool := flt b.x a.x || (fle b.x a.x && fle a.x b.x && decide (a.id ≤ b.id))

/-- Insertion in the order of R207. -/
def candInsert (c : Cand) : List Cand → List Cand
  | [] => [c]
  | d :: t => if candBefore c d then c :: d :: t else d :: candInsert c t

/-- The list sorted under R207. -/
def candSort (l : List Cand) : List Cand := l.foldr candInsert []

/-- The merged normaliser (M, Lz) of the shards in order (R204). -/
def mergeNorms (ec : Curve) (ns : List (Nat × Nat)) : Nat × Nat :=
  let ps : List Partial := ns.map (fun n => { m := n.1, l := n.2, o := [], empty := false })
  let t := mergeTree ec (clog2 ps.length) ps 0
  let r := nth t.1 0 (Partial.none 0)
  (r.m, r.l)

/-- A tree sum over the least power of two of leaves that holds the terms. -/
def treeAll (l : List Nat) : Nat := (treeSum (clog2 l.length) l).v

/-- The rest mass ρ of a candidate set (R204). -/
def restMass (ec : Curve) (cands : List Cand) (norms : List (Nat × Nat)) : Nat :=
  let n := mergeNorms ec norms
  let c := treeAll ((candSort cands).map (fun a => (ec.eval (fsub a.x n.1)).v))
  fmax 0 (fsub 0x3F800000 (fmul c (fdiv 0x3F800000 n.2)))

/-- The penalties of an id with count `c` (R206, stage 2). -/
def penalise (p : SelParams) (c x : Nat) : Nat :=
  if c = 0 then x else
    let a := if flt 0 x then fdiv x p.rep else fmul x p.rep
    let b := fsub a (fmul p.freq (fofNat c))
    fsub b p.pres

/-- The id with the largest value, the lower id on a tie (R206, stage 3). -/
def greedyPick (l : List Cand) : Option Nat := (candSort l).head?.map (·.id)

/-- The shortest leading run whose running sum of q reaches topp (R208): how many are kept. -/
def toppRun (topp : Nat) : List Nat → Nat → Nat → Option Nat
  | [], _, _ => none
  | q :: t, sum, n => let s := fadd sum q; if fle topp s then some (n + 1) else toppRun topp t s (n + 1)

/-- The first id whose running sum of weights exceeds t (R209). -/
def drawPick (t : Nat) : List (Cand × Nat) → Nat → Option Nat
  | [], _ => none
  | (c, p) :: r, sum => let s := fadd sum p; if flt t s then some c.id else drawPick t r s

/-- u of R211 for a non-zero seed at position `i`, as FP32. -/
def uniform (seed i : Nat) : Nat :=
  let m := 2 ^ 64
  let z := (seed + (i + 1) * 0x9E3779B97F4A7C15) % m
  let z := ((z ^^^ (z >>> 30)) * 0xBF58476D1CE4E5B9) % m
  let z := ((z ^^^ (z >>> 27)) * 0x94D049BB133111EB) % m
  let z := z ^^^ (z >>> 31)
  fp32.enc false (z >>> 40) (2 ^ 24)

/-- Stages 2 to 9 of R206 over the list the mask left, with the rest mass and the draw value `u`. -/
def selectToken (p : SelParams) (ec : Curve) (counts : Nat → Nat) (rho u : Nat) (l : List Cand) : Option Nat :=
  let pen := l.map (fun c => { c with x := penalise p (counts c.id) c.x })
  if p.temp % 2 ^ 31 = 0 then greedyPick pen
  else
    let it := fdiv 0x3F800000 p.temp
    let srt := candSort (pen.map (fun c => { c with x := fmul c.x it }))
    let top := if p.topk = 0 then srt else srt.take p.topk
    match top with
    | [] => none
    | c0 :: _ =>
      let ws := top.map (fun c => (c, (ec.eval (fsub c.x c0.x)).v))
      let kept :=
        if flt p.topp 0x3F800000 then
          let z := treeAll (ws.map (·.2))
          let iz := fdiv 0x3F800000 z
          let f := fsub 0x3F800000 (if p.topk = 0 then rho else 0)
          match toppRun p.topp (ws.map (fun w => fmul (fmul w.2 iz) f)) 0 0 with
          | some n => ws.take n
          | none => ws
        else ws
      let kept := if flt 0 p.minp then kept.filter (fun w => !flt w.2 p.minp) else kept
      let sum := kept.foldl (fun s w => fadd s w.2) 0
      match drawPick (fmul u sum) kept 0 with
      | some id => some id
      | none => ((kept.filter (fun w => flt 0 w.2)).getLast?).map (·.1.id)

end Sys2Proof.Machine
end

