-- ==== Sys2Proof/Machine/DictTable.lean ====
section
/-!
DEFINITION. The entries of the Dictionary (ch 18 and the tables of every chapter): their ranges of index and subindex,
type, access class, default, persisted flag, value range and writer rule, as data.
-/

namespace Sys2Proof.Machine

/-- The types of Table 18-1, with the fixed length of a DOMAIN and the most bytes of a STR or TABLE. -/
inductive Ty
  | bool
  | u8
  | u16
  | u32
  | u64
  | i32
  | f32
  | str (max : Nat)
  | dom (n : Nat)
  | table (max : Nat)
deriving DecidableEq, Repr

/-- The code of a type. -/
def Ty.code : Ty → Nat
  | .bool => 1
  | .u8 => 2
  | .u16 => 3
  | .u32 => 4
  | .u64 => 5
  | .i32 => 6
  | .f32 => 7
  | .str _ => 8
  | .dom _ => 9
  | .table _ => 10

/-- The largest length accepted. -/
def Ty.max : Ty → Nat
  | .bool => 1
  | .u8 => 1
  | .u16 => 2
  | .u32 => 4
  | .u64 => 8
  | .i32 => 4
  | .f32 => 4
  | .str m => m
  | .dom n => n
  | .table m => m

/-- Is every value of the type of one length? -/
def Ty.fixed : Ty → Bool
  | .str _ => false
  | .table _ => false
  | _ => true

/-- A family of entries: indices `lo` to `lo + n - 1`, subindices `s0` to `s0 + m - 1`. `acc` 1 RO, 2 RW, 3 WO, 4 RWM,
5 RWS; `dflt` the default as a number, `dflt0` that of index `lo` where it differs; `range` the values accepted, (0, 0)
where the type alone limits them; `who` the writer rule: 0 partition 0 and the board manager; 1 the same, only an
operator session in confidential mode; 2 an operator session; 3 a partition p session; 4, 5 and 6 the owner rules of
R234, R253 and R194; 7 the mailbox of the function; 8 the mailbox of function 0 of the port; 9 R364; 10 R151 and R374. -/
structure Fam where
  lo : Nat
  n : Nat
  s0 : Nat
  m : Nat
  ty : Ty
  acc : Nat
  pers : Bool
  dflt : Nat
  dflt0 : Option Nat
  range : Nat × Nat
  who : Nat
deriving DecidableEq, Repr

/-- A family whose default is the same at every index. -/
def row (lo n s0 m : Nat) (ty : Ty) (acc : Nat) (pers : Bool) (dflt : Nat) (range : Nat × Nat) (who : Nat) : Fam :=
  { lo, n, s0, m, ty, acc, pers, dflt, dflt0 := none, range, who }

/-- The family with default `d` at its first index. -/
def Fam.first (d : Nat) (f : Fam) : Fam := { f with dflt0 := some d }

/-- Part 1 of the table, in order of index and subindex. -/
def dictTable1 : List Fam := [
  row 0x1 1 0x1 1 (.str 256) 1 false 0 (0, 0) 0,
  row 0x1 1 0x2 1 .u16 1 false 176 (0, 0) 0,
  row 0x1 1 0x3 1 (.str 256) 1 false 0 (0, 0) 0,
  row 0x1 1 0x4 1 .u8 1 false 0 (0, 0) 0,
  row 0x1 1 0x5 1 .u8 1 false 0 (0, 0) 0,
  row 0x1 1 0x6 1 .u8 1 false 0 (0, 0) 0,
  row 0x2 1 0x1 1 .u16 1 false 1 (0, 0) 0,
  row 0x2 1 0x2 1 .u32 1 false 12582912 (0, 0) 0,
  row 0x2 1 0x3 1 .u32 1 false 0 (0, 0) 0,
  row 0x2 1 0x4 1 .u32 1 false 268435456 (0, 0) 0,
  row 0x2 1 0x5 1 .u32 1 false 0 (0, 0) 0,
  row 0x1000 1 0x1 1 (.dom 6) 4 true 0 (0, 0) 0,
  row 0x1000 1 0x2 1 .bool 4 true 1 (0, 0) 0,
  row 0x1000 1 0x3 1 .u8 4 true 0 (1, 254) 0,
  row 0x1000 1 0x4 1 .u8 2 true 0 (0, 0) 0,
  row 0x1000 1 0x5 1 .u8 2 true 128 (1, 255) 0,
  row 0x1000 1 0x6 1 .u8 1 false 0 (0, 0) 0,
  row 0x1000 1 0x7 1 (.dom 6) 2 true 0 (0, 0) 0,
  row 0x1000 1 0x8 1 .u32 2 true 50 (10, 10000) 0,
  row 0x1000 1 0x9 1 .u8 2 true 4 (1, 16) 0,
  row 0x1040 1 0x1 1 .u16 2 true 65535 (0, 0) 0,
  row 0x1040 1 0x2 1 (.dom 6) 2 true 281474976710655 (0, 0) 0,
  row 0x1050 1 0x1 1 .u8 2 false 0 (0, 0) 7,
  row 0x1050 1 0x2 1 .u16 2 false 0 (0, 0) 7,
  row 0x1100 1 0x1 1 .u8 4 true 0 (0, 2) 0,
  row 0x1100 1 0x2 1 .u32 2 true 2000 (100, 60000) 0,
  row 0x1100 1 0x3 1 .u32 2 true 2000 (500, 1000000) 0,
  row 0x1100 1 0x4 1 .u32 2 true 250 (50, 10000) 0,
  row 0x1100 1 0x5 1 .u8 1 false 1 (0, 0) 0,
  row 0x1100 1 0x6 1 .u32 1 false 16777216 (0, 0) 0,
  row 0x1100 1 0x7 1 .u8 2 true 0 (0, 1) 0,
  row 0x1100 1 0x8 1 .u32 2 true 256 (16, 4096) 0,
  row 0x1110 4 0x1 3 .u8 1 false 0 (0, 0) 0,
  row 0x1110 4 0x4 1 .u8 2 true 1 (0, 1) 0,
  row 0x1110 4 0x5 1 .u64 1 false 0 (0, 0) 0,
  row 0x1110 4 0x6 1 .u32 1 false 0 (0, 0) 0,
  row 0x1110 4 0x7 1 .u8 1 false 0 (0, 0) 0,
  row 0x1180 1 0x1 1 .u64 2 false 0 (0, 0) 7,
  row 0x1180 1 0x2 1 .u8 2 false 0 (0, 12) 7,
  row 0x1180 1 0x3 1 .u64 2 false 0 (0, 0) 7,
  row 0x1180 1 0x4 1 .u64 2 false 0 (0, 0) 7,
  row 0x1180 1 0x5 1 .u64 2 false 0 (0, 0) 7,
  row 0x1180 1 0x6 1 .u8 2 false 0 (0, 12) 7,
  row 0x1180 1 0x7 1 .u64 2 false 0 (0, 0) 7,
  row 0x1180 1 0x8 1 .u16 2 false 0 (0, 0) 7,
  row 0x1180 1 0x9 1 .u8 2 false 0 (0, 1) 7,
  row 0x2000 1 0x1 1 .u32 1 false 4194304 (0, 0) 0,
  row 0x2000 1 0x2 1 .u32 1 false 16384 (0, 0) 0,
  row 0x2000 1 0x4 1 .u32 2 true 86400 (0, 0) 0,
  row 0x2000 1 0x5 1 .u32 2 true 4294967295 (0, 0) 0,
  row 0x2040 64 0x1 1 .u32 2 true 65536 (0, 0) 0 |>.first 4194304,
  row 0x2040 64 0x2 1 .u16 2 true 1024 (0, 0) 0 |>.first 8192,
  row 0x2040 64 0x3 1 .u32 1 false 0 (0, 0) 0,
  row 0x2040 64 0x4 2 .u16 1 false 0 (0, 0) 0,
  row 0x2100 1 0x1 1 .u32 1 false 16777216 (0, 0) 0,
  row 0x2100 1 0x2 1 .u32 1 false 262144 (0, 0) 0,
  row 0x2100 1 0x3 1 .u32 1 false 16777216 (0, 0) 0,
  row 0x2100 1 0x4 2 .u32 1 false 0 (0, 0) 0,
  row 0x2100 1 0x6 4 .u64 1 false 0 (0, 0) 0,
  row 0x2140 64 0x1 6 .u32 1 false 0 (0, 0) 0]

/-- Part 2 of the table, in order of index and subindex. The longest values of the tables of profiles, and what DESCRIBE says of the reserved
subindices 0x1F to 0x3F of a profile, are DESIGN CHOICE log 95. -/
def dictTable2 : List Fam := [
  row 0x2180 64 0x1 2 .u64 2 true 67108864 (0, 0) 0 |>.first 18446744073709551615,
  row 0x2180 64 0x3 2 .u64 1 false 0 (0, 0) 0,
  row 0x2200 1 0x1 1 .u32 2 true 50 (10, 10000) 0,
  row 0x2200 1 0x2 1 .u32 2 true 2000 (100, 1000000) 0,
  row 0x2200 1 0x3 1 .u8 2 false 0 (0, 2) 0,
  row 0x2200 1 0x4 1 .u8 2 false 255 (0, 0) 0,
  row 0x2200 1 0x5 1 .u8 1 false 0 (0, 0) 0,
  row 0x2210 8 0x1 1 .bool 2 true 0 (0, 0) 0,
  row 0x2210 8 0x2 1 .u8 2 true 0 (0, 0) 0,
  row 0x2210 8 0x3 1 .u64 2 true 0 (0, 0) 0,
  row 0x2210 8 0x4 1 .u32 2 true 20000 (100, 10000000) 0,
  row 0x2210 8 0x5 1 .u16 2 true 8192 (1, 8192) 0,
  row 0x2210 8 0x6 2 .u64 1 false 0 (0, 0) 0,
  row 0x2210 8 0x8 2 .u8 1 false 0 (0, 0) 0,
  row 0x2240 64 0x1 4 .u64 2 true 18446744073709551615 (0, 0) 10,
  row 0x2240 64 0x5 1 .u8 2 true 1 (1, 16) 0,
  row 0x2300 1 0x1 1 .u8 1 false 64 (0, 0) 0,
  row 0x2300 1 0x2 1 .u8 1 false 16 (0, 0) 0,
  row 0x2300 1 0x3 1 .u8 1 false 16 (0, 0) 0,
  row 0x2340 64 0x1 1 .u8 2 true 0 (0, 0) 0,
  row 0x2340 64 0x2 1 .u8 2 true 0 (0, 0) 0,
  row 0x2340 64 0x3 1 .u8 2 true 8 (0, 0) 0,
  row 0x2340 64 0x4 1 .u8 2 true 1 (0, 0) 0,
  row 0x2340 64 0x5 1 .u16 2 true 128 (0, 0) 0,
  row 0x2340 64 0x6 1 .u16 2 true 128 (0, 0) 0,
  row 0x2340 64 0x7 1 .u8 2 true 0 (0, 0) 0,
  row 0x2340 64 0x8 1 .u8 2 true 0 (0, 0) 0,
  row 0x2340 64 0x9 1 .u8 2 true 0 (0, 0) 0,
  row 0x2340 64 0xa 1 .u8 2 true 0 (0, 0) 0,
  row 0x2340 64 0xb 1 .u8 2 true 0 (0, 0) 0,
  row 0x2340 64 0xc 1 .u16 2 true 32 (0, 0) 0,
  row 0x2340 64 0xd 1 .u32 2 true 131072 (0, 0) 0,
  row 0x2340 64 0xe 1 .f32 2 true 1035273459 (0, 0) 0,
  row 0x2340 64 0xf 1 .u8 2 true 0 (0, 0) 0,
  row 0x2340 64 0x10 1 .u8 2 true 0 (0, 0) 0,
  row 0x2340 64 0x11 1 .u8 2 true 0 (0, 0) 0,
  row 0x2340 64 0x12 1 .f32 2 true 0 (0, 0) 0,
  row 0x2340 64 0x13 1 .u8 2 true 1 (0, 0) 0,
  row 0x2340 64 0x14 1 .u8 2 true 0 (0, 0) 0,
  row 0x2340 64 0x15 1 .u16 2 true 0 (0, 0) 0,
  row 0x2340 64 0x16 1 .u16 2 true 0 (0, 0) 0,
  row 0x2340 64 0x17 1 (.table 2304) 2 true 0 (0, 0) 0,
  row 0x2340 64 0x18 1 .u32 2 true 0 (0, 0) 0,
  row 0x2340 64 0x19 1 (.dom 32) 2 true 0 (0, 0) 0,
  row 0x2340 64 0x1a 1 .u16 2 true 0 (0, 0) 0,
  row 0x2340 64 0x1b 1 .bool 2 true 0 (0, 0) 0,
  row 0x2340 64 0x1c 1 (.table 16384) 2 true 0 (0, 0) 0,
  row 0x2340 64 0x1d 1 .bool 2 true 0 (0, 0) 0,
  row 0x2340 64 0x1e 1 (.table 16384) 2 true 0 (0, 0) 0,
  row 0x2340 64 0x1f 33 .u8 1 false 0 (0, 0) 0,
  row 0x2340 64 0x40 1 .u8 2 true 64 (0, 0) 0,
  row 0x2340 64 0x41 1 .u8 2 true 255 (0, 0) 0,
  row 0x2340 64 0x42 1 (.table 64) 2 true 0 (0, 0) 0,
  row 0x2340 64 0x43 13 .u8 1 false 0 (0, 0) 0,
  row 0x2340 64 0x50 1 .u32 2 true 0 (0, 0) 0,
  row 0x2340 64 0x51 174 .u8 1 false 0 (0, 0) 0,
  row 0x2380 1 0x1 16 (.table 512) 2 true 0 (0, 0) 0,
  row 0x2390 1 0x1 2 (.table 49168) 1 false 0 (0, 0) 0,
  row 0x2390 1 0x3 14 (.table 98320) 2 true 0 (0, 0) 0,
  row 0x3000 1 0x1 1 .u8 1 false 32 (0, 0) 0]

/-- Part 3 of the table, in order of index and subindex. -/
def dictTable3 : List Fam := [
  row 0x3000 1 0x2 1 .u8 1 false 16 (0, 0) 0,
  row 0x3000 1 0x3 1 .u8 2 true 16 (0, 0) 0,
  row 0x3000 1 0x4 1 .u8 2 true 32 (0, 0) 0,
  row 0x3000 1 0x5 1 .u32 2 true 0 (0, 0) 0,
  row 0x3000 1 0x6 1 .u16 2 true 1074 (0, 0) 0,
  row 0x3000 1 0x7 1 .u64 2 true 53827 (0, 0) 0,
  row 0x3000 1 0x8 1 .u64 1 false 0 (0, 0) 0,
  row 0x3000 1 0x9 1 .u8 2 true 8 (0, 0) 0,
  row 0x3000 1 0xa 1 .u32 1 false 3000 (0, 0) 0,
  row 0x3010 32 0x1 1 .u8 1 false 0 (0, 0) 0,
  row 0x3010 32 0x2 1 .u32 1 false 0 (0, 0) 0,
  row 0x3030 16 0x1 1 .u8 1 false 0 (0, 0) 0,
  row 0x3030 16 0x2 1 .u16 1 true 0 (0, 0) 0,
  row 0x3030 16 0x3 1 .u32 1 true 0 (0, 0) 0,
  row 0x3040 1 0x1 1 .u32 2 true 0 (0, 0) 0,
  row 0x3040 1 0x2 1 .u32 2 true 2000 (0, 0) 0,
  row 0x3040 1 0x3 1 .u32 1 false 0 (0, 0) 0,
  row 0x3050 1 0x1 6 .u16 1 false 0 (0, 0) 0,
  row 0x3100 1 0x1 1 .u8 2 true 8 (1, 255) 0,
  row 0x3100 1 0x2 1 .u16 2 true 288 (256, 1024) 0,
  row 0x3100 1 0x3 1 .u32 2 true 288 (1, 4294967295) 0,
  row 0x3100 1 0x4 1 .u32 2 true 48 (1, 4294967295) 0,
  row 0x3100 1 0x5 1 .u32 2 true 96 (1, 4294967295) 0,
  row 0x3100 1 0x6 1 .u32 2 true 500 (0, 0) 0,
  row 0x3100 1 0x7 1 .u32 2 true 2000 (0, 0) 0,
  row 0x3100 1 0x8 1 .u32 2 true 5 (0, 0) 0,
  row 0x3100 1 0x9 1 .u32 2 true 10000 (0, 0) 0,
  row 0x3110 1 0x1 16 .u32 1 false 0 (0, 0) 0,
  row 0x3118 1 0x1 16 .u8 1 false 0 (0, 0) 0,
  row 0x3200 1 0x1 1 .u64 2 true 0 (0, 0) 0,
  row 0x3200 1 0x2 1 .u32 2 true 0 (0, 16777216) 0,
  row 0x3200 1 0x3 1 .u64 2 true 0 (0, 0) 0,
  row 0x3200 1 0x4 1 .u32 2 true 0 (0, 16777216) 0,
  row 0x3200 1 0x5 1 .u32 2 true 8192 (256, 65536) 0,
  row 0x3200 1 0x6 1 .u8 1 false 0 (0, 0) 0,
  row 0x3200 1 0x7 1 .u64 1 false 0 (0, 0) 0,
  row 0x3200 1 0x8 1 .u32 2 true 64 (1, 256) 0,
  row 0x3200 1 0x9 1 .u32 2 true 100 (1, 10000) 0,
  row 0x3200 1 0xa 1 .u8 1 false 0 (0, 0) 0,
  row 0x3200 1 0xb 1 .u8 4 false 0 (0, 0) 0,
  row 0x3200 1 0xc 1 .u8 3 false 0 (1, 3) 0,
  row 0x3210 8 0x1 1 .u64 1 false 0 (0, 0) 0,
  row 0x3210 8 0x2 1 .u16 1 false 65535 (0, 0) 0,
  row 0x3210 8 0x3 1 .u64 1 false 0 (0, 0) 0,
  row 0x3210 8 0x4 1 .u16 1 false 65535 (0, 0) 0,
  row 0x4000 1 0x1 1 .u8 1 false 96 (0, 0) 0,
  row 0x4000 1 0x2 1 .u32 2 true 8 (1, 100) 0,
  row 0x4000 1 0x3 1 .u8 2 true 8 (1, 64) 0,
  row 0x4000 1 0x4 1 .u32 2 true 100 (10, 10000) 0,
  row 0x4000 1 0x5 1 .u32 2 true 200 (1, 10000) 0,
  row 0x4000 1 0x6 1 .u32 2 true 10 (2, 1000) 0,
  row 0x4020 96 0x1 2 .u8 1 false 0 (0, 0) 0,
  row 0x4020 96 0x3 2 .u8 1 false 255 (0, 0) 0,
  row 0x4020 96 0x5 1 .u32 1 false 0 (0, 0) 0,
  row 0x4020 96 0x6 1 .i32 1 false 0 (0, 0) 0,
  row 0x4100 1 0x1 1 .u8 4 true 0 (0, 2) 0,
  row 0x4100 1 0x2 1 .u8 4 true 1 (1, 16) 0,
  row 0x4100 1 0x3 1 .u8 4 true 1 (1, 16) 0,
  row 0x4100 1 0x4 1 .u32 2 true 512 (64, 4096) 0,
  row 0x4100 1 0x5 1 .u32 1 false 0 (0, 0) 0]

/-- Part 4 of the table, in order of index and subindex. -/
def dictTable4 : List Fam := [
  row 0x4100 1 0x6 1 .u32 2 true 100 (10, 10000) 0,
  row 0x4100 1 0x7 2 .u32 1 false 0 (0, 0) 0,
  row 0x4100 1 0x9 1 .u8 3 false 0 (1, 1) 0,
  row 0x4108 8 0x1 4 .u32 1 false 0 (0, 0) 0,
  row 0x4108 8 0x5 1 .u8 3 false 0 (1, 1) 0,
  row 0x4110 64 0x1 1 .u8 4 true 0 (0, 2) 0,
  row 0x4110 64 0x2 1 .u8 4 true 0 (0, 63) 0,
  row 0x4150 64 0x1 1 .u16 2 true 16 (1, 1024) 0,
  row 0x4150 64 0x2 1 .u8 2 true 255 (0, 0) 0,
  row 0x4190 16 0x1 1 .u64 2 true 50000000000 (0, 0) 0,
  row 0x4190 16 0x2 1 .u32 2 true 1048576 (0, 0) 0,
  row 0x4190 16 0x3 1 .u64 2 true 50000000000 (0, 0) 0,
  row 0x4190 16 0x4 1 .u32 2 true 16777216 (0, 0) 0,
  row 0x4190 16 0x5 1 .u8 2 true 0 (0, 1) 0,
  row 0x4190 16 0x6 1 .u8 2 true 0 (0, 1) 0,
  row 0x4190 16 0x7 1 .u8 2 true 1 (0, 1) 0,
  row 0x41a0 1 0x1 16 (.table 272) 2 true 0 (0, 0) 0,
  row 0x41b0 24 0x1 1 .u8 2 true 255 (0, 0) 0,
  row 0x41b0 24 0x2 8 .u32 1 false 0 (0, 0) 0,
  row 0x41b0 24 0xa 1 .u8 3 false 0 (1, 1) 0,
  row 0x41b0 24 0x11 4 .u8 2 true 255 (0, 0) 0,
  row 0x5000 1 0x1 1 .u8 1 false 8 (0, 0) 0,
  row 0x5000 1 0x2 1 .u8 1 false 64 (0, 0) 0,
  row 0x5000 1 0x3 1 .u32 2 true 67108864 (1048576, 1073741824) 0,
  row 0x5010 8 0x1 1 (.table 134217728) 2 true 0 (0, 0) 0,
  row 0x5040 64 0x1 1 (.table 67108864) 2 true 0 (0, 0) 6,
  row 0x5040 64 0x2 1 .u8 1 false 0 (0, 0) 0,
  row 0x5040 64 0x3 1 .u32 1 false 0 (0, 0) 0,
  row 0x5040 64 0x4 1 .u8 1 true 0 (0, 0) 0,
  row 0x5080 64 0x1 1 (.table 67108864) 2 true 0 (0, 0) 6,
  row 0x5080 64 0x2 1 .u8 1 false 0 (0, 0) 0,
  row 0x5080 64 0x3 1 .u32 1 false 0 (0, 0) 0,
  row 0x5080 64 0x4 1 .u8 1 true 0 (0, 0) 0,
  row 0x5100 1 0x1 1 .u16 1 false 4096 (0, 0) 0,
  row 0x5100 1 0x2 1 .u32 1 false 65536 (0, 0) 0,
  row 0x5100 1 0x3 1 .u8 1 false 16 (0, 0) 0,
  row 0x5200 1 0x1 1 .u8 1 false 64 (0, 0) 0,
  row 0x5200 1 0x2 1 .u32 2 true 100 (10, 1000) 0,
  row 0x5200 1 0x3 1 .u16 1 false 4096 (0, 0) 0,
  row 0x5200 1 0x4 1 .u32 1 false 65536 (0, 0) 0,
  row 0x5240 64 0x1 1 .u8 2 true 0 (1, 2) 4,
  row 0x5240 64 0x2 1 .u64 2 true 0 (0, 0) 4,
  row 0x5240 64 0x3 1 .u32 2 true 0 (1, 4294967295) 4,
  row 0x5240 64 0x4 1 .u16 2 true 0 (1, 16384) 4,
  row 0x5240 64 0x5 1 .u8 2 true 1 (0, 15) 4,
  row 0x5240 64 0x6 1 .u8 2 true 0 (0, 15) 4,
  row 0x5240 64 0x7 1 .u8 2 true 1 (0, 2) 4,
  row 0x5240 64 0x8 1 .u32 2 true 0 (0, 16777216) 4,
  row 0x5240 64 0x9 1 .u64 2 true 0 (0, 0) 4,
  row 0x5240 64 0xa 1 .u8 2 true 0 (0, 3) 4,
  row 0x5240 64 0xb 1 .u8 2 true 0 (0, 7) 4,
  row 0x5240 64 0xc 1 .u64 2 true 0 (0, 0) 4,
  row 0x5240 64 0xd 1 .u64 2 true 0 (0, 0) 4,
  row 0x5240 64 0xe 1 .u32 2 true 16 (1, 1000000) 4,
  row 0x5240 64 0xf 1 .u16 1 false 0 (0, 0) 0,
  row 0x5240 64 0x10 1 .u8 1 false 0 (0, 0) 0,
  row 0x5240 64 0x11 1 .u8 1 true 0 (0, 0) 0,
  row 0x5240 64 0x12 1 .u32 1 false 0 (0, 0) 0,
  row 0x5280 1 0x1 16 (.table 32) 2 true 0 (0, 0) 0,
  row 0x5300 1 0x1 1 .u8 1 false 64 (0, 0) 0]

/-- Part 5 of the table, in order of index and subindex. -/
def dictTable5 : List Fam := [
  row 0x5300 1 0x2 1 .u16 1 false 1024 (0, 0) 0,
  row 0x5300 1 0x3 1 .u16 1 false 4096 (0, 0) 0,
  row 0x5340 64 0x1 1 .u8 2 true 0 (1, 2) 5,
  row 0x5340 64 0x2 1 .u64 2 true 0 (0, 0) 5,
  row 0x5340 64 0x3 1 .u8 2 true 2 (0, 2) 5,
  row 0x5340 64 0x4 1 .u8 2 true 1 (0, 3) 5,
  row 0x5340 64 0x5 1 .u16 2 true 0 (16, 4096) 5,
  row 0x5340 64 0x6 1 .u32 2 true 0 (1, 65536) 5,
  row 0x5340 64 0x7 1 .u32 2 true 0 (16, 1048576) 5,
  row 0x5340 64 0x8 1 .u32 2 true 4294967295 (0, 0) 5,
  row 0x5340 64 0x9 1 .u64 1 false 0 (0, 0) 0,
  row 0x5340 64 0xa 1 .u32 1 false 0 (0, 0) 0,
  row 0x5340 64 0xb 1 .u64 1 false 0 (0, 0) 0,
  row 0x5340 64 0xc 1 .u8 1 true 0 (0, 0) 0,
  row 0x5340 64 0xd 1 .u8 1 false 0 (0, 0) 0,
  row 0x6000 1 0x1 1 .u32 2 true 3600 (60, 604800) 0,
  row 0x6000 1 0x2 1 .bool 2 true 1 (0, 0) 0,
  row 0x6000 1 0x3 1 .u32 1 false 1355894993 (0, 0) 0,
  row 0x6000 1 0x4 1 .u32 2 true 16 (0, 0) 0,
  row 0x6000 1 0x5 1 .u32 2 true 1 (0, 0) 0,
  row 0x6020 1 0x1 8 .u64 1 false 0 (0, 0) 0,
  row 0x6040 1 0x1 1 (.table 1048576) 1 false 0 (0, 0) 0,
  row 0x6040 1 0x2 15 (.table 1048576) 2 true 0 (0, 0) 0,
  row 0x7000 1 0x1 1 .u64 1 true 1 (0, 0) 0,
  row 0x7000 1 0x2 1 .bool 5 true 0 (0, 0) 2,
  row 0x7000 1 0x3 2 .u8 1 false 0 (0, 0) 0,
  row 0x7010 1 0x1 1 (.table 65536) 1 false 0 (0, 0) 0,
  row 0x7010 1 0x2 1 (.table 65536) 5 true 0 (0, 0) 2,
  row 0x7010 1 0x3 1 (.table 65536) 1 false 0 (0, 0) 0,
  row 0x7010 1 0x4 2 (.dom 96) 1 false 0 (0, 0) 0,
  row 0x7040 64 0x1 1 .u8 5 true 0 (1, 2) 9 |>.first 1,
  row 0x7040 64 0x2 1 (.dom 96) 5 true 0 (0, 0) 2,
  row 0x7040 64 0x3 1 .bool 1 false 0 (0, 0) 0,
  row 0x7040 64 0x4 1 (.dom 32) 5 true 0 (0, 0) 3,
  row 0x7040 64 0x5 1 .bool 1 false 0 (0, 0) 0,
  row 0x7040 64 0x6 1 .bool 5 true 0 (0, 0) 3,
  row 0x7040 64 0x7 1 (.dom 96) 5 false 0 (0, 0) 3,
  row 0x7040 64 0x8 1 (.dom 292) 1 false 0 (0, 0) 0,
  row 0x7040 64 0x9 1 (.dom 292) 5 false 0 (0, 0) 3,
  row 0x7080 4 0x1 1 .u8 2 true 0 (0, 0) 1,
  row 0x7080 4 0x2 63 .u8 2 true 255 (0, 0) 1,
  row 0x7084 4 0x1 64 .bool 2 true 0 (0, 0) 1,
  row 0x8100 1 0x1 10 .u64 1 false 0 (0, 0) 0,
  row 0x8100 1 0xf0 1 .u64 1 false 0 (0, 0) 0,
  row 0x8100 1 0xf1 1 .u64 3 false 0 (0, 0) 0,
  row 0x8110 1 0x1 17 .u64 1 false 0 (0, 0) 0,
  row 0x8110 1 0xf0 1 .u64 1 false 0 (0, 0) 0,
  row 0x8110 1 0xf1 1 .u64 3 false 0 (0, 0) 0,
  row 0x8200 1 0x1 7 .u64 1 false 0 (0, 0) 0,
  row 0x8200 1 0xf0 1 .u64 1 false 0 (0, 0) 0,
  row 0x8200 1 0xf1 1 .u64 3 false 0 (0, 0) 0,
  row 0x8210 1 0x1 7 .u64 1 false 0 (0, 0) 0,
  row 0x8210 1 0xf0 1 .u64 1 false 0 (0, 0) 0,
  row 0x8210 1 0xf1 1 .u64 3 false 0 (0, 0) 0,
  row 0x8220 1 0x1 9 .u64 1 false 0 (0, 0) 0,
  row 0x8220 1 0xf0 1 .u64 1 false 0 (0, 0) 0,
  row 0x8220 1 0xf1 1 .u64 3 false 0 (0, 0) 0,
  row 0x8230 1 0x1 8 .u64 1 false 0 (0, 0) 0,
  row 0x8230 1 0xf0 1 .u64 1 false 0 (0, 0) 0,
  row 0x8230 1 0xf1 1 .u64 3 false 0 (0, 0) 0]

/-- Part 6 of the table, in order of index and subindex. -/
def dictTable6 : List Fam := [
  row 0x8300 1 0x1 11 .u64 1 false 0 (0, 0) 0,
  row 0x8300 1 0xf0 1 .u64 1 false 0 (0, 0) 0,
  row 0x8300 1 0xf1 1 .u64 3 false 0 (0, 0) 0,
  row 0x8310 1 0x1 10 .u64 1 false 0 (0, 0) 0,
  row 0x8310 1 0xf0 1 .u64 1 false 0 (0, 0) 0,
  row 0x8310 1 0xf1 1 .u64 3 false 0 (0, 0) 0,
  row 0x8320 1 0x1 7 .u64 1 false 0 (0, 0) 0,
  row 0x8320 1 0xf0 1 .u64 1 false 0 (0, 0) 0,
  row 0x8320 1 0xf1 1 .u64 3 false 0 (0, 0) 0,
  row 0x8410 1 0x1 11 .u64 1 false 0 (0, 0) 0,
  row 0x8410 1 0xf0 1 .u64 1 false 0 (0, 0) 0,
  row 0x8410 1 0xf1 1 .u64 3 false 0 (0, 0) 0,
  row 0x8420 96 0x1 10 .u64 1 false 0 (0, 0) 0,
  row 0x8420 96 0xf0 1 .u64 1 false 0 (0, 0) 0,
  row 0x8420 96 0xf1 1 .u64 3 false 0 (0, 0) 0,
  row 0x8500 1 0x1 10 .u64 1 false 0 (0, 0) 0,
  row 0x8500 1 0xf0 1 .u64 1 false 0 (0, 0) 0,
  row 0x8500 1 0xf1 1 .u64 3 false 0 (0, 0) 0,
  row 0x8510 1 0x1 7 .u64 1 false 0 (0, 0) 0,
  row 0x8510 1 0xf0 1 .u64 1 false 0 (0, 0) 0,
  row 0x8510 1 0xf1 1 .u64 3 false 0 (0, 0) 0,
  row 0x8520 1 0x1 8 .u64 1 false 0 (0, 0) 0,
  row 0x8520 1 0xf0 1 .u64 1 false 0 (0, 0) 0,
  row 0x8520 1 0xf1 1 .u64 3 false 0 (0, 0) 0,
  row 0x8530 1 0x1 9 .u64 1 false 0 (0, 0) 0,
  row 0x8530 1 0xf0 1 .u64 1 false 0 (0, 0) 0,
  row 0x8530 1 0xf1 1 .u64 3 false 0 (0, 0) 0,
  row 0x8600 1 0x1 16 .u64 1 false 0 (0, 0) 0,
  row 0x8600 1 0xf0 1 .u64 1 false 0 (0, 0) 0,
  row 0x8600 1 0xf1 1 .u64 3 false 0 (0, 0) 0,
  row 0x8610 16 0x1 64 .u64 1 false 0 (0, 0) 0,
  row 0x8610 16 0xf0 1 .u64 1 false 0 (0, 0) 0,
  row 0x8610 16 0xf1 1 .u64 3 false 0 (0, 0) 0,
  row 0x8700 1 0x1 6 .u64 1 false 0 (0, 0) 0,
  row 0x8700 1 0xf0 1 .u64 1 false 0 (0, 0) 0,
  row 0x8700 1 0xf1 1 .u64 3 false 0 (0, 0) 0,
  row 0x8780 64 0x1 5 .u64 1 false 0 (0, 0) 0,
  row 0x8780 64 0xf0 1 .u64 1 false 0 (0, 0) 0,
  row 0x8780 64 0xf1 1 .u64 3 false 0 (0, 0) 0,
  row 0x8900 1 0x1 9 .u64 1 false 0 (0, 0) 0,
  row 0x8900 1 0xf0 1 .u64 1 false 0 (0, 0) 0,
  row 0x8900 1 0xf1 1 .u64 3 false 0 (0, 0) 0,
  row 0x8f00 1 0x1 8 .u64 1 false 0 (0, 0) 0,
  row 0x8f00 1 0xf0 1 .u64 1 false 0 (0, 0) 0,
  row 0x8f00 1 0xf1 1 .u64 3 false 0 (0, 0) 0,
  row 0x9000 1 0x1 1 .u8 1 false 100 (0, 0) 0,
  row 0x9000 1 0x2 1 .u8 1 false 0 (0, 0) 0,
  row 0x9000 1 0x3 1 .u32 1 true 0 (0, 0) 0,
  row 0x9000 1 0x4 2 .u8 1 false 0 (0, 0) 0,
  row 0x9000 1 0x6 1 .u8 3 false 0 (0, 1) 0,
  row 0x9010 1 0x1 1 .u64 2 true 0 (0, 0) 0,
  row 0x9010 1 0x2 1 .u8 1 false 0 (0, 0) 0,
  row 0x9010 1 0x3 1 .u32 2 true 1000 (0, 60000) 0,
  row 0x9010 1 0x4 1 .u16 2 true 500 (100, 1000) 0,
  row 0x9010 1 0x5 1 .i32 1 false 0 (0, 0) 0,
  row 0x9020 4 0x1 1 .u64 2 false 0 (0, 0) 8,
  row 0x9020 4 0x2 1 .i32 1 false 0 (0, 0) 0,
  row 0x9020 4 0x3 1 .u32 2 true 10000 (100, 600000) 0,
  row 0x9020 4 0x4 1 .u8 1 false 0 (0, 0) 0,
  row 0x9020 4 0x5 2 .u64 1 false 0 (0, 0) 0]

/-- Part 7 of the table, in order of index and subindex. -/
def dictTable7 : List Fam := [
  row 0x9020 4 0x7 1 .u8 3 false 0 (1, 1) 0,
  row 0x9040 1 0x1 1 .u16 2 true 24 (1, 8760) 0,
  row 0x9040 1 0x2 1 .u8 3 false 0 (1, 1) 0,
  row 0x9040 1 0x3 1 .u16 2 true 200 (50, 2000) 0,
  row 0x9050 17 0x1 1 (.table 144) 2 true 0 (0, 0) 0,
  row 0x9050 17 0x2 1 .u16 2 true 0 (500, 1100) 0,
  row 0x9050 17 0x3 1 .u16 2 true 0 (500, 1100) 0,
  row 0x9050 17 0x4 1 .u16 2 true 20 (5, 100) 0,
  row 0x9050 17 0x5 1 .u16 2 true 800 (100, 3000) 0,
  row 0x9050 17 0x6 1 (.table 144) 1 false 0 (0, 0) 0,
  row 0x9070 1 0x1 1 .u64 1 true 0 (0, 0) 0,
  row 0x9070 1 0x2 2 .u32 1 true 0 (0, 0) 0,
  row 0x9070 1 0x4 1 .u64 1 true 0 (0, 0) 0,
  row 0x9080 100 0x1 1 .u8 1 false 0 (0, 0) 0,
  row 0x9080 100 0x2 1 .u16 1 false 0 (0, 0) 0,
  row 0x9080 100 0x3 1 .u32 1 false 0 (0, 0) 0,
  row 0x9080 100 0x4 1 .i32 1 false 0 (0, 0) 0,
  row 0x9080 100 0x5 1 .u16 1 true 0 (0, 0) 0,
  row 0x9080 100 0x6 1 .u16 1 false 0 (0, 0) 0,
  row 0x9080 100 0x7 1 .u8 1 false 0 (0, 0) 0,
  row 0x9080 100 0x8 1 .u32 1 false 0 (0, 0) 0,
  row 0x9080 100 0x9 1 .u32 3 false 0 (0, 0) 0,
  row 0x9080 100 0xa 2 .u64 1 true 0 (0, 0) 0,
  row 0x9080 100 0xc 1 .i32 1 true 0 (0, 0) 0,
  row 0xa000 64 0x1 8 .u8 2 true 0 (0, 1) 0,
  row 0xf000 1 0x1 1 .u8 2 false 0 (0, 1) 1,
  row 0xf000 1 0x2 1 .u8 1 false 0 (0, 0) 0,
  row 0xf000 1 0x4 1 .u32 2 true 1000 (10, 600000) 0,
  row 0xf000 1 0x5 2 .u8 1 false 0 (0, 0) 0,
  row 0xf000 1 0x7 1 .bool 2 true 0 (0, 0) 1,
  row 0xf000 1 0x8 1 .u8 3 false 0 (1, 2) 1,
  row 0xf000 1 0x9 1 .u32 1 true 0 (0, 0) 0,
  row 0xf000 1 0xa 1 .u8 3 false 0 (1, 1) 1,
  row 0xf001 1 0x1 1 .u8 3 false 0 (1, 3) 1,
  row 0xf001 1 0x2 1 .bool 2 true 0 (0, 0) 1,
  row 0xf002 1 0x1 3 .u8 1 false 0 (0, 0) 0,
  row 0xf002 1 0x4 2 .u32 1 false 0 (0, 0) 0,
  row 0xf002 1 0x6 3 .u32 1 false 0 (0, 0) 0,
  row 0xf002 1 0x9 3 .u32 1 true 0 (0, 0) 0,
  row 0xf002 1 0xc 1 .u8 3 false 0 (1, 1) 1,
  row 0xf002 1 0xd 3 .u32 1 false 0 (0, 0) 0,
  row 0xf002 1 0x10 1 .bool 2 true 1 (0, 0) 1,
  row 0xf003 1 0x1 2 .u16 1 true 0 (0, 0) 0,
  row 0xf0c0 1 0x1 1 .bool 2 false 0 (0, 0) 1,
  row 0xf0c0 1 0x2 1 .u64 2 false 0 (0, 0) 1,
  row 0xf0c0 1 0x3 1 (.dom 4096) 1 false 0 (0, 0) 0]

/-- Every entry but the subindices 0x00, in order of index. -/
def dictTable : List Fam :=
  dictTable1 ++ dictTable2 ++ dictTable3 ++ dictTable4 ++ dictTable5 ++ dictTable6 ++ dictTable7

/-- Does the family hold entry `idx`.`sub`? -/
def Fam.has (f : Fam) (idx sub : Nat) : Bool :=
  decide (f.lo ≤ idx) && decide (idx < f.lo + f.n) && decide (f.s0 ≤ sub) && decide (sub < f.s0 + f.m)

/-- The family of entry `idx`.`sub`, none where the entry does not exist (R377). -/
def famOf (idx sub : Nat) : Option Fam := dictTable.find? (fun f => f.has idx sub)

/-- The number of subindices of `idx` other than 0x00. -/
def subCount (idx : Nat) : Nat :=
  (dictTable.map (fun f => if f.lo ≤ idx ∧ idx < f.lo + f.n then f.m else 0)).foldl (· + ·) 0

/-- The subindices of the families of `idx` after `sub`, the least of them. -/
def nextSub (idx sub : Nat) : Option Nat :=
  (dictTable.filterMap (fun f =>
    if f.lo ≤ idx ∧ idx < f.lo + f.n ∧ sub + 1 < f.s0 + f.m then some (max f.s0 (sub + 1)) else none)).foldl
    (fun a b => match a with | none => some b | some x => some (min x b)) none

/-- The least index after `idx` that has entries. -/
def nextIdx (idx : Nat) : Option Nat :=
  (dictTable.filterMap (fun f => if idx + 1 < f.lo + f.n then some (max f.lo (idx + 1)) else none)).foldl
    (fun a b => match a with | none => some b | some x => some (min x b)) none

/-- The entry after `idx`.`sub` in order of index and subindex, subindices 0x00 included (R383, NEXT). -/
def nextEntry (idx sub : Nat) : Option (Nat × Nat) :=
  match nextSub idx sub with
  | some s => some (idx, s)
  | none => (nextIdx idx).map (fun i => (i, 0))

/-- Is entry `idx` function-relative (R377)? -/
def isFrel (idx : Nat) : Bool := idx == 0x1050 || idx == 0x1180

end Sys2Proof.Machine
end

