-- ==== Sys2Proof/Machine/Operands.lean ====
section
/-!
DEFINITION. The operand forms of the commands: the fields of descriptors, Dictionary PDUs, message and frame headers,
and the checks of R47 and R382 that rest on the fields alone.
-/

namespace Sys2Proof.Machine

/-- The opcode of a descriptor (Table 2-3). -/
def dOp (d : Desc) : Nat := bits d 7 0

/-- The handle of a descriptor. -/
def dHnd (d : Desc) : Nat := bits d 127 64

/-- The tag of a descriptor. -/
def dTag (d : Desc) : Nat := bits d 47 32

/-- Command field `[hi:lo]` of a descriptor, as Tables 2-4, 4-10, 5-6 and the others number them. -/
def dFld (d : Desc) (hi lo : Nat) : Nat := bits d hi lo

/-- Flag `n` of a descriptor: flags[24] is bit 24. -/
def dFlag (d : Desc) (n : Nat) : Bool := bit d n

/-- The fields and flags an opcode names (Tables 2-4, 4-10, 5-6, 8-9, 10-3, 11-7, 12-6, 13-8, 16-6), as [hi:lo] pairs;
none for an unassigned opcode. REG makes addr and count of WINDOW_OPEN rsvd; HALF makes target of MIGRATE rsvd; the
operand bits an ATOMIC's op does not use are rsvd. -/
def descFields (d : Desc) : Option (List (Nat × Nat)) :=
  match dOp d with
  | 0x01 => some [(191, 160), (159, 154), (153, 152)]
  | 0x02 => some [(191, 128), (255, 224), (223, 192), (319, 256), (375, 320), (447, 432), (431, 416), (415, 408), (407, 400), (399, 392), (24, 24), (25, 25), (26, 26)]
  | 0x03 => some [(141, 128), (24, 24)]
  | 0x04 => some []
  | 0x05 => some [(191, 160), (159, 152)]
  | 0x06 => some [(135, 128)]
  | 0x07 => some [(191, 160), (159, 128)]
  | 0x08 => some []
  | 0x09 => some [(191, 160)]
  | 0x0A => some []
  | 0x10 => some (if dFlag d 24 then [(24, 24), (25, 25)] else [(133, 128), (24, 24), (25, 25)])
  | 0x11 => some []
  | 0x12 => some [(159, 128), (165, 160), (24, 24)]
  | 0x13 => some []
  | 0x14 => some []
  | 0x20 => some [(191, 128), (223, 192), (230, 224), (24, 24)]
  | 0x21 => some [(134, 128), (24, 24)]
  | 0x22 => some [(183, 128), (223, 192), (226, 224), (24, 24)]
  | 0x23 => some [(183, 128), (223, 192)]
  | 0x24 => some [(183, 128), (223, 192), (226, 224), (24, 24)]
  | 0x25 => some [(128, 128), (129, 129), (139, 130), (149, 140)]
  | 0x26 => some ((if dFld d 258 256 = 1 then [(207, 192)] else if dFld d 258 256 = 3 then [(255, 192)] else [(223, 192)])
      ++ [(183, 128), (258, 256)])
  | 0x30 => some [(191, 128), (223, 192), (24, 24)]
  | 0x31 => some [(191, 128), (223, 192)]
  | 0x32 => some [(191, 128), (223, 192), (255, 224), (287, 256)]
  | 0x40 => some [(191, 128), (255, 192), (261, 256), (284, 272)]
  | 0x41 => some [(191, 128), (261, 256), (284, 272), (24, 24)]
  | 0x42 => some [(191, 128), (261, 256), (284, 272)]
  | 0x43 => some [(261, 256), (319, 288), (351, 320), (357, 352)]
  | 0x44 => some [(261, 256)]
  | 0x50 => some [(191, 128), (255, 192), (319, 256), (383, 320), (415, 384), (447, 416), (479, 448), (485, 480), (495, 486), (511, 496), (24, 24), (25, 25), (26, 26)]
  | 0x51 => some [(191, 128), (255, 192), (261, 256), (284, 272)]
  | 0x52 => some [(191, 128), (261, 256), (284, 272)]
  | 0x60 => some [(131, 128), (139, 132)]
  | 0x61 => some [(131, 128), (139, 132)]
  | 0x62 => some [(135, 128), (139, 136), (255, 192)]
  | 0x63 => some [(135, 128), (155, 136)]
  | 0x70 => some [(24, 24)]
  | 0x71 => some []
  | 0x72 => some [(129, 128), (24, 24)]
  | 0x80 => some [(191, 128), (255, 192), (319, 256), (327, 320), (331, 328), (335, 332), (343, 336), (354, 344), (355, 355), (356, 356), (372, 357), (388, 373)]
  | 0x81 => some [(135, 128), (139, 136)]
  | 0x82 => some []
  | 0x83 => some [(183, 128), (223, 192), (231, 224)]
  | 0x84 => some [(231, 224)]
  | 0x85 => some (if dFlag d 24 then [(231, 224), (239, 232), (287, 256), (24, 24), (25, 25)]
      else [(183, 128), (223, 192), (231, 224), (239, 232), (287, 256), (24, 24), (25, 25)])
  | 0x86 => some [(239, 232)]
  | 0x87 => some [(183, 128), (231, 224), (319, 256)]
  | 0x88 => some [(231, 224), (319, 256)]
  | _ => none

/-- Does the opcode's chapter give its handle as 0? -/
def handleZero (op : Nat) : Bool :=
  op == 0x01 || (0x20 ≤ op && op ≤ 0x26) || op == 0x31 || (0x40 ≤ op && op ≤ 0x62) || (0x70 ≤ op && op ≤ 0x88)

/-- The bits of the fields listed, cleared from `n`. -/
def clearFields (n : Nat) : List (Nat × Nat) → Nat
  | [] => n
  | (hi, lo) :: t => clearFields (setBits n hi lo 0) t

/-- The status details of refusals (Table 2-5 and Table 18-3). -/
def dBUSY : Nat := 0x101
/-- PARITY. -/
def dPARITY : Nat := 0x102
/-- VERSION. -/
def dVERSION : Nat := 0x103
/-- OPCODE. -/
def dOPCODE : Nat := 0x104
/-- RSVD. -/
def dRSVD : Nat := 0x105
/-- RANGE. -/
def dRANGE : Nat := 0x106
/-- QUOTA. -/
def dQUOTA : Nat := 0x107
/-- STALE. -/
def dSTALE : Nat := 0x108
/-- NO_ENTRY. -/
def dNOENTRY : Nat := 0x201
/-- TYPE. -/
def dTYPE : Nat := 0x202
/-- FORMAT. -/
def dFORMAT : Nat := 0x203
/-- MAINTENANCE. -/
def dMAINT : Nat := 0x204
/-- SESSION. -/
def dSESSION : Nat := 0x205
/-- ORIGIN. -/
def dORIGIN : Nat := 0x206
/-- SEQUENCE. -/
def dSEQ : Nat := 0x207
/-- READ_ONLY. -/
def dREADONLY : Nat := 0x208

/-- The statuses of Table 0-5. -/
def stOK : Nat := 0
/-- CANCELLED. -/
def stCANCELLED : Nat := 1
/-- LATE. -/
def stLATE : Nat := 2
/-- SHORT. -/
def stSHORT : Nat := 3
/-- DEFERRED. -/
def stDEFERRED : Nat := 4
/-- NOT_OWNER. -/
def stNOTOWNER : Nat := 0x10
/-- CONFLICT. -/
def stCONFLICT : Nat := 0x11
/-- LEASE_EXPIRED. -/
def stLEASE : Nat := 0x12
/-- POISONED. -/
def stPOISONED : Nat := 0x20
/-- INTEGRITY. -/
def stINTEGRITY : Nat := 0x21
/-- CHECK_VALUE. -/
def stCHECK : Nat := 0x22
/-- NO_CANDIDATE. -/
def stNOCAND : Nat := 0x30
/-- GRAMMAR_DEAD. -/
def stDEAD : Nat := 0x31
/-- NO_SPACE. -/
def stNOSPACE : Nat := 0x40
/-- TTL_EXPIRED. -/
def stTTL : Nat := 0x41
/-- HELD. -/
def stHELD : Nat := 0x50
/-- BAD_DESCRIPTOR. -/
def stBAD : Nat := 0x60
/-- DENIED. -/
def stDENIED : Nat := 0x61
/-- TABLE_INVALID. -/
def stTABLE : Nat := 0x62

/-- Checks 1 to 5 of R47 that rest on the common words: the detail of the first that fails. `op` is the command's. -/
def descCheck (op : Nat) (d : Desc) : Option Nat :=
  if !parOk d.toNat 8 63 56 then some dPARITY
  else if bits d 15 8 ≠ 1 then some dVERSION
  else if dOp d ≠ op then some dOPCODE
  else
    match descFields d with
    | none => some dOPCODE
    | some fs =>
      if clearFields d.toNat ([(127, 64), (63, 56), (47, 32), (15, 8), (7, 0)] ++ fs) ≠ 0 then some dRSVD
      else if handleZero op && decide (dHnd d ≠ 0) then some dRANGE
      else none

/-- A session handle: partition, index, generation (Table 2-1). -/
def hPart (h : Nat) : Nat := bitsN h 63 58
/-- The directory index of a handle. -/
def hIdx (h : Nat) : Nat := bitsN h 57 36
/-- The generation of a handle. -/
def hGen (h : Nat) : Nat := bitsN h 35 0
/-- The handle of index `i`, partition `p`, generation `g`. -/
def mkHandle (p i g : Nat) : Nat := (p % 64) * 2 ^ 58 + (i % 2 ^ 22) * 2 ^ 36 + g % 2 ^ 36

/-- The half of a directory index (R19): West below 2,097,152. -/
def idxHalf (i : Nat) : Nat := if i < 2097152 then 0 else 1

/-- A value of two words, low word first (R394). -/
def w2 (n : Nat) : List Nat := [n % 2 ^ 32, n / 2 ^ 32 % 2 ^ 32]

/-- The words of an event record that name a session, slot, page handle, row, item, address or tag, by code: they read 0
for partitions 1 to 63 in confidential mode (Table 17-7). -/
def sensitiveWords (code : Nat) : List Nat :=
  match code with
  | 0x1004 => [2, 3]
  | 0x1005 => [2, 3]
  | 0x1007 => [1, 2]
  | 0x1008 => [1, 2]
  | 0x2001 => [0, 1]
  | 0x2004 => [0]
  | 0x2030 => [0, 1]
  | 0x2032 => [0, 1]
  | 0x2033 => [0, 1]
  | 0x2034 => [0, 1]
  | 0x2035 => [1, 2]
  | 0x2036 => [0, 1]
  | 0x2050 => [2]
  | 0x2052 => [1, 2]
  | 0x5002 => [0, 1]
  | 0x5003 => [0, 1, 2]
  | 0x5010 => [0, 1, 2]
  | 0x5011 => [0, 1, 2]
  | 0x5012 => [2]
  | 0x5022 => [1]
  | 0x6001 => [2]
  | 0x6002 => [2]
  | 0x6003 => [0, 1]
  | 0x6004 => [0, 1]
  | 0x6010 => [1]
  | 0x6011 => [1]
  | 0x6020 => [2]
  | 0x6021 => [2]
  | 0x6022 => [2, 3]
  | 0x6023 => [1, 2]
  | _ => []

/-- The words `ws` with those at the positions listed set to 0. -/
def maskWords (ps : List Nat) (ws : List Nat) : List Nat :=
  (List.range ws.length).map (fun i => if ps.contains i then 0 else nth ws i 0)

end Sys2Proof.Machine
end

