-- ==== Sys2Proof/Machine/Flags.lean ====
section
/-!
DEFINITION. The words the device forms: completions, output and event records with their parity and phase, mailbox and
lease words, and the device's output pins as functions of the state.
-/

namespace Sys2Proof.Machine

/-- The phase bit of the completion at count `n` of a ring of size `lgsz` (R333). -/
def phaseOf (lgsz n : Nat) : Nat := 1 - n >>> (4 + lgsz) % 2

/-- A completion's 256 bits (Table 2-5). -/
def Completion.word (c : Completion) (ph : Nat) : Nat :=
  let n := c.slot + ph * 2 ^ 14 + b2n c.fin * 2 ^ 15 + c.detail * 2 ^ 16 + c.tag * 2 ^ 32 + c.status * 2 ^ 48
    + c.handle * 2 ^ 64 + c.produced % 2 ^ 32 * 2 ^ 128 + c.count % 2 ^ 32 * 2 ^ 160 + c.aux % 2 ^ 32 * 2 ^ 192
    + c.half * 2 ^ 224
  withPar n 4 255 252

/-- An event record's 256 bits (Table 18-9). -/
def EventRec.word (e : EventRec) : Nat :=
  let n := nth e.words 0 0 % 2 ^ 32 * 2 ^ 8 + nth e.words 1 0 % 2 ^ 32 * 2 ^ 40 + nth e.words 2 0 % 2 ^ 32 * 2 ^ 72
    + nth e.words 3 0 % 2 ^ 32 * 2 ^ 104 + b2n e.lost * 2 ^ 152 + e.half * 2 ^ 153 + e.part % 64 * 2 ^ 154
    + e.code * 2 ^ 160 + e.time % 2 ^ 48 * 2 ^ 176 + e.seq % 2 ^ 32 * 2 ^ 224
  withPar n 4 7 0

/-- The MRSP word of a mailbox (Table 18-6). -/
def Mailbox.mrsp (m : Mailbox) : Nat := m.rseq + b2n m.done * 2 ^ 16 + b2n m.pend * 2 ^ 17

/-- Is the ring without room for one more record (R338)? -/
def Ring.isFull (r : Ring) : Bool := decide (16 * 2 ^ r.lgsz ≤ (r.posted + 2 ^ 32 - r.hostIdx % 2 ^ 32) % 2 ^ 32)

/-- Is a half in HOLD, by its lease or for want of the refclk (R420, R425)? -/
def State.inHold (s : State) (h : Nat) : Bool := (s.clk.lease.get h).hold || s.boot.refLost

/-- ALERT_N is driven low (R447). -/
def State.alertLow (s : State) : Bool :=
  s.boot.mode == 0 || s.boot.mode == 3 || s.clk.lease.w.hold || s.clk.lease.e.hold || s.boot.refLost || s.boot.dropped

/-- The duty in % an island works at: the lower of thermal and power pacing (R454, R455). Flash ports are kind 2, vector
search and embedding service kinds 7 and 8, compute clusters kind 0. -/
def pacedDuty (p : Power) (kind thermal : Nat) : Nat :=
  let pw := if kind = 2 then nth p.duty 0 100 else if kind = 7 ∨ kind = 8 then nth p.duty 1 100
    else if kind = 0 then nth p.duty 2 100 else 100
  min pw thermal

/-- THERM_N is driven low: an island is paced, or the device is in shutdown (R458). -/
def State.thermLow (s : State) : Bool :=
  s.boot.shut || s.power.duty.any (fun d => decide (d < 100)) || s.clk.islands.any (fun i => decide (i.2.duty < 100))

/-- The rails are down: the feed has fallen, or the device is in shutdown (R452, R455). -/
def State.dark (s : State) : Bool := s.boot.off || s.boot.shut

/-- Is the bridge between the halves down (R24)? -/
def State.bridgeDown (s : State) : Bool := s.boot.bridge

end Sys2Proof.Machine
end

