-- ==== Sys2Proof/Machine/Ops.lean ====
section
/-!
DEFINITION. The named operations every command is built from: the trace of what the device sends, counters, Dictionary
values, functions and partitions, posting on rings, events, completions and directory entries.
-/

namespace Sys2Proof.Machine

/-! ## Trace -/

/-- `s` having sent `o`. -/
def State.emit (s : State) (o : Out) : State := { s with out := o :: s.out }

/-! ## Dictionary values -/

/-- The key of entry `idx`.`sub`. -/
def dkey (idx sub : Nat) : Nat := 256 * idx + sub

/-- The key of function-relative entry `idx`.`sub` of function `fn`. -/
def fkey (fn idx sub : Nat) : Nat := 2 ^ 24 * (fn + 1) + 256 * idx + sub

/-- The default bytes of entry `idx`.`sub` (the Default columns). The MAC address and PLCA node follow BSLOT (R389); margin
curves and envelopes are fused (Table 19-7). -/
def dfltBytes (bslot idx sub : Nat) : List Byte :=
  match famOf idx sub with
  | none => []
  | some f =>
    let d := if idx = f.lo then f.dflt0.getD f.dflt else f.dflt
    if idx = 0x1000 ∧ sub = 1 then (leBytes 6 (0x00325343_4F02 + (bslot % 256) * 2 ^ 40))
    else if idx = 0x1000 ∧ sub = 3 then leBytes 1 (bslot + 1)
    else if f.lo = 0x9050 ∧ (sub = 2 ∨ sub = 3) then leBytes 2 (Config.fused sub (idx - 0x9050))
    else if f.lo = 0x9050 ∧ (sub = 1 ∨ sub = 6) then (List.range 24).map (Config.factoryCurveByte (idx - 0x9050))
    else match f.ty with
      | .table _ => []
      | .str _ => []
      | .dom n => if f.lo = 0x7040 then [] else leBytes n d
      | t => leBytes t.max d

/-- The bytes of the value stored or defaulted at entry `idx`.`sub`. -/
def State.dbytes (s : State) (idx sub : Nat) : List Byte :=
  match s.dict.vals.get? (dkey idx sub) with
  | some b => b
  | none => dfltBytes s.boot.bslot idx sub

/-- That value as a number. -/
def State.dval (s : State) (idx sub : Nat) : Nat := leNat (s.dbytes idx sub)

/-- The value of function-relative entry `idx`.`sub` of function `fn`. -/
def State.fval (s : State) (fn idx sub : Nat) : Nat :=
  match s.dict.vals.get? (fkey fn idx sub) with
  | some b => leNat b
  | none => 0

/-- The Dictionary with value `b` at key `k`, `pers` telling that it is persisted: both copies and the write count
(R380). -/
def Dict.set (d : Dict) (k : Nat) (b : List Byte) (pers : Bool) : Dict :=
  { d with
    vals := d.vals.put k b
    store := if pers then d.store.put k (((d.store.get? k).map (·.1)).getD 0 + 1, b) else d.store }

/-- `s` with value `b` at entry `idx`.`sub`. -/
def State.dset (s : State) (idx sub : Nat) (b : List Byte) : State :=
  { s with dict := s.dict.set (dkey idx sub) b (((famOf idx sub).map (·.pers)).getD false) }

/-- `s` with the number `n` at entry `idx`.`sub`. -/
def State.dsetN (s : State) (idx sub n : Nat) : State :=
  s.dset idx sub (leBytes (((famOf idx sub).map (·.ty.max)).getD 0) n)

/-- Setting `sub` (1 to 5) of the field network in force: the values of the last link return (R398). -/
def State.netCfg (s : State) (sub : Nat) : Nat :=
  match s.fnet.cfg[sub - 1]? with
  | some b => leNat b
  | none => s.dval 0x1000 sub

/-- Confidential mode is on (R374). -/
def State.confidential (s : State) : Bool := s.dval 0x7000 2 != 0

/-- The device is in maintenance state (Table 18-10). -/
def State.inMaint (s : State) : Bool := s.maint.st == 2

/-- Partition `p` is enabled (R364): 0 always. -/
def State.partOn (s : State) (p : Nat) : Bool := p == 0 || (decide (p < 64) && s.dval (0x7040 + p) 1 == 1)

/-! ## Functions -/

/-- The partition function `fn` is bound to (R329, R365): function 0 of a port is partition 0's. -/
def State.fnPart (s : State) (fn : Nat) : Option Nat :=
  if 256 ≤ fn then none
  else if fn % 64 = 0 then some 0
  else
    let b := s.dval (0x7080 + fn / 64) (1 + fn % 64)
    if b < 64 then some b else none

/-- The resets function `fn` has had. -/
def State.gen (s : State) (fn : Nat) : Nat := s.host.fnGen.getD fn 0

/-- The key of ring `id` of kind `kind` of function `fn`: 1 SQ, 2 CQ, 3 output, 4 event. -/
def ringKey (fn kind id : Nat) : Nat := fn * 2048 + kind * 256 + id

/-! ## Counters -/

/-- The largest value of a counter (R274). -/
def ctrMax : Nat := 0xFFFFFFFFFFFFFFFF

/-- Counter `k` advanced by `n`, saturating (R8): SAT is set when the maximum is reached. -/
def Counters.add (c : Counters) (k n : Nat) : Counters :=
  let v := c.val.getD k 0
  if n = 0 then c
  else if v + n < ctrMax then { c with val := c.val.put k (v + n) }
  else { c with val := c.val.put k ctrMax, sat := if c.sat.contains k then c.sat else k :: c.sat }

/-- Counter `k`, which counts in units of `unit` bytes, advanced by `n` bytes; what does not make up a unit is kept. -/
def Counters.addUnits (c : Counters) (k unit n : Nat) : Counters :=
  let r := c.rest.getD k 0 + n
  let d := c.add k (r / unit)
  { d with rest := d.rest.put k (r % unit) }

/-- `n` towards the Safelight aggregate `sub` of partition `p`, which the once-per-second update takes (R375). -/
def Counters.safe (c : Counters) (p sub n : Nat) : Counters :=
  { c with rest := c.rest.put (dkey (0x8780 + p) sub) (c.rest.getD (dkey (0x8780 + p) sub) 0 + n) }

/-! ## Rings -/

/-- The effect of posting on a ring: the ring, whether the record was posted, whether it was dropped, and whether a
message is due. -/
structure Posted where
  ring : Ring
  posted : Bool
  dropped : Bool
  msg : Bool
deriving DecidableEq, Repr

/-- A record as posted: an event record carries LOST when records of its ring were dropped since the last (R395). -/
def Ring.mark (r : Ring) : Rec → Rec
  | .event e => .event { e with lost := r.lost }
  | x => x

/-- Is a message due once this record is counted (R339)? -/
def Ring.due (r : Ring) (x : Rec) : Bool :=
  r.iv && (decide (r.cthr ≤ r.msg + 1) ||
    (match x with
     | .comp c lc => r.lci && c.fin && lc
     | _ => false))

/-- Record `x` offered to ring `r` (R333, R338, R339); `stop` that its function's DMA stands still (R352, R353). -/
def Ring.offer (r : Ring) (stop : Bool) (x : Rec) : Posted :=
  if stop || r.isFull || !r.backlog.isEmpty then
    if r.kind = 4 ∧ 4096 ≤ r.backlog.length then
      { ring := { r with lost := true }, posted := false, dropped := true, msg := false }
    else { ring := { r with backlog := r.backlog ++ [x] }, posted := false, dropped := false, msg := false }
  else
    let due := r.due x
    { ring := { r with posted := r.posted + 1, lost := false, msg := if due then 0 else r.msg + 1 }
      posted := true, dropped := false, msg := due }

/-- The vector of a ring signalled: a message when it is unmasked, else its pending bit (R339). -/
def HostPort.signal (h : HostPort) (fn vector : Nat) : HostPort × List Out :=
  let v := fn * 2048 + vector
  if h.unmasked.contains v then (h, [.msix fn vector])
  else ({ h with pendingV := if h.pendingV.contains v then h.pendingV else v :: h.pendingV }, [])

/-- Record `x` posted on the ring of key `k`: the host port, what it sends, and the counts of completions, output records
and messages posted and of records dropped. A ring that does not exist discards it. -/
def HostPort.post (h : HostPort) (k : Nat) (x : Rec) : HostPort × List Out × List (Nat × Nat) × Bool :=
  match h.rings.get? k with
  | none => (h, [], [], false)
  | some r =>
    let p := r.offer (h.stops.contains r.fn) x
    let h1 := { h with rings := h.rings.put k p.ring }
    if p.posted then
      let kindCtr := match x with
        | .comp _ _ => [(dkey 0x8110 2, 1)]
        | .output _ => [(dkey 0x8110 3, 1)]
        | .event _ => []
      if p.msg then
        let g := h1.signal r.fn r.vector
        (g.1, g.2 ++ [.post k r.posted (r.mark x)], kindCtr ++ (if g.2.isEmpty then [] else [(dkey 0x8110 4, 1)]), false)
      else (h1, [.post k r.posted (r.mark x)], kindCtr, false)
    else (h1, [], if p.dropped then [(dkey 0x8110 0xC, 1)] else [], p.dropped)

/-- Counters advanced by a list of counts. -/
def Counters.addAll (c : Counters) (l : List (Nat × Nat)) : Counters := l.foldl (fun c p => c.add p.1 p.2) c

/-! ## Events -/

/-- The latch of an event that is raised once: key `code` and the thing `k` it concerns. -/
def latchKey (code k : Nat) : Nat := code * 2 ^ 40 + k

/-- The EVENT frame header's 128 bits (Table 18-8). -/
def fnHeader (ftype plen fseq node nrec eseq : Nat) : Nat :=
  withPar (eseq % 2 ^ 32 * 2 ^ 32 + nrec % 256 * 2 ^ 64 + node % 256 * 2 ^ 72 + fseq % 2 ^ 16 * 2 ^ 80
    + plen % 2 ^ 16 * 2 ^ 96 + ftype % 256 * 2 ^ 112 + 2 ^ 120) 2 1 0

/-- The records waiting are sent while the link is up and fewer than `lim` frames are unacknowledged (R396): the field
network, the frame sent and the records in it. `dst` is the address of 0x1040.02 and `node` the PLCA node. -/
def FieldNet.flush (f : FieldNet) (lim dst node : Nat) : FieldNet × List Out × Nat :=
  if f.link = 0 ∨ f.backlog.isEmpty ∨ lim ≤ f.unacked.length then (f, [], 0)
  else
    let rs := f.backlog.take 32
    let eseq := (rs.head?.map (·.seq)).getD 0
    ({ f with backlog := f.backlog.drop 32, unacked := f.unacked ++ [{ eseq, fseq := f.fseq, recs := rs }], fseq := f.fseq + 1 },
     [.frame dst 3 (fnHeader 3 (32 * rs.length) f.fseq node rs.length eseq)
       (rs.flatMap (fun e => leBytes 32 e.word))], rs.length)

/-- Event `e` offered to the board manager's path: the backlog of at most 4,096 records (R396). -/
def FieldNet.offer (f : FieldNet) (e : EventRec) : FieldNet × Bool :=
  if 4096 ≤ f.backlog.length then ({ f with lost := true }, true)
  else ({ f with backlog := f.backlog ++ [{ e with lost := f.lost }], lost := false }, false)

/-- The class of an event code (R17) as a bit of a class mask. -/
def classIn (mask code : Nat) : Bool := bitN mask (code / 4096)

/-- Does the event ring of `r` take event `e` (R395): its function subscribes it, the class is in its mask, and the
function is partition 0's or the event's? -/
def State.subscribed (s : State) (r : Ring) (e : EventRec) : Bool :=
  r.kind == 4 && s.fval r.fn 0x1050 1 == r.id && decide (0 < r.id) && classIn (s.fval r.fn 0x1050 2) e.code
    && (match s.fnPart r.fn with
        | some p => p == 0 || p == e.part
        | none => false)

/-- Event `e` offered to every subscribed event ring: the host port, what it sends, the counts, and the rings whose
backlog dropped it. -/
def State.offerRings (s : State) (e : EventRec) : HostPort × List Out × List (Nat × Nat) × List Ring :=
  (s.host.rings.filter (fun kr => s.subscribed kr.2 e)).foldl
    (fun a kr =>
      let p := a.1.post kr.1 (.event e)
      (p.1, p.2.1 ++ a.2.1, p.2.2.1 ++ a.2.2.1, if p.2.2.2 then kr.2 :: a.2.2.2 else a.2.2.2))
    (s.host, [], [], [])

/-- Event `e` offered to the board manager (`net`) and to the event rings (`rings`). -/
def State.deliver (s : State) (e : EventRec) (net rings : Bool) : State × List Ring :=
  let fo := if net && classIn (s.dval 0x1040 1) e.code then s.fnet.offer e else (s.fnet, false)
  let ff := fo.1.flush (s.dval 0x1000 9) (s.dval 0x1040 2) (s.netCfg 3)
  let hr := if rings then s.offerRings e else (s.host, [], [], [])
  ({ s with
    fnet := ff.1
    host := hr.1
    out := ff.2.1 ++ hr.2.1 ++ s.out
    ctr := s.ctr.addAll (hr.2.2.1 ++ (if fo.2 then [(dkey 0x8100 8, 1)] else [])
      ++ (if ff.2.1.isEmpty then [] else [(dkey 0x8100 2, 1), (dkey 0x8100 7, ff.2.2)]))
    boot := { s.boot with dropped := s.boot.dropped || fo.2 || !hr.2.2.2.isEmpty } }, hr.2.2.2)

/-- One event raised (R394, R395): recorded under the next sequence and offered to every path. While the bridge is down West reaches the
host port alone and East the field network alone (R24); the other path is owed the record until the bridge returns. The rings that dropped
it come with the state. -/
def State.raise0 (s : State) (code part half : Nat) (ws : List Nat) : State × List Ring :=
  let e : EventRec :=
    { seq := s.ev.seq, time := if s.clk.cal.st = 0 then 0 else s.clk.cal.now, code, part, half, lost := false
      words := if s.confidential && decide (0 < part) then maskWords (sensitiveWords code) ws else ws }
  let ev : Events :=
    { s.ev with seq := (s.ev.seq + 1) % 2 ^ 32, log := e :: s.ev.log, wait := if s.boot.bridge then s.ev.wait ++ [e] else s.ev.wait }
  State.deliver { s with ev } e (!s.boot.bridge || half == 1) (!s.boot.bridge || half != 1)

/-- What the raising of an event brings with it, from `s` to `t`: 0x8001 for each counter that saturated (R8), and 0x1009 for each ring that
dropped it and was not told so yet. -/
def State.followUps (s t : State) (drops : List Ring) : List (Nat × List Nat) :=
  (t.ctr.sat.take (t.ctr.sat.length - s.ctr.sat.length)).map (fun k => (0x8001, [k]))
    ++ (drops.filter (fun r => !s.ev.latch.has (latchKey 0x1009 (ringKey r.fn 4 r.id)))).map (fun r => (0x1009, [r.fn, r.id]))

/-- The rings that dropped a record are latched for event 0x1009. -/
def State.latchDrops (s : State) (drops : List Ring) : State :=
  { s with ev := { s.ev with latch := drops.foldl (fun l r => l.put (latchKey 0x1009 (ringKey r.fn 4 r.id)) 1) s.ev.latch } }

/-- Follow-up events raised one by one, with what each brings in turn: a counter saturates once and a ring is latched once, so at most `n`
come. -/
def State.tellAll : Nat → List (Nat × List Nat) → State → State
  | 0, _, s => s
  | _ + 1, [], s => s
  | n + 1, (code, ws) :: q, s =>
    let r := s.raise0 code 0 0 ws
    State.tellAll n (q ++ s.followUps r.1 r.2) (r.1.latchDrops r.2)

/-- Event `code` of partition `part` and half `half` with data words `ws`, and the events it brings with it. -/
def State.raise (s : State) (code part half : Nat) (ws : List Nat) : State :=
  let r := s.raise0 code part half ws
  State.tellAll (s.host.rings.length + 16) (s.followUps r.1 r.2) (r.1.latchDrops r.2)

/-- The records owed to the path on the other half delivered there, oldest first, as the bridge is back (R24). -/
def State.deliverOwed (s : State) : State :=
  s.ev.wait.foldl (fun t e =>
    let r := t.deliver e (e.half != 1) (e.half == 1)
    State.tellAll (t.host.rings.length + 16) (t.followUps r.1 r.2) (r.1.latchDrops r.2)) { s with ev := { s.ev with wait := [] } }

/-- The event raised only when the latch of (`code`, `k`) is clear; the latch is set (events raised once until …). -/
def State.raiseOnce (s : State) (code k part half : Nat) (ws : List Nat) : State :=
  if s.ev.latch.has (latchKey code k) then s
  else ({ s with ev := { s.ev with latch := s.ev.latch.put (latchKey code k) 1 } }).raise code part half ws

/-- The latch of (`code`, `k`) cleared. -/
def State.unlatch (s : State) (code k : Nat) : State :=
  { s with ev := { s.ev with latch := s.ev.latch.del (latchKey code k) } }

/-- The event raised at most once per second for the thing `k` it concerns. -/
def State.raiseSec (s : State) (code k part half : Nat) (ws : List Nat) : State :=
  match s.ev.latch.get? (latchKey code k) with
  | some t => if s.ns < t + 1000000000 then s
    else ({ s with ev := { s.ev with latch := s.ev.latch.put (latchKey code k) s.ns } }).raise code part half ws
  | none => ({ s with ev := { s.ev with latch := s.ev.latch.put (latchKey code k) s.ns } }).raise code part half ws

/-- Counter `idx`.`sub` advanced by `n`; event 0x8001 when it saturates (R8, R274). -/
def State.count (s : State) (idx sub n : Nat) : State :=
  let c := s.ctr.add (dkey idx sub) n
  let s1 := { s with ctr := c }
  if c.sat.length > s.ctr.sat.length then s1.raise 0x8001 0 0 [dkey idx sub] else s1

/-- Counter `idx`.`sub` advanced by `n` bytes, counted in units of `unit` bytes. -/
def State.countUnits (s : State) (idx sub unit n : Nat) : State :=
  let c := s.ctr.addUnits (dkey idx sub) unit n
  let s1 := { s with ctr := c }
  if c.sat.length > s.ctr.sat.length then s1.raise 0x8001 0 0 [dkey idx sub] else s1

/-- Event 0x8001 for each counter that saturated since `n` were (R8). -/
def State.satTell (s : State) (n : Nat) : State :=
  (s.ctr.sat.take (s.ctr.sat.length - n)).foldl (fun t k => t.raise 0x8001 0 0 [k]) s

/-! ## Posting and completions -/

/-- Record `x` posted on the ring of key `k` (R333, R338). -/
def State.post (s : State) (k : Nat) (x : Rec) : State :=
  let p := s.host.post k x
  let s1 : State := { s with host := p.1, out := p.2.1 ++ s.out, ctr := s.ctr.addAll p.2.2.1 }
  s1.satTell s.ctr.sat.length

/-- A DMA write of `b` to host address `addr` for function `fn`, discarded when the function was reset since `gen`, and held
while its DMA stands still. -/
def State.dmaTo (s : State) (fn gen addr : Nat) (b : List Byte) : State :=
  if s.gen fn ≠ gen then s
  else if s.host.stops.contains fn then
    { s with host := { s.host with dmaHeld := s.host.dmaHeld ++ [{ fn, gen, addr, data := b }] } }
  else
    let p := (s.fnPart fn).getD 0
    let s1 : State := { s with
      out := .dma fn addr b :: s.out
      ctr := (s.ctr.addUnits (dkey 0x8110 0x10) 4096 b.length).safe p 4 b.length }
    s1.satTell s.ctr.sat.length

/-- `b`, if any, read from host memory by DMA for function `fn` (Table 16-9, Table 17-8). -/
def State.dmaFrom (s : State) (fn : Nat) (b : Option (List Byte)) : State :=
  match b with
  | none => s
  | some x =>
    if s.host.stops.contains fn then s
    else
      let s1 : State := { s with ctr := (s.ctr.addUnits (dkey 0x8110 0x11) 4096 x.length).safe ((s.fnPart fn).getD 0) 4 x.length }
      s1.satTell s.ctr.sat.length

/-- A completion of status `st`, detail `dt` and aux `aux`, final, of command `c`; the other fields 0. -/
def Completion.of (c : Cmd) (st dt aux : Nat) : Completion :=
  { status := st, detail := dt, aux := aux % 2 ^ 32, count := 0, produced := 0, handle := c.handle, tag := c.tag
    slot := 0, half := 0, fin := true }

/-- Completion `x` of command `c` posted on its CQ; discarded when the function was reset since (R340). -/
def State.send (s : State) (c : Cmd) (x : Completion) : State :=
  if s.gen c.fn = c.gen then s.post (ringKey c.fn 2 c.cq) (.comp x c.lc) else s

/-- Command `c` completes with status `st`, detail `dt` and aux `aux`. -/
def State.done (s : State) (c : Cmd) (st dt aux : Nat) : State := s.send c (Completion.of c st dt aux)

/-! ## Directory -/

/-- The generation an entry starts with at a start-up (R428). -/
def State.bootGen (s : State) : Nat := s.boot.starts % 2 ^ 19 * 2 ^ 16

/-- A FREE entry of generation `g`. -/
def DirEntry.blank (g self : Nat) : DirEntry :=
  { state := .free, part := 0, profile := 0, gen := g, lx := false, fk := false, ton := false, pp := false, cp := false
    cl := false, count := 0, prefixLen := 0, ptroot := 0, children := 0, parent := 0, sv := false, slot := 0
    reslayers := 0, ttl := 0, tail := 0, tv := false, expires := 0, epoch := 0, offered := false, shalf := 0, thalf := 0
    owner := self, target := self, olease := 0, retired := false, lost := false, copyBad := false }

/-- The device's own endpoint id (R308): 4 × BSLOT. -/
def State.self (s : State) : Nat := 4 * s.boot.bslot

/-- Directory entry `i`. -/
def State.ent (s : State) (i : Nat) : DirEntry :=
  match s.sess.dir.get? i with
  | some e => e
  | none => DirEntry.blank s.bootGen s.self

/-- `s` with directory entry `i` set to `e`. -/
def State.setEnt (s : State) (i : Nat) (e : DirEntry) : State :=
  { s with sess := { s.sess with dir := s.sess.dir.put i e } }

/-- `s` with directory entry `i` changed by `f`. -/
def State.updEnt (s : State) (i : Nat) (f : DirEntry → DirEntry) : State := s.setEnt i (f (s.ent i))

/-- The handle an entry's session has now. -/
def State.handleOf (s : State) (i : Nat) : Nat := mkHandle (s.ent i).part i (s.ent i).gen

/-- The completion fields a session gives (Table 2-5): half, count, handle. -/
def State.sessComp (s : State) (c : Cmd) (i st dt aux : Nat) : Completion :=
  { Completion.of c st dt aux with half := (s.ent i).shalf, count := (s.ent i).count, handle := s.handleOf i }

/-- Command `c` on session `i` completes. -/
def State.doneSess (s : State) (c : Cmd) (i st dt aux : Nat) : State := s.send c (s.sessComp c i st dt aux)

/-- A completion of `c` that gives the half and count of the session `c` names, where it is live and the submitter may see it
(Table 2-5). -/
def State.seenComp (s : State) (c : Cmd) (st dt aux : Nat) : Completion :=
  let i := hIdx c.handle
  let e := s.ent i
  let seen := match s.fnPart c.fn with
    | some p => p == 0 || p == e.part
    | none => false
  if c.handle ≠ 0 ∧ e.state ≠ .free ∧ e.state ≠ .closed ∧ s.handleOf i = c.handle ∧ seen = true then
    { Completion.of c st dt aux with half := e.shalf, count := e.count }
  else Completion.of c st dt aux

/-- A completion of status `st` counted at 0x8200.07 where it is one of the refusal statuses of R4. -/
def State.countRefusal (s : State) (st : Nat) : State :=
  if st = stBAD ∨ st = stDENIED ∨ st = stTABLE then s.count 0x8200 7 1 else s

/-- Command `c` is turned away with `aux`: a final completion, counted when its status is a refusal (R4). -/
def State.refuseA (s : State) (c : Cmd) (st dt aux : Nat) : State :=
  let s1 := s.countRefusal st
  s1.send c (s1.seenComp c st dt aux)

/-- Command `c` is refused with aux 0. -/
def State.refuse (s : State) (c : Cmd) (st dt : Nat) : State := s.refuseA c st dt 0

/-- A refusal whose DENIED is for another partition's things, counted at 0x8700.03 (Table 17-10). -/
def State.refuseX (s : State) (c : Cmd) (st dt : Nat) : State :=
  (if st = stDENIED ∧ dt = 0 then s.count 0x8700 3 1 else s).refuse c st dt

/-- The command of descriptor `d` taken from SQ `sq` of function `fn`. -/
def State.cmdOf (s : State) (fn sq : Nat) (d : Desc) (lc : Bool) : Cmd :=
  { fn, cq := ((s.host.rings.get? (ringKey fn 1 sq)).map (·.cq)).getD 0, tag := dTag d, handle := dHnd d, gen := s.gen fn, lc }

/-- A command that passed the checks of R47, with the partition it comes from; else the state with its refusal. Nothing is
fetched for a function whose requests stand still (R352, R353). While the
device mode is STARTING, and in TEST for every command but TEST, it completes HELD (R427, R445). -/
def State.take (s : State) (op fn sq : Nat) (d : Desc) (lc : Bool) (k : Cmd → Nat → State) : State :=
  let c := s.cmdOf fn sq d lc
  if s.dark || s.host.stops.contains fn then s
  else
  match s.fnPart fn with
  | none => s.refuse c stDENIED 0
  | some p =>
    if s.boot.mode = 0 ∨ s.boot.mode = 3 ∨ (s.boot.mode = 2 ∧ op ≠ 0x62) then s.refuse c stHELD 0
    else
      match descCheck op d with
      | some dt => s.refuse c stBAD dt
      | none => k c p

/-- Command or message `i` waits for the bridge (R24), a command as it was taken and its partition. -/
def State.park (s : State) (c : Option (Cmd × Nat)) (i : Instr) : State :=
  { s with fab := { s.fab with parked := s.fab.parked ++ [(c, i)] } }

/-- Command `c` of partition `p` on half `h` consumed poison (R259): counted, and event 0x6004 with its tag. -/
def State.tastePoison (s : State) (c : Cmd) (p h : Nat) : State := (s.count 0x8600 3 1).raise 0x6004 p h [c.tag]

/-! ## Handles -/

/-- The handle checks of R34 for a descriptor of partition `p`: `any` when partition 0 may name any session, `remote`
when check 3 does not apply. The status, detail and aux of the first that fails. -/
def State.handleCheck (s : State) (p h : Nat) (any remote : Bool) : Option (Nat × Nat × Nat) :=
  let e := s.ent (hIdx h)
  if hPart h ≠ p ∧ ¬ (any ∧ p = 0) then some (stDENIED, 0, 0)
  else if e.lost then some (stPOISONED, 0, 0)
  else if e.part ≠ hPart h then some (stDENIED, dSTALE, 0)
  else if e.state = .free ∨ e.state = .closed ∨ e.gen ≠ hGen h then
    if e.lx ∧ ((e.state = .closed ∧ e.gen = hGen h) ∨ e.gen = hGen h + 1) then some (stTTL, 0, 0)
    else some (stDENIED, dSTALE, 0)
  else if !remote && e.owner ≠ s.self then some (stNOTOWNER, 0, e.owner)
  else none

/-- A session command: taken, its handle checked, and `k` applied to the command, its partition and the index. -/
def State.takeSess (s : State) (op fn sq : Nat) (d : Desc) (lc any remote : Bool)
    (k : Cmd → Nat → Nat → State) : State :=
  s.take op fn sq d lc (fun c p =>
    match s.handleCheck p (dHnd d) any remote with
    | some (st, dt, aux) =>
      (if st = stDENIED ∧ dt = 0 then s.count 0x8700 3 1 else s).refuseA c st dt aux
    | none => k c p (hIdx (dHnd d)))

/-! ## Link messages -/

/-- `s` having originated message `m`: it goes to the links (ch 14, ch 15) from the trace. -/
def State.emitMsg (s : State) (m : Msg) : State := s.emit (.msg m false)

/-- Time moved on to `t` ns of island time. -/
def State.at (s : State) (t : Nat) : State := { s with ns := max s.ns t }

end Sys2Proof.Machine
end

