-- ==== Sys2Proof/Machine/DictOps.lean ====
section
/-!
DEFINITION. Dictionary transactions (ch 18): who an origin counts as, the checks of R382 that rest on the table, the
response and where it goes, and the common frame of a write that has behaviour of its own.
-/

namespace Sys2Proof.Machine

/-- Whom a transaction counts as (Table 17-4): its partition, whether it is the board manager's, and the partition whose
session carries it (0 for an operator session). -/
structure Who where
  part : Option Nat
  bm : Bool
  sess : Option Nat
deriving DecidableEq, Repr

/-- The plaintext path. -/
def State.viaWho (s : State) : Via → Who
  | .doe fn => { part := s.fnPart fn, bm := false, sess := none }
  | .net _ => { part := none, bm := true, sess := none }

/-- Whom origin `o` counts as (Table 17-4). -/
def State.whoOf (s : State) : Origin → Who
  | .mailbox fn => s.viaWho (.doe fn)
  | .net mac _ => s.viaWho (.net mac)
  | .session sid =>
    match s.sec.sess.get? sid with
    | none => { part := none, bm := false, sess := none }
    | some x =>
      if x.principal = 0 then s.viaWho x.via
      else { part := some (x.principal - 1), bm := x.principal == 1, sess := some (x.principal - 1) }

/-- Partition 0 or the board manager. -/
def Who.top (w : Who) : Bool := w.bm || w.part == some 0

/-- An operator session. -/
def Who.op (w : Who) : Bool := w.sess == some 0

/-- Does a path of origin `o` reach the device through the host port? -/
def State.byHost (s : State) : Origin → Bool
  | .mailbox _ => true
  | .net _ _ => false
  | .session sid =>
    match s.sec.sess.get? sid with
    | some x => (match x.via with
      | .doe _ => true
      | .net _ => false)
    | none => false

/-- The session kind an RWS entry asks for (step 6 of R382). -/
def rwsOk (w : Who) (f : Fam) (idx : Nat) (v : List Byte) : Bool :=
  if f.who = 2 then w.op
  else if f.who = 3 then w.sess == some (idx - f.lo)
  else if f.who = 9 then w.op || (leNat v == 2 && w.sess == some (idx - f.lo))
  else w.op

/-- The owner of an embedding table or vector index for a write of `v` to subindex `sub`: the one recorded, or for an
empty descriptor the partition of the base written (R234, R253). -/
def State.ownerFor (s : State) (idx sub osub : Nat) (v : List Byte) : Nat :=
  if s.dict.vals.has (dkey idx 2) then s.dval idx osub
  else if sub = 2 then bitsN (leNat v) 55 50 else s.dval idx osub

/-- The writer rule of an entry's chapter (step 7 of R382). -/
def State.writerOk (s : State) (o : Origin) (w : Who) (f : Fam) (idx sub : Nat) (v : List Byte) : Bool :=
  match f.who with
  | 0 => w.top
  | 1 => w.top && (!s.confidential || w.op)
  | 4 => w.top || (w.part.isSome && w.part == some (s.ownerFor idx sub 0x11 v))
  | 5 => w.top || (w.part.isSome && w.part == some (s.ownerFor idx sub 0x0C v))
  | 6 => w.bm || w.part.isSome
  | 7 => (match o with
    | .mailbox fn => (s.fnPart fn).isSome
    | _ => false)
  | 8 => if sub = 1 then (match o with
      | .mailbox fn => fn == 64 * (idx - f.lo)
      | _ => false) else w.top
  | 10 => w.top && (!s.confidential || w.op)
  | _ => true

/-- Do the bytes meet the type's rule (R378)? -/
def typeRule : Ty → List Byte → Bool
  | .bool, v => decide (leNat v ≤ 1)
  | .f32, v => bitsN (leNat v) 30 23 != 255
  | .str _, v => (utf8Ok v)
  | _, _ => true

/-- May a value of this DOMAIN entry be empty (R378)? Only the link key of R370. -/
def domEmptyOk (idx sub : Nat) : Bool := decide (0x7040 ≤ idx) && decide (idx < 0x7080) && sub == 4

/-- Is it a reserved subindex of a model profile, whose writes are refused (Tables 7-5, 8-8, 9-4)? -/
def rsvdSub (idx sub : Nat) : Bool :=
  decide (0x2340 ≤ idx) && decide (idx < 0x2380)
    && ((decide (0x1F ≤ sub) && decide (sub < 0x40)) || (decide (0x43 ≤ sub) && decide (sub < 0x50)) || decide (0x51 ≤ sub))

/-- Steps 6 to 9 of R382 for a write of `v`: the status and detail of the first that fails. -/
def State.writeCheck (s : State) (o : Origin) (idx sub : Nat) (v : List Byte) : Option (Nat × Nat) :=
  match famOf idx sub with
  | none => if sub = 0 ∧ 0 < subCount idx then some (stDENIED, dREADONLY) else some (stBAD, dNOENTRY)
  | some f =>
    let w := s.whoOf o
    if f.acc = 1 ∧ ¬ rsvdSub idx sub then some (stDENIED, dREADONLY)
    else if f.acc = 4 ∧ ¬ s.inMaint then some (stDENIED, dMAINT)
    else if f.acc = 5 ∧ ¬ rwsOk w f idx v then some (stDENIED, dSESSION)
    else if !s.writerOk o w f idx sub v then some (stDENIED, dORIGIN)
    else if rsvdSub idx sub then some (stBAD, dRANGE)
    else if f.ty.fixed && v.length != f.ty.max && !(v.isEmpty && domEmptyOk idx sub) then some (stBAD, dTYPE)
    else if f.ty.max < v.length then some (stBAD, dTYPE)
    else if !typeRule f.ty v then some (stBAD, dRANGE)
    else if f.range ≠ (0, 0) ∧ ¬ (f.range.1 ≤ leNat v ∧ leNat v ≤ f.range.2) then some (stBAD, dRANGE)
    else none

/-- The bytes of the persisted store in use (R380): each value's length plus 64. -/
def State.storeUsed (s : State) : Nat := s.dict.store.foldl (fun n p => n + p.2.2.length + 64) 0

/-- Does the persisted store lack room for value `v` of entry key `k` (step 11)? -/
def State.storeFull (s : State) (k : Nat) (v : List Byte) : Bool :=
  let old := match s.dict.store.get? k with
    | some p => p.2.length + 64
    | none => 0
  decide (12582912 < s.storeUsed - old + v.length + 64)

/-- Is the value used only by islands of East, so that a field network write reaches it while the bridge is down? -/
def eastOnly (idx : Nat) : Bool :=
  decide (idx < 0x1100) || idx == 0x8100 || idx == 0xF000 || idx == 0x9010 || (decide (0x9040 ≤ idx) && decide (idx < 0x90F0))

/-- Step 12 of R382 while the bridge is down (R393): a transaction through the host port, a write of a persisted entry or
of a value West uses. -/
def State.unreachable (s : State) (o : Origin) (idx sub : Nat) (write : Bool) : Bool :=
  s.boot.bridge && (s.byHost o ||
    (let pers := ((famOf idx sub).map (·.pers)).getD false
     if write then pers || !eastOnly idx else !pers && !eastOnly idx))

/-- A response PDU's 256 bits (Table 18-2). -/
def pduWord (op tid idx sub fver offset total len st dt : Nat) (pend : Bool) : Nat :=
  withPar (b2n pend * 2 ^ 77 + dt % 2 ^ 16 * 2 ^ 80 + st % 2 ^ 16 * 2 ^ 96 + len % 2 ^ 16 * 2 ^ 112
    + total % 2 ^ 32 * 2 ^ 128 + offset % 2 ^ 32 * 2 ^ 160 + fver * 2 ^ 192 + sub % 256 * 2 ^ 200
    + idx % 2 ^ 16 * 2 ^ 208 + tid % 2 ^ 16 * 2 ^ 224 + 2 ^ 240 + op % 256 * 2 ^ 248) 4 7 0

/-- The mailbox of a function, before its first transaction. -/
def Mailbox.zero : Mailbox := { rseq := 0, done := false, pend := false, busy := false, req := [], rsp := [] }

/-- The response kept for a source address: the last 8 of each (R391). -/
def keepRsp (l : List KeptRsp) (r : KeptRsp) : List KeptRsp :=
  let mine := r :: ((l.filter (fun x => x.mac = r.mac)).take 7)
  mine ++ l.filter (fun x => x.mac ≠ r.mac)

/-- Response `pdu` with `value` sent to origin `o` (R385, R386, R391): into the mailbox with DONE, in a DICT response frame
that is kept, or as application data. -/
def State.respond (s : State) (o : Origin) (pdu : Nat) (value : List Byte) : State :=
  let d := { s.dict with pend := s.dict.pend.filter (fun p => p.1 ≠ o) }
  match o with
  | .mailbox fn =>
    { s with
      dict := d
      boxes := s.boxes.put fn { (s.boxes.getD fn Mailbox.zero) with
        done := true, pend := false, busy := false, rsp := leBytes 32 pdu ++ value }
      out := .dict o pdu value :: s.out }
  | .net mac fseq =>
    State.count { s with
      dict := d
      fnet := { s.fnet with kept := keepRsp s.fnet.kept { mac, fseq, pdu, value } }
      out := .frame mac 2 (fnHeader 2 (32 + value.length) fseq (s.netCfg 3) 0 0) (leBytes 32 pdu ++ value)
        :: .dict o pdu value :: s.out } 0x8100 2 1
  | .session _ => { s with dict := d, out := .dict o pdu value :: s.out }

/-- The transaction id that origin `o` has in flight: bits [239:224] of its request. -/
def State.tidOf (s : State) (o : Origin) : Nat := bitsN (((s.dict.pend.find? (fun p => p.1 = o)).map (·.2)).getD 0) 239 224

/-- The final answer to a write of `len` bytes to entry `idx`.`sub`: counted at 0x8100.04 or .05, and a DENIED across
partitions at 0x8700.03. -/
def State.answerW (s : State) (o : Origin) (idx sub len st dt : Nat) : State :=
  let s1 := s.count 0x8100 (if st = 0 then 4 else 5) 1
  let s2 := if st = stDENIED ∧ dt = dORIGIN then s1.count 0x8700 3 1 else s1
  s2.respond o (pduWord 0x82 (s.tidOf o) idx sub 1 0 len 0 st dt false) []

/-- The status and detail of a write "refused" with no status named (R382). -/
def wRefused : Nat × Nat := (stBAD, dRANGE)

/-- The status and detail of a write that "completes DENIED" (R382). -/
def wDenied : Nat × Nat := (stDENIED, dORIGIN)

/-- A write of `v` to entry `idx`.`sub` by `o` that has behaviour `own` of its own: checked under R382, applied whole or
not at all, and answered. -/
def State.writeRow (s : State) (o : Origin) (idx sub : Nat) (v : List Byte)
    (own : State → Except (Nat × Nat) State) : State :=
  if s.dark || s.boot.mode == 3 then s
  else
  match s.writeCheck o idx sub v with
  | some (st, dt) => s.answerW o idx sub v.length st dt
  | none =>
    match own s with
    | .error (st, dt) => s.answerW o idx sub v.length st dt
    | .ok s1 =>
      if ((famOf idx sub).map (·.pers)).getD false ∧ s.storeFull (dkey idx sub) v then
        s.answerW o idx sub v.length stNOSPACE 0
      else if s.unreachable o idx sub true then s.answerW o idx sub v.length stHELD 0
      else s1.answerW o idx sub v.length stOK 0

end Sys2Proof.Machine
end

