-- ==== Sys2Proof/Machine/Links.lean ====
section
/-!
DEFINITION. Optical links (ch 14): training and width, flits, replay and credits, the link states of Table 14-3; board
fabric (ch 15): routing, weighted fair queueing, time gates, policing and the spill buffer; and how the device sends a
message.
-/

namespace Sys2Proof.Machine

/-! ## Messages and flits -/

/-- A routing header's 256 bits (Table 14-6) with len `n`. -/
def Msg.headerLen (m : Msg) (n : Nat) : Nat :=
  withPar (m.ctr % 2 ^ 64 * 2 ^ 64 + n % 2 ^ 26 * 2 ^ 196 + m.hops % 16 * 2 ^ 222 + b2n m.enc * 2 ^ 226
    + m.vc % 8 * 2 ^ 227 + m.mtype % 256 * 2 ^ 230 + m.part % 64 * 2 ^ 238 + m.src % 64 * 2 ^ 244 + m.dst % 64 * 2 ^ 250) 4 3 0

/-- The routing header of a whole message. -/
def Msg.header (m : Msg) : Nat := m.headerLen m.body.length

/-- A message's fields from its routing header and the bytes after it. -/
def Msg.parse (hdr : BitVec 256) (body : List Byte) : Msg :=
  { dst := bits hdr 255 250, src := bits hdr 249 244, part := bits hdr 243 238, mtype := bits hdr 237 230
    vc := bits hdr 229 227, enc := bit hdr 226, hops := bits hdr 225 222, ctr := bits hdr 127 64, body }

/-- The flits of a message's bytes, 242 to a flit; `abt` ends it cut short. -/
def flitsOf (vc : Nat) (abt : Bool) : Nat → Bool → List Byte → List Flit
  | 0, _, _ => []
  | fuel + 1, som, b =>
    if b.length ≤ 242 then [{ seq := 0, vc, som, eom := true, abt, payload := b }]
    else { seq := 0, vc, som, eom := false, abt := false, payload := b.take 242 } :: flitsOf vc abt fuel false (b.drop 242)

/-- The flits of message `m`; cut short where `cut` gives the len that its header names (R306). -/
def Msg.flits (m : Msg) (cut : Option Nat) : List Flit :=
  let b := leBytes 32 (m.headerLen (cut.getD m.body.length)) ++ m.body
  flitsOf m.vc cut.isSome (b.length / 242 + 1) true b

/-- The number of flits f of R319: ⌈(32 + len) ÷ 242⌉. -/
def Msg.nflits (m : Msg) : Nat := cdiv (32 + m.body.length) 242

/-- The virtual channel of a message type (Table 14-5), none for a reserved type; ROWS may travel on VC 3 under R228. -/
def vcOfType (t : Nat) : Option Nat :=
  match t with
  | 0x01 => some 1
  | 0x02 => some 1
  | 0x03 => some 2
  | 0x04 => some 3
  | 0x05 => some 1
  | 0x06 => some 1
  | 0x07 => some 2
  | 0x08 => some 1
  | 0x10 => some 4
  | 0x11 => some 6
  | 0x12 => some 7
  | 0x20 => some 5
  | 0x21 => some 5
  | 0x22 => some 5
  | 0x23 => some 5
  | 0x24 => some 5
  | 0x30 => some 0
  | _ => none

/-- The bytes of a message type's own header (Tables 5-2, 6-2 to 6-7, 9-2, 9-3, 10-2, 14-8, 14-9, 15-1), and whether the
type never carries data. -/
def typeHeader (t : Nat) : Nat × Bool :=
  match t with
  | 0x01 => (32, true)
  | 0x02 => (16, false)
  | 0x03 => (16, false)
  | 0x04 => (16, false)
  | 0x05 => (16, true)
  | 0x06 => (16, false)
  | 0x07 => (24, false)
  | 0x08 => (16, true)
  | 0x10 => (32, true)
  | 0x11 => (32, false)
  | 0x12 => (32, false)
  | 0x30 => (16, true)
  | _ => (24, false)

/-- CRC-64 of ECMA-182 (R300): one byte into the register, most significant bit first. -/
def crc64Byte (c : Nat) (b : Byte) : Nat :=
  let step := fun (x : Nat) =>
    if x / 2 ^ 63 % 2 = 1 then (x * 2 % 2 ^ 64) ^^^ 0x42F0E1EBA9EA3693 else x * 2 % 2 ^ 64
  step (step (step (step (step (step (step (step (c ^^^ (b.toNat * 2 ^ 56)))))))))

/-- CRC-64 of a byte list. -/
def crc64 (b : List Byte) : Nat := b.foldl crc64Byte 0

/-- The 2,048 bits of a flit of kind `ftype` (Table 14-4): data flit `f` or payload `rec`, with an ack and a credit return. -/
def flitWord (ftype : Nat) (f : Option Flit) (rec ack cvc ctot : Nat) : Nat :=
  let pay := (f.map (fun x => leNat x.payload)).getD rec
  let head := (f.map (fun x => x.seq % 4096 * 2 ^ 18 + x.vc % 8 * 8 + b2n x.som * 4 + b2n x.eom * 2 + b2n x.abt)).getD 0
  let w := head + ack % 4096 * 2 ^ 6 + ftype % 4 * 2 ^ 30 + pay * 2 ^ 32 + ctot % 4096 * 2 ^ 1968 + cvc % 8 * 2 ^ 1981
  w + crc64 (leBytes 248 w) * 2 ^ 1984

/-! ## Links -/

/-- The half of link `k` (R296). -/
def linkHalf (k : Nat) : Nat := if k < 48 then 0 else 1

/-- A link after a start-up: DOWN. -/
def Link.blank : Link :=
  { st := 0, used := 0, lost := 0, peer := 0xFF, peerKind := 0xFF, gotCap := none, gotAck := false, narrowing := false
    replay := [], nextSeq := 0, last := 4095, nak := false, replays := 0, vout := [], vin := [], mismatch := false
    gate := 0, gateAt := 0, replayUs := 8, replayMax := 8, cvc := 0 }

/-- A VC's sending side with nothing queued. -/
def VcOut.blank : VcOut := { v := 0, f := [], queues := [], cur := [], curFwd := false, credit := 0, ctot := 0 }

/-- A VC's receiving side with nothing received. -/
def VcIn.blank : VcIn := { asm := [], on := false, freed := 0, owed := 0 }

/-- Link `k`. -/
def State.link (s : State) (k : Nat) : Link := s.fab.links.getD k Link.blank

/-- `s` with link `k` set to `l`. -/
def State.setLink (s : State) (k : Nat) (l : Link) : State :=
  { s with fab := { s.fab with links := s.fab.links.put k l } }

/-- Is the link in service, UP or HALF? -/
def Link.inService (l : Link) : Bool := l.st == 2 || l.st == 3

/-- Does the link carry flits: in service, or EXCLUDED with messages started that are sent to their last flit (Table 14-3)? -/
def Link.carries (l : Link) : Bool := l.inService || (l.st == 4 && l.vout.any (fun o => !o.2.cur.isEmpty))

/-- A flit sent on link `k`, with the link's ack and the credit return of the next VC in turn: each VC is named once in 8 flits (R300,
R303). -/
def State.sendFlit (s : State) (k ftype : Nat) (f : Option Flit) (rec : Nat) : State :=
  let l := s.link k
  let w := flitWord ftype f rec l.last l.cvc (l.vin.getD l.cvc VcIn.blank).freed
  (s.setLink k { l with cvc := (l.cvc + 1) % 8 }).emit (.flit k ftype f rec w)

/-- The SC2's grants in CAP (Table 14-5). -/
def grants : List Nat := [16, 64, 768, 512, 32, 256, 256, 128]

/-- The wavelengths usable at this end of link `k`: not lost, and their laser sources good. -/
def State.usable (s : State) (k : Nat) : Nat :=
  ((List.range 4).filter (fun n => !bitN (s.link k).lost n && !s.fab.lasers.contains (4 * (k / 12) + n))).foldl
    (fun a n => a + 2 ^ n) 0

/-- The CAP or CAP_ACK record this end sends (Table 14-2). -/
def State.capRecord (s : State) (k lcop : Nat) : Nat :=
  withPar ((List.range 8).foldl (fun a v => a + nth grants v 0 * 2 ^ (12 * v + 120)) 0 + s.usable k * 2 ^ 221
    + k % 128 * 2 ^ 225 + s.self % 64 * 2 ^ 234 + 2 ^ 240 + lcop * 2 ^ 248) 4 3 0

/-- The width two wmasks give (R298): 15, 3, 12 or 0 for none. -/
def widthOf (m : Nat) : Nat :=
  if m % 16 = 15 then 15 else if m % 4 = 3 then 3 else if m / 4 % 4 = 3 then 12 else 0

/-- The lowest wavelength not in mask `m`. -/
def firstLost (m : Nat) : Nat := ((List.range 4).find? (fun n => !bitN m n)).getD 0

/-- A message partly sent or received on the link ends (R306): the sending end abandons it. -/
def Link.endMessages (l : Link) : Link :=
  { l with vout := l.vout.mapV (fun _ o => { o with cur := [] }), vin := l.vin.mapV (fun _ i => { i with asm := [], on := false }) }

/-- The flits of forwarded messages that `l` was sending and now abandons. -/
def Link.fwdCur (l : Link) : Nat := (l.vout.vals.map (fun o => if o.curFwd then o.cur.length else 0)).foldl (· + ·) 0

/-- The spill buffer's state after its occupancy changes to `occ` flits (R318). -/
def Spill.at (sp : Spill) (occ size : Nat) : Spill :=
  let cap := sp.mib * 4096
  { occ
    mib := if occ = 0 then size else sp.mib
    high := if 3 * cap ≤ 4 * occ then true else if 2 * occ ≤ cap then false else sp.high
    full := if 2 * occ ≤ cap then false else sp.full }

/-- `s` with `n` flits fewer in half `h`'s spill buffer; at 1/2 the credits held back are returned. -/
def State.unspill (s : State) (h n : Nat) : State :=
  let sp := s.fab.spill.get h
  let sp1 := sp.at (sp.occ - n) (s.dval 0x4100 4)
  let links := if sp.high && !sp1.high then
      s.fab.links.mapV (fun k l => if linkHalf k = h then
        { l with vin := l.vin.mapV (fun _ i => { i with freed := i.freed + i.owed, owed := 0 }) } else l)
    else s.fab.links
  { s with
    fab := { s.fab with spill := s.fab.spill.set h sp1, links := links }
    ev := { s.ev with latch := if sp1.full then s.ev.latch else s.ev.latch.del (latchKey 0x4014 h) } }

/-- Training starts on link `k` (Table 14-3): laser on, CAP sent. -/
def State.trainLink (s : State) (k : Nat) : State :=
  let l := (s.link k).endMessages
  (((s.unspill (linkHalf k) (s.link k).fwdCur).setLink k { l with
      st := 1, used := 0, lost := 0, peer := 0xFF, peerKind := 0xFF, gotCap := none, gotAck := false, narrowing := false
      replay := [], nextSeq := 0, last := 4095, nak := false, replays := 0
      replayUs := s.dval 0x4000 2, replayMax := s.dval 0x4000 3 }).count (0x8420 + k) 0xA 1).sendFlit
    k 3 none (s.capRecord k 1)

/-- Link `k` goes DOWN for `cause` (0 wavelengths, 1 silence, 2 replay limit): messages in flight end. -/
def State.linkDown (s : State) (k cause : Nat) : State :=
  ((s.unspill (linkHalf k) (s.link k).fwdCur).setLink k { (s.link k).endMessages with st := 0, used := 0, mismatch := false, narrowing := false, gotCap := none, gotAck := false }).raise
    0x4002 0 (linkHalf k) [k, cause]

/-! ## The fabric map and routing -/

/-- The kind and anchor of endpoint `e` in the map. -/
def State.epKind (s : State) (e : Nat) : Nat := s.dval (0x4110 + e) 1

/-- The anchor of compute peer `e`. -/
def State.epAnchor (s : State) (e : Nat) : Nat := s.dval (0x4110 + e) 2

/-- The map digest (R310). -/
def State.mapDigest (s : State) : Nat :=
  crc32c (leBytes 1 (s.dval 0x4100 1) ++ leBytes 1 (s.dval 0x4100 2) ++ leBytes 1 (s.dval 0x4100 3)
    ++ (List.range 64).flatMap (fun e => leBytes 1 (s.epKind e) ++ leBytes 1 (s.epAnchor e)))

/-- The first entry that fails the map check of R310, as its key; none when the map is accepted. -/
def State.mapFault (s : State) : Option Nat :=
  let t := s.dval 0x4100 1
  let x := s.dval 0x4100 2
  let y := s.dval 0x4100 3
  if 16 < x * y ∨ (x * y = 1) ≠ (t = 0) then some (dkey 0x4100 1)
  else
    match (List.range 64).find? (fun e =>
      let k := s.epKind e
      (k == 1 && !(e % 4 == 0 && decide (e / 4 < x * y)))
        || (k == 2 && !(e % 4 != 0 && s.epKind (s.epAnchor e) == 1))) with
    | some e => some (dkey (0x4110 + e) 1)
    | none => if s.epKind s.self = 1 then none else some (dkey (0x4110 + s.self) 1)

/-- The map check on leaving maintenance state or at the end of a start-up (R310). -/
def State.checkMap (s : State) : State :=
  match s.mapFault with
  | none => { s with fab := { s.fab with mapOk := true } }
  | some k => ({ s with fab := { s.fab with mapOk := false } }).raise 0x4010 0 1 [k]

/-- The links on which a message from `src` to `dst` may go to neighbour `e` (R311, R316), in increasing number. -/
def State.linksTo (s : State) (e src dst : Nat) : List Nat :=
  (s.fab.links.filter (fun kl => kl.2.inService && kl.2.peer == e && (!kl.2.mismatch || dst == e || src == e))).map (·.1)

/-- One dimension of R312: the steps left and the next coordinate from `a` to `b` in a dimension of size `n`. -/
def hop (n a b : Nat) : Nat × Nat :=
  if n = 0 then (0, a)
  else
    let d := (b + n - a % n) % n
    if d = 0 then (0, a) else if d ≤ n - d then (d, (a + 1) % n) else (n - d, (a + n - 1) % n)

/-- Where a message goes (R311 to R314): the outgoing link, or the UNREACH cause. `fwd` applies the hop limit. -/
def State.route (s : State) (m : Msg) (fwd : Bool) : Except Nat Nat :=
  let pick := fun (ls : List Nat) =>
    if ls.isEmpty then Except.error 2 else Except.ok (nth ls ((m.src + 3 * m.dst + 5 * m.part) % ls.length) 0)
  let direct := if m.dst % 4 = 0 then [] else s.linksTo m.dst m.src m.dst
  if !direct.isEmpty then pick direct
  else if !s.fab.mapOk then .error 1
  else
    let tgt :=
      if s.epKind m.dst = 1 then some (m.dst / 4)
      else if s.epKind m.dst = 2 then (if s.epKind (s.epAnchor m.dst) = 1 then some (s.epAnchor m.dst / 4) else none)
      else none
    match tgt with
    | none => .error 1
    | some t =>
      let x := s.dval 0x4100 2
      let y := s.dval 0x4100 3
      let me := s.boot.bslot
      let hx := hop x (me % x) (t % x)
      let hy := hop y (me / x) (t / x)
      if hx.1 + hy.1 = 0 then .error 2
      else if fwd ∧ m.hops ≠ 0 ∧ m.hops < hx.1 + hy.1 then .error 3
      else
        let nxt := if hx.1 ≠ 0 then hx.2 + x * (me / x) else me % x + x * hy.2
        pick (s.linksTo (4 * nxt) m.src m.dst)

/-! ## Time gates -/

/-- The entries (duration ns, open mask) of the schedule link `k` names, none where it names none (R323, R324). -/
def State.schedule (s : State) (k : Nat) : Option (List (Nat × Nat)) :=
  let g := s.dval (0x41B0 + k / 4) (0x11 + k % 4)
  if 16 ≤ g then none
  else
    let b := s.dbytes 0x41A0 (1 + g)
    if b.isEmpty then none
    else some ((List.range (bitsN (leAt b 0 16) 103 96)).map (fun i => let w := leAt b (16 + 4 * i) 4; (w / 256, w % 256)))

/-- Is VC `v` open in the entry mask? VC 0 always is. -/
def gateOpen (v mask : Nat) : Bool := v == 0 || bitN mask v

/-- The total of the leading entries that keep VC `v` open. -/
def openRun (v : Nat) : List (Nat × Nat) → Nat
  | [] => 0
  | (d, m) :: t => if gateOpen v m then d + openRun v t else 0

/-- The entry in force `off` ns into the cycle, as the ns left in it and the entries from it on, wrapped once. -/
def gateFrom : List (Nat × Nat) → List (Nat × Nat) → Nat → Nat × List (Nat × Nat)
  | [], seen, _ => (0, seen.reverse)
  | (d, m) :: t, seen, off =>
    if off < d then (d - off, (d, m) :: t ++ seen.reverse) else gateFrom t ((d, m) :: seen) (off - d)

/-- May a message of `f` flits on VC `v` start at `now` on link `k`, and is it longer than its VC's longest window
(R324)? `half` doubles the flit interval. -/
def State.gateOk (s : State) (k v f now : Nat) : Bool × Bool :=
  match s.schedule k with
  | none => (true, false)
  | some es =>
    let total := (es.map (·.1)).foldl (· + ·) 0
    if total = 0 ∨ es.all (fun e => gateOpen v e.2) then (true, false)
    else
      let cur := gateFrom es [] ((now - (s.link k).gate) % total)
      match cur.2 with
      | [] => (false, false)
      | (d, m) :: t =>
        if !gateOpen v m then (false, false)
        else
          let left := cur.1 + openRun v t
          let need := f * 2048 * 544 * (if (s.link k).st = 3 then 2 else 1)
          let longest := ((List.range es.length).map (fun i => openRun v (es.drop i ++ es.take i))).foldl max 0
          if need ≤ left * 514 * 448 then (true, false)
          else (decide (longest * 514 * 448 < need) && left == longest && cur.1 == d, true)

/-! ## Weighted fair queueing -/

/-- The later of two 64-bit tags (R319): compared as signed (a − b) mod 2⁶⁴. -/
def tagMax (a b : Nat) : Nat := if (a + 2 ^ 64 - b % 2 ^ 64) % 2 ^ 64 < 2 ^ 63 then a else b

/-- The head of partition `p`'s queue takes its finish tag. -/
def VcOut.tagHead (o : VcOut) (p w : Nat) : VcOut :=
  match o.queues.getD p [] with
  | [] => o
  | q :: t =>
    match q.tag with
    | some _ => o
    | none =>
      let f := (tagMax o.v (o.f.getD p 0) + cdiv (q.msg.nflits * 65536) (max w 1)) % 2 ^ 64
      { o with f := o.f.put p f, queues := o.queues.put p ({ q with tag := some f } :: t) }

/-- A message joins its partition's queue. -/
def VcOut.join (o : VcOut) (q : QMsg) (w : Nat) : VcOut :=
  ({ o with queues := o.queues.put q.msg.part (o.queues.getD q.msg.part [] ++ [q]) }).tagHead q.msg.part w

/-- The heads that may start, as (partition, message). -/
def VcOut.heads (o : VcOut) (ok : QMsg → Bool) : List (Nat × QMsg) :=
  o.queues.filterMap (fun pq =>
    match pq.2 with
    | q :: _ => if ok q then some (pq.1, q) else none
    | [] => none)

/-- The head that starts: the least finish tag, then the lower partition. -/
def VcOut.winner (o : VcOut) (ok : QMsg → Bool) : Option (Nat × QMsg) :=
  (o.heads ok).foldl (fun a x =>
    match a with
    | none => some x
    | some y =>
      let key := fun (q : QMsg) => ((q.tag.getD 0) + 2 ^ 64 - o.v % 2 ^ 64) % 2 ^ 64
      if key x.2 < key y.2 then some x else some y) none

/-- The head of partition `p` starts: V takes its tag, its flits are to send, and the next of the queue becomes head; with
every queue empty V and every F are 0. -/
def VcOut.start (o : VcOut) (p : Nat) (q : QMsg) (w : Nat) : VcOut :=
  let qs := o.queues.put p ((o.queues.getD p []).drop 1)
  let o1 : VcOut := { o with v := q.tag.getD o.v, queues := qs.keep (fun _ l => !l.isEmpty), cur := q.msg.flits q.cut, curFwd := q.spilled }
  if o1.queues.isEmpty then { o1 with v := 0, f := [] } else o1.tagHead p w

/-- Flits that leave on VC `v`: while credits, replay room and flits last (R301, R303). -/
def Link.drain (v : Nat) : Nat → Link → List Flit → Link × List Flit
  | 0, l, sent => (l, sent)
  | n + 1, l, sent =>
    let o := l.vout.getD v VcOut.blank
    match o.cur with
    | [] => (l, sent)
    | f :: t =>
      if o.credit = 0 ∨ 1024 ≤ l.replay.length ∨ l.narrowing ∨ !l.carries then (l, sent)
      else
        let g := { f with seq := l.nextSeq }
        Link.drain v n { l with
          vout := l.vout.put v { o with cur := t, credit := o.credit - 1 }
          replay := l.replay ++ [g], nextSeq := (l.nextSeq + 1) % 4096 } (sent ++ [g])

/-- The flits of VC `v` of link `k` that can leave do: each is sent and held for replay. -/
def State.pumpVc (s : State) (k v : Nat) : State :=
  let l := s.link k
  let o := l.vout.getD v VcOut.blank
  let r := l.drain v o.cur.length []
  let s0 := r.2.foldl (fun t f => t.sendFlit k 0 (some f) 0) (s.setLink k r.1)
  let s1 := s0.count (0x8420 + k) 1 r.2.length
  if o.curFwd then s1.unspill (linkHalf k) r.2.length else s1

/-- High-water mark `idx`.`sub` raised to `n` (R325), saturating. -/
def State.mark (s : State) (idx sub n : Nat) : State :=
  let v := min n 0xFFFFFFFF
  if s.dval idx sub < v then s.dsetN idx sub v else s

/-- VCs whose own messages wait while a spill buffer is at 3/4 (R318). -/
def spillVc (v : Nat) : Bool := v == 2 || v == 5 || v == 6 || v == 7

/-- The next message of VC `v` of link `k` starts, when the VC is free and a head may start (R319, R324). -/
def State.startVc (s : State) (k v : Nat) : State :=
  let l := s.link k
  let o := l.vout.getD v VcOut.blank
  if !l.inService || !o.cur.isEmpty then s
  else
    let hold := (s.fab.spill.get (linkHalf k)).high && spillVc v
    let ok := fun (q : QMsg) => (s.gateOk k v q.msg.nflits s.ns).1 && (q.fwd || !hold)
    match o.winner ok with
    | none => s
    | some (p, q) =>
      let long := (s.gateOk k v q.msg.nflits s.ns).2
      let o1 := o.start p q (s.dval (0x4150 + p) 1)
      let n := 32 + q.msg.body.length
      let s1 := s.setLink k { l with vout := l.vout.put v o1 }
      let s2 := State.satTell { s1 with ctr := ((s1.ctr.addUnits (dkey (0x8420 + k) 8) 4096 n).safe q.msg.part 3 n).add (dkey 0x8410 0xB) (b2n long) } s1.ctr.sat.length
      let s3 := if q.fwd then s2.mark (0x41B0 + k / 4) (2 + v) (s.ns - q.arrived) else s2
      s3.pumpVc k v

/-! ## Sending -/

/-- The bytes `b` made `n` long. -/
def fitBytes (n : Nat) (b : List Byte) : List Byte := b.take n ++ List.replicate (n - b.length) 0#8

/-- The message sealed under its partition's link key (R305), none when the stream must not be used: its counter is
exhausted, or confidential mode finds no key. -/
def State.seal (s : State) (m : Msg) : Option (Msg × Fabric) :=
  match s.sec.linkKeys.get? m.part with
  | none => if s.confidential then none else some (m, s.fab)
  | some key =>
    let c := s.fab.txCtr.getD (64 * m.part + m.dst) 0 + 1
    if ctrMax ≤ c then none
    else
      let m1 := { m with enc := true, ctr := c, body := fitBytes (m.body.length + 16) (Config.crypto 3 key m.body) }
      some (m1, { s.fab with txCtr := s.fab.txCtr.put (64 * m.part + m.dst) c })

/-- UNREACH to the source of an unroutable message that is not fabric control (R315). -/
def unreachBody (m : Msg) (cause : Nat) : List Byte :=
  leBytes 16 (withPar (cause % 16 * 2 ^ 70 + m.mtype % 256 * 2 ^ 74 + m.dst % 64 * 2 ^ 82 + 2 * 2 ^ 120) 2 1 0)

/-- `q` queued on link `k` and started when it can be. -/
def State.enqueueQ (s : State) (k : Nat) (q : QMsg) : State :=
  let l := s.link k
  let o := (l.vout.getD q.msg.vc VcOut.blank).join q (s.dval (0x4150 + q.msg.part) 1)
  (s.setLink k { l with vout := l.vout.put q.msg.vc o }).startVc k q.msg.vc

/-- A message of the device's own queued on link `k` and started when it can be. -/
def State.enqueue (s : State) (k : Nat) (m : Msg) : State :=
  s.enqueueQ k { msg := m, tag := none, fwd := false, arrived := s.ns, spilled := false, cut := none }

/-- A message discarded as unroutable (R315): counted, and reported once per dst until a message to it is delivered. -/
def State.noRoute (s : State) (m : Msg) (cause : Nat) : State :=
  ((s.count 0x8410 5 1).count 0x8410 6 (b2n (cause == 3))).raiseOnce 0x4012 m.dst 0 0 [m.dst, cause]

/-- A message of the device's own sealed (R305), listed and queued on link `k`; none goes out on a stream that must not be used. -/
def State.sendOn (s : State) (k : Nat) (m : Msg) : State :=
  match s.seal m with
  | none => s
  | some (m1, fab) => ({ s with fab := fab, out := .msg m1 false :: s.out } : State).enqueue k m1

/-- An unroutable message (R315): discarded, and answered with UNREACH where it came from elsewhere and is not fabric control. -/
def State.unroutable (s : State) (m : Msg) (cause : Nat) : State :=
  let s1 := s.noRoute m cause
  if m.mtype = 0x30 ∨ m.src = s.self then s1
  else
    let u : Msg := { dst := m.src, src := s.self, part := 0, mtype := 0x30, vc := 0, enc := false, hops := 0, ctr := 0
                     body := unreachBody m cause }
    match s1.seal u with
    | none => s1
    | some (u1, fab) =>
      let s2 := { s1 with fab := fab, out := .msg u1 false :: s1.out }
      match s2.route u1 false with
      | .ok k => s2.enqueue k u1
      | .error c => s2.noRoute u1 c

/-- The device sends a message of type `mtype` to endpoint `dst` on the stream of partition `part` (R304 to R315): sealed,
routed and queued; one to itself reaches its own units. -/
def State.sendMsg (s : State) (dst part mtype vc : Nat) (body : List Byte) : State :=
  let m : Msg := { dst, src := s.self, part, mtype, vc, enc := false, hops := 0, ctr := 0, body }
  if dst = s.self then s.emit (.msg m true)
  else
    match s.seal m with
    | none => if (s.sec.linkKeys.has part) then s.raiseOnce 0x4005 (64 * part + dst) part 0 [0, part, s.self] else s
    | some (m1, fab) =>
      let s1 := { s with fab := fab, out := .msg m1 false :: s.out }
      match s1.route m1 false with
      | .ok k => (s1.enqueue k m1).unlatch 0x4012 dst
      | .error c => s1.unroutable m1 c

/-- A data block with its CRC-32C, marked poisoned where it is (R306). -/
def withCrc (b : List Byte) (poison : Bool) : List Byte :=
  b ++ leBytes 4 (if poison then crc32c b ^^^ poisonSyndrome else crc32c b)

/-! ## Policing -/

/-- A policer profile's values (Table 15-7). -/
structure Policer where
  cir : Nat
  cbs : Nat
  pir : Nat
  pbs : Nat
  aware : Bool
  yellow : Bool
  red : Bool
deriving DecidableEq, Repr

/-- Profile `i`. -/
def State.policer (s : State) (i : Nat) : Policer :=
  { cir := s.dval (0x4190 + i) 1, cbs := s.dval (0x4190 + i) 2, pir := s.dval (0x4190 + i) 3, pbs := s.dval (0x4190 + i) 4
    aware := s.dval (0x4190 + i) 5 == 1, yellow := s.dval (0x4190 + i) 6 == 1, red := s.dval (0x4190 + i) 7 == 1 }

/-- One message metered (R321): the meter after, and the colour, 0 green, 1 yellow, 2 red. `cyc` is the island cycle, `b`
the message's bytes and `inp` the input colour. -/
def meterMsg (p : Policer) (m : Meter) (cyc b inp : Nat) : Meter × Nat :=
  let u := 2 ^ 32
  let d := cyc - m.last
  let tc := min (p.cbs * u) (m.tc + d * (p.cir * u / 1750000000))
  let tp := min (p.pbs * u) (m.tp + d * (p.pir * u / 1750000000))
  if (p.aware ∧ inp = 2) ∨ tp < b * u then ({ tc, tp, last := cyc }, 2)
  else if (p.aware ∧ inp = 1) ∨ tc < b * u then ({ tc, tp := tp - b * u, last := cyc }, 1)
  else ({ tc := tc - b * u, tp := tp - b * u, last := cyc }, 0)

/-- One stage of policing: profile number `pr` (16 or more: none) on the meter of key `key`. The state, the colour and
whether the message is discarded. -/
def State.policeStage (s : State) (pr key b inp : Nat) : State × Nat × Bool :=
  if 16 ≤ pr then (s, inp, false)
  else
    let p := s.policer pr
    let cyc := s.ns * 7 / 4
    let m := s.fab.meters.getD key { tc := p.cbs * 2 ^ 32, tp := p.pbs * 2 ^ 32, last := cyc }
    let r := meterMsg p m cyc b inp
    ({ s with fab := { s.fab with meters := s.fab.meters.put key r.1 } }, r.2,
      (r.2 == 1 && p.yellow) || (r.2 == 2 && p.red))

/-- A message entering the fabric from a compute peer on link `k` is policed in two stages (R320); false when it is
discarded. -/
def State.police (s : State) (k : Nat) (m : Msg) : State × Bool :=
  let b := 32 + m.body.length
  let q := k / 4
  let pa := s.dval (0x4150 + m.part) 2
  let pb := s.dval (0x41B0 + q) 1
  let a := s.policeStage pa (64 * q + m.part) b 0
  let r := if a.2.2 then a else a.1.policeStage pb (4096 + q) b (if 16 ≤ pa then 0 else a.2.1)
  if 16 ≤ pa ∧ 16 ≤ pb then (s.unlatch 0x4015 (64 * q + m.part), true)
  else
    let s1 := r.1.count 0x8410 (7 + r.2.1) 1
    if r.2.2 then
      ((s1.count 0x8410 0xA 1).raiseOnce 0x4015 (64 * q + m.part) m.part (linkHalf k) [m.part, q, if a.2.2 then 0 else 1], false)
    else (s1.unlatch 0x4015 (64 * q + m.part), true)

/-! ## Forwarding and receiving -/

/-- Do the `n` flits of a message on VC `v` of link `k` leave at once: the VC is free, with credit, the replay buffer has room and the
link's gate lets it start (R317)? -/
def State.leavesNow (s : State) (k v n : Nat) : Bool :=
  let l := s.link k
  let o := l.vout.getD v VcOut.blank
  o.cur.isEmpty && o.queues.isEmpty && decide (n ≤ o.credit) && decide (l.replay.length + n ≤ 1024) && !l.narrowing && (s.gateOk k v n s.ns).1

/-- A message that came in on link `at_` is forwarded by cut-through (R311 to R318): it joins the queues of its outgoing link; where it
cannot leave at once its flits are in the half's spill buffer, and one that finds it full is discarded with cause 4. One that must cross
the bridge waits while it is down (R24). `cut` is the len of the header of a message that was cut short (R306). -/
def State.forward (s : State) (at_ : Nat) (m : Msg) (cut : Option Nat) : State :=
  match (if s.fab.mapOk then s.route m true else .error 1) with
  | .error c => s.unroutable m c
  | .ok k =>
    if s.boot.bridge ∧ linkHalf k ≠ linkHalf at_ then { s with fab := { s.fab with waiting := s.fab.waiting ++ [(at_, m, cut)] } } else
    let h := linkHalf k
    let sp := s.fab.spill.get h
    let now := s.leavesNow k m.vc m.nflits
    if !now && decide (sp.mib * 4096 < sp.occ + m.nflits) then
      let s1 := (s.count 0x8410 4 1).raiseOnce 0x4014 h 0 h [h]
      ({ s1 with fab := { s1.fab with spill := s1.fab.spill.set h { sp with full := true } } }).unroutable m 4
    else
      let sp1 := if now then sp else sp.at (sp.occ + m.nflits) (s.dval 0x4100 4)
      let s1 := { s with fab := { s.fab with spill := s.fab.spill.set h sp1 } }
      let s2 := if sp1.high && !sp.high then s1.raise 0x4013 0 h [h] else s1
      let s3 := if now then s2 else (s2.count 0x8410 3 1).mark 0x4100 (7 + h) (cdiv sp1.occ 4096)
      let s4 := (s3.count 0x8410 1 1).countUnits 0x8410 2 4096 (32 + m.body.length)
      (s4.enqueueQ k { msg := m, tag := none, fwd := true, arrived := s.ns, spilled := !now, cut }).unlatch 0x4012 m.dst

/-- The checks of R302 and R304 on a routing header. -/
def headerOk (hdr : BitVec 256) (m : Msg) : Bool :=
  parOk hdr.toNat 4 3 0 && zeroBits hdr 195 128 && zeroBits hdr 63 4
    && (match vcOfType m.mtype with
        | some v => m.vc == v || (m.mtype == 0x21 && m.vc == 3)
        | none => false)

/-- The checks of R304 on an arrived message: false when it is discarded. -/
def msgOk (hdr : BitVec 256) (m : Msg) (abt : Bool) : Bool :=
  headerOk hdr m && !abt && bits hdr 221 196 == m.body.length && decide (m.body.length ≤ 16778240)
    && (let t := typeHeader m.mtype
        let n := m.body.length - (if m.enc then 16 else 0)
        if t.2 then n == t.1 else decide (t.1 ≤ n))

/-- A message discarded under R136: counted, and reported once per kind until a valid one comes. -/
def State.discard (s : State) (kind lane sender half : Nat) : State :=
  (s.count 0x8220 5 1).raiseOnce 0x2046 (256 * lane + kind) 0 half [lane, kind, sender]

/-- The receive window of a stream (R305): is `ctr` new, and the window with it? -/
def window (top : Nat) (seen : List Nat) (ctr : Nat) : Option (Nat × List Nat) :=
  if ctr + 1024 ≤ top ∨ seen.contains ctr then none
  else
    let t := max top ctr
    some (t, (ctr :: seen).filter (fun c => decide (t < c + 1024)))

/-- A message addressed to the device is checked under R304 and R305, decrypted, and delivered to the unit that serves its
type. -/
def State.consume (s : State) (k : Nat) (m : Msg) : State :=
  let bad := (s.count (0x8420 + k) 7 1).raiseOnce 0x4005 (64 * m.part + m.src) m.part (linkHalf k) [k, m.part, m.src]
  let good := fun (t : State) (m : Msg) =>
    State.satTell { (t.unlatch 0x4005 (64 * m.part + m.src)) with
      out := .msg m true :: t.out
      ctr := (t.ctr.addUnits (dkey (0x8420 + k) 9) 4096 (32 + m.body.length)).safe m.part 3 (32 + m.body.length) } t.ctr.sat.length
  if !s.partOn m.part then s.discard m.mtype 0 m.src (linkHalf k)
  else
    match s.sec.linkKeys.get? m.part with
    | none =>
      if s.confidential then
        (s.count 0x8700 6 1).raiseOnce 0x7009 m.part m.part (linkHalf k) [m.part, k]
      else if m.enc then bad else good s m
    | some key =>
      if !m.enc || !Config.cryptoOk 1 key (leBytes 32 m.header ++ m.body) then bad
      else
        let id := 64 * m.part + m.src
        match window (s.fab.rxTop.getD id 0) (s.fab.rxSeen.getD id []) m.ctr with
        | none => bad
        | some w =>
          good { s with fab := { s.fab with rxTop := s.fab.rxTop.put id w.1, rxSeen := s.fab.rxSeen.put id w.2 } }
            { m with enc := false, body := fitBytes (m.body.length - 16) (Config.crypto 2 key m.body) }

/-- A message arrives on link `k`: checked, policed where it enters the fabric, then consumed or forwarded. One cut short that is on its way
to another endpoint is forwarded to its end, with EOM and ABT (R306). -/
def State.arrive (s : State) (k : Nat) (hdr : BitVec 256) (body : List Byte) (abt : Bool) : State :=
  let m := Msg.parse hdr body
  let cut := if abt then some (bits hdr 221 196) else none
  if !(msgOk hdr m abt || (abt && headerOk hdr m && m.dst != s.self)) then s.discard m.mtype 0 m.src (linkHalf k)
  else
    let r := if (s.link k).peerKind = 1 then s.police k m else (s, true)
    if !r.2 then r.1
    else if m.dst = s.self then r.1.consume k m
    else if (s.link k).mismatch && m.src != (s.link k).peer then r.1.unroutable m 2
    else r.1.forward k m cut

/-- The messages that waited to be forwarded over the bridge go on, in order (R24). -/
def State.forwardWaiting (s : State) : State :=
  s.fab.waiting.foldl (fun t x => t.forward x.1 x.2.1 x.2.2) { s with fab := { s.fab with waiting := [] } }

/-! ## Training rows -/

/-- Does a CAP record break the rules that fail training (R298)? -/
def capBad (self : Nat) (r : BitVec 256) : Bool :=
  !parOk r.toNat 4 3 0 || bits r 247 240 != 1 || decide (1 < bits r 233 232) || bits r 239 234 == self

/-- Is a CAP record valid beyond that: its rsvd fields zero and every grant at least 1? -/
def capValid (r : BitVec 256) : Bool :=
  zeroBits r 220 216 && zeroBits r 119 4 && (List.range 8).all (fun v => decide (0 < bits r (12 * v + 131) (12 * v + 120)))

/-- A HELLO message's body. -/
def State.helloBody (s : State) : List Byte := leBytes 16 (withPar (s.mapDigest * 2 ^ 88 + 2 ^ 120) 2 1 0)

/-- HELLO sent to the neighbour of link `k`, on that link (R316). -/
def State.hello (s : State) (k : Nat) : State :=
  s.sendOn k { dst := (s.link k).peer, src := s.self, part := 0, mtype := 0x30, vc := 0, enc := false, hops := 0, ctr := 0, body := s.helloBody }

/-- Training succeeds once a valid CAP and a CAP_ACK have come (R298): the width, the credits, the events, and HELLO to a
session peer. -/
def State.trained (s : State) (k : Nat) : State :=
  let l := s.link k
  match l.gotCap with
  | none => s
  | some c =>
    if !l.gotAck then s
    else
      let both := Nat.land (bitsN c 224 221) (s.usable k)
      let w := widthOf both
      if w = 0 then s.setLink k { l with st := 0, gotCap := none, gotAck := false }
      else
        let vout := (List.range 8).foldl (fun (t : Tab VcOut) v =>
          t.put v { (l.vout.getD v VcOut.blank) with cur := [], credit := bitsN c (12 * v + 131) (12 * v + 120), ctot := 0 }) l.vout
        let vin := (List.range 8).foldl (fun (t : Tab VcIn) v => t.put v VcIn.blank) l.vin
        let l1 := { l with st := if w = 15 then 2 else 3, used := w, lost := 15 - both, peer := bitsN c 239 234
                           peerKind := bitsN c 233 232, vout, vin, mismatch := false, gate := s.ns, gateAt := 0 }
        let s1 := (s.setLink k l1).raise 0x4001 0 (linkHalf k) [k, if w = 15 then 4 else 2, l1.peer, l1.peerKind]
        let s2 := if w = 15 then s1 else s1.raise 0x4003 0 (linkHalf k) [k, firstLost both]
        if l1.peerKind = 0 then s2.hello k else s2

/-- A unit number that the device does not have stops by name. -/
def withLink (k : Nat) (s : State) : Host.Outcome State Fault Refusal :=
  if k < 96 then .next s else .fault (.noSuchUnit "link" k)

/-- CAP (R298): a record that fails training takes the link DOWN with event 0x4006; a valid one is answered with CAP_ACK. -/
def execCap (k : Nat) (r : BitVec 256) (s : State) : Host.Outcome State Fault Refusal :=
  withLink k <|
    if (s.link k).st ≠ 1 ∨ bits r 255 248 ≠ 1 then s
    else if capBad s.self r then
      (s.setLink k { (s.link k) with st := 0, gotCap := none, gotAck := false }).raise 0x4006 0 (linkHalf k)
        [k, bits r 239 234, bits r 247 240]
    else if !capValid r then s
    else ((s.setLink k { (s.link k) with gotCap := some r.toNat }).sendFlit k 3 none (s.capRecord k 2)).trained k

/-- CAP_ACK (R298). -/
def execCapAck (k : Nat) (r : BitVec 256) (s : State) : Host.Outcome State Fault Refusal :=
  withLink k <|
    if (s.link k).st ≠ 1 ∨ bits r 255 248 ≠ 2 ∨ capBad s.self r ∨ !capValid r then s
    else (s.setLink k { (s.link k) with gotAck := true }).trained k

/-- Each end sends CAP every 10 µs while it trains (R298). -/
def execCapSendTimer (k : Nat) (s : State) : Host.Outcome State Fault Refusal :=
  withLink k <| if (s.link k).st = 1 then s.sendFlit k 3 none (s.capRecord k 1) else s

/-- An attempt that has not succeeded within 20 ms fails (R298, Table 14-3). -/
def execTrainingTimeout (k : Nat) (s : State) : Host.Outcome State Fault Refusal :=
  withLink k <| if (s.link k).st = 1 then s.setLink k { (s.link k) with st := 0, gotCap := none, gotAck := false } else s

/-- 0x4000.04 ms since the last attempt while DOWN: training starts (Table 14-3). -/
def execLinkRetryTimer (k : Nat) (s : State) : Host.Outcome State Fault Refusal :=
  withLink k <| if (s.link k).st = 0 then s.trainLink k else s

/-- Signal on any wavelength while DOWN: training starts (Table 14-3). -/
def execSignalDetect (k : Nat) (s : State) : Host.Outcome State Fault Refusal :=
  withLink k <| if (s.link k).st = 0 then s.trainLink k else s

/-- A wavelength of link `k` is lost (R299, Table 14-3). -/
def State.loseWave (s : State) (k wave : Nat) : State :=
  let l := s.link k
  let lost := Nat.lor l.lost (2 ^ (wave % 4))
  if l.st = 2 then
    let w := widthOf (15 - lost)
    if w = 0 then s.linkDown k 0
    else (s.setLink k { l with st := 3, used := w, lost, narrowing := true }).raise 0x4003 0 (linkHalf k) [k, wave % 4]
  else if l.st = 3 then
    if bitN l.used (wave % 4) then s.linkDown k 0 else s.setLink k { l with lost }
  else s

/-- WAVELENGTH_LOSS (R299). -/
def execWavelengthLoss (k wave : Nat) (s : State) : Host.Outcome State Fault Refusal := withLink k (s.loseWave k wave)

/-- A narrowing retrain ends and data flits flow again (R299). -/
def execNarrowingRetrainDone (k : Nat) (s : State) : Host.Outcome State Fault Refusal :=
  withLink k <|
    (List.range 8).foldl (fun t v => t.pumpVc k v) (s.setLink k { (s.link k) with narrowing := false })

/-- No valid flit for 0x4000.06 µs (Table 14-3). -/
def execLinkSilence (k : Nat) (s : State) : Host.Outcome State Fault Refusal :=
  withLink k <| if (s.link k).inService then s.linkDown k 1 else s

/-- A laser source fails: its wavelength is lost on the 12 links of its port (R299, R461). -/
def execLaserSourceFail (port wave : Nat) (s : State) : Host.Outcome State Fault Refusal :=
  if port < 8 ∧ wave < 4 then
    let s1 := ({ s with fab := { s.fab with lasers := if s.fab.lasers.contains (4 * port + wave) then s.fab.lasers else (4 * port + wave) :: s.fab.lasers } }).raise
      0x4007 0 (if port < 4 then 0 else 1) [port, wave]
    .next ((List.range 12).foldl (fun t i => t.loseWave (12 * port + i) wave) s1)
  else .fault (.noSuchUnit "laser" (4 * port + wave))

/-- EXCLUDE of a link (Table 14-3): messages already started are sent to their last flit, as credit returns (`Link.carries`). -/
def State.excludeLink (s : State) (k : Nat) : State :=
  s.setLink k { (s.link k) with st := 4, used := 0, gotCap := none, gotAck := false, mismatch := false, narrowing := false }

/-- ADMIT of a link (Table 14-3). -/
def State.readmitLink (s : State) (k : Nat) : State :=
  if (s.link k).st = 3 ∨ (s.link k).st = 4 then s.trainLink k else s

/-! ## Flits -/

/-- The data flits an ack covers leave the replay buffer: those up to and including seq `a`, when `a` is among them. -/
def ackReplay (l : List Flit) (a : Nat) : List Flit :=
  if l.any (fun f => f.seq == a) then (l.dropWhile (fun f => f.seq != a)).drop 1 else l

/-- The ack and credit return of a good flit taken (R301, R303). -/
def Link.takeReturn (l : Link) (ack cvc ctot : Nat) : Link :=
  let r := ackReplay l.replay ack
  let o := l.vout.getD cvc VcOut.blank
  { l with
    replay := r
    replays := if r.length < l.replay.length then 0 else l.replays
    vout := l.vout.put cvc { o with credit := o.credit + (ctot + 4096 - o.ctot % 4096) % 4096, ctot := ctot % 4096 } }

/-- Replay of the unacknowledged flits (R301); at the replay limit the link goes DOWN, unless it is EXCLUDED (Table 14-3). -/
def State.replayFrom (s : State) (k : Nat) : State :=
  let l := s.link k
  if l.replay.isEmpty ∨ !l.carries then s
  else if l.st ≠ 4 ∧ l.replayMax ≤ l.replays + 1 then (s.count (0x8420 + k) 4 1).linkDown k 2
  else
    let s1 := (s.setLink k { l with replays := l.replays + 1 }).count (0x8420 + k) 4 1
    l.replay.foldl (fun t f => t.sendFlit k 0 (some f) 0) s1

/-- A flit's own check: its CRC-64 over bytes 0 to 247. -/
def flitGood (f : BitVec 2048) : Bool := crc64 (leBytes 248 f.toNat) == bits f 2047 1984

/-- The NAK flit: sent once until the expected flit arrives. -/
def State.sendNak (s : State) (k : Nat) : State :=
  if (s.link k).nak then s else (s.setLink k { (s.link k) with nak := true }).sendFlit k 2 none 0

/-- A data flit in order is taken: its bytes join the message on its VC; its credit is freed, or held back for a compute
peer while the spill buffer stands at 3/4 (R303, R318). -/
def Link.takeData (l : Link) (f : BitVec 2048) (holdBack : Bool) : Link :=
  let v := bits f 5 3
  let i := l.vin.getD v VcIn.blank
  let pay := leBytes 242 (bits f 1967 32)
  { l with
    last := bits f 29 18
    nak := false
    vin := l.vin.put v
      { asm := if bit f 1 then [] else if bit f 2 then pay else i.asm ++ pay
        on := !bit f 1
        freed := if holdBack then i.freed else i.freed + 1
        owed := if holdBack then i.owed + 1 else i.owed } }

/-- A flit arrives (R301); one whose rsvd bit is set is refused and changes nothing (R11). -/
def State.flitIn (s : State) (k : Nat) (f : BitVec 2048) : State :=
  let l := s.link k
  if !l.carries then s
  else if !flitGood f then (s.count (0x8420 + k) 3 1).sendNak k
  else if bit f 1980 then s
  else
    let s1 := s.setLink k (l.takeReturn (bits f 17 6) (bits f 1983 1981) (bits f 1979 1968))
    let s2 :=
      if bits f 31 30 = 0 then
        if bits f 29 18 = (l.last + 1) % 4096 then
          (s1.setLink k ((s1.link k).takeData f (l.peerKind == 1 && (s.fab.spill.get (linkHalf k)).high && spillVc (bits f 5 3)))).count
            (0x8420 + k) 2 1
        else s1.sendNak k
      else if bits f 31 30 = 2 then s1.replayFrom k
      else s1
    (List.range 8).foldl (fun t v => t.pumpVc k v) s2

/-- FLIT_RECEIVE (R301). -/
def execFlitReceive (k : Nat) (f : BitVec 2048) (s : State) : Host.Outcome State Fault Refusal := withLink k (s.flitIn k f)

/-- NAK_RECEIVE (R301): a flit whose kind is not NAK is taken as any other. -/
def execNakReceive (k : Nat) (f : BitVec 2048) (s : State) : Host.Outcome State Fault Refusal := withLink k (s.flitIn k f)

/-- No ack advance within 0x4000.02 µs while flits are unacknowledged (R301). -/
def execReplayTimer (k : Nat) (s : State) : Host.Outcome State Fault Refusal := withLink k (s.replayFrom k)

/-! ## Messages -/

/-- MESSAGE_RECEIVE (R304, R305). -/
def execMessageReceive (k : Nat) (hdr : BitVec 256) (body : List Byte) (abt : Bool) (t : Nat) (s : State) :
    Host.Outcome State Fault Refusal := withLink k ((s.at t).arrive k hdr body abt)

/-- CUT_THROUGH_FORWARD (R317): a message cut short is passed on to its end with EOM and ABT (R306). -/
def execCutThroughForward (k : Nat) (hdr : BitVec 256) (body : List Byte) (abt : Bool) (t : Nat) (s : State) :
    Host.Outcome State Fault Refusal := withLink k ((s.at t).arrive k hdr body abt)

/-- SPILL_DEPARTURE (R318): spilled flits of the VC leave as its credit allows. -/
def execSpillDeparture (k v : Nat) (s : State) : Host.Outcome State Fault Refusal :=
  withLink k (((s.startVc k (v % 8)).pumpVc k (v % 8)))

/-- WFQ_START (R319). -/
def execWfqStart (k v t : Nat) (s : State) : Host.Outcome State Fault Refusal := withLink k ((s.at t).startVc k (v % 8))

/-- TIME_GATE_ENTRY (R324): the link's schedule moves to its next entry, and VCs that open may start messages. -/
def execTimeGateEntry (k t : Nat) (s : State) : Host.Outcome State Fault Refusal :=
  withLink k <|
    let n := ((s.schedule k).map (·.length)).getD 1
    let s1 := (s.at t).setLink k { (s.link k) with gateAt := ((s.link k).gateAt + 1) % max n 1 }
    (List.range 8).foldl (fun u v => u.startVc k v) s1

/-! ## HELLO -/

/-- HELLO_TIMER (R316): HELLO on a link to a session peer. -/
def execHelloTimer (k : Nat) (s : State) : Host.Outcome State Fault Refusal :=
  withLink k <|
    if (s.link k).inService ∧ (s.link k).peerKind = 0 then s.hello k else s

/-- HELLO (R316): a digest that differs marks the link mismatched with event 0x4011; an equal one clears the mark. An
UNREACH is taken without effect. -/
def execHello (k : Nat) (hdr : BitVec 128) (s : State) : Host.Outcome State Fault Refusal :=
  withLink k <|
    if !parOk hdr.toNat 2 1 0 || !zeroBits hdr 69 2 || bits hdr 127 120 != 1 || (s.link k).peerKind != 0
        || !(s.link k).inService then s
    else if bits hdr 119 88 = s.mapDigest then s.setLink k { (s.link k) with mismatch := false }
    else if (s.link k).mismatch then s
    else (s.setLink k { (s.link k) with mismatch := true }).raise 0x4011 0 (linkHalf k) [k, (s.link k).peer, bits hdr 119 88]

/-! ## Dictionary rows -/

/-- POLICER_PROFILE_WRITE (R322): a write that would leave an inconsistent profile is refused; the meters that use the
profile are refilled. -/
def State.policerWrite (s : State) (id sub : Nat) (v : List Byte) : Except (Nat × Nat) State :=
  let s1 := s.dset (0x4190 + id) sub v
  let p := s1.policer id
  if p.pir < p.cir ∨ 4800000000000 < p.pir ∨ p.cir < 1000000 ∨ p.cbs < 65536 ∨ p.pbs < 65536 then .error wRefused
  else
    .ok { s1 with fab := { s1.fab with meters := s1.fab.meters.keep (fun key _ =>
      if key < 4096 then s.dval (0x4150 + key % 64) 2 != id else s.dval (0x41B0 + (key - 4096)) 1 != id) } }

/-- POLICER_PROFILE_WRITE (R322). -/
def execPolicerProfileWrite (o : Origin) (id sub : Nat) (v : List Byte) (s : State) : Host.Outcome State Fault Refusal :=
  .next (s.writeRow o (0x4190 + id % 16) sub v (fun s => s.policerWrite (id % 16) sub v))

/-- Is a schedule's table valid (R323)? An empty value empties the entry. -/
def scheduleOk (b : List Byte) : Bool :=
  b.isEmpty || (decide (16 ≤ b.length) &&
    (let h := leAt b 0 16
     let n := bitsN h 103 96
     bitsN h 127 112 == 0x5447 && bitsN h 111 104 == 1 && decide (1 ≤ n) && decide (n ≤ 64) && bitsN h 95 32 == 0
       && b.length == 16 + 4 * n && crc32c (leBytes 4 0 ++ b.drop 4) == bitsN h 31 0
       && (List.range n).all (fun i => decide (1000 ≤ leAt b (16 + 4 * i) 4 / 256))
       && decide (((List.range n).map (fun i => leAt b (16 + 4 * i) 4 / 256)).foldl (· + ·) 0 ≤ 1000000000)))

/-- The schedule write: DENIED while a link names it, TABLE_INVALID when it is not valid (R323). -/
def State.scheduleWrite (s : State) (id : Nat) (v : List Byte) : Except (Nat × Nat) State :=
  if (List.range 96).any (fun k => s.dval (0x41B0 + k / 4) (0x11 + k % 4) == id) then .error wDenied
  else if !scheduleOk v then .error (stTABLE, 0)
  else .ok (s.dset 0x41A0 (1 + id) v)

/-- SCHEDULE_WRITE (R323). -/
def execScheduleWrite (o : Origin) (id : Nat) (v : List Byte) (s : State) : Host.Outcome State Fault Refusal :=
  .next (s.writeRow o 0x41A0 (1 + id % 16) v (fun s => s.scheduleWrite (id % 16) v))

/-- The clear subindex of the high-water marks of entry `idx`, and the subindices it clears (R325). -/
def markRange (idx : Nat) : Nat × List Nat :=
  if idx = 0x4100 then (9, [7, 8])
  else if idx < 0x4110 then (5, [1, 2, 3, 4])
  else (0xA, [2, 3, 4, 5, 6, 7, 8, 9])

/-- The marks of `idx` set to 0. -/
def State.clearMarks (s : State) (idx : Nat) : State :=
  { s with dict := { s.dict with vals := (markRange idx).2.foldl (fun t k => t.del (dkey idx k)) s.dict.vals } }

/-- MARK_CLEAR (R325). -/
def execMarkClear (o : Origin) (idx : Nat) (v : List Byte) (s : State) : Host.Outcome State Fault Refusal :=
  .next (s.writeRow o idx (markRange idx).1 v (fun s => .ok (s.clearMarks idx)))

end Sys2Proof.Machine
end

