-- ==== Sys2Proof/Machine/Pool.lean ====
section
/-!
DEFINITION. T1 space and KV pages (ch 3, ch 4): bands and slots, placement, charges and reservations, page tables,
append and copy on append, commit, sealing, sharing and release.
-/

namespace Sys2Proof.Machine

/-! ## Bands and slots -/

/-- KiB of a Lysing stack: 48 GiB (Table 1-3). -/
def stackKib : Nat := 50331648

/-- KiB of a half's T1. -/
def halfKib : Nat := 16 * stackKib

/-- The band table's key of row `r` of group `g` of half `h` (R73). -/
def rowKey (h g r : Nat) : Nat := (h * 2 + g) * 768 + r

/-- A free band row. -/
def BandRow.blank : BandRow := { kind := 0, slotkib := 0, rstate := 0, slots := [], members := [], lostRec := false }

/-- A band row. -/
def State.row (s : State) (k : Nat) : BandRow := s.tiers.bands.getD k BandRow.blank

/-- A stack as after a start-up: OK. -/
def Stack.blank : Stack := { cond := 0, tries := 0, fails := 0, answers := true }

/-- Lysing stack `k` = 16 × half + stack. -/
def State.lys (s : State) (k : Nat) : Stack := s.tiers.lys.getD k Stack.blank

/-- Slots of a band with slots of `kib` KiB (R74). -/
def slotsPer (kib : Nat) : Nat := 65536 / kib

/-- Insertion into a rising list, once. -/
def insSorted (n : Nat) : List Nat → List Nat
  | [] => [n]
  | a :: t => if n < a then n :: a :: t else if n = a then a :: t else a :: insSorted n t

/-- The least number from `n` on that a rising list lacks. -/
def gapFrom : List Nat → Nat → Nat
  | [], n => n
  | a :: t, n => if a < n then gapFrom t n else if a = n then gapFrom t (n + 1) else n

/-- A band record (Table 4-2). -/
def BandRow.word (b : BandRow) : Nat :=
  withPar (b.slots.length % 2 ^ 20 * 2 ^ 27 + b.rstate % 4 * 2 ^ 47 + b.slotkib % 2 ^ 12 * 2 ^ 49 + b.kind % 4 * 2 ^ 61) 1 63 63

/-- The byte of the member map for stripe `k` of a row (R72): bit `j` for the slot at group position `j`. -/
def BandRow.memberByte (b : BandRow) (k : Nat) : Nat :=
  ((List.range 8).map (fun j => if b.members.contains (65536 * j + k) then 2 ^ j else 0)).foldl (· + ·) 0

/-- The slots of row `b` taken in the stack at group position `p`. -/
def BandRow.taken (b : BandRow) (p : Nat) : List Nat :=
  (b.slots.filter (fun x => x / 65536 = p)).map (fun x => x % 65536)

/-- Is the band of stack `k` still queued whole for scrub (R428, Table 4-3)? -/
def State.bandScrub (s : State) (k : Nat) : Bool := (s.tiers.scrub.getD k []).any (fun x => decide (65536 ≤ x.kib))

/-- May the placement use stack `k`? -/
def State.stackFree (s : State) (k : Nat) : Bool := (s.lys k).cond == 0 && !s.bandScrub k

/-- May slots of kind `kind` in row `r` lie at position `p`: control blocks anywhere, others not at the parity position
(R71, R74)? -/
def posOk (kind r p : Nat) : Bool := kind == 2 || r % 8 != p

/-- The row and slot that R74 gives in stack `st` of half `h`: the lowest row in use of the kind and size, rstate normal, with a free
slot, else the lowest free row (a retired row is not free, log 88); never one whose record or
member map is lost (R262). The slot is the lowest free one of the stack: DESIGN CHOICE
log 88. -/
def State.findSlot (s : State) (h st kind kib : Nat) : Option (Nat × Nat) :=
  let g := st / 8
  let p := st % 8
  if !s.stackFree (16 * h + st) then none
  else
    match s.tiers.bands.find? (fun kb =>
        decide (rowKey h g 4 ≤ kb.1) && decide (kb.1 < rowKey h g 768) && kb.2.kind == kind && kb.2.slotkib == kib
          && kb.2.rstate == 0 && !kb.2.lostRec && posOk kind (kb.1 % 768) p && decide (gapFrom (kb.2.taken p) 0 < slotsPer kib)) with
    | some kb => some (kb.1 % 768, gapFrom (kb.2.taken p) 0)
    | none =>
      match (List.range 764).find? (fun i =>
          let b := s.row (rowKey h g (i + 4))
          b.kind == 0 && b.rstate != 3 && !b.lostRec && posOk kind (i + 4) p) with
      | some i => some (i + 4, 0)
      | none => none

/-- The stack, row and slot for an object that starts at stack `st` of half `h` (R65). -/
def State.findPlace (s : State) (h st kind kib : Nat) : Option (Nat × Nat × Nat) :=
  (List.range 8).findSome? (fun i =>
    let t := 8 * (st / 8) + (st % 8 + i) % 8
    (s.findSlot h t kind kib).map (fun rs => (t, rs.1, rs.2)))

/-- The page handle of a T1 slot (Tables 1-5, 4-1). -/
def t1Handle (h st r kib slot : Nat) : Nat := 2 ^ 45 + h * 2 ^ 30 + st * 2 ^ 26 + r * 65536 + slot * kib

/-- The tier code of a handle. -/
def hdTier (x : Nat) : Nat := bitsN x 47 45
/-- The location of a handle. -/
def hdLoc (x : Nat) : Nat := x % 2 ^ 45
/-- The half of a T1 location. -/
def locHalf (x : Nat) : Nat := bitsN x 30 30
/-- The stack of a T1 location. -/
def locStack (x : Nat) : Nat := bitsN x 29 26
/-- The band row of a T1 location. -/
def locRow (x : Nat) : Nat := bitsN x 25 16
/-- The band table key of a T1 location. -/
def locKey (x : Nat) : Nat := rowKey (locHalf x) (locStack x / 8) (locRow x)
/-- The slot id of a T1 location in a row with slots of `kib` KiB. -/
def locSlot (x kib : Nat) : Nat := 65536 * (locStack x % 8) + x % 65536 / max kib 1

/-- Band row `k` changed by `f`. -/
def State.updRow (s : State) (k : Nat) (f : BandRow → BandRow) : State :=
  { s with tiers := { s.tiers with bands := s.tiers.bands.put k (f (s.row k)) } }

/-- The KiB of prompt buffers that reduce the free T1 of stack `k` (R183): those of the slots that are `k` mod 16 of its
half. DESIGN CHOICE log 35. -/
def State.promptKib (s : State) (k : Nat) : Nat :=
  ((s.sess.slots.filter (fun r => r.2.half == k / 16 && r.1 % 16 == k % 16)).map (·.2.charge)).foldl (· + ·) 0

/-- Free KiB of stack `k` = 16 × half + stack, before prompt buffers. -/
def State.stackSlots (s : State) (k : Nat) : Nat :=
  if !s.stackFree k then 0
  else
    let h := k / 16
    let g := k % 16 / 8
    let p := k % 8
    let rows := s.tiers.bands.filter (fun kb => decide (rowKey h g 4 ≤ kb.1) && decide (kb.1 < rowKey h g 768))
    let used := rows.filter (fun kb => kb.2.kind != 0 || kb.2.rstate == 3 || kb.2.lostRec)
    (used.map (fun kb =>
      if kb.2.kind = 0 ∨ kb.2.lostRec ∨ !posOk kb.2.kind (kb.1 % 768) p then 0
      else kb.2.slotkib * (slotsPer kb.2.slotkib - (kb.2.taken p).length))).foldl (· + ·) 0
      + 65536 * (764 - used.length)

/-- Free KiB of stack `k` = 16 × half + stack (Table 4-12). -/
def State.stackKibFree (s : State) (k : Nat) : Nat := s.stackSlots k - s.promptKib k

/-- The KiB that a checkpoint's Negative buffer takes of each half's free T1 (R283). -/
def State.negKib (s : State) : Nat :=
  match s.ckpt.run with
  | some r => if r.zeroed && !r.double then 1024 * s.dval 0x3200 5 else 0
  | none => 0

/-- The free T1 of half `h` in KiB (0x2100.06, .07). -/
def State.freeT1 (s : State) (h : Nat) : Nat :=
  ((List.range 16).map (fun i => s.stackKibFree (16 * h + i))).foldl (· + ·) 0 - s.negKib

/-- Event 0x2020 when half `h`'s free T1 fell below 1/64 of its capacity since `old` (Table 3-13). -/
def State.lowMark (s old : State) (h : Nat) : State :=
  if s.freeT1 h < halfKib / 64 ∧ halfKib / 64 ≤ old.freeT1 h then s.raise 0x2020 0 h [h, s.freeT1 h] else s

/-- A T1 slot for an object of `kib` KiB starting at stack `st` of half `h`: its handle, 0 when there is none. A free row that is
assigned starts normal, unless it lacks its parity stack (DEDUCED log 88). -/
def State.allocT1 (s : State) (h st kind kib : Nat) : State × Nat :=
  match s.findPlace h st kind kib with
  | none => (s, 0)
  | some (t, r, k) =>
    let whole := kind == 2 || (s.lys (16 * h + 8 * (t / 8) + r % 8)).cond == 0
    ((s.updRow (rowKey h (t / 8) r) (fun b =>
        { b with kind, slotkib := kib, slots := insSorted (65536 * (t % 8) + k) b.slots
                 rstate := if b.kind = 0 ∧ whole then 0 else b.rstate })).lowMark s h, t1Handle h t r kib k)

/-- The two slots of a mirrored object (R65): copy B in the other group. -/
def State.allocPair (s : State) (h st kind kib : Nat) : State × Nat × Nat :=
  let a := s.allocT1 h st kind kib
  let b := a.1.allocT1 h ((st + 8) % 16) kind kib
  (b.1, a.2, b.2)

/-- The space of handle `x` is queued for scrub on its stack (R67), leaving its stripe first (R75); nothing for a handle
that is not in T1. -/
def State.scrubT1 (s : State) (x : Nat) : State :=
  if hdTier x ≠ 1 then s
  else
    let l := hdLoc x
    let b := s.row (locKey l)
    let st := 16 * locHalf l + locStack l
    { s with tiers := { s.tiers with
        bands := s.tiers.bands.put (locKey l) { b with members := b.members.filter (fun m => m != locSlot l b.slotkib) }
        scrub := s.tiers.scrub.put st (s.tiers.scrub.getD st [] ++ [{ loc := l, kib := b.slotkib }]) } }

/-- The slot of handle `x` becomes a sealed member of its stripe (R75). -/
def State.addMember (s : State) (x : Nat) : State :=
  if hdTier x ≠ 1 then s
  else s.updRow (locKey (hdLoc x)) (fun b => { b with members := insSorted (locSlot (hdLoc x) b.slotkib) b.members })

/-- The head of stack `k`'s scrub queue is done (R67): its slot is free; a row with none taken is free again. -/
def State.scrubDone (s : State) (k : Nat) : State :=
  match s.tiers.scrub.getD k [] with
  | [] => s
  | x :: t =>
    let s1 := { s with tiers := { s.tiers with scrub := if t.isEmpty then s.tiers.scrub.del k else s.tiers.scrub.put k t } }
    let s2 :=
      if 65536 ≤ x.kib then s1
      else
        let b := s1.row (locKey x.loc)
        let b1 := { b with slots := b.slots.filter (fun m => m != locSlot x.loc b.slotkib) }
        if b1.slots.isEmpty then
          { s1 with tiers := { s1.tiers with
            bands := if b1.rstate = 0 ∧ !b1.lostRec then s1.tiers.bands.del (locKey x.loc)
              else s1.tiers.bands.put (locKey x.loc) { b1 with kind := 0, slotkib := 0 } } }
        else { s1 with tiers := { s1.tiers with bands := s1.tiers.bands.put (locKey x.loc) b1 } }
    s2.countUnits 0x8210 5 4096 (1024 * x.kib)

/-! ## Charges and reservations -/

/-- The charge of partition `p` on half `h` in KiB. -/
def State.charge (s : State) (p h : Nat) : Nat := s.pages.charge.getD (2 * p + h) 0

/-- `s` with that charge `n`. -/
def State.setCharge (s : State) (p h n : Nat) : State :=
  { s with pages := { s.pages with charge := s.pages.charge.put (2 * p + h) n } }

/-- The charge grown by `n` KiB. -/
def State.addCharge (s : State) (p h n : Nat) : State := s.setCharge p h (s.charge p h + n)

/-- The charge lowered by `n` KiB. -/
def State.subCharge (s : State) (p h n : Nat) : State := s.setCharge p h (s.charge p h - n)

/-- The requests of the steps in flight on half `h`. -/
def State.flying (s : State) (h : Nat) : List InReq :=
  (s.sched.lanes.filter (fun kl => kl.1 / 8 == h)).flatMap (fun kl => ((kl.2.step.map (·.reqs)).getD []))

/-- What a request of a step in flight has taken of its reservation already. -/
def State.taken (s : State) (r : InReq) : Nat :=
  r.grown + (r.opened.map (fun pid => ((s.pages.pages.get? pid).map (fun p => openCharge (p.bytes / 1024))).getD 0)).foldl (· + ·) 0

/-- The reservations outstanding on half `h` that satisfy `f` on their partition: of steps, revivals and moves. -/
def State.reservedBy (s : State) (h : Nat) (f : Nat → Bool) : Nat :=
  (((s.flying h).filter (fun r => f r.part)).map (·.reserve)).foldl (· + ·) 0
    + ((s.own.dev.filter (fun d => (s.ent d.1).shalf == h && f (s.ent d.1).part)).map (·.2.reserve)).foldl (· + ·) 0
    + ((s.pages.resv.filter (fun d => d.2.1 == h && f (s.ent d.1).part)).map (·.2.2)).foldl (· + ·) 0

/-- The free T1 of half `h` less its reservations, of which what the steps in flight have taken is no longer free. -/
def State.roomT1 (s : State) (h : Nat) : Nat :=
  s.freeT1 h - (s.reservedBy h (fun _ => true) - ((s.flying h).map s.taken).foldl (· + ·) 0)

/-- Why `n` more KiB cannot be held for partition `p` on half `h` (R66, R107): some true for the quota, some false for the
half's space. -/
def State.noRoom (s : State) (p h n : Nat) : Option Bool :=
  if s.dval (0x2180 + p) (1 + h) < s.charge p h + s.reservedBy h (fun q => q == p) + n then some true
  else if s.roomT1 h < n then some false
  else none

/-! ## The drain of a checkpoint -/

/-- A write to or release of an object of `bytes` bytes on half `h` that the cut holds meets the drain (Table 13-5): it is
copied to the Negative buffer, or its drain jumps the queue when the buffer is full. -/
def State.negCopy (s : State) (pid h bytes : Nat) : State :=
  match s.ckpt.run with
  | none => s
  | some r =>
    if !r.todo.contains pid then s
    else
      let full := decide (s.dval 0x3200 5 * 1048576 < r.buf.get h + bytes)
      let r1 : CkptRun := { r with
        todo := r.todo.filter (fun x => x != pid)
        buf := if full then r.buf else r.buf.set h (r.buf.get h + bytes)
        full := if full then r.full.set h true else r.full }
      let s1 := { s with ckpt := { s.ckpt with run := some r1 } }
      let s2 := if full && !r.full.get h then s1.raise 0x3023 0 h [h] else s1
      (s2.count 0x8320 (if full then 4 else 3) 1).count 0x8320 7 1

/-! ## Page tables -/

/-- No page table. -/
def PageTable.none : PageTable := { layers := [], blocks := [], inT1 := true, low := 0, next := 0 }

/-- The page table of session `i`. -/
def State.tableOf (s : State) (i : Nat) : PageTable := s.pages.tables.getD i PageTable.none

/-- `s` with session `i`'s page table `t`. -/
def State.setTable (s : State) (i : Nat) (t : PageTable) : State :=
  { s with pages := { s.pages with tables := s.pages.tables.put i t } }

/-- A layer of a table. -/
def PageTable.layer (t : PageTable) (l : Nat) : LayerTab := t.layers.getD l { depth := 0, leaves := 0, ents := [] }

/-- The page a reference names. -/
def State.refPid (s : State) : PageRef → Option Nat
  | .own pid => some pid
  | .shared rid => (s.pages.shares.get? rid).map (·.pid)

/-- The page of index `i` of layer `l` of session `x`, by its id. -/
def State.pidAt (s : State) (x l i : Nat) : Option Nat := (((s.tableOf x).layer l).ents.get? i).bind s.refPid

/-- The page of index `i` of layer `l` of session `x`. -/
def State.pageAt (s : State) (x l i : Nat) : Option Page := (s.pidAt x l i).bind s.pages.pages.get?

/-- `s` with page `pid` changed by `f`. -/
def State.updPage (s : State) (pid : Nat) (f : Page → Page) : State :=
  { s with pages := { s.pages with pages := s.pages.pages.upd pid f } }

/-- Where a page is: copy A, copy B while A is lost and not made again (R79), or its object below T1 (R27). -/
def Page.loc (p : Page) : Nat := if p.a ≠ 0 then p.a else if p.b ≠ 0 then p.b else p.low

/-- Is the page in T1? -/
def Page.inT1 (p : Page) : Bool := p.a != 0 || p.b != 0

/-- The blocks under the root entry of a layer with `n` leaves (R56). -/
def layerBlocks (n : Nat) : Nat := if n = 0 then 0 else if n = 1 then 1 else if n ≤ 128 then n + 1 else n + 1 + cdiv n 128

/-- The depth of a layer with `n` leaves (R56). -/
def depthOf (n : Nat) : Nat := if n ≤ 1 then 0 else if n ≤ 128 then 1 else 2

/-- The blocks that leaf `j` of a layer needs beside those of the leaves before it (R56): its spines first, the spine of spines with
the 129th leaf, and itself. -/
def leafBlocks (j : Nat) : List (Nat × Nat) :=
  if j = 0 then [(1, 0)]
  else if j < 128 then (if j = 1 then [(2, 0)] else []) ++ [(1, j)]
  else (if j = 128 then [(3, 0)] else []) ++ (if j % 128 = 0 then [(2, j / 128)] else []) ++ [(1, j)]

/-- A table block of session `i` placed by R65 with page index 0, mirrored (R57). The root belongs to no layer and is placed as
layer 0: DESIGN CHOICE log 88. -/
def State.addBlock (s : State) (i l : Nat) (kn : Nat × Nat) : State :=
  let r := s.allocPair (s.ent i).shalf ((i + l) % 16) 2 1
  let t := r.1.tableOf i
  r.1.setTable i { t with blocks := t.blocks ++ [{ kind := kn.1, layer := l, n := kn.2, a := r.2.1, b := r.2.2 }] }

/-- Table blocks of layer `l` added, as (kind, number). -/
def State.addBlocks (s : State) (i l : Nat) (bs : List (Nat × Nat)) : State := bs.foldl (fun t kn => t.addBlock i l kn) s

/-- The tree of layer `l` grown so that it reaches page `p` (R56): the state and the blocks added. -/
def State.reach (s : State) (i l p : Nat) : State × Nat :=
  let t := (s.tableOf i).layer l
  let n := max t.leaves (p / 64 + 1)
  let add := (List.range (n - t.leaves)).flatMap (fun k => leafBlocks (t.leaves + k))
  let s1 := s.addBlocks i l add
  let pt := s1.tableOf i
  (s1.setTable i { pt with layers := pt.layers.put l { t with leaves := n, depth := depthOf n } }, add.length)

/-- The entry of page `p` of layer `l` set. -/
def State.setRef (s : State) (i l p : Nat) (r : PageRef) : State :=
  let pt := s.tableOf i
  let t := pt.layer l
  s.setTable i { pt with layers := pt.layers.put l { t with ents := t.ents.put p r } }

/-- The entry of page `p` of layer `l` made ABSENT. -/
def State.delRef (s : State) (i l p : Nat) : State :=
  let pt := s.tableOf i
  let t := pt.layer l
  s.setTable i { pt with layers := pt.layers.put l { t with ents := t.ents.del p } }

/-- The root of a new session's page table, with its ⌈L ÷ 128⌉ KiB of blocks charged (Table 3-8). -/
def State.newTable (s : State) (i layers : Nat) : State :=
  ((s.setTable i PageTable.none).addBlocks i 0 ((List.range (cdiv layers 128)).map (fun n => (0, n)))).addCharge (s.ent i).part
    (s.ent i).shalf (2 * cdiv layers 128)

/-- Where a table block is in T1: copy A, or copy B while A is lost. -/
def TBlk.loc (b : TBlk) : Nat := if b.a ≠ 0 then b.a else b.b

/-- The root's handle in the entry (Table 2-1). -/
def State.setRoot (s : State) (i : Nat) : State :=
  let t := s.tableOf i
  s.updEnt i (fun e => { e with ptroot := if t.inT1 then (t.blocks.head?.map TBlk.loc).getD 0 else t.low })

/-! ## Pages -/

/-- A new OPEN page of session `i`, layer `l`, index `p` (R58, R65), its entry naming it: the state and the page's id. -/
def State.newPage (s : State) (i l p : Nat) (pr : Profile) : State × Nat :=
  let e := s.ent i
  let r := s.allocPair e.shalf ((i + l + p) % 16) 1 pr.pageKib
  let pid := s.pages.next
  let pg : Page :=
    { origin := s.handleOf i, layer := l, pidx := p, profile := e.profile, kfmt := pr.kfmt, vfmt := pr.vfmt
      latent := pr.latent, bytes := pr.pageBytes, st := .open_, rows := [], pchk := .good, a := r.2.1, b := r.2.2, low := 0
      clen := 0, next := 0, lowChk := .good, part := e.part, half := e.shalf, rel := none }
  let s1 := { r.1 with pages := { r.1.pages with pages := r.1.pages.pages.put pid pg, next := pid + 1 } }
  ((s1.setRef i l p (.own pid)).count 0x8210 1 1, pid)

/-- A page released (Table 3-6): its copies queued for scrub, its charge ended when `paid`, its lower object left to `low`.
While SEALING the release is held for the seal. -/
def State.freePage (s : State) (pid by_ : Nat) (paid : Bool) (low : Nat → State → Page → State) : State :=
  match s.pages.pages.get? pid with
  | none => s
  | some p =>
    if p.st = .sealing then s.updPage pid (fun q => { q with rel := some by_ })
    else
      let s1 := ((s.negCopy pid p.half p.bytes).scrubT1 p.a).scrubT1 p.b
      let k := p.bytes / 1024
      let s2 := if paid && p.inT1 then s1.subCharge p.part p.half (if p.st = .open_ then openCharge k else sealedCharge k) else s1
      let s3 := if p.low ≠ 0 ∨ p.next ≠ 0 then low pid s2 p else s2
      ({ s3 with pages := { s3.pages with pages := s3.pages.pages.del pid } }).count 0x8210 4 1

/-- A share record freed, and its block of 32 when it was the last (Table 3-8). -/
def State.freeShare (s : State) (rid : Nat) (r : ShareRec) : State :=
  let s1 := { s with pages := { s.pages with shares := s.pages.shares.del rid } }
  match s1.pages.blkRecs.get? r.blk with
  | none => s1
  | some b =>
    if b.n ≤ 1 then
      ((({ s1 with pages := { s1.pages with blkRecs := s1.pages.blkRecs.del r.blk } }).scrubT1 b.a).scrubT1 b.b).subCharge b.part b.half 1
    else { s1 with pages := { s1.pages with blkRecs := s1.pages.blkRecs.put r.blk { b with n := b.n - 1 } } }

/-- A reference dropped (R63, R64): the page itself, or one of a share record's, the last of which releases the page. -/
def State.dropRef (s : State) (r : PageRef) (by_ : Nat) (paid : Bool) (low : Nat → State → Page → State) : State :=
  match r with
  | .own pid => s.freePage pid by_ paid low
  | .shared rid =>
    match s.pages.shares.get? rid with
    | none => s
    | some x =>
      if x.refs ≤ 1 then (s.freeShare rid x).freePage x.pid by_ paid low
      else { s with pages := { s.pages with shares := s.pages.shares.put rid { x with refs := x.refs - 1 } } }

/-! ## Reading pages (R55, R77, R255 to R259) -/

/-- Does Lysing stack `k` not answer: LOST, or excluded while silent (R77, Table 4-3)? -/
def State.stackDead (s : State) (k : Nat) : Bool := (s.lys k).cond == 1 || ((s.lys k).cond == 2 && !(s.lys k).answers)

/-- The Lysing stack of T1 handle `x`. -/
def stackAt (x : Nat) : Nat := 16 * locHalf (hdLoc x) + locStack (hdLoc x)

/-- Is handle `x` on a T1 stack that does not answer? -/
def State.stackLost (s : State) (x : Nat) : Bool := hdTier x == 1 && s.stackDead (stackAt x)

/-- Is the stack that holds the parity of handle `x`'s stripe lost (R71)? -/
def State.parityLost (s : State) (x : Nat) : Bool :=
  hdTier x == 1 && s.stackDead (16 * locHalf (hdLoc x) + 8 * (locStack (hdLoc x) / 8) + locRow (hdLoc x) % 8)

/-- Does every stack of the parity group of handle `x` but its own answer, so that a block there can be reconstructed? -/
def State.stripeWhole (s : State) (x : Nat) : Bool :=
  let own := stackAt x
  (List.range 8).all (fun k => let st := own / 8 * 8 + k; st == own || !s.stackDead st)

/-- One more corrected failure of unit `u` of kind `kind` in the day (R273). -/
def State.unitFault (s : State) (kind u : Nat) : State :=
  let k := 1000 * kind + u
  let n := s.integ.daily.getD k 0 + 1
  let s1 : State := { s with integ := { s.integ with daily := s.integ.daily.put k n } }
  let lim := s.dval 0x6000 4
  if 0 < lim ∧ n = lim then s1.raise 0x6042 0 0 [kind, u, n] else s1

/-- A T1 block at `x` was repaired (R256): counted, event 0x6001 at most once per memory port and second. -/
def State.repaired (s : State) (part x : Nat) : State :=
  let h := locHalf (hdLoc x)
  ((s.count 0x8600 1 1).raiseSec 0x6001 (stackAt x) part h ([h, hdTier x] ++ w2 (hdLoc x))).unitFault 2 (stackAt x)

/-- A T1 block at `x` is uncorrectable (R256). -/
def State.uncorrectable (s : State) (part x : Nat) : State :=
  let h := locHalf (hdLoc x)
  (s.count 0x8600 2 1).raise 0x6002 part h ([h, hdTier x] ++ w2 (hdLoc x))

/-- A sealed member at `x` is read (R77): one on a lost stack by reconstruction, which is counted. -/
def State.t1Read (s : State) (x : Nat) : State := if s.stackLost x then s.count 0x8300 5 1 else s

/-- Row `t` of page `pid` read from the copy that is there: repaired from the other one, or poisoned in both (R256). -/
def State.readRowOf (s : State) (pid t : Nat) (r : Row) (p : Page) : State × Bool :=
  let noA := p.a == 0 || s.stackLost p.a
  let noB := p.b == 0 || s.stackLost p.b
  let put := fun (u : State) (c : Check) => u.updPage pid (fun g => { g with rows := g.rows.put t { r with chkA := c, chkB := c } })
  match (if noA then r.chkB else r.chkA), (if noA || noB then Check.failed else r.chkB) with
  | .good, _ => (s, false)
  | .poisoned, _ => (s, true)
  | .failed, .good => ((put s .good).repaired p.part p.loc, false)
  | .failed, .poisoned => ((put s .poisoned).repaired p.part p.loc, true)
  | .failed, .failed => ((put s .poisoned).uncorrectable p.part p.loc, true)

/-- Page `pid` in T1 read, of an open one the rows that `need` names: the state after repairs, and whether poison was read. -/
def State.readPage (s0 : State) (pid : Nat) (need : Nat → Bool) : State × Bool :=
  match s0.pages.pages.get? pid with
  | none => (s0, false)
  | some p =>
    match p.st with
    | .sealed =>
      let s := s0.t1Read p.loc
      (match p.pchk with
       | .good => (s, false)
       | .poisoned => (s, true)
       | .failed =>
         if s.stripeWhole p.loc ∧ !s.stackLost p.loc ∧ !(s.row (locKey (hdLoc p.loc))).lostRec then ((s.updPage pid (fun g => { g with pchk := .good })).repaired p.part p.loc, false)
         else ((s.updPage pid (fun g => { g with pchk := .poisoned })).uncorrectable p.part p.loc, true))
    | _ => (p.rows.filter (fun kr => need kr.1)).foldl (fun a kr =>
        let r := a.1.readRowOf pid kr.1 kr.2 p
        (r.1, a.2 || r.2)) (s0, false)

/-! ## Append -/

/-- Must an append to a page of which `refs` entries name the share record take a copy (R63): others share it, or it is no longer
OPEN, since sealed pages are never written again (Table 3-6; DEDUCED log 76)? -/
def Page.copies (p : Page) (refs : Nat) : Bool := decide (1 < refs) || p.st != .open_

/-- The rows below `n` of page `pid` as a copy under R63 takes them: verified (R55), poisoned ones staying so. -/
def State.copyRows (s : State) (pid n : Nat) : State × Tab Row :=
  let r := s.readPage pid (fun t => decide (t < n))
  match r.1.pages.pages.get? pid with
  | none => (r.1, [])
  | some p =>
    let bad := p.st == .sealed && r.2
    (r.1, (p.rows.keep (fun k _ => decide (k < n))).mapV (fun _ x =>
      let c := if bad then Check.poisoned else if p.st = .sealed then .good else if p.a = 0 ∨ r.1.stackLost p.a then x.chkB else x.chkA
      { x with chkA := c, chkB := c }))

/-- A row written at position `pos` of layer `l` of session `i` (R58, R63): into its page, a new one, or the session's own
copy of a shared one. `cnt` is the session's count. The state, the pages it opened and the table blocks it added. -/
def State.appendRow (s : State) (i l pos cnt : Nat) (pr : Profile) (row : Row) : State × List Nat × Nat :=
  let p := pos / 16
  let w := fun (t : State) (pid : Nat) =>
    (t.negCopy pid (s.ent i).shalf pr.pageBytes).updPage pid (fun g => { g with rows := g.rows.put (pos % 16) row })
  match ((s.tableOf i).layer l).ents.get? p with
  | none =>
    let r := s.reach i l p
    let n := r.1.newPage i l p pr
    (w n.1 n.2, [n.2], r.2)
  | some (.own pid) => (w s pid, [], 0)
  | some (.shared rid) =>
    match s.pages.shares.get? rid with
    | none => (s, [], 0)
    | some x =>
      if !((s.pages.pages.get? x.pid).map (fun g => g.copies x.refs)).getD false then (w s x.pid, [], 0)
      else
        let old := s.copyRows x.pid (cnt % 16)
        let n := old.1.newPage i l p pr
        let s1 := n.1.updPage n.2 (fun g => { g with rows := old.2 })
        let s2 := s1.dropRef (.shared rid) i true (fun _ t _ => t)
        (w (s2.count 0x8210 3 1) n.2, [n.2], 0)

/-- The pages of session `i` as (layer, index, reference), layer by layer. -/
def State.refsOf (s : State) (i : Nat) : List (Nat × Nat × PageRef) :=
  (s.tableOf i).layers.flatMap (fun lt => lt.2.ents.map (fun pe => (lt.1, pe.1, pe.2)))

/-- The pages of session `i` after a commit at count `cnt` (R59, R60): those with no committed row are released, those now
full enter SEALING. `fresh` are the pages opened in the step, not charged yet. -/
def State.settlePages (s : State) (i cnt : Nat) (fresh : List Nat) (low : Nat → State → Page → State) : State :=
  (s.refsOf i).foldl (fun t r =>
    if cdiv cnt 16 ≤ r.2.1 then
      (t.dropRef r.2.2 i (match r.2.2 with
        | .own pid => !fresh.contains pid
        | .shared _ => true) low).delRef i r.1 r.2.1
    else
      match t.refPid r.2.2 with
      | none => t
      | some pid =>
        if 16 * (r.2.1 + 1) ≤ cnt then t.updPage pid (fun p => if p.st = .open_ ∧ p.inT1 then { p with st := .sealing } else p)
        else t) s

/-- The charge of pages `fresh` that were kept. -/
def State.keptCharge (s : State) (fresh : List Nat) : Nat :=
  (fresh.map (fun pid => ((s.pages.pages.get? pid).map (fun p => openCharge (p.bytes / 1024))).getD 0)).foldl (· + ·) 0

/-- What the rows of a page say at copy A and B, joined (R55): rows that fail on A are taken from B. -/
def Page.rowsCheck (p : Page) (n : Nat) : Check :=
  (p.rows.filter (fun kr => decide (kr.1 < n))).foldl (fun c kr => c.join (if kr.2.chkA = .failed then kr.2.chkB else kr.2.chkA)) .good

/-- The outcome of verifying a page: pagecv when SEALED, the rows below the session's count when not (R55). -/
def Page.verdict (p : Page) (n : Nat) : Check :=
  match p.st with
  | .sealed => p.pchk
  | _ => p.rowsCheck n

/-- Sealing ends (R60, Table 4-4): from copy A, or from copy B where A's stack or its parity stack is lost. -/
def State.sealPage (s : State) (pid : Nat) (low : Nat → State → Page → State) : State :=
  match s.pages.pages.get? pid with
  | none => s
  | some p =>
    if p.st ≠ .sealing then s
    else
      let fromB := p.a == 0 || s.stackLost p.a || s.parityLost p.a
      let keep := if fromB then p.b else p.a
      let other := if fromB then (if s.stackLost p.a then 0 else p.a) else p.b
      let k := p.bytes / 1024
      let s1 := (s.negCopy pid p.half p.bytes).updPage pid (fun q =>
        { q with st := .sealed, a := keep, b := 0, rel := none, pchk := q.rowsCheck 16
                 rows := q.rows.mapV (fun _ r => { r with chkA := if r.chkA = .failed then r.chkB else r.chkA }) })
      let s2 := (((s1.addMember keep).scrubT1 other).subCharge p.part p.half (openCharge k)).addCharge p.part p.half (sealedCharge k)
      let s3 := s2.count 0x8210 2 1
      match p.rel with
      | some i => s3.freePage pid i true low
      | none => s3

/-! ## Sharing -/

/-- The page references of session `i` for pages below `n` (R62). -/
def State.refsBelow (s : State) (i n : Nat) : List (Nat × Nat × PageRef) := (s.refsOf i).filter (fun r => decide (r.2.1 < n))

/-- Share records in use on half `h`. -/
def State.sharesOn (s : State) (h : Nat) : Nat := (s.pages.shares.filter (fun r => r.2.half == h)).length

/-- Share records for the pages of one layer, in blocks of 32 of their own (Table 3-8), placed by R65 with the parent's directory
index and that layer: DESIGN CHOICE log 88. -/
def State.shareLayer (s : State) (i l : Nat) : Nat → List (Nat × Nat) → Nat → State
  | _, [], _ => s
  | n, (p, pid) :: t, blk =>
    let fresh := decide (n % 32 = 0)
    let e := s.ent i
    let s1 :=
      if fresh then
        let r := s.allocPair e.shalf ((i + l) % 16) 2 1
        let id := r.1.pages.next
        ({ r.1 with pages := { r.1.pages with
            blkRecs := r.1.pages.blkRecs.put id { n := 0, home := (i + l) % 16, a := r.2.1, b := r.2.2, part := e.part, half := e.shalf }
            next := id + 1 } }).addCharge e.part e.shalf 1
      else s
    let b := if fresh then s.pages.next else blk
    let rid := s1.pages.next
    let s2 := { s1 with pages := { s1.pages with
      shares := s1.pages.shares.put rid { refs := 2, pid, blk := b, at_ := n % 32, half := e.shalf, part := e.part }
      blkRecs := s1.pages.blkRecs.upd b (fun x => { x with n := x.n + 1 })
      next := rid + 1 } }
    State.shareLayer (s2.setRef i l p (.shared rid)) i l (n + 1) t b

/-- The pages of parent `i` below index `n` shared with child `c` (R62): own pages get share records with refs 2, records
gain a reference, and the child's own table names them. -/
def State.sharePages (s : State) (i c n : Nat) : State :=
  let s1 := (s.tableOf i).layers.foldl (fun t lt =>
    t.shareLayer i lt.1 0 (lt.2.ents.filterMap (fun pe => match pe.2 with
      | .own pid => if pe.1 < n then some (pe.1, pid) else none
      | .shared _ => none)) 0) s
  let olds := (s.refsBelow i n).filterMap (fun r => match r.2.2 with
    | .own _ => none
    | .shared rid => some rid)
  let s2 := { s1 with pages := { s1.pages with
    shares := olds.foldl (fun t rid => t.upd rid (fun x => { x with refs := x.refs + 1 })) s1.pages.shares } }
  let s3 := (s2.tableOf i).layers.foldl (fun t lt =>
    if n = 0 then t else
      let g := t.reach c lt.1 (n - 1)
      lt.2.ents.foldl (fun u pe => if pe.1 < n then u.setRef c lt.1 pe.1 pe.2 else u) (g.1.addCharge (t.ent c).part (t.ent c).shalf (2 * g.2))) s2
  s3.setRoot c

/-- Every session that names share record `rid`. -/
def State.sharers (s : State) (rid : Nat) : List Nat :=
  (s.pages.tables.filter (fun t => t.2.layers.any (fun l => l.2.ents.any (fun pe => pe.2 == .shared rid)))).map (·.1)

/-- The T1 space of a table's blocks queued for scrub. -/
def State.scrubBlocks (s : State) (t : PageTable) : State := t.blocks.foldl (fun u b => (u.scrubT1 b.a).scrubT1 b.b) s

/-- A session's pages and table blocks released (Table 2-2): each reference dropped, the blocks queued for scrub. -/
def State.dropSession (s : State) (i : Nat) (low : Nat → State → Page → State) : State :=
  let t := s.tableOf i
  let s1 := (s.refsOf i).foldl (fun u r => u.dropRef r.2.2 i true low) s
  let s2 := s1.scrubBlocks t
  let s3 := if t.inT1 then s2.subCharge (s.ent i).part (s.ent i).shalf (2 * t.blocks.length) else s2
  { s3 with pages := { s3.pages with tables := s3.pages.tables.del i, resv := s3.pages.resv.del i } }

/-! ## The formats of table blocks and share records (Tables 3-4, 3-5, 3-7) -/

/-- A root or spine entry (Table 3-4). -/
def treeWord (depth x : Nat) : Nat := withPar (depth % 4 * 2 ^ 48 + x % 2 ^ 48) 1 63 63

/-- The handle of the block of kind `kind` and number `n` of layer `l`: in T1, or where the copy below holds it; 0 when there is
none. -/
def PageTable.blockAt (t : PageTable) (kind l n : Nat) : Nat :=
  match t.blocks.findIdx? (fun b => b.kind == kind && b.layer == l && b.n == n) with
  | .none => 0
  | some k => if t.inT1 then ((t.blocks[k]?).map TBlk.loc).getD 0 else t.low + k

/-- The root entry of layer `l` (R56): its depth and the leaf or spine it names. -/
def PageTable.rootWord (t : PageTable) (l : Nat) : Nat :=
  let x := t.layer l
  if x.leaves = 0 then 0 else treeWord x.depth (t.blockAt (1 + x.depth) l 0)

/-- pstate of a page (Table 3-5): a page in SEALING still reads OPEN (R60). -/
def Page.pstate (p : Page) : Nat := if p.st = .sealed then 2 else 1

/-- loc_b of a page (Table 3-5): the mirror copy of one that is OPEN in T1. -/
def Page.locB (p : Page) : Nat := if p.st ≠ .sealed ∧ p.a ≠ 0 then p.b else 0

/-- A page-table entry (Table 3-5). loc_a of a SHARED one names the block that holds the record: DESIGN CHOICE log 88. -/
def State.entryWord (s : State) (r : PageRef) : Nat :=
  match r with
  | .own pid =>
    (match s.pages.pages.get? pid with
     | none => 0
     | some p => withPar (p.pstate * 2 ^ 124 + p.loc % 2 ^ 48 * 2 ^ 48 + p.locB % 2 ^ 48) 2 127 126)
  | .shared rid =>
    (match (s.pages.shares.get? rid).bind (fun x => s.pages.blkRecs.get? x.blk) with
     | none => 0
     | some b => withPar (3 * 2 ^ 124 + (if b.a ≠ 0 then b.a else b.b) % 2 ^ 48 * 2 ^ 48) 2 127 126)

/-- The 1,024 bytes of a table block (R56, R57). -/
def State.blockBytes (s : State) (t : PageTable) (b : TBlk) : List Byte :=
  let x := t.layer b.layer
  match b.kind with
  | 0 => (List.range 128).flatMap (fun k => leBytes 8 (t.rootWord (128 * b.n + k)))
  | 1 => (List.range 64).flatMap (fun k => leBytes 16 (((x.ents.get? (64 * b.n + k)).map s.entryWord).getD 0))
  | 2 => (List.range 128).flatMap (fun k =>
      let j := 128 * b.n + k
      leBytes 8 (if j < x.leaves then treeWord 0 (t.blockAt 1 b.layer j) else 0))
  | _ => (List.range 128).flatMap (fun k => leBytes 8 (if 128 * k < x.leaves then treeWord 0 (t.blockAt 2 b.layer k) else 0))

/-- A share record (Table 3-7). -/
def State.shareWord (s : State) (x : ShareRec) : Nat :=
  match s.pages.pages.get? x.pid with
  | none => 0
  | some p => withPar (p.locB % 2 ^ 48 * 2 ^ 96 + p.loc % 2 ^ 48 * 2 ^ 144 + p.pstate * 2 ^ 222 + x.refs % 2 ^ 32 * 2 ^ 224) 4 3 0

/-- The 1,024 bytes of block `k` of share records. -/
def State.shareBytes (s : State) (k : Nat) : List Byte :=
  (List.range 32).flatMap (fun n =>
    match s.pages.shares.find? (fun r => r.2.blk == k && r.2.at_ == n) with
    | some r => leBytes 32 (s.shareWord r.2)
    | none => leBytes 32 0)

/-! ## Rows -/

/-- T1_QUOTA_WRITE (R68). -/
def execT1QuotaWrite (o : Origin) (p sub : Nat) (v : List Byte) (s : State) : Host.Outcome State Fault Refusal :=
  .next (s.writeRow o (0x2180 + p % 64) sub v (fun s => .ok (s.dset (0x2180 + p % 64) sub v)))

end Sys2Proof.Machine
end

