-- ==== Sys2Proof/Machine/Coded.lean ====
section
/-!
DEFINITION. Bytes of session state: the directory entry (Table 2-1), the page image with its header and check values
(ch 3), and the coded object of Table 4-6 with its decoding (R90 to R92).
-/

namespace Sys2Proof.Machine

/-- The code of a session state (Table 2-1). -/
def SessState.code : SessState → Nat
  | .free => 0
  | .idle => 1
  | .live => 2
  | .parked => 3
  | .developing => 4
  | .moving => 5
  | .expired => 6
  | .closed => 7

/-- The state of a code. -/
def SessState.ofCode (n : Nat) : SessState :=
  match n with
  | 1 => .idle
  | 2 => .live
  | 3 => .parked
  | 4 => .developing
  | 5 => .moving
  | 6 => .expired
  | 7 => .closed
  | _ => .free

/-- A directory entry's 512 bits (Table 2-1). -/
def DirEntry.word (e : DirEntry) : Nat :=
  withPar (e.olease % 2 ^ 48 * 2 ^ 16 + e.target % 64 * 2 ^ 80 + e.owner % 64 * 2 ^ 86 + e.thalf % 2 * 2 ^ 92
    + e.shalf % 2 * 2 ^ 93 + b2n e.offered * 2 ^ 94 + e.epoch % 2 ^ 32 * 2 ^ 96 + e.expires % 2 ^ 48 * 2 ^ 144
    + b2n e.tv * 2 ^ 202 + e.tail % 2 ^ 21 * 2 ^ 203 + e.ttl % 2 ^ 32 * 2 ^ 224 + e.reslayers % 512 * 2 ^ 274
    + e.slot % 2 ^ 14 * 2 ^ 283 + b2n e.sv * 2 ^ 297 + e.parent % 2 ^ 22 * 2 ^ 298 + e.children % 2 ^ 16 * 2 ^ 320
    + e.ptroot % 2 ^ 48 * 2 ^ 336 + e.prefixLen % 2 ^ 32 * 2 ^ 384 + e.count % 2 ^ 32 * 2 ^ 416 + b2n e.cl * 2 ^ 448
    + b2n e.cp * 2 ^ 449 + b2n e.pp * 2 ^ 450 + b2n e.ton * 2 ^ 451 + b2n e.fk * 2 ^ 452 + b2n e.lx * 2 ^ 453
    + e.gen % 2 ^ 36 * 2 ^ 460 + e.profile % 64 * 2 ^ 496 + e.part % 64 * 2 ^ 502 + e.state.code * 2 ^ 508) 8 7 0

/-- A directory entry read from its 512 bits. -/
def DirEntry.ofWord (n : Nat) : DirEntry :=
  { state := SessState.ofCode (bitsN n 511 508), part := bitsN n 507 502, profile := bitsN n 501 496, gen := bitsN n 495 460
    lx := bitN n 453, fk := bitN n 452, ton := bitN n 451, pp := bitN n 450, cp := bitN n 449, cl := bitN n 448
    count := bitsN n 447 416, prefixLen := bitsN n 415 384, ptroot := bitsN n 383 336, children := bitsN n 335 320
    parent := bitsN n 319 298, sv := bitN n 297, slot := bitsN n 296 283, reslayers := bitsN n 282 274
    ttl := bitsN n 255 224, tail := bitsN n 223 203, tv := bitN n 202, expires := bitsN n 191 144, epoch := bitsN n 127 96
    offered := bitN n 94, shalf := bitsN n 93 93, thalf := bitsN n 92 92, owner := bitsN n 91 86, target := bitsN n 85 80
    olease := bitsN n 63 16, retired := false, lost := false, copyBad := false }

/-! ## Page images -/

/-- A check value as stored: marked when poisoned, wrong when failed. -/
def storedCv (b : List Byte) (c : Check) : Nat :=
  match c with
  | .good => crc32c b
  | .poisoned => crc32c b ^^^ poisonSyndrome
  | .failed => crc32c b ^^^ 0xFFFFFFFF

/-- The bytes a row's check value covers (R55). -/
def Row.bytes (r : Row) : List Byte := r.k ++ r.v ++ elemBytes 4 r.sums

/-- A block of a page, head-major (R52): `per` bytes per head and row. -/
def pageBlock (rows : Tab Row) (heads per : Nat) (f : Row → List Byte) : List Byte :=
  (List.range heads).flatMap (fun h => (List.range 16).flatMap (fun t =>
    match rows.get? t with
    | some r => fitBytes per (slice (f r) (h * per) per)
    | none => List.replicate per 0#8))

/-- Bytes 128 to P − 1 of a page (Table 3-1). -/
def Page.body (p : Page) (pr : Profile) : List Byte :=
  fitBytes (p.bytes - 128)
    (pageBlock p.rows pr.heads (pr.dk * fmtBytes pr.kfmt) (·.k)
      ++ (if pr.latent then [] else pageBlock p.rows pr.heads (pr.dv * fmtBytes pr.vfmt) (·.v))
      ++ pageBlock p.rows pr.heads 4 (fun r => elemBytes 4 r.sums))

/-- The page header's 1,024 bits (Table 3-3). -/
def Page.header (p : Page) (pr : Profile) : Nat :=
  let sl := p.st == .sealed
  let n := 0x4B56 * 2 ^ 344 + 2 ^ 360 + b2n sl * 2 ^ 371 + b2n p.latent * 2 ^ 372 + p.vfmt % 16 * 2 ^ 374
    + p.kfmt % 16 * 2 ^ 378 + p.profile % 64 * 2 ^ 382 + p.pidx % 2 ^ 20 * 2 ^ 388 + p.layer % 256 * 2 ^ 408
    + p.origin % 2 ^ 64 * 2 ^ 416 + (if sl then storedCv (p.body pr) p.pchk else 0) * 2 ^ 480
  withPar n 8 7 0 + ((List.range 16).map (fun t =>
    (match p.rows.get? t with
     | some r => storedCv r.bytes r.chkA
     | none => 0) * 2 ^ (32 * t + 512))).foldl (· + ·) 0

/-- The P bytes of a page. -/
def Page.image (p : Page) (pr : Profile) : List Byte := leBytes 128 (p.header pr) ++ p.body pr

/-- Row `t` read from a page's bytes. -/
def rowAt (pr : Profile) (b : List Byte) (t : Nat) : Row :=
  let kp := pr.dk * fmtBytes pr.kfmt
  let vp := if pr.latent then 0 else pr.dv * fmtBytes pr.vfmt
  let v0 := 128 + 16 * pr.heads * kp
  let s0 := v0 + 16 * pr.heads * vp
  let r : Row :=
    { k := (List.range pr.heads).flatMap (fun h => slice b (128 + (h * 16 + t) * kp) kp)
      v := (List.range pr.heads).flatMap (fun h => slice b (v0 + (h * 16 + t) * vp) vp)
      sums := (List.range pr.heads).map (fun h => leAt b (s0 + (h * 16 + t) * 4) 4), chkA := .good, chkB := .good }
  let c := verify r.bytes (leAt b (64 + 4 * t) 4)
  { r with chkA := c, chkB := c }

/-- The rows of a page's bytes and the outcome of its check values (R92): pagecv when SL is set, rows 0 to n − 1 when
not. -/
def pageOf (pr : Profile) (b : List Byte) (n : Nat) : Tab Row × Check :=
  let sl := bitN (leAt b 0 128) 371
  let rows := (List.range (if sl then 16 else n)).map (fun t => (t, rowAt pr b t))
  if sl then (rows, verify (b.drop 128) (leAt b 60 4))
  else (rows, rows.foldl (fun c r => c.join r.2.chkA) .good)

/-! ## Coded objects -/

/-- The plane split of a format (Table 4-5): hs and ls. -/
def planeSplit (f : Nat) : Nat × Nat :=
  match f with
  | 2 => (5, 3)
  | 3 => (6, 2)
  | 4 => (8, 0)
  | _ => (8, 8)

/-- The coded object of a page under method `m` (R90, Table 4-6): header, body and zeros up to whole KiB. -/
def Page.objectOf (p : Page) (pr : Profile) (m kbits vbits : Nat) (body : List Byte) : List Byte :=
  let clen := cdiv (64 + body.length) 1024
  let h := clen % 2048 * 2 ^ 355 + pr.heads % 128 * 2 ^ 366 + vbits % 2 ^ 24 * 2 ^ 373 + kbits % 2 ^ 24 * 2 ^ 397
    + (if p.latent then 0 else 16 * pr.heads * pr.dv) % 2 ^ 20 * 2 ^ 421
    + 16 * pr.heads * pr.dk % 2 ^ 20 * 2 ^ 441 + p.bytes / 1024 % 512 * 2 ^ 461 + b2n p.latent * 2 ^ 470 + p.vfmt % 16 * 2 ^ 472
    + p.kfmt % 16 * 2 ^ 476 + m % 256 * 2 ^ 480 + 2 ^ 488 + 0x4B43 * 2 ^ 496
  let b := fitBytes (1024 * clen) (leBytes 64 h ++ body)
  leBytes 4 (crc32c b) ++ b.drop 4

/-- A page's object with method 0x00 (R90): its P bytes. -/
def Page.object (p : Page) (pr : Profile) : List Byte := p.objectOf pr 0 0 0 (p.image pr)

/-- The bits of bytes, bit 7 of each first. -/
def bitsOf (b : List Byte) : List Bool := b.flatMap (fun x => (List.range 8).map (fun i => x.toNat.testBit (7 - i)))

/-- The code lengths of a table: symbol 2j in the low nibble of byte j (R90). -/
def lengthsOf (b : List Byte) : List Nat := b.flatMap (fun x => [x.toNat % 16, x.toNat / 16])

/-- Is a length table valid (R91)? -/
def lengthsOk (l : List Nat) : Bool :=
  let nz := l.filter (fun n => n != 0)
  (nz.map (fun n => 2 ^ (15 - n))).foldl (· + ·) 0 == 2 ^ 15 || (nz == [1])

/-- The canonical codes of a length table as (length, code, symbol) (R91). -/
def canonical (l : List Nat) : List (Nat × Nat × Nat) :=
  ((List.range 15).foldl (fun (a : List (Nat × Nat × Nat) × Nat) i =>
    let n := i + 1
    let syms := (List.range l.length).filter (fun s => nth l s 0 == n)
    (a.1 ++ syms.mapIdx (fun j s => (n, a.2 + j, s)), 2 * (a.2 + syms.length))) ([], 0)).1

/-- One symbol read from a bit stream: the symbol and the bits left (R92). -/
def readSym (cs : List (Nat × Nat × Nat)) : Nat → Nat → Nat → List Bool → Option (Nat × List Bool)
  | 0, _, _, _ => none
  | fuel + 1, len, code, bs =>
    match cs.find? (fun c => c.1 == len && c.2.1 == code) with
    | some c => some (c.2.2, bs)
    | none =>
      match bs with
      | [] => none
      | b :: t => readSym cs fuel (len + 1) (2 * code + b2n b) t

/-- `n` symbols read; none when the stream runs out or ends with bits left over. -/
def readSyms (cs : List (Nat × Nat × Nat)) : Nat → List Bool → Option (List Nat)
  | 0, bs => if bs.isEmpty then some [] else none
  | n + 1, bs =>
    match readSym cs 17 0 0 bs with
    | none => none
    | some (s, r) => (readSyms cs n r).map (s :: ·)

/-- A number from bits, the first highest. -/
def ofBits (l : List Bool) : Nat := l.foldl (fun n b => 2 * n + b2n b) 0

/-- A block decoded from its plane stream and mantissa plane (R92). -/
def decodeBlock (fmt n nbits : Nat) (lens : List Nat) (stream mant : List Byte) : Option (List Byte) :=
  let ls := (planeSplit fmt).2
  let mb := bitsOf mant
  (readSyms (canonical lens) n ((bitsOf stream).take nbits)).map (fun syms =>
    (syms.mapIdx (fun i s => s * 2 ^ ls + ofBits ((mb.drop (i * ls)).take ls))).flatMap (leBytes (fmtBytes fmt)))

/-- The page bytes of a coded object; none when it fails the procedure of R92. -/
def decodeObject (b : List Byte) : Option (List Byte) :=
  let h := leAt b 0 64
  let clen := bitsN h 365 355
  let pk := bitsN h 469 461
  let method := bitsN h 487 480
  if b.length ≠ 1024 * clen ∨ clen = 0 ∨ bitsN h 511 496 ≠ 0x4B43 ∨ bitsN h 495 488 ≠ 1 ∨ 1 < method then none
  else if crc32c (leBytes 4 0 ++ b.drop 4) ≠ bitsN h 31 0 then none
  else if method = 0 then some (slice b 64 (1024 * pk))
  else
    let kf := bitsN h 479 476
    let vf := bitsN h 475 472
    let latent := bitsN h 471 470 == 1
    let nk := bitsN h 460 441
    let nv := bitsN h 440 421
    let kb := bitsN h 420 397
    let vb := bitsN h 396 373
    let lk := 2 ^ ((planeSplit kf).1 - 1)
    let lv := if latent then 0 else 2 ^ ((planeSplit vf).1 - 1)
    let o1 := 192 + lk
    let o2 := o1 + lv
    let o3 := o2 + cdiv kb 8
    let o4 := o3 + cdiv vb 8
    let mk := cdiv (nk * (planeSplit kf).2) 8
    let mv := cdiv (nv * (planeSplit vf).2) 8
    let kl := lengthsOf (slice b 192 lk)
    let vl := lengthsOf (slice b o1 lv)
    if !lengthsOk kl ∨ (!latent ∧ !lengthsOk vl) then none
    else
      match decodeBlock kf nk kb kl (slice b o2 (cdiv kb 8)) (slice b o4 mk),
        (if latent then some [] else decodeBlock vf nv vb vl (slice b o3 (cdiv vb 8)) (slice b (o4 + mk) mv)) with
      | some k, some v =>
        some (fitBytes (1024 * pk) (slice b 64 128 ++ k ++ v ++ slice b (o4 + mk + mv) (64 * bitsN h 372 366)))
      | _, _ => none

/-! ## Encoding (R89 to R91) -/

/-- The elements of a block of format `fmt`. -/
def blockElems (fmt : Nat) (b : List Byte) : List Nat := elems (fmtBytes fmt) (b.length / fmtBytes fmt) b

/-- The lowest `n` bits of `x`, the highest of them first. -/
def bitsBE (n x : Nat) : List Bool := (List.range n).map (fun i => x.testBit (n - 1 - i))

/-- Bits packed into bytes from bit 7 down, the last byte padded with zeros (R90). -/
def packBits (l : List Bool) : List Byte :=
  (List.range (cdiv l.length 8)).map (fun i =>
    let x := (l.drop (8 * i)).take 8
    BitVec.ofNat 8 (ofBits x * 2 ^ (8 - x.length)))

/-- The plane stream and the mantissa plane of a block under a length table, none when a symbol has no code. -/
def encodeBlock (fmt : Nat) (lens : List Nat) (b : List Byte) : Option (List Bool × List Bool) :=
  let ls := (planeSplit fmt).2
  let cs := canonical lens
  (blockElems fmt b).foldr (fun e acc =>
    match acc, cs.find? (fun c => c.2.2 == e / 2 ^ ls) with
    | some (s, m), some c => some (bitsBE c.1 c.2.1 ++ s, bitsBE ls e ++ m)
    | _, _ => none) (some ([], []))

/-- A length table as bytes: symbol 2j in the low nibble of byte j (R90). -/
def lensBytes (l : List Nat) : List Byte := (List.range (l.length / 2)).map (fun j => BitVec.ofNat 8 (nth l (2 * j) 0 + 16 * nth l (2 * j + 1) 0))

/-- May a length table stand for format `fmt` (R91): one length of at most 15 for each symbol, and valid? -/
def tableFits (fmt : Nat) (l : List Nat) : Bool := l.length == 2 ^ (planeSplit fmt).1 && l.all (fun n => decide (n ≤ 15)) && lengthsOk l

/-- What follows the header under method 0x01 (R90) for length tables `kl` and `vl`, with the stream lengths in bits; none when the
tables do not fit the page. -/
def Page.planes (p : Page) (pr : Profile) (kl vl : List Nat) : Option (List Byte × Nat × Nat) :=
  let img := p.image pr
  let kn := 16 * pr.heads * pr.dk * fmtBytes p.kfmt
  let vn := if p.latent then 0 else 16 * pr.heads * pr.dv * fmtBytes p.vfmt
  if !tableFits p.kfmt kl ∨ (!p.latent ∧ !tableFits p.vfmt vl) then none
  else
    match encodeBlock p.kfmt kl (slice img 128 kn), (if p.latent then some ([], []) else encodeBlock p.vfmt vl (slice img (128 + kn) vn)) with
    | some k, some v =>
      some (img.take 128 ++ lensBytes kl ++ (if p.latent then [] else lensBytes vl) ++ packBits k.1 ++ packBits v.1 ++ packBits k.2
        ++ packBits v.2 ++ slice img (128 + kn + vn) (64 * pr.heads), k.1.length, v.1.length)
    | _, _ => none

/-- The coded object of a page (R90, R91): method 0x01 with the tables the encoder chose (log 89) where that takes fewer KiB than
method 0x00. -/
def Page.coded (p : Page) (pr : Profile) : List Byte :=
  let img := p.image pr
  let kn := 16 * pr.heads * pr.dk * fmtBytes p.kfmt
  let vn := 16 * pr.heads * pr.dv * fmtBytes p.vfmt
  match p.planes pr (Config.codeLengths p.kfmt (slice img 128 kn)) (Config.codeLengths p.vfmt (slice img (128 + kn) vn)) with
  | some x => if cdiv (64 + x.1.length) 1024 < cdiv (64 + img.length) 1024 then p.objectOf pr 1 x.2.1 x.2.2 x.1 else p.object pr
  | none => p.object pr

/-- The coded object of page `p` under its profile. -/
def State.pageObject (s : State) (p : Page) : List Byte :=
  match s.profs.get? p.profile with
  | some pr => p.coded pr
  | none => []

/-- The bytes `b` of partition `part` as stored at handle `x`, encrypted under its key (R69, ch 17): opaque (log 9), of the same length. -/
def storedBytes (part x : Nat) (b : List Byte) : List Byte := fitBytes b.length (Config.crypto 5 (leBytes 8 (part * 2 ^ 48 + x)) b)

end Sys2Proof.Machine
end

