-- ==== Sys2Proof/Machine/Tiers.lean ====
section
/-!
DEFINITION. The tiers below T1 (ch 4): T2 stripes and their buffer, host and pool extents, the choice of a tier,
demotion and its end, granules and their moves, Lysing stacks lost and rebuilt.
-/

namespace Sys2Proof.Machine

/-! ## T2 -/

/-- Stripes of a half (R83). -/
def t2Stripes : Nat := 33554432

/-- The free stripes of half `h`. -/
def State.t2Free (s : State) (h : Nat) : Nat :=
  t2Stripes - (s.tiers.t2.get h).stripes.length - b2n (decide (0 < (s.tiers.t2.get h).fill))

/-- `s` with half `h`'s T2 side `t`. -/
def State.setT2 (s : State) (h : Nat) (t : T2Half) : State :=
  { s with tiers := { s.tiers with t2 := s.tiers.t2.set h t } }

/-- The lowest free stripe from `n` on, else from 0. -/
def T2Half.freeFrom (t : T2Half) (n : Nat) : Nat :=
  let a := t.stripes.firstFree (fun _ => true) n
  if a < t2Stripes then a else t.stripes.firstFree (fun _ => true) 0

/-- Are the `k` stripes from `n` on free? -/
def T2Half.runFree (t : T2Half) (n k : Nat) : Bool :=
  decide (n + k ≤ t2Stripes) && (t.stripes.filter (fun x => decide (n ≤ x.1) && decide (x.1 < n + k))).isEmpty

/-- The threshold of compaction in stripes (0x3000.09). -/
def State.compactMark (s : State) : Nat := t2Stripes * s.dval 0x3000 9 / 256

/-- The half writes its stripe buffer whole, padded (R83): the bytes count for the day (R88) and at 0x8300.03; a stripe with no live
unit is free at once (R85); event 0x300B when the free stripes fall below the compaction threshold (Table 4-15). -/
def State.t2Write (s : State) (h : Nat) : State :=
  let t := s.tiers.t2.get h
  if t.fill = 0 then s
  else
    let t1 : T2Half := { t with
      stripes := if t.buf.isEmpty then t.stripes
        else t.stripes.put t.cur { live := (t.buf.map (·.kib)).foldl (· + ·) 0, acked := [], objs := t.buf }
      fill := 0, buf := [], last := t.cur }
    let s1 := (s.setT2 h { t1 with cur := t1.freeFrom (t.cur + 1) })
    let s2 := { s1 with tiers := { s1.tiers with t2day := s1.tiers.t2day.upd h (· + 524288) } }
    let s3 := s2.count 0x8300 3 128
    if s3.t2Free h < s3.compactMark ∧ s3.compactMark ≤ s.t2Free h + 1 then s3.raiseOnce 0x300B h 0 h [h, s3.t2Free h] else s3

/-- `kib` KiB of an object put into the buffer piece by piece, stripes written as they fill. -/
def State.t2Pieces (s : State) (h : Nat) (kind : ObjKind) : Nat → Nat → State
  | 0, _ => s
  | n + 1, kib =>
    if kib = 0 then s
    else
      let t := s.tiers.t2.get h
      let m := min kib (448 - t.fill)
      let s1 := s.setT2 h { t with fill := t.fill + m, buf := t.buf ++ [{ unit := 448 * t.cur + t.fill, kib := m, kind }] }
      State.t2Pieces (if t.fill + m = 448 then s1.t2Write h else s1) h kind n (kib - m)

/-- The first stripe from which `k` free ones run: after the buffer's, then after each stripe in use. -/
def T2Half.findRun (t : T2Half) (k : Nat) : Option Nat :=
  (t.freeFrom t.cur :: t.stripes.map (fun x => x.1 + 1)).find? (fun n => t.runFree n k)

/-- An object of `kib` KiB put into half `h`'s T2 (R83): its page handle, 0 when no stripes are free for it. -/
def State.t2Put (s : State) (h kib : Nat) (kind : ObjKind) : State × Nat :=
  let t := s.tiers.t2.get h
  let at_ := fun (u : State) =>
    let c := u.tiers.t2.get h
    (u.t2Pieces h kind (kib / 448 + 2) kib, 2 * 2 ^ 45 + 448 * (t2Stripes * h + c.cur) + c.fill)
  if t.runFree t.cur (cdiv (t.fill + kib) 448) then at_ s
  else
    let s1 := s.t2Write h
    match (s1.tiers.t2.get h).findRun (cdiv kib 448) with
    | none => (s1, 0)
    | some n => at_ (s1.setT2 h { (s1.tiers.t2.get h) with cur := n })

/-- The object `kind` is dropped from half `h`'s T2: stripes with no live unit left are freed (R85). -/
def State.t2Drop (s : State) (h : Nat) (kind : ObjKind) : State :=
  let t := s.tiers.t2.get h
  s.setT2 h { t with
    buf := t.buf.filter (fun o => o.kind != kind)
    stripes := t.stripes.filterMap (fun ks =>
      let objs := ks.2.objs.filter (fun o => o.kind != kind)
      if objs.isEmpty then none else some (ks.1, { ks.2 with objs, live := (objs.map (·.kib)).foldl (· + ·) 0 })) }

/-- A Flopiry stack as after a start-up. -/
def Flash.blank : Flash := { cond := 0, cycles := 0, worn80 := false, worn100 := false, admittedAt := [] }

/-- Flopiry stack `f`. -/
def State.flash (s : State) (f : Nat) : Flash := s.tiers.flash.getD f Flash.blank

/-- The shares of stripe `n` (of the device) that are missing (R86): of stacks lost or excluded, or admitted after the
stripe was written. -/
def State.sharesMissing (s : State) (n : Nat) : Nat :=
  ((List.range 16).filter (fun f => (s.flash f).cond != 0 || (s.flash f).admittedAt.contains n)).length

/-- Is the object `kind` durable in half `h`'s T2 (R84): out of the buffer, with all 16 shares of each of its stripes acknowledged,
those of lost stacks being erasures (R86)? -/
def State.t2Durable (s : State) (h : Nat) (kind : ObjKind) : Bool :=
  let t := s.tiers.t2.get h
  !t.buf.any (fun o => o.kind == kind) &&
    t.stripes.all (fun ks => !ks.2.objs.any (fun o => o.kind == kind) ||
      (List.range 16).all (fun f => ks.2.acked.contains f || (s.flash f).cond != 0))

/-- Has the T2 object at handle `x`, of `kib` KiB, lost three shares of a stripe (R86)? -/
def State.t2Lost (s : State) (x kib : Nat) : Bool :=
  hdTier x == 2 &&
    (List.range (cdiv kib 448 + 1)).any (fun i =>
      decide (hdLoc x / 448 + i ≤ (hdLoc x + kib - 1) / 448) && decide (3 ≤ s.sharesMissing (hdLoc x / 448 + i)))

/-! ## Extents -/

/-- First fit of `kib` KiB in `len` KiB with the allocations listed. -/
def fitRun (len kib : Nat) : Tab Nat → Nat → Option Nat
  | [], a => if a + kib ≤ len then some a else none
  | (o, k) :: t, a => if a + kib ≤ o then some a else fitRun len kib t (o + k)

/-- The KiB an extent has left. -/
def Extent.room (x : Extent) : Nat := x.len * 2048 - (x.allocs.vals).foldl (· + ·) 0

/-- The KiB a borrowed extent has left. -/
def Borrowed.room (x : Borrowed) : Nat := x.kib - (x.allocs.vals).foldl (· + ·) 0

/-- The extents of partition `p` that take objects, but for key `skip`. -/
def State.extentsOf (s : State) (p skip : Nat) : Tab Extent :=
  s.tiers.extents.filter (fun x => x.1 / 128 == p && x.2.leased && x.1 != skip)

/-- The pool extents of partition `p` that take objects. -/
def State.borrowedOf (s : State) (p : Nat) : Tab Borrowed :=
  s.tiers.borrowed.filter (fun x => x.2.part == p && !x.2.lapsed)

/-- A POOL message's header (Table 14-9). -/
def poolHeader (op ext kib nkib st lease : Nat) : Nat :=
  withPar (lease % 2 ^ 32 * 2 ^ 141 + st % 16 * 2 ^ 173 + nkib % 2 ^ 32 * 2 ^ 177 + kib % 2 ^ 32 * 2 ^ 209
    + ext % 128 * 2 ^ 241 + op % 256 * 2 ^ 248) 4 3 0

/-- A POOL request sent to `holder` and kept until it is answered (Table 14-9). -/
def State.poolAsk (s : State) (op part holder ext kib len : Nat) (obj : Option ObjKind) (data : List Byte) : State :=
  let s1 := s.sendMsg holder part 0x12 7 (leBytes 32 (poolHeader op ext kib len 0 0) ++ data)
  { s1 with tiers := { s1.tiers with
    poolReqs := s1.tiers.poolReqs ++ [{ seq := s1.tiers.poolSeq, op, part, holder, ext, kib, len, obj, data }]
    poolSeq := s1.tiers.poolSeq + 1 } }

/-- An object of `kib` KiB of partition `p` put into tier `t` from half `h`: its page handle, 0 when there is no room. `data` is the
object before encryption (R69); T3 takes it by DMA, T4 by a POOL WRITE. `skip` is an extent key that takes nothing. -/
def State.putLow (s : State) (h p t kib skip : Nat) (kind : ObjKind) (data : List Byte) : State × Nat :=
  if t = 2 then s.t2Put h kib kind
  else if t = 3 then
    match (s.extentsOf p skip).findSome? (fun x => (fitRun (x.2.len * 2048) kib x.2.allocs 0).map (fun o => (x.1, x.2, o))) with
    | none => (s, 0)
    | some (k, e, o) =>
      let x := 3 * 2 ^ 45 + k % 128 * 2 ^ 38 + o
      (({ s with tiers := { s.tiers with extents := s.tiers.extents.upd k (fun x => { x with allocs := x.allocs.put o kib }) } }).dmaTo
        e.fn (s.gen e.fn) (e.addr + 1024 * o) (storedBytes p x data), x)
  else if t = 4 then
    match (s.borrowedOf p).findSome? (fun x => (fitRun x.2.kib kib x.2.allocs 0).map (fun o => (x.1, x.2, o))) with
    | none => (s, 0)
    | some (k, b, o) =>
      let x := 4 * 2 ^ 45 + b.holder % 64 * 2 ^ 39 + b.ext % 128 * 2 ^ 32 + o
      let s1 := { s with tiers := { s.tiers with borrowed := s.tiers.borrowed.upd k (fun x => { x with allocs := x.allocs.put o kib }) } }
      (s1.poolAsk 4 p b.holder b.ext o kib (some kind) (withCrc (fitBytes (1024 * kib) (storedBytes p x data)) false), x)
  else (s, 0)

/-- Is the object `kind` at handle `x` durable: its shares acknowledged in T2 (R84), its write answered by the holder in T4? The host's
acknowledgement of a write to T3 is the event that says so. -/
def State.durable (s : State) (x : Nat) (kind : ObjKind) : Bool :=
  if hdTier x = 2 then s.t2Durable (hdLoc x / 448 / t2Stripes) kind
  else if hdTier x = 4 then !s.tiers.poolReqs.any (fun r => r.op == 4 && r.obj == some kind)
  else true

/-- The object `kind` of partition `p` at handle `x` released from its tier. -/
def State.dropLow (s : State) (p x : Nat) (kind : ObjKind) : State :=
  let l := hdLoc x
  if hdTier x = 2 then s.t2Drop (l / 448 / t2Stripes) kind
  else if hdTier x = 3 then
    { s with tiers := { s.tiers with
      extents := s.tiers.extents.upd (128 * p + bitsN l 44 38) (fun e => { e with allocs := e.allocs.del (l % 2 ^ 38) }) } }
  else if hdTier x = 4 then
    { s with tiers := { s.tiers with
      borrowed := s.tiers.borrowed.map (fun kb =>
        if kb.2.part = p ∧ kb.2.holder = bitsN l 44 39 ∧ kb.2.ext = bitsN l 38 32 then
          (kb.1, { kb.2 with allocs := kb.2.allocs.del (l % 2 ^ 32) }) else kb) } }
  else s

/-- A page's lower objects released: the one it has, and the one being written. -/
def dropPageLow (pid : Nat) (s : State) (p : Page) : State := (s.dropLow p.part p.low (.page pid)).dropLow p.part p.next (.page pid)

/-- A page released by its reference, its lower object with it. -/
def State.dropPageRef (s : State) (r : PageRef) (by_ : Nat) : State :=
  match s.refPid r with
  | some _ => s.dropRef r by_ true dropPageLow
  | none => s

/-- Is the lease of the tier that holds handle `x` of partition `p` gone (R101, R102)? -/
def State.lapsed (s : State) (p x : Nat) : Bool :=
  let l := hdLoc x
  if hdTier x = 3 then
    (match s.tiers.extents.get? (128 * p + bitsN l 44 38) with
     | some e => !e.leased
     | none => true)
  else if hdTier x = 4 then
    !(s.tiers.borrowed.any (fun kb => kb.2.part == p && kb.2.holder == bitsN l 44 39 && kb.2.ext == bitsN l 38 32 && !kb.2.lapsed))
  else false

/-- Event 0x300A for the extent that holds handle `x` of partition `p`, once per extent (R101). -/
def State.lapseEvent (s : State) (p h x : Nat) : State :=
  let t := hdTier x
  let ext := if t = 3 then bitsN (hdLoc x) 44 38 else bitsN (hdLoc x) 38 32
  s.raiseOnce 0x300A (t * 2 ^ 20 + p * 2 ^ 13 + (if t = 4 then bitsN (hdLoc x) 44 39 * 128 else 0) + ext) p h [p, ext, t]

/-! ## The choice of a tier (R94) -/

/-- Has the device written less to T2 today than the budget (R88)? -/
def State.withinBudget (s : State) : Bool := decide (s.tiers.t2rep.w + s.tiers.t2rep.e < s.dval 0x3000 7 * 2 ^ 30)

/-- Has tier `t` room for `kib` KiB of partition `p` written by half `h`? -/
def State.hasRoom (s : State) (h p t kib skip : Nat) : Bool :=
  if t = 2 then decide (0 < s.t2Free h)
  else if t = 3 then
    let xs := s.extentsOf p skip
    !xs.isEmpty && decide (kib ≤ (xs.map (·.2.room)).foldl (· + ·) 0)
  else if t = 4 then
    let xs := s.borrowedOf p
    !xs.isEmpty && decide (kib ≤ (xs.map (·.2.room)).foldl (· + ·) 0)
  else false

/-- The tiers of 0x3000.06 in order. -/
def State.tierOrder (s : State) : List Nat :=
  let o := s.dval 0x3000 6
  ([o % 16, o / 16 % 16, o / 256 % 16]).filter (fun t => t != 0)

/-- The first usable tier of the order (R94), but for those in `no`. -/
def State.policyTier (s : State) (h p kib skip : Nat) (no : List Nat) : Option Nat :=
  s.tierOrder.find? (fun t => !no.contains t && s.hasRoom h p t kib skip && (t != 2 || s.withinBudget))

/-! ## Time and session states -/

/-- The device calendar as half `h` holds it, in ms (R409). -/
def State.nowMs (s : State) (h : Nat) : Nat := s.clk.cal.copy.get h

/-- Session `i` enters state `x`; one that becomes IDLE is put last in the order of idleness. -/
def State.toState (s : State) (i : Nat) (x : SessState) : State :=
  let s1 := s.updEnt i (fun e => { e with state := x })
  if x = .idle then { s1 with sess := { s1.sess with idle := s1.sess.idle.put i s1.sess.order, order := s1.sess.order + 1 } }
  else { s1 with sess := { s1.sess with idle := s1.sess.idle.del i } }

/-- TON set and expires = now + ttl (R95); a ttl of 0xFFFF_FFFF never expires. -/
def State.startTtl (s : State) (i : Nat) : State :=
  s.updEnt i (fun e => { e with ton := true, expires := min (2 ^ 48 - 1) (s.nowMs (idxHalf i) + 1000 * e.ttl) })

/-- TON clear (Table 2-1: expires 0). -/
def State.stopTtl (s : State) (i : Nat) : State := s.updEnt i (fun e => { e with ton := false, expires := 0 })

/-- The leading layers of session `i` that are resident (R106), of `n`. -/
def State.residentLayers (s : State) (i n : Nat) : Nat :=
  if !(s.tableOf i).inT1 then 0
  else
    ((List.range n).takeWhile (fun l => ((s.tableOf i).layer l).ents.all (fun pe =>
      match (s.refPid pe.2).bind s.pages.pages.get? with
      | some p => p.inT1
      | none => true))).length

/-- The layer count of session `i`'s profile. -/
def State.layersOf (s : State) (i : Nat) : Nat := ((s.profs.get? (s.ent i).profile).map (·.layers)).getD (s.tableOf i).layers.length

/-- reslayers brought up to date (R106). -/
def State.setRes (s : State) (i : Nat) : State :=
  let n := s.residentLayers i (s.layersOf i)
  s.updEnt i (fun e => { e with reslayers := n })

/-! ## Demotion -/

/-- The Developer of session `i` stops and its reservation returns (R107, R111). -/
def State.dropDev (s : State) (i : Nat) : State := { s with own := { s.own with dev := s.own.dev.del i } }

/-- May page reference `r` of session `i` go down with it (R64): its own, or shared among PARKED sessions only? -/
def State.mayGoDown (s : State) (i : Nat) : PageRef → Bool
  | .own _ => true
  | .shared rid => (s.sharers rid).all (fun j => j == i || (s.ent j).state == .parked)

/-- The pages of session `i` that a demotion to tier `t` moves, layer L − 1 first and in increasing index (R95): those in
T1, and with `all` those in another tier. -/
def State.goingDown (s : State) (i t : Nat) (all : Bool) : List Nat :=
  ((s.tableOf i).layers.reverse.flatMap (fun lt => lt.2.ents.filterMap (fun pe =>
    if s.mayGoDown i pe.2 then
      match s.refPid pe.2 with
      | none => none
      | some pid =>
        match s.pages.pages.get? pid with
        | none => none
        | some p => if p.inT1 || (all && hdTier p.low != t) then some pid else none
    else none)))

/-- The most KiB that the objects of pages `l` can take: P and a header each (R91). -/
def State.objKib (s : State) (l : List Nat) : Nat :=
  (l.map (fun pid => ((s.pages.pages.get? pid).map (fun p => p.bytes / 1024 + 1)).getD 0)).foldl (· + ·) 0

/-- The KiB of T1 that pages `l` hold. -/
def State.heldKib (s : State) (l : List Nat) : Nat :=
  (l.map (fun pid => ((s.pages.pages.get? pid).map (fun p =>
    (b2n (p.a != 0) + b2n (p.b != 0)) * (p.bytes / 1024))).getD 0)).foldl (· + ·) 0

/-- The table blocks of session `i` as an object: their bytes in order (R95). -/
def State.tableBytes (s : State) (i : Nat) : List Byte := (s.tableOf i).blocks.flatMap (s.blockBytes (s.tableOf i))

/-- The table blocks of session `i` written to tier `t`; false when there is no room. -/
def State.putTables (s : State) (i t skip : Nat) : State × Bool :=
  let pt := s.tableOf i
  if pt.next ≠ 0 ∨ pt.blocks.isEmpty then (s, true)
  else
    let e := s.ent i
    let r := s.putLow e.shalf e.part t pt.blocks.length skip (.tables i) (s.tableBytes i)
    if r.2 = 0 then (r.1, false) else (r.1.setTable i { (r.1.tableOf i) with next := r.2 }, true)

/-- The table blocks written are durable: their T1 space, or the copy below that they had, is released. -/
def State.tablesLowered (s : State) (i : Nat) : State :=
  let pt := s.tableOf i
  let e := s.ent i
  if pt.next = 0 then s
  else
    let s1 := if pt.low ≠ 0 then s.dropLow e.part pt.low (.tables i) else s
    let s2 := if pt.inT1 then (s1.scrubBlocks pt).subCharge e.part e.shalf (2 * pt.blocks.length) else s1
    (s2.setTable i { pt with blocks := pt.blocks.map (fun b => { b with a := 0, b := 0 }), inT1 := false, low := pt.next, next := 0 }).setRoot i

/-- Page `pid` of session `i` coded and written to tier `t` (R55, R69, R90), read from T1 where it is there: the T1 copies stay until the object
is durable (R84). 0 written, 1 it waits for its seal, 2 no room. -/
def State.putPage (s : State) (i pid t skip : Nat) : State × Nat :=
  match s.pages.pages.get? pid with
  | none => (s, 0)
  | some p =>
    if p.next ≠ 0 then (s, 0)
    else if p.st = .sealing then (s, 1)
    else
      let rd := if p.inT1 then s.readPage pid (fun k => decide (16 * p.pidx + k < (s.ent i).count)) else (s, false)
      let b := rd.1.pageObject ((rd.1.pages.pages.get? pid).getD p)
      let kib := if p.low ≠ 0 then p.clen else max (b.length / 1024) 1
      let r := rd.1.putLow p.half p.part t kib skip (.page pid) b
      if r.2 = 0 then (r.1, 2)
      else (r.1.updPage pid (fun q => { q with next := r.2, clen := kib, lowChk := if q.inT1 then (if rd.2 then .poisoned else .good) else q.lowChk }), 0)

/-- Pages written in order until one waits or finds no room. -/
def State.putPages (s : State) (i t skip : Nat) : List Nat → State × Nat
  | [] => (s, 0)
  | pid :: l =>
    let r := s.putPage i pid t skip
    if r.2 = 0 then State.putPages r.1 i t skip l else r

/-- The object written of page `pid` is durable: its T1 copies, or the object it had before, are released (R75, R84, R95). -/
def State.pageLowered (s : State) (pid : Nat) : State :=
  match s.pages.pages.get? pid with
  | none => s
  | some p =>
    if p.next = 0 then s
    else
      let k := p.bytes / 1024
      let s1 := if p.low ≠ 0 then s.dropLow p.part p.low (.page pid) else s
      let s2 := (((s1.negCopy pid p.half p.bytes).scrubT1 p.a).scrubT1 p.b)
      let s3 := if p.inT1 then s2.subCharge p.part p.half (if p.st = .open_ then openCharge k else sealedCharge k) else s2
      let s4 := s3.updPage pid (fun q => { q with a := 0, b := 0, low := p.next, next := 0 })
      if p.inT1 then ((s4.count 0x8300 1 1).countUnits 0x8300 0xA 4096 p.bytes).countUnits 0x8300 0xB 4096 (1024 * p.clen) else s4

/-- The object of page `pid` that is being written given up; with `keep` one that is durable stays beside the T1 copy (R95). -/
def State.dropNext (s : State) (pid : Nat) (keep : Bool) : State :=
  match s.pages.pages.get? pid with
  | none => s
  | some p =>
    if p.next = 0 then s
    else if keep ∧ p.low = 0 ∧ s.durable p.next (.page pid) then s.updPage pid (fun q => { q with low := p.next, next := 0 })
    else (s.dropLow p.part p.next (.page pid)).updPage pid (fun q => { q with next := 0 })

/-- The copy of session `i`'s table blocks that is being written given up. -/
def State.dropNextTables (s : State) (i : Nat) : State :=
  let pt := s.tableOf i
  if pt.next = 0 then s else (s.dropLow (s.ent i).part pt.next (.tables i)).setTable i { pt with next := 0 }

/-- A demotion leaves its half's pass; the pass ends with the last it selected (R93). -/
def State.leavePass (s : State) (h i : Nat) (gran : Bool) : State :=
  let p := s.tiers.pass.get h
  let q : Pass := { p with
    sessions := if gran then p.sessions else p.sessions.filter (fun x => x != i)
    granules := if gran then p.granules.filter (fun x => x != i) else p.granules }
  let q1 : Pass := { q with running := q.running && !(q.sessions.isEmpty && q.granules.isEmpty) }
  { s with tiers := { s.tiers with pass := s.tiers.pass.set h q1 } }

/-- The demotion of session `i` stops (R95, R96): what it was writing is given up, but with `keep` what is durable, and every waiting
PARK completes with `st` and `aux`. -/
def State.stopDemotion (s : State) (i st aux : Nat) (keep : Bool) : State :=
  match s.tiers.demos.get? i with
  | none => s
  | some d =>
    let s0 := (d.left.foldl (fun t pid => t.dropNext pid keep) s).dropNextTables i
    let s1 := ({ s0 with tiers := { s0.tiers with demos := s0.tiers.demos.del i } }).leavePass (s.ent i).shalf i false
    (d.parks.foldl (fun t c => t.doneSess c.1 i st 0 aux) s1).setRes i

/-- Must a demotion of session `i` to tier `t` move its table blocks: they are in T1, or with `all` in another tier? -/
def State.tablesGo (s : State) (i t : Nat) (all : Bool) : Bool :=
  let pt := s.tableOf i
  !pt.blocks.isEmpty && (pt.inT1 || (all && hdTier pt.low != t))

/-- The objects of session `i`'s demotion written, as far as they can be (R95): pages in order, then the table blocks. Where there is no
room the demotion ends, its PARKs NO_SPACE, with event 0x3009 (R94). -/
def State.demoPut (s : State) (i : Nat) : State :=
  match s.tiers.demos.get? i with
  | none => s
  | some d =>
    let r := s.putPages i d.tier 2000000 d.left
    let r1 := if r.2 = 0 ∧ d.tabs then (let x := r.1.putTables i d.tier 2000000; (x.1, if x.2 then 0 else 2)) else r
    if r1.2 = 2 then (r1.1.raise 0x3009 (s.ent i).part (s.ent i).shalf [(s.ent i).shalf, (s.ent i).part]).stopDemotion i stNOSPACE 0 false
    else r1.1

/-- The demotion of session `i` ends if nothing is left to go (R95): the PARKs that asked for its tier or for none complete, and a move to
the tier of the next PARK starts. -/
def State.endDemotion (s : State) (i : Nat) : Nat → State
  | 0 => s
  | n + 1 =>
    match s.tiers.demos.get? i with
    | none => s
    | some d =>
      if !d.left.isEmpty ∨ d.tabs then s
      else
        let s1 := (s.setRes i).leavePass (s.ent i).shalf i false
        let now := d.parks.takeWhile (fun c => c.2 == 0 || c.2 == d.tier)
        let rest := d.parks.dropWhile (fun c => c.2 == 0 || c.2 == d.tier)
        let s2 := now.foldl (fun t c => t.doneSess c.1 i stOK 0 d.tier)
          { s1 with tiers := { s1.tiers with demos := s1.tiers.demos.del i } }
        match rest with
        | [] => s2
        | (c, t) :: more =>
          let d1 : Demotion := { tier := t, left := s2.goingDown i t true, tabs := s2.tablesGo i t true, pass := false, parks := (c, t) :: more }
          State.endDemotion (State.demoPut { s2 with tiers := { s2.tiers with demos := s2.tiers.demos.put i d1 } } i) i n

/-- A demotion of session `i` to tier `t` starts (R95): PARKED with its TTL, its pages on their way. A Developer that still runs on it
stops, and what it reserved returns (R107, R111). -/
def State.startDemotion (s : State) (i t : Nat) (all pass : Bool) (parks : List (Cmd × Nat)) : State :=
  let s1 := ((s.dropDev i).toState i .parked).startTtl i
  let d : Demotion := { tier := t, left := s1.goingDown i t all, tabs := s1.tablesGo i t all, pass, parks }
  let s2 := { s1 with tiers := { s1.tiers with
    demos := s1.tiers.demos.put i d
    pass := if pass then s1.tiers.pass.upd (s.ent i).shalf (fun p => { p with running := true, sessions := p.sessions ++ [i] })
      else s1.tiers.pass } }
  (s2.demoPut i).endDemotion i (parks.length + 1)

/-- The object of page `pid` of session `i`'s demotion is durable (R84, R95): the T1 copies go, unless a session that is not PARKED has come
to share the page meanwhile (R64). Page 0 stands for the table blocks. -/
def State.demoDurable (s : State) (i pid : Nat) : State :=
  match s.tiers.demos.get? i with
  | none => s
  | some d =>
    let go := fun (u : State) (x : Demotion) =>
      (State.setRes { u with tiers := { u.tiers with demos := u.tiers.demos.put i x } } i).endDemotion i (x.parks.length + 1)
    if pid = 0 then
      let x := (s.tableOf i).next
      if !d.tabs ∨ !d.left.isEmpty ∨ x = 0 ∨ !s.durable x (.tables i) then s else go (s.tablesLowered i) { d with tabs := false }
    else
      match s.pages.pages.get? pid with
      | none => s
      | some p =>
        if !d.left.contains pid ∨ p.next = 0 ∨ !s.durable p.next (.page pid) then s
        else
          let may := (s.refsOf i).any (fun r => s.refPid r.2.2 == some pid && s.mayGoDown i r.2.2)
          go (if may then s.pageLowered pid else s.dropNext pid false) { d with left := d.left.filter (fun x => x != pid) }

/-- Every demotion writes what no longer waits for a seal. -/
def State.demosGo (s : State) : State := s.tiers.demos.foldl (fun t d => t.demoPut d.1) s

/-- The table blocks of session `i` brought up to T1 (R57, R108), charged from what is reserved for them. -/
def State.raiseTables (s : State) (i : Nat) : State :=
  let pt := s.tableOf i
  if pt.inT1 then s
  else
    let e := s.ent i
    let s1 := pt.blocks.foldl (fun t b => t.addBlock i b.layer (b.kind, b.n)) (s.setTable i { pt with blocks := [], inT1 := true })
    (s1.addCharge e.part e.shalf (2 * pt.blocks.length)).setRoot i

/-! ## Granules -/

/-- The granule of a device address (Table 1-4), partition included. -/
def granOf (addr : Nat) : Nat := bitsN addr 55 21

/-- The partition of a granule. -/
def granPart (g : Nat) : Nat := g / 2 ^ 29

/-- The half and stack at which granule `g` starts to look for a slot in T1. DESIGN CHOICE log 31. -/
def granHome (g : Nat) : Nat × Nat := (g % 2, g / 2 % 16)

/-- The half that holds granule `g`: the half of its T1 location, of its T2 stripe, else its own. -/
def Granule.half (x : Granule) (g : Nat) : Nat :=
  if x.tier = 1 then locHalf x.loc else if x.tier = 2 then x.loc / 448 / t2Stripes else g % 2

/-- Granule `g`, none when unmapped. -/
def State.gran (s : State) (g : Nat) : Option Granule := s.tiers.grans.get? g

/-- `s` with granule `g` changed by `f`. -/
def State.updGran (s : State) (g : Nat) (f : Granule → Granule) : State :=
  { s with tiers := { s.tiers with grans := s.tiers.grans.upd g f } }

/-- The granules that `n` bytes at `addr` touch, in order. -/
def granSpan (addr n : Nat) : List Nat :=
  let k := addr % 2 ^ 21 + n
  (List.range (k / 2 ^ 21 + b2n (k % 2 ^ 21 != 0))).map (fun i => granOf addr + i)

/-- The check of R26 on `n` bytes at `addr` for partition `p`: the status and detail of the first granule that fails. -/
def State.addrCheck (s : State) (p addr n : Nat) : Option (Nat × Nat) :=
  (granSpan addr n).findSome? (fun g =>
    if !s.partOn (granPart g) || (p != 0 && granPart g != p) then some (stDENIED, 0)
    else if (s.gran g).isNone then some (stBAD, dRANGE)
    else none)

/-- Command `c` on the granules that `n` bytes at `addr` touch: turned away by the check of R26, else `k`. -/
def State.withAddr (s : State) (c : Cmd) (p addr n : Nat) (k : State) : State :=
  match s.addrCheck p addr n with
  | some (st, dt) => s.refuseX c st dt
  | none => k

/-- An access to granule `g` counted in the second of the calendar (R100). -/
def State.touch (s : State) (g : Nat) : State :=
  s.updGran g (fun x =>
    let sec := s.nowMs (x.half g) / 1000
    { x with accSec := sec, acc := if x.accSec = sec then x.acc + 1 else 1, lastAcc := s.nowMs (x.half g) })

/-- The object id under which the cut of a checkpoint knows granule `g`. -/
def granObj (g : Nat) : Nat := 2 ^ 64 + g

/-- The bytes at `addr`. -/
def State.memRead (s : State) (addr n : Nat) : List Byte := s.tiers.mem.readN addr n

/-- A granule's location as a handle. -/
def Granule.handle (x : Granule) : Nat := x.tier * 2 ^ 45 + x.loc

/-- Granule map entry (Table 4-7). -/
def Granule.word (x : Granule) : Nat :=
  withPar (x.loc % 2 ^ 45 + b2n x.mv.isSome * 2 ^ 58 + b2n x.pin * 2 ^ 59 + x.tier % 8 * 2 ^ 60) 1 63 63

/-- Has granule `g` lost three shares of a T2 stripe that holds it (R86)? -/
def State.granLost (s : State) (g : Nat) : Bool :=
  match s.gran g with
  | some x => s.t2Lost x.handle 2050
  | none => false

/-- Is a 4 KiB block that `n` bytes at `addr` touch poisoned, or its granule lost from T2? -/
def State.poisoned (s : State) (addr n : Nat) : Bool :=
  s.tiers.poison.any (fun b => decide (addr / 4096 ≤ b) && decide (b ≤ (addr + n - 1) / 4096)) || (granSpan addr n).any s.granLost

/-- The check value of 4 KiB block `b` of device memory (R98): marked when the block is poisoned. -/
def State.blockCv (s : State) (b : Nat) : Nat :=
  storedCv (s.memRead (4096 * b) 4096) (if s.poisoned (4096 * b) 4096 then .poisoned else .good)

/-- A granule as stored (R98): 2,048 KiB of data followed by the 512 check values of its blocks. -/
def State.granBytes (s : State) (g : Nat) : List Byte :=
  s.memRead (g * 2097152) 2097152 ++ (List.range 512).flatMap (fun i => leBytes 4 (s.blockCv (512 * g + i)))

/-- The granules of checkpoint slot `k` (0 A, 1 B) that are mapped. -/
def State.slotGrans (s : State) (k : Nat) : List (Nat × Granule) :=
  let b := granOf (s.dval 0x3200 (1 + 2 * k))
  s.tiers.grans.filter (fun gx => decide (b ≤ gx.1) && decide (gx.1 < b + s.dval 0x3200 (2 + 2 * k)))

/-- Does granule `g` belong to checkpoint slot `k`? -/
def State.inSlot (s : State) (k g : Nat) : Bool :=
  let b := granOf (s.dval 0x3200 (1 + 2 * k))
  decide (b ≤ g) && decide (g < b + s.dval 0x3200 (2 + 2 * k))

/-- A write by others to a granule of a checkpoint slot spoils the image there (R279). -/
def State.spoil (s : State) (gs : List Nat) : State :=
  if s.ckpt.slots.isEmpty then s
  else { s with ckpt := { s.ckpt with slots := s.ckpt.slots.keep (fun k _ => !gs.any (s.inSlot (k - 1))) } }

/-- Bytes written to device memory (R99): each granule touched meets the drain; a block written whole is no longer
poisoned (R260). -/
def State.memWrite (s : State) (addr : Nat) (b : List Byte) : State :=
  let s1 := ((granSpan addr b.length).foldl (fun t g => t.negCopy (granObj g) (g % 2) 2097152) s).spoil (granSpan addr b.length)
  { s1 with tiers := { s1.tiers with
    mem := s1.tiers.mem.writeN addr b
    poison := s1.tiers.poison.filter (fun k => !(decide (addr ≤ 4096 * k) && decide (4096 * k + 4096 ≤ addr + b.length))) } }

/-- The 4 KiB block of `addr` poisoned in place (R258). -/
def State.poisonBlock (s : State) (addr : Nat) : State :=
  if s.tiers.poison.contains (addr / 4096) then s
  else { s with tiers := { s.tiers with poison := s.tiers.poison ++ [addr / 4096] } }

/-- A place for granule `g` in tier `t`: its location handle, 0 when there is none. A T1 granule is a sealed member of its
stripe (R99). -/
def State.placeGran (s : State) (g t skip : Nat) : State × Nat :=
  if t = 1 then
    let h := (granHome g).1
    let st := (granHome g).2
    let r := s.allocT1 h st 3 2050
    let r1 := if r.2 = 0 then r.1.allocT1 (otherHalf h) st 3 2050 else r
    (r1.1.addMember r1.2, r1.2)
  else s.putLow (((s.gran g).map (fun x => x.half g)).getD (g % 2)) (granPart g) t 2050 skip (.granule g) (s.granBytes g)

/-- The location `x` of granule `g` released. -/
def State.dropGran (s : State) (g x : Nat) : State :=
  if hdTier x = 1 then s.scrubT1 x else s.dropLow (granPart g) x (.granule g)

/-- A move of granule `g` to tier `t` starts (R100): nothing when it is there, moving already, or has no place there. -/
def State.startGranMove (s : State) (g t skip : Nat) (byCmd : Bool) : State × Bool :=
  match s.gran g with
  | none => (s, false)
  | some x =>
    if x.mv.isSome then (s, true)
    else
      let r := s.placeGran g t skip
      if r.2 = 0 then (r.1, false)
      else (r.1.updGran g (fun y => { y with mv := some { tier := t, loc := hdLoc r.2, pieces := 0, byCmd } }), true)

/-- Old plus operand for operation `op` of Table 4-8, as the element's new bits. -/
def atomicSum (op old v : Nat) : Nat :=
  match op with
  | 0 => oadd old v
  | 1 => oaddBf old (v % 65536 * 65536)
  | 2 => (old + v) % 2 ^ 32
  | _ => (old + v) % 2 ^ 64

/-- The element width of operation `op` in bytes. -/
def atomicWidth (op : Nat) : Nat := if op = 1 then 2 else if op = 3 then 8 else 4

/-- An atomic add applied to the element at `addr` (R103), counted. A poisoned element stays poisoned. -/
def State.atomicAdd (s : State) (addr op v : Nat) : State :=
  let w := atomicWidth op
  let old := leNat (s.memRead addr w)
  let keep := s.poisoned addr w
  let s1 := s.memWrite addr (leBytes w (atomicSum op old v))
  ((if keep then s1.poisonBlock addr else s1).count 0x8300 8 1)

/-- The commands that wait on granule `g` told that it has moved, or with `atom` that its adds are applied (R100, R103, R104): those with
none left complete. -/
def State.granDone (s : State) (g : Nat) (atom : Bool) : State :=
  let cs := s.tiers.gcmds.map (fun c => if c.left.contains g && ((c.kind == 0x26) == atom) then
    { c with left := c.left.filter (fun x => x != g), done := c.done + 1 } else c)
  let fin := cs.filter (fun c => c.left.isEmpty)
  let s1 := { s with tiers := { s.tiers with gcmds := cs.filter (fun c => !c.left.isEmpty) } }
  fin.foldl (fun t c =>
    let t1 := if c.kind = 0x21 then { t with tiers := { t.tiers with extents := t.tiers.extents.del c.arg } } else t
    if c.kind = 0x26 then
      (if t.poisoned c.arg 1 then t1.tastePoison c.cmd ((t.fnPart c.cmd.fn).getD 0) 0 else t1).done c.cmd
        (if t.poisoned c.arg 1 then stPOISONED else stOK) 0 0
    else t1.done c.cmd (if c.short then stNOSPACE else stOK) 0 c.done) s1

/-- The extent of a granule below T2: bits [44:38] of a T3 location, [38:32] of a T4 location. -/
def anchorExt (x : Granule) : Nat := if x.tier = 4 then bitsN x.loc 38 32 else bitsN x.loc 44 38

/-- The holder of a T4 granule. -/
def anchorHolder (x : Granule) : Nat := if x.tier = 4 then bitsN x.loc 44 39 else 0

/-- Runs of consecutive granules at consecutive locations (R429), from a rising list. -/
def anchorRuns : List (Nat × Granule) → List AnchorRun
  | [] => []
  | (g, x) :: t =>
    match anchorRuns t with
    | r :: rs =>
      if r.first = g + 1 ∧ r.tier = x.tier ∧ r.loc = x.loc + 2050 then { r with first := g, count := r.count + 1, loc := x.loc } :: rs
      else { first := g, count := 1, tier := x.tier, loc := x.loc, ext := anchorExt x, len := 0, addr := anchorHolder x } :: r :: rs
    | [] => [{ first := g, count := 1, tier := x.tier, loc := x.loc, ext := anchorExt x, len := 0, addr := anchorHolder x }]

/-- The images of slots that lost a granule are gone. -/
def State.keepImages (s : State) : State :=
  { s with ckpt := { s.ckpt with slots := s.ckpt.slots.keep (fun k x =>
    decide (0 < s.dval 0x3200 (2 * k)) && x.base == s.dval 0x3200 (2 * k - 1) && (s.slotGrans (k - 1)).length == s.dval 0x3200 (2 * k)) } }

/-- The anchors of both slots rewritten (R429); a slot of more than 8,192 runs has none, with event 0xF009. -/
def State.reanchor (s0 : State) : State :=
  let s := s0.keepImages
  let mk := fun (k : Nat) => (anchorRuns (s.slotGrans k)).map (fun r =>
    if r.tier = 3 then
      match s.tiers.extents.get? r.ext with
      | some e => { r with len := e.len, addr := e.addr }
      | none => r
    else r)
  let a := mk 0
  let b := mk 1
  let s1 := { s with boot := { s.boot with anchors := { w := if a.length ≤ 8192 then a else [], e := if b.length ≤ 8192 then b else [] } } }
  let s2 := if 8192 < a.length then s1.raise 0xF009 0 0 [0, a.length] else s1
  if 8192 < b.length then s2.raise 0xF009 0 0 [1, b.length] else s2

/-- The adds held for granule `g` applied once it is in T1 on a stack that answers (R99, R100, R103); the ATOMICs that waited complete. -/
def State.applyAdds (s : State) (g : Nat) : State :=
  match s.gran g with
  | none => s
  | some x =>
    if x.tier ≠ 1 ∨ x.mv.isSome ∨ s.stackLost x.handle ∨ x.adds.isEmpty then s
    else (x.adds.foldl (fun t a => t.atomicAdd a.1 a.2.1 a.2.2) (s.updGran g (fun y => { y with adds := [] }))).granDone g true

/-- A granule outside T1 that adds wait for is promoted, as soon as T1 has a place (R103). -/
def State.pushUp (s : State) (g : Nat) : State :=
  match s.gran g with
  | none => s
  | some x => if x.tier = 1 ∨ x.mv.isSome ∨ x.adds.isEmpty then s else (s.startGranMove g 1 2000000 false).1

/-- The last piece of granule `g` is copied: the map entry is switched, the source released and held adds applied (R100). -/
def State.switchGran (s : State) (g : Nat) (x : Granule) (m : GranMove) : State :=
  let s1 := (s.negCopy (granObj g) (g % 2) 2097152).updGran g (fun y => { y with tier := m.tier, loc := m.loc, mv := none, acc := 0 })
  let s2 := ((s1.dropGran g x.handle).applyAdds g).granDone g false
  ((((s2.leavePass 0 g true).leavePass 1 g true).reanchor).pushUp g)

/-- A 64 KiB piece of granule `g` is copied (R100): one to or from T2 waits while the bridge is down (R24), and the last one to a tier
below until the object is durable there (R84). -/
def State.pieceMoved (s : State) (g : Nat) : State :=
  match s.gran g with
  | none => s
  | some x =>
    match x.mv with
    | none => s
    | some m =>
      if s.boot.bridge ∧ (m.tier = 2 ∨ x.tier = 2) then s
      else if m.pieces + 1 < 32 then s.updGran g (fun y => { y with mv := some { m with pieces := m.pieces + 1 } })
      else if !s.durable (m.tier * 2 ^ 45 + m.loc) (.granule g) then s
      else s.switchGran g x m

/-- An unpinned granule outside T1 accessed 64 times within a second is promoted while free T1 is above the low mark
(R100). -/
def State.hotGran (s : State) (g : Nat) : State :=
  match s.gran g with
  | none => s
  | some x =>
    if x.tier ≠ 1 ∧ !x.pin ∧ 64 ≤ x.acc ∧ halfKib * s.dval 0x3000 3 / 256 < s.freeT1 (x.half g) then (s.startGranMove g 1 2000000 false).1
    else s

/-- An access to the `n` bytes at `addr`: counted, and hot granules promoted. -/
def State.access (s : State) (addr n : Nat) : State := (granSpan addr n).foldl (fun t g => (t.touch g).hotGran g) s

/-! ## Lysing stacks -/

/-- `s` with Lysing stack `k` changed by `f`. -/
def State.updLys (s : State) (k : Nat) (f : Stack → Stack) : State :=
  { s with tiers := { s.tiers with lys := s.tiers.lys.put k (f (s.lys k)) } }

/-- The positions of group `g` of half `h` whose stacks are not OK. -/
def State.outPos (s : State) (h g : Nat) : List Nat := (List.range 8).filter (fun p => (s.lys (16 * h + 8 * g + p)).cond != 0)

/-- A handle's copy made again where its stack is not OK (R79): elsewhere in the same group, by the next-stack rule. -/
def State.remake (s : State) (x kind kib : Nat) : State × Nat :=
  if hdTier x = 1 ∧ (s.lys (16 * locHalf (hdLoc x) + locStack (hdLoc x))).cond ≠ 0 then
    s.allocT1 (locHalf (hdLoc x)) (locStack (hdLoc x)) kind kib
  else (s, x)

/-- Every open page, table block and share-record block mirrored again (R79). -/
def State.remirror (s : State) : State :=
  let s1 := s.pages.pages.foldl (fun t kp =>
    if kp.2.st = .sealed then t
    else
      let a := t.remake kp.2.a 1 (kp.2.bytes / 1024)
      let b := a.1.remake kp.2.b 1 (kp.2.bytes / 1024)
      b.1.updPage kp.1 (fun p => { p with a := a.2, b := b.2 })) s
  let s2 := s1.pages.tables.foldl (fun t kt =>
    if !kt.2.inT1 then t
    else
      let r := kt.2.blocks.foldl (fun (u : State × List TBlk) x =>
        let a := u.1.remake x.a 2 1
        let b := a.1.remake x.b 2 1
        (b.1, u.2 ++ [{ x with a := a.2, b := b.2 }])) (t, [])
      (r.1.setTable kt.1 { kt.2 with blocks := r.2 }).setRoot kt.1) s1
  s2.pages.blkRecs.foldl (fun t kb =>
    let a := t.remake kb.2.a 2 1
    let b := a.1.remake kb.2.b 2 1
    { b.1 with pages := { b.1.pages with blkRecs := b.1.pages.blkRecs.put kb.1 { kb.2 with a := a.2, b := b.2 } } }) s2

/-! ## T1 parity (R71, R72, R77) -/

/-- The page or granule whose T1 slot is `x`. -/
def State.ownerOf (s : State) (x : Nat) : Option (Nat ⊕ Nat) :=
  match s.pages.pages.find? (fun kp => kp.2.a == x) with
  | some kp => some (.inl kp.1)
  | none => (s.tiers.grans.find? (fun g => g.2.tier == 1 && g.2.loc == hdLoc x)).map (fun g => .inr g.1)

/-- Two lists of bytes, byte by byte exclusive-or. -/
def xorBytes (a b : List Byte) : List Byte := List.zipWith (· ^^^ ·) a b

/-- The bytes stored in the T1 slot at handle `x` of `kib` KiB: what lies there, encrypted (R69). -/
def State.slotBytes (s : State) (x kib : Nat) : List Byte :=
  fitBytes (1024 * kib) (match s.ownerOf x with
    | some (.inl pid) =>
      (match s.pages.pages.get? pid with
       | some p => storedBytes p.part x (((s.profs.get? p.profile).map p.image).getD [])
       | none => [])
    | some (.inr g) => storedBytes (granPart g) x (s.granBytes g)
    | none => [])

/-- The handle of member `m` of row `r` of group `g` of half `h`. -/
def memberHandle (h g r kib m : Nat) : Nat := t1Handle h (8 * g + m / 65536) r kib (m % 65536)

/-- The parity block of stripe (`r`, `k`) of group `g` of half `h` (R71): the exclusive-or of its sealed members, zeros with none. -/
def State.parityBlock (s : State) (h g r k : Nat) : List Byte :=
  let b := s.row (rowKey h g r)
  (b.members.filter (fun m => m % 65536 == k)).foldl (fun a m => xorBytes a (s.slotBytes (memberHandle h g r b.slotkib m) b.slotkib))
    (List.replicate (1024 * b.slotkib) 0#8)

/-- Member `m` of row `r` reconstructed (R77): the parity block and every other sealed member of its stripe, exclusive-or. -/
def State.reconstruct (s : State) (h g r m : Nat) : List Byte :=
  let b := s.row (rowKey h g r)
  (b.members.filter (fun x => x % 65536 == m % 65536 && x != m)).foldl
    (fun a x => xorBytes a (s.slotBytes (memberHandle h g r b.slotkib x) b.slotkib)) (s.parityBlock h g r (m % 65536))

/-- The members of row `b` (number `r`) that have lost a second block of their stripe to the positions `out` (R80). -/
def BandRow.doubly (b : BandRow) (r : Nat) (out : List Nat) : List Nat :=
  b.members.filter (fun m => out.contains (m / 65536) &&
    out.any (fun q => q != m / 65536 && (q == r % 8 || b.members.contains (65536 * q + m % 65536))))

/-- A page or granule in slot `x` is lost: poisoned, event 0x3004 with its stripe, and counted, once (R80). -/
def State.loseSlot (s : State) (x h g r m : Nat) : State :=
  match s.ownerOf x with
  | some (.inl pid) =>
    if ((s.pages.pages.get? pid).map (fun p => p.pchk == .poisoned)).getD true then s
    else ((s.updPage pid (fun p => { p with pchk := .poisoned })).count 0x8300 9 1).raise 0x3004 0 h [h, g, 65536 * r + m % 65536]
  | some (.inr gr) =>
    if (List.range 512).all (fun i => s.tiers.poison.contains (512 * gr + i)) then s
    else ((List.range 512).foldl (fun t i => t.poisonBlock (gr * 2097152 + 4096 * i)) s).raise 0x3004 0 h [h, g, 65536 * r + m % 65536]
  | none => s

/-- A second stack of group `g` of half `h` is lost before the rebuild of the first, lost or excluded since, is done (R80): stripes that
lack two blocks lose their members there. -/
def State.secondLoss (s : State) (h g : Nat) : State :=
  let out := (List.range 8).filter (fun p => s.stackDead (16 * h + 8 * g + p))
  if out.length < 2 then s
  else
    s.tiers.bands.foldl (fun t kb =>
      if kb.1 / 768 = h * 2 + g then
        (kb.2.doubly (kb.1 % 768) out).foldl (fun u m => u.loseSlot (memberHandle h g (kb.1 % 768) kb.2.slotkib m) h g (kb.1 % 768) m) t
      else t) s

/-- Open pages both of whose copies lie on lost stacks are poisoned, event 0x3004 with the slot of copy A (R80, log 90). -/
def State.openLost (s : State) : State :=
  s.pages.pages.foldl (fun t kp =>
    let p := kp.2
    if p.st ≠ .sealed ∧ p.inT1 ∧ (p.a = 0 ∨ t.stackLost p.a) ∧ (p.b = 0 ∨ t.stackLost p.b)
        ∧ p.rows.any (fun r => r.2.chkA != .poisoned || r.2.chkB != .poisoned) then
      let x := if p.a ≠ 0 then p.a else p.b
      ((t.updPage kp.1 (fun p => { p with rows := p.rows.mapV (fun _ r => { r with chkA := .poisoned, chkB := .poisoned }) })).count 0x8300 9 1).raise
        0x3004 0 (locHalf (hdLoc x)) [locHalf (hdLoc x), locStack (hdLoc x) / 8, 65536 * locRow (hdLoc x) + locSlot (hdLoc x) (p.bytes / 1024) % 65536]
    else t) s

/-- The band rows of a group that hold objects; rows 0 to 3 are system rows. -/
def groupRows : List Nat := (List.range 764).map (· + 4)

/-- The rows a rebuild may take up: all it has left in hardware mode, those that REBUILD commands name in host-assisted mode (R78). -/
def Rebuild.open_ (r : Rebuild) : List Nat := if r.assisted then r.rows.filter (fun x => r.cmds.any (fun c => c.2.1.contains x)) else r.rows

/-- The row the rebuild of group `g` of half `h` is at, the lowest it may take up, reads rebuilding (Table 4-2; DEDUCED log 90). -/
def State.markRow (s : State) (h g : Nat) : State :=
  match (s.tiers.rebuilds.get? (2 * h + g)).bind (fun r => r.open_.head?) with
  | none => s
  | some r => s.updRow (rowKey h g r) (fun b => if b.rstate = 1 then { b with rstate := 2 } else b)

/-- A rebuild of group `g` of half `h` for stack `st` starts (R78). -/
def State.startRebuild (s : State) (h g st : Nat) (assisted : Bool) : State :=
  State.markRow { s with tiers := { s.tiers with
    rebuilds := s.tiers.rebuilds.put (2 * h + g)
      { stack := st, assisted
        rows := groupRows
        done := ((s.tiers.rebuilds.get? (2 * h + g)).map (·.done)).getD 0
        cmds := ((s.tiers.rebuilds.get? (2 * h + g)).map (·.cmds)).getD [] } } } h g

/-- Every band row of group `g` of half `h` degraded, the system rows among them, but the retired ones (R76). -/
def State.degrade (s : State) (h g : Nat) : State :=
  (List.range 768).foldl (fun t r => t.updRow (rowKey h g r) (fun b => if b.rstate = 3 then b else { b with rstate := 1 })) s

/-- A Lysing stack becomes LOST (R76 to R80); an event on one already out is counted (Table 4-3). -/
def State.loseStack (s : State) (h st : Nat) : State :=
  let k := 16 * h + st
  let g := st / 8
  if (s.lys k).cond ≠ 0 then s.updLys k (fun x => { x with fails := x.fails + 1, tries := 0, answers := false })
  else
    let s1 := (s.updLys k (fun x => { x with cond := 1, fails := x.fails + 1, tries := 0, answers := false })).raise 0x3001 0 h [h, st]
    let s3 := ((s1.degrade h g).openLost.secondLoss h g).remirror
    let assisted := s.dval 0xA000 7 == 1
    let s4 := s3.startRebuild h g st assisted
    if assisted then s4.raise 0x3002 0 h [h, g, st] else s4

/-- A page or granule in slot `x` moved to the other group of half `h` (R78), whose rows have no slot on a stack that is out: reconstructed,
or read directly, and sealed there. False when it found no place. -/
def State.moveSlot (s : State) (x h st : Nat) : State × Bool :=
  let free := (s.outPos h (1 - st / 8)).isEmpty
  match s.ownerOf x with
  | none => (s, true)
  | some (.inl pid) =>
    (match s.pages.pages.get? pid with
     | none => (s, true)
     | some p =>
       let r := if free then (s.negCopy pid p.half p.bytes).allocT1 h ((st + 8) % 16) 1 (p.bytes / 1024) else (s, 0)
       if r.2 = 0 then (s, false)
       else (((((r.1.t1Read x).addMember r.2).scrubT1 x).updPage pid (fun q => { q with a := r.2 })).count 0x8300 6 1, true))
  | some (.inr gr) =>
    let r := if free then s.allocT1 h ((st + 8) % 16) 3 2050 else (s, 0)
    if r.2 = 0 then (s, false)
    else (((((r.1.t1Read x).addMember r.2).scrubT1 x).updGran gr (fun y => { y with loc := hdLoc r.2 })).applyAdds gr, true)

/-- Members of a row moved out one by one: the state, the pages moved, and whether every member was. -/
def State.moveMembers (s : State) (h g r kib : Nat) (ms : List Nat) : State × Nat × Bool :=
  ms.foldl (fun a m =>
    let x := memberHandle h g r kib m
    let pg := (a.1.pages.pages.any (fun kp => kp.2.a == x))
    let y := a.1.moveSlot x h (8 * g + m / 65536)
    (y.1, a.2.1 + b2n (y.2 && pg), a.2.2 && y.2)) (s, 0, true)

/-- The system rows of a group whose rebuild is done: retired where their parity position is out, else normal (log 90). -/
def State.settleSystem (s : State) (h g : Nat) : State :=
  (List.range 4).foldl (fun t r =>
    if (t.row (rowKey h g r)).rstate = 0 then t
    else t.updRow (rowKey h g r) (fun b => { b with rstate := if (t.outPos h g).contains r then 3 else 0 })) s

/-- Band row `r` of group `g` of half `h` is rebuilt (R78): the sealed members on stacks that are out are moved, all of
them when the parity position is out; the row is then retired or normal. A member that finds no place keeps the row waiting. In
host-assisted mode only rows that REBUILD named are rebuilt. -/
def State.rebuildRow (s : State) (h g r : Nat) : State :=
  match s.tiers.rebuilds.get? (2 * h + g) with
  | none => s
  | some rb =>
    if !rb.open_.contains r then s
    else
      let out := s.outPos h g
      let b := s.row (rowKey h g r)
      let par := out.contains (r % 8)
      let mv := s.moveMembers h g r b.slotkib (b.members.filter (fun m => par || out.contains (m / 65536)))
      let rb0 : Rebuild := { rb with
        done := rb.done + mv.2.1, cmds := rb.cmds.map (fun c => if c.2.1.contains r then (c.1, c.2.1, c.2.2 + mv.2.1) else c) }
      if !mv.2.2 then { mv.1 with tiers := { mv.1.tiers with rebuilds := mv.1.tiers.rebuilds.put (2 * h + g) rb0 } }
      else
        let s2 := mv.1.updRow (rowKey h g r) (fun x => { x with rstate := if par then 3 else 0 })
        let rb1 : Rebuild := { rb0 with
          rows := rb0.rows.filter (fun x => x != r), cmds := rb0.cmds.map (fun c => (c.1, c.2.1.filter (fun x => x != r), c.2.2)) }
        let fin := rb1.cmds.filter (fun c => c.2.1.isEmpty)
        let rb2 : Rebuild := { rb1 with cmds := rb1.cmds.filter (fun c => !c.2.1.isEmpty) }
        let s3 := fin.foldl (fun t c => t.done c.1 stOK 0 c.2.2)
          { s2 with tiers := { s2.tiers with rebuilds := s2.tiers.rebuilds.put (2 * h + g) rb2 } }
        if rb2.rows.isEmpty then
          (State.settleSystem { s3 with tiers := { s3.tiers with rebuilds := s3.tiers.rebuilds.del (2 * h + g) } } h g).raise 0x3003 0 h [h, g, rb2.done]
        else s3.markRow h g

/-! ## T2 shares (R82) -/

/-- Twice `b` in GF(2^8) under 0x11D. -/
def gfDouble (b : Byte) : Byte := if b.toNat < 128 then BitVec.ofNat 8 (2 * b.toNat) else BitVec.ofNat 8 (2 * b.toNat) ^^^ 0x1D#8

/-- g^d · `b` with g = 2. -/
def gfPow (d : Nat) (b : Byte) : Byte :=
  match d with
  | 0 => b
  | n + 1 => gfDouble (gfPow n b)

/-- The bytes of the object `kind` as stored in T2 (R69): those of its page, table blocks or granule, encrypted, or as the borrower sent them. -/
def State.t2Bytes (s : State) (kind : ObjKind) : List Byte :=
  match kind with
  | .page pid =>
    (match s.pages.pages.get? pid with
     | some p => storedBytes p.part (if hdTier p.next = 2 then p.next else p.low) (s.pageObject p)
     | none => [])
  | .tables i => storedBytes (s.ent i).part (if hdTier (s.tableOf i).next = 2 then (s.tableOf i).next else (s.tableOf i).low) (s.tableBytes i)
  | .granule g =>
    (match s.gran g with
     | some x => storedBytes (granPart g) (match x.mv with
        | some m => if m.tier = 2 then 2 * 2 ^ 45 + m.loc else x.handle
        | none => x.handle) (s.granBytes g)
     | none => [])
  | .pool b e k => ((s.tiers.lent.get? (128 * b + e)).map (fun l => (l.data.filter (fun x => decide (k ≤ x.1))).flatMap (·.2))).getD []

/-- The bytes of unit `u` (of the device) of a T2 stripe of half `h`: the piece of the object there, zeros where there is none. -/
def State.t2Unit (s : State) (h u : Nat) : List Byte :=
  let t := s.tiers.t2.get h
  let objs := t.buf ++ t.stripes.flatMap (fun x => x.2.objs)
  match objs.find? (fun o => decide (o.unit ≤ u % (448 * t2Stripes)) && decide (u % (448 * t2Stripes) < o.unit + o.kib)) with
  | none => List.replicate 1024 0#8
  | some o =>
    let first := (objs.filter (fun x => x.kind == o.kind)).foldl (fun n x => min n x.unit) o.unit
    fitBytes 1024 ((s.t2Bytes o.kind).drop (1024 * (u % (448 * t2Stripes) - first)))

/-- Data share `d` of stripe `n` of the device: its 32 units. -/
def State.t2Data (s : State) (n d : Nat) : List Byte := (List.range 32).flatMap (fun i => s.t2Unit (n / t2Stripes) (448 * n + 32 * d + i))

/-- Where data share `d`, the P share and the Q share of stripe `n` lie (R82). -/
def dataStack (n d : Nat) : Nat := (n + 2 + d) % 16
/-- The stack of the P share. -/
def pStack (n : Nat) : Nat := n % 16
/-- The stack of the Q share. -/
def qStack (n : Nat) : Nat := (n + 1) % 16

/-- The share of stripe `n` on Flopiry stack `f`: P is the exclusive-or of the data shares, Q that of g^d times share `d` (R82). -/
def State.t2Share (s : State) (n f : Nat) : List Byte :=
  let zeros := List.replicate 32768 (0#8 : Byte)
  if f = pStack n then (List.range 14).foldl (fun a d => xorBytes a (s.t2Data n d)) zeros
  else if f = qStack n then (List.range 14).foldl (fun a d => xorBytes a ((s.t2Data n d).map (gfPow d))) zeros
  else s.t2Data n ((f + 30 - n % 16) % 16)

/-! ## Seals and scrubs -/

/-- SEAL_DONE (R60). The lower object of a page whose release was held is none: a page in SEALING is in T1 alone. -/
def execSealDone (pid : Nat) (s : State) : Host.Outcome State Fault Refusal := .next ((s.sealPage pid (fun _ t _ => t)).demosGo)

/-- SCRUB_DONE (R67): granules that wait for a place in T1 look again (R103). -/
def execScrubDone (half stack : Nat) (s : State) : Host.Outcome State Fault Refusal :=
  if half < 2 ∧ stack < 16 then
    .next ((s.tiers.grans.map (·.1)).foldl (fun t g => t.pushUp g) (s.scrubDone (16 * half + stack)))
  else .fault (.noSuchUnit "stack" stack)

end Sys2Proof.Machine
end

