-- ==== Sys2Proof/Machine/Tables.lean ====
section
/-!
DEFINITION. Where embedding tables (Table 10-6) and vector indexes (R235) lie in the device address space, and the
granules they and the CXL windows protect (R219, R236, R350).
-/

namespace Sys2Proof.Machine

/-! ## Embedding tables -/

/-- Subindex `sub` of embedding table `t`. -/
def State.embF (s : State) (t sub : Nat) : Nat := s.dval (0x5240 + t) sub

/-- The bytes of a row (Table 10-1). -/
def embRowBytes (fmt d : Nat) : Nat :=
  if fmt = 0 then 4 * d else if fmt ≤ 2 then 2 * d else if fmt ≤ 4 then 8 + d else 8 + d / 2

/-- The stride of table `t` (R215). -/
def State.embStride (s : State) (t : Nat) : Nat := cdiv (embRowBytes (s.embF t 5) (s.embF t 4)) 64 * 64

/-- The bytes of the tail region of table `t`. -/
def State.embTail (s : State) (t : Nat) : Nat := s.embF t 3 * s.embStride t

/-- The bytes of the hot region of table `t`. -/
def State.embHot (s : State) (t : Nat) : Nat := s.embF t 8 * s.embStride t

/-- Is embedding table `t` loaded? -/
def State.embLoaded (s : State) (t : Nat) : Bool := s.emb.tabs.has t

/-- Is table `t` written by ADD and SET (WR)? -/
def State.embWr (s : State) (t : Nat) : Bool := bitN (s.embF t 0xA) 0

/-- Does table `t` serve its lane's prompt rows (INPUT)? -/
def State.embInput (s : State) (t : Nat) : Bool := bitN (s.embF t 0xA) 1

/-! ## Vector indexes -/

/-- Subindex `sub` of index `i`. -/
def State.vecF (s : State) (i sub : Nat) : Nat := s.dval (0x5340 + i) sub

/-- The bytes of an element of a vector format (Table 11-1). -/
def vecElem (vfmt : Nat) : Nat := if vfmt = 0 then 4 else if vfmt = 3 then 1 else 2

/-- The bytes of an item record: rstride (R235), 32 + d × ve as a whole rounded up to a multiple of 64 (DEDUCED log 73). -/
def vecRec (d vfmt : Nat) : Nat := cdiv (32 + d * vecElem vfmt) 64 * 64

/-- The offset of the centroids: cbase (R235). -/
def vecCent (nlist : Nat) : Nat := 64 + cdiv (16 * nlist) 64 * 64

/-- The bytes of the region of index `i` (R235). -/
def State.vecBytes (s : State) (i : Nat) : Nat :=
  let n := s.vecF i 6
  vecCent n + 4 * s.vecF i 5 * n + n * s.vecF i 7 * vecRec (s.vecF i 5) (s.vecF i 4)

/-! ## Granules -/

/-- Does granule `g` hold one of the `n` bytes at `addr`? -/
def inSpan (g addr n : Nat) : Bool := decide (0 < n) && decide (granOf addr ≤ g) && decide (g ≤ granOf (addr + n - 1))

/-- Is granule `g` one of the tail or hot region of a loaded embedding table? -/
def State.inTable (s : State) (g : Nat) : Bool :=
  s.emb.tabs.any (fun t => inSpan g (s.embF t.1 2) (s.embTail t.1) || inSpan g (s.embF t.1 9) (s.embHot t.1))

/-- Must granule `g` stay PIN: a hot region, the tail of a WR table, or the region of a loaded index (R219, R236)? -/
def State.keepsPin (s : State) (g : Nat) : Bool :=
  s.emb.tabs.any (fun t => (s.embWr t.1 && inSpan g (s.embF t.1 2) (s.embTail t.1)) || inSpan g (s.embF t.1 9) (s.embHot t.1))
    || s.vec.idx.any (fun i => inSpan g (s.vecF i.1 2) (s.vecBytes i.1))

/-- Does a window or a shared region cover granule `g` (ch 16)? -/
def State.windowed (s : State) (g : Nat) : Bool :=
  s.host.ports.any (fun p => p.2.windows.any (fun w => !w.2.reg && decide (w.2.gran ≤ g) && decide (g < w.2.gran + w.2.count)))
    || s.host.regions.any (fun r => decide (r.2.gran ≤ g) && decide (g < r.2.gran + r.2.count))

/-- Does a MAP or UNMAP of granule `g` complete DENIED: it is covered by a window or region, or the command would clear
its PIN? `pin` is the PIN flag of a MAP. -/
def State.mapDenied (s : State) (g : Nat) (pin : Bool) : Bool := s.windowed g || (!pin && s.keepsPin g)

/-- Does a PLACE of granule `g` to tier `t` complete DENIED (R219, R236)? -/
def State.placeDenied (s : State) (g t : Nat) (pin : Bool) : Bool :=
  s.mapDenied g pin ||
    ((t == 2 || t == 4) && (s.keepsPin g || (s.inTable g && ((s.gran g).map (·.pin)).getD false)))

end Sys2Proof.Machine
end

