-- ==== Sys2Proof/Machine/Tracker.lean ====
section
/-!
DEFINITION. The coherence tracker (R348): the lines a port's host holds, the snoops that recall them, and the device's own
accesses to them.
-/

namespace Sys2Proof.Machine

/-- A port that is down, with no lease and no window. -/
def Port.blank : Port :=
  { link := 0, lanes := 0, rate := 0, perst := false, lease := false, leaseEnd := 0, ide := 0, lines := [], windows := [] }

/-- Port `p` (Table 16-8). -/
def State.port (s : State) (p : Nat) : Port := s.host.ports.getD p Port.blank

/-- `s` with port `p` changed by `f`. -/
def State.updPort (s : State) (p : Nat) (f : Port → Port) : State :=
  { s with host := { s.host with ports := s.host.ports.put p (f (s.port p)) } }

/-- The ports but `skip` whose hosts hold line `l` against an access: with ownership, or at all against a write. -/
def State.holders (s : State) (skip l : Nat) (write : Bool) : List Nat :=
  (List.range 4).filter (fun p => p != skip && (s.port p).lines.any (fun x => x.addr == l && (write || x.owned)))

/-- Line `l` recalled from port `p` by a snoop, counted; one already out is not sent again, and one to a link that is down
is held (R345). -/
def State.snoopLine (s : State) (l p : Nat) : State :=
  if (s.port p).link ≠ 2 ∨ !(s.port p).lines.any (fun x => x.addr == l && !x.snooped) then s
  else
    ((s.updPort p (fun q => { q with lines := q.lines.map (fun x => if x.addr = l then { x with snooped := true } else x) })).count
      0x8110 6 1).emit (.snoop p l)

/-- The device writes `b` at `addr`: the lines of it that hosts hold are recalled. -/
def State.devWrite (s : State) (addr : Nat) (b : List Byte) : State :=
  let s1 := (List.range 4).foldl (fun u p =>
    ((u.port p).lines.filter (fun x => decide (addr / 64 ≤ x.addr) && decide (64 * x.addr < addr + b.length))).foldl
      (fun v x => v.snoopLine x.addr p) u) s
  s1.memWrite addr b

/-- An ATOMIC of partition `p` applied to a granule in T1, and its completion (R103, R259). -/
def State.atomicNow (s : State) (c : Cmd) (p addr op v : Nat) : State :=
  let bad := s.poisoned addr (atomicWidth op)
  let s1 := s.atomicAdd addr op v
  (if bad then s1.tastePoison c p 0 else s1).done c (if bad then stPOISONED else stOK) 0 0

/-- The same once no host holds the line: until then it waits (R345). -/
def State.atomicLine (s : State) (c : Cmd) (p addr op v : Nat) : State :=
  let hs := s.holders 4 (addr / 64) true
  if hs.isEmpty then s.atomicNow c p addr op v
  else
    let w : AtomWait := { cmd := c, part := p, addr, op, v }
    let s1 := hs.foldl (fun u q => u.snoopLine (addr / 64) q) s
    { s1 with host := { s1.host with atoms := s1.host.atoms ++ [w] } }

/-- The ATOMICs that wait for lines are tried again, in order. -/
def State.atomsAgain (s : State) : State :=
  s.host.atoms.foldl (fun u w => u.atomicLine w.cmd w.part w.addr w.op w.v) { s with host := { s.host with atoms := [] } }

end Sys2Proof.Machine
end

