-- ==== Sys2Proof/Machine/TierCmds.lean ====
section
/-!
DEFINITION. The tier commands (Tables 4-9, 4-10), the events of the tiers and of the Lysing and Flopiry stacks (ch 4), and
the POOL messages (Table 14-9).
-/

namespace Sys2Proof.Machine

/-! ## Extents -/

/-- EXTENT_ADD (R101, R104). -/
def State.extentAdd (s : State) (c : Cmd) (p : Nat) (d : Desc) : State :=
  let addr := dFld d 191 128
  let len := dFld d 223 192
  let id := dFld d 230 224
  let key := 128 * p + id
  if addr % 2 ^ 21 ≠ 0 ∨ len = 0 ∨ 131072 < len then s.refuse c stBAD dRANGE
  else
    match s.tiers.extents.get? key with
    | some x =>
      if !dFlag d 24 then s.refuse c stBAD dBUSY
      else if x.len ≠ len then s.refuse c stBAD dRANGE
      else
        (({ s with tiers := { s.tiers with extents := s.tiers.extents.put key { x with fn := c.fn, addr, leased := true } } }).unlatch
          0x300A (3 * 2 ^ 20 + p * 2 ^ 13 + id)).done c stOK 0 id
    | none =>
      if dFlag d 24 then s.refuse c stBAD dRANGE
      else
        ({ s with tiers := { s.tiers with extents := s.tiers.extents.put key { fn := c.fn, addr, len, leased := true, allocs := [] } } }).done
          c stOK 0 id

/-- EXTENT_ADD. -/
def execExtentAdd (fn sq : Nat) (d : Desc) (s : State) : Host.Outcome State Fault Refusal :=
  .next (s.take 0x20 fn sq d false (fun c p => s.extentAdd c p d))

/-- Is handle `x` in extent `id`? -/
def inExtent (x id : Nat) : Bool := hdTier x == 3 && bitsN (hdLoc x) 44 38 == id

/-- The codes under which a waiting command lists pages. -/
def pageCode (pid : Nat) : Nat := 2 ^ 60 + pid

/-- The code under which a waiting command lists the table blocks of session `i`. -/
def tablesCode (i : Nat) : Nat := 2 ^ 61 + i

/-- Objects of an extent moved one by one (R101), `put` writing one or finding no room: the state, and whether all had room. -/
def moveEach {α : Type} (put : State → α → State × Bool) : List α → State → State × Bool
  | [], s => (s, true)
  | a :: l, s =>
    let r := put s a
    if r.2 then moveEach put l r.1 else (r.1, false)

/-- EXTENT_REMOVE with EVACUATE (R101): each object moves to the first usable tier of R94 and the command completes when none is left. When
one finds no room the command completes NO_SPACE with event 0x3009, what was being written is given up, and the extent stays. -/
def State.evacuate (s : State) (c : Cmd) (p id : Nat) : State :=
  let key := 128 * p + id
  let pgs := (s.pages.pages.filter (fun kp => kp.2.part == p && inExtent kp.2.low id)).map (·.1)
  let grs := (s.tiers.grans.filter (fun g => granPart g.1 == p && inExtent g.2.handle id)).map (·.1)
  let tbs := (s.pages.tables.filter (fun t => (s.ent t.1).part == p && inExtent t.2.low id)).map (·.1)
  let r1 := moveEach (fun u i =>
    match u.policyTier (u.ent i).shalf p (u.tableOf i).blocks.length key [] with
    | none => (u, false)
    | some t => u.putTables i t key) tbs s
  let r2 := if !r1.2 then r1 else moveEach (fun u pid =>
    match u.pages.pages.get? pid with
    | none => (u, true)
    | some g =>
      match u.policyTier g.half p g.clen key [] with
      | none => (u, false)
      | some t => let x := u.putPage 0 pid t key; (x.1, x.2 == 0)) pgs r1.1
  let r3 := if !r2.2 then r2 else moveEach (fun u g =>
    match u.policyTier (g % 2) p 2050 key [] with
    | none => (u, false)
    | some t => u.startGranMove g t key true) grs r2.1
  if !r3.2 then
    let s1 := pgs.foldl (fun u pid => u.dropNext pid false) (tbs.foldl (fun u i => u.dropNextTables i) r3.1)
    (s1.raise 0x3009 p 0 [0, p]).refuse c stNOSPACE 0
  else
    let left := tbs.map tablesCode ++ pgs.map pageCode ++ grs
    if left.isEmpty then ({ r3.1 with tiers := { r3.1.tiers with extents := r3.1.tiers.extents.del key } }).done c stOK 0 0
    else { r3.1 with tiers := { r3.1.tiers with gcmds := r3.1.tiers.gcmds ++ [{ cmd := c, kind := 0x21, left, done := 0, arg := key, short := false }] } }

/-- The object of page `pid`, or with 0 of the table blocks of session `i`, that an evacuation writes is durable: it takes the place of the
one in the extent. A page that came up to T1 meanwhile has no object left there. -/
def State.evacDurable (s : State) (i pid : Nat) : State :=
  let code := if pid = 0 then tablesCode i else pageCode pid
  if pid = 0 then
    let x := (s.tableOf i).next
    if x = 0 ∨ !s.durable x (.tables i) then s
    else if (s.tableOf i).inT1 then (s.dropNextTables i).granDone code false
    else (s.tablesLowered i).granDone code false
  else
    match s.pages.pages.get? pid with
    | none => s.granDone code false
    | some p =>
      if p.next = 0 ∨ !s.durable p.next (.page pid) then s
      else if !p.inT1 then (s.pageLowered pid).granDone code false
      else if p.low = 0 then (s.dropNext pid false).granDone code false
      else ((s.dropLow p.part p.low (.page pid)).updPage pid (fun q => { q with low := p.next, next := 0 })).granDone code false

/-- Objects that an evacuation waits for and that are no longer there, or no longer in the extent, are done with. -/
def State.evacTidy (s : State) : State :=
  s.tiers.gcmds.foldl (fun t c =>
    if c.kind ≠ 0x21 then t
    else c.left.foldl (fun u x =>
      if 2 ^ 61 ≤ x then (if inExtent (u.tableOf (x - 2 ^ 61)).low (c.arg % 128) then u else (u.dropNextTables (x - 2 ^ 61)).granDone x false)
      else if 2 ^ 60 ≤ x then
        (if ((u.pages.pages.get? (x - 2 ^ 60)).map (fun p => inExtent p.low (c.arg % 128))).getD false then u
         else (u.dropNext (x - 2 ^ 60) false).granDone x false)
      else u) t) s

/-- EXTENT_REMOVE (R101). -/
def State.extentRemove (s : State) (c : Cmd) (p : Nat) (d : Desc) : State :=
  let id := dFld d 134 128
  let key := 128 * p + id
  match s.tiers.extents.get? key with
  | none => s.refuse c stBAD dRANGE
  | some x =>
    if x.allocs.isEmpty then
      ({ s with tiers := { s.tiers with extents := s.tiers.extents.del key } }).done c stOK 0 0
    else if !dFlag d 24 then s.refuse c stBAD dBUSY
    else if !x.leased then (s.lapseEvent p 0 (3 * 2 ^ 45 + id * 2 ^ 38)).refuse c stLEASE 0
    else s.evacuate c p id

/-- EXTENT_REMOVE. -/
def execExtentRemove (fn sq : Nat) (d : Desc) (s : State) : Host.Outcome State Fault Refusal :=
  .next (s.take 0x21 fn sq d false (fun c p => s.extentRemove c p d))

/-! ## Granules -/

/-- The granules a MAP, UNMAP or PLACE names. -/
def granList (d : Desc) : List Nat := (List.range (dFld d 223 192)).map (· + granOf (dFld d 183 128))

/-- Are the fields of a MAP, UNMAP or PLACE in range (R104)? -/
def granFields (d : Desc) (tier : Bool) : Bool :=
  dFld d 148 128 == 0 && decide (0 < dFld d 223 192) && (!tier || decide (dFld d 226 224 ≤ 4))

/-- The tier a MAP takes for one granule when the policy chooses: T1 while it has a place above the low mark, then the order
of R94. -/
def State.mapTier (s : State) (g t : Nat) : List Nat :=
  if t ≠ 0 then [t]
  else (if halfKib * s.dval 0x3000 3 / 256 < s.freeT1 (granHome g).1 then [1] else []) ++
    (s.tierOrder.filter (fun k => s.hasRoom (g % 2) (granPart g) k 2050 2000000 && (k != 2 || s.withinBudget)))

/-- One granule mapped with zeros; none when no tier has a place for it. -/
def State.mapOne (s : State) (g t : Nat) (pin : Bool) : Option State :=
  (s.mapTier g t).findSome? (fun k =>
    let r := s.placeGran g k 2000000
    if r.2 = 0 then none
    else some { r.1 with tiers := { r.1.tiers with
      grans := r.1.tiers.grans.put g { tier := k, pin, loc := hdLoc r.2, mv := none, adds := [], accSec := 0, acc := 0, lastAcc := s.nowMs (g % 2) }
      mem := r.1.tiers.mem.clear (g * 2097152) 2097152
      poison := r.1.tiers.poison.filter (fun b => b / 512 != g) } })

/-- Granules mapped one by one until one has no place: the state, how many were mapped, and whether all were. -/
def State.mapAll (s : State) (t : Nat) (pin : Bool) : List Nat → Nat → State × Nat × Bool
  | [], n => (s, n, true)
  | g :: r, n =>
    match s.mapOne g t pin with
    | none => (s, n, false)
    | some s1 => State.mapAll s1 t pin r (n + 1)

/-- A tier command over granules ends: the anchors are rewritten (R429) and it completes. -/
def State.granEnd (s : State) (c : Cmd) (n : Nat) (all : Bool) : State :=
  s.reanchor.done c (if all then stOK else stNOSPACE) 0 n

/-- MAP (R104). A granule already mapped refuses the command (log 32). -/
def State.mapCmd (s : State) (c : Cmd) (p : Nat) (d : Desc) : State :=
  let gs := granList d
  if !granFields d true then s.refuse c stBAD dRANGE
  else if gs.any (fun g => !s.partOn (granPart g) || (p != 0 && granPart g != p)) then s.refuseX c stDENIED 0
  else if gs.any (fun g => decide (2 ^ 35 ≤ g)) then s.refuse c stBAD dRANGE
  else if gs.any (fun g => s.mapDenied g (dFlag d 24)) then s.refuse c stDENIED 0
  else if gs.any (fun g => (s.gran g).isSome) then s.refuse c stBAD dBUSY
  else
    let r := s.mapAll (dFld d 226 224) (dFlag d 24) gs 0
    r.1.granEnd c r.2.1 r.2.2

/-- MAP. -/
def execMap (fn sq : Nat) (d : Desc) (s : State) : Host.Outcome State Fault Refusal :=
  .next (s.take 0x22 fn sq d false (fun c p => s.mapCmd c p d))

/-- One granule unmapped: its place and that of a move in progress are released, and what waits on it is told. -/
def State.unmapOne (s : State) (g : Nat) : State :=
  match s.gran g with
  | none => s
  | some x =>
    let s1 := (s.negCopy (granObj g) (g % 2) 2097152).dropGran g x.handle
    let s2 := match x.mv with
      | some m => s1.dropGran g (m.tier * 2 ^ 45 + m.loc)
      | none => s1
    (({ s2 with tiers := { s2.tiers with
      grans := s2.tiers.grans.del g
      mem := s2.tiers.mem.clear (g * 2097152) 2097152
      poison := s2.tiers.poison.filter (fun b => b / 512 != g) } }).granDone g false).granDone g true

/-- UNMAP (R104). -/
def State.unmapCmd (s : State) (c : Cmd) (p : Nat) (d : Desc) : State :=
  if !granFields d false then s.refuse c stBAD dRANGE
  else s.withAddr c p (dFld d 183 128) (dFld d 223 192 * 2097152)
    (if (granList d).any (fun g => s.mapDenied g false) then s.refuse c stDENIED 0
     else ((granList d).foldl (fun t g => t.unmapOne g) s).granEnd c (dFld d 223 192) true)

/-- UNMAP. -/
def execUnmap (fn sq : Nat) (d : Desc) (s : State) : Host.Outcome State Fault Refusal :=
  .next (s.take 0x23 fn sq d false (fun c p => s.unmapCmd c p d))

/-- Moves of the granules started until one has no place: the state, the granules on their way, and whether all started. -/
def State.moveAll (s : State) (t : Nat) : List Nat → List Nat → State × List Nat × Bool
  | [], l => (s, l, true)
  | g :: r, l =>
    if ((s.gran g).map (·.tier)).getD 0 = t then State.moveAll s t r l
    else
      let m := s.startGranMove g t 2000000 true
      if m.2 then State.moveAll m.1 t r (l ++ [g]) else (m.1, l, false)

/-- PLACE of granules `gs` in tier `t`: PIN set or cleared, and the granules moved; tier 0 leaves them to the policy. When one finds no
space, the command ends NO_SPACE once those on their way are done, which aux counts (R104). -/
def State.placeAll (s : State) (c : Cmd) (t : Nat) (pin : Bool) (gs : List Nat) : State :=
  if gs.any (fun g => s.placeDenied g t pin) then s.refuse c stDENIED 0
  else
    match gs.find? (fun g => match s.gran g with
      | some x => s.lapsed (granPart g) x.handle
      | none => false) with
    | some g => (s.lapseEvent (granPart g) 0 (((s.gran g).map Granule.handle).getD 0)).refuse c stLEASE 0
    | none =>
      let s1 := gs.foldl (fun u g => u.updGran g (fun x => { x with pin })) s
      if t = 0 then s1.granEnd c 0 true
      else
        let r := s1.moveAll t gs []
        if r.2.1.isEmpty then r.1.granEnd c 0 r.2.2
        else { r.1 with tiers := { r.1.tiers with
          gcmds := r.1.tiers.gcmds ++ [{ cmd := c, kind := 0x24, left := r.2.1, done := 0, arg := 0, short := !r.2.2 }] } }

/-- PLACE (R104). -/
def State.placeCmd (s : State) (c : Cmd) (p : Nat) (d : Desc) : State :=
  if !granFields d true then s.refuse c stBAD dRANGE
  else s.withAddr c p (dFld d 183 128) (dFld d 223 192 * 2097152) (s.placeAll c (dFld d 226 224) (dFlag d 24) (granList d))

/-- PLACE. -/
def execPlace (fn sq : Nat) (d : Desc) (s : State) : Host.Outcome State Fault Refusal :=
  .next (s.take 0x24 fn sq d false (fun c p => s.placeCmd c p d))

/-- GRANULE_PIECE_MOVED (R100). -/
def execGranulePieceMoved (g : Nat) (s : State) : Host.Outcome State Fault Refusal := .next (s.pieceMoved g)

/-- The sum of an ATOMIC on granule `g` (R103): applied at once in T1; held over a move, over the loss of its stack until the rebuild (R99),
and for one outside T1 until its promotion. -/
def State.atomicAt (s : State) (c : Cmd) (p g addr op v : Nat) : State :=
  match s.gran g with
  | none => s
  | some x =>
    if s.lapsed (granPart g) x.handle then (s.lapseEvent (granPart g) 0 x.handle).refuse c stLEASE 0
    else if x.tier = 1 ∧ x.mv.isNone ∧ !s.stackLost x.handle then s.atomicLine c p addr op v
    else
      let s1 := s.updGran g (fun y => { y with adds := y.adds ++ [(addr, op, v)] })
      State.pushUp { s1 with tiers := { s1.tiers with
        gcmds := s1.tiers.gcmds ++ [{ cmd := c, kind := 0x26, left := [g], done := 0, arg := addr, short := false }] } } g

/-- ATOMIC (R103). -/
def State.atomicCmd (s : State) (c : Cmd) (p : Nat) (d : Desc) : State :=
  let addr := dFld d 183 128
  let op := dFld d 258 256
  let w := atomicWidth op
  if 3 < op ∨ addr % w ≠ 0 then s.refuse c stBAD dRANGE
  else s.withAddr c p addr w ((s.access addr w).atomicAt c p (granOf addr) addr op (dFld d 255 192))

/-- ATOMIC. -/
def execAtomic (fn sq : Nat) (d : Desc) (s : State) : Host.Outcome State Fault Refusal :=
  .next (s.take 0x26 fn sq d false (fun c p => s.atomicCmd c p d))

/-! ## Lysing stacks -/

/-- STACK_LOST (R76). -/
def execStackLost (half stack : Nat) (s : State) : Host.Outcome State Fault Refusal :=
  if half < 2 ∧ stack < 16 then .next (s.loseStack half stack) else .fault (.noSuchUnit "stack" stack)

/-- LYSING_ACCESS_TIMEOUT (R76): the third successive failed attempt loses the stack. -/
def execLysingAccessTimeout (half stack : Nat) (s : State) : Host.Outcome State Fault Refusal :=
  if half < 2 ∧ stack < 16 then
    .next (if 2 ≤ (s.lys (16 * half + stack)).tries then s.loseStack half stack
      else s.updLys (16 * half + stack) (fun x => { x with tries := x.tries + 1 }))
  else .fault (.noSuchUnit "stack" stack)

/-- STACK_ANSWERS_AGAIN (R76, Table 4-3): counted; the stack stays out until excluded and admitted. -/
def execStackAnswersAgain (half stack : Nat) (s : State) : Host.Outcome State Fault Refusal :=
  if half < 2 ∧ stack < 16 then
    .next (s.updLys (16 * half + stack) (fun x =>
      { x with answers := true, tries := 0, fails := if x.cond = 1 then x.fails + 1 else x.fails }))
  else .fault (.noSuchUnit "stack" stack)

/-- REBUILD_ROW_DONE (R78). -/
def execRebuildRowDone (half group row : Nat) (s : State) : Host.Outcome State Fault Refusal :=
  .next (s.rebuildRow (half % 2) (group % 2) row)

/-- REBUILD (R78, R104): from partition 0, it names rows to rebuild; a row with nothing to rebuild counts none. -/
def State.rebuildCmd (s : State) (c : Cmd) (p : Nat) (d : Desc) : State :=
  let h := dFld d 128 128
  let g := dFld d 129 129
  let a := dFld d 139 130
  let b := dFld d 149 140
  if a < 4 ∨ 767 < b ∨ b < a then s.refuse c stBAD dRANGE
  else if p ≠ 0 then s.refuseX c stDENIED 0
  else
    match s.tiers.rebuilds.get? (2 * h + g) with
    | none => s.done c stOK 0 0
    | some r =>
      let rows := r.rows.filter (fun x => decide (a ≤ x) && decide (x ≤ b))
      if rows.isEmpty then s.done c stOK 0 0
      else { s with tiers := { s.tiers with rebuilds := s.tiers.rebuilds.put (2 * h + g) { r with cmds := r.cmds ++ [(c, rows, 0)] } } }

/-- REBUILD. -/
def execRebuild (fn sq : Nat) (d : Desc) (s : State) : Host.Outcome State Fault Refusal :=
  .next (s.take 0x25 fn sq d false (fun c p => s.rebuildCmd c p d))

/-! ## T2 and Flopiry stacks -/

/-- T2_BUFFER_WRITE (R83). -/
def execT2BufferWrite (half : Nat) (s : State) : Host.Outcome State Fault Refusal := .next (s.t2Write (half % 2))

/-- T2_SHARE_ACK (R84): the share of stack `stack` of a stripe is acknowledged. An object is durable once all 16 shares of every stripe that
holds it are (State.t2Durable). A share of the other half does not come while the bridge is down (R24). -/
def State.shareAck (s : State) (stripe stack : Nat) : State :=
  let h := stripe / t2Stripes
  let t := s.tiers.t2.get h
  let n := stripe % t2Stripes
  match t.stripes.get? n with
  | none => s
  | some x =>
    if s.boot.bridge ∧ stack % 16 / 8 ≠ h % 2 then s
    else s.setT2 h { t with stripes := t.stripes.put n { x with acked := insSorted (stack % 16) x.acked } }

/-- T2_SHARE_ACK. -/
def execT2ShareAck (stripe stack : Nat) (s : State) : Host.Outcome State Fault Refusal := .next (s.shareAck stripe stack)

/-- The objects of a stripe, each once. -/
def Stripe.kinds (x : Stripe) : List ObjKind := x.objs.foldl (fun l o => if l.contains o.kind then l else l ++ [o.kind]) []

/-- The KiB that an object takes in a half's T2. -/
def T2Half.kibOf (t : T2Half) (k : ObjKind) : Nat :=
  ((t.buf ++ t.stripes.flatMap (fun x => x.2.objs)).filter (fun o => o.kind == k)).foldl (fun n o => n + o.kib) 0

/-- The handle kept for an object that moved within T2 rewritten. -/
def State.rehome (s : State) (k : ObjKind) (x : Nat) : State :=
  match k with
  | .page pid => s.updPage pid (fun p => if hdTier p.next = 2 then { p with next := x } else { p with low := x })
  | .tables i =>
    let t := s.tableOf i
    (s.setTable i (if hdTier t.next = 2 then { t with next := x } else { t with low := x })).setRoot i
  | .granule g => s.updGran g (fun y =>
      match y.mv with
      | some m => if m.tier = 2 then { y with mv := some { m with loc := hdLoc x } } else { y with loc := hdLoc x }
      | none => { y with loc := hdLoc x })
  | .pool _ _ _ => s

/-- An object rewritten into the open buffer (R85). -/
def State.t2Rewrite (s : State) (h : Nat) (k : ObjKind) : State :=
  let n := (s.tiers.t2.get h).kibOf k
  let r := (s.t2Drop h k).t2Put h n k
  if r.2 = 0 then s else r.1.rehome k r.2

/-- The written stripe with the fewest live units, the lowest number on a tie. -/
def T2Half.poorest (t : T2Half) : Option (Nat × Stripe) :=
  t.stripes.foldl (fun a x => match a with
    | none => some x
    | some y => if x.2.live < y.2.live then some x else some y) none

/-- T2_COMPACTION (R85): one stripe, from the time the free stripes are below the threshold until they pass twice it; event 0x300B where a
raised threshold put them below it. -/
def State.compact (s : State) (h : Nat) : State :=
  let low := decide (s.t2Free h < s.compactMark)
  if !low ∧ !(s.tiers.compact.get h && decide (s.t2Free h ≤ 2 * s.compactMark)) then s
  else
    let s0 : State := { s with tiers := { s.tiers with compact := s.tiers.compact.set h true } }
    let s1 := if low then s0.raiseOnce 0x300B h 0 h [h, s.t2Free h] else s0
    match (s1.tiers.t2.get h).poorest with
    | none => s1
    | some (_, x) =>
      let s2 := (x.kinds.foldl (fun t k => t.t2Rewrite h k) s1).count 0x8300 7 1
      if 2 * s2.compactMark < s2.t2Free h then
        State.unlatch { s2 with tiers := { s2.tiers with compact := s2.tiers.compact.set h false } } 0x300B h
      else s2

/-- T2_COMPACTION. -/
def execT2Compaction (half : Nat) (s : State) : Host.Outcome State Fault Refusal := .next (s.compact (half % 2))

/-- Flopiry stack `stack` is lost (R86). -/
def State.flashLost (s : State) (stack : Nat) : State :=
  if (s.flash stack).cond ≠ 0 then s
  else
    let x : Flash := { (s.flash stack) with cond := 1 }
    let s1 : State := { s with tiers := { s.tiers with flash := s.tiers.flash.put stack x } }
    s1.raise 0x3005 0 (stack / 8) [stack, ((List.range 16).filter (fun f => (s1.flash f).cond == 1)).length]

/-- WEAR_READ (R87). -/
def execWearRead (stack cycles : Nat) (s : State) : Host.Outcome State Fault Refusal :=
  if 16 ≤ stack then .fault (.noSuchUnit "flopiry" stack)
  else
    let x := s.flash stack
    let at80 := decide (2400 ≤ cycles)
    let at100 := decide (3000 ≤ cycles)
    let y : Flash := { x with cycles, worn80 := x.worn80 || at80, worn100 := x.worn100 || at100 }
    let s1 := { s with tiers := { s.tiers with flash := s.tiers.flash.put stack y } }
    let s2 := if at80 && !x.worn80 then s1.raise 0x3006 0 (stack / 8) [stack] else s1
    .next (if at100 && !x.worn100 then s2.raise 0x3007 0 (stack / 8) [stack] else s2)

/-! ## Demotion -/

/-- The IDLE sessions served by half `h`, longest idle first (R93). -/
def State.idleOn (s : State) (h : Nat) : List Nat :=
  let put := fun (l : List (Nat × Nat)) (x : Nat × Nat) =>
    l.takeWhile (fun y => decide (y.2 ≤ x.2)) ++ [x] ++ l.dropWhile (fun y => decide (y.2 ≤ x.2))
  ((s.sess.idle.filter (fun x => (s.ent x.1).state == .idle && (s.ent x.1).shalf == h && (s.ent x.1).owner == s.self)).foldl put []).map (·.1)

/-- A session that the policy demotes (R93, R94): to the first usable tier; with none it stays IDLE, event 0x3009. The
state, the KiB that will leave T1, and whether the event has been raised. -/
def State.policyDemote (s : State) (i : Nat) (pass told : Bool) : State × Nat × Bool :=
  let e := s.ent i
  let l := s.goingDown i 0 false
  match s.policyTier e.shalf e.part (s.objKib l + (s.tableOf i).blocks.length) 2000000 [] with
  | none => (if told then s else s.raise 0x3009 e.part e.shalf [e.shalf, e.part], 0, true)
  | some t => (s.startDemotion i t false pass [], s.heldKib l + 2 * (s.tableOf i).blocks.length, told)

/-- The T1 granules of half `h` that the policy may move, least recently accessed first. -/
def State.coldGrans (s : State) (h : Nat) : List Nat :=
  let put := fun (l : List (Nat × Nat)) (x : Nat × Nat) =>
    l.takeWhile (fun y => decide (y.2 ≤ x.2)) ++ [x] ++ l.dropWhile (fun y => decide (y.2 ≤ x.2))
  (((s.tiers.grans.filter (fun g => g.2.tier == 1 && !g.2.pin && g.2.mv.isNone && locHalf g.2.loc == h)).map
    (fun g => (g.1, g.2.lastAcc))).foldl put []).map (·.1)

/-- Sessions demoted until the projected free T1 passes the high mark `hi`: the state, the projection, whether 0x3009 was
raised. -/
def State.passSessions (s : State) (hi : Nat) : List Nat → Nat → Bool → State × Nat × Bool
  | [], n, told => (s, n, told)
  | i :: r, n, told =>
    if hi < n then (s, n, told)
    else
      let x := s.policyDemote i true told
      State.passSessions x.1 hi r (n + x.2.1) x.2.2

/-- Granules moved down until the projection passes the high mark; event 0x3009, once per pass, when no tier is usable for one. -/
def State.passGrans (s : State) (h hi : Nat) : List Nat → Nat → Bool → State
  | [], _, _ => s
  | g :: r, n, told =>
    if hi < n then s
    else
      match s.policyTier h (granPart g) 2050 2000000 [] with
      | none => State.passGrans (if told then s else s.raise 0x3009 (granPart g) h [h, granPart g]) h hi r n true
      | some t =>
        let m := s.startGranMove g t 2000000 false
        if m.2 then
          State.passGrans { m.1 with tiers := { m.1.tiers with
            pass := m.1.tiers.pass.upd h (fun p => { p with running := true, granules := p.granules ++ [g] }) } } h hi r (n + 2050) told
        else State.passGrans m.1 h hi r n told

/-- DEMOTION_PASS_START (R93): one pass per half, while its free T1 is below the low mark. -/
def State.passStart (s : State) (h : Nat) : State :=
  let hi := halfKib * s.dval 0x3000 4 / 256
  if (s.tiers.pass.get h).running ∨ halfKib * s.dval 0x3000 3 / 256 ≤ s.freeT1 h then s
  else
    let a := s.passSessions hi (s.idleOn h) (s.freeT1 h) false
    a.1.passGrans h hi (a.1.coldGrans h) a.2.1 a.2.2

/-- DEMOTION_PASS_START. -/
def execDemotionPassStart (half : Nat) (s : State) : Host.Outcome State Fault Refusal := .next (s.passStart (half % 2))

/-- IDLE_DEMOTION (R93): while 0x3000.05 is not 0. -/
def execIdleDemotion (idx : Nat) (s : State) : Host.Outcome State Fault Refusal :=
  .next (if s.dval 0x3000 5 = 0 ∨ (s.ent idx).state ≠ .idle ∨ (s.ent idx).owner ≠ s.self then s else (s.policyDemote idx false false).1)

/-- DEMOTION_PAGE_DURABLE (R84, R95): the object of page `pid`, or with 0 of the table blocks, of session `i`'s demotion or of an extent's
evacuation is durable or acknowledged. -/
def State.demotedPage (s : State) (i pid : Nat) : State :=
  if s.tiers.gcmds.any (fun c => c.left.contains (if pid = 0 then tablesCode i else pageCode pid)) then s.evacDurable i pid
  else s.demoDurable i pid

/-- DEMOTION_PAGE_DURABLE, at time `t`. -/
def execDemotionPageDurable (idx pid t : Nat) (s : State) : Host.Outcome State Fault Refusal := .next ((s.at t).demotedPage idx pid)

/-- The PARKED sessions of half `h` with a page in T2 and no demotion running, earliest expires first. -/
def State.inT2 (s : State) (h : Nat) : Option Nat :=
  (s.pages.tables.filter (fun t =>
    (s.ent t.1).state == .parked && (s.ent t.1).shalf == h && !s.tiers.demos.has t.1 &&
      t.2.layers.any (fun l => l.2.ents.any (fun pe => match (s.refPid pe.2).bind s.pages.pages.get? with
        | some p => hdTier p.low == 2 && !p.inT1
        | none => false)))).foldl (fun a t => match a with
    | none => some t.1
    | some j => if (s.ent t.1).expires < (s.ent j).expires then some t.1 else some j) none

/-- The tiers of the order after T2 (R94), or all of them when T2 is not in it: DEDUCED log 88. -/
def State.afterT2 (s : State) : List Nat :=
  if s.tierOrder.contains 2 then (s.tierOrder.dropWhile (fun t => t != 2)).filter (fun t => t != 2) else s.tierOrder

/-- T2_LOW_STRIPES_MOVE (R94): a PARKED session moves, table blocks and all, to the next usable tier, from the fall below 1/32 of the stripes
until they pass 1/16. Its TTL runs on. -/
def State.lowStripes (s : State) (h : Nat) : State :=
  let n := s.t2Free h
  let on := decide (n < t2Stripes / 32) || (s.ev.latch.has (latchKey 0x13000 h) && decide (n ≤ t2Stripes / 16))
  if !on then s.unlatch 0x13000 h
  else
    let s0 := { s with ev := { s.ev with latch := s.ev.latch.put (latchKey 0x13000 h) 1 } }
    match s0.inT2 h with
    | none => s0
    | some i =>
      let e := s0.ent i
      let l := (s0.goingDown i 0 true).filter (fun pid => ((s0.pages.pages.get? pid).map (fun p => hdTier p.low == 2 && !p.inT1)).getD false)
      let tabs := !(s0.tableOf i).inT1 && hdTier (s0.tableOf i).low == 2
      match s0.afterT2.find? (fun t => s0.hasRoom h e.part t (s0.objKib l + (s0.tableOf i).blocks.length) 2000000) with
      | none => s0
      | some t =>
        let d : Demotion := { tier := t, left := l, tabs, pass := false, parks := [] }
        State.demoPut { s0 with tiers := { s0.tiers with demos := s0.tiers.demos.put i d } } i

/-- T2_LOW_STRIPES_MOVE. -/
def execT2LowStripesMove (half : Nat) (s : State) : Host.Outcome State Fault Refusal := .next (s.lowStripes (half % 2))

/-! ## Pool messages -/

/-- A valid POOL header of operation `op` without or with data (R136 discards any other). -/
def poolOk (hdr : BitVec 256) (op : Nat) : Bool :=
  parOk hdr.toNat 4 3 0 && bits hdr 255 248 == op && zeroBits hdr 140 4 && decide (bits hdr 208 177 ≤ 2 ^ 32)
    && (op == 1 || op == 2 || decide (bits hdr 208 177 ≤ 16384))
    && (op == 2 || op == 6 || op == 7 || zeroBits hdr 176 173)
    && (op == 2 || op == 1 || op == 4 || op == 5 || op == 6 || zeroBits hdr 208 177)

/-- The answer to a POOL request. -/
def State.poolReply (s : State) (dst part op ext kib nkib st lease : Nat) (data : List Byte) : State :=
  s.sendMsg dst part 0x12 7 (leBytes 32 (poolHeader op ext kib nkib st lease) ++ data)

/-- The key of a pool extent lent to, or borrowed from, endpoint `e`. -/
def poolKey (e ext : Nat) : Nat := 128 * e + ext

/-- KiB lent in use (0x3040.03 in GiB). -/
def State.lentKib (s : State) : Nat := (s.tiers.lent.vals.map (·.kib)).foldl (· + ·) 0

/-- A grant that is live. -/
def State.liveGrant (s : State) (src part ext : Nat) : Option Lent :=
  match s.tiers.lent.get? (poolKey src ext) with
  | some g => if g.part = part ∧ s.nowMs 0 < g.leaseEnd then some g else none
  | none => none

/-- The objects of a lent extent released with it. -/
def State.freeLent (s : State) (src ext : Nat) : State :=
  let drop := fun (t : T2Half) => { t with
    buf := t.buf.filter (fun o => match o.kind with
      | .pool b e _ => !(b == src && e == ext)
      | _ => true)
    stripes := t.stripes.filterMap (fun (ks : Nat × Stripe) =>
      let objs := ks.2.objs.filter (fun o => match o.kind with
        | .pool b e _ => !(b == src && e == ext)
        | _ => true)
      if objs.isEmpty then none else some (ks.1, { ks.2 with objs, live := (objs.map (·.kib)).foldl (· + ·) 0 })) }
  { s with tiers := { s.tiers with lent := s.tiers.lent.del (poolKey src ext), t2 := s.tiers.t2.map drop } }

/-- POOL_GRANT_REQ (R102): granted within 0x3040.01 GiB; a grant already given is answered again. -/
def State.poolGrantReq (s : State) (src part : Nat) (hdr : BitVec 256) : State :=
  let ext := bits hdr 247 241
  let n := bits hdr 208 177
  if !poolOk hdr 1 then s.discard 0x12 0 src 0
  else
    match s.liveGrant src part ext with
    | some g => s.poolReply src part 2 ext 0 g.kib 0 (g.leaseEnd - s.nowMs 0) []
    | none =>
      if s.dval 0x3040 1 * 2 ^ 20 < s.lentKib + n ∨ n = 0 then s.poolReply src part 2 ext 0 n 1 0 []
      else
        let g : Lent := { borrower := src, part, kib := n, leaseEnd := s.nowMs 0 + s.dval 0x3040 2, data := [], bad := [] }
        ({ s with tiers := { s.tiers with lent := s.tiers.lent.put (poolKey src ext) g } }).poolReply src part 2 ext 0 n 0
          (s.dval 0x3040 2) []

/-- POOL_GRANT_REQ. -/
def execPoolGrantReq (src part : Nat) (hdr : BitVec 256) (s : State) : Host.Outcome State Fault Refusal :=
  .next (s.poolGrantReq src part hdr)

/-- POOL_RENEW (R102): answered with a GRANT that gives the lease. -/
def State.poolRenew (s : State) (src part : Nat) (hdr : BitVec 256) : State :=
  let ext := bits hdr 247 241
  if !poolOk hdr 3 then s.discard 0x12 0 src 0
  else
    match s.liveGrant src part ext with
    | none => s.poolReply src part 2 ext 0 0 2 0 []
    | some g =>
      ({ s with tiers := { s.tiers with lent := s.tiers.lent.put (poolKey src ext) { g with leaseEnd := s.nowMs 0 + s.dval 0x3040 2 } } }).poolReply
        src part 2 ext 0 g.kib 0 (s.dval 0x3040 2) []

/-- POOL_RENEW. -/
def execPoolRenew (src part : Nat) (hdr : BitVec 256) (s : State) : Host.Outcome State Fault Refusal :=
  .next (s.poolRenew src part hdr)

/-- The requests to `holder` about `ext` of the operations `ops` answered. -/
def State.poolAnswered (s : State) (holder ext : Nat) (ops : List Nat) (kib : Option Nat) : State :=
  { s with tiers := { s.tiers with poolReqs := s.tiers.poolReqs.filter (fun r =>
    !(r.holder == holder && r.ext == ext && ops.contains r.op && (kib.isNone || kib == some r.kib))) } }

/-- A borrowed extent lapses (R102): as an expired T3 lease. -/
def State.borrowLapse (s : State) (holder ext : Nat) : State :=
  match s.tiers.borrowed.get? (poolKey holder ext) with
  | none => s
  | some b =>
    let s1 := { s with tiers := { s.tiers with borrowed := s.tiers.borrowed.put (poolKey holder ext) { b with lapsed := true } } }
    if b.allocs.isEmpty then s1 else s1.lapseEvent b.part 0 (4 * 2 ^ 45 + holder % 64 * 2 ^ 39 + ext % 128 * 2 ^ 32)

/-- POOL_GRANT (R102, R429): an extent granted or its lease renewed; a refusal of a renewal lapses it. -/
def State.poolGrant (s : State) (src part : Nat) (hdr : BitVec 256) : State :=
  let ext := bits hdr 247 241
  if !poolOk hdr 2 then s.discard 0x12 0 src 0
  else
    let asked := s.tiers.poolReqs.any (fun r => r.holder == src && r.ext == ext && r.op == 1)
    let s1 := s.poolAnswered src ext [1, 3] none
    if bits hdr 176 173 ≠ 0 then (if asked then s1 else s1.borrowLapse src ext)
    else
      let old := s.tiers.borrowed.get? (poolKey src ext)
      let b : Borrowed := { part, holder := src, ext, kib := bits hdr 208 177, lapsed := false
                            leaseEnd := s.nowMs 0 + bits hdr 172 141, allocs := (old.map (·.allocs)).getD [] }
      if asked || old.isSome then
        ({ s1 with tiers := { s1.tiers with borrowed := s1.tiers.borrowed.put (poolKey src ext) b } }).unlatch 0x300A
          (4 * 2 ^ 20 + part * 2 ^ 13 + src * 128 + ext)
      else s1

/-- POOL_GRANT. -/
def execPoolGrant (src part : Nat) (hdr : BitVec 256) (s : State) : Host.Outcome State Fault Refusal :=
  .next (s.poolGrant src part hdr)

/-- A lent extent with the `n` KiB of `b` stored from KiB `k` on, poisoned or not. -/
def Lent.store (g : Lent) (k n : Nat) (b : List Byte) (poison : Bool) : Lent :=
  { g with
    data := (List.range n).foldl (fun t i => t.put (k + i) (slice b (1024 * i) 1024)) g.data
    bad := g.bad.filter (fun x => decide (x < k) || decide (k + n ≤ x)) ++ (if poison then (List.range n).map (· + k) else []) }

/-- Has T2 lost a stripe that holds one of the `n` KiB from `k` on of a lent extent (R86)? -/
def State.lentLost (s : State) (src ext k n : Nat) : Bool :=
  [0, 1].any (fun h =>
    let t := s.tiers.t2.get h
    let objs := t.buf ++ t.stripes.flatMap (fun x => x.2.objs)
    objs.any (fun o =>
      match o.kind with
      | .pool b e a =>
        let first := (objs.filter (fun x => x.kind == o.kind)).foldl (fun m x => min m x.unit) o.unit
        let lo := a + (o.unit - first)
        b == src && e == ext && decide (lo < k + n) && decide (k < lo + o.kib) && decide (3 ≤ s.sharesMissing (h * t2Stripes + o.unit / 448))
      | _ => false))

/-- POOL_WRITE (R102): stored as an opaque object of the lender's own T2, poison and all, and acknowledged. -/
def State.poolWrite (s : State) (src part : Nat) (hdr : BitVec 256) (data : List Byte) (poison : Bool) : State :=
  let ext := bits hdr 247 241
  let kib := bits hdr 240 209
  let n := bits hdr 208 177
  if !poolOk hdr 4 || data.length != 1024 * n then s.discard 0x12 0 src 0
  else
    match s.liveGrant src part ext with
    | none => s.poolReply src part 7 ext kib 0 2 0 []
    | some g =>
      if g.kib < kib + n ∨ n = 0 then s.poolReply src part 7 ext kib 0 3 0 []
      else
        let h := if s.t2Free 1 ≤ s.t2Free 0 then 0 else 1
        let r := ((s.t2Drop 0 (.pool src ext kib)).t2Drop 1 (.pool src ext kib)).t2Put h n (.pool src ext kib)
        if r.2 = 0 then s.poolReply src part 7 ext kib 0 1 0 []
        else
          ({ r.1 with tiers := { r.1.tiers with lent := r.1.tiers.lent.put (poolKey src ext) (g.store kib n data poison) } }).poolReply
            src part 7 ext kib 0 0 0 []

/-- POOL_WRITE: data that fails its check value is discarded, and the borrower sends it again. -/
def execPoolWrite (src part : Nat) (hdr : BitVec 256) (data : List Byte) (crc : Nat) (s : State) : Host.Outcome State Fault Refusal :=
  .next (if verify data crc = .failed then s.discard 0x12 0 src 0 else s.poolWrite src part hdr data (verify data crc == .poisoned))

/-- POOL_READ (R102): answered with the bytes stored, or POISONED where they carry poison or T2 has lost them (R86). -/
def State.poolRead (s : State) (src part : Nat) (hdr : BitVec 256) : State :=
  let ext := bits hdr 247 241
  let kib := bits hdr 240 209
  let n := bits hdr 208 177
  if !poolOk hdr 5 then s.discard 0x12 0 src 0
  else
    match s.liveGrant src part ext with
    | none => s.poolReply src part 6 ext kib 0 2 0 []
    | some g =>
      if g.kib < kib + n ∨ n = 0 then s.poolReply src part 6 ext kib 0 3 0 []
      else
        if s.lentLost src ext kib n ∨ g.bad.any (fun x => decide (kib ≤ x) && decide (x < kib + n)) then s.poolReply src part 6 ext kib 0 4 0 []
        else
          s.poolReply src part 6 ext kib n 0 0 (withCrc ((List.range n).flatMap (fun i =>
            (g.data.get? (kib + i)).getD (List.replicate 1024 0#8))) false)

/-- POOL_READ. -/
def execPoolRead (src part : Nat) (hdr : BitVec 256) (s : State) : Host.Outcome State Fault Refusal :=
  .next (s.poolRead src part hdr)

/-- POOL_DATA (R102): the read is answered; an expired lease lapses the extent. -/
def execPoolData (src _part : Nat) (hdr : BitVec 256) (data : List Byte) (crc : Nat) (s : State) :
    Host.Outcome State Fault Refusal :=
  .next (
    if !poolOk hdr 6 || (bits hdr 176 173 == 0 && (data.length != 1024 * bits hdr 208 177 || verify data crc == .failed)) then
      s.discard 0x12 0 src 0
    else
      let s1 := s.poolAnswered src (bits hdr 247 241) [5] (some (bits hdr 240 209))
      if bits hdr 176 173 = 2 then s1.borrowLapse src (bits hdr 247 241) else s1)

/-- POOL_ACK (R102): the write or the release is answered; an expired lease lapses the extent. -/
def execPoolAck (src _part : Nat) (hdr : BitVec 256) (s : State) : Host.Outcome State Fault Refusal :=
  .next (
    if !poolOk hdr 7 then s.discard 0x12 0 src 0
    else
      let ext := bits hdr 247 241
      let s1 := s.poolAnswered src ext [4, 8] (some (bits hdr 240 209))
      if bits hdr 176 173 = 2 then s1.borrowLapse src ext else s1)

/-- POOL_FREE (R102): the extent is released and acknowledged. -/
def execPoolFree (src part : Nat) (hdr : BitVec 256) (s : State) : Host.Outcome State Fault Refusal :=
  .next (
    if !poolOk hdr 8 then s.discard 0x12 0 src 0
    else
      let ext := bits hdr 247 241
      let own := ((s.tiers.lent.get? (poolKey src ext)).map (fun g => g.part == part)).getD true
      (if own then s.freeLent src ext else s).poolReply src part 7 ext (bits hdr 240 209) 0 0 0 [])

/-- POOL_RETRY_TIMER (Table 14-9): the request is sent again, or after 0x3040.02 ms its holder is unreachable. -/
def execPoolRetryTimer (seq : Nat) (late : Bool) (s : State) : Host.Outcome State Fault Refusal :=
  .next (
    match s.tiers.poolReqs.find? (fun r => r.seq == seq) with
    | none => s
    | some r =>
      if late then
        ({ s with tiers := { s.tiers with poolReqs := s.tiers.poolReqs.filter (fun x => x.seq != seq) } }).borrowLapse r.holder r.ext
      else
        s.sendMsg r.holder r.part 0x12 7 (leBytes 32 (poolHeader r.op r.ext r.kib r.len 0 0) ++
          r.data))

/-- POOL_LEASE_RENEWAL (R102): the borrower sends RENEW. -/
def execPoolLeaseRenewal (part holder ext : Nat) (s : State) : Host.Outcome State Fault Refusal :=
  .next (
    match s.tiers.borrowed.get? (poolKey holder ext) with
    | none => s
    | some b => if b.lapsed ∨ b.part ≠ part then s else s.poolAsk 3 part holder ext 0 0 none [])

end Sys2Proof.Machine
end

