-- ==== Sys2Proof/Machine/Slots.lean ====
section
/-!
DEFINITION. Open sessions, directory entries and stream slots against their quotas (ch 1 R20, ch 2 R35, R41, R49).
-/

namespace Sys2Proof.Machine

/-! ## Sessions and slots in use -/

/-- The least of the `k` numbers from `n` on that satisfies `p`. -/
def firstFrom (p : Nat → Bool) : Nat → Nat → Option Nat
  | 0, _ => none
  | k + 1, n => if p n then some n else firstFrom p k (n + 1)

/-- Sessions of partition `p` that are open (0x2040 + p.03). -/
def State.openCount (s : State) (p : Nat) : Nat :=
  (s.sess.dir.filter (fun e => e.2.part == p && e.2.state != .free && e.2.state != .closed)).length

/-- Directory entries of half `h` that are not FREE. -/
def State.entriesUsed (s : State) (h : Nat) : Nat :=
  (s.sess.dir.filter (fun e => idxHalf e.1 == h && e.2.state != .free)).length

/-- The lowest FREE index of half `h` (R35). -/
def State.freeIndex (s : State) (h : Nat) : Option Nat :=
  let base := 2097152 * h
  let i := s.sess.dir.firstFree (fun e => e.state != .free || e.retired) base
  if i < base + 2097152 then some i else none

/-- Is slot `k` kept for a session in MOVING: its request has ended (Table 2-2), or its half move took the slot (R126)? -/
def State.slotHeld (s : State) (k : Nat) : Bool :=
  s.sess.dir.any (fun e => e.2.state == .moving && e.2.sv && e.2.slot == k) || s.sess.held.any (fun x => x.2.contains k)
    || s.own.moves.any (fun m => m.2.slot == some k)

/-- Is stream slot `k` in use? -/
def State.slotBusy (s : State) (k : Nat) : Bool := s.sess.slots.has k || s.slotHeld k

/-- The lowest free slot of half `h` (R20, R41). -/
def State.freeSlot (s : State) (h : Nat) : Option Nat := firstFrom (fun k => !s.slotBusy k) 8192 (8192 * h)

/-- Slots of half `h` in use by partition `p` (0x2040 + p.04, .05). -/
def State.slotsIn (s : State) (p h : Nat) : Nat :=
  (s.sess.slots.filter (fun r => r.2.part == p && r.2.half == h)).length
    + (s.sess.dir.filter (fun e => e.2.part == p && e.2.state == .moving && e.2.sv && e.2.slot / 8192 == h
        && !s.sess.slots.has e.2.slot)).length
    + (s.sess.held.map (fun x => if (s.ent x.1).part = p then (x.2.filter (fun k => k / 8192 == h)).length else 0)).foldl (· + ·) 0
    + (s.own.moves.filter (fun m => (s.ent m.1).part == p && (m.2.slot.map (fun k => k / 8192 == h)).getD false)).length

/-- The latch key of event 0x2002. -/
def quotaKey (p sub h : Nat) : Nat := 8 * p + 2 * sub + h

/-- The events of a quota or a half without slots may be raised again where the use has fallen (R49, Table 2-10). -/
def State.relatch (s : State) (p : Nat) : State :=
  let f := fun (t : State) (sub h use : Nat) => if use < s.dval (0x2040 + p) sub then t.unlatch 0x2002 (quotaKey p sub h) else t
  let s1 := f (f (f s 1 0 (s.openCount p)) 2 0 (s.slotsIn p 0)) 2 1 (s.slotsIn p 1)
  let g := fun (t : State) (h : Nat) => if (s.freeSlot h).isSome then t.unlatch 0x2005 h else t
  g (g s1 0) 1

/-- A quota refuses a command of partition `p`: event 0x2002 once for each time it is reached (R49). -/
def State.quotaReached (s : State) (p sub h : Nat) : State := s.raiseOnce 0x2002 (quotaKey p sub h) p h [p, sub]

/-- A slot of half `h` for a request of partition `p` (R20, R41): the slot, or the state with its events and the detail of
the NO_SPACE. -/
def State.takeSlot (s : State) (p h : Nat) : Except (State × Nat) Nat :=
  if s.dval (0x2040 + p) 2 ≤ s.slotsIn p h then .error (s.quotaReached p 2 h, dQUOTA)
  else
    match s.freeSlot h with
    | none => .error (s.raiseOnce 0x2005 h p h [h], 0)
    | some k => .ok k

end Sys2Proof.Machine
end

