-- ==== Sys2Proof/Machine/OwnCore.lean ====
section
/-!
DEFINITION. The ownership record (R116 to R122): its message payload, what the home does with each request, the requests a
party has outstanding, and the start of a move (R123 to R125).
-/

namespace Sys2Proof.Machine

/-! ## Payload -/

/-- The fields of an ownership message (Table 5-2). -/
structure OwnMsg where
  op : Nat
  result : Nat
  seq : Nat
  sender : Nat
  gidx : Nat
  drop : Bool
  clm : Bool
  handle : Nat
  epoch : Nat
  offered : Bool
  shalf : Nat
  thalf : Nat
  owner : Nat
  target : Nat
  ggen : Nat
  lease : Nat
deriving DecidableEq, Repr

/-- The 256 bits of a payload. -/
def OwnMsg.word (m : OwnMsg) : Nat :=
  withPar (m.lease % 2 ^ 32 * 2 ^ 12 + m.ggen % 2 ^ 36 * 2 ^ 44 + m.target % 64 * 2 ^ 80 + m.owner % 64 * 2 ^ 86
    + m.thalf % 2 * 2 ^ 92 + m.shalf % 2 * 2 ^ 93 + b2n m.offered * 2 ^ 94 + m.epoch % 2 ^ 32 * 2 ^ 96
    + m.handle % 2 ^ 64 * 2 ^ 128 + b2n m.clm * 2 ^ 192 + b2n m.drop * 2 ^ 193 + m.gidx % 2 ^ 22 * 2 ^ 196
    + m.sender % 64 * 2 ^ 218 + m.seq % 2 ^ 16 * 2 ^ 224 + m.result % 256 * 2 ^ 240 + m.op % 256 * 2 ^ 248) 4 3 0

/-- The fields of a payload. -/
def OwnMsg.parse (h : BitVec 256) : OwnMsg :=
  { op := bits h 255 248, result := bits h 247 240, seq := bits h 239 224, sender := bits h 223 218, gidx := bits h 217 196
    drop := bit h 193, clm := bit h 192, handle := bits h 191 128, epoch := bits h 127 96, offered := bit h 94
    shalf := bits h 93 93, thalf := bits h 92 92, owner := bits h 91 86, target := bits h 85 80, ggen := bits h 79 44
    lease := bits h 43 12 }

/-- A payload that may be acted on: parity, rsvd bits and reserved codes. -/
def ownOk (h : BitVec 256) (op : Nat) : Bool :=
  parOk h.toNat 4 3 0 && zeroBits h 195 194 && zeroBits h 11 4 && !bit h 95 && bits h 255 248 == op
    && decide (bits h 247 240 ≤ 6)

/-- The serving half that the record of entry `i` names: where the home stages a copy, that of its entry before (R127). -/
def State.recHalf (s : State) (i : Nat) : Nat := (((s.own.staged.get? i).bind (·.old)).getD (s.ent i)).shalf

/-- The record of entry `i` as the fields of a message of operation `op`. -/
def State.image (s : State) (i op result seq : Nat) : OwnMsg :=
  let e := s.ent i
  { op, result, seq, sender := s.self, gidx := 0, drop := false, clm := false, handle := s.handleOf i, epoch := e.epoch
    offered := e.offered, shalf := s.recHalf i, thalf := e.thalf, owner := e.owner, target := e.target, ggen := 0
    lease := e.olease - s.nowMs (idxHalf i) }

/-- The owner lease in ms. -/
def State.ownerLease (s : State) : Nat := s.dval 0x3100 7
/-- The offer lease in ms. -/
def State.offerLease (s : State) : Nat := s.dval 0x3100 6

/-- An ownership message sent on the stream of partition `p` (R122). -/
def State.sendOwn (s : State) (dst p : Nat) (m : OwnMsg) : State := s.sendMsg dst p 0x10 4 (leBytes 32 m.word)

/-! ## The home -/

/-- The guest record of entry `i`: where its home is and its handle there (R128). -/
def State.guestOf (s : State) (i : Nat) : Option LinkRec :=
  match s.own.links.get? i with
  | some l => if l.kind = 0 then some l else none
  | none => none

/-- Has entry `i` a record of its own: is this device its home? -/
def State.isHome (s : State) (i : Nat) : Bool := (s.guestOf i).isNone

/-- A record written (R116): epoch + 1, and a record the home owns is renewed. -/
def State.writeRec (s : State) (i : Nat) (f : DirEntry → DirEntry) : State :=
  s.updEnt i (fun e =>
    let e1 := f { e with epoch := e.epoch + 1 }
    if e1.owner = s.self ∧ !e1.offered then { e1 with olease := s.nowMs (idxHalf i) + s.ownerLease } else e1)

/-- A NOTE with the record's image to endpoint `dst` (R120); none to the device itself. -/
def State.note (s : State) (i dst : Nat) : State :=
  if dst = s.self then s else s.sendOwn dst (s.ent i).part (s.image i 8 0 0)

/-- NOTE to the previous owner and to the target. -/
def State.notes (s : State) (i prev tgt : Nat) : State :=
  if prev = tgt then s.note i prev else (s.note i prev).note i tgt

/-- Is the record of entry `i` frozen (R121)? -/
def State.frozen (s : State) (i : Nat) : Bool :=
  let e := s.ent i
  decide (s.nowMs (idxHalf i) < s.own.frozenUntil) && (e.owner != s.self || e.offered)

/-- Would a write carry the epoch of entry `i` past its maximum (R117)? -/
def State.epochFull (s : State) (i : Nat) : Bool := decide (0xFFFFFFFF ≤ (s.ent i).epoch)

/-- The record of entry `i` lapses when its owner lease is over, and an offer reverts when its own is (Table 5-1); not while it is frozen
(R121). -/
def State.leaseEnds (s : State) (i : Nat) : State :=
  let e := s.ent i
  if !s.isHome i ∨ e.state = .free ∨ e.state = .closed ∨ (e.owner = s.self ∧ !e.offered) ∨ s.frozen i then s
  else if s.nowMs (idxHalf i) < e.olease then s
  else if e.offered then
    if s.epochFull i then s
    else
      let s1 := s.writeRec i (fun x => { x with offered := false, olease := s.nowMs (idxHalf i) + s.ownerLease })
      ((s1.notes i e.owner e.target).count 0x8310 8 1).raise 0x2034 e.part (idxHalf i)
        (w2 (s.handleOf i) ++ [e.target, (s1.ent i).epoch])
  else if s.own.lapsed.contains i then s
  else
    ({ s with own := { s.own with lapsed := i :: s.own.lapsed } }).raise 0x2032 e.part (idxHalf i)
      (w2 (s.handleOf i) ++ [e.owner, e.epoch])

/-- The home's scan of the record of entry `i` (R119): one that the home owns is renewed, any other has its lease tested. -/
def State.scanRec (s : State) (i : Nat) : State :=
  let e := s.ent i
  if s.isHome i ∧ e.state ≠ .free ∧ e.state ≠ .closed ∧ e.owner = s.self ∧ !e.offered then
    s.updEnt i (fun x => { x with olease := s.nowMs (idxHalf i) + s.ownerLease })
  else s.leaseEnds i

/-- The serving half that the record of entry `i` names set to `h`: in the entry, or where the home stages a copy in the entry kept (R127). -/
def State.setRecHalf (s : State) (i h : Nat) : State :=
  match s.own.staged.get? i with
  | some x =>
    if x.old.isSome then { s with own := { s.own with staged := s.own.staged.put i { x with old := x.old.map (fun e => { e with shalf := h }) } } }
    else s.updEnt i (fun e => { e with shalf := h })
  | none => s.updEnt i (fun e => { e with shalf := h })

/-- The handle that the owner gives the session (R122): from the handle's partition, gidx and ggen. -/
def OwnMsg.guestHandle (m : OwnMsg) : Nat := mkHandle (hPart m.handle) m.gidx m.ggen

/-- The remote record of entry `i`: kept for an owner other than the device. -/
def State.setRemote (s : State) (i owner h : Nat) : State :=
  { s with own := { s.own with links := if owner = s.self then s.own.links.del i else s.own.links.put i { kind := 1, peer := owner, handle := h } } }

/-- The record of entry `i` no longer lapsed. -/
def State.unlapse (s : State) (i : Nat) : State := { s with own := { s.own with lapsed := s.own.lapsed.filter (fun x => x != i) } }

/-- Event 0x2033 and the count of an offer recalled. -/
def State.recalled (s : State) (i : Nat) : State :=
  (s.count 0x8310 8 1).raise 0x2033 (s.ent i).part (idxHalf i) (w2 (s.handleOf i) ++ [(s.ent i).epoch])

/-- What the home does with request `m` from `src` about entry `i` (Table 5-1): the state and the result code. RELEASE
leaves the closing of the session to the caller. A write that would carry the epoch too far is answered EPOCH_LIMIT (R117; DEDUCED log 92:
the rule names that result for an OFFER). -/
def State.homeDoes (s0 : State) (i src sp : Nat) (m : OwnMsg) : State × Nat :=
  let s := s0.leaseEnds i
  let e := s.ent i
  let now := s.nowMs (idxHalf i)
  let match_ := fun (who : Nat) => m.epoch == e.epoch && src == who
  let lapsed := s.own.lapsed.contains i
  if m.op = 1 then (s, 0)
  else if s.frozen i then
    if m.op = 2 ∧ e.epoch < m.epoch then
      let h := match s.own.links.get? i with
        | some l => if l.peer = m.owner then l.handle else (Config.remoteHandle m.owner m.epoch).toNat
        | none => (Config.remoteHandle m.owner m.epoch).toNat
      (((s.updEnt i (fun x => { x with epoch := m.epoch, offered := m.offered, owner := m.owner, target := m.target
                                       thalf := m.thalf, olease := now + (if m.offered then s.offerLease else s.ownerLease) })).setRecHalf
        i m.shalf).setRemote i m.owner h, 0)
    else if m.op = 2 ∧ m.epoch < e.epoch then (s, 1)
    else if m.op = 2 ∧ match_ e.owner then
      (s.updEnt i (fun x => { x with olease := now + (if e.offered then s.offerLease else s.ownerLease) }), 0)
    else if m.op = 2 then (s, 1)
    else (s, 3)
  else if e.offered then
    match m.op with
    | 2 => if match_ e.owner then (s.updEnt i (fun x => { x with olease := now + s.offerLease }), 0) else (s, 1)
    | 4 =>
      if match_ e.target then
        if s.epochFull i then (s, 6) else
        let s1 := ((s.writeRec i (fun x => { x with offered := false, owner := e.target, olease := now + s.ownerLease })).setRecHalf i e.thalf).unlapse i
        ((s1.setRemote i e.target m.guestHandle).notes i e.owner e.target, 0)
      else (s, 1)
    | 5 =>
      if match_ e.owner then
        if s.epochFull i then (s, 6) else
        let s1 := s.writeRec i (fun x => { x with offered := false })
        ((s1.notes i e.owner e.target).recalled i, 0)
      else (s, 1)
    | 6 => (s, 2)
    | _ => (s, 1)
  else
    match m.op with
    | 2 => if match_ e.owner then ((s.updEnt i (fun x => { x with olease := now + s.ownerLease })).unlapse i, 0) else (s, 1)
    | 3 =>
      if match_ e.owner then
        if 0xFFFFFFFD < e.epoch then (s, 6)
        else ((s.writeRec i (fun x => { x with offered := true, target := m.target, thalf := m.thalf, olease := now + s.offerLease })).unlapse i, 0)
      else (s, 1)
    | 5 => if match_ e.owner then (s, 0) else (s, 1)
    | 6 =>
      if !lapsed then (s, 2)
      else if m.clm ∧ !m.drop ∧ m.epoch = e.epoch ∧ sp = 0 then
        if s.epochFull i then (s, 6) else
        let s1 := ((s.writeRec i (fun x => { x with owner := src, olease := now + s.ownerLease })).setRecHalf i m.shalf).unlapse i
        (((s1.setRemote i src m.guestHandle).notes i e.owner e.target).count 0x8310 9 1, 0)
      else (s, 1)
    | 7 => if match_ e.owner then (if s.epochFull i then (s, 6) else ((s.writeRec i id).unlapse i, 0)) else (s, 1)
    | _ => (s, 1)

/-! ## Requests of a party -/

/-- An ownership request sent to the home of guest entry `i` and kept until its reply (R122), with what a READ is to allow. OFFER and ACCEPT
wait while the half is in HOLD (R420). -/
def State.ownAsk (s : State) (i peer p : Nat) (m : OwnMsg) (cmd : Option Cmd) (goal : Nat) : State :=
  let m1 := { m with seq := s.own.seq % 2 ^ 16, sender := s.self, result := 0, lease := 0 }
  let waits := (m.op == 3 || m.op == 4) && (s.inHold (idxHalf i) || s.inHold (s.ent i).shalf)
  let s1 := if waits then s else s.sendOwn peer p m1
  { s1 with own := { s1.own with
    seq := s1.own.seq + 1
    reqs := s1.own.reqs ++ [{ waits, idx := i, op := m.op, seq := m1.seq, peer, handle := m.handle, hdr := m1.word, timeouts := 0, cmd, goal }] } }

/-- The endpoint and handle at which the record of entry `i` is held. -/
def State.homeRef (s : State) (i : Nat) : Nat × Nat :=
  match s.guestOf i with
  | some l => (l.peer, l.handle)
  | none => (s.self, s.handleOf i)

/-- The fields of a request of operation `op` about entry `i`, naming its home handle and epoch. -/
def State.ownReq (s : State) (i op : Nat) : OwnMsg := { s.image i op 0 0 with handle := (s.homeRef i).2, lease := 0 }

/-! ## The start of a move -/

/-- A MOVE message to endpoint `dst` (Table 14-8). -/
def moveHeader (handle guest op layer pidx ps st rseq : Nat) : Nat :=
  withPar (rseq % 2 ^ 32 * 2 ^ 54 + st % 16 * 2 ^ 86 + ps % 4 * 2 ^ 90 + pidx % 2 ^ 20 * 2 ^ 92 + layer % 256 * 2 ^ 112
    + op % 256 * 2 ^ 120 + guest % 2 ^ 64 * 2 ^ 128 + handle % 2 ^ 64 * 2 ^ 192) 4 3 0

/-- A MOVE message sent on the stream of partition `p`. -/
def State.sendMove (s : State) (dst p hdr : Nat) (data : List Byte) : State :=
  s.sendMsg dst p 0x11 6 (leBytes 32 hdr ++ (if data.isEmpty then [] else withCrc data false))

/-- MOVE FIELDS (R125): the directory entry, SV while a request is attached, and the remaining TTL. -/
def State.sendFields (s : State) (i : Nat) (m : MoveRun) : State :=
  let e := s.ent i
  s.sendMove m.target e.part (moveHeader (s.handleOf i) 0 1 0 0 0 0 0) (leBytes 64
    { e with state := m.before, fk := false, prefixLen := 0, parent := 0, sv := e.sv && s.sess.slots.has e.slot }.word ++ leBytes 8 m.ttlLeft)

/-- The fields again, where a request was attached, or ended, during a device move (R129): so the target learns of it (DESIGN CHOICE log 39). -/
def State.refields (s : State) (i : Nat) : State :=
  match s.own.moves.get? i with
  | some m => if m.started && m.offered && !m.half then s.sendFields i m else s
  | none => s

/-- The KiB that session `i` takes on another half (R107, R125): what of its pages lies in T1, and its table blocks, built anew there. -/
def State.halfMoveKib (s : State) (i : Nat) : Nat :=
  ((s.refsOf i).map (fun r =>
    match (s.refPid r.2.2).bind s.pages.pages.get? with
    | some p => if !p.inT1 then 0 else if p.st = .sealed then sealedCharge (p.bytes / 1024) else openCharge (p.bytes / 1024)
    | none => 0)).foldl (· + ·) 0
    + 2 * (s.tableOf i).blocks.length

/-- The reservation of a half move of session `i` to half `h` (R126): T1, and a slot for an attached request; the state with
its events when either cannot be had. -/
def State.reserveHalf (s : State) (i h : Nat) : Except State (State × Option Nat) :=
  let e := s.ent i
  let kib := s.halfMoveKib i
  match s.noRoom e.part h kib with
  | some _ => .error s
  | none =>
    let s1 : State := { s with pages := { s.pages with resv := s.pages.resv.put i (h, kib) } }
    if e.sv ∧ s.sess.slots.has e.slot then
      match s.takeSlot e.part h with
      | .error x => .error x.1
      | .ok k => .ok (s1, some k)
    else .ok (s1, none)

/-- Session `i` enters MOVING with move `m` (R124): its TTL is suspended, a running demotion and the Developer stop. -/
def State.enterMoving (s : State) (i : Nat) (m : MoveRun) : State :=
  let s1 := ((((s.stopDemotion i stOK 1 false).dropDev i).toState i .moving).stopTtl i)
  { s1 with own := { s1.own with moves := s1.own.moves.put i m } }

/-- The MIGRATE of session `i` ends without a move. -/
def State.noMove (s : State) (i : Nat) (c : Cmd) (st dt aux : Nat) : State :=
  (({ s with own := { s.own with moves := s.own.moves.del i } } : State).countRefusal st).doneSess c i st dt aux

/-- A move of session `i` begins (R124): the OFFER is written or sent, and the session is MOVING. While a half of the
session is in HOLD the OFFER waits, and the move with it (R420). An offer that the home refuses, and a half move for which
the other half has no room (recalled at once, R126), leave the session as it was. -/
def State.startMove (s : State) (i : Nat) (m : MoveRun) : State :=
  if s.inHold (idxHalf i) || s.inHold (s.ent i).shalf then
    { s with own := { s.own with moves := s.own.moves.put i { m with started := false } } }
  else
    let e := s.ent i
    let tgt := if m.half then s.self else m.target
    let th := if m.half then otherHalf e.shalf else 0
    let m1 : MoveRun :=
      { m with before := e.state, ttlLeft := if e.ton then e.expires - s.nowMs (idxHalf i) else 1000 * e.ttl, started := true
               target := if m.half then th else m.target, offerEpoch := e.epoch + 1 }
    let rq : OwnMsg := { s.ownReq i 3 with target := tgt, thalf := th, offered := true }
    if !s.isHome i then (s.enterMoving i m1).ownAsk i (s.homeRef i).1 e.part rq none 0
    else
      let r : State × Nat := s.homeDoes i s.self e.part rq
      if r.2 = 6 then r.1.noMove i m.cmd stBAD dRANGE 0
      else if r.2 ≠ 0 then r.1.noMove i m.cmd stNOTOWNER 0 (r.1.ent i).owner
      else if m.half then
        match r.1.reserveHalf i th with
        | .error s1 =>
          let back : State × Nat := s1.homeDoes i s1.self e.part (s1.ownReq i 5)
          back.1.noMove i m.cmd stNOSPACE 0 0
        | .ok x => x.1.enterMoving i { m1 with offered := true, slot := x.2 }
      else
        let m2 : MoveRun := { m1 with offered := true }
        (r.1.enterMoving i m2).sendFields i m2

/-- A move that waits for the end of a request, or of its step, begins (R124). -/
def State.startWaitingMove (s : State) (i : Nat) : State :=
  match s.own.moves.get? i with
  | some m => if m.started then s else s.startMove i m
  | none => s

end Sys2Proof.Machine
end

