-- ==== Sys2Proof/Machine/SessOps.lean ====
section
/-!
DEFINITION. What the session commands share (ch 2): host time against deadlines (ch 19), open sessions and stream slots
against their quotas, the order of checks of a session command, and how an entry closes and becomes FREE.
-/

namespace Sys2Proof.Machine

/-! ## Host time (R404 to R406) -/

/-- An empty time map. -/
def TimeMap.blank : TimeMap := { h := 0, s := 0, e := 0, have_ := false, valid := false }

/-- The map of port `p` that half `h` holds. -/
def State.timeMap (s : State) (p h : Nat) : TimeMap := s.clk.maps.getD (2 * p + h) TimeMap.blank

/-- Ĥ at island time `t` (R405). -/
def TimeMap.est (m : TimeMap) (t : Nat) : Int := (m.h : Int) + ((t : Int) - m.s) + ((t : Int) - m.s) * m.e / 1000000000

/-- Is that map valid now (R406)? -/
def State.mapValid (s : State) (p h : Nat) : Bool :=
  let m := s.timeMap p h
  m.have_ && m.valid && decide (s.ns - m.s ≤ 1000000 * s.dval (0x9020 + p) 3)

/-- Has the deadline of request `r` passed (R41, R406)? -/
def State.deadlinePast (s : State) (r : Request) : Bool :=
  let p := r.cmd.fn / 64
  r.deadline != 0 && s.mapValid p r.half && decide ((r.deadline : Int) ≤ (s.timeMap p r.half).est s.ns)

/-! ## The checks of a session command -/

/-- A session command: the checks of R47, `bad` telling that a field is out of range; while the bridge is down a session
of East completes HELD (R24); the handle checks of R34; with `hold` the half in HOLD (R420); and on an EXPIRED session TTL_EXPIRED, but
for CLOSE and QUERY (Table 2-2). -/
def State.takeSessC (s : State) (op fn sq : Nat) (d : Desc) (lc any remote bad hold : Bool)
    (k : Cmd → Nat → Nat → State) : State :=
  s.take op fn sq d lc (fun c p =>
    let i := hIdx (dHnd d)
    if bad then s.refuse c stBAD dRANGE
    else if s.boot.bridge && idxHalf i == 1 then s.refuse c stHELD 0
    else
      match s.handleCheck p (dHnd d) any remote with
      | some (st, dt, aux) =>
        (if st = stDENIED ∧ dt = 0 then s.count 0x8700 3 1 else s).refuseA c st dt aux
      | none =>
        let h := (s.ent i).shalf
        if s.boot.bridge && h == 1 then s.refuse c stHELD 0
        else if hold && (s.inHold h || s.inHold (idxHalf i)) then s.refuse c stHELD 0
        else if (s.ent i).state == .expired && op != 0x08 && op != 0x0A then s.refuse c stTTL 0
        else k c p i)

/-- BUSY: BAD_DESCRIPTOR with detail BUSY, and nothing changes (R38). -/
def State.busy (s : State) (c : Cmd) : State := s.refuse c stBAD dBUSY

/-! ## Control-class parity (R261, R262) -/

/-- A word of a structure crosses from island `src` to island `dst` (R261, R401), `fail` telling which of its two attempts fail parity: the second
attempt is counted, and where that fails too the structure is discarded, event 0x6012. The state, and whether it arrives. No row tells of a
failing attempt (log 53). -/
def State.crossing (s : State) (src dst : Nat) (fail : Bool × Bool) : State × Bool :=
  if !fail.1 then (s, true)
  else
    let s1 := s.count 0x8600 6 1
    if fail.2 then (s1.raise 0x6012 0 (if src < 47 ∨ src = 94 ∨ src = 95 then 0 else 1) [src, dst], false) else (s1, true)

/-- The kinds of mirrored control blocks (R262), numbered in the order of the rule's table (DESIGN CHOICE log 53). -/
inductive Mirrored
  | entry (i : Nat)
  | table (i : Nat) (pages : List Nat)
  | share (rid : Nat)
  | link (i : Nat)
  | band (k : Nat)
deriving DecidableEq, Repr

/-- The number of a mirrored block's kind. -/
def Mirrored.kind : Mirrored → Nat
  | .entry _ => 0
  | .table _ _ => 1
  | .share _ => 2
  | .link _ => 3
  | .band _ => 4

/-- Page `pid` reads as poisoned from now on (R259, R262). -/
def State.poisonPage (s : State) (pid : Nat) : State :=
  s.updPage pid (fun p => { p with
    pchk := .poisoned, lowChk := .poisoned, rows := p.rows.mapV (fun _ r => { r with chkA := .poisoned, chkB := .poisoned }) })

/-- The effect of the loss of a mirrored block (the table of R262). -/
def State.blockLost (s : State) : Mirrored → State
  | .entry i => s.updEnt i (fun e => { e with lost := true, retired := true })
  | .table _ pages => pages.foldl State.poisonPage s
  | .share rid => ((s.pages.shares.get? rid).map (fun r => s.poisonPage r.pid)).getD s
  | .link i => s.updEnt i (fun e => { e with lost := true, retired := true })
  | .band k => s.updRow k (fun b => { b with lostRec := true })

/-- A mirrored control block at `loc` read on half `h` (R262), `fail` telling which of its copies fail parity: the first is repaired from the second,
event 0x6010, or the block is lost, event 0x6011. No row tells of a failing copy (log 53). -/
def State.mirrorRead (s : State) (h : Nat) (m : Mirrored) (loc : Nat) (fail : Bool × Bool) : State :=
  if !fail.1 then s
  else if !fail.2 then (s.count 0x8600 4 1).raise 0x6010 0 h [m.kind, loc]
  else ((s.count 0x8600 5 1).raise 0x6011 0 h [m.kind, loc]).blockLost m

/-- Entry `i` read where one copy of it is known to be bad: repaired from the other (R262). -/
def State.entryRead (s : State) (i : Nat) : State :=
  if (s.ent i).copyBad then (s.mirrorRead (idxHalf i) (.entry i) i (true, false)).updEnt i (fun e => { e with copyBad := false }) else s

/-! ## An entry closes -/

/-- The child's parent loses a child (R40): not where the parent has been freed since. -/
def State.leaveParent (s : State) (i : Nat) : State :=
  let e := s.ent i
  let p := s.ent e.parent
  let s1 := { s with sess := { s.sess with pgen := s.sess.pgen.del i } }
  if e.fk ∧ p.state ≠ .free ∧ s.sess.pgen.get? i = some p.gen then
    s1.updEnt e.parent (fun x => { x with children := x.children - 1 })
  else s1

/-- The bytes of session `i` released wherever they lie (R67, R85). -/
def State.dropAll (s : State) (i : Nat) : State :=
  let t := s.tableOf i
  let s1 := (if t.inT1 then s else s.dropLow (s.ent i).part t.low (.tables i)).dropNextTables i
  (s1.dropSession i dropPageLow).evacTidy

/-- Session `i` enters CLOSED (Table 2-2): a running demotion stops and its PARKs complete CANCELLED (R95), the Developer
stops, its pages are released, and LX is `lx`. With `tell` a guest tells the home by RELEASE (Table 5-1). -/
def State.closeEntry (s : State) (i : Nat) (lx tell : Bool) : State :=
  let e := s.ent i
  let s0 :=
    match s.guestOf i with
    | some l => if tell then s.ownAsk i l.peer e.part (s.ownReq i 7) none 0 else s
    | none => s
  let s1 := ((((s0.stopDemotion i stCANCELLED 0 false).dropDev i).dropAll i).leaveParent i).toState i .closed
  let s2 := s1.updEnt i (fun x => { x with
    lx, ton := false, expires := 0, pp := false, cp := false, cl := false, sv := false, slot := 0, reslayers := 0
    ptroot := 0, tv := false, tail := 0, fk := false, parent := 0, prefixLen := 0 })
  let s3 : State := { s2 with
    own := { s2.own with moves := s2.own.moves.del i, staged := s2.own.staged.del i }
    sess := { s2.sess with closes := s2.sess.closes.del i, held := s2.sess.held.del i } }
  (s3.unlapse i).relatch e.part

/-- A CLOSED entry whose pages are all released becomes FREE (Table 2-2), or is retired (R35). -/
def State.freeEntry (s : State) (i : Nat) : State :=
  let e := s.ent i
  if e.state ≠ .closed ∨ e.retired ∨ s.pages.pages.any (fun p => p.2.rel == some i) then s
  else
    let s1 : State := { s with own := { s.own with links := s.own.links.del i } }
    if 0xFFFFFFFFF ≤ e.gen then (s1.setEnt i { e with retired := true }).raise 0x2004 e.part (idxHalf i) [i]
    else s1.setEnt i { DirEntry.blank (e.gen + 1) s.self with part := e.part, lx := e.lx }

/-- ENTRY_FREE (R38). -/
def execEntryFree (idx : Nat) (s : State) : Host.Outcome State Fault Refusal := .next (s.freeEntry idx)

end Sys2Proof.Machine
end

