-- ==== Sys2Proof/Machine/Requests.lean ====
section
/-!
DEFINITION. Requests on the control core and the text engine (ch 2, ch 8): output records and their release, host-assisted
exchanges, the prompt, and the end of a request.
-/

namespace Sys2Proof.Machine

/-! ## Output records -/

/-- An output record's 512 bits (Table 8-5). -/
def OutRec.word (o : OutRec) : Nat :=
  withPar (leNat (fitBytes 48 o.text) * 2 ^ 128 + o.tag % 2 ^ 16 * 2 ^ 112 + o.slot % 2 ^ 14 * 2 ^ 98 + o.kind * 2 ^ 94
    + b2n o.end_ * 2 ^ 93 + b2n o.fix * 2 ^ 92 + b2n o.cut * 2 ^ 91 + b2n o.fin * 2 ^ 90 + o.text.length * 2 ^ 84
    + o.token % 2 ^ 21 * 2 ^ 63 + o.produced % 2 ^ 32 * 2 ^ 31) 8 7 0

/-- The 64 or 32 bytes of a record as it is relayed (Table 14-8). -/
def Rec.bytes : Rec → List Byte
  | .comp c _ => leBytes 32 (c.word 0)
  | .output o => leBytes 64 o.word
  | .event e => leBytes 32 e.word

/-- A record of a request that runs at the target of its session's move goes to the source, and is kept until it is
acknowledged (R129). -/
def State.relayRec (s : State) (i : Nat) (to_ : RelayTo) (r : Request) (x : Rec) : State :=
  let n := s.own.relaySeq.getD (s.handleOf i) 0 + 1
  let s1 := s.sendMove to_.peer r.part (moveHeader to_.handle (s.handleOf i) 6 0 0 0 0 n) x.bytes
  { s1 with own := { s1.own with
    relaySeq := s1.own.relaySeq.put (s.handleOf i) n
    relays := s1.own.relays ++ [{ seq := n, peer := to_.peer, handle := to_.handle, guest := s.handleOf i, part := r.part, body := x }] } }

/-- An output record of request `r` posted on its ring (R184), or relayed. -/
def State.postOut (s : State) (r : Request) (o : OutRec) : State :=
  match r.relay with
  | some to_ => s.relayRec r.idx to_ r (.output o)
  | none => if s.gen r.cmd.fn = r.cmd.gen then s.post (ringKey r.cmd.fn 3 r.ring) (.output o) else s

/-- A completion of request `r`, posted or relayed. -/
def State.postReq (s : State) (r : Request) (x : Completion) : State :=
  match r.relay with
  | some to_ => s.relayRec r.idx to_ r (.comp x r.cmd.lc)
  | none => s.send r.cmd x

/-- Released characters cut into records of at most 48 bytes, never dividing one (R184): `cur` the record being filled. -/
def packChrs : List Chr → List Chr → List (List Chr)
  | [], cur => [cur]
  | c :: t, cur =>
    if 48 < (chrBytes (cur ++ [c])).length then cur :: packChrs t [c] else packChrs t (cur ++ [c])

/-- The TEXT records of characters `cs` of request `r`: the last carries END, CUT and FIN as given. -/
def textRecs (r : Request) (slot token : Nat) (cs : List Chr) (end_ cut fin : Bool) : List OutRec :=
  let ps := packChrs cs []
  ps.mapIdx (fun k p =>
    let last := k + 1 == ps.length
    { text := chrBytes p, tag := r.cmd.tag, slot, kind := 1, end_ := end_ && last, fix := p.any (·.fix)
      cut := cut && last, fin := fin && last, token, produced := r.produced })

/-- Bytes `b` appended to a request's output stream (R184, R187, R188): what is released, the request with what is held
back and withheld, and how many subparts were replaced. With `last` an incomplete subpart is replaced. -/
def Request.push (r : Request) (ss : List (List Byte)) (b : List Byte) (last : Bool) : Request × List Chr × Nat :=
  if r.cut then (r, [], 0)
  else
    let all := r.heldOut ++ b
    let d := decodeText last r.outOff all
    let cs := r.unrel ++ d.1
    let fixes := (d.1.filter (·.fix)).length
    let off := r.outOff + (all.length - d.2.length)
    match stopFind ss cs with
    | some (a, e) =>
      ({ r with heldOut := [], outOff := off, unrel := [], cut := true
                discarded := (cs.length - e) + b2n (!d.2.isEmpty) }, cs.take a, fixes)
    | none =>
      let keep := stopHold ss cs
      ({ r with heldOut := d.2, outOff := off, unrel := cs.drop (cs.length - keep) }, cs.take (cs.length - keep), fixes)

/-- Everything still held is released (R189). -/
def Request.drain (r : Request) : Request × List Chr × Nat :=
  let d := decodeText true r.outOff r.heldOut
  let cs := if r.cut then [] else r.unrel ++ d.1
  ({ r with heldOut := [], unrel := [] }, cs, if r.cut then 0 else (d.1.filter (·.fix)).length)

/-- The stop strings of a request. -/
def State.stopsOf (s : State) (r : Request) : List (List Byte) :=
  if 64 ≤ r.stops then [] else stopStrings (s.dbytes (0x5080 + r.stops) 1)

/-- The profile of session `i`. -/
def State.profOf (s : State) (i : Nat) : Option Profile := s.profs.get? (s.ent i).profile

/-- The tokenizer of a profile. -/
def State.tokzOf (s : State) (p : Profile) : Option Tokz :=
  if 8 ≤ p.tokenizer then none
  else
    let b := s.dbytes (0x5010 + p.tokenizer) 1
    if b.isEmpty then none else some (Tokz.parse b)

/-- The bytes that token `id` adds to the output (R184). -/
def State.tokenBytes (s : State) (i id : Nat) : List Byte :=
  match (s.profOf i).bind s.tokzOf with
  | some t => if t.skip id then [] else t.str id
  | none => []

/-- Request `r` kept at slot `k`. -/
def State.putReq (s : State) (k : Nat) (r : Request) : State :=
  { s with sess := { s.sess with slots := s.sess.slots.put k r } }

/-- Request at slot `k` changed by `f`. -/
def State.updReq (s : State) (k : Nat) (f : Request → Request) : State :=
  { s with sess := { s.sess with slots := s.sess.slots.upd k f } }

/-- Output subparts replaced: counted, and event 0x5003 the first time for the request. -/
def State.outFixes (s : State) (k n : Nat) : State :=
  if n = 0 then s
  else
    let s1 := s.count 0x8500 4 n
    match s1.sess.slots.get? k with
    | none => s1
    | some r =>
      if r.outFix then s1
      else (s1.updReq k (fun x => { x with outFix := true })).raise 0x5003 r.part r.half (w2 (s.handleOf r.idx) ++ [k])

/-- The token bytes `b` of the commit with produced count `n` put out for the request of slot `k`, and with `fin`
everything still held after them (R184, R188, R189). -/
def State.putText (s : State) (k id : Nat) (b : List Byte) (n : Nat) (fin : Bool) : State :=
  match s.sess.slots.get? k with
  | none => s
  | some r =>
    let p := r.push (s.stopsOf r) b false
    let s1 := if p.1.cut && !r.cut then (s.count 0x8500 5 1).count 0x8500 6 p.1.discarded else s
    let q := if fin then p.1.drain else (p.1, [], 0)
    let s2 := (s1.putReq k q.1).outFixes k (p.2.2 + q.2.2)
    (textRecs { r with produced := n } k id (p.2.1 ++ q.2.1) true (p.1.cut && !r.cut) fin).foldl (fun t o => t.postOut r o) s2

/-- Everything still held of the request of slot `k` put out with FIN, where something is (R189). -/
def State.flushText (s : State) (k : Nat) : State :=
  match s.sess.slots.get? k with
  | none => s
  | some r =>
    let q := r.drain
    if q.2.1.isEmpty then s.putReq k q.1
    else
      let s2 := (s.putReq k q.1).outFixes k q.2.2
      (textRecs r k 0 q.2.1 false false true).foldl (fun t o => t.postOut r o) s2

/-! ## Exchanges -/

/-- The exchange's header (Table 8-9). -/
def Exch.header (x : Exch) : Nat :=
  withPar (crc32c x.payload * 2 ^ 8 + 2 ^ 248 + x.func * 2 ^ 256 + x.half * 2 ^ 273 + x.slot % 2 ^ 14 * 2 ^ 274
    + x.kc % 2 ^ 32 * 2 ^ 288 + x.n % 2 ^ 32 * 2 ^ 320 + x.xid % 2 ^ 32 * 2 ^ 352 + x.seq % 2 ^ 64 * 2 ^ 384
    + x.handle % 2 ^ 64 * 2 ^ 448) 8 7 0

/-- Event 0x5004 once per partition until a buffer is posted (R197). -/
def State.noBuffer (s : State) (p h func : Nat) : State := s.raiseOnce 0x5004 p p h [p, func]

/-- A new exchange (R197): its id is 2 × the half's count + the half (log 33); it waits for a buffer. -/
def State.newExch (s : State) (func part half slot handle seq n kc : Nat) (payload : List Byte) (ref : Nat) : State × Nat :=
  let xid := (2 * s.sess.xid.get half + half) % 2 ^ 32
  let s1 : State := { s with sess := { s.sess with
    xid := s.sess.xid.upd half (· + 1)
    exs := s.sess.exs ++ [{ xid, func, part, half, slot, handle, seq, n, kc, payload, sent := false, ref }] } }
  ((if s1.sess.bufs.any (fun b => b.part == part) then s1 else s1.noBuffer part half func), xid)

/-- Does a request still wait for the answer of detokenize exchange `x`? -/
def State.detokAwaited (s : State) (x : Exch) : Bool :=
  ((s.sess.slots.get? x.slot).map (fun r => r.detok.any (fun w => w.xid == x.xid && w.reply.isNone))).getD false

/-- The exchange written to the first posted buffer of its partition that it fits; each before it completes NO_SPACE. A detokenize exchange
whose request has ended is written, and ended with it (log 34). -/
def State.writeExch (s : State) (x : Exch) : List AssistBuf → State
  | [] => s.noBuffer x.part x.half x.func
  | b :: t =>
    if b.part ≠ x.part then State.writeExch s x t
    else
      let s1 : State := { s with sess := { s.sess with bufs := s.sess.bufs.erase b } }
      let need := 64 + x.payload.length
      if b.len < need then
        State.writeExch (s1.send b.cmd (Completion.of b.cmd stNOSPACE 0 need)) x t
      else
        let y : Completion := { Completion.of b.cmd stOK 0 x.xid with handle := x.handle }
        let s2 := (s1.dmaTo b.cmd.fn b.cmd.gen b.addr (leBytes 64 x.header ++ x.payload)).send b.cmd y
        let s3 := ((s2.count 0x8500 8 1).count 0x8510 7 (b2n (x.func == 4))).count 0x8530 9 (b2n (x.func == 5))
        let exs := if x.func = 2 && !s.detokAwaited x then s3.sess.exs.filter (fun y => !(y.xid == x.xid && y.handle == x.handle))
          else s3.sess.exs.map (fun y => if y.xid = x.xid ∧ y.handle = x.handle then { y with sent := true } else y)
        { s3 with sess := { s3.sess with exs } }

/-- ASSIST_EXCHANGE (R197): an exchange that has been written already, or has ended, is not written again. -/
def execAssistExchange (xid : Nat) (s : State) : Host.Outcome State Fault Refusal :=
  .next (
    match s.sess.exs.find? (fun x => x.xid == xid && !x.sent) with
    | none => s
    | some x => s.writeExch x s.sess.bufs)

/-- The exchanges of the request of slot `k` end (R198). A detokenize exchange of a committed token that no buffer has taken yet is still
sent (log 34). -/
def State.endExchs (s : State) (k : Nat) (funcs : List Nat) : State :=
  { s with sess := { s.sess with exs := s.sess.exs.filter (fun x => !(x.slot == k && funcs.contains x.func && (x.func != 2 || x.sent))) } }

/-- ASSIST_POST (R197, R200). -/
def State.assistPostCmd (s : State) (c : Cmd) (p : Nat) (d : Desc) : State :=
  let addr := dFld d 191 128
  let len := dFld d 223 192
  if addr % 64 ≠ 0 ∨ len < 64 ∨ 16777216 < len then s.refuse c stBAD dRANGE
  else
    let b : AssistBuf := { cmd := c, part := p, addr, len }
    ({ s with sess := { s.sess with bufs := s.sess.bufs ++ [b] } }).unlatch 0x5004 p

/-- ASSIST_POST. -/
def execAssistPost (fn sq : Nat) (d : Desc) (s : State) : Host.Outcome State Fault Refusal :=
  .next (s.take 0x31 fn sq d false (fun c p => s.assistPostCmd c p d))

/-! ## The end of a request -/

/-- The final completion of a request (Table 2-5). -/
def State.finalComp (s : State) (r : Request) (k st dt aux : Nat) (fin : Bool) : Completion :=
  { Completion.of r.cmd st dt aux with
    count := (s.ent r.idx).count, produced := r.produced, handle := s.handleOf r.idx, slot := k, half := (s.ent r.idx).shalf, fin }

/-- The detokenize exchanges of slot `k` that are answered are put out in commit order (R199); with `all` those not
answered too, with no text (log 34). -/
def State.detokDrain (s : State) (k : Nat) (all : Bool) : Nat → State
  | 0 => s
  | n + 1 =>
    match s.sess.slots.get? k with
    | none => s
    | some r =>
      match r.detok with
      | [] => s
      | w :: t =>
        match w.reply with
        | none =>
          if all then State.detokDrain ((s.updReq k (fun x => { x with detok := t })).putText k w.token [] w.produced (all && t.isEmpty)) k all n
          else s
        | some b =>
          State.detokDrain ((s.updReq k (fun x => { x with detok := t })).putText k w.token b w.produced (all && t.isEmpty)) k all n

/-- What a session whose request has ended does next (Table 2-2): a pending close is made, a LIVE session becomes IDLE,
and a move that waited for the end starts (R124). -/
def State.afterEnd (s : State) (i : Nat) : State :=
  let e := s.ent i
  if e.state ≠ .live then s
  else if e.cl then
    let cs := s.sess.closes.getD i []
    let s1 := match s.own.moves.get? i with
      | some m => s.doneSess m.cmd i stCANCELLED 0 0
      | none => s
    let s2 := (s1.closeEntry i false true).count 0x8200 2 1
    cs.foldl (fun t c => t.doneSess c i stOK 0 0) s2
  else ((s.updEnt i (fun x => { x with cp := false, pp := false })).toState i .idle).startWaitingMove i

/-- The request of slot `k` ends (R45, R189): what is held is put out with FIN, its final completion is posted, its prompt
buffer and slot are released. In MOVING the slot stays taken until the move ends (Table 2-2), and the target of a device move is told. -/
def State.endReq (s : State) (k st dt : Nat) (aux : Option Nat) : State :=
  match s.sess.slots.get? k with
  | none => s
  | some r0 =>
    let s1 := ((s.detokDrain k true (r0.detok.length + 1)).flushText k)
    let r := (s1.sess.slots.get? k).getD r0
    let e := s1.ent r.idx
    let s2 := s1.postReq r (s1.finalComp r k st dt (aux.getD r.discarded) true)
    let s3 := if st = stLATE then s2.count 0x8200 5 1 else s2
    let s4 := (s3.subCharge r.part r.half r.charge).endExchs k [1, 2, 3, 4]
    let s5 : State := { s4 with sess := { s4.sess with
      slots := s4.sess.slots.del k
      selIn := s4.sess.selIn.del k } }
    let s6 := if e.state = .moving then s5.refields r.idx
      else s5.updEnt r.idx (fun x => { x with sv := false, slot := 0, cp := false, pp := false })
    (s6.afterEnd r.idx).relatch r.part

/-- The request of slot `k` ends at the commit of step `seq` that selected token `id` (R184, R189): its records come first, the last of
them with FIN. In host mode the token's text is asked for (R198), and its record carries none (log 34). -/
def State.endReqTok (s : State) (k id seq st dt : Nat) : State :=
  match s.sess.slots.get? k with
  | none => s
  | some r =>
    if r.detokHost then
      let x := s.newExch 2 r.part r.half k (s.handleOf r.idx) seq 1 0 (leBytes 4 id) 0
      (x.1.updReq k (fun q => { q with detok := q.detok ++ [{ xid := x.2, token := id, reply := none, produced := q.produced }] })).endReq k st dt none
    else (s.putText k id (s.tokenBytes r.idx id) r.produced true).endReq k st dt none

/-- A commit selected token `id` for the request of slot `k`, which goes on (R184, R198): its text, or an exchange for
it. -/
def State.textOut (s : State) (k id seq : Nat) : State :=
  match s.sess.slots.get? k with
  | none => s
  | some r =>
    if r.detokHost then
      let x := s.newExch 2 r.part r.half k (s.handleOf r.idx) seq 1 0 (leBytes 4 id) 0
      x.1.updReq k (fun q => { q with detok := q.detok ++ [{ xid := x.2, token := id, reply := none, produced := q.produced }] })
    else s.putText k id (s.tokenBytes r.idx id) r.produced false

/-! ## The prompt -/

/-- The ids a request may carry: below V of the tokenizer, or below 2²¹ without one (R183). -/
def State.idLimit (s : State) (i : Nat) : Nat :=
  match (s.profOf i).bind s.tokzOf with
  | some t => t.v
  | none => 2097152

/-- The last input of the request of slot `k` has been turned into ids (R183): its three ends, or the prompt buffer is
charged and the INPUT record posted. A prompt of no ids, which an empty tokenize reply gives while TV is clear, runs as a decode step of one
token, token 0: DESIGN CHOICE log 93. -/
def State.promptReady (s0 : State) (k : Nat) : State :=
  match s0.sess.slots.get? k with
  | none => s0
  | some r =>
    let s := s0.count 0x8500 2 r.ids.length
    let e := s.ent r.idx
    let prompt := (if e.tv then [e.tail] else []) ++ r.ids
    let n := prompt.length
    let kib := cdiv (4 * n) 1024
    let maxCtx := ((s.profOf r.idx).map (·.maxCtx)).getD 0
    if r.ids.any (fun x => decide (s.idLimit r.idx ≤ x)) ∨ maxCtx < e.count + n then
      s.endReq k stBAD dRANGE (some 0)
    else
      match s.noRoom r.part r.half kib with
      | some q => s.endReq k stNOSPACE (if q then dQUOTA else 0) (some 0)
      | none =>
        let s1 := (s.addCharge r.part r.half kib).updReq k (fun x => { x with collecting := false, charge := kib, todo := prompt, heldIn := [] })
        let o : OutRec :=
          { text := leBytes 4 n ++ leBytes 4 r.replaced ++ leBytes 4 (r.firstRep.getD 0xFFFFFFFF), tag := r.cmd.tag, slot := k
            kind := 2, end_ := false, fix := false, cut := false, fin := false, token := 0, produced := 0 }
        s1.postOut r o

/-- One input buffer of UTF-8 through the decoder and the pre-split machine, what is open held over (R179, R180, R182). -/
def Request.feed (r : Request) (t : Tokz) (b : List Byte) (last : Bool) : Request :=
  let off := r.inBytes - r.heldIn.length
  let d := decodeText last off (r.heldIn ++ b)
  let fixes := d.1.filter (·.fix)
  let p := d.1.foldl (fun p c => preStep t p c.cp) r.pre
  let pieces := if last then p.out ++ (if p.cur.isEmpty then [] else [p.cur]) else p.out
  { r with
    inBytes := r.inBytes + b.length, heldIn := d.2
    pre := { p with out := [], cur := if last then [] else p.cur }
    ids := r.ids ++ encodePieces t pieces
    replaced := r.replaced + fixes.length
    firstRep := match r.firstRep with
      | some x => some x
      | none => fixes.head?.map (·.off) }

/-- An input buffer of the request of slot `k` is taken (R182): ids, text, or in host mode its place, which the exchange of
R198 passes on after the last. -/
def State.takeInput (s : State) (k addr len : Nat) (b : List Byte) (last : Bool) : State :=
  match s.sess.slots.get? k with
  | none => s
  | some r =>
    if r.tok then
      let new := elems 4 (b.length / 4) b
      let s1 := s.updReq k (fun x => { x with inBytes := x.inBytes + len, ids := x.ids ++ new })
      if last then s1.promptReady k else if new.any (fun x => decide (s.idLimit r.idx ≤ x)) then s1.endReq k stBAD dRANGE (some 0) else s1
    else if r.tokHost then
      let bufs := r.bufs ++ [(addr, len)]
      let s1 := s.updReq k (fun x => { x with inBytes := x.inBytes + len, bufs })
      if last then
        let pay := bufs.flatMap (fun a => leBytes 16 (a.1 % 2 ^ 64 * 2 ^ 64 + a.2 % 2 ^ 32 * 2 ^ 32))
        (s1.newExch 1 r.part r.half k (s.handleOf r.idx) 0 bufs.length 0 pay 0).1
      else s1
    else
      match (s.profOf r.idx).bind s.tokzOf with
      | none => s
      | some t =>
        let q := r.feed t b last
        let s0 := ((s.putReq k q).countUnits 0x8500 1 4096 len).count 0x8500 3 (q.replaced - r.replaced)
        let s1 := if r.replaced = 0 ∧ q.replaced ≠ 0 then s0.raise 0x5002 r.part r.half (w2 (s0.handleOf r.idx) ++ [q.firstRep.getD 0]) else s0
        if last then s1.promptReady k else s1

/-- The slot of session `i`'s request, while it collects input. -/
def State.collecting (s : State) (i : Nat) : Option (Nat × Request) :=
  let e := s.ent i
  if !e.sv then none
  else
    match s.sess.slots.get? e.slot with
    | some r => if r.collecting ∧ r.idx = i then some (e.slot, r) else none
    | none => none

/-- TEXT_MORE (R182, R44, R200). A failed read of its buffer refuses it and leaves the request collecting (R342). -/
def State.textMoreCmd (s : State) (c : Cmd) (i : Nat) (d : Desc) (input : Option (List Byte)) : State :=
  let len := dFld d 223 192
  let more := dFlag d 24
  match s.collecting i with
  | none => s.refuse c stBAD dRANGE
  | some (k, r) =>
    let hostWait := s.sess.exs.any (fun x => x.slot == k && x.func == 1)
    if hostWait ∨ s.dval 0x5000 3 < r.inBytes + len ∨ (r.tok ∧ len % 4 ≠ 0) then s.refuse c stBAD dRANGE
    else if !more ∧ r.inBytes + len = 0 ∧ !(s.ent i).tv then s.refuse c stBAD dRANGE
    else
      match (if r.tokHost && !r.tok then some [] else input) with
      | none => s.refuse c stBAD dPARITY
      | some b => (s.doneSess c i stOK 0 len).takeInput k (dFld d 191 128) len (fitBytes len b) (!more)

/-- TEXT_MORE. -/
def execTextMore (fn sq : Nat) (d : Desc) (input : Option (List Byte)) (s : State) : Host.Outcome State Fault Refusal :=
  let len := dFld d 223 192
  let s1 := s.dmaFrom fn input
  .next (s1.takeSessC 0x30 fn sq d false false false (decide (16777216 < len) || (len == 0 && dFlag d 24)) false
    (fun c _ i =>
      match (s1.ent i).state with
      | .expired => s1.refuse c stTTL 0
      | _ => s1.textMoreCmd c i d input))

/-! ## Replies -/

/-- Table writes: a table that fails a check is TABLE_INVALID with event 0x5001, and empties when it is empty (R193). -/
def tableIndex (kind id : Nat) : Nat := if kind = 0 then 0x5010 + id % 8 else if kind = 1 then 0x5040 + id % 64 else 0x5080 + id % 64

/-- The first failed check of a table of `kind` (0 tokenizer, 1 grammar, 2 stop set). -/
def textCheck (kind : Nat) (v : List Byte) : Option Nat :=
  if kind = 0 then tokenizerCheck v else if kind = 1 then grammarCheck v else stopCheck v

/-- Requests that name grammar or stop set `id` (0x5040 + i.03, 0x5080 + i.03). -/
def State.naming (s : State) (kind id : Nat) : Nat :=
  (s.sess.slots.filter (fun r => if kind = 1 then r.2.grammar == id else r.2.stops == id)).length

/-- The owner partition of a writer: its own, 0 for the board manager. -/
def Who.owner (w : Who) : Nat := w.part.getD 0

/-- A write of a text table (R193, R194). -/
def State.textTable (s : State) (o : Origin) (kind id : Nat) (v : List Byte) : Except (Nat × Nat) State :=
  let idx := tableIndex kind id
  let w := s.whoOf o
  let old := s.dbytes idx 1
  if kind ≠ 0 ∧ !old.isEmpty ∧ w.owner ≠ 0 ∧ w.owner ≠ s.dval idx 4 then .error wDenied
  else if kind = 0 ∧ s.profs.any (fun p => p.2.tokenizer == idx - 0x5010) then .error wDenied
  else if kind ≠ 0 ∧ 0 < s.naming kind (if kind = 1 then idx - 0x5040 else idx - 0x5080) then .error wDenied
  else if v.isEmpty then .ok (if kind = 0 then s.dset idx 1 [] else (s.dset idx 1 []).dset idx 4 (leBytes 1 w.owner))
  else
    match textCheck kind v with
    | some _ => .error (stTABLE, 0)
    | none =>
      let s1 := s.dset idx 1 v
      .ok (if kind = 0 then s1 else s1.dset idx 4 (leBytes 1 w.owner))

/-- TEXT_TABLE_WRITE: a refused table is counted and raises 0x5001. -/
def State.textTableRow (s : State) (o : Origin) (kind id : Nat) (v : List Byte) : State :=
  let idx := tableIndex kind id
  let bad := (s.writeCheck o idx 1 v).isNone && !v.isEmpty &&
    (match s.textTable o kind id v with
     | .error e => e == (stTABLE, 0)
     | .ok _ => false)
  let s1 := if bad then (s.count 0x8500 0xA 1).raise 0x5001 0 0 [256 * idx + 1, (textCheck kind v).getD 0] else s
  s1.writeRow o idx 1 v (fun s => s.textTable o kind id v)

/-- TEXT_TABLE_WRITE. -/
def execTextTableWrite (o : Origin) (kind id : Nat) (v : List Byte) (s : State) : Host.Outcome State Fault Refusal :=
  .next (s.textTableRow o kind id v)

end Sys2Proof.Machine
end

