-- ==== Sys2Proof/Machine/Developer.lean ====
section
/-!
DEFINITION. The Developer (ch 5, R106 to R115): the reservation of a revival, its start, the arrival of a page, the window,
pages that cannot be had, and the leases of extents.
-/

namespace Sys2Proof.Machine

/-- The pages of session `i` that are not in T1, layer by layer in increasing index (R108): (layer, index, page). -/
def State.missing (s : State) (i : Nat) : List (Nat × Nat × Nat) :=
  (s.refsOf i).filterMap (fun r =>
    match s.refPid r.2.2 with
    | none => none
    | some pid =>
      match s.pages.pages.get? pid with
      | none => none
      | some p => if p.inT1 then none else some (r.1, r.2.1, pid))

/-- The charge of a page in T1 (Table 3-8). -/
def Page.charge (p : Page) : Nat := if p.st = .open_ then openCharge (p.bytes / 1024) else sealedCharge (p.bytes / 1024)

/-- What the revival of session `i` reserves (R107): the charge of every page and table block not in T1. -/
def State.revivalKib (s : State) (i : Nat) : Nat :=
  ((s.missing i).map (fun m => ((s.pages.pages.get? m.2.2).map Page.charge).getD 0)).foldl (· + ·) 0
    + (if (s.tableOf i).inT1 then 0 else 2 * (s.tableOf i).blocks.length)

/-- A handle below T1 that session `i` needs and whose lease is gone (R101). -/
def State.lapsedNeed (s : State) (i : Nat) : Option Nat :=
  let t := s.tableOf i
  let p := (s.ent i).part
  if !t.inT1 ∧ s.lapsed p t.low then some t.low
  else
    (s.missing i).findSome? (fun m =>
      match s.pages.pages.get? m.2.2 with
      | some g => if s.lapsed g.part g.low then some g.low else none
      | none => none)

/-- The lower objects of session `i`'s pages that are in T1, and of its table blocks, released (R109). -/
def State.dropLower (s : State) (i : Nat) : State :=
  let s1 := (s.refsOf i).foldl (fun t r =>
    match t.refPid r.2.2 with
    | none => t
    | some pid =>
      match t.pages.pages.get? pid with
      | none => t
      | some p =>
        if p.inT1 ∧ p.low ≠ 0 then (t.dropLow p.part p.low (.page pid)).updPage pid (fun q => { q with low := 0 })
        else t) s
  let t := s1.tableOf i
  (if t.inT1 ∧ t.low ≠ 0 then (s1.dropLow (s1.ent i).part t.low (.tables i)).setTable i { t with low := 0 } else s1).evacTidy

/-- The T1 copies of session `i`'s promoted pages released, their lower objects kept; a shared page that a session which is
not PARKED names keeps its T1 copy, and its lower object goes (R109, R64). -/
def State.dropCopies (s : State) (i : Nat) : State :=
  let s1 := (s.refsOf i).foldl (fun t r =>
    match t.refPid r.2.2 with
    | none => t
    | some pid =>
      match t.pages.pages.get? pid with
      | none => t
      | some p =>
        if !p.inT1 ∨ p.low = 0 then t
        else if t.mayGoDown i r.2.2 then
          ((((t.negCopy pid p.half p.bytes).scrubT1 p.a).scrubT1 p.b).subCharge p.part p.half p.charge).updPage pid
            (fun q => { q with a := 0, b := 0 })
        else (t.dropLow p.part p.low (.page pid)).updPage pid (fun q => { q with low := 0 })) s
  let t := s1.tableOf i
  if !t.inT1 ∨ t.low = 0 then s1
  else
    let s2 := s1.scrubBlocks t
    ((s2.subCharge (s2.ent i).part (s2.ent i).shalf (2 * t.blocks.length)).setTable i
      { t with blocks := t.blocks.map (fun b => { b with a := 0, b := 0 }), inT1 := false }).setRoot i

/-- The window in force for a revival of session `i` asking for `w` layers (R110). -/
def State.windowFor (s : State) (i w : Nat) : Nat := min (if w = 0 then s.dval 0x3100 1 else w) (s.layersOf i)

/-- REVIVEs that wait on session `i` complete. -/
def State.endRevives (s : State) (i st aux : Nat) : State :=
  match s.own.dev.get? i with
  | none => s
  | some d =>
    d.revives.foldl (fun t c => t.doneSess c i st 0 aux)
      { s with own := { s.own with dev := s.own.dev.put i { d with revives := [] } } }

/-- reslayers brought up to date, and what is still reserved to what is still to come; the session leaves DEVELOPING when it reaches the
window (R109 to R111), and the Developer stops when every layer is resident. -/
def State.developed (s : State) (i : Nat) : State :=
  match s.own.dev.get? i with
  | none => s.setRes i
  | some d =>
    let d1 : DevRun := { d with reserve := min d.reserve (s.revivalKib i) }
    let s0 := State.setRes { s with own := { s.own with dev := s.own.dev.put i d1 } } i
    let n := (s0.ent i).reslayers
    let s1 := s0.count 0x8310 2 (n - (s.ent i).reslayers)
    let s2 :=
      if (s1.ent i).state = .developing ∧ d.window ≤ n then
        let t := (s1.dropLower i).toState i (if (s1.ent i).sv then .live else .idle)
        t.endRevives i stOK n
      else if (s1.ent i).state = .developing then s1
      else s1.dropLower i
    if s1.layersOf i ≤ n then s2.dropDev i else s2

/-- Session `i` goes from PARKED to DEVELOPING (R96, R107, R108): its reservation `kib` is held, a running demotion stops,
TON is cleared. -/
def State.startDev (s : State) (i kib w : Nat) (revives : List Cmd) : State :=
  let s1 := (((s.stopDemotion i stOK 1 false).toState i .developing).stopTtl i).count 0x8310 1 1
  State.developed { s1 with own := { s1.own with dev := s1.own.dev.put i { window := s1.windowFor i w, reserve := kib, revives } } } i

/-- A Developer without a window for a session that is LIVE or IDLE after a move with layers below T1 (R111). -/
def State.startDevOpen (s : State) (i kib : Nat) : State :=
  State.developed { s with own := { s.own with dev := s.own.dev.put i { window := 0, reserve := kib, revives := [] } } } i

/-- The request attached to session `i` ends, where one is. -/
def State.endAttached (s : State) (i st dt : Nat) : State :=
  let e := s.ent i
  if e.sv ∧ s.sess.slots.has e.slot then s.endReq e.slot st dt (if st = stCANCELLED ∨ st = stOK then none else some 0) else s

/-- A DEVELOPING session goes back to PARKED (R109, R111): its request and the REVIVEs that wait complete `st`, the T1
copies are released, and its TTL starts anew. -/
def State.backToParked (s : State) (i st : Nat) : State :=
  let s1 := (((s.endAttached i st 0).endRevives i st 0).dropDev i).dropCopies i
  ((s1.toState i .parked).startTtl i).setRes i

/-- A page that session `i` needs cannot be had (R115, R257): a DEVELOPING session returns to PARKED with `st`; another
waits. -/
def State.unobtainable (s : State) (i st : Nat) : State :=
  if (s.ent i).state = .developing then s.backToParked i st else s

/-- A page's object arrives for session `i`: placed, charged from what is reserved, and sealed or mirrored (R97, R108). -/
def State.placePage (s : State) (i l pidx pid : Nat) (p : Page) (poison : Bool) : State :=
  let h := (s.ent i).shalf
  let k := p.bytes / 1024
  let st := (i + l + pidx) % 16
  let r : State × Nat × Nat :=
    if p.st = .open_ then s.allocPair h st 1 k
    else
      let a := s.allocT1 h st 1 k
      (a.1.addMember a.2, a.2, 0)
  if r.2.1 = 0 then s
  else
    let s1 := (r.1.negCopy pid h p.bytes).updPage pid (fun q =>
      { q with
        a := r.2.1, b := r.2.2, half := h
        pchk := if poison then .poisoned else q.pchk
        rows := if poison && q.st == .open_ then q.rows.mapV (fun _ x => { x with chkA := .poisoned, chkB := .poisoned }) else q.rows })
    let s2 := s1.addCharge p.part h p.charge
    { s2 with own := { s2.own with dev := s2.own.dev.upd i (fun d => { d with reserve := d.reserve - p.charge }) } }

/-- The other sessions that name page `pid`, which has come up to T1, brought up to date (R106, R107). -/
def State.sharersDeveloped (s : State) (i pid : Nat) : State :=
  ((s.pages.tables.map (·.1)).filter (fun j => j != i && (s.refsOf j).any (fun r => s.refPid r.2.2 == some pid))).foldl
    (fun t j => t.developed j) s

/-- The table blocks of session `i` are fetched, before any page (R108): `chk` as for a page. Blocks that carry poison or fail cannot be
had. -/
def State.tablesFetched (s : State) (i : Nat) (reachable : Bool) (chk : Nat) : State :=
  let t := s.tableOf i
  let e := s.ent i
  match s.own.dev.get? i with
  | none => s
  | some _ =>
    if t.inT1 ∨ (s.boot.bridge ∧ hdTier t.low = 2) then s
    else if s.lapsed e.part t.low ∨ !reachable then (s.lapseEvent e.part e.shalf t.low).unobtainable i stLEASE
    else if chk ≠ 0 ∨ s.t2Lost t.low t.blocks.length then
      ((s.count 0x8600 2 1).raise 0x6002 e.part e.shalf ([e.shalf, hdTier t.low] ++ w2 (hdLoc t.low))).unobtainable i stCHECK
    else (s.raiseTables i).developed i

/-- DEVELOPER_PAGE_FETCHED (R108, R115, R257): `chk` 0 for an object that decodes and verifies, 1 for one that carries
poison, 2 for one that is uncorrectable; page 0 stands for the table blocks. Every T2 stripe has shares on both halves (R83), so while
the bridge is down the fetch of a T2 object waits (R24). Any page still to come may be in flight, since its tier's budget bounds a rate and
no number (DESIGN CHOICE log 94). -/
def State.pageFetched (s : State) (i pid : Nat) (reachable : Bool) (chk : Nat) : State :=
  if pid = 0 then s.tablesFetched i reachable chk
  else
  match s.own.dev.get? i, (s.missing i).find? (fun m => m.2.2 == pid) with
  | some _, some (l, pidx, _) =>
    (match s.pages.pages.get? pid with
     | none => s
     | some p =>
       if !(s.tableOf i).inT1 then s
       else if s.boot.bridge ∧ hdTier p.low = 2 then s
       else if s.lapsed p.part p.low ∨ !reachable then (s.lapseEvent p.part (s.ent i).shalf p.low).unobtainable i stLEASE
       else if chk = 2 ∨ p.lowChk = .failed ∨ s.t2Lost p.low p.clen then
         let s1 := s.updPage pid (fun q => { q with lowChk := .failed })
         let s2 := if p.lowChk = .failed then s1
           else ((s1.count 0x8600 2 1).raise 0x6002 p.part (s.ent i).shalf ([(s.ent i).shalf, hdTier p.low] ++ w2 (hdLoc p.low))).raise
             0x6003 p.part (s.ent i).shalf (w2 (s.handleOf i) ++ [l, pidx])
         s2.unobtainable i stCHECK
       else
         let s1 := s.placePage i l pidx pid p (chk == 1 || p.lowChk == .poisoned)
         let s2 := ((s1.count 0x8300 2 1).countUnits 0x8310 3 4096 (1024 * p.clen)).countUnits 0x8300 4 4096
           (if hdTier p.low = 2 then 1024 * p.clen else 0)
         (s2.developed i).sharersDeveloped i pid)
  | _, _ => s

/-- DEVELOPER_PAGE_FETCHED. -/
def execDeveloperPageFetched (idx pid : Nat) (reachable : Bool) (chk : Nat) (s : State) : Host.Outcome State Fault Refusal :=
  .next (s.pageFetched idx pid reachable chk)

/-- The DEVELOPING sessions that need a page whose lease is gone return to PARKED (R115). -/
def State.lapsedDevs (s : State) : State :=
  s.own.dev.foldl (fun t d => if (t.lapsedNeed d.1).isSome then t.unobtainable d.1 stLEASE else t) s

/-- A T3 extent's lease lapses (R101): event 0x300A where it holds objects. -/
def State.lapseExtent (s : State) (p id : Nat) : State :=
  match s.tiers.extents.get? (128 * p + id) with
  | none => s
  | some x =>
    let s1 : State := { s with tiers := { s.tiers with extents := s.tiers.extents.put (128 * p + id) { x with leased := false } } }
    (if x.allocs.isEmpty ∨ !x.leased then s1 else s1.lapseEvent p 0 (3 * 2 ^ 45 + id * 2 ^ 38)).lapsedDevs

end Sys2Proof.Machine
end

