-- ==== Sys2Proof/Machine/Cores.lean ====
section
/-!
DEFINITION. Placement of work on the compute cores (R143 to R145, R264, R269, R272): which core takes a split, a Proof
run, a scan or a test, the queues of each partition, and what a core takes when it becomes free.
-/

namespace Sys2Proof.Machine

/-- A core as after a start-up: no partition, nothing running, in service. -/
def Core.blank : Core := { cur := none, sliceEnd := 0, run := none, excluded := false, failed := false }

/-- Core `c`. -/
def State.core (s : State) (c : Nat) : Core := s.sched.cores.getD c Core.blank

/-- `s` with core `c` set. -/
def State.setCore (s : State) (c : Nat) (x : Core) : State :=
  { s with sched := { s.sched with cores := s.sched.cores.put c x } }

/-- The half of core `c`: clusters 0 to 7 are West. -/
def coreHalf (c : Nat) : Nat := if c < 128 then 0 else 1

/-- Is core `c` in the set of partition `p` (Table 6-11)? -/
def State.inSet (s : State) (p c : Nat) : Bool := bitN (s.dval (0x2240 + p) (1 + c / 64)) (c % 64)

/-- The enabled partitions whose set names core `c`. -/
def State.coreParts (s : State) (c : Nat) : List Nat := (List.range 64).filter (fun p => s.partOn p && s.inSet p c)

/-- Is core `c` shared: named by more than one enabled partition's set? -/
def State.coreShared (s : State) (c : Nat) : Bool := decide (2 ≤ (s.coreParts c).length)

/-- The cores of half `h` in the order of their numbers. -/
def halfCores (h : Nat) : List Nat := (List.range 128).map (· + 128 * h)

/-- Does a core lie in the sets of two enabled partitions (R366)? -/
def State.coresShared (s : State) : Bool :=
  (List.range 256).any (fun c => decide (2 ≤ ((List.range 64).filter (fun p => s.partOn p && s.inSet p c)).length))

/-- The core set of partition `p` on half `h` less its excluded cores (R272). -/
def State.coreSet (s : State) (h p : Nat) : List Nat :=
  (halfCores h).filter (fun c => s.inSet p c && !(s.core c).excluded)

/-- Is the core free? One that runs a known-answer test is, for the test gives way (R269). -/
def Core.idle (c : Core) : Bool :=
  match c.run with
  | none => true
  | some (.kat _ _) => true
  | _ => false

/-! ## Queues -/

/-- The queue of class `cls` of partition `p` on half `h` (R143). -/
def State.queue (s : State) (h p cls : Nat) : List Work :=
  ((s.sched.queues.find? (fun q => q.half == h && q.part == p && q.cls == cls)).map (·.items)).getD []

/-- `s` with that queue `l`. -/
def State.setQueue (s : State) (h p cls : Nat) (l : List Work) : State :=
  let rest := s.sched.queues.filter (fun q => !(q.half == h && q.part == p && q.cls == cls))
  { s with sched := { s.sched with queues := if l.isEmpty then rest else rest ++ [{ half := h, part := p, cls, items := l }] } }

/-- Has partition `p` queued work on half `h`? -/
def State.hasWork (s : State) (h p : Nat) : Bool := s.sched.queues.any (fun q => q.half == h && q.part == p)

/-- The unplaced splits of a request leave the queues: it takes no further part in its step (R142). -/
def State.withdraw (s : State) (h lane slot : Nat) : State :=
  let keep := fun (w : Work) => match w with
    | .split h' l' k' _ _ => !(h' == h && l' == lane && k' == slot)
    | _ => true
  { s with sched := { s.sched with
    queues := (s.sched.queues.map (fun q => { q with items := q.items.filter keep })).filter (fun q => !q.items.isEmpty) } }

/-! ## Proof runs (R264) -/

/-- The cores a run of Proof `x` may use: the set's in other clusters than its earlier runs', else the set's other cores,
else the in-service cores of the half outside the set. -/
def State.proofCores (s : State) (x : Proof) : List Nat :=
  let avoid := if x.run = 3 then [x.core, x.rcore] else [x.core]
  let set := s.coreSet x.half x.part
  let a := set.filter (fun c => !(avoid.map (· / 16)).contains (c / 16))
  let b := set.filter (fun c => !avoid.contains c)
  if !a.isEmpty then a
  else if !b.isEmpty then b
  else (halfCores x.half).filter (fun c => !s.inSet x.part c && !(s.core c).excluded && !avoid.contains c)

/-- May core `c` take work `w` of partition `p`? -/
def State.mayRun (s : State) (c p : Nat) : Work → Bool
  | .proof id _ =>
    match s.integ.proofs.get? id with
    | some x => (s.proofCores x).contains c
    | none => true
  | _ => s.inSet p c && !(s.core c).excluded

/-! ## Placement -/

/-- The slice of partition `p` in ns (Table 6-11). -/
def State.sliceNs (s : State) (p : Nat) : Nat := 1000 * s.dval 0x2200 1 * s.dval (0x2240 + p) 5

/-- Is a free core `c` eligible for partition `p` at time `t` (R143)? -/
def State.eligible (s : State) (c p t : Nat) : Bool :=
  let x := s.core c
  if !s.coreShared c then true
  else
    match x.cur with
    | none => true
    | some q => (q == p && decide (t < x.sliceEnd)) || !s.hasWork (coreHalf c) q

/-- Core `c` starts work `w` of partition `p`: a shared core that changes partition clears its scratchpad and begins a
slice, and one that has finished a split when its slice is over (`renew`) begins another (R143, R144). A run outside the
partition's set clears the scratchpad before and after, and leaves the core without a current partition (R264). -/
def State.startWork (s : State) (c p t : Nat) (w : Work) (renew : Bool) : State :=
  let x := s.core c
  let shared := s.coreShared c
  let change := shared && x.cur != some p
  let fresh := change || (renew && shared && decide (x.sliceEnd ≤ t))
  let away := !s.inSet p c
  let s1 := s.setCore c { x with
    cur := if away then none else some p, sliceEnd := if fresh then t + s.sliceNs p else x.sliceEnd, run := some w }
  let s2 := if change then s1.count 0x8220 8 (if away then 2 else 1) else s1
  match w with
  | .split _ _ _ _ _ => s2.count 0x8220 7 1
  | .proof _ _ => s2.count 0x8220 7 1
  | _ => s2

/-- The split of `w` is marked with where it stands. -/
def State.noteSplit (s : State) (w : Work) (x : SplitState) : State :=
  match w with
  | .split h lane slot _ j =>
    { s with sched := { s.sched with lanes := s.sched.lanes.upd (8 * h + lane) (fun l =>
      { l with step := l.step.map (fun st =>
        { st with reqs := st.reqs.map (fun r => if r.slot = slot then { r with splits := r.splits.put j x } else r) }) }) } }
  | _ => s

/-- Work `w` of partition `p` and class `cls` on half `h`: placed on the lowest free eligible core of `cores`, else at the
tail of its queue (R143). -/
def State.placeWork (s : State) (h p cls t : Nat) (w : Work) (cores : List Nat) : State :=
  match cores.find? (fun c => (s.core c).idle && s.eligible c p t) with
  | some c => (s.startWork c p t w false).noteSplit w (.running c)
  | none => (s.setQueue h p cls (s.queue h p cls ++ [w])).noteSplit w .queued

/-- The first work of partition `p` that core `c` may take: Proof runs first, then LC, BE and scans. -/
def State.pickFor (s : State) (c p : Nat) : Option (Nat × Work) :=
  (List.range 4).findSome? (fun cls => ((s.queue (coreHalf c) p cls).find? (s.mayRun c p)).map (fun w => (cls, w)))

/-- The partitions in the order in which free core `c` looks for work (R144): the current one first while its slice lasts,
else last. -/
def State.partOrder (s : State) (c t : Nat) : List Nat :=
  let x := s.core c
  match x.cur with
  | none => List.range 64
  | some p =>
    let rest := (List.range 63).map (fun i => (p + 1 + i) % 64)
    if !s.coreShared c || decide (t < x.sliceEnd) then p :: rest else rest ++ [p]

/-- A test that core `c` may start now (R269, R270): a TEST of it, else the next pattern of the period. -/
def State.nextTest (s : State) (c : Nat) : Option Work :=
  match s.integ.tests.find? (fun x => x.core == c) with
  | some x => some (.kat x.pattern true)
  | none =>
    if (s.core c).excluded || s.dval 0x6000 2 == 0 then none
    else ((s.integ.kat.get (coreHalf c)).find? (fun n => n / 64 == c)).map (fun n => .kat (n % 64) false)

/-- Core `c` has become free: it takes its next work, a test, or stays free (R144). -/
def State.nextWork (s : State) (c t : Nat) : State :=
  let x := s.core c
  let s0 := s.setCore c { x with run := none }
  match (s0.partOrder c t).findSome? (fun p => (s0.pickFor c p).map (fun w => (p, w))) with
  | some (p, cls, w) =>
    let s1 := s0.setQueue (coreHalf c) p cls ((s0.queue (coreHalf c) p cls).erase w)
    (s1.startWork c p t w true).noteSplit w (.running c)
  | none => s0.setCore c { x with run := s0.nextTest c }

/-- The free cores of half `h` take queued work that has become eligible, lowest number first. -/
def State.kick (s : State) (h t : Nat) : State :=
  (halfCores h).foldl (fun u c => if (u.core c).idle && !u.sched.queues.isEmpty then u.nextWork c t else u) s

/-- The failures of a unit in the day (R273): one more of core `c`, and event 0x6042 once when the threshold is reached. -/
def State.coreFault (s : State) (c : Nat) : State :=
  let k := 9000 + c
  let n := s.integ.daily.getD k 0 + 1
  let s1 : State := { s with integ := { s.integ with daily := s.integ.daily.put k n } }
  let lim := s.dval 0x6000 5
  if 0 < lim ∧ n = lim then s1.raise 0x6042 0 (coreHalf c) [0, c, n] else s1

/-- The counter of a core's failures of kind `kind` (Table 12-8). -/
def State.countCore (s : State) (kind c : Nat) : State := s.count (0x8610 + 4 * kind + c / 64) (1 + c % 64) 1

end Sys2Proof.Machine
end

