-- ==== Sys2Proof/Machine/Embedding.lean ====
section
/-!
DEFINITION. Embedding tables (ch 10): row formats, the hot region with its sketch, fills and evictions, held updates and
buffered sets, the embedding messages, the commands of Table 10-3 and the load and unload of a table.
-/

namespace Sys2Proof.Machine

/-! ## Rows -/

/-- The decode table of table `t` (R216): 256 entries for format 4, 16 for format 6. -/
def State.embDecTab (s : State) (t : Nat) : List Nat :=
  let fmt := s.embF t 5
  let b := if fmt = 4 then s.dbytes 0x2380 (1 + s.embF t 6) else if fmt = 6 then s.dbytes 0x5280 (1 + s.embF t 6) else []
  (List.range (b.length / 2)).map (fun i => leAt b (2 * i) 2)

/-- An FP32 value that is not finite: NaN reads +0.0, an infinity the largest finite value with its sign (R153). -/
def tame32 (a : Nat) : Nat := if ffinite a then a else if bitsN a 22 0 = 0 then bitsN a 31 31 * 2 ^ 31 + 0x7F7FFFFF else 0

/-- The code of element `e` of a code row. -/
def embCode (fmt : Nat) (b : List Byte) (e : Nat) : Nat :=
  if fmt ≤ 4 then leAt b (8 + e) 1 else bitsN (leAt b (8 + e / 2) 1) (4 * (e % 2) + 3) (4 * (e % 2))

/-- A row decoded to FP32 (R217): its elements, the scales and offsets that were not finite, and whether anything was not. -/
def embDecode (fmt d : Nat) (tab : List Nat) (b : List Byte) : List Nat × Nat × Bool :=
  if fmt = 0 then
    let x := (List.range d).map (fun e => leAt b (4 * e) 4)
    (x.map tame32, 0, x.any (fun a => !ffinite a))
  else if fmt ≤ 2 then
    let x := (List.range d).map (fun e => leAt b (2 * e) 2)
    (x.map (decodeElem (fmt - 1) []), 0, x.any (oddCode (fmt - 1)))
  else
    let sc := leAt b 0 4
    let off := leAt b 4 4
    let n := b2n (!ffinite sc) + b2n (!ffinite off)
    let sc1 := if ffinite sc then sc else 0
    let off1 := if ffinite off then off else 0
    ((List.range d).map (fun e =>
      let c := embCode fmt b e
      let q := if fmt = 4 ∨ fmt = 6 then nth tab c 0 * 65536 else fofNat c
      oadd (omul sc1 q) off1), n, decide (0 < n))

/-- FP32 values as the bytes of `ofmt` (R217). -/
def embOut (ofmt : Nat) (x : List Nat) : List Byte :=
  x.flatMap (fun a => if ofmt = 0 then leBytes 4 a else leBytes 2 (enc16 (ofmt - 1) a))

/-- The device address of tail row `i` of table `t`. -/
def State.tailAt (s : State) (t i : Nat) : Nat := s.embF t 2 + i * s.embStride t

/-- The device address of hot slot `k` of table `t`. -/
def State.slotAt (s : State) (t k : Nat) : Nat := s.embF t 9 + k * s.embStride t

/-- A row's `n` bytes copied with its poison mark (R258, Table 12-2). -/
def State.copyRow (s : State) (src dst n : Nat) : State :=
  let s1 := s.devWrite dst (s.memRead src n)
  if s.poisoned src n then (List.range (cdiv n 4096)).foldl (fun u j => u.poisonBlock (dst + 4096 * j)) s1 else s1

/-- Is a granule of the `n` bytes at `addr` out of reach: its lease is gone or its T2 shares are lost? -/
def State.unreadable (s : State) (addr n : Nat) : Bool :=
  (granSpan addr n).any (fun g => match s.gran g with
    | some x => s.lapsed (granPart g) x.handle || s.t2Lost x.handle 2050
    | none => true)

/-- Do all granules of the `n` bytes at `addr` lie in T1? -/
def State.wholeT1 (s : State) (addr n : Nat) : Bool :=
  (granSpan addr n).all (fun g => ((s.gran g).map (·.tier)).getD 0 == 1)

/-- Does a granule of the tail row `i` of table `t` lie in T2? -/
def State.tailInT2 (s : State) (t i : Nat) : Bool :=
  (granSpan (s.tailAt t i) (s.embStride t)).any (fun g => ((s.gran g).map (·.tier)).getD 0 == 2)

/-! ## Tags and the sketch -/

/-- Embedding table `t` changed by `f`. -/
def State.updEmb (s : State) (t : Nat) (f : EmbTab → EmbTab) : State :=
  { s with emb := { s.emb with tabs := s.emb.tabs.upd t f } }

/-- The home half of table `t`. -/
def State.embHome (s : State) (t : Nat) : Nat := ((s.emb.tabs.get? t).map (·.home)).getD 0

/-- The tag of slot `k` of table `t`, none when EMPTY. -/
def State.embTag (s : State) (t k : Nat) : Option EmbTag := (s.emb.tabs.get? t).bind (fun x => x.tags.get? k)

/-- The slot of row `i` of table `t` (R220). -/
def State.embSlot (s : State) (t i : Nat) : Option (Nat × EmbTag) :=
  match s.emb.tabs.get? t with
  | none => none
  | some x =>
    let sets := s.embF t 8 / 8
    if sets = 0 then none
    else (List.range 8).findSome? (fun w =>
      let k := 8 * (i % sets) + w
      match x.tags.get? k with
      | some g => if g.row = i then some (k, g) else none
      | none => none)

/-- The cell of row `i` in each bank of the sketch (R221). -/
def sketchCells (i : Nat) : List Nat :=
  [0x9E3779B1, 0x85EBCA77, 0xC2B2AE3D, 0x27D4EB2F].mapIdx (fun b k => 16384 * b + (i * k) % 2 ^ 32 / 2 ^ 18)

/-- One gather of row `i` counted in the sketch. -/
def EmbTab.touch (x : EmbTab) (i : Nat) : EmbTab :=
  { x with sketch := (sketchCells i).foldl (fun m c => m.put c (m.getD c 0 + 1)) x.sketch }

/-- The estimate of a row (R221): the least of its four cells. -/
def EmbTab.estimate (x : EmbTab) (i : Nat) : Nat :=
  let v := (sketchCells i).map (fun c => x.sketch.getD c 0)
  v.foldl min (nth v 0 0)

/-- The candidate way for row `i` (R222): the lowest EMPTY one, else the VALID one of the lowest estimate, which with
`forced` needs no higher estimate of `i`. -/
def State.embWay (s : State) (t i : Nat) (forced : Bool) : Option (Nat × Option EmbTag) :=
  match s.emb.tabs.get? t with
  | none => none
  | some x =>
    let sets := s.embF t 8 / 8
    if sets = 0 then none
    else
      let ks := (List.range 8).map (fun w => 8 * (i % sets) + w)
      match ks.find? (fun k => !x.tags.has k) with
      | some k => some (k, none)
      | none =>
        let best := ks.foldl (fun (a : Option (Nat × EmbTag)) k =>
          match x.tags.get? k with
          | some g =>
            if g.st ≠ 2 then a
            else match a with
              | some (_, b) => if x.estimate g.row < x.estimate b.row then some (k, g) else a
              | none => some (k, g)
          | none => a) none
        match best with
        | some (k, g) => if forced ∨ x.estimate g.row < x.estimate i then some (k, some g) else none
        | none => none

/-- Slot `k` of table `t` tagged `g`. -/
def State.setTag (s : State) (t k : Nat) (g : EmbTag) : State := s.updEmb t (fun x => { x with tags := x.tags.put k g })

/-- Slot `k` of table `t` EMPTY. -/
def State.clearTag (s : State) (t k : Nat) : State := s.updEmb t (fun x => { x with tags := x.tags.del k })

/-- A fill of row `i` of table `t` starts, evicting the candidate way's row first where it has one (R222, R223); nothing
when the row has a slot or an eviction makes way for it already, or no way is a candidate. -/
def State.startFill (s : State) (t i : Nat) (forced : Bool) : State :=
  let coming := match s.emb.tabs.get? t with
    | some x => x.tags.any (fun kg => kg.2.row == i || kg.2.next == some i)
    | none => true
  if coming then s
  else
    match s.embWay t i forced with
    | none => s
    | some (k, none) => (s.setTag t k { row := i, st := 1, dirty := false, next := none }).count 0x8520 3 1
    | some (k, some g) => (s.setTag t k { g with st := 3, next := some i }).count 0x8520 3 1

/-! ## Updates -/

/-- The slot that row `i` of table `t` has, takes after the eviction that makes way for it, or would take by a forced fill; the first way
of its set while it has none of these (log 71). -/
def State.embPlace (s : State) (t i : Nat) : Nat :=
  match s.embSlot t i with
  | some (k, _) => k
  | none =>
    match ((s.emb.tabs.get? t).bind (fun x => x.tags.find? (fun kg => kg.2.next == some i))), s.embWay t i true with
    | some (k, _), _ => k
    | none, some (k, _) => k
    | none, none => 8 * (i % (s.embF t 8 / 8))

/-- The memory port that holds the slot of row `i` of table `t` (R223): 16 × half + stack. -/
def State.embPort (s : State) (t i : Nat) : Nat :=
  let a := if s.embF t 8 / 8 = 0 then s.tailAt t i else s.slotAt t (s.embPlace t i)
  match s.gran (granOf a) with
  | some x => if x.tier = 1 then 16 * locHalf x.loc + locStack x.loc else 16 * s.embHome t
  | none => 16 * s.embHome t

/-- The update `u` applied to the row at address `a` (R229, R230): each element added, or the row overwritten. -/
def State.applyAt (s : State) (u : RowUpd) (a : Nat) : State :=
  let fmt := s.embF u.table 5
  let d := s.embF u.table 4
  let n := s.embStride u.table
  let s0 := s.access a n
  if u.isSet then (s0.devWrite a (fitBytes n u.data)).count 0x8520 6 1
  else
    let w := if fmt = 0 then 4 else 2
    let old := s0.memRead a (w * d)
    let new := (List.range d).flatMap (fun e =>
      let v := if u.df then leAt u.data (2 * e) 2 * 65536 else leAt u.data (4 * e) 4
      leBytes w (if fmt = 0 then oadd (leAt old (4 * e) 4) v else oaddBf (leAt old (2 * e) 2) v))
    let bad := (List.range (n / 4096 + 2)).filter (fun j => s0.tiers.poison.contains (a / 4096 + j) && decide (4096 * (a / 4096 + j) < a + n))
    let s1 := s0.devWrite a new
    ((bad.foldl (fun t j => t.poisonBlock (4096 * (a / 4096 + j))) s1).count 0x8300 8 d).count 0x8520 5 1

/-- Update `u` held in the side buffer of its port; none when the buffer is full (R225). -/
def State.holdUpd (s : State) (u : RowUpd) : Option State :=
  if s.dval 0x5200 3 ≤ (s.emb.held.filter (fun x => x.port == u.port)).length then none
  else some { s with emb := { s.emb with held := s.emb.held ++ [u] } }

/-- Update `u` applied or held (R223 to R225); none when a full side buffer refuses it. -/
def State.embUpd (s : State) (u : RowUpd) : Option State :=
  match s.embSlot u.table u.row with
  | some (k, g) =>
    if g.st = 2 then some ((s.applyAt u (s.slotAt u.table k)).setTag u.table k { g with dirty := true })
    else s.holdUpd u
  | none =>
    if s.wholeT1 (s.tailAt u.table u.row) (s.embStride u.table) then some (s.applyAt u (s.tailAt u.table u.row))
    else (s.holdUpd u).map (fun s1 => s1.startFill u.table u.row true)

/-- The updates held for row `i` of table `t`. -/
def State.heldFor (s : State) (t i : Nat) : List RowUpd := s.emb.held.filter (fun u => u.table == t && u.row == i)

/-- The side buffer of memory port `port` refused an update of table `t`: event 0x5021 once per table until an entry of it frees (R225). -/
def State.sideFull (s : State) (t port : Nat) : State :=
  let k := latchKey 0x5021 t
  if s.ev.latch.has k then s
  else ({ s with ev := { s.ev with latch := s.ev.latch.put k port } }).raise 0x5021 (s.embF t 0x11) (s.embHome t) [t, s.embHome t]

/-- Entries of the side buffers of `ports` are free again: the tables they had refused may tell it anew. -/
def State.sideFree (s : State) (ports : List Nat) : State :=
  { s with ev := { s.ev with latch := s.ev.latch.keep (fun k p => !(k / 2 ^ 40 == 0x5021 && ports.contains p)) } }

/-- `s` without the updates held for row `i` of table `t`. -/
def State.dropHeld (s : State) (t i : Nat) : State :=
  let us := s.heldFor t i
  if us.isEmpty then s
  else ({ s with emb := { s.emb with held := s.emb.held.filter (fun u => !(u.table == t && u.row == i)) } }).sideFree (us.map RowUpd.port)

/-- The rows of table `t` that hold updates and have no way try for one again (R225). -/
def State.retryHeld (s : State) (t : Nat) : State :=
  (s.emb.held.filter (fun u => u.table == t)).foldl (fun v u =>
    if (v.embSlot t u.row).isSome then v else v.startFill t u.row true) s

/-- The switch of a fill (R223): the way becomes VALID and the held updates are applied in arrival order. A tail that does not
verify is reported (R256) and ends the fill, and the held updates are applied to the tail under R225. The copy of a tail in T2 waits for
the bridge (R24). -/
def State.fillSwitch (s : State) (t i : Nat) : State :=
  match s.embSlot t i with
  | none => s
  | some (k, g) =>
    if g.st ≠ 1 then s
    else
      let us := s.heldFor t i
      let n := s.embStride t
      if s.boot.bridge ∧ s.tailInT2 t i then s
      else if s.unreadable (s.tailAt t i) n then
        let s1 := s.uncorrectable (s.embF t 0x11) (((s.gran (granOf (s.tailAt t i))).map Granule.handle).getD 0)
        (us.foldl (fun v u => (v.embUpd u).getD v) ((s1.clearTag t k).dropHeld t i)).retryHeld t
      else
        let s1 := ((s.copyRow (s.tailAt t i) (s.slotAt t k) n).dropHeld t i).setTag t k { g with st := 2, dirty := !us.isEmpty }
        (us.foldl (fun v u => v.applyAt u (v.slotAt t k)) s1).retryHeld t

/-- FILL_SWITCH. -/
def execFillSwitch (table row : Nat) (s : State) : Host.Outcome State Fault Refusal := .next (s.fillSwitch (table % 64) row)

/-- The switch of an eviction (R224): a DIRTY slot has been copied to the tail, the way is EMPTY and taken by the row the
eviction made way for; held updates go to a tail in T1, or start a forced fill. -/
def State.evictionSwitch (s : State) (t i : Nat) : State :=
  match s.embSlot t i with
  | none => s
  | some (k, g) =>
    if g.st ≠ 3 then s
    else
      let s1 := if g.dirty then (s.copyRow (s.slotAt t k) (s.tailAt t i) (s.embStride t)).count 0x8520 4 1 else s
      let s2 := match g.next with
        | some j => s1.setTag t k { row := j, st := 1, dirty := false, next := none }
        | none => s1.clearTag t k
      let us := s2.heldFor t i
      let s3 := if s2.wholeT1 (s2.tailAt t i) (s2.embStride t) then us.foldl (fun v u => v.applyAt u (v.tailAt t i)) (s2.dropHeld t i) else s2
      s3.retryHeld t

/-- EVICTION_SWITCH. -/
def execEvictionSwitch (table row : Nat) (s : State) : Host.Outcome State Fault Refusal := .next (s.evictionSwitch (table % 64) row)

/-- SKETCH_HALVING (R221): every cell of the tables of this half is halved, rounding down. -/
def State.sketchHalving (s : State) (h : Nat) : State :=
  { s with emb := { s.emb with tabs := s.emb.tabs.mapV (fun _ x =>
    if x.home = h then { x with sketch := (x.sketch.mapV (fun _ c => c / 2)).keep (fun _ c => c != 0) } else x) } }

/-- SKETCH_HALVING. -/
def execSketchHalving (half : Nat) (s : State) : Host.Outcome State Fault Refusal := .next (s.sketchHalving (half % 2))

/-! ## Gathers -/

/-- The outcome of gathering rows: their bytes in ofmt, the position of the first poisoned row, and of the first whose
block does not verify. -/
structure Gathered where
  data : List Byte
  poison : Option Nat
  failed : Option Nat
deriving DecidableEq, Repr

/-- The slot that row `i` of table `t` is read from, none where it is read from the tail (R227). -/
def State.readSlot (s : State) (t i : Nat) : Option Nat :=
  match s.embSlot t i with
  | some (k, g) => if g.st = 2 ∨ g.st = 3 then some k else none
  | none => none

/-- Where row `i` of table `t` is read (R227). -/
def State.readAt (s : State) (t i : Nat) : Nat :=
  match s.readSlot t i with
  | some k => s.slotAt t k
  | none => s.tailAt t i

/-- Must the read of row `i` of table `t` wait for the bridge (R24)? -/
def State.readWaits (s : State) (t i : Nat) : Bool := s.boot.bridge && (s.readSlot t i).isNone && s.tailInT2 t i

/-- Row `i` of table `t` read where it stands and decoded (R217), what is not finite counted and told once: its elements as FP32. -/
def State.decodeRow (s : State) (t i : Nat) : State × List Nat :=
  let n := embRowBytes (s.embF t 5) (s.embF t 4)
  let x := embDecode (s.embF t 5) (s.embF t 4) (s.embDecTab t) (s.memRead (s.readAt t i) n)
  let s1 := (s.access (s.readAt t i) n).count 0x8520 7 x.2.1
  (if x.2.2 then s1.raiseOnce 0x5022 t (s.embF t 0x11) (s.embHome t) [t, i] else s1, x.1)

/-- One row read from its slot or tail (R222, R227), counted in the sketch, and admitted to the hot region where it missed. -/
def State.gatherRow (s : State) (t i : Nat) : State × List Nat × Bool × Bool :=
  let n := embRowBytes (s.embF t 5) (s.embF t 4)
  let x := (s.updEmb t (fun x => x.touch i)).decodeRow t i
  let s1 := x.1.count 0x8520 1 1
  let s2 := match s.readSlot t i with
    | some _ => s1.count 0x8520 2 1
    | none =>
      if ((s1.emb.tabs.get? t).map (fun y => decide (s1.embF t 0xE ≤ y.estimate i))).getD false then s1.startFill t i false else s1
  (s2, x.2, s.poisoned (s.readAt t i) n, s.unreadable (s.readAt t i) n)

/-- Rows `l` gathered in order, `k` the position of the first. -/
def State.gatherRows (s : State) (t : Nat) : List Nat → Nat → Gathered → State × Gathered
  | [], _, g => (s, g)
  | i :: r, k, g =>
    let x := s.gatherRow t i
    let g1 : Gathered :=
      { data := g.data ++ embOut (s.embF t 7) x.2.1
        poison := if g.poison.isNone && x.2.2.1 then some k else g.poison
        failed := if g.failed.isNone && x.2.2.2 then some k else g.failed }
    State.gatherRows x.1 t r (k + 1) g1

/-- Nothing gathered yet. -/
def Gathered.none_ : Gathered := { data := [], poison := none, failed := none }

/-- Indices of records of `w` bytes: the first four bytes of each. -/
def recIdx (n w : Nat) (b : List Byte) : List Nat := (List.range n).map (fun k => leAt b (w * k) 4)

/-! ## Records of ADD and SET -/

/-- The bytes of an ADD record of table `t`. -/
def State.addRec (s : State) (t : Nat) (df : Bool) : Nat := 4 + (if df then 2 else 4) * s.embF t 4

/-- The bytes of a SET record of table `t`. -/
def State.setRec (s : State) (t : Nat) : Nat := 8 + embRowBytes (s.embF t 5) (s.embF t 4)

/-- The outcome of an update message or descriptor (Table 10-2): its status and the position of the first failure. -/
abbrev EmbRes := Nat × Nat

/-- The adds of `n` records applied or held in order; none at the position where a side buffer is full. -/
def State.addAll (s : State) (t : Nat) (df : Bool) (w : Nat) (b : List Byte) : List Nat → State ⊕ Nat
  | [] => .inl s
  | k :: r =>
    let i := leAt b (w * k) 4
    let u : RowUpd := { table := t, row := i, isSet := false, df, data := slice b (w * k + 4) (w - 4), port := s.embPort t i }
    match s.embUpd u with
    | some s1 => State.addAll s1 t df w b r
    | none => .inr k

/-- ADD of `n` records (R229): taken whole or not at all. -/
def State.embAdd (s : State) (t n : Nat) (df : Bool) (b : List Byte) : State × EmbRes :=
  let w := s.addRec t df
  let idx := recIdx n w b
  if !s.embWr t || decide (1 < s.embF t 5) then (s, 1, 0)
  else
    match idx.findIdx? (fun i => decide (s.embF t 3 ≤ i)) with
    | some k => (s, 1, k)
    | none =>
      match s.addAll t df w b (List.range n) with
      | .inl s1 => (s1, 0, 0)
      | .inr k => (s.sideFull t (s.embPort t (nth idx k 0)), 4, k)

/-- SET of `n` records with sequence `seq` from `sender` (R230), the lane enabled: buffered whole or not at all. -/
def State.embSet (s : State) (t n seq sender : Nat) (b : List Byte) : State × EmbRes :=
  let w := s.setRec t
  let h := s.embHome t
  match (recIdx n w b).findIdx? (fun i => decide (s.embF t 3 ≤ i)) with
  | some k => (s, 1, k)
  | none =>
    let buf := s.emb.sets.get h
    let cap := s.dval 0x5200 4
    if cap < buf.length + n then (s, 4, cap - buf.length)
    else
      let new := (List.range n).map (fun k =>
        ({ table := t, row := leAt b (w * k) 4, seq, pos := leAt b (w * k + 4) 4, sender, data := slice b (w * k + 8) (w - 8) } : SetRec))
      ({ s with emb := { s.emb with sets := s.emb.sets.set h (buf ++ new) } }, 0, 0)

/-- The order in which buffered sets are applied (R230): those of host descriptors below every endpoint's (log 71), then increasing seq,
then position, then decreasing sender. -/
def SetRec.before (a b : SetRec) : Bool :=
  if (a.sender == 64) != (b.sender == 64) then a.sender == 64
  else decide (a.seq < b.seq) || (a.seq == b.seq && (decide (a.pos < b.pos) || (a.pos == b.pos && decide (b.sender ≤ a.sender))))

/-- A set put at its place in the order. -/
def insSet (x : SetRec) : List SetRec → List SetRec
  | [] => [x]
  | y :: t => if y.before x then y :: insSet x t else x :: y :: t

/-- The sets `l` of half `h` applied in their order (R230); one that a full side buffer refuses stays buffered. -/
def State.applySets (s : State) (h : Nat) (l : List SetRec) : State :=
  (l.foldl (fun a x => insSet x a) []).foldl (fun v x =>
    let u : RowUpd := { table := x.table, row := x.row, isSet := true, df := false, data := x.data, port := v.embPort x.table x.row }
    match v.embUpd u with
    | some v1 => { v1 with emb := { v1.emb with sets := v1.emb.sets.set h ((v1.emb.sets.get h).erase x) } }
    | none => v) s

/-- The commit of lane `lane` with `seq` on half `h` applies the buffered sets of its tables (R230): a host's set counts as
of this commit. -/
def State.commitSets (s : State) (h lane seq : Nat) : State :=
  s.applySets h (((s.emb.sets.get h).filter (fun x => s.embLoaded x.table && s.embF x.table 0xB == lane && decide (x.seq ≤ seq))))

/-! ## Messages -/

/-- The header of ROWS and ACK (Table 10-2). -/
def embHeader (seq tag kind table n st first : Nat) : Nat :=
  withPar (first % 65536 * 2 ^ 49 + st * 2 ^ 66 + n * 2 ^ 70 + table * 2 ^ 86 + kind * 2 ^ 92 + tag % 2 ^ 32 * 2 ^ 96
    + seq % 2 ^ 64 * 2 ^ 128) 3 2 0

/-- A ROWS (kind 2) or ACK (kind 5) of status `st`, its data poisoned where `poison` says. -/
def State.embAnswer (s : State) (dst part kind table tag n st first : Nat) (data : List Byte) (poison : Bool) : State :=
  s.sendMsg dst part (0x1F + kind) 5 (leBytes 24 (embHeader 0 tag kind table (if st = 0 then n else 0) st first)
    ++ (if data.isEmpty then [] else withCrc data poison))

/-- Is an embedding message of `kind` whole: parity, rsvd, kind, records, length (R226)? `w` the bytes of a record. -/
def embOk (hdr : BitVec 192) (kind w len : Nat) : Bool :=
  parOk hdr.toNat 3 2 0 && zeroBits hdr 48 3 && bits hdr 95 92 == kind && decide (1 ≤ bits hdr 85 70)
    && decide (bits hdr 85 70 ≤ 4096) && decide (len ≤ 16777216) && bits hdr 85 70 * w == len

/-- A message served: discarded where it is damaged, DISABLED where the table is not loaded, DENIED where its stream or
sender may not; else `k` gives the state and the answer. `msub` is the mask's subindex. -/
def State.embMsg (s : State) (src part : Nat) (hdr : BitVec 192) (data : List Byte) (crc kind w msub : Nat)
    (k : State → Nat → Nat → State) : State :=
  let t := bits hdr 91 86
  let reply := if kind = 1 then 2 else 5
  if !embOk hdr kind w data.length || verify data crc == .failed then s.count 0x8520 8 1
  else if !s.embLoaded t then s.embAnswer src part reply t (bits hdr 127 96) 0 7 0 [] false
  else if part ≠ s.embF t 0x11 ∨ !bitN (s.embF t msub) src then s.embAnswer src part reply t (bits hdr 127 96) 0 2 0 [] false
  else k s t (bits hdr 85 70)

/-- The rows of table `t` that a ROWS message holds (R226, R228): at most 4,096, and a data block of at most 16 MiB. -/
def State.rowsMax (s : State) (t : Nat) : Nat :=
  min 4096 (16777216 / ((if s.embF t 7 = 0 then 4 else 2) * max 1 (s.embF t 4)))

/-- GATHER (R227): one ROWS message to its sender; a request of more rows than a data block holds is answered RANGE (log 71), and one that
reads T2 waits for the bridge (R24). -/
def State.gatherMsg (s : State) (src part : Nat) (hdr : BitVec 192) (data : List Byte) (crc : Nat) : State :=
  s.embMsg src part hdr data crc 1 4 0xC (fun s t n =>
    let tag := bits hdr 127 96
    let idx := recIdx n 4 data
    if verify data crc = .poisoned then s.embAnswer src part 2 t tag 0 3 0 [] false
    else
      match idx.findIdx? (fun i => decide (s.embF t 3 ≤ i)) with
      | some k => s.embAnswer src part 2 t tag 0 1 k [] false
      | none =>
        if s.rowsMax t < n then s.embAnswer src part 2 t tag 0 1 (s.rowsMax t) [] false
        else if idx.any (s.readWaits t) then s.park none (.gather src part hdr data crc)
        else
        let r := s.gatherRows t idx 0 Gathered.none_
        match r.2.failed, r.2.poison with
        | some k, _ => r.1.embAnswer src part 2 t tag 0 6 k [] false
        | none, some k => r.1.embAnswer src part 2 t tag 0 3 k r.2.data true
        | none, none => r.1.embAnswer src part 2 t tag n 0 0 r.2.data false)

/-- GATHER. -/
def execGather (src part : Nat) (hdr : BitVec 192) (data : List Byte) (crc : Nat) (s : State) : Host.Outcome State Fault Refusal :=
  .next (s.gatherMsg src part hdr data crc)

/-- ADD (R229): an ACK once every record is applied or held. -/
def State.addMsg (s : State) (src part : Nat) (hdr : BitVec 192) (data : List Byte) (crc : Nat) : State :=
  let t := bits hdr 91 86
  s.embMsg src part hdr data crc 3 (s.addRec t (bit hdr 65)) 0xD (fun s t n =>
    let tag := bits hdr 127 96
    if verify data crc = .poisoned then s.embAnswer src part 5 t tag 0 3 0 [] false
    else
      let r := s.embAdd t n (bit hdr 65) data
      r.1.embAnswer src part 5 t tag n r.2.1 r.2.2 [] false)

/-- ADD. -/
def execAdd (src part : Nat) (hdr : BitVec 192) (data : List Byte) (crc : Nat) (s : State) : Host.Outcome State Fault Refusal :=
  .next (s.addMsg src part hdr data crc)

/-- The lane that orders the sets of table `t` is enabled. -/
def State.embLane (s : State) (t : Nat) : Bool := s.dval (0x2210 + s.embF t 0xB) 1 == 1

/-- Event 0x5023's latch key for a sender. -/
def lateKey (t sender : Nat) : Nat := 128 * t + sender

/-- The last seq that half `h` committed for lane `n` since the lane was enabled, none before the first. -/
def State.lastSeq (s : State) (h n : Nat) : Option Nat :=
  (s.sched.lanes.get? (8 * h + n)).bind (fun l => match l.prev with
    | some (q, _) => some q
    | none => l.last)

/-- SET (R230): LATE at or below the lane's last committed seq on the home half, else buffered. -/
def State.setMsg (s : State) (src part : Nat) (hdr : BitVec 192) (data : List Byte) (crc : Nat) : State :=
  let t := bits hdr 91 86
  s.embMsg src part hdr data crc 4 (s.setRec t) 0xD (fun s t n =>
    let tag := bits hdr 127 96
    let seq := bits hdr 191 128
    if verify data crc = .poisoned then s.embAnswer src part 5 t tag 0 3 0 [] false
    else if !s.embWr t then s.embAnswer src part 5 t tag 0 1 0 [] false
    else if !s.embLane t then s.embAnswer src part 5 t tag 0 7 0 [] false
    else
      let last := s.lastSeq (s.embHome t) (s.embF t 0xB)
      match last with
      | some m =>
        if seq ≤ m then
          (s.raiseOnce 0x5023 src part (s.embHome t) ([t, src] ++ w2 seq)).embAnswer src part 5 t tag 0 5 0 [] false
        else
          let r := s.embSet t n seq src data
          (if r.2.1 = 0 then r.1.unlatch 0x5023 src else r.1).embAnswer src part 5 t tag n r.2.1 r.2.2 [] false
      | none =>
        let r := s.embSet t n seq src data
        (if r.2.1 = 0 then r.1.unlatch 0x5023 src else r.1).embAnswer src part 5 t tag n r.2.1 r.2.2 [] false)

/-- SET. -/
def execSet (src part : Nat) (hdr : BitVec 192) (data : List Byte) (crc : Nat) (s : State) : Host.Outcome State Fault Refusal :=
  .next (s.setMsg src part hdr data crc)

/-- The rows of ids `ids` of table `t` sent to `dst` in messages of at most rowsMax (R228): tag and seq of the step. -/
def State.inputRows (s : State) (t dst seq : Nat) (ids : List Nat) : Nat → State
  | 0 => s
  | fuel + 1 =>
    if ids.isEmpty then s
    else
      let now := ids.take (s.rowsMax t)
      let r := s.gatherRows t (now.filter (fun i => decide (i < s.embF t 3))) 0 Gathered.none_
      let bad := r.2.failed.isSome
      let st := if bad then 6 else if r.2.poison.isSome then 3 else 0
      let first := (if bad then r.2.failed else r.2.poison).getD 0
      let s1 := r.1.sendMsg dst (s.embF t 0x11) 0x21 3
        (leBytes 24 (embHeader seq (seq % 2 ^ 32) 2 t (if st = 0 then now.length else 0) st first)
          ++ (if bad then [] else withCrc r.2.data r.2.poison.isSome))
      State.inputRows s1 t dst seq (ids.drop (s.rowsMax t)) fuel

/-- The rows of a step's ids sent for a lane on half `h`, at once or once the bridge is back, which they wait for where the table's home is
the other half or a row lies in T2 (R24, R228). -/
def State.inputFor (s : State) (t h dst seq : Nat) (ids : List Nat) : State :=
  if s.boot.bridge && (s.embHome t != h || ids.any (fun i => decide (i < s.embF t 3) && s.readWaits t i)) then
    { s with emb := { s.emb with inputs := s.emb.inputs ++ [{ table := t, half := h, dst, seq, ids }] } }
  else s.inputRows t dst seq ids (ids.length + 1)

/-- The rows that waited for the bridge are sent. -/
def State.inputsBack (s : State) : State :=
  s.emb.inputs.foldl (fun v w => if v.embLoaded w.table then v.inputFor w.table w.half w.dst w.seq w.ids else v)
    { s with emb := { s.emb with inputs := [] } }

/-- The loaded table that serves lane `lane` with INPUT. -/
def State.inputTable (s : State) (lane : Nat) : Option Nat :=
  (s.emb.tabs.find? (fun t => s.embInput t.1 && s.embF t.1 0xB == lane)).map (·.1)

/-! ## Commands -/

/-- The completion status of a message status (R233); DISABLED has none of that name, and takes one of Table 0-5 (R16, log 12). -/
def embStatus (st : Nat) : Nat :=
  match st with
  | 0 => stOK
  | 1 => stBAD
  | 2 => stDENIED
  | 3 => stPOISONED
  | 4 => stNOSPACE
  | 5 => stLATE
  | 6 => stCHECK
  | _ => nth [1, 2, 3, 4, 0x10, 0x11, 0x12, 0x20, 0x21, 0x22, 0x30, 0x31, 0x40, 0x41, 0x50, 0x60, 0x61, 0x62] ((Config.openStatus 0).toNat % 18) stDENIED

/-- Command `c` ends with message status `st`: OK with aux `n`, or the failure with aux the failing record's position. -/
def State.embDone (s : State) (c : Cmd) (st first n : Nat) : State :=
  if st = 0 then s.done c stOK 0 n
  else ((if st = 3 then s.tastePoison c ((s.fnPart c.fn).getD 0) 0 else s).countRefusal (embStatus st)).done c (embStatus st) (if st = 1 then dRANGE else 0) first

/-- An embedding command of partition `p` (R233): the table must be the partition's and loaded. One on a table of East waits, as `i`, for the
bridge (R24). -/
def State.embTake (s : State) (c : Cmd) (p : Nat) (d : Desc) (bad : Bool) (i : Instr) (k : Nat → State) : State :=
  let t := dFld d 261 256
  if bad then s.refuse c stBAD dRANGE
  else if s.embF t 0x11 ≠ p ∨ !s.dict.vals.has (dkey (0x5240 + t) 2) then s.refuseX c stDENIED 0
  else if !s.embLoaded t then s.embDone c 7 0 0
  else if s.boot.bridge && s.embHome t == 1 then s.park (some (c, p)) i
  else k t

/-- Is n of Table 10-3 outside 1 to 4,096? -/
def embBadN (d : Desc) : Bool := dFld d 284 272 == 0 || decide (4096 < dFld d 284 272)

/-- EMB_GATHER (R233): rows written consecutively in ofmt; poisoned rows are not written. -/
def State.embGatherCmd (s : State) (c : Cmd) (p sq : Nat) (d : Desc) (input : Option (List Byte)) : State :=
  s.embTake c p d (embBadN d) (.embGather c.fn sq d input) (fun t =>
    match input with
    | none => s.refuse c stBAD dPARITY
    | some b =>
      let n := dFld d 284 272
      let idx := recIdx n 4 b
      match idx.findIdx? (fun i => decide (s.embF t 3 ≤ i)) with
      | some k => s.embDone c 1 k 0
      | none =>
        match idx.findIdx? (fun i => (s.embSlot t i).isNone && (granSpan (s.tailAt t i) (s.embStride t)).any (fun g =>
            ((s.gran g).map (fun x => s.lapsed (granPart g) x.handle)).getD false)) with
        | some k => ((s.lapseEvent (s.embF t 0x11) (s.embHome t)
            (((s.gran (granOf (s.tailAt t (nth idx k 0)))).map Granule.handle).getD 0))).done c stLEASE 0 k
        | none =>
          if idx.any (s.readWaits t) then s.park (some (c, p)) (.embGather c.fn sq d input)
          else
          let r := s.gatherRows t idx 0 Gathered.none_
          match r.2.failed, r.2.poison with
          | some k, _ => r.1.embDone c 6 k 0
          | none, some k => r.1.embDone c 3 k 0
          | none, none => (r.1.dmaTo c.fn c.gen (dFld d 255 192) r.2.data).embDone c 0 0 n)

/-- EMB_GATHER. -/
def execEmbGather (fn sq : Nat) (d : Desc) (input : Option (List Byte)) (s : State) : Host.Outcome State Fault Refusal :=
  let s1 := s.dmaFrom fn input
  .next (s1.take 0x40 fn sq d false (fun c p => s1.embGatherCmd c p sq d input))

/-- EMB_ADD (R229, R233). -/
def State.embAddCmd (s : State) (c : Cmd) (p sq : Nat) (d : Desc) (input : Option (List Byte)) : State :=
  s.embTake c p d (embBadN d) (.embAdd c.fn sq d input) (fun t =>
    match input with
    | none => s.refuse c stBAD dPARITY
    | some b =>
      let r := s.embAdd t (dFld d 284 272) (dFlag d 24) b
      r.1.embDone c r.2.1 r.2.2 (dFld d 284 272))

/-- EMB_ADD. -/
def execEmbAdd (fn sq : Nat) (d : Desc) (input : Option (List Byte)) (s : State) : Host.Outcome State Fault Refusal :=
  let s1 := s.dmaFrom fn input
  .next (s1.take 0x41 fn sq d false (fun c p => s1.embAddCmd c p sq d input))

/-- EMB_SET (R230, R233): host sets have sender key 64 and no sequence, and are applied at the lane's next commit. -/
def State.embSetCmd (s : State) (c : Cmd) (p sq : Nat) (d : Desc) (input : Option (List Byte)) : State :=
  s.embTake c p d (embBadN d) (.embSet c.fn sq d input) (fun t =>
    match input with
    | none => s.refuse c stBAD dPARITY
    | some b =>
      if !s.embWr t then s.embDone c 1 0 0
      else if !s.embLane t then s.embDone c 7 0 0
      else
        let r := s.embSet t (dFld d 284 272) 0 64 b
        r.1.embDone c r.2.1 r.2.2 (dFld d 284 272))

/-- EMB_SET. -/
def execEmbSet (fn sq : Nat) (d : Desc) (input : Option (List Byte)) (s : State) : Host.Outcome State Fault Refusal :=
  let s1 := s.dmaFrom fn input
  .next (s1.take 0x42 fn sq d false (fun c p => s1.embSetCmd c p sq d input))

/-! ## Requantizing -/

/-- The nearest integer of a non-negative FP32 value, ties to even; a negative one gives 0. -/
def frne (a : Nat) : Nat :=
  let x := fp32.dec a
  if x.neg then 0 else rneDiv (x.m * pow2n x.e) (pow2n (-x.e))

/-- The smallest value of a list of FP32 values. -/
def fminL (l : List Nat) : Nat := l.foldl (fun a b => if flt b a then b else a) (nth l 0 0)

/-- The largest. -/
def fmaxL (l : List Nat) : Nat := l.foldl fmax (nth l 0 0)

/-- Codes packed into bytes: one each, or two with element 2i in the low nibble. -/
def packCodes (fmt : Nat) (c : List Nat) : List Byte :=
  if fmt ≤ 4 then c.map (BitVec.ofNat 8)
  else (List.range (c.length / 2)).map (fun i => BitVec.ofNat 8 (nth c (2 * i) 0 + 16 * nth c (2 * i + 1) 0))

/-- The row of format `fmt` of the FP32 elements `x` (R231). -/
def requantRow (fmt : Nat) (tab : List Nat) (x : List Nat) : List Byte :=
  if fmt = 3 ∨ fmt = 5 then
    let cmax := if fmt = 3 then 255 else 15
    let off := fminL x
    let sc := odiv (osub (fmaxL x) off) (fofNat cmax)
    let inv := odiv (fofNat 1) sc
    let codes := x.map (fun v => if (fp32.dec sc).m = 0 then 0 else min cmax (frne (omul (osub v off) inv)))
    leBytes 4 sc ++ leBytes 4 off ++ packCodes fmt codes
  else
    let tmax := fmaxL (tab.map (fun v => fabs (v * 65536)))
    let m := fmaxL (x.map fabs)
    let sc := if (fp32.dec m).m = 0 then fofNat 1 else odiv m tmax
    let inv := odiv (fofNat 1) sc
    leBytes 4 sc ++ leBytes 4 0 ++ packCodes fmt (x.map (fun v => encodeElem 4 tab (omul v inv)))

/-- Row `i` of table `t` written as a set taken at once (R231). -/
def State.setNow (s : State) (t i : Nat) (b : List Byte) : Option State :=
  s.embUpd { table := t, row := i, isSet := true, df := false, data := b, port := s.embPort t i }

/-- Source row `i` of table `t` as FP32, with the failure status of R227: 6 unreadable, 3 poisoned. -/
def State.readRow (s : State) (t i : Nat) : State × List Nat × Nat :=
  let n := embRowBytes (s.embF t 5) (s.embF t 4)
  if s.unreadable (s.readAt t i) n then (s, [], 6)
  else if s.poisoned (s.readAt t i) n then (s, [], 3)
  else
    let x := s.decodeRow t i
    (x.1, x.2, 0)

/-- Source rows `l` of table `t` read in order, `k` the position of the first: their elements, or the status of the first that fails
and its position. -/
def State.readRows (s : State) (t : Nat) : List Nat → Nat → State × List (List Nat) × EmbRes
  | [], _ => (s, [], 0, 0)
  | i :: r, k =>
    let x := s.readRow t i
    if x.2.2 ≠ 0 then (x.1, [], x.2.2, k)
    else
      let y := State.readRows x.1 t r (k + 1)
      (y.1, x.2.1 :: y.2.1, y.2.2)

/-- Rows recomputed in increasing index; at the first that fails the status and its position. -/
def State.requantRows (s : State) (src dst : Nat) : List Nat → Nat → State × EmbRes
  | [], _ => (s, 0, 0)
  | i :: r, k =>
    let x := s.readRow src i
    if x.2.2 ≠ 0 then (x.1, x.2.2, k)
    else
      match x.1.setNow dst i (requantRow (s.embF dst 5) (s.embDecTab dst) x.2.1) with
      | some s1 => State.requantRows s1 src dst r (k + 1)
      | none => (x.1, 4, k)

/-- The rows `l` recomputed (R231); a command that finds a side buffer full is refused whole (R225). -/
def State.requantAll (s : State) (src dst : Nat) (l : List Nat) : State × EmbRes :=
  let r := s.requantRows src dst l 0
  if r.2.1 = 4 then (s.sideFull dst (r.1.embPort dst (nth l r.2.2 0)), r.2) else r

/-- The exchanges of a REQUANT in host mode (R232) over the `rows` from `first` on: the exchange ids with their rows. -/
def State.requantExch (s : State) (p dst first : Nat) (all : List (List Nat)) : Nat → State × List (Nat × Nat × Nat)
  | 0 => (s, [])
  | fuel + 1 =>
    if all.isEmpty then (s, [])
    else
      let k := min all.length 4096
      let rows := (all.take k).flatMap (fun x => x.flatMap (leBytes 4))
      let x := s.newExch 6 p (s.embHome dst) 0 0 0 k 0 (leBytes 4 first ++ leBytes 1 (s.embF dst 5) ++ leBytes 11 0 ++ rows) dst
      let r := State.requantExch x.1 p dst (first + k) (all.drop k) fuel
      (r.1, (x.2, first, k) :: r.2)

/-- EMB_REQUANT (R231 to R233); one on a table of East or of rows in T2 waits for the bridge (R24). -/
def State.requantCmd (s : State) (c : Cmd) (p sq : Nat) (d : Desc) : State :=
  let first := dFld d 319 288
  let count := dFld d 351 320
  let dst := dFld d 357 352
  let l := (List.range count).map (· + first)
  let src := dFld d 261 256
  if count = 0 then s.refuse c stBAD dRANGE
  else if !s.embLoaded src || !s.embLoaded dst || s.embF src 0x11 != p || s.embF dst 0x11 != p || !s.embWr dst then s.refuse c stDENIED 0
  else if 2 < s.embF src 5 ∨ s.embF dst 5 < 3 ∨ s.embF src 3 ≠ s.embF dst 3 ∨ s.embF src 4 ≠ s.embF dst 4 ∨ s.embF src 3 < first + count then
    s.refuse c stBAD dRANGE
  else if s.boot.bridge && (s.embHome src == 1 || s.embHome dst == 1 || l.any (s.readWaits src)) then s.park (some (c, p)) (.embRequant c.fn sq d)
  else if s.dval (0xA000 + p) 6 = 1 then
    let x := s.readRows src l 0
    if x.2.2.1 ≠ 0 then x.1.embDone c x.2.2.1 x.2.2.2 0
    else
      let r := x.1.requantExch p dst first x.2.1 (count / 4096 + 1)
      { r.1 with emb := { r.1.emb with reqs := r.1.emb.reqs ++ [{ cmd := c, src, dst, count, open_ := r.2, got := [] }] } }
  else
    let r := s.requantAll src dst l
    r.1.embDone c r.2.1 r.2.2 count

/-- EMB_REQUANT. -/
def execEmbRequant (fn sq : Nat) (d : Desc) (s : State) : Host.Outcome State Fault Refusal :=
  .next (s.take 0x43 fn sq d false (fun c p => s.requantCmd c p sq d))

/-- The moves of table `t` that updates wait on brought to their switches (R219, R233). -/
def State.settle (s : State) (t : Nat) (all : Bool) : Nat → State
  | 0 => s
  | n + 1 =>
    match s.emb.tabs.get? t with
    | none => s
    | some x =>
      match x.tags.find? (fun kg => kg.2.st != 2 && (all || !(s.heldFor t kg.2.row).isEmpty || kg.2.next.isSome)) with
      | none => s
      | some (_, g) => State.settle (if g.st = 1 then s.fillSwitch t g.row else s.evictionSwitch t g.row) t all n

/-- The bound on the switches `settle` may need: each tag twice, and two for each update held. -/
def State.settleFuel (s : State) (t : Nat) : Nat :=
  2 * (((s.emb.tabs.get? t).map (fun x => x.tags.length)).getD 0 + s.emb.held.length) + 2

/-- Every DIRTY slot of table `t` written back, the slots staying VALID: the state and how many were. -/
def State.writeBack (s : State) (t : Nat) : State × Nat :=
  let ds : Tab EmbTag := match s.emb.tabs.get? t with
    | some x => x.tags.filter (fun kg => kg.2.dirty && kg.2.st == 2)
    | none => []
  (ds.foldl (fun v kg => (v.copyRow (v.slotAt t kg.1) (v.tailAt t kg.2.row) (v.embStride t)).setTag t kg.1 { kg.2 with dirty := false }) s, ds.length)

/-- EMB_FLUSH (R233): after every update accepted before it, every DIRTY slot is written back. -/
def State.embFlushCmd (s : State) (c : Cmd) (p sq : Nat) (d : Desc) : State :=
  s.embTake c p d false (.embFlush c.fn sq d) (fun t =>
    let r := (s.settle t false (s.settleFuel t)).writeBack t
    r.1.done c stOK 0 r.2)

/-- EMB_FLUSH. -/
def execEmbFlush (fn sq : Nat) (d : Desc) (s : State) : Host.Outcome State Fault Refusal :=
  .next (s.take 0x44 fn sq d false (fun c p => s.embFlushCmd c p sq d))

/-! ## Load and unload -/

/-- The home half of table `t` as its load finds it (R218). -/
def State.embHomeOf (s : State) (t : Nat) : Nat :=
  let g := granOf (if s.embF t 8 = 0 then s.embF t 2 else s.embF t 9)
  ((s.gran g).map (fun x => x.half g)).getD 0

/-- Are the granules of `n` bytes at `addr` all mapped, in partition `p`, and such that `ok` holds? -/
def State.granAll (s : State) (addr n p : Nat) (ok : Nat → Granule → Bool) : Bool :=
  decide (n = 0) ||
    (decide (granPart (granOf addr) = p) && decide (granPart (granOf (addr + n - 1)) = p)
      && (s.tiers.grans.filter (fun g => inSpan g.1 addr n && ok g.1 g.2)).length == granOf (addr + n - 1) - granOf addr + 1)

/-- Is the decode table that table `t` names unusable (R218)? -/
def State.embTabBad (s : State) (t : Nat) : Bool :=
  let fmt := s.embF t 5
  (fmt == 4 || fmt == 6) &&
    (let e := s.embDecTab t
     e.isEmpty || e.any (fun v => bitsN v 14 7 == 255) || e.all (fun v => v % 0x8000 == 0))

/-- The vocabulary of lane `lane`'s profile. -/
def State.laneVocab (s : State) (lane : Nat) : Nat := ((s.profs.get? (s.dval (0x2210 + lane) 2)).map (·.vocab)).getD 0

/-- The subindex at which the load of table `t` fails (R218), none when it may load. -/
def State.embLoadCheck (s : State) (t : Nat) : Option Nat :=
  let own := s.embF t 0x11
  let h := s.embHomeOf t
  if s.embF t 2 % 64 ≠ 0 ∨ 2 ^ 56 ≤ s.embF t 2 then some 2
  else if s.embF t 3 = 0 then some 3
  else if s.embF t 4 = 0 ∨ 16384 < s.embF t 4 then some 4
  else if 6 < s.embF t 5 then some 5
  else if !s.granAll (s.embF t 2) (s.embTail t) own (fun _ _ => true) then some 2
  else if (s.embF t 5 = 5 ∨ s.embF t 5 = 6) ∧ s.embF t 4 % 2 = 1 then some 4
  else if 15 < s.embF t 6 ∨ s.embTabBad t then some 6
  else if 2 < s.embF t 7 then some 7
  else if s.embF t 8 % 8 ≠ 0 ∨ 16777216 < s.embF t 8 then some 8
  else if s.embF t 9 % 64 ≠ 0 ∨ 2 ^ 56 ≤ s.embF t 9
      ∨ !s.granAll (s.embF t 9) (s.embHot t) own (fun g x => x.pin && x.tier == 1 && x.half g == h) then some 9
  else if 3 < s.embF t 0xA ∨ (s.embWr t ∧ !s.granAll (s.embF t 2) (s.embTail t) own (fun _ x => x.pin && (x.tier == 1 || x.tier == 3))) then some 0xA
  else if 7 < s.embF t 0xB ∨ (s.embInput t ∧ (s.embF t 3 < s.laneVocab (s.embF t 0xB)
      ∨ s.emb.tabs.any (fun u => u.1 != t && s.embInput u.1 && s.embF u.1 0xB == s.embF t 0xB))) then some 0xB
  else if s.embF t 0xE = 0 ∨ 1000000 < s.embF t 0xE then some 0xE
  else none

/-- Table `t` loaded with every slot EMPTY and its sketch clear. -/
def State.embLoadIt (s : State) (t : Nat) : State :=
  ({ s with emb := { s.emb with tabs := s.emb.tabs.put t { home := s.embHomeOf t, tags := [], sketch := [] } } }.unlatch 0x5022 t).unlatch 0x5021 t

/-- Update `u` applied where its row stands, its way VALID or none. -/
def State.applyHere (s : State) (u : RowUpd) : State :=
  match s.embSlot u.table u.row with
  | some (k, g) => (s.applyAt u (s.slotAt u.table k)).setTag u.table k { g with dirty := true }
  | none => s.applyAt u (s.tailAt u.table u.row)

/-- Table `t` unloaded in the order of R219; sets that a full side buffer kept from being applied are once the held updates are. -/
def State.embUnloadIt (s : State) (t : Nat) : State :=
  let h := s.embHome t
  let s1 := s.applySets h ((s.emb.sets.get h).filter (fun x => x.table == t))
  let s2 := s1.settle t true (s1.settleFuel t)
  let left := s2.emb.held.filter (fun u => u.table == t)
  let sets := ((s2.emb.sets.get h).filter (fun x => x.table == t)).foldl (fun a x => insSet x a) []
  let s3 : State := { s2 with emb := { s2.emb with
    held := s2.emb.held.filter (fun u => u.table != t)
    sets := s2.emb.sets.set h ((s2.emb.sets.get h).filter (fun x => x.table != t)) } }
  let s4 := left.foldl (fun v u => v.applyAt u (v.tailAt t u.row)) s3
  let s5 := sets.foldl (fun v x =>
    v.applyHere { table := t, row := x.row, isSet := true, df := false, data := x.data, port := v.embPort t x.row }) s4
  let s6 := (s5.writeBack t).1
  (({ s6 with emb := { s6.emb with tabs := s6.emb.tabs.del t } }.sideFree (left.map RowUpd.port)).unlatch 0x5021 t)

/-- A write of 0x01 or 0x02 to subindex 0x01 of table `t` (R218, R219); a load of a loaded table and an unload of an
unloaded one change nothing. -/
def State.embControl (s : State) (t : Nat) (v : List Byte) : Except (Nat × Nat) State :=
  if leNat v = 1 then
    if s.embLoaded t then .ok s
    else if (s.embLoadCheck t).isSome then .error (stTABLE, 0)
    else .ok ((s.embLoadIt t).dsetN (0x5240 + t) 1 1)
  else if s.embLoaded t then .ok ((s.embUnloadIt t).dsetN (0x5240 + t) 1 0)
  else .ok s

/-- That write by `o`: a refused load raises 0x5020. -/
def State.embControlRow (s : State) (o : Origin) (t : Nat) (v : List Byte) : State :=
  let bad := (s.writeCheck o (0x5240 + t) 1 v).isNone && leNat v == 1 && !s.embLoaded t && (s.embLoadCheck t).isSome
  let s1 := if bad then s.raise 0x5020 (s.embF t 0x11) 0 [t, (s.embLoadCheck t).getD 0] else s
  s1.writeRow o (0x5240 + t) 1 v (fun s => s.embControl t v)

/-- EMB_TABLE_LOAD. -/
def execEmbTableLoad (o : Origin) (id : Nat) (v : List Byte) (s : State) : Host.Outcome State Fault Refusal :=
  .next (s.embControlRow o (id % 64) v)

/-- EMB_TABLE_UNLOAD. -/
def execEmbTableUnload (o : Origin) (id : Nat) (v : List Byte) (s : State) : Host.Outcome State Fault Refusal :=
  .next (s.embControlRow o (id % 64) v)

/-- The tables of half-start or start-up: those persisted as loaded load again, or raise 0x5020 (R218). -/
def State.embReload (s : State) : State :=
  (List.range 64).foldl (fun v t =>
    if v.dval (0x5240 + t) 1 = 1 ∧ !v.embLoaded t then
      match v.embLoadCheck t with
      | none => v.embLoadIt t
      | some k => (v.dsetN (0x5240 + t) 1 0).raise 0x5020 (v.embF t 0x11) 0 [t, k]
    else v) s

end Sys2Proof.Machine
end

