-- ==== Sys2Proof/Machine/Rounds.lean ====
section
/-!
DEFINITION. Lanes and the messages of a step (ch 6): what a lane holds, the messages the half sends, the marks of requests,
the closing of a round, revival misses and the round interval.
-/

namespace Sys2Proof.Machine

/-! ## Lanes -/

/-- A lane that has not been enabled. -/
def LaneHalf.blank : LaneHalf :=
  { step := none, last := none, shown := 0, held := none, ivals := [], lastOpen := none, stopping := false, timer := false
    prev := none }

/-- Lane `n` on half `h`. -/
def State.laneH (s : State) (h n : Nat) : LaneHalf := s.sched.lanes.getD (8 * h + n) LaneHalf.blank

/-- `s` with lane `n` of half `h` set. -/
def State.setLane (s : State) (h n : Nat) (l : LaneHalf) : State :=
  { s with sched := { s.sched with lanes := s.sched.lanes.put (8 * h + n) l } }

/-- Subindex `sub` of lane `n`'s entry (Table 6-10). -/
def State.laneF (s : State) (n sub : Nat) : Nat := s.dval (0x2210 + n) sub

/-- The profile of lane `n`, none when it is not loaded. -/
def State.laneProf (s : State) (n : Nat) : Option Profile := s.profs.get? (s.laneF n 2)

/-- Layers of lane `n`'s profile. -/
def State.laneLayers (s : State) (n : Nat) : Nat := ((s.laneProf n).map (·.layers)).getD 0

/-- Is endpoint `e` in lane `n`'s peer mask? -/
def State.inMask (s : State) (n e : Nat) : Bool := bitN (s.laneF n 3) e

/-- The step in flight of lane `n` on half `h`. -/
def State.stepOf (s : State) (h n : Nat) : Option Step := (s.laneH h n).step

/-- That step changed by `f`. -/
def State.updStep (s : State) (h n : Nat) (f : Step → Step) : State :=
  let l := s.laneH h n
  s.setLane h n { l with step := l.step.map f }

/-- Does half `h` answer layer-0 opens HELD: HOLD, or maintenance holds the lanes (R149, R397)? -/
def State.lanesHeld (s : State) (h : Nat) : Bool := s.inHold h || s.maint.st != 0

/-- The request of slot `k` in a step. -/
def Step.req (st : Step) (k : Nat) : Option InReq := st.reqs.find? (fun r => r.slot == k)

/-- Request `k` of the step changed by `f`. -/
def Step.upd (st : Step) (k : Nat) (f : InReq → InReq) : Step :=
  { st with reqs := st.reqs.map (fun r => if r.slot = k then f r else r) }

/-! ## Messages -/

/-- A message of type `mtype` sent to every peer of lane `n`'s mask on the partition 0 stream (R304). -/
def State.toPeers (s : State) (n mtype : Nat) (body : List Byte) : State :=
  (List.range 64).foldl (fun t e => if s.inMask n e then t.sendMsg e 0 mtype 1 body else t) s

/-- A data block with its check value; an empty one has none. -/
def block (b : List Byte) : List Byte := if b.isEmpty then [] else withCrc b false

/-- The code of a mark in OUTPUT (Table 6-5). -/
def Mark.code : Mark → Nat
  | .data => 0
  | .deferred => 1
  | .cancelled => 2
  | .poisoned => 3
  | .integrity => 4

/-- ROUND_CLOSE (Table 6-6). -/
def State.sendClose (s : State) (h n seq layer kind nout nmark code : Nat) : State :=
  s.toPeers n 5 (leBytes 16 (withPar (code * 2 ^ 18 + nmark % 2 ^ 14 * 2 ^ 22 + nout % 2 ^ 14 * 2 ^ 36 + h * 2 ^ 50 + n * 2 ^ 51
    + kind * 2 ^ 54 + layer * 2 ^ 56 + seq % 2 ^ 64 * 2 ^ 64) 2 1 0))

/-- OUTPUT of request `r` in the step `st` (Table 6-5) to the endpoint that sent its last QKV, for layer 0 the opener. -/
def State.sendOutput (s : State) (st : Step) (r : InReq) (mark : Nat) (data : List Byte) : State :=
  s.sendMsg r.sender r.part 4 3 (leBytes 16 (withPar (mark * 2 ^ 26 + r.ntok * 2 ^ 30 + r.slot * 2 ^ 42 + st.layer * 2 ^ 56
    + st.seq % 2 ^ 64 * 2 ^ 64) 2 1 0) ++ block data)

/-- A roster entry (Table 6-3). -/
def InReq.entry (r : InReq) : List Byte :=
  leBytes 16 (withPar (r.part * 2 ^ 62 + b2n r.lc * 2 ^ 68 + b2n r.sel * 2 ^ 69 + r.ntok * 2 ^ 70 + r.pos % 2 ^ 32 * 2 ^ 82
    + r.slot * 2 ^ 114) 2 1 0)

/-- ROSTER (Table 6-3). -/
def State.sendRoster (s : State) (h n : Nat) (st : Step) : State :=
  s.toPeers n 2 (leBytes 16 (withPar (st.reqs.length * 2 ^ 46 + h * 2 ^ 60 + n * 2 ^ 61 + st.seq % 2 ^ 64 * 2 ^ 64) 2 1 0)
    ++ block (st.reqs.flatMap InReq.entry ++ st.reqs.flatMap (fun r => r.ids.flatMap (leBytes 4))))

/-- Is the open's header whole: its parity, and its rsvd field zero? -/
def openOk (hdr : BitVec 256) : Bool := parOk hdr.toNat 4 3 0 && zeroBits hdr 134 4

/-! ## The round interval (R112) -/

/-- An open of lane `n` is admitted at `t`: the interval since the one before is kept, at most 64. -/
def LaneHalf.opened (l : LaneHalf) (t : Nat) : LaneHalf :=
  { l with
    ivals := match l.lastOpen with
      | some u => ((t - u) :: l.ivals).take 64
      | none => l.ivals
    lastOpen := some t }

/-- Tr in ns: the mean of the intervals kept, none before the first. -/
def LaneHalf.tr (l : LaneHalf) : Option Nat :=
  if l.ivals.isEmpty then none else some (rneDiv (l.ivals.foldl (· + ·) 0) l.ivals.length)

/-! ## Marks -/

/-- The event of a revival miss at layer `l` of the request of slot `k`, once for each run (R114). -/
def State.missEvent (s : State) (k l : Nat) : State :=
  match s.sess.slots.get? k with
  | none => s
  | some r =>
    let s0 := s.count 0x8310 5 1
    if r.missRun then s0
    else (s0.updReq k (fun x => { x with missRun := true })).raise 0x2030 r.part r.half (w2 (s.handleOf r.idx) ++ [l])

/-- The output or mark of request `k` of the open round is sent. -/
def State.markSent (s : State) (h n k : Nat) (data : Bool) : State :=
  s.updStep h n (fun st =>
    let st1 := st.upd k (fun r => { r with outSent := true })
    { st1 with nout := st.nout + b2n data, nmark := st.nmark + b2n (!data) })

/-- The mark of a request that takes no further part sent in place of its output, in an open layer round whose output it has
not sent (R142). -/
def State.sendMark (s : State) (h n k : Nat) : State :=
  match s.stepOf h n with
  | none => s
  | some st =>
    match st.req k with
    | none => s
    | some r =>
      if st.roundOpen ∧ !st.selPhase ∧ !r.outSent ∧ r.mark ≠ .data then (s.sendOutput st r r.mark.code []).markSent h n k false
      else s

/-- The mark of request `k` is fixed (R142): its unplaced splits leave the queues, its Proofs' results are discarded, and
the mark goes out. A mark that is fixed stays. -/
def State.fixMark (s : State) (h n k : Nat) (m : Mark) : State :=
  match (s.stepOf h n).bind (·.req k) with
  | none => s
  | some r =>
    if r.mark ≠ .data then s
    else
      let s1 := (s.withdraw h n k).updStep h n (fun st => st.upd k (fun r => { r with mark := m }))
      let s2 : State := { s1 with integ := { s1.integ with proofs := s1.integ.proofs.mapV (fun _ x =>
        if x.half = h ∧ x.lane = n ∧ x.slot = k then { x with discard := true } else x) } }
      (s2.endExchs k [3, 4]).sendMark h n k

/-- A drop-out (R141): counted, its mark DEFERRED. -/
def State.dropOut (s : State) (h n k : Nat) : State := (s.count 0x8220 6 1).fixMark h n k .deferred

/-! ## Rounds begin and close -/

/-- The round just opened begins (R140, R142, R114): in a layer round, requests whose layer is not resident miss it, and
marks go out. -/
def State.beginRound (s : State) (h n : Nat) : State :=
  match s.stepOf h n with
  | none => s
  | some st =>
    let s1 := s.updStep h n (fun x =>
      { x with nout := 0, nmark := 0, reqs := x.reqs.map (fun r => { r with arrived := false, outSent := false, q := [], splits := [] }) })
    if st.selPhase then s1
    else
      st.reqs.foldl (fun t r =>
        if r.mark = .data ∧ (t.ent r.idx).reslayers ≤ st.layer then (t.missEvent r.slot st.layer).fixMark h n r.slot .deferred
        else t.sendMark h n r.slot) s1

/-- Is the outcome of `r` fixed: a mark, GRAMMAR_DEAD, a selected token, or no selection needed once its last output is sent
(R147)? `l` the layers of the profile. -/
def Step.fixed (st : Step) (l : Nat) (r : InReq) : Bool :=
  r.mark != .data || r.dead ||
    (if r.sel then r.token.isSome else st.selPhase || (decide (l ≤ st.layer + 1) && r.outSent))

/-- Is the open round over: every request of a layer round has sent its output or mark, and in the selection phase every outcome is fixed
(R148)? -/
def Step.roundDone (st : Step) (l : Nat) : Bool :=
  st.roundOpen && (if st.selPhase then st.reqs.all (st.fixed l) else st.reqs.all (·.outSent))

/-- Does the step need a further open: another layer, or the selection phase? `l` the layers of the profile. -/
def Step.needsOpen (st : Step) (l : Nat) : Bool :=
  !st.selPhase && (decide (st.layer + 1 < l) || st.reqs.any (fun r => r.sel && r.mark == .data))

/-- The round of lane `n` on half `h` closes: ROUND_CLOSE, and the timer waits for the next open (R141). -/
def State.closeRound (s : State) (h n : Nat) : State :=
  match s.stepOf h n with
  | none => s
  | some st =>
    let s1 := (s.count 0x8220 3 1).sendClose h n st.seq (if st.selPhase then 0 else st.layer) (b2n st.selPhase) st.nout st.nmark 0
    let l := s1.laneH h n
    s1.setLane h n { l with step := some { st with roundOpen := false }, timer := st.needsOpen (s.laneLayers n) }

/-- The lane's open round is closed once it is over. -/
def State.tryClose (s : State) (h n : Nat) : State :=
  match s.stepOf h n with
  | some st => if st.roundDone (s.laneLayers n) then s.closeRound h n else s
  | none => s

end Sys2Proof.Machine
end

