-- ==== Sys2Proof/Machine/Commit.lean ====
section
/-!
DEFINITION. The step commit (ch 6, R138, R146, R147; R42, R43, R46 of ch 2; R205): the outcome of every request of a step,
what a commit changes, STEP_END, and the records and completions that follow it.
-/

namespace Sys2Proof.Machine

/-! ## Outcomes -/

/-- The outcome of a request at a step commit (Table 6-8): its STEP_END code, whether its tokens are committed, and the status and
detail of its completion. -/
structure Outcome where
  code : Nat
  cm : Bool
  status : Nat
  detail : Nat
deriving DecidableEq, Repr

/-- Does the request go on after the commit? -/
def Outcome.goesOn (o : Outcome) : Bool := o.code == 0 || o.code == 3

/-- The bytes that the request's selected token adds to its output, none in host-assisted detokenize. -/
def State.outBytes (s : State) (q : Request) (id : Nat) : List Byte := if q.detokHost then [] else s.tokenBytes q.idx id

/-- Why a completed request ends (R43, Table 2-5): `q` its record before the commit; 0 where it goes on. The next step is one token long,
or the prompt's next chunk. -/
def State.endDetail (s : State) (q : Request) (r : InReq) : Nat :=
  let p := s.profOf q.idx
  let left := q.todo.length - r.ntok
  let full := ((p.map (·.maxCtx)).getD 0) < r.pos + r.ntok + (if left = 0 then 1 else min q.chunk left)
  if q.maxNew = 0 ∧ left = 0 then 5
  else
    match r.token with
    | some id =>
      if q.maxNew ≤ q.produced + 1 then 1
      else if ((p.map (·.endToks)).getD []).contains id then 3
      else if (q.push (s.stopsOf q) (s.outBytes q id) false).1.cut && !q.cut then 2
      else if full then 6
      else 0
    | none => if full then 6 else 0

/-- Table 6-8 for request `r` of step `st`: the row that applies first gives the status, and R43's order the detail; `ab` that the step is abandoned or its wait for the host has run out. -/
def State.outcome (s : State) (l : Nat) (st : Step) (ab : Bool) (r : InReq) : Outcome :=
  match s.sess.slots.get? r.slot with
  | none => { code := 4, cm := false, status := stCANCELLED, detail := 0 }
  | some q =>
    let e := s.ent r.idx
    let late := s.deadlinePast q
    if e.cp ∨ r.mark = .cancelled then { code := 4, cm := false, status := stCANCELLED, detail := 0 }
    else if r.mark = .poisoned then { code := 5, cm := false, status := stPOISONED, detail := 0 }
    else if r.mark = .integrity then { code := 6, cm := false, status := stINTEGRITY, detail := 0 }
    else if r.mark = .data ∧ r.dead then { code := 7, cm := false, status := stDEAD, detail := 0 }
    else if r.mark = .deferred ∨ (ab && !st.fixed l r) = true then
      if e.pp then { code := 1, cm := false, status := stOK, detail := 4 }
      else if late then { code := 2, cm := false, status := stLATE, detail := 0 }
      else { code := 3, cm := false, status := stDEFERRED, detail := 0 }
    else
      let d := if e.pp then 4 else s.endDetail q r
      if late then { code := 2, cm := true, status := stLATE, detail := d }
      else if d ≠ 0 then { code := 1, cm := true, status := stOK, detail := d }
      else { code := 0, cm := true, status := stOK, detail := 0 }

/-! ## The count table (R205) -/

/-- One more of id `id`: the table, the ids not tracked, and whether the id's count has reached its maximum. -/
def countId (c : Tab Nat) (id : Nat) : Tab Nat × Nat × Bool :=
  match c.get? id with
  | some n => (c.put id (min 65535 (n + 1)), 0, decide (65535 ≤ n + 1))
  | none => if 4096 ≤ c.length then (c, 1, false) else (c.put id 1, 0, false)

/-- Ids counted in order: the table, the ids not tracked, and those whose entry has its SAT bit set, newest first. -/
def countIds : List Nat → Tab Nat → Nat → List Nat → Tab Nat × Nat × List Nat
  | [], c, u, m => (c, u, m)
  | id :: t, c, u, m =>
    let r := countId c id
    countIds t r.1 (u + r.2.1) (if r.2.2 && !m.contains id then id :: m else m)

/-- The ids of a commit counted for the request of slot `k`: with INCP the prompt ids stored, and the token selected. Event 0x8001
comes once per request. -/
def State.countCommit (s : State) (k : Nat) (q : Request) (ids : List Nat) : State :=
  let r := countIds ids q.counts 0 q.countSats
  let s1 := s.updReq k (fun x => { x with counts := r.1, countFull := x.countFull || r.2.1 != 0, countSats := r.2.2 })
  let s2 := s1.count 0x8510 6 r.2.1
  let s3 := if r.2.1 ≠ 0 ∧ !q.countFull then s2.raise 0x5011 q.part q.half (w2 (s.handleOf q.idx) ++ [k]) else s2
  if q.countSats.isEmpty && !r.2.2.isEmpty then s3.raise 0x8001 q.part q.half [dkey 0x5100 1, k] else s3

/-! ## The commit of one request -/

/-- The grammar configuration after token `id` (R192), in a step masked by the host too; the end tokens leave it as it is. -/
def State.advance (s : State) (q : Request) (id : Nat) : Option GCfg :=
  if 64 ≤ q.grammar ∨ (s.dbytes (0x5040 + q.grammar) 1).isEmpty then q.gcfg
  else
    let g := Gram.parse (s.dbytes (0x5040 + q.grammar) 1)
    let c := q.gcfg.getD { s := g.start, st := [] }
    match (s.profOf q.idx).bind s.tokzOf with
    | none => some c
    | some t =>
      if ((s.profOf q.idx).map (fun p => p.endToks.contains id)).getD false then some c
      else some ((g.run c (t.str id)).getD c)

/-- The tokens of the step become part of the session (R30, R37, R147). -/
def State.commitTokens (s : State) (r : InReq) (q : Request) : State :=
  let ids := (if q.params.incp then q.todo.take r.ntok else []) ++ r.token.toList
  let s1 := s.updEnt r.idx (fun e => { e with count := r.pos + r.ntok, tv := r.token.isSome, tail := r.token.getD 0 })
  let g := match r.token with
    | some id => s.advance q id
    | none => q.gcfg
  let s2 := s1.updReq r.slot (fun x =>
    { x with
      todo := x.todo.drop r.ntok, started := true, produced := x.produced + b2n r.token.isSome, gcfg := g
      sinceG := x.sinceG ++ r.token.toList, sinceS := x.sinceS ++ r.token.toList, deferRun := false, missRun := false })
  let s3 := s2.countCommit r.slot q ids
  let s4 := s3.count 0x8510 1 (b2n r.token.isSome)
  s4.count 0x8510 2 (if r.token.isSome ∧ q.params.temp % 2 ^ 31 = 0 then 1 else 0)

/-- The state change of the commit for request `r`: tokens, pages and charges (R59, R60, R66). -/
def State.settleReq (s : State) (r : InReq) (o : Outcome) : State :=
  match s.sess.slots.get? r.slot with
  | none => s
  | some q =>
    let s1 := if o.cm then s.commitTokens r q else s
    let s2 := s1.settlePages r.idx (s1.ent r.idx).count r.opened dropPageLow
    s2.addCharge q.part q.half (r.grown + s2.keptCharge r.opened)

/-- An entry of STEP_END (Table 6-7). -/
def Outcome.entry (o : Outcome) (r : InReq) : List Byte :=
  let tok := if o.cm then r.token else none
  leBytes 8 (withPar (r.slot * 2 ^ 50 + o.code * 2 ^ 46 + b2n o.cm * 2 ^ 45 + b2n tok.isSome * 2 ^ 44 + tok.getD 0 * 2 ^ 23) 1 0 0)

/-- STEP_END (Table 6-7). -/
def State.sendEnd (s : State) (h n : Nat) (st : Step) (ab : Bool) (outs : List (InReq × Outcome)) : State :=
  s.toPeers n 6 (leBytes 16 (withPar (b2n ab * 2 ^ 45 + outs.length * 2 ^ 46 + h * 2 ^ 60 + n * 2 ^ 61 + st.seq % 2 ^ 64 * 2 ^ 64) 2 1 0)
    ++ block (outs.flatMap (fun x => x.2.entry x.1)))

/-- A DEFERRED completion for a step of sequence `seq`, once for each run (R46). -/
def State.deferReq (s : State) (k seq : Nat) : State :=
  match s.sess.slots.get? k with
  | none => s
  | some q =>
    if q.deferRun then s
    else ((s.count 0x8200 6 1).updReq k (fun x => { x with deferRun := true })).postReq q (s.finalComp q k stDEFERRED 0 (seq % 2 ^ 32) false)

/-- The output and the completion of request `r` after the commit (R45, R147). -/
def State.reportReq (s : State) (seq : Nat) (r : InReq) (o : Outcome) : State :=
  match s.sess.slots.get? r.slot with
  | none => s
  | some q =>
    let tok := if o.cm then r.token else none
    if o.code = 3 then s.deferReq r.slot seq
    else if o.code = 0 then
      (match tok with
       | some id => s.textOut r.slot id seq
       | none => s)
    else
      let s1 := if o.code = 7 then (s.count 0x8510 4 1).raise 0x5010 q.part q.half (w2 (s.handleOf q.idx) ++ [r.slot]) else s
      match tok with
      | some id => s1.endReqTok r.slot id seq o.status o.detail
      | none => s1.endReq r.slot o.status o.detail none

/-! ## Refused opens -/

/-- A round open is refused with `code` (R137): ROUND_CLOSE, counted, and event 0x2040 the first time since one was admitted. -/
def State.refuseOpen (s : State) (h n seq layer kind code : Nat) : State :=
  let sq := if code = 1 then (s.laneH h n).shown else seq
  ((s.sendClose h n sq layer kind 0 0 code).count 0x8220 4 1).raiseOnce 0x2040 (8 * h + n) 0 h [n, h, code]

/-- A held open that lost its step is refused: nothing but a layer-0 open may come first (R137). -/
def State.dropHeldOpen (s : State) (h n : Nat) : State :=
  let l := s.laneH h n
  match l.held with
  | none => s
  | some o =>
    (s.setLane h n { l with held := none }).refuseOpen h n (bitsN o.hdr 255 192) (bitsN o.hdr 191 184) (bitsN o.hdr 183 182) 2

/-! ## The commit -/

/-- What the step boundary does for requests of the lane that were not in the step: those cancelled or paused end, those of a
session that moves to the other half from LIVE miss the step (R46, R124), and moves that waited for the boundary start. -/
def State.boundaryReq (s : State) (seq k : Nat) : State :=
  match s.sess.slots.get? k with
  | none => s
  | some q =>
    let e := s.ent q.idx
    if e.cp then s.endReq k stCANCELLED 0 none
    else if e.pp then s.endReq k stOK 4 none
    else
      match s.own.moves.get? q.idx with
      | some m => if m.half && m.before == .live && e.state == .moving then s.deferReq k seq else s
      | none => s

/-- Slots of the requests of lane `n` on half `h`. -/
def State.laneSlots (s : State) (h n : Nat) : List Nat :=
  (s.sess.slots.filter (fun r => r.2.lane == n && r.2.half == h)).map (·.1)

/-- Moves of LIVE sessions of lane `n` on half `h` that start at its step boundary (R124): half moves at once, others where
the request has ended. -/
def State.boundaryMoves (s : State) (h n : Nat) : State :=
  (s.laneSlots h n).foldl (fun t k =>
    match t.sess.slots.get? k with
    | none => t
    | some q =>
      match t.own.moves.get? q.idx with
      | some m => if m.half && !m.after && (t.ent q.idx).state == .live then t.startWaitingMove q.idx else t
      | none => t) s

/-- The lane's step boundary on half `h`: modes written since the one before hold (R33). -/
def State.modesNow (s : State) (h n : Nat) : State :=
  { s with sched := { s.sched with modes := s.sched.modes.keep (fun k _ => k % 16 != 8 * h + n) } }

/-- The half commits the step of lane `n` (R147), abandoned where `ab` says so. After a restored step, or one in flight when its lane was
enabled anew, the next layer-0 open takes any seq (R137, R292). -/
def State.commitStep (s : State) (h n : Nat) (ab : Bool) : State :=
  match s.stepOf h n with
  | none => s
  | some st =>
    let outs := st.reqs.map (fun r => (r, s.outcome (s.laneLayers n) st ab r))
    let inStep := st.reqs.map (·.slot)
    let s1 := outs.foldl (fun t x => t.settleReq x.1 x.2) s
    let l := s1.laneH h n
    let l1 : LaneHalf :=
      { l with
        step := none, last := if st.restored then none else some st.seq, shown := st.seq, timer := false
        prev := some (st.seq, st.layer, st.selPhase, ab) }
    let s2 := (s1.modesNow h n).setLane h n (if l.stopping then { l1 with stopping := false, last := none, ivals := [], lastOpen := none } else l1)
    let s3 := inStep.foldl (fun (t : State) k => (t.withdraw h n k).endExchs k [3, 4]) s2
    let s3b : State := { s3 with
      sess := { s3.sess with selIn := s3.sess.selIn.keep (fun k _ => !inStep.contains k) }
      integ := { s3.integ with proofs := s3.integ.proofs.mapV (fun _ x => if x.half = h ∧ x.lane = n then { x with discard := true } else x) } }
    let s4 := ((s3b.count 0x8220 1 1).count 0x8220 2 (b2n ab)).commitSets h n st.seq
    let s5 := s4.sendEnd h n st ab outs
    let s6 := outs.foldl (fun t x => t.reportReq st.seq x.1 x.2) s5
    let s7 := ((s6.laneSlots h n).filter (fun k => !inStep.contains k)).foldl (fun t k => t.boundaryReq st.seq k) s6
    (s7.boundaryMoves h n).dropHeldOpen h n

/-- Is every outcome of the step fixed, and has its last round closed (R147)? -/
def State.stepReady (s : State) (h n : Nat) : Bool :=
  match s.stepOf h n with
  | none => false
  | some st =>
    let l := s.laneLayers n
    (st.selPhase || decide (l ≤ st.layer + 1)) && !st.roundOpen && st.reqs.all (st.fixed l)

/-- Does the Stop bath name lane `n` at level `lv`? -/
def State.bathOn (s : State) (n lv : Nat) : Bool := s.sched.bath.level == lv && bitN s.sched.bath.mask n

/-- Are the rounds of lane `n` held where they stand by a round-level bath, on a half in HOLD too (R148, R149)? -/
def State.roundHeld (s : State) (n : Nat) : Bool := s.bathOn n 1

/-- STEP_COMMIT (R147): nothing happens before every outcome is fixed, nor while a round-level bath holds the step (R148). -/
def execStepCommit (half lane t : Nat) (s : State) : Host.Outcome State Fault Refusal :=
  .next (
    let s1 := s.at t
    if !s1.roundHeld (lane % 8) && s1.stepReady (half % 2) (lane % 8) then s1.commitStep (half % 2) (lane % 8) false else s1)

end Sys2Proof.Machine
end

