-- ==== Sys2Proof/Machine/Opens.lean ====
section
/-!
DEFINITION. Round opens and step admission (ch 6, R134 to R149; R66, R112, R113), the round timer, and the Stop bath.
-/

namespace Sys2Proof.Machine

/-! ## The bath over lanes -/

/-- Is lane `n` held on half `h` by a Stop bath and at rest there, so that the half sends nothing on it (R148)? -/
def State.laneRests (s : State) (h n : Nat) : Bool :=
  (s.bathOn n 1 && !((s.stepOf h n).map (·.roundOpen)).getD false) || (s.bathOn n 2 && (s.stepOf h n).isNone)

/-! ## The admissibility test (R113) -/

/-- What session `i` has still to fetch for a step admitted at `t0` on a lane of interval `tr`: (need, tier, bytes). -/
def State.fetches (s : State) (i t0 tr : Nat) : List (Nat × Nat × Nat) :=
  (s.missing i).map (fun m =>
    match s.pages.pages.get? m.2.2 with
    | some p => (t0 + m.1 * tr, hdTier p.low, 1024 * p.clen)
    | none => (t0 + m.1 * tr, 0, 0))

/-- An entry placed by its need. -/
def insNeed (x : Nat × Nat × Nat) : List (Nat × Nat × Nat) → List (Nat × Nat × Nat)
  | [] => [x]
  | y :: t => if x.1 ≤ y.1 then x :: y :: t else y :: insNeed x t

/-- One tier's entries against its budget, exactly: bytes so far × m ≤ (need − now) × rate, m in 1/256ths. -/
def tierFits (tier now rate m : Nat) : List (Nat × Nat × Nat) → Nat → Bool
  | [], _ => true
  | (need, tr, n) :: t, sum =>
    if tr ≠ tier then tierFits tier now rate m t sum
    else
      let sum1 := sum + n
      decide (256 * rate * now + sum1 * m ≤ 256 * rate * need) && tierFits tier now rate m t sum1

/-- The test of R113 at `now`; budgets of 0x3100.03 to .05 in GB/s are bytes per ns. -/
def State.admissible (s : State) (now : Nat) (l : List (Nat × Nat × Nat)) : Bool :=
  let e := l.foldr insNeed []
  [2, 3, 4].all (fun tier => tierFits tier now (s.dval 0x3100 (tier + 1)) (s.dval 0x3100 2) e 0)

/-- The entries of the requests of half `h` admitted to steps in flight, the step being admitted among them. -/
def State.flyingFetches (s : State) (h : Nat) : List (Nat × Nat × Nat) :=
  (List.range 8).flatMap (fun n =>
    let l := s.laneH h n
    match l.step with
    | none => []
    | some st => st.reqs.flatMap (fun r =>
        if (s.ent r.idx).reslayers < s.laneLayers n then s.fetches r.idx st.t0 (l.tr.getD 0) else []))

/-! ## The reservation (R66) -/

/-- Does an append to the page of share record `rid` take a copy (R63)? -/
def State.sharedCopies (s : State) (rid : Nat) : Bool :=
  match s.pages.shares.get? rid with
  | some x => ((s.pages.pages.get? x.pid).map (fun p => p.copies x.refs)).getD false
  | none => false

/-- What the step of `n` tokens at count `c` of session `i` may open, in KiB: pages, one copy where the last entry is shared,
and table blocks. -/
def State.stepReserve (s : State) (i c n : Nat) (p : Profile) : Nat :=
  let t := s.tableOf i
  let pages := cdiv (c + n) 16 - cdiv c 16
  ((List.range p.layers).map (fun l =>
    let lt := t.layer l
    let copy := match lt.ents.get? (c / 16) with
      | some (.shared rid) => if c % 16 ≠ 0 ∧ s.sharedCopies rid then 1 else 0
      | _ => 0
    let leaves := max lt.leaves ((c + n - 1) / 1024 + 1)
    (pages + copy) * openCharge p.pageKib + 2 * (layerBlocks leaves - layerBlocks lt.leaves))).foldl (· + ·) 0

/-! ## Step admission (R139) -/

/-- The requests queued for lane `n` on half `h`: LC first, in SUBMIT order. -/
def State.candidates (s : State) (h n : Nat) : List Nat :=
  let q := s.sess.slots.filter (fun r =>
    r.2.lane == n && r.2.half == h && !r.2.collecting && (s.ent r.2.idx).state == .live)
  let ins := fun (l : List (Nat × Request)) (x : Nat × Request) =>
    (l.filter (fun y => decide (y.2.order < x.2.order))) ++ x :: (l.filter (fun y => !decide (y.2.order < x.2.order)))
  let srt := fun (l : List (Nat × Request)) => l.foldl ins []
  (srt (q.filter (fun r => r.2.lc)) ++ srt (q.filter (fun r => !r.2.lc))).map (·.1)

/-- The tokens of the next step of a request: 1 for a decode step, else the next chunk (R42). -/
def Request.ntok (q : Request) : Nat := if q.todo.isEmpty then 1 else min q.chunk q.todo.length

/-- The roster entry of request `q` in slot `k` (R139): SEL, its ids, and the modes in force. -/
def State.rosterEntry (s : State) (k src : Nat) (q : Request) (reserve : Nat) : InReq :=
  let e := s.ent q.idx
  { slot := k, idx := q.idx, pos := e.count, ntok := q.ntok
    sel := q.maxNew != 0 && decide (q.todo.length ≤ q.chunk)
    lc := q.lc, part := q.part, ids := if q.todo.isEmpty then [e.tail] else q.todo.take q.chunk
    mark := .data, arrived := false, outSent := false, sender := src, q := [], splits := [], token := none, dead := false
    reserve, grown := 0, opened := [], inputDone := false
    maskHost := q.grammar != 0xFFFF && s.dval (0xA000 + q.part) 3 == 1
    selHost := s.dval (0xA000 + q.part) 4 == 1 }

/-- Event 0x2041 may come again for every port whose time map is valid again (R139). -/
def State.mapTold (s : State) : State :=
  { s with ev := { s.ev with latch := s.ev.latch.keep (fun k _ => !(k / 2 ^ 40 == 0x2041 && s.mapValid (k % 2 ^ 40 / 2) (k % 2))) } }

/-- Event 0x2045 may come again for every partition and half whose core set is not empty any more (R139). -/
def State.coreSetsTold (s : State) : State :=
  { s with ev := { s.ev with latch := s.ev.latch.keep (fun k _ =>
    !(k / 2 ^ 40 == 0x2045 && !(s.coreSet (k % 2) (k % 2 ^ 40 / 2)).isEmpty)) } }

/-- One candidate of a step admission (R139): admitted, skipped, or ended. An admission held only because the lane has no interval yet
(R112) is not one held by the test of R113. `left` the requests and tokens still allowed, the
tokens none where there is no limit. -/
def State.tryAdmit (s : State) (h n src t k : Nat) (left : Nat × Option Nat) : State × Nat × Option Nat :=
  match s.sess.slots.get? k with
  | none => (s, left)
  | some q =>
    let port := q.cmd.fn / 64
    if q.deadline ≠ 0 ∧ !s.mapValid port h then (s.raiseOnce 0x2041 (2 * port + h) 0 h [h], left)
    else
    let s := s.mapTold
    if s.deadlinePast q then (s.endReq k stLATE 0 none, left)
    else if (s.coreSet h q.part).isEmpty then (s.raiseOnce 0x2045 (2 * q.part + h) q.part h [q.part, h], left)
    else
      let s := s.coreSetsTold
      let fits := match left.2 with
        | some m => decide (q.ntok ≤ m)
        | none => true
      if left.1 = 0 ∨ !fits ∨ 16 ≤ (q.detok.filter (fun w => w.reply.isNone)).length then (s, left)
      else
        match s.profOf q.idx with
        | none => (s, left)
        | some p =>
          let e := s.ent q.idx
          let l := s.laneH h n
          let resident := decide (p.layers ≤ e.reslayers)
          let ok := resident ||
            (match l.tr with
             | none => false
             | some tr => s.admissible t (s.flyingFetches h ++ s.fetches q.idx t tr))
          if !ok then (if l.tr.isSome then s.count 0x8310 4 1 else s, left)
          else
            let need := s.stepReserve q.idx e.count q.ntok p
            match s.noRoom q.part h need with
            | some quota =>
              let s1 := s.count 0x8210 (if quota then 7 else 6) 1
              ((if quota then s1 else s1.raiseOnce 0x2022 h q.part h [h, q.part]).endReq k stNOSPACE (if quota then dQUOTA else 0) none, left)
            | none =>
              let r := s.rosterEntry k src q need
              ((s.unlatch 0x2022 h).updStep h n (fun st => { st with reqs := st.reqs ++ [r] }), left.1 - 1, left.2.map (· - q.ntok))

/-! ## Rounds -/

/-- An open of lane `n` is admitted at `t`: the interval is kept, the refusal may be reported again, and the round begins
(R112, R140, R141). -/
def State.startRound (s : State) (h n src t layer : Nat) (sel : Bool) : State :=
  let l := (s.laneH h n).opened t
  let l1 := { l with step := l.step.map (fun st =>
    { st with layer := if sel then st.layer else layer, selPhase := sel, roundOpen := true, opener := src }), timer := true }
  (((s.setLane h n l1).unlatch 0x2040 (8 * h + n)).beginRound h n).tryClose h n

/-- The open held for the step is admitted once its round has closed, where no bath holds it (R137, R148). -/
def State.admitHeld (s : State) (h n t : Nat) : State :=
  let l := s.laneH h n
  match l.held, l.step with
  | some o, some st =>
    if st.roundOpen ∨ s.roundHeld n then s
    else (s.setLane h n { l with held := none }).startRound h n o.src t (bitsN o.hdr 191 184) (bitsN o.hdr 183 182 == 1)
  | _, _ => s

/-- After an output or a mark: the round closes when every request has sent, and the held open is admitted. -/
def State.advanceRound (s : State) (h n t : Nat) : State := (s.tryClose h n).admitHeld h n t

/-- The rows of the roster's token ids for a table with INPUT (R228). -/
def State.rosterRows (s : State) (h n src : Nat) : State :=
  match s.inputTable n, s.stepOf h n with
  | some tb, some st =>
    let ids := st.reqs.flatMap (·.ids)
    if ids.isEmpty then s else s.inputFor tb h src st.seq ids
  | _, _ => s

/-- Step admission at `t` (R139): the roster is formed and sent, and round 0 begins. -/
def State.admitStep (s : State) (h n src t seq maxreq maxtok : Nat) : State :=
  let l := s.laneH h n
  let st : Step :=
    { seq, t0 := t, layer := 0, selPhase := false, roundOpen := false, nout := 0, nmark := 0, reqs := [], opener := src
      ab := false, restored := false }
  let s1 := s.setLane h n { l with step := some st }
  let m := if maxreq = 0 then s.laneF n 5 else maxreq
  let k := if maxtok = 0 then none else some maxtok
  let r := (s1.candidates h n).foldl (fun (a : State × Nat × Option Nat) c => a.1.tryAdmit h n src t c a.2) (s1, m, k)
  let s2 := match r.1.stepOf h n with
    | some x => r.1.sendRoster h n x
    | none => r.1
  (s2.rosterRows h n src).startRound h n src t 0 false

/-- ROUND_OPEN taken under R137 at time `t`. -/
def State.takeOpen (s : State) (h src : Nat) (hdr : Nat) (t : Nat) : State :=
  let seq := bitsN hdr 255 192
  let layer := bitsN hdr 191 184
  let kind := bitsN hdr 183 182
  let n := bitsN hdr 181 179
  let no := s.refuseOpen h n seq layer kind
  let l := s.laneH h n
  if s.laneF n 1 ≠ 1 ∧ !(l.stopping && l.step.isSome) then no 7
  else if bitsN hdr 178 173 ≠ s.laneF n 2 then no 3
  else if kind = 3 then no 5
  else
    match l.step with
    | none =>
      if kind ≠ 0 ∨ layer ≠ 0 then no 2
      else if s.lanesHeld h then no 4
      else if (match l.last with
          | some x => decide (seq ≤ x)
          | none => false) then no 1
      else s.admitStep h n src t seq (bitsN hdr 172 159) (bitsN hdr 158 135)
    | some st =>
      let last := decide (s.laneLayers n ≤ st.layer + 1)
      if seq ≠ st.seq then no 1
      else if kind = 2 then s.commitStep h n true
      else if l.held.isSome then no 2
      else if st.selPhase ∨ (kind = 0 ∧ (layer ≠ st.layer + 1 ∨ last)) ∨ (kind = 1 ∧ !last) then no 2
      else if st.roundOpen ∨ s.roundHeld n then s.setLane h n { l with held := some { half := h, lane := n, src, hdr } }
      else s.startRound h n src t layer (kind == 1)

/-- Does the open repeat one already admitted or held, or one of the step committed last (R136)? -/
def State.repeatedOpen (s : State) (h : Nat) (hdr : Nat) : Bool :=
  let n := bitsN hdr 181 179
  let key := bitsN hdr 255 182
  let same := fun (o : HeldOpen) => o.half == h && o.lane == n && bitsN o.hdr 255 182 == key
  let seq := bitsN hdr 255 192
  let layer := bitsN hdr 191 184
  let kind := bitsN hdr 183 182
  let l := s.laneH h n
  (l.held.toList.any same) || s.sched.bath.held.any same ||
    (match l.step with
     | some st => st.seq == seq && ((kind == 0 && decide (layer ≤ st.layer)) || (kind == 1 && st.selPhase))
     | none => false) ||
    (match l.prev with
     | some (q, ly, sel, ab) => q == seq && ((kind == 0 && decide (layer ≤ ly)) || (kind == 1 && sel) || (kind == 2 && ab))
     | none => false)

/-- Does the Stop bath hold the open on its arrival (R148, R149)? -/
def State.bathHolds (s : State) (h : Nat) (hdr : Nat) : Bool :=
  let n := bitsN hdr 181 179
  let first := (s.stepOf h n).isNone && bitsN hdr 183 182 == 0 && bitsN hdr 191 184 == 0
  if first ∧ s.lanesHeld h then false
  else if s.roundHeld n then true
  else s.bathOn n 2 && first

/-- ROUND_OPEN as it arrives on half `h` from endpoint `src`; on a lane that a bath holds nothing is sent for a discarded one (R148). -/
def State.openArrives (s : State) (h src : Nat) (hdr : BitVec 256) (t : Nat) : State :=
  let x := hdr.toNat
  let n := bitsN x 181 179
  let close := fun (u : State) code =>
    if u.laneRests h n then u else u.sendClose h n (bitsN x 255 192) (bitsN x 191 184) (bitsN x 183 182) 0 0 code
  if !openOk hdr then close (s.discard 1 n src h) 5
  else if !s.inMask n src then close (s.discard 1 n src h) 6
  else if s.repeatedOpen h x then s.discard 1 n src h
  else
    let s1 := s.unlatch 0x2046 (256 * n + 1)
    if s1.bathHolds h x then
      let b := s1.sched.bath
      { s1 with sched := { s1.sched with bath := { b with held := b.held ++ [{ half := h, lane := n, src, hdr := x }] } } }
    else s1.takeOpen h src x t

/-- ROUND_OPEN (R136 to R140). -/
def execRoundOpen (half src : Nat) (hdr : BitVec 256) (t : Nat) (s : State) : Host.Outcome State Fault Refusal :=
  .next ((s.at t).openArrives (half % 2) src hdr t)

/-- ROUND_OPEN with kind 0b10 (R138). -/
def execRoundOpenAbandon (half src : Nat) (hdr : BitVec 256) (t : Nat) (s : State) : Host.Outcome State Fault Refusal :=
  .next ((s.at t).openArrives (half % 2) src hdr t)

/-! ## The round timer (R141) -/

/-- Does request `r` still owe its message of the open round? -/
def State.owes (s : State) (st : Step) (r : InReq) : Bool :=
  r.mark == .data &&
    (if st.selPhase then r.sel && !r.dead && r.token.isNone && !((s.sess.selIn.get? r.slot).map (·.complete)).getD false
     else !r.arrived)

/-- The timer of a lane stops when nothing is owed in the open round. -/
def State.restTimer (s : State) (h n : Nat) : State :=
  match s.stepOf h n with
  | none => s
  | some st =>
    if st.roundOpen ∧ !st.reqs.any (s.owes st) then
      let l := s.laneH h n
      s.setLane h n { l with timer := false }
    else s

/-- Does a Stop bath hold an open or the step of lane `n` on half `h`, which suspends its timers (R141)? -/
def State.timerHeld (s : State) (h n : Nat) : Bool :=
  s.sched.bath.held.any (fun o => o.half == h && o.lane == n) || (s.roundHeld n && !((s.stepOf h n).map (·.roundOpen)).getD false)

/-- What a request owes or has given changed: the timer may stop, and the selection phase's round may be over. -/
def State.settleRound (s : State) (h n : Nat) : State := (s.restTimer h n).tryClose h n

/-- ROUND_TIMER_EXPIRY: drop-outs, or the step is abandoned. -/
def State.roundExpiry (s : State) (h n t : Nat) : State :=
  let l := s.laneH h n
  match l.step with
  | none => s
  | some st =>
    if !l.timer ∨ s.timerHeld h n then s
    else if st.roundOpen then
      let s1 := s.setLane h n { l with timer := false }
      ((st.reqs.filter (s.owes st)).foldl (fun u r => u.dropOut h n r.slot) s1).advanceRound h n t
    else (s.commitStep h n true).raise 0x2044 0 h ([n, h] ++ w2 st.seq)

/-- ROUND_TIMER_EXPIRY. -/
def execRoundTimerExpiry (half lane : Nat) (t : Nat) (s : State) : Host.Outcome State Fault Refusal :=
  .next ((s.at t).roundExpiry (half % 2) (lane % 8) t)

/-- HOST_ASSIST_WAIT_EXPIRY (R146): once every other outcome is fixed, the requests still waiting for the host are deferred. -/
def State.assistExpiry (s : State) (h n : Nat) : State :=
  match s.stepOf h n with
  | none => s
  | some st =>
    let l := s.laneLayers n
    let waits := fun (r : InReq) => s.sess.exs.any (fun x => x.slot == r.slot && (x.func == 3 || x.func == 4))
    let open_ := st.reqs.filter (fun r => !st.fixed l r)
    if open_.isEmpty ∨ !open_.all waits then s else (open_.foldl (fun u r => u.fixMark h n r.slot .deferred) s).settleRound h n

/-- HOST_ASSIST_WAIT_EXPIRY. -/
def execHostAssistWaitExpiry (half lane : Nat) (s : State) : Host.Outcome State Fault Refusal :=
  .next (s.assistExpiry (half % 2) (lane % 8))

/-! ## The Stop bath (R148, R149) -/

/-- The lanes of both halves the bath names, as (half, lane). -/
def State.bathLanes (s : State) : List (Nat × Nat) :=
  ((List.range 8).filter (fun n => bitN s.sched.bath.mask n)).flatMap (fun n => [(0, n), (1, n)])

/-- Is the bath quiet: no round open at round level, no step in flight at step level (R148)? -/
def State.bathRests (s : State) : Bool :=
  s.bathLanes.all (fun x =>
    match s.stepOf x.1 x.2 with
    | none => true
    | some st => s.roundHeld x.2 && !st.roundOpen)

/-- The bath's level is set to `lv` over mask `m`; quiet is looked for anew. -/
def State.setBath (s : State) (lv m : Nat) (ckpt : Bool) : State :=
  { s with sched := { s.sched with bath := { s.sched.bath with level := lv, mask := m, quiet := false, ckpt } } }

/-- The held opens that `ok` lets go are taken in arrival order (R149); steps held between rounds admit their held open, and
timers restart. -/
def State.releaseOpens (s : State) (ok : State → HeldOpen → Bool) : State :=
  let go := s.sched.bath.held.filter (ok s)
  let s1 : State := { s with sched := { s.sched with bath := { s.sched.bath with held := s.sched.bath.held.filter (fun o => !ok s o) } } }
  let s2 := s.bathLanes.foldl (fun u x => u.admitHeld x.1 x.2 u.ns) s1
  go.foldl (fun u o => u.takeOpen o.half o.src o.hdr u.ns) s2

/-- The bath ends (R149). -/
def State.endBath (s : State) : State :=
  let s1 : State := { s with sched := { s.sched with bath := { s.sched.bath with level := 0, quiet := false, ckpt := false } } }
  s1.releaseOpens (fun _ _ => true)

/-- From round level to step level the opens of steps in flight are released. -/
def State.bathToStep (s : State) : State :=
  ({ s with sched := { s.sched with bath := { s.sched.bath with level := 2, quiet := false } } }).releaseOpens
    (fun u o => !u.bathHolds o.half o.hdr)

/-- A write to 0x2200.03 (R148, R149): refused while 0x2200.04 is 0, while a checkpoint holds the bath (R283), and while
maintenance state holds the lanes (R397). -/
def State.bathWrite (s : State) (v : List Byte) : Except (Nat × Nat) State :=
  let x := leNat v
  let b := s.sched.bath
  if 2 < x ∨ s.dval 0x2200 4 = 0 ∨ b.ckpt ∨ s.maint.st = 1 ∨ s.maint.st = 2 then .error wRefused
  else
    let s1 := s.dset 0x2200 3 v
    if x = 0 then .ok (if b.level = 0 then s1 else s1.endBath)
    else if b.level = 0 then .ok (s1.setBath x (s.dval 0x2200 4) false)
    else if b.level = x then .ok s1
    else if x = 2 then .ok s1.bathToStep
    else .ok { s1 with sched := { s1.sched with bath := { s1.sched.bath with level := 1, quiet := false } } }

/-- STOP_BATH_START (R148). -/
def execStopBathStart (o : Origin) (v : List Byte) (s : State) : Host.Outcome State Fault Refusal :=
  .next (s.writeRow o 0x2200 3 v (fun s => s.bathWrite v))

/-- STOP_BATH_LEVEL_CHANGE (R149). -/
def execStopBathLevelChange (o : Origin) (v : List Byte) (s : State) : Host.Outcome State Fault Refusal :=
  .next (s.writeRow o 0x2200 3 v (fun s => s.bathWrite v))

/-- STOP_BATH_END (R149). -/
def execStopBathEnd (o : Origin) (v : List Byte) (s : State) : Host.Outcome State Fault Refusal :=
  .next (s.writeRow o 0x2200 3 v (fun s => s.bathWrite v))

/-- STOP_BATH_LATE (R148): 100 ms have passed since the bath started. -/
def execStopBathLate (s : State) : Host.Outcome State Fault Refusal :=
  .next (
    let b := s.sched.bath
    if b.level = 0 ∨ b.quiet then s else s.raise 0x2042 0 0 [b.mask, b.level])

/-! ## Lanes (R134) -/

/-- A lane is enabled: the first step takes any seq, its intervals start anew (R112, R137), and queued requests whose session
has another profile end BAD_DESCRIPTOR (R47). -/
def State.startLane (s : State) (n : Nat) : State :=
  let reset := fun (u : State) (h : Nat) =>
    let l := u.laneH h n
    match l.step with
    | some st => u.setLane h n { l with stopping := false, step := some { st with restored := st.restored || l.stopping } }
    | none => u.setLane h n { l with last := none, ivals := [], lastOpen := none, stopping := false, prev := none }
  let s1 := reset (reset s 0) 1
  ((s1.laneSlots 0 n) ++ (s1.laneSlots 1 n)).foldl (fun u k =>
    match u.sess.slots.get? k with
    | none => u
    | some q => if (u.ent q.idx).profile = s.laneF n 2 then u else u.endReq k stBAD dRANGE (some 0)) s1

/-- A lane is disabled: a step in flight runs to its commit (R134). -/
def State.stopLane (s : State) (n : Nat) : State :=
  let f := fun (u : State) (h : Nat) =>
    let l := u.laneH h n
    if l.step.isSome then u.setLane h n { l with stopping := true } else u
  f (f s 0) 1

/-- A write of a lane's enable (R134). -/
def State.laneWrite (s : State) (n : Nat) (v : List Byte) : Except (Nat × Nat) State :=
  if leNat v = 1 then
    if s.laneF n 1 = 1 then .ok s
    else if s.laneF n 3 = 0 ∨ (s.laneProf n).isNone then .error wRefused
    else .ok ((s.dset (0x2210 + n) 1 v).startLane n)
  else if s.laneF n 1 = 0 then .ok s
  else .ok ((s.dset (0x2210 + n) 1 v).stopLane n)

/-- LANE_ENABLE_WRITE (R134). -/
def execLaneEnableWrite (o : Origin) (lane : Nat) (v : List Byte) (s : State) : Host.Outcome State Fault Refusal :=
  .next (s.writeRow o (0x2210 + lane % 8) 1 v (fun s => s.laneWrite (lane % 8) v))

/-- A write of partition `p`'s core set (R151, R366): it holds for splits placed after it; free cores look for work under it. -/
def State.coreSetWrite (s : State) (p sub : Nat) (v : List Byte) : Except (Nat × Nat) State :=
  let s1 := s.dset (0x2240 + p) sub v
  if s1.confidential ∧ s1.coresShared then .error wRefused else .ok ((s1.coreSetsTold.kick 0 s.ns).kick 1 s.ns)

/-- CORE_SET_WRITE (R151, R366). -/
def execCoreSetWrite (o : Origin) (p sub : Nat) (v : List Byte) (s : State) : Host.Outcome State Fault Refusal :=
  .next (s.writeRow o (0x2240 + p % 64) sub v (fun s => s.coreSetWrite (p % 64) sub v))

end Sys2Proof.Machine
end

