-- ==== Sys2Proof/Machine/Splits.lean ====
section
/-!
DEFINITION. QKV messages, splits and Proofs (ch 6 R140 to R145, ch 7, ch 12 R255 to R266): rows appended, splits placed, a
split's pages read and its partials formed and checked, the replay of a failed one, the merge and the OUTPUT.
-/

namespace Sys2Proof.Machine

/-! ## Tables a profile names -/

/-- Decode table `t` (R153). -/
def State.decTab (s : State) (t : Nat) : List Nat :=
  let b := s.dbytes 0x2380 (1 + t)
  (List.range (b.length / 2)).map (fun i => leAt b (2 * i) 2)

/-- Curve `c`: built in, or loaded (R163, R164). -/
def State.curve (s : State) (c : Nat) : Curve := if c < 2 then builtinCurve c else Curve.parse c (s.dbytes 0x2390 (1 + c))

/-- Query heads of a profile. -/
def Profile.qheads (p : Profile) : Nat := p.heads * p.g

/-! ## Reading a split's pages (R55, R255 to R259) -/

/-- The work of a split: session, layer, split number, first position and tokens. -/
structure SplitWork where
  idx : Nat
  layer : Nat
  j : Nat
  pos : Nat
  ntok : Nat
deriving DecidableEq, Repr

/-- Is position `j` visible to any query of the work? -/
def SplitWork.seen (w : SplitWork) (p : Profile) (j : Nat) : Bool :=
  (List.range w.ntok).any (fun k => visible p w.layer (w.pos + k) j)

/-- Is position `j` of the work read: below its end, and visible to a query? -/
def SplitWork.reads (w : SplitWork) (p : Profile) (j : Nat) : Bool := decide (j < w.pos + w.ntok) && w.seen p j

/-- Is some position of page `g` read? -/
def SplitWork.readsPage (w : SplitWork) (p : Profile) (g : Nat) : Bool :=
  (List.range 16).any (fun t => w.reads p (16 * g + t))

/-- The pages of the split that are read (R162). -/
def SplitWork.pages (w : SplitWork) (p : Profile) : List Nat :=
  ((List.range 64).map (· + 64 * w.j)).filter (w.readsPage p)

/-- Every page of the split read: the state, and the page that held poison, none where none did. -/
def State.readSplit (s : State) (p : Profile) (w : SplitWork) : State × Option Nat :=
  (w.pages p).foldl (fun a g =>
    match a.1.pidAt w.idx w.layer g with
    | none => a
    | some pid =>
      let r := a.1.readPage pid (fun t => w.reads p (16 * g + t))
      (r.1, if a.2.isNone && r.2 then some g else a.2)) (s, none)

/-- The rows of the split by slot. -/
def State.splitRows (s : State) (p : Profile) (w : SplitWork) : SplitRows :=
  (List.range 1024).map (fun t =>
    let i := 1024 * w.j + t
    if w.reads p i then (s.pageAt w.idx w.layer (i / 16)).bind (fun g => g.rows.get? (i % 16)) else none)

/-- Stored NaN and infinity codes among the rows of page `g` (R153). -/
def oddIn (p : Profile) (r : Row) : Nat :=
  ((elems (fmtBytes p.kfmt) (p.heads * p.dk) r.k).filter (oddCode p.kfmt)).length
    + (if p.latent then 0 else ((elems (fmtBytes p.vfmt) (p.heads * p.dv) r.v).filter (oddCode p.vfmt)).length)

/-- Each such decode is counted at 0x8230.07, with event 0x2052 once for each page since it was written. -/
def State.oddCodes (s : State) (p : Profile) (w : SplitWork) : State :=
  (w.pages p).foldl (fun u g =>
    match u.pidAt w.idx w.layer g with
    | none => u
    | some pid =>
      match u.pages.pages.get? pid with
      | none => u
      | some pg =>
        let n := ((pg.rows.filter (fun kr => w.reads p (16 * g + kr.1))).map (fun kr => oddIn p kr.2)).foldl (· + ·) 0
        if n = 0 then u else (u.count 0x8230 7 n).raiseOnce 0x2052 pid pg.part pg.half ([pg.half] ++ w2 pg.loc)) s

/-- The query heads of the work, raw, at token `k` and head `qh`. -/
def rawQuery (p : Profile) (q : List Byte) (k qh : Nat) : List Nat :=
  elems 2 p.dk (slice q (2 * (k * p.qheads + qh) * p.dk) (2 * p.dk))

/-- The runs of a split over its query heads and positions, token-major (R166); `x` is what the core that ran it flipped in the
first output element, 0 for a sound core. -/
def State.runSplit (s : State) (p : Profile) (w : SplitWork) (q : List Byte) (x : Nat) : List PartRun :=
  let rows := s.splitRows p w
  let kt := s.decTab p.kdt
  let vt := s.decTab p.vdt
  let ec := s.curve p.expCurve
  let tc := s.curve p.tanhCurve
  let runs := (List.range w.ntok).flatMap (fun k => (List.range p.qheads).map (fun qh =>
    let i := w.pos + k
    let raw := rawQuery p q k qh
    let r := partialOf p ec tc kt vt w.layer w.j i qh ((rotQuery p i raw).map (dec16 p.qfmt)) rows
    if r.part.empty then r else { r with sat := r.sat + rotSat p i (raw.map (dec16 p.qfmt)) }))
  runs.mapIdx (fun n r =>
    if n ≠ 0 ∨ x = 0 then r
    else { r with part := { r.part with o := r.part.o.mapIdx (fun e v => if e = 0 then v ^^^ (x % 2 ^ 32) else v) } })

/-- The verdict of a run: the results replaced, partials checked, and partials that fail; a saturated split, be it by the checker's own
sums, is not checked (R159, R170, R171). With `x` of 2^32 or more the core's checker fails the first partial whatever its sums (R265, cause 0). -/
def State.judge (s : State) (p : Profile) (w : SplitWork) (runs : List PartRun) (x : Nat) : Nat × Nat × Nat :=
  let sat := (runs.map (·.sat)).foldl (· + ·) 0
  let full := runs.filter (fun r => !r.part.empty)
  if sat ≠ 0 then (sat, 0, 0)
  else
    let rows := s.splitRows p w
    let kt := s.decTab p.kdt
    let vt := s.decTab p.vdt
    let chk := runs.mapIdx (fun n r =>
      let c := checkPartial p kt vt (n % p.qheads) (fun t => visible p w.layer (w.pos + n / p.qheads) (1024 * w.j + t)) r rows
      (c.1 && !(n == 0 && decide (2 ^ 32 ≤ x) && !r.part.empty), c.2))
    let own := (chk.map (·.2)).foldl (· + ·) 0
    if own ≠ 0 then (own, 0, 0) else (0, full.length, (chk.filter (fun c => !c.1)).length)

/-- The counters of a run's verdict. -/
def State.countRun (s : State) (runs : List PartRun) (v : Nat × Nat × Nat) : State :=
  let full := (runs.filter (fun r => !r.part.empty)).length
  (((s.count 0x8230 2 v.2.1).count 0x8230 3 v.2.2).count 0x8230 4 (if v.1 ≠ 0 then full else 0)).count 0x8230 5 v.1

/-! ## The merge and the OUTPUT (R145, R168, R28) -/

/-- Split `j` of the request's open round is decided. -/
def State.setSplit (s : State) (h n k j : Nat) (x : SplitState) : State :=
  s.updStep h n (fun st => st.upd k (fun r => { r with splits := r.splits.put j x }))

/-- The partials of every split of a request, in split order, where all are decided. -/
def InReq.decided (r : InReq) : Option (List (List Partial)) :=
  if r.splits.isEmpty then none
  else r.splits.foldr (fun x a =>
    match x.2, a with
    | .done p, some l => some (p :: l)
    | _, _ => none) (some [])

/-- The OUTPUT of a request whose splits are all decided. -/
def State.finishRequest (s : State) (h n k t : Nat) : State :=
  match s.stepOf h n, s.laneProf n with
  | some st, some p =>
    (match st.req k with
     | none => s
     | some r =>
       match r.decided with
       | none => s
       | some ps =>
         if r.mark ≠ .data ∨ r.outSent then s
         else
           let ec := s.curve p.expCurve
           let outs := (List.range (r.ntok * p.qheads)).map (fun i =>
             formOutput p ec (i % p.qheads) (ps.map (fun l => nth l i (Partial.none p.dv))))
           let merges := r.ntok * p.qheads * (ps.length - 1 + b2n p.sinkOn)
           let s1 := (s.count 0x8230 5 ((outs.map (·.2)).foldl (· + ·) 0)).count 0x8230 8 merges
           ((s1.sendOutput st r 0 (outs.flatMap (fun x => elemBytes 2 x.1))).markSent h n k true).advanceRound h n t)
  | _, _ => s

/-- The mark of request `k` is fixed, and the round goes on. -/
def State.markRequest (s : State) (h n k t : Nat) (m : Mark) : State :=
  (((s.fixMark h n k m).restTimer h n)).advanceRound h n t

/-- A request consumes poison in page `g` of a layer (R259). -/
def State.consumePoison (s : State) (h n k t idx layer g : Nat) : State :=
  let e := s.ent idx
  ((s.count 0x8600 3 1).raise 0x6004 e.part h (w2 (s.handleOf idx) ++ [layer, g])).markRequest h n k t .poisoned

/-! ## Proofs (R263 to R266) -/

/-- A Proof's cores in one word: original, replay, third. -/
def coresWord (a b c : Nat) : Nat := a + 256 * b + 65536 * c

/-- A Proof ends without agreement, or is refused: INTEGRITY and event 0x6023. -/
def State.noAgreement (s : State) (h n k t idx cores : Nat) (dead : Bool) : State :=
  let s1 := (s.count 0x8600 0xB 1).raise 0x6023 (s.ent idx).part h (cores :: w2 (s.handleOf idx))
  if dead then s1 else s1.markRequest h n k t .integrity

/-- The run that Proof `id` needs is placed, or the Proof ends (R264). -/
def State.placeProof (s : State) (id : Nat) (x : Proof) (t : Nat) : State :=
  match s.proofCores x with
  | [] =>
    let s1 : State := { s with integ := { s.integ with proofs := s.integ.proofs.del id } }
    s1.noAgreement x.half x.lane x.slot t x.idx (coresWord x.core (if x.run = 3 then x.rcore else 0) 0) x.discard
  | cs =>
    ({ s with integ := { s.integ with proofs := s.integ.proofs.put id x } }).placeWork x.half x.part 0 t (.proof id x.run) cs

/-- A Proof opens for a split that failed its check on core `c` (R263). -/
def State.openProof (s : State) (h n k t c : Nat) (r : InReq) (w : SplitWork) (parts : List Partial) : State :=
  let used := (s.integ.proofs.filter (fun x => x.2.core / 16 == c / 16)).length
  if 64 ≤ used then s.noAgreement h n k t r.idx (coresWord c 0 0) false
  else
    let s1 := ((s.raise 0x6020 r.part h [c, n, k]).count 0x8600 7 1).countCore 0 c
    let id := s1.integ.next
    let x : Proof :=
      { half := h, lane := n, slot := k, layer := w.layer, j := w.j, part := r.part, core := c, orig := parts, run := 2, rcore := 0
        rep := [], repOk := false, page := ((s.pageAt w.idx w.layer (64 * w.j)).map Page.loc).getD 0, discard := false
        idx := w.idx, pos := w.pos, ntok := w.ntok, q := r.q }
    let s2 : State := { s1 with integ := { s1.integ with next := id + 1, proofs := s1.integ.proofs.put id x } }
    (s2.setSplit h n k w.j .proof).placeProof id x t

/-- CHECKER_FAULT of cause 0, the original core's checker, or 1, the row sums (R265). -/
def State.checkerFault (s : State) (x : Proof) (cause : Nat) : State :=
  let s1 := (s.count 0x8600 8 1).raise 0x6022 x.part x.half ([x.core, cause] ++ w2 x.page)
  if cause = 0 then (s1.countCore 2 x.core).coreFault x.core else s1

/-- ENGINE_FAULT of core `c` (R265). -/
def State.engineFault (s : State) (x : Proof) (c : Nat) : State :=
  ((((s.count 0x8600 9 1).raise 0x6021 x.part x.half [c, x.lane, x.slot]).countCore 1 c)).coreFault c

/-- Proof `id` is decided with the partials `parts`, which enter the merge where the request still waits for them. -/
def State.decideProof (s : State) (id : Nat) (x : Proof) (t : Nat) (parts : List Partial) : State :=
  let s1 : State := { s with integ := { s.integ with proofs := s.integ.proofs.del id } }
  if x.discard then s1 else (s1.setSplit x.half x.lane x.slot x.j (.done parts)).finishRequest x.half x.lane x.slot t

/-- Table 12-3: a run of Proof `id` on core `c` has finished with partials `parts`, `ok` that it passed its check. -/
def State.proofRun (s : State) (id : Nat) (x : Proof) (c t : Nat) (parts : List Partial) (ok : Bool) : State :=
  if x.run = 2 then
    if parts = x.orig then (s.checkerFault x (if ok then 0 else 1)).decideProof id x t x.orig
    else if ok then (s.engineFault x x.core).decideProof id x t parts
    else (s.count 0x8600 0xA 1).placeProof id { x with run := 3, rcore := c, rep := parts, repOk := false } t
  else if parts = x.orig then ((s.engineFault x x.rcore).checkerFault x 1).decideProof id x t x.orig
  else if parts = x.rep then ((s.engineFault x x.core).checkerFault x 1).decideProof id x t x.rep
  else
    let s1 : State := { s with integ := { s.integ with proofs := s.integ.proofs.del id } }
    s1.noAgreement x.half x.lane x.slot t x.idx (coresWord x.core x.rcore c) x.discard

/-- The profile of a Proof's session. -/
def State.proofEnds (s : State) (c t x : Nat) : State :=
  match (s.core c).run with
  | some (.proof id _) =>
    (match s.integ.proofs.get? id with
     | none => s.nextWork c t
     | some pr =>
       let w : SplitWork := { idx := pr.idx, layer := pr.layer, j := pr.j, pos := pr.pos, ntok := pr.ntok }
       match s.profOf pr.idx with
       | none => ({ s with integ := { s.integ with proofs := s.integ.proofs.del id } } : State).nextWork c t
       | some p =>
         let rd := s.readSplit p w
         match rd.2 with
         | some g =>
           let s1 : State := { rd.1 with integ := { rd.1.integ with proofs := rd.1.integ.proofs.del id } }
           (if pr.discard then s1 else s1.consumePoison pr.half pr.lane pr.slot t pr.idx pr.layer g).nextWork c t
         | none =>
           let s1 := rd.1.oddCodes p w
           let runs := s1.runSplit p w pr.q x
           let v := s1.judge p w runs x
           ((s1.countRun runs v).proofRun id pr c t (runs.map (·.part)) (v.1 == 0 && v.2.2 == 0)).nextWork c t)
  | _ => s

/-- PROOF_RUN_FINISH (R264 to R266): `x` mod 2^32 is what the core flipped in the first output element;
2^32 and more, its checker fails the run. -/
def execProofRunFinish (core x : Nat) (s : State) : Host.Outcome State Fault Refusal :=
  if 256 ≤ core then .fault (.noSuchUnit "core" core) else .next (s.proofEnds core s.ns x)

/-! ## SPLIT_FINISH -/

/-- The split that core `c` ran has finished (R145, R166, R170, R263). -/
def State.splitEnds (s : State) (c t x : Nat) : State :=
  match (s.core c).run with
  | some (.split h n k layer j) =>
    let s0 : State :=
      match s.stepOf h n, s.laneProf n with
      | some st, some p =>
        (match st.req k with
         | none => s
         | some r =>
           if r.mark ≠ .data ∨ st.layer ≠ layer ∨ r.splits.get? j ≠ some (.running c) then s
           else
             let w : SplitWork := { idx := r.idx, layer, j, pos := r.pos, ntok := r.ntok }
             let rd := s.readSplit p w
             match rd.2 with
             | some g => rd.1.consumePoison h n k t r.idx layer g
             | none =>
               let s1 := (rd.1.oddCodes p w).count 0x8230 1 1
               let runs := s1.runSplit p w r.q x
               let v := s1.judge p w runs x
               let s2 := s1.countRun runs v
               if v.2.2 ≠ 0 then s2.openProof h n k t c r w (runs.map (·.part))
               else (s2.setSplit h n k j (.done (runs.map (·.part)))).finishRequest h n k t)
      | _, _ => s
    s0.nextWork c t
  | _ => s

/-- SPLIT_FINISH: `x` is 0 for a sound core; mod 2^32, what the core flipped in the first output element; 2^32 and more, its
checker fails the run. -/
def execSplitFinish (core t x : Nat) (s : State) : Host.Outcome State Fault Refusal :=
  if 256 ≤ core then .fault (.noSuchUnit "core" core) else .next ((s.at t).splitEnds core t x)

/-! ## QKV -/

/-- Bytes of a QKV's blocks for `n` tokens: query, key, value. -/
def Profile.qkvBytes (p : Profile) (n : Nat) : Nat × Nat × Nat :=
  (2 * n * p.qheads * p.dk, 2 * n * p.heads * p.dk, if p.latent then 0 else 2 * n * p.heads * p.dv)

/-- Are all 16-bit elements of a block finite? -/
def allFinite (fmt : Nat) (b : List Byte) : Bool := (elems 2 (b.length / 2) b).all (inFinite fmt)

/-- The rows of a QKV stored in both copies (R58), with the replacements of R159 made in forming them; what was opened is remembered for
the commit. -/
def State.storeRows (s : State) (h n : Nat) (r : InReq) (p : Profile) (layer : Nat) (kb vb : List Byte) : State :=
  let kt := s.decTab p.kdt
  let vt := s.decTab p.vdt
  (List.range r.ntok).foldl (fun u k =>
    let ks := (List.range p.heads).map (fun i => elems 2 p.dk (slice kb (2 * (k * p.heads + i) * p.dk) (2 * p.dk)))
    let vs := (List.range p.heads).map (fun i => elems 2 p.dv (slice vb (2 * (k * p.heads + i) * p.dv) (2 * p.dv)))
    let row := makeRow p kt vt (r.pos + k) ks vs
    let u := u.count 0x8230 5 (rowSat p kt vt (r.pos + k) ks row)
    let a := u.appendRow r.idx layer (r.pos + k) (u.ent r.idx).count p row
    let s1 := a.1.updStep h n (fun st => st.upd r.slot (fun x => { x with opened := x.opened ++ a.2.1, grown := x.grown + 2 * a.2.2 }))
    match s1.pidAt r.idx layer ((r.pos + k) / 16) with
    | some pid => s1.unlatch 0x2052 pid
    | none => s1) s

/-- The splits of a request's round are placed, in their order; one that no query sees is an empty partial (R140, R143, R162). -/
def State.placeSplits (s : State) (h n t : Nat) (r : InReq) (p : Profile) (layer : Nat) : State :=
  (List.range (cdiv (r.pos + r.ntok) 1024)).foldl (fun u j =>
    let w : SplitWork := { idx := r.idx, layer, j, pos := r.pos, ntok := r.ntok }
    if (w.pages p).isEmpty then
      u.setSplit h n r.slot j (.done (List.replicate (r.ntok * p.qheads) (Partial.none p.dv)))
    else u.placeWork h r.part (if r.lc then 1 else 2) t (.split h n r.slot layer j) (u.coreSet h r.part)) s

/-- A QKV on its serving half `h` (R136, R140, R156). -/
def State.qkvArrives (s : State) (h src n : Nat) (hdr : Nat) (data : List Byte) (crc t : Nat) : State :=
  let drop := s.discard 3 n src h
  let layer := bitsN hdr 63 56
  let k := bitsN hdr 55 42
  let dropBit := bitN hdr 29
  match s.stepOf h n, s.laneProf n with
  | some st, some p =>
    (match st.req k with
     | none => drop
     | some r =>
       let z := p.qkvBytes r.ntok
       let len := z.1 + z.2.1 + z.2.2
       let chk := if dropBit then Check.good else verify data crc
       if !parOk hdr 2 1 0 ∨ bitsN hdr 28 2 ≠ 0 ∨ !s.inMask n src then drop
       else if bitsN hdr 127 64 ≠ st.seq ∨ !st.roundOpen ∨ st.selPhase ∨ layer ≠ st.layer then drop
       else if bitsN hdr 41 30 ≠ r.ntok ∨ r.mark ≠ .data ∨ r.arrived then drop
       else if data.length ≠ (if dropBit then 0 else len) ∨ chk = .failed then drop
       else
         let s1 := (s.unlatch 0x2046 (256 * n + 3)).updStep h n (fun x => x.upd k (fun y => { y with arrived := true, sender := src }))
         let out := fun (u : State) => ((u.dropOut h n k).restTimer h n).advanceRound h n t
         if dropBit then out s1
         else if chk = .poisoned then s1.markRequest h n k t .poisoned
         else
           let qb := data.take z.1
           let kb := slice data z.1 z.2.1
           let vb := slice data (z.1 + z.2.1) z.2.2
           if !(allFinite p.qfmt qb && allFinite p.kvin kb && allFinite p.kvin vb) then
             out ((s1.count 0x8230 6 1).raiseOnce 0x2050 (8 * h + n) r.part h [n, h, k])
           else
             let s2 := ((s1.unlatch 0x2050 (8 * h + n)).storeRows h n r p layer kb vb).updStep h n (fun x => x.upd k (fun y => { y with q := qb }))
             (s2.placeSplits h n t r p layer).restTimer h n)
  | _, _ => drop

/-- A per-request message that came in on a link of the other half crosses the bridge, or waits for it (R21, R24): what
carries it, and the state where it may be taken. -/
def State.crossBridge (s : State) (link h bytes : Nat) (c : Crossing) (k : State → State) : State :=
  if linkHalf link = h then k s
  else if s.boot.bridge then { s with fab := { s.fab with crossing := s.fab.crossing ++ [c] } }
  else k ((s.count 0x8410 1 1).countUnits 0x8410 2 4096 bytes)

/-- QKV. -/
def execQkv (link src lane : Nat) (hdr : BitVec 128) (data : List Byte) (crc : Nat) (t : Nat) (s : State) :
    Host.Outcome State Fault Refusal :=
  let h := bits hdr 55 42 / 8192
  let c : Crossing := { sel := false, src, lane := lane % 8, hdr := hdr.toNat, data, crc }
  withLink link ((s.at t).crossBridge link h (52 + data.length) c (fun u => u.qkvArrives h src (lane % 8) hdr.toNat data crc t))

end Sys2Proof.Machine
end

