-- ==== Sys2Proof/Machine/Selection.lean ====
section
/-!
DEFINITION. The selection phase (ch 9; R146, R191, R192): SELECT messages, the grammar mask, the NO_CANDIDATE trip and the
token selected.
-/

namespace Sys2Proof.Machine

/-- The request of slot `k` in the step of its lane, changed by `f`. -/
def State.updInReq (s : State) (h n k : Nat) (f : InReq → InReq) : State := s.updStep h n (fun st => st.upd k f)

/-- The selection input of slot `k` set. -/
def State.putSel (s : State) (k : Nat) (x : SelIn) : State :=
  { s with sess := { s.sess with selIn := s.sess.selIn.put k x } }

/-- An id placed in increasing order. -/
def insCand (c : Cand) : List Cand → List Cand
  | [] => [c]
  | d :: t => if c.id ≤ d.id then c :: d :: t else d :: insCand c t

/-- Candidates in increasing id. -/
def byId (l : List Cand) : List Cand := l.foldr insCand []

/-- The bits of −∞. -/
def negInf : Nat := 0xFF800000

/-! ## Tokens -/

/-- The token `id` is selected for request `k`: its outcome is fixed, and commits with the step. -/
def State.pickToken (s : State) (h n k id : Nat) : State :=
  (s.updInReq h n k (fun r => { r with token := some id })).settleRound h n

/-- Stages 2 to 9 of R206 over `l` in hardware mode. -/
def State.selectNow (s : State) (h n k : Nat) (q : Request) (r : InReq) (p : Profile) (rho : Nat) (l : List Cand) : State :=
  let greedy := q.params.temp % 2 ^ 31 == 0
  let fresh := q.params.seed == 0 && !greedy
  let u := if fresh then fp32.enc false ((Config.drbg s.sec.draws).toNat % 2 ^ 24) (2 ^ 24) else uniform q.params.seed (r.pos + r.ntok)
  let s1 : State := if fresh then { s with sec := { s.sec with draws := s.sec.draws + 1 } } else s
  match selectToken q.params (s.curve p.expCurve) (fun id => q.counts.getD id 0) rho u l with
  | some id => s1.pickToken h n k id
  | none => s1

/-- The payload of a selection exchange (R213), and its item count. -/
def selPayload (q : Request) (full : Bool) (vocab rho : Nat) (l : List Cand) : List Byte × Nat :=
  let head := q.params.raw ++ leBytes 4 rho ++ List.replicate 12 0#8 ++ q.sinceS.flatMap (leBytes 4)
  if full then
    (head ++ (List.range vocab).flatMap (fun id => leBytes 4 (((l.find? (fun c => c.id == id)).map (·.x)).getD negInf)), 0xFFFFFFFF)
  else (head ++ (byId l).flatMap (fun c => leBytes 4 c.id ++ leBytes 4 c.x), l.length)

/-- The half asks for full logits (R210): FULL_REQ, NO_CANDIDATE, and the timer restarts. -/
def State.trip (s : State) (h n k : Nat) (q : Request) (x : SelIn) (seq : Nat) : State :=
  let body := leBytes 16 (withPar (2 ^ 46 + k * 2 ^ 50 + seq % 2 ^ 64 * 2 ^ 64) 2 1 0)
  let s1 := x.senders.foldl (fun u e => u.sendMsg e q.part 8 1 body) s
  let s2 := (s1.count 0x8510 3 1).postReq q (s1.finalComp q k stNOCAND 0 (seq % 2 ^ 32) false)
  let y : SelIn := { full := true, nshard := 0, shards := [], senders := [], trip := true, complete := false, list := [], rho := 0 }
  let s3 := s2.putSel k y
  let l := s3.laneH h n
  s3.setLane h n { l with timer := true }

/-- What follows the mask (R206, R210, R213): `l` the list it left. -/
def State.afterMask (s : State) (h n k : Nat) (l : List Cand) : State :=
  match s.sess.slots.get? k, (s.stepOf h n).bind (·.req k), s.sess.selIn.get? k, s.laneProf n with
  | some q, some r, some x, some p =>
    let seq := ((s.stepOf h n).map (·.seq)).getD 0
    let s1 := s.putSel k { x with list := l }
    if l.isEmpty then
      if x.full then (s1.updInReq h n k (fun r => { r with dead := true })).settleRound h n
      else s1.trip h n k q x seq
    else if r.selHost then
      let pay := selPayload q x.full p.vocab x.rho l
      let s2 := s1.updReq k (fun y => { y with sinceS := [] })
      ((s2.newExch 4 q.part h k (s.handleOf q.idx) seq pay.2 q.sinceS.length pay.1 0).1).settleRound h n
    else s1.selectNow h n k q r p x.rho l
  | _, _, _, _ => s

/-- The list through the grammar mask (R192): by the request's table, by the host, or as it is where no grammar is named. -/
def State.maskList (s : State) (h n k : Nat) (l : List Cand) : State :=
  match s.sess.slots.get? k, (s.stepOf h n).bind (·.req k), s.sess.selIn.get? k with
  | some q, some r, some x =>
    if q.grammar = 0xFFFF then s.afterMask h n k l
    else if r.maskHost then
      let seq := ((s.stepOf h n).map (·.seq)).getD 0
      let ids := byId l
      let pay := q.sinceG.flatMap (leBytes 4) ++ (if x.full then [] else ids.flatMap (fun c => leBytes 4 c.id))
      let s1 := s.updReq k (fun y => { y with sinceG := [] })
      ((s1.newExch 3 q.part h k (s.handleOf q.idx) seq (if x.full then 0xFFFFFFFF else ids.length) q.sinceG.length pay 0).1).settleRound h n
    else
      let b := if 64 ≤ q.grammar then [] else s.dbytes (0x5040 + q.grammar) 1
      match (s.profOf q.idx).bind s.tokzOf with
      | none => s.afterMask h n k l
      | some t =>
        if b.isEmpty then s.afterMask h n k l
        else
          let g := Gram.parse b
          let c := q.gcfg.getD { s := g.start, st := [] }
          let ends := ((s.profOf q.idx).map (·.endToks)).getD []
          (s.count 0x8500 7 1).afterMask h n k (l.filter (fun a => permitted g t ends c a.id))
  | _, _, _ => s

/-! ## The input (R203) -/

/-- The shards in order. -/
def SelIn.inOrder (x : SelIn) : List Shard := x.shards.vals

/-- Do full slices tile the ids 0 to v − 1? -/
def tiles (v : Nat) (l : List Shard) : Bool :=
  (l.map (fun a => a.cands.length)).foldl (· + ·) 0 == v &&
    l.all (fun a => decide (a.base + a.cands.length ≤ v)) &&
    l.all (fun a => l.all (fun b => a.base == b.base || decide (a.base + a.cands.length ≤ b.base) || decide (b.base + b.cands.length ≤ a.base))) &&
    (l.map (·.base)).eraseDups.length == l.length

/-- Is the complete input inconsistent? -/
def SelIn.bad (x : SelIn) (v : Nat) : Bool :=
  let cs := x.inOrder.flatMap (·.cands)
  if x.full then !tiles v x.inOrder || !cs.any (fun c => ffinite c.x)
  else decide (65536 < cs.length) || (cs.map (·.id)).eraseDups.length != cs.length

/-- The input of request `k` is inconsistent: a drop-out, with event 0x5012. -/
def State.inconsistent (s : State) (h n k : Nat) : State :=
  let p := ((s.sess.slots.get? k).map (·.part)).getD 0
  (((s.count 0x8510 5 1).raise 0x5012 p h [n, h, k]).dropOut h n k).settleRound h n

/-- The input is complete (R203, R204): the candidate list and its rest mass go to the mask. -/
def State.selComplete (s : State) (h n k : Nat) (x : SelIn) (p : Profile) : State :=
  if x.bad p.vocab then s.inconsistent h n k
  else
    let cs := x.inOrder.flatMap (·.cands)
    let l := if x.full then cs.filter (fun c => ffinite c.x) else cs
    let rho := if x.full then 0 else restMass (s.curve p.expCurve) cs (x.inOrder.map (fun a => (a.ms, a.ls)))
    (s.putSel k { x with complete := true, list := l, rho }).maskList h n k l

/-- The shard of a message: of full logits (with −∞ kept), or candidates with their normaliser. -/
def shardOf (full : Bool) (base n : Nat) (data : List Byte) : Shard :=
  if full then
    { ms := 0, ls := 0, base, cands := (List.range n).map (fun i => { id := base + i, x := leAt data (4 * i) 4 }) }
  else
    { ms := leAt data 0 4, ls := leAt data 4 4, base
      cands := (List.range n).map (fun i => { id := leAt data (8 + 8 * i) 4, x := leAt data (12 + 8 * i) 4 }) }

/-- Does R203 discard the shard for what it holds? `v` the ids of the profile. -/
def Shard.bad (a : Shard) (full : Bool) (v : Nat) : Bool :=
  a.cands.isEmpty || a.cands.any (fun c => decide (v ≤ c.id)) ||
    (if full then a.cands.any (fun c => !ffinite c.x && c.x != negInf)
     else !ffinite a.ms || !ffinite a.ls || flt a.ls 0x3F800000 || a.cands.any (fun c => !ffinite c.x || flt a.ms c.x))

/-- A SELECT on the serving half `h` (R203). One that differs from the first in FULL or nshard makes the input inconsistent, after it was
complete too; a poisoned one is discarded for what its header says, and else marks the request (R259). -/
def State.selArrives (s : State) (h src n : Nat) (hdr : Nat) (data : List Byte) (crc : Nat) : State :=
  let drop := s.discard 7 n src h
  let k := bitsN hdr 127 114
  let shard := bitsN hdr 113 110
  let nshard := bitsN hdr 109 106
  let full := bitN hdr 105
  let base := bitsN hdr 104 84
  let m := bitsN hdr 83 63
  match s.stepOf h n, s.laneProf n with
  | some st, some p =>
    (match st.req k with
     | none => drop
     | some r =>
       let chk := verify data crc
       let x0 := s.sess.selIn.get? k
       let a := shardOf full base m data
       if !parOk hdr 3 2 0 ∨ bitsN hdr 62 3 ≠ 0 ∨ !s.inMask n src then drop
       else if data.length ≠ (if full then 4 * m else 8 + 8 * m) ∨ chk = .failed then drop
       else if bitsN hdr 191 128 ≠ st.seq ∨ !st.selPhase ∨ !r.sel ∨ r.mark ≠ .data ∨ r.dead ∨ r.token.isSome then drop
       else if (match x0 with
           | some x => x.shards.has shard || (x.trip && !full)
           | none => false) then drop
       else if nshard < shard ∨ m = 0 ∨ (full = true ∧ p.vocab < base + m) ∨ (chk = .good ∧ a.bad full p.vocab) then drop
       else
         let s1 := s.unlatch 0x2046 (256 * n + 7)
         if chk = .poisoned then (s1.fixMark h n k .poisoned).settleRound h n
         else
           match x0 with
           | some x =>
             if !x.shards.isEmpty ∧ (x.full ≠ full ∨ x.nshard ≠ nshard) then s1.inconsistent h n k
             else
               let y : SelIn :=
                 { x with
                   full, nshard, shards := x.shards.put shard a
                   senders := if x.senders.contains src then x.senders else x.senders ++ [src] }
               if y.shards.length = nshard + 1 then (s1.putSel k y).selComplete h n k y p else s1.putSel k y
           | none =>
             let y : SelIn :=
               { full, nshard, shards := [(shard, a)], senders := [src], trip := false, complete := false, list := [], rho := 0 }
             if nshard = 0 then (s1.putSel k y).selComplete h n k y p else s1.putSel k y)
  | _, _ => drop

/-- SELECT (R203). -/
def execSelect (link src lane : Nat) (hdr : BitVec 192) (data : List Byte) (crc : Nat) (s : State) :
    Host.Outcome State Fault Refusal :=
  let h := bits hdr 127 114 / 8192
  let c : Crossing := { sel := true, src, lane := lane % 8, hdr := hdr.toNat, data, crc }
  withLink link (s.crossBridge link h (60 + data.length) c (fun u => u.selArrives h src (lane % 8) hdr.toNat data crc))

/-- The messages that waited for the bridge are taken, oldest first (R24). -/
def State.bridgeBack (s : State) : State :=
  let l := s.fab.crossing
  let s1 : State := { s with fab := { s.fab with crossing := [] } }
  l.foldl (fun u c =>
    let u1 := (u.count 0x8410 1 1).countUnits 0x8410 2 4096 ((if c.sel then 60 else 52) + c.data.length)
    if c.sel then u1.selArrives (bitsN c.hdr 127 114 / 8192) c.src c.lane c.hdr c.data c.crc
    else u1.qkvArrives (bitsN c.hdr 55 42 / 8192) c.src c.lane c.hdr c.data c.crc u1.ns) s1

end Sys2Proof.Machine
end

