-- ==== Sys2Proof/Machine/Profiles.lean ====
section
/-!
DEFINITION. Model profiles, decode tables and curves (R51, R163 to R165, R173 to R175, R195, R214): the checks of a load in the
order of the subindices, and what a load installs.
-/

namespace Sys2Proof.Machine

/-- Subindex `sub` of profile `p`'s staging copy (Table 7-5). -/
def State.stg (s : State) (p sub : Nat) : Nat := s.dval (0x2340 + p) sub

/-- A TABLE of the staging copy. -/
def State.stgB (s : State) (p sub : Nat) : List Byte := s.dbytes (0x2340 + p) sub

/-- Does id `c` name a valid curve of kind `kind`? -/
def State.curveIs (s : State) (c kind : Nat) : Bool :=
  decide (c < 16) && (decide (c < 2) || !(s.dbytes 0x2390 (1 + c)).isEmpty) && (if c < 2 then c + 1 == kind else (s.curve c).kind == kind)

/-- Does id `t` name a valid decode table? -/
def State.tabIs (s : State) (t : Nat) : Bool := decide (t < 16) && !(s.dbytes 0x2380 (1 + t)).isEmpty

/-- The staging subindices 0x02 to 0xFE of profile `p` whose values differ from their defaults, by subindex. -/
def State.stagedRaw (s : State) (p : Nat) : Tab (List Byte) :=
  ((List.range 253).map (· + 2)).filterMap (fun sub => (s.dict.vals.get? (dkey (0x2340 + p) sub)).map (fun v => (sub, v)))

/-- 1 ÷ cap of the staging copy, with the replacement of R159 (R160). -/
def State.stagedCap (s : State) (p : Nat) : Fv :=
  if flt 0 (s.stg p 0x12) then fdiv' 0x3F800000 (s.stg p 0x12) else { v := 0, s := 0 }

/-- The profile that the staging copy describes; rcap is formed here (R160). -/
def State.stagedProfile (s : State) (p : Nat) : Profile :=
  let f := s.stg p
  let l32 := fun (sub : Nat) => let b := s.stgB p sub; elems 4 (b.length / 4) b
  let fr := s.stgB p 0x17
  { latent := f 2 == 1, heads := f 3, g := f 4, dk := f 5, dv := f 6, kfmt := f 7, vfmt := f 8, kvin := f 9, qfmt := f 0xA
    ofmt := f 0xB, layers := f 0xC, maxCtx := f 0xD, scale := f 0xE, kdt := f 0xF, vdt := f 0x10, expCurve := f 0x11
    cap := f 0x12, rcap := (s.stagedCap p).v, tanhCurve := f 0x13, rotMode := f 0x14
    rbase := f 0x15, rlen := f 0x16, freqs := elems 8 (fr.length / 8) fr, window := f 0x18, wbits := f 0x19, sinks := f 0x1A
    alibi := f 0x1B == 1, slopes := l32 0x1C, sinkOn := f 0x1D == 1, sinkZ := l32 0x1E, chunk := 16 * f 0x40, tokenizer := f 0x41
    endToks := l32 0x42, vocab := f 0x50, raw := s.stagedRaw p }

/-- V of the tokenizer that the staging copy names, none without one. -/
def State.stagedVocab (s : State) (p : Nat) : Option Nat := (s.tokzOf (s.stagedProfile p)).map (·.v)

/-- The checks of a load, by subindex (R174): each field's own range, then the rules that end at it. -/
def State.loadChecks (s : State) (p : Nat) : List (Nat × Bool) :=
  let q := s.stagedProfile p
  let inn := fun (lo hi n : Nat) => decide (lo ≤ n) && decide (n ≤ hi)
  let qh := q.heads * q.g
  let rot := q.rotMode != 0
  let capOn := flt 0 q.cap
  [ (0x02, inn 0 1 (s.stg p 2)),
    (0x03, inn 1 64 q.heads && (!q.latent || q.heads == 1)),
    (0x04, inn 1 64 q.g),
    (0x05, inn 16 576 q.dk && q.dk % 16 == 0),
    (0x06, inn 16 576 q.dv && q.dv % 16 == 0 && (!q.latent || decide (q.dv ≤ q.dk))),
    (0x07, inn 0 4 q.kfmt),
    (0x08, inn 0 4 q.vfmt && decide (q.pageBytes ≤ 262144) && (!q.latent || q.vfmt == q.kfmt)),
    (0x09, inn 0 1 q.kvin), (0x0A, inn 0 1 q.qfmt), (0x0B, inn 0 1 q.ofmt),
    (0x0C, inn 1 256 q.layers),
    (0x0D, inn 1 16777216 q.maxCtx),
    (0x0E, ffinite q.scale && q.scale % 2 ^ 31 != 0),
    (0x0F, q.kfmt != 4 || s.tabIs q.kdt),
    (0x10, q.vfmt != 4 || s.tabIs q.vdt),
    (0x11, s.curveIs q.expCurve 1),
    (0x12, ffinite q.cap && !flt q.cap 0),
    (0x13, !capOn || s.curveIs q.tanhCurve 2),
    (0x14, inn 0 2 q.rotMode),
    (0x15, !rot || inn 0 574 q.rbase),
    (0x16, !rot || (inn 2 576 q.rlen && q.rlen % 2 == 0 && decide (q.rbase + q.rlen ≤ q.dk))),
    (0x17, !rot || (s.stgB p 0x17).length == 4 * q.rlen),
    (0x18, inn 0 16777216 q.window),
    (0x1A, inn 0 1024 q.sinks),
    (0x1C, !q.alibi || ((s.stgB p 0x1C).length == 4 * qh && q.slopes.all (fun x => ffinite x && !flt x 0))),
    (0x1E, !q.sinkOn || ((s.stgB p 0x1E).length == 4 * qh && q.sinkZ.all ffinite)),
    (0x40, inn 1 128 (s.stg p 0x40)),
    (0x41, q.tokenizer == 0xFF || (decide (q.tokenizer < 8) && (s.tokzOf q).isSome)),
    (0x42, (s.stgB p 0x42).length % 4 == 0 && q.endToks.all (fun x => decide (x < (s.stagedVocab p).getD 2097152))),
    (0x50, inn 1 2097151 q.vocab && (match s.stagedVocab p with
      | some v => q.vocab == v
      | none => true)) ]

/-- The subindex at which a load fails, none where the copy passes (R174). -/
def State.loadFault (s : State) (p : Nat) : Option Nat := ((s.loadChecks p).find? (fun c => !c.2)).map (·.1)

/-- Is profile `p` in use: named by an enabled lane, or by a directory entry that is not FREE (R173)? -/
def State.profInUse (s : State) (p : Nat) : Bool :=
  (List.range 8).any (fun n => s.laneF n 1 == 1 && s.laneF n 2 == p) ||
    s.sess.dir.any (fun e => e.2.state != .free && e.2.profile == p)

/-- The staging copy of profile `p` installed as one act; an rcap that R159 replaces is counted. -/
def State.install (s : State) (p : Nat) : State :=
  ({ s with profs := s.profs.put p (s.stagedProfile p) } : State).count 0x8230 5 (s.stagedCap p).s

/-- A write of subindex 0x01 of profile `p` (R173). -/
def State.profileWrite (s : State) (p : Nat) (v : List Byte) : Except (Nat × Nat) State :=
  let x := leNat v
  if x ≠ 1 ∧ x ≠ 2 then .error wRefused
  else if s.profInUse p then .error wDenied
  else if x = 2 then .ok { s.dset (0x2340 + p) 1 [0#8] with profs := s.profs.del p }
  else if (s.loadFault p).isSome then .error (stTABLE, 0)
  else .ok ((s.dset (0x2340 + p) 1 [1#8]).install p)

/-- That write as a Dictionary transaction: a refused load raises event 0x2051. -/
def State.profileRow (s : State) (o : Origin) (p : Nat) (v : List Byte) : State :=
  let bad := (s.writeCheck o (0x2340 + p) 1 v).isNone &&
    (match s.profileWrite p v with
     | .error e => e == (stTABLE, 0)
     | .ok _ => false)
  let s1 := if bad then s.raise 0x2051 0 0 [p, (s.loadFault p).getD 0] else s
  s1.writeRow o (0x2340 + p) 1 v (fun s => s.profileWrite p v)

/-- PROFILE_LOAD (R173, R174). -/
def execProfileLoad (o : Origin) (p : Nat) (v : List Byte) (s : State) : Host.Outcome State Fault Refusal :=
  .next (s.profileRow o (p % 64) v)

/-- PROFILE_UNLOAD (R173). -/
def execProfileUnload (o : Origin) (p : Nat) (v : List Byte) (s : State) : Host.Outcome State Fault Refusal :=
  .next (s.profileRow o (p % 64) v)

/-- At a start-up each profile that persisted as loaded is validated and installed (R173). -/
def State.reloadProfiles (s : State) : State :=
  (List.range 64).foldl (fun u p =>
    if u.stg p 1 ≠ 1 then u
    else
      match u.loadFault p with
      | none => u.install p
      | some sub => u.raise 0x2051 0 0 [p, sub]) { s with profs := [] }

/-- What 0x2340.01 + p reads: 0 not loaded, 1 loaded, 2 loaded with staging changed (Table 7-5), that is, with other bytes in a staging
subindex than at the load; one written back to what it held counts as unchanged (DESIGN CHOICE, log 95). -/
def State.profRead (s : State) (p : Nat) : Nat :=
  match s.profs.get? p with
  | none => 0
  | some q => if q.raw = s.stagedRaw p then 1 else 2

/-! ## Curves and decode tables -/

/-- Does a loaded profile name curve `c` (R175)? -/
def State.curveNamed (s : State) (c : Nat) : Bool :=
  s.profs.any (fun p => p.2.expCurve == c || (flt 0 p.2.cap && p.2.tanhCurve == c))

/-- A write of curve `id` (R165, R175). -/
def State.curveWrite (s : State) (id : Nat) (v : List Byte) : Except (Nat × Nat) State :=
  if s.curveNamed id then .error wDenied
  else if !v.isEmpty ∧ !curveOk v then .error (stTABLE, 0)
  else .ok (s.dset 0x2390 (1 + id) v)

/-- CURVE_WRITE. -/
def execCurveWrite (o : Origin) (id : Nat) (v : List Byte) (s : State) : Host.Outcome State Fault Refusal :=
  .next (s.writeRow o 0x2390 (1 + id % 16) v (fun s => s.curveWrite (id % 16) v))

/-- Does a loaded profile or embedding table name decode table `t` (R175, R234)? -/
def State.tabNamed (s : State) (t : Nat) : Bool :=
  s.profs.any (fun p => (p.2.kfmt == 4 && p.2.kdt == t) || (p.2.vfmt == 4 && p.2.vdt == t)) ||
    s.emb.tabs.any (fun e => s.embF e.1 5 == 4 && s.embF e.1 6 == t)

/-- Are all entries of a decode table BF16 numbers, and is it whole (R175)? -/
def tabOk (n : Nat) (v : List Byte) : Bool := v.length == n && (elems 2 (n / 2) v).all (inFinite 0)

/-- A write of decode table `t`. -/
def State.tabWrite (s : State) (t : Nat) (v : List Byte) : Except (Nat × Nat) State :=
  if s.tabNamed t then .error wDenied
  else if !v.isEmpty ∧ !tabOk 512 v then .error (stTABLE, 0)
  else .ok (s.dset 0x2380 (1 + t) v)

/-- DECODE_TABLE_WRITE. -/
def execDecodeTableWrite (o : Origin) (id : Nat) (v : List Byte) (s : State) : Host.Outcome State Fault Refusal :=
  .next (s.writeRow o 0x2380 (1 + id % 16) v (fun s => s.tabWrite (id % 16) v))

end Sys2Proof.Machine
end

