-- ==== Sys2Proof/Machine/Sessions.lean ====
section
/-!
DEFINITION. The session commands (ch 2): OPEN, SUBMIT, CANCEL, PAUSE, PARK, REVIVE, FORK, CLOSE, SET_TTL, QUERY, the TTL scan,
and the writes of the function split and of the quotas.
-/

namespace Sys2Proof.Machine

/-! ## OPEN -/

/-- A ttl field above 0x2000.05 is out of range (R47). -/
def State.ttlBad (s : State) (n : Nat) : Bool := decide (s.dval 0x2000 5 < n)

/-- The half an OPEN names (Table 2-4). -/
def State.homeFor (s : State) (n : Nat) : Nat :=
  if n = 2 then (if s.entriesUsed 1 < s.entriesUsed 0 then 1 else 0) else n

/-- A session made at free entry `i` of partition `p` (Table 2-2), which keeps its generation and LX. -/
def State.makeSession (s : State) (i p profile ttl shalf : Nat) : State :=
  let e := s.ent i
  let e1 : DirEntry :=
    { DirEntry.blank e.gen s.self with part := p, profile, ttl, lx := e.lx, shalf, olease := s.nowMs (idxHalf i) + s.ownerLease }
  let s1 := (s.setEnt i e1).toState i .idle
  ((s1.newTable i (s1.layersOf i)).setRoot i).count 0x8200 1 1

/-- OPEN (R35, R49). -/
def State.openSess (s : State) (c : Cmd) (p : Nat) (d : Desc) : State :=
  let ttl := dFld d 191 160
  let profile := dFld d 159 154
  let home := dFld d 153 152
  match s.profs.get? profile with
  | none => s.refuse c stBAD dRANGE
  | some pr =>
    if s.ttlBad ttl ∨ home = 3 then s.refuse c stBAD dRANGE
    else
      let h := s.homeFor home
      if s.boot.bridge ∧ h = 1 then s.refuse c stHELD 0
      else if s.dval (0x2040 + p) 1 ≤ s.openCount p then (s.quotaReached p 1 0).refuse c stNOSPACE dQUOTA
      else
        match s.freeIndex h with
        | none => (s.raise 0x2003 p h [h]).refuse c stNOSPACE 0
        | some i =>
          if s.roomT1 h < 2 * cdiv pr.layers 128 then s.refuse c stNOSPACE 0
          else
            let s1 := (s.makeSession i p profile (if ttl = 0 then s.dval 0x2000 4 else ttl) h).setRes i
            s1.doneSess c i stOK 0 i

/-- OPEN. -/
def execOpen (fn sq : Nat) (d : Desc) (s : State) : Host.Outcome State Fault Refusal :=
  .next (s.take 0x01 fn sq d false (fun c p => s.openSess c p d))

/-! ## SUBMIT -/

/-- Mode `sub` of partition `p`: 1 host-assisted (R32). -/
def State.split (s : State) (p sub : Nat) : Bool := s.dval (0xA000 + p) sub == 1

/-- Mode `sub` of partition `p` on lane `n` of half `h` (R33): until the lane's next step boundary the one before a write. -/
def State.splitAt (s : State) (p h n sub : Nat) : Bool :=
  match s.sched.modes.get? (16 * p + 8 * h + n) with
  | some l => nth l (sub - 1) 0 == 1
  | none => s.split p sub

/-- Fields of a SUBMIT of function `fn` out of range whatever the session (R47, R195): the ring must be an output ring of the function, and
a grammar is not looked at where the mask is host-assisted (R196). -/
def State.submitBad (s : State) (fn : Nat) (d : Desc) : Bool :=
  let stops := dFld d 431 416
  let gram := dFld d 447 432
  decide (7 < dFld d 399 392) || decide (128 < dFld d 415 408) || (!dFlag d 25 && decide (16777216 < dFld d 255 224)) ||
    (dFlag d 25 && dFld d 255 224 % 4 != 0) || (decide (63 < stops) && stops != 0xFFFF) ||
    (decide (63 < gram) && gram != 0xFFFF
      && !s.splitAt ((s.fnPart fn).getD 0) (s.ent (hIdx (dHnd d))).shalf (dFld d 399 392 % 8) 3) ||
    !s.host.rings.has (ringKey fn 3 (dFld d 407 400))

/-- A table of `kind` 1 (grammar) or 2 (stop set) that a SUBMIT names (R195). -/
def State.namedTable (s : State) (p kind id : Nat) : Option (Nat × Nat) :=
  let idx := if kind = 1 then 0x5040 + id else 0x5080 + id
  if id = 0xFFFF then none
  else if (s.dbytes idx 1).isEmpty then some (stTABLE, 0)
  else if s.dval idx 4 ≠ p ∧ s.dval idx 4 ≠ 0 then some (stDENIED, 0)
  else none

/-- The text fields of a SUBMIT (R195, R196). -/
def State.textFault (s : State) (p i : Nat) (d : Desc) : Option (Nat × Nat) :=
  let gram := dFld d 447 432
  let stops := dFld d 431 416
  let m := s.splitAt p (s.ent i).shalf (dFld d 399 392)
  let hostMask := m 3
  let tokz := ((s.profOf i).bind s.tokzOf).isSome
  match (if hostMask then none else s.namedTable p 1 gram), s.namedTable p 2 stops with
  | some e, some f => some (if e.1 = stTABLE then e else if f.1 = stTABLE then f else e)
  | some e, none => some e
  | none, some f => some f
  | none, none =>
    if !tokz ∧ ((!dFlag d 25 && !m 1) || (gram != 0xFFFF && !hostMask)) = true then some (stTABLE, 0)
    else if stops ≠ 0xFFFF ∧ m 2 then some (stBAD, dRANGE)
    else none

/-- The parameter block of a SUBMIT (R202): the block, or the status and detail. -/
def State.readParams (s : State) (p addr : Nat) : Except (Nat × Nat) SelParams :=
  if addr = 0 then .ok SelParams.greedy
  else
    match s.addrCheck p addr 64 with
    | some e => .error e
    | none =>
      if addr % 64 ≠ 0 then .error (stBAD, dRANGE)
      else if (match s.gran (granOf addr) with
          | some g => s.lapsed (granPart (granOf addr)) (g.tier * 2 ^ 45 + g.loc % 2 ^ 45)
          | none => false) then .error (stLEASE, 0)
      else if s.poisoned addr 64 then .error (stPOISONED, 0)
      else
        let b := s.memRead addr 64
        match SelParams.check b with
        | some e => .error e
        | none => .ok (SelParams.parse b)

/-- The request record of a SUBMIT (ch 2, Tracking on the control core), with the tokenize and detokenize modes of its whole life (R196). -/
def State.newRequest (s : State) (c : Cmd) (p i : Nat) (d : Desc) (ps : SelParams) : Request :=
  let ch := dFld d 415 408
  let m := s.splitAt p (s.ent i).shalf (dFld d 399 392)
  { idx := i, cmd := c, desc := d, half := (s.ent i).shalf, part := p, lane := dFld d 399 392, lc := dFlag d 24, order := s.sess.order
    maxNew := dFld d 223 192, deadline := dFld d 319 256, ring := dFld d 407 400
    chunk := if ch = 0 then ((s.profOf i).map (·.chunk)).getD 16 else 16 * ch
    tok := dFlag d 25, tokHost := m 1, detokHost := m 2, collecting := true, inBytes := 0, heldIn := []
    pre := { s := 0, cur := [], out := [] }, bufs := [], ids := [], replaced := 0, firstRep := none, started := false, todo := []
    charge := 0, produced := 0, params := ps, counts := [], countFull := false, countSats := [], grammar := dFld d 447 432
    stops := dFld d 431 416, gcfg := none, sinceG := [], sinceS := [], heldOut := [], outOff := 0, unrel := [], outFix := false
    cut := false, discarded := 0, detok := [], deferRun := false, missRun := false, relay := none }

/-- A request attached to session `i` at slot `k` (Table 2-2): LIVE from IDLE; the Developer started from PARKED, with the
reservation `kib`; otherwise only attached. In MOVING the slot of a request that ended is kept to the end of the move. Its input follows. -/
def State.attach (s : State) (i k kib : Nat) (q : Request) (d : Desc) (input : List Byte) : State :=
  let e := s.ent i
  let kept := if e.state = .moving ∧ e.sv = true ∧ !s.sess.slots.has e.slot then [e.slot] else []
  let s1 : State := { s with sess := { s.sess with
    slots := s.sess.slots.put k q, order := s.sess.order + 1
    held := if kept.isEmpty then s.sess.held else s.sess.held.put i (s.sess.held.getD i [] ++ kept) } }
  let s2 := (s1.updEnt i (fun x => { x with sv := true, slot := k })).count 0x8200 4 1
  let s3 := match e.state with
    | .idle => s2.toState i .live
    | .parked => s2.startDev i kib 0 []
    | _ => s2.refields i
  s3.takeInput k (dFld d 191 128) (dFld d 255 224) (fitBytes (dFld d 255 224) input) (!dFlag d 26)

/-- SUBMIT once its fields and its input are good: slot and revival (R41, R107). -/
def State.submitTake (s : State) (c : Cmd) (p i : Nat) (d : Desc) (ps : SelParams) (input : List Byte) : State :=
  match s.takeSlot p (s.ent i).shalf with
  | .error (s1, dt) => s1.refuse c stNOSPACE dt
  | .ok k =>
    let q := s.newRequest c p i d ps
    if (s.ent i).state ≠ .parked then s.attach i k 0 q d input
    else if (s.lapsedNeed i).isSome then s.refuse c stLEASE 0
    else
      let kib := s.revivalKib i
      match s.noRoom (s.ent i).part (s.ent i).shalf kib with
      | some quota => s.refuse c stNOSPACE (if quota then dQUOTA else 0)
      | none => s.attach i k kib q d input

/-- SUBMIT on a session that may take a request. -/
def State.submitOn (s : State) (c : Cmd) (p i : Nat) (d : Desc) (input : Option (List Byte)) : State :=
  let len := dFld d 255 224
  let hostTok := s.splitAt p (s.ent i).shalf (dFld d 399 392) 1 && !dFlag d 25
  if s.laneF (dFld d 399 392) 2 ≠ (s.ent i).profile then s.refuse c stBAD dRANGE
  else
    match s.textFault p i d with
    | some (st, dt) => s.refuseX c st dt
    | none =>
      match s.readParams p (dFld d 375 320) with
      | .error (st, dt) => (if st = stPOISONED then s.tastePoison c p (s.ent i).shalf else s).refuseX c st dt
      | .ok ps =>
        if (len = 0 ∧ !dFlag d 26 ∧ !(s.ent i).tv) ∨ s.dval 0x5000 3 < len then s.refuse c stBAD dRANGE
        else
          match (if len = 0 || hostTok then some [] else input) with
          | none => s.refuse c stBAD dPARITY
          | some b => s.submitTake c p i d ps b

/-- SUBMIT (R41, Table 2-2). -/
def State.submitCmd (s : State) (fn sq : Nat) (d : Desc) (input : Option (List Byte)) : State :=
  s.takeSessC 0x02 fn sq d (dFlag d 24) false false (s.submitBad fn d) true (fun c p i =>
    let e := s.ent i
    match e.state with
    | .expired => s.refuse c stTTL 0
    | .live => s.busy c
    | .developing => if e.sv then s.busy c else s.submitOn c p i d input
    | .moving => if e.sv ∧ s.sess.slots.has e.slot then s.busy c else s.submitOn c p i d input
    | _ => s.submitOn c p i d input)

/-- SUBMIT. -/
def execSubmit (fn sq : Nat) (d : Desc) (input : Option (List Byte)) (t : Nat) (s : State) : Host.Outcome State Fault Refusal :=
  .next (((s.at t).dmaFrom fn input).submitCmd fn sq d input)

/-! ## CANCEL, PAUSE, CLOSE -/

/-- An event of a LIVE session's request takes effect at its next step boundary: at once where no step of its lane is in
flight (R38), and a cancellation fixes the mark of a request in the step. -/
def State.atBoundary (s : State) (i : Nat) : State :=
  let k := (s.ent i).slot
  match s.sess.slots.get? k with
  | none => s
  | some q =>
    match s.stepOf q.half q.lane with
    | none => s.boundaryReq 0 k
    | some st =>
      if (s.ent i).cp ∧ (st.req k).isSome then
        ((s.fixMark q.half q.lane k .cancelled).restTimer q.half q.lane).advanceRound q.half q.lane s.ns
      else s

/-- The request attached to session `i` that is not LIVE ends with `st` and `dt` (Table 2-2). -/
def State.endNow (s : State) (i st dt : Nat) : State := s.endReq (s.ent i).slot st dt none

/-- Session `i` closes, or will at its next step boundary; `cs` the CLOSE that waits (Table 2-2). -/
def State.closeSess (s : State) (i : Nat) (cs : List Cmd) : State :=
  let now := fun (u : State) (lx : Bool) =>
    cs.foldl (fun t c => t.doneSess c i stOK 0 0) ((u.closeEntry i lx true).count 0x8200 2 1)
  match (s.ent i).state with
  | .live =>
    let s1 := s.updEnt i (fun x => { x with cp := true, cl := true })
    let s2 : State := { s1 with sess := { s1.sess with closes := s1.sess.closes.put i (s1.sess.closes.getD i [] ++ cs) } }
    s2.atBoundary i
  | .expired => now s true
  | .developing => now ((s.endAttached i stCANCELLED 0).endRevives i stCANCELLED 0) false
  | _ => now s false

/-- CANCEL (Table 2-2, Table 2-4). -/
def State.cancelCmd (s : State) (c : Cmd) (i : Nat) (d : Desc) : State :=
  let e := s.ent i
  let cl := dFlag d 24
  let hit := e.sv && e.slot == dFld d 141 128 && s.sess.slots.has e.slot
  if e.state = .expired then s.refuse c stTTL 0
  else if e.state = .moving ∧ cl then s.busy c
  else
    -- R95: the PARKs that wait complete before the completion of what closes the session
    let s0 := if cl ∧ e.state = .parked then s.stopDemotion i stCANCELLED 0 false else s
    let s1 := s0.doneSess c i stOK 0 (b2n hit)
    let s2 :=
      if !hit then s1
      else if e.state = .live then
        (if cl then s1 else (s1.updEnt i (fun x => { x with cp := true })).atBoundary i)
      else s1.endNow i stCANCELLED 0
    if cl then s2.closeSess i [] else s2

/-- CANCEL. -/
def execCancel (fn sq : Nat) (d : Desc) (s : State) : Host.Outcome State Fault Refusal :=
  .next (s.takeSessC 0x03 fn sq d false false false false false (fun c _ i => s.cancelCmd c i d))

/-- PAUSE (Table 2-2). -/
def State.pauseCmd (s : State) (c : Cmd) (i : Nat) : State :=
  let e := s.ent i
  let hit := e.sv && s.sess.slots.has e.slot
  if e.state = .expired then s.refuse c stTTL 0
  else
    let s1 := s.doneSess c i stOK 0 (b2n hit)
    if !hit then s1
    else if e.state = .live then (s1.updEnt i (fun x => { x with pp := true })).atBoundary i
    else s1.endNow i stOK 4

/-- PAUSE. -/
def execPause (fn sq : Nat) (d : Desc) (s : State) : Host.Outcome State Fault Refusal :=
  .next (s.takeSessC 0x04 fn sq d false false false false false (fun c _ i => s.pauseCmd c i))

/-- CLOSE. -/
def execClose (fn sq : Nat) (d : Desc) (s : State) : Host.Outcome State Fault Refusal :=
  .next (s.takeSessC 0x08 fn sq d false true false false false (fun c _ i =>
    if (s.ent i).state = .moving then s.busy c else s.closeSess i [c]))

/-! ## PARK and REVIVE -/

/-- The pages of session `i` that a PARK to tier `t` has to bring below T1, or to that tier: those without an object there. -/
def State.parkNeeds (s : State) (i t : Nat) : List Nat :=
  (s.goingDown i t true).filter (fun pid =>
    match s.pages.pages.get? pid with
    | some p => p.low == 0 || (t != 0 && hdTier p.low != t)
    | none => false)

/-- The tier that holds session `i` below T1: that of its table blocks, else of a page. -/
def State.tierNow (s : State) (i : Nat) : Nat :=
  let t := s.tableOf i
  if !t.inT1 ∧ t.low ≠ 0 then hdTier t.low
  else
    match (s.refsOf i).findSome? (fun r => ((s.refPid r.2.2).bind s.pages.pages.get?).bind (fun p => if p.inT1 then none else some (hdTier p.low))) with
    | some x => x
    | none => 1

/-- The tier a PARK goes to (R94): the one named, or the policy's; none where it has no room. -/
def State.parkTier (s : State) (i t : Nat) : Option Nat :=
  let e := s.ent i
  let kib := s.objKib (s.parkNeeds i t) + (if (s.tableOf i).inT1 || (t != 0 && hdTier (s.tableOf i).low != t) then (s.tableOf i).blocks.length else 0)
  if kib = 0 then some (if t = 0 then s.tierNow i else t)
  else if t = 0 then s.policyTier e.shalf e.part kib 2000000 []
  else if s.hasRoom e.shalf e.part t kib 2000000 then some t else none

/-- PARK (R94 to R96, R109). -/
def State.parkCmd (s : State) (c : Cmd) (i : Nat) (d : Desc) : State :=
  let e := s.ent i
  let t := dFld d 159 152
  let ttl := dFld d 191 160
  let setTtl := fun (u : State) => if ttl = 0 then u else u.updEnt i (fun x => { x with ttl })
  let go := fun (u : State) (all : Bool) =>
    match u.parkTier i t with
    | none => (u.raise 0x3009 e.part e.shalf [e.shalf, e.part]).refuse c stNOSPACE 0
    | some x => (setTtl u).startDemotion i x all false [(c, t)]
  match e.state with
  | .idle => go s false
  | .parked =>
    (match s.tiers.demos.get? i with
     | some m =>
       if t ≠ 0 ∧ t ≠ m.tier ∧ (s.parkTier i t).isNone then
         (s.raise 0x3009 e.part e.shalf [e.shalf, e.part]).refuse c stNOSPACE 0
       else
         let s1 := (setTtl s).startTtl i
         { s1 with tiers := { s1.tiers with demos := s1.tiers.demos.put i { m with parks := m.parks ++ [(c, t)] } } }
     | none => go s (t != 0))
  | .developing =>
    (match s.parkTier i t with
     | none => (s.raise 0x3009 e.part e.shalf [e.shalf, e.part]).refuse c stNOSPACE 0
     | some x =>
       let s1 := ((((s.endAttached i stCANCELLED 0).endRevives i stCANCELLED 0).dropDev i).dropCopies i)
       (setTtl s1).startDemotion i x (t != 0) false [(c, t)])
  | .expired => s.refuse c stTTL 0
  | _ => s.busy c

/-- PARK. -/
def execPark (fn sq : Nat) (d : Desc) (s : State) : Host.Outcome State Fault Refusal :=
  let t := dFld d 159 152
  .next (s.takeSessC 0x05 fn sq d false true false (s.ttlBad (dFld d 191 160) || t == 1 || decide (4 < t)) true
    (fun c _ i => s.parkCmd c i d))

/-- REVIVE (R107 to R111). -/
def State.reviveCmd (s : State) (c : Cmd) (i w : Nat) : State :=
  let e := s.ent i
  match e.state with
  | .idle => s.doneSess c i stOK 0 e.reslayers
  | .live => s.doneSess c i stOK 0 e.reslayers
  | .parked =>
    if (s.lapsedNeed i).isSome then s.refuse c stLEASE 0
    else
      let kib := s.revivalKib i
      (match s.noRoom e.part e.shalf kib with
       | some quota => s.refuse c stNOSPACE (if quota then dQUOTA else 0)
       | none => s.startDev i kib w [c])
  | .developing =>
    { s with own := { s.own with dev := s.own.dev.upd i (fun x => { x with revives := x.revives ++ [c] }) } }
  | .expired => s.refuse c stTTL 0
  | _ => s.busy c

/-- REVIVE. -/
def execRevive (fn sq : Nat) (d : Desc) (s : State) : Host.Outcome State Fault Refusal :=
  .next (s.takeSessC 0x06 fn sq d false false false false true (fun c _ i => s.reviveCmd c i (dFld d 135 128)))

/-! ## FORK -/

/-- The T1 KiB a fork of session `i` takes for `n` pages of each layer (R62): the child's table blocks and the blocks of new
share records. -/
def State.forkKib (s : State) (i n : Nat) : Nat :=
  let t := s.tableOf i
  let layers := s.layersOf i
  let root := 2 * cdiv layers 128
  let trees := if n = 0 then 0 else 2 * t.layers.length * layerBlocks ((n - 1) / 64 + 1)
  let shares := (t.layers.map (fun lt => cdiv ((lt.2.ents.filter (fun pe => decide (pe.1 < n) && (match pe.2 with
    | .own _ => true
    | .shared _ => false))).length) 32)).foldl (· + ·) 0
  root + trees + 2 * shares

/-- Share records a fork adds. -/
def State.forkShares (s : State) (i n : Nat) : Nat :=
  ((s.refsBelow i n).filter (fun r => match r.2.2 with
    | .own _ => true
    | .shared _ => false)).length

/-- FORK of a session that may be forked (R40, R62). -/
def State.forkOn (s : State) (c : Cmd) (i : Nat) (d : Desc) : State :=
  let e := s.ent i
  let pre := dFld d 191 160
  let ttl := dFld d 159 128
  let all := pre == 0xFFFFFFFF
  let cnt := if all then e.count else pre
  let n := cdiv cnt 16
  let h := idxHalf i
  if !all ∧ e.count < pre then s.refuse c stBAD dRANGE
  else if 65535 ≤ e.children then s.refuse c stNOSPACE 0
  else if s.dval (0x2040 + e.part) 1 ≤ s.openCount e.part then (s.quotaReached e.part 1 0).refuse c stNOSPACE dQUOTA
  else
    match s.freeIndex h with
    | none => (s.raise 0x2003 e.part h [h]).refuse c stNOSPACE 0
    | some j =>
      if 16777216 < s.sharesOn e.shalf + s.forkShares i n then (s.raise 0x2021 e.part e.shalf [e.shalf]).refuse c stNOSPACE 0
      else if s.roomT1 e.shalf < s.forkKib i n then s.refuse c stNOSPACE 0
      else
        let s1 := s.makeSession j e.part e.profile (if ttl = 0 then e.ttl else ttl) e.shalf
        let s2 := (s1.updEnt j (fun x => { x with
          fk := true, parent := i, prefixLen := cnt, count := cnt, tv := all && e.tv, tail := if all then e.tail else 0 })).updEnt i
            (fun x => { x with children := x.children + 1 })
        let s3 : State := { s2 with sess := { s2.sess with pgen := s2.sess.pgen.put j e.gen } }
        let s4 := s3.sharePages i j n
        let s5 := if e.state = .parked then (s4.toState j .parked).startTtl j else s4
        (s5.setRes j).doneSess c j stOK 0 j

/-- FORK. -/
def execFork (fn sq : Nat) (d : Desc) (s : State) : Host.Outcome State Fault Refusal :=
  .next (s.takeSessC 0x07 fn sq d false false false (s.ttlBad (dFld d 159 128) || dFld d 191 160 == 0) true (fun c _ i =>
    match (s.ent i).state with
    | .idle => s.forkOn c i d
    | .parked => s.forkOn c i d
    | .expired => s.refuse c stTTL 0
    | _ => s.busy c))

/-! ## SET_TTL and QUERY -/

/-- SET_TTL (Table 2-2). -/
def State.setTtlCmd (s : State) (c : Cmd) (i : Nat) (ttl : Nat) : State :=
  let e := s.ent i
  match e.state with
  | .expired => s.refuse c stTTL 0
  | .moving => s.busy c
  | _ =>
    let s1 := s.updEnt i (fun x => { x with ttl := if ttl = 0 then s.dval 0x2000 4 else ttl })
    (if e.state = .parked then s1.startTtl i else s1).doneSess c i stOK 0 e.ttl

/-- SET_TTL. -/
def execSetTtl (fn sq : Nat) (d : Desc) (s : State) : Host.Outcome State Fault Refusal :=
  .next (s.takeSessC 0x09 fn sq d false true false (s.ttlBad (dFld d 191 160)) false (fun c _ i => s.setTtlCmd c i (dFld d 191 160)))

/-- QUERY (Table 2-6): partition 0 reads no tail token of a tenant's session. -/
def State.queryCmd (s : State) (c : Cmd) (p i : Nat) : State :=
  let e := s.ent i
  let tail := if p = 0 ∧ e.part ≠ 0 then 0 else e.tail
  s.doneSess c i stOK 0 (e.state.code * 2 ^ 28 + e.profile * 2 ^ 22 + b2n e.tv * 2 ^ 21 + tail % 2 ^ 21)

/-- QUERY. -/
def execQuery (fn sq : Nat) (d : Desc) (s : State) : Host.Outcome State Fault Refusal :=
  .next (s.takeSessC 0x0A fn sq d false true true false false (fun c p i => s.queryCmd c p i))

/-! ## TTL expiry (R39) -/

/-- The visit of entry `i`, which reads it: it expires where its time has come, under the disposal mode of its partition. -/
def State.ttlVisit (s0 : State) (i : Nat) : State :=
  let s := s0.entryRead i
  let e := s.ent i
  if e.state ≠ .parked ∨ !e.ton ∨ e.ttl = 0xFFFFFFFF ∨ s.nowMs (idxHalf i) < e.expires then s
  else
    let s1 := s.count 0x8200 3 1
    if s.split e.part 8 then
      (((s1.stopDemotion i stCANCELLED 0 true).toState i .expired).stopTtl i).raise 0x2001 e.part (idxHalf i) (w2 (s.handleOf i))
    else s1.closeEntry i true true

/-- TTL_SCAN: the PARKED entries of a half with indices `first` to `last` are visited. -/
def execTtlScan (half first last : Nat) (s : State) : Host.Outcome State Fault Refusal :=
  .next (((s.sess.dir.map (·.1)).filter (fun i => idxHalf i == half % 2 && decide (first ≤ i) && decide (i ≤ last))).foldl
    (fun t i => t.ttlVisit i) s)

/-! ## Entries -/

/-- The modes of partition `p` kept on every lane of a half with a step in flight, to its commit (R33). -/
def State.keepModes (s : State) (p : Nat) : State :=
  let old := (List.range 6).map (fun k => s.dval (0xA000 + p) (k + 1))
  let keys := (List.range 16).filter (fun x => (s.stepOf (x / 8) (x % 8)).isSome && !s.sched.modes.has (16 * p + x))
  { s with sched := { s.sched with modes := keys.foldl (fun m x => m.put (16 * p + x) old) s.sched.modes } }

/-- A write of a mode of partition `p` (R32, R33). -/
def State.modeWrite (s : State) (p sub : Nat) (v : List Byte) : Except (Nat × Nat) State :=
  .ok ((if sub ≤ 6 then s.keepModes p else s).dset (0xA000 + p) sub v)

/-- FUNCTION_SPLIT_WRITE (R32, R33). -/
def execFunctionSplitWrite (o : Origin) (p sub : Nat) (v : List Byte) (s : State) : Host.Outcome State Fault Refusal :=
  .next (s.writeRow o (0xA000 + p % 64) sub v (fun s => s.modeWrite (p % 64) sub v))

/-- QUOTA_WRITE (R49). -/
def execQuotaWrite (o : Origin) (p sub : Nat) (v : List Byte) (s : State) : Host.Outcome State Fault Refusal :=
  .next (s.writeRow o (0x2040 + p % 64) sub v (fun s => .ok ((s.dset (0x2040 + p % 64) sub v).relatch (p % 64))))

end Sys2Proof.Machine
end

