-- ==== Sys2Proof/Machine/Moves.lean ====
section
/-!
DEFINITION. Ownership messages and moves (ch 5, R116 to R132): what the home answers, what a party does with the record it
reads, half moves and device moves on both sides, and the commands MIGRATE, RECALL, CLAIM, WHERE and DISCARD.
-/

namespace Sys2Proof.Machine

/-! ## The end of a move -/

/-- Layers of session `i` that are below T1 are fetched again where the reservation of R107 can be had (R111). -/
def State.devAgain (s : State) (i : Nat) : State :=
  let e := s.ent i
  let kib := s.revivalKib i
  if kib = 0 ∨ (s.lapsedNeed i).isSome ∨ (s.noRoom e.part e.shalf kib).isSome then s else s.startDevOpen i kib

/-- The state that session `i` takes from MOVING (R127): `before`, or as Table 2-2 gives with a request attached, `ttlLeft` ms of its TTL
remaining. -/
def State.fromMoving (s : State) (i : Nat) (before : SessState) (ttlLeft : Nat) : State :=
  let e := s.ent i
  let park := fun (u : State) => (u.toState i .parked).updEnt i (fun x => { x with
    ton := true, expires := min (2 ^ 48 - 1) (s.nowMs (idxHalf i) + ttlLeft) })
  if e.sv ∧ s.sess.slots.has e.slot then
    if before = .parked then
      let s1 := park s
      if (s1.lapsedNeed i).isSome then s1.endReq e.slot stLEASE 0 (some 0)
      else
        let kib := s1.revivalKib i
        match s1.noRoom e.part e.shalf kib with
        | some q => s1.endReq e.slot stNOSPACE (if q then dQUOTA else 0) (some 0)
        | none => s1.startDev i kib 0 []
    else (s.toState i .live).devAgain i
  else
    let s1 := s.updEnt i (fun x => { x with sv := false, slot := 0 })
    if before = .parked then park s1 else (s1.toState i .idle).devAgain i

/-- Session `i` leaves MOVING (Table 2-2): its slots of ended requests are free again, and what that takes below a quota is told anew when it
is reached (R49). -/
def State.leaveMoving (s : State) (i : Nat) (before : SessState) (ttlLeft : Nat) : State :=
  (({ s with sess := { s.sess with held := s.sess.held.del i } } : State).fromMoving i before ttlLeft).relatch (s.ent i).part

/-- A page copied to half `h` for session `i` (R125): its copies there, none where there is no space. -/
def State.copyTo (s : State) (h st : Nat) (p : Page) : State × Nat × Nat :=
  if p.st = .sealed then
    let a := s.allocT1 h st 1 (p.bytes / 1024)
    (a.1.addMember a.2, a.2, 0)
  else s.allocPair h st 1 (p.bytes / 1024)

/-- What a page in T1 is charged. -/
def Page.charged (p : Page) : Nat := if p.st = .sealed then sealedCharge (p.bytes / 1024) else openCharge (p.bytes / 1024)

/-- The page of reference `r` at index `pidx` of layer `l` moved to half `h`: its own, or an own copy of a shared one. -/
def State.movePage (s : State) (i h l pidx : Nat) (r : PageRef) : State :=
  match s.refPid r with
  | none => s
  | some pid =>
    match s.pages.pages.get? pid with
    | none => s
    | some p =>
      let st := (i + l + pidx) % 16
      match r with
      | .own _ =>
        if !p.inT1 then s.updPage pid (fun q => { q with half := h })
        else
          let c := s.copyTo h st p
          let s1 := ((c.1.negCopy pid p.half p.bytes).scrubT1 p.a).scrubT1 p.b
          ((s1.subCharge p.part p.half p.charged).addCharge p.part h p.charged).updPage pid (fun q => { q with a := c.2.1, b := c.2.2, half := h })
      | .shared _ =>
        let id := s.pages.next
        let c : State × Nat × Nat := if p.inT1 then s.copyTo h st p else (s, 0, 0)
        let low : State × Nat := if p.inT1 then (c.1, 0) else c.1.putLow h p.part (hdTier p.low) p.clen 2000000 (.page id) (s.pageObject p)
        let q : Page := { p with a := c.2.1, b := c.2.2, low := low.2, next := 0, half := h, rel := none, origin := s.handleOf i }
        let s1 : State := { low.1 with pages := { low.1.pages with pages := low.1.pages.pages.put id q, next := id + 1 } }
        let s2 := if p.inT1 then s1.addCharge p.part h p.charged else s1
        (s2.dropRef r i true dropPageLow).setRef i l pidx (.own id)

/-- Session `i`'s pages moved from half `old` to half `h`, which its entry names already, and its table blocks built there anew, in T1 also
where those it had lay below (R125, R57). -/
def State.movePages (s : State) (i old h : Nat) : State :=
  let s1 := (s.refsOf i).foldl (fun t r => t.movePage i h r.1 r.2.1 r.2.2) s
  let t := s1.tableOf i
  let n := t.blocks.length
  let p := (s1.ent i).part
  let s2 := if t.inT1 then (s1.scrubBlocks t).subCharge p old (2 * n) else s1.dropLow p t.low (.tables i)
  let s3 := s2.setTable i { t with blocks := [], inT1 := true, low := 0, next := 0 }
  ((t.blocks.foldl (fun u b => u.addBlock i b.layer (b.kind, b.n)) s3).addCharge p h (2 * n)).setRoot i

/-- The request of slot `k` of session `i` goes to slot `j` of half `h` (R124). -/
def State.moveReqTo (s : State) (i k j h : Nat) : State :=
  match s.sess.slots.get? k with
  | none => s
  | some q =>
    let s1 : State := { s with sess := { s.sess with
      slots := (s.sess.slots.del k).put j { q with half := h }
      exs := s.sess.exs.map (fun x => if x.slot = k then { x with slot := j } else x) } }
    ((s1.subCharge q.part q.half q.charge).addCharge q.part h q.charge).updEnt i (fun x => { x with slot := j })

/-- A half move ends (R125, R127): pages, tables and request are on the new half, which serves under the record's `epoch`. -/
def State.halfMoved (s : State) (i : Nat) (m : MoveRun) (epoch : Nat) : State :=
  let e := s.ent i
  let h := m.target
  let s0 : State := { s with
    own := { s.own with moves := s.own.moves.del i }
    pages := { s.pages with resv := s.pages.resv.del i } }
  let s1 := (s0.updEnt i (fun x => { x with shalf := h, offered := false, epoch })).movePages i (otherHalf h) h
  let s2 := (s1.leaveParent i).updEnt i (fun x => { x with fk := false, prefixLen := 0, parent := 0 })
  let s3 :=
    if e.sv ∧ s.sess.slots.has e.slot then
      match m.slot with
      | some k => s2.moveReqTo i e.slot k h
      | none =>
        match s2.takeSlot e.part h with
        | .ok k => s2.moveReqTo i e.slot k h
        | .error x => x.1.endReq e.slot stNOSPACE x.2 (some 0)
    else s2
  let s4 := ((s3.leaveMoving i m.before m.ttlLeft).setRes i).count 0x8310 6 1
  s4.doneSess m.cmd i stOK 0 h

/-- A device move ends at the source (R127, R129): its copy is released, a guest entry closes, and the records of a request
attached meanwhile will come from the target. -/
def State.deviceMoved (s : State) (i : Nat) (m : MoveRun) : State :=
  let e := s.ent i
  let newH := if m.guest ≠ 0 then m.guest else ((s.own.links.get? i).map (·.handle)).getD 0
  let x : Completion := { s.sessComp m.cmd i stOK 0 m.target with handle := newH }
  let s0 : State := { s with own := { s.own with moves := s.own.moves.del i }, sess := { s.sess with held := s.sess.held.del i } }
  let s1 : State :=
    match (if e.sv then s0.sess.slots.get? e.slot else none) with
    | none => s0
    | some q =>
      let u := (s0.subCharge q.part q.half q.charge).endExchs e.slot [1, 2, 3, 4]
      { u with
        sess := { u.sess with slots := u.sess.slots.del e.slot }
        own := { u.own with fwd := u.own.fwd.put (s.handleOf i) (q.cmd, q.ring), taken := u.own.taken.del (s.handleOf i) } }
  let s2 :=
    if s1.isHome i then
      let u := (s1.dropAll i).leaveParent i
      (u.updEnt i (fun y => { y with
        fk := false, prefixLen := 0, parent := 0, sv := false, slot := 0, reslayers := 0, ptroot := 0, ton := false, expires := 0
        cp := false, pp := false })).toState i (if m.before = .live then .idle else m.before)
    else s1.closeEntry i false false
  ((s2.relatch e.part).count 0x8310 7 1).send m.cmd x

/-- A move fails: the record names its old owner again (R126, R130); the session leaves MOVING where it was. -/
def State.moveFails (s : State) (i : Nat) (m : MoveRun) (epoch : Nat) : State :=
  let s0 : State := { s with
    own := { s.own with moves := s.own.moves.del i }
    pages := { s.pages with resv := s.pages.resv.del i } }
  let s1 := if s0.isHome i then s0 else s0.updEnt i (fun x => { x with epoch, offered := false })
  (s1.leaveMoving i m.before m.ttlLeft).doneSess m.cmd i (if m.reason = 0 then stLEASE else m.reason) 0 0

/-! ## Reading the record (R118) -/

/-- The words of the descriptor, or from word 8 on of the parameter block, of a request that moved here from `x` (R129): opaque (log 39). -/
def StagedCopy.words (x : StagedCopy) (first n : Nat) : List Byte :=
  (List.range n).flatMap (fun k => leBytes 8 (Config.movedDesc x.source x.srcHandle (first + k)).toNat)

/-- The request that the source attached during the move, on the slot kept for it here (R129): its records go to the source. -/
def State.movedRequest (s : State) (i : Nat) (x : StagedCopy) : Request :=
  let e := s.ent i
  let d : Desc := BitVec.ofNat 512 (leNat (x.words 0 8))
  let b := x.words 8 8
  let c : Cmd := { fn := 0, cq := 0, tag := dTag d, handle := s.handleOf i, gen := s.gen 0, lc := false }
  { s.newRequest c e.part i d (match SelParams.check b with | some _ => SelParams.greedy | none => SelParams.parse b) with
    relay := some { peer := x.source, handle := x.srcHandle } }

/-- A staged copy becomes the owner's (R127): it leaves MOVING, with a request that came with it (R129). -/
def State.becomeOwner (s : State) (i : Nat) (x : StagedCopy) (epoch : Nat) : State :=
  let s0 : State := { s with
    own := { s.own with staged := s.own.staged.del i }
    pages := { s.pages with resv := s.pages.resv.del i } }
  let s1 := s0.updEnt i (fun e => { e with epoch, offered := false, owner := s.self })
  let e := s1.ent i
  if e.sv ∧ !s1.sess.slots.has e.slot then
    let q := s1.movedRequest i x
    let s2 : State := { s1 with sess := { s1.sess with slots := s1.sess.slots.put e.slot q, order := s1.sess.order + 1 } }
    let b := Config.movedInput x.source x.srcHandle
    ((s2.leaveMoving i x.before x.ttlLeft).setRes i).takeInput e.slot (dFld q.desc 191 128) b.length b true
  else (s1.leaveMoving i x.before x.ttlLeft).setRes i

/-- What of session `i` is attached or waits for it ends NOT_OWNER, as the record names `owner` (R118). -/
def State.endsNotOwner (s : State) (i owner : Nat) : State :=
  let e := s.ent i
  let s1 : State := match s.own.moves.get? i with
    | some m => ({ s with own := { s.own with moves := s.own.moves.del i } }).doneSess m.cmd i stNOTOWNER 0 owner
    | none => s
  let s2 := if e.sv ∧ s1.sess.slots.has e.slot then s1.endReq e.slot stNOTOWNER 0 (some owner) else s1
  s2.endRevives i stNOTOWNER owner

/-- The home's own entry where it drops a copy (R127): as it stood before, with the record as it is now. -/
def DirEntry.backTo (old e : DirEntry) : DirEntry :=
  { old with epoch := e.epoch, offered := e.offered, owner := e.owner, target := e.target, thalf := e.thalf, olease := e.olease, children := e.children }

/-- The holder of a copy that is not named as owner yields (R118): what waits for it ends NOT_OWNER, and its copy is released: a guest entry
closes, the home's goes back to what it was. -/
def State.yields (s : State) (i owner : Nat) : State :=
  let s1 := s.endsNotOwner i owner
  match (s1.own.staged.get? i).bind (·.old) with
  | none => s1.closeEntry i false false
  | some old =>
    let s2 := (s1.dropAll i).setEnt i (old.backTo (s1.ent i))
    ({ s2 with
      own := { s2.own with staged := s2.own.staged.del i }
      pages := { s2.pages with resv := s2.pages.resv.del i }
      sess := { s2.sess with held := s2.sess.held.del i } } : State).relatch old.part

/-- The home served the session and has taken a record that names `owner` (R118, R121): what waits for it ends NOT_OWNER, and its copy is kept
as a staged copy under R126. -/
def State.homeYields (s : State) (i owner : Nat) : State :=
  let s1 := ((s.endsNotOwner i owner).stopDemotion i stNOTOWNER owner false).dropDev i
  let e := s1.ent i
  if e.state = .closed then s1 else
  let before : SessState := if e.state = .parked ∨ e.state = .developing then .parked else .idle
  let x : StagedCopy :=
    { source := owner, srcHandle := ((s1.own.links.get? i).map (·.handle)).getD 0, offerEpoch := e.epoch - 1
      ttlLeft := if e.ton then e.expires - s.nowMs (idxHalf i) else 1000 * e.ttl, before, expect := 0, got := 0, complete := true
      doneAt := s.nowMs (idxHalf i), lapsed := true, asks := [], old := some { e with state := before, ton := false, expires := 0 } }
  ((({ s1 with own := { s1.own with staged := s1.own.staged.put i x } } : State).toState i .moving).stopTtl i)

/-- The home has taken the OFFER of move `r`, with the record at `epoch` (R124): the transfer begins, or the offer is withdrawn as there is
no room. -/
def State.offerTaken (s : State) (i : Nat) (r : MoveRun) (epoch : Nat) : State :=
  let r1 : MoveRun := { r with offered := true, offerEpoch := epoch }
  let s1 : State := { (s.updEnt i (fun x => { x with epoch, offered := true })) with
    own := { s.own with moves := s.own.moves.put i r1, reqs := s.own.reqs.filter (fun x => !(x.idx == i && x.op == 3)) } }
  if !r.half then s1.sendFields i r1
  else
    match s1.reserveHalf i r.target with
    | .error u =>
      let u1 : State := { u with own := { u.own with moves := u.own.moves.upd i (fun x => { x with reason := stNOSPACE }) } }
      u1.ownAsk i (u1.homeRef i).1 (u1.ent i).part (u1.ownReq i 5) none 0
    | .ok x => { x.1 with own := { x.1.own with moves := x.1.own.moves.put i { r1 with slot := x.2 } } }

/-- A move whose OFFER is not answered yet reads record image `m` (R122): the OFFER was applied and its reply lost, or applied and reverted
since, or not applied, and is sent again. -/
def State.offerRead (s : State) (i : Nat) (r : MoveRun) (m : OwnMsg) : State :=
  let ours := if r.half then m.target == s.self && m.thalf == r.target else m.target == r.target
  if m.owner = s.self ∧ m.epoch = r.offerEpoch ∧ m.offered ∧ ours then s.offerTaken i r m.epoch
  else if m.epoch ≤ r.offerEpoch then s
  else
    let s1 : State := { s with own := { s.own with reqs := s.own.reqs.filter (fun x => !(x.idx == i && x.op == 3)) } }
    if m.owner = s.self then s1.moveFails i r m.epoch else (s1.moveFails i r m.epoch).yields i m.owner

/-- The owner, offerer or target of entry `i` has read record image `m` (R118), from a NOTE where `noted`: a move ends or
fails, a staged copy becomes owner, is kept or is released (R126), a holder not named yields. An image older than what a guest holds says
nothing of it: its home will take the later one from a RENEW (R121; DEDUCED log 36). -/
def State.recordSays (s : State) (i : Nat) (m : OwnMsg) (noted : Bool) : State :=
  match s.own.moves.get? i, s.own.staged.get? i with
  | some r, _ =>
    if !r.started then s
    else if !r.offered then s.offerRead i r m
    else if m.offered ∨ m.epoch ≤ r.offerEpoch then s
    else if r.half ∧ m.owner = s.self ∧ m.shalf = r.target then s.halfMoved i r m.epoch
    else if !r.half ∧ m.owner = r.target then s.deviceMoved i r
    else if m.owner = s.self then s.moveFails i r m.epoch
    else (s.moveFails i r m.epoch).yields i m.owner
  | none, some x =>
    if m.offered ∨ m.epoch ≤ x.offerEpoch then s
    else if m.owner = s.self then (if x.complete then s.becomeOwner i x m.epoch else s)
    else if (x.complete ∧ x.doneAt + s.dval 0x3100 9 ≤ s.nowMs (idxHalf i)) ∨ (noted ∧ !x.complete) then s.yields i m.owner
    else
      ({ s with own := { s.own with staged := s.own.staged.put i { x with lapsed := true } } } : State).endsNotOwner i m.owner
  | none, none => if !s.isHome i ∧ m.owner ≠ s.self ∧ (s.ent i).epoch ≤ m.epoch then s.yields i m.owner else s

/-- The home's own record read by the home, which needs no NOTE of what it wrote. -/
def State.settleHome (s : State) (i : Nat) : State :=
  if s.isHome i ∧ (s.own.moves.has i ∨ s.own.staged.has i) then s.recordSays i (s.image i 1 0 0) true else s

/-- What the home does with request `m` about entry `i` (R120), then with what it holds of the session itself. -/
def State.homeTakes (s : State) (i src sp : Nat) (m : OwnMsg) : State × Nat :=
  let r : State × Nat := s.homeDoes i src sp m
  let lost := (s.ent i).owner == s.self && (r.1.ent i).owner != s.self && !s.own.moves.has i
  (if lost then r.1.homeYields i (r.1.ent i).owner else r.1, r.2)

/-- The offerer of entry `i` withdraws its offer (R126, R132); its MIGRATE will complete `reason`. -/
def State.withdrawOffer (s : State) (i reason : Nat) (cmd : Option Cmd) : State :=
  let s1 : State := { s with own := { s.own with moves := s.own.moves.upd i (fun r => { r with reason }) } }
  if s1.isHome i then
    let b : State × Nat := s1.homeDoes i s1.self (s1.ent i).part (s1.ownReq i 5)
    b.1.settleHome i
  else s1.ownAsk i (s1.homeRef i).1 (s1.ent i).part (s1.ownReq i 5) cmd 0

/-- The holder of a complete copy asks endpoint `peer`, the home, to be the owner (R126): ACCEPT, or with `clm` CLAIM on the partition 0
stream. The home itself writes its record; in HOLD its ACCEPT waits (R420). -/
def State.askOwner (s : State) (i peer epoch : Nat) (clm : Bool) (cmd : Option Cmd) : State :=
  let e := s.ent i
  let rq : OwnMsg := { s.ownReq i (if clm then 6 else 4) with
    epoch, clm, gidx := i, ggen := e.gen, owner := s.self, target := s.self, offered := false, shalf := e.shalf, thalf := e.shalf }
  if !s.isHome i then s.ownAsk i peer (if clm then 0 else e.part) rq cmd 0
  else if !clm ∧ s.inHold (idxHalf i) then
    { s with own := { s.own with held := s.own.held ++ [(s.self, e.part, rq.word)] } }
  else (s.homeDoes i s.self (if clm then 0 else e.part) { rq with gidx := 0, ggen := 0 }).1.settleHome i

/-! ## Requests at the home -/

/-- A request reaches this device (R120, R122): DENIED, STALE, held over HOLD, what the home does, or passed on to the home
by a guest whose entry it names. -/
def State.ownRequest (s : State) (src part : Nat) (m : OwnMsg) : State :=
  let i := hIdx m.handle
  let e := s.ent i
  let none_ : OwnMsg :=
    { op := m.op, result := 0, seq := m.seq, sender := s.self, gidx := 0, drop := false, clm := false, handle := m.handle, epoch := 0
      offered := false, shalf := 0, thalf := 0, owner := 0, target := 0, ggen := 0, lease := 0 }
  let claim := m.op == 6 && m.clm
  if (claim ∧ part ≠ 0) ∨ (!claim ∧ hPart m.handle ≠ part) then s.sendOwn m.sender part { none_ with result := 5 }
  else if e.state = .free ∨ e.state = .closed ∨ e.gen ≠ hGen m.handle ∨ e.part ≠ hPart m.handle then
    s.sendOwn m.sender part { none_ with result := 4 }
  else
    match s.guestOf i with
    | some l => s.sendOwn l.peer part { m with handle := l.handle }
    | none =>
      if (m.op = 3 ∨ m.op = 4) ∧ s.inHold (idxHalf i) then
        { s with own := { s.own with held := s.own.held ++ [(src, part, m.word)] } }
      else
        let r : State × Nat := s.homeTakes i m.sender part m
        let s1 := if m.sender = s.self then r.1 else r.1.sendOwn m.sender part (r.1.image i m.op r.2 m.seq)
        if m.op = 7 ∧ r.2 = 0 then s1.closeEntry i false false else s1.settleHome i

/-! ## Replies -/

/-- The status and detail of a CLAIM or MIGRATE whose request was answered with `result`. -/
def ownStatus (result : Nat) : Nat × Nat :=
  match result with
  | 0 => (stOK, 0)
  | 1 => (stBAD, dRANGE)
  | 2 => (stBAD, dBUSY)
  | 3 => (stHELD, 0)
  | 4 => (stDENIED, dSTALE)
  | 5 => (stDENIED, 0)
  | _ => (stBAD, dRANGE)

/-- The reply to an OFFER of a guest owner (R124): the transfer begins, or the session leaves MOVING. -/
def State.offerReply (s : State) (i : Nat) (m : OwnMsg) : State :=
  match s.own.moves.get? i with
  | none => s
  | some r =>
    if r.offered then s
    else if m.result = 0 then s.offerTaken i r m.epoch
    else if m.result = 1 ∧ m.owner = s.self ∧ r.offerEpoch ≤ m.epoch then s.offerRead i r m
    else
      let st := if m.result = 1 then (stNOTOWNER, 0) else ownStatus m.result
      let s1 := ({ s with own := { s.own with moves := s.own.moves.del i } }).leaveMoving i r.before r.ttlLeft
      let s2 := (s1.countRefusal st.1).doneSess r.cmd i st.1 st.2 (if m.result = 1 then m.owner else 0)
      if m.result = 1 then s2.recordSays i m false else s2

/-- The record shows no offer to withdraw: a MIGRATE whose OFFER was not applied ends (R132). -/
def State.notOffered (s : State) (i : Nat) : State :=
  match s.own.moves.get? i with
  | some r =>
    if r.started ∧ !r.offered then
      (({ s with own := { s.own with moves := s.own.moves.del i, reqs := s.own.reqs.filter (fun x => !(x.idx == i && x.op == 3)) } }
        : State).leaveMoving i r.before r.ttlLeft).doneSess r.cmd i r.reason 0 0
    else s
  | none => s

/-- A CLAIM of a session restored here was applied (R130, R131): the entry takes the record's epoch. -/
def State.claimed (s : State) (i : Nat) (m : OwnMsg) : State :=
  if m.owner = s.self ∧ !m.offered ∧ !s.own.staged.has i then s.updEnt i (fun e => { e with epoch := m.epoch, offered := false }) else s

/-- The record as command `c` reads it before it acts (R118): a DISCARD releases a copy that the record does not name as owner, or whose
record is gone; a CLAIM asks `peer` where the record shows the epoch `want` and no lease. -/
def State.goalRead (s : State) (i goal want : Nat) (c : Cmd) (m : OwnMsg) (peer : Nat) : State :=
  if goal = 1 then
    if !s.own.staged.has i ∨ (m.result = 0 ∧ m.owner = s.self) then (if m.result = 0 then s.recordSays i m false else s).busy c
    else (s.doneSess c i stOK 0 1).yields i (if m.result = 0 then m.owner else (s.ent i).owner)
  else if m.result ≠ 0 then s.refuse c (ownStatus m.result).1 (ownStatus m.result).2
  else if m.epoch ≠ want then s.refuse c stBAD dRANGE
  else if m.offered ∨ m.lease ≠ 0 then s.busy c
  else s.askOwner i peer m.epoch true (some c)

/-- A reply `m` to request `r` (R118, R122). -/
def State.ownReply (s : State) (r : OwnReq) (m : OwnMsg) : State :=
  let i := r.idx
  let s0 : State := { s with own := { s.own with reqs := s.own.reqs.filter (fun x => !(x.seq == r.seq && x.op == r.op)) } }
  match r.op with
  | 1 =>
    (match r.cmd with
     | none => if m.result = 0 then s0.recordSays i m false else s0
     | some c => s0.goalRead i r.goal (OwnMsg.parse (BitVec.ofNat 256 r.hdr)).epoch c m r.peer)
  | 2 =>
    if m.result = 4 then s0.raise 0x2035 (s0.ent i).part (idxHalf i) (r.peer :: w2 r.handle)
    else if m.result ≤ 1 then s0.recordSays i m false
    else s0
  | 3 => s0.offerReply i m
  | 4 =>
    let s1 := s0.recordSays i m false
    let still := match s1.own.staged.get? i, s1.own.moves.get? i with
      | some x, _ => m.epoch == x.offerEpoch
      | none, some y => y.half && m.epoch == y.offerEpoch
      | none, none => false
    if still = true ∧ m.result ≠ 4 ∧ m.result ≠ 5 then s1.askOwner i r.peer m.epoch false none else s1
  | 5 =>
    let s1 := if m.result ≤ 1 then s0.recordSays i m false else s0
    let was := (OwnMsg.parse (BitVec.ofNat 256 r.hdr)).epoch
    let s2 := if m.result = 0 ∧ m.epoch = was then s1.notOffered i else s1
    (match r.cmd with
     | some c => if m.result = 3 then s2.refuse c stHELD 0 else s2.doneSess c i stOK 0 (b2n (m.result == 0 && m.epoch != was))
     | none => s2)
  | 6 =>
    let s1 := if m.result = 0 then (s0.recordSays i m false).claimed i m else s0
    (match r.cmd with
     | some c =>
       if m.result = 0 then s1.doneSess c i stOK 0 m.epoch
       else s1.refuse c (ownStatus m.result).1 (ownStatus m.result).2
     | none => s1)
  | _ => s0

/-- The outstanding request that message `m` from `src` answers: by sequence, operation, and peer and handle, or for a staged
copy by its copy, whose home may not be the source of the move. -/
def State.answered (s : State) (src : Nat) (m : OwnMsg) : Option OwnReq :=
  match s.own.reqs.find? (fun r => r.op == m.op && r.seq == m.seq && r.peer == src && r.handle == m.handle) with
  | some r => some r
  | none => s.own.reqs.find? (fun r => r.op == m.op && r.seq == m.seq && s.own.staged.has r.idx && r.peer != src)

/-- A staged copy learns its home from a reply that another endpoint than the source of the move sent. -/
def State.learnHome (s : State) (r : OwnReq) (src : Nat) (m : OwnMsg) : State :=
  if r.peer = src then s
  else { s with own := { s.own with links := s.own.links.put r.idx { kind := 0, peer := src, handle := m.handle } } }

/-- An ownership message of operation `op` arrives (R120, R122): a reply, or a request. -/
def State.ownArrives (s : State) (op src part : Nat) (hdr : BitVec 256) : State :=
  if !ownOk hdr op then s.discard 0x10 0 src 0
  else
    let m := OwnMsg.parse hdr
    match s.answered src m with
    | some r => (s.learnHome r src m).ownReply r m
    | none =>
      if m.result ≠ 0 ∨ m.lease ≠ 0 ∨ (op ≠ 6 ∧ (m.clm ∨ m.drop)) then s.discard 0x10 0 src 0
      else s.ownRequest src part m

/-- OWN_READ. -/
def execOwnRead (src part : Nat) (hdr : BitVec 256) (s : State) : Host.Outcome State Fault Refusal := .next (s.ownArrives 1 src part hdr)

/-- OWN_RENEW. -/
def execOwnRenew (src part : Nat) (hdr : BitVec 256) (s : State) : Host.Outcome State Fault Refusal := .next (s.ownArrives 2 src part hdr)

/-- OWN_OFFER. -/
def execOwnOffer (src part : Nat) (hdr : BitVec 256) (s : State) : Host.Outcome State Fault Refusal := .next (s.ownArrives 3 src part hdr)

/-- OWN_ACCEPT. -/
def execOwnAccept (src part : Nat) (hdr : BitVec 256) (s : State) : Host.Outcome State Fault Refusal := .next (s.ownArrives 4 src part hdr)

/-- OWN_RECALL. -/
def execOwnRecall (src part : Nat) (hdr : BitVec 256) (s : State) : Host.Outcome State Fault Refusal := .next (s.ownArrives 5 src part hdr)

/-- OWN_CLAIM. -/
def execOwnClaim (src part : Nat) (hdr : BitVec 256) (s : State) : Host.Outcome State Fault Refusal := .next (s.ownArrives 6 src part hdr)

/-- OWN_RELEASE. -/
def execOwnRelease (src part : Nat) (hdr : BitVec 256) (s : State) : Host.Outcome State Fault Refusal := .next (s.ownArrives 7 src part hdr)

/-- OWN_NOTE (R118, R120): acted on by the guest whose home sent it; a home discards it. -/
def execOwnNote (src part : Nat) (hdr : BitVec 256) (s : State) : Host.Outcome State Fault Refusal :=
  .next (
    if !ownOk hdr 8 then s.discard 0x10 0 src 0
    else
      let m := OwnMsg.parse hdr
      match s.own.links.find? (fun l => l.2.kind == 0 && l.2.peer == src && l.2.handle == m.handle && (s.ent l.1).part == part) with
      | some l => s.recordSays l.1 m true
      | none => s)

/-! ## Timers -/

/-- OWN_LEASE_SCAN (R119). -/
def execOwnLeaseScan (half : Nat) (s : State) : Host.Outcome State Fault Refusal :=
  .next ((s.sess.dir.filter (fun e => idxHalf e.1 == half)).foldl (fun t e => (t.scanRec e.1).settleHome e.1) s)

/-- OWN_RENEW_TIMER (R119): a guest owner sends RENEW with the image it holds; an offering home renews its own record. -/
def execOwnRenewTimer (idx : Nat) (s : State) : Host.Outcome State Fault Refusal :=
  .next (
    match s.guestOf idx with
    | some l =>
      if s.own.staged.has idx then s
      else
        let s1 : State := { s with own := { s.own with reqs := s.own.reqs.filter (fun r => !(r.idx == idx && r.op == 2)) } }
        s1.ownAsk idx l.peer (s1.ent idx).part (s1.ownReq idx 2) none 0
    | none =>
      if (s.ent idx).offered then (s.homeDoes idx s.self (s.ent idx).part (s.ownReq idx 2)).1 else s)

/-- OWN_REPLY_TIMEOUT (R122): a READ, then the same request with a new sequence; event 0x2036 at the eighth timeout. -/
def State.replyTimeout (s : State) (i : Nat) : State :=
  match (match s.own.reqs.find? (fun r => r.idx == i && !r.waits && r.op != 1) with
    | some r => some r
    | none => s.own.reqs.find? (fun r => r.idx == i && !r.waits)) with
  | none => s
  | some r =>
    let g := s.own.reqs.find? (fun x => x.idx == i && x.op == 1 && x.goal != 0 && (r.op != 1 || x.seq == r.seq))
    let s0 : State := { s with own := { s.own with
      reqs := s.own.reqs.filter (fun x => !(x.idx == i && ((x.op == 1 && x.goal == 0) || x.seq == r.seq || some x.seq == g.map (·.seq)))) } }
    let p := if bitsN r.hdr 192 192 = 1 then 0 else (s.ent i).part
    let s1 := s0.ownAsk i r.peer (s.ent i).part { s0.ownReq i 1 with handle := r.handle, epoch := (g.map (fun x => bitsN x.hdr 127 96)).getD (s.ent i).epoch } (g.bind (·.cmd)) ((g.map (·.goal)).getD 0)
    let n := r.timeouts + 1
    let s2 : State :=
      if r.op = 1 then { s1 with own := { s1.own with reqs := s1.own.reqs.map (fun x => if x.idx = i ∧ x.op = 1 then { x with timeouts := n } else x) } }
      else
        let u := s1.ownAsk i r.peer p (OwnMsg.parse (BitVec.ofNat 256 r.hdr)) r.cmd r.goal
        { u with own := { u.own with reqs := u.own.reqs.map (fun x => if x.idx = i ∧ x.op = r.op then { x with timeouts := n } else x) } }
    let s3 := s2.count 0x8310 0xA 1
    if n = 8 then s3.raise 0x2036 (s.ent i).part (idxHalf i) (w2 (s.handleOf i) ++ [r.peer]) else s3

/-- OWN_REPLY_TIMEOUT. -/
def execOwnReplyTimeout (idx : Nat) (s : State) : Host.Outcome State Fault Refusal := .next (s.replyTimeout idx)

/-- FROZEN_END (R121). -/
def execFrozenEnd (s : State) : Host.Outcome State Fault Refusal := .next { s with own := { s.own with frozenUntil := 0 } }

/-- STAGED_HOLD_EXPIRY (R126): released where a record that names another owner was seen; else the record is read. -/
def execStagedHoldExpiry (idx : Nat) (s : State) : Host.Outcome State Fault Refusal :=
  .next (
    match s.own.staged.get? idx with
    | none => s
    | some x =>
      if !x.complete ∨ s.nowMs (idxHalf idx) < x.doneAt + s.dval 0x3100 9 then s
      else if x.lapsed then s.yields idx (s.homeRef idx).1
      else if s.isHome idx then s.settleHome idx
      else s.ownAsk idx (s.homeRef idx).1 (s.ent idx).part (s.ownReq idx 1) none 0)

/-- What waited for the end of a HOLD (R420): OFFERs and ACCEPTs are sent and taken, moves begin. -/
def State.afterHold (s : State) : State :=
  let s1 := s.own.reqs.foldl (fun (t : State) r =>
    if r.waits && !t.inHold (idxHalf r.idx) && !t.inHold (t.ent r.idx).shalf then
      let u := t.sendOwn r.peer (t.ent r.idx).part (OwnMsg.parse (BitVec.ofNat 256 r.hdr))
      { u with own := { u.own with reqs := u.own.reqs.map (fun x => if x.seq = r.seq then { x with waits := false } else x) } }
    else t) s
  let held := s1.own.held
  let s2 : State := { s1 with own := { s1.own with held := [] } }
  let s3 := held.foldl (fun (t : State) x => t.ownRequest x.1 x.2.1 (OwnMsg.parse (BitVec.ofNat 256 x.2.2))) s2
  s3.own.moves.foldl (fun t m =>
    if (t.ent m.1).state = .idle ∨ (t.ent m.1).state = .parked then t.startWaitingMove m.1 else t) s3

/-! ## The transfer -/

/-- A MOVE header that may be acted on (Table 14-8): parity, rsvd bits, its op and the fields the op does not use. -/
def moveOk (h : BitVec 256) (op : Nat) : Bool :=
  parOk h.toNat 4 3 0 && zeroBits h 53 4 && bits h 127 120 == op
    && (op == 2 || op == 3 || (zeroBits h 119 92)) && (op == 2 || zeroBits h 91 90) && (op == 4 || zeroBits h 89 86)
    && (op == 6 || op == 7 || zeroBits h 85 54)

/-- Is session `i` the one that handle `h` names? -/
def State.names (s : State) (i h part : Nat) : Bool :=
  let e := s.ent i
  s.handleOf i == h && e.part == part && e.state != .free && e.state != .closed

/-- The bytes of page `p`'s object as it is sent (R125): method 0x00 from T1, as stored from below. -/
def Page.sent (p : Page) (pr : Profile) : List Byte :=
  if p.inT1 then p.object pr else p.coded pr

/-- One object of session `i` sent to the target. -/
def State.sendObject (s : State) (i : Nat) (r : MoveRun) (l pidx : Nat) : State :=
  match s.pageAt i l pidx, s.profOf i with
  | some p, some pr =>
    s.sendMove r.target (s.ent i).part
      (moveHeader (s.handleOf i) r.guest 2 l pidx (if p.st = .sealed then 2 else 1) 0 0) (p.sent pr)
  | _, _ => s

/-- MOVE_GUEST (R126): the guest handle is kept, and the objects follow. -/
def execMoveGuest (src part : Nat) (hdr : BitVec 256) (s : State) : Host.Outcome State Fault Refusal :=
  let i := hIdx (bits hdr 255 192)
  .next (
    if !moveOk hdr 5 then s.discard 0x11 0 src 0
    else
      match s.own.moves.get? i with
      | none => s
      | some r =>
        if !s.names i (bits hdr 255 192) part ∨ r.half ∨ r.target ≠ src ∨ !r.offered ∨ r.guest ≠ 0 then s
        else
          let r1 : MoveRun := { r with guest := bits hdr 191 128 }
          let s1 : State := { s with own := { s.own with moves := s.own.moves.put i r1 } }
          (s1.refsOf i).foldl (fun t x => t.sendObject i r1 x.1 x.2.1) s1)

/-- MOVE_REFUSE (R126): the offer is withdrawn and MIGRATE completes NO_SPACE. -/
def execMoveRefuse (src part : Nat) (hdr : BitVec 256) (s : State) : Host.Outcome State Fault Refusal :=
  let i := hIdx (bits hdr 255 192)
  .next (
    if !moveOk hdr 4 then s.discard 0x11 0 src 0
    else
      match s.own.moves.get? i with
      | none => s
      | some r =>
        if !s.names i (bits hdr 255 192) part ∨ r.half ∨ r.target ≠ src ∨ !r.offered then s else s.withdrawOffer i stNOSPACE none)

/-- MOVE_RESEND (R126): the object again; the third for one object tells of its third failure, which withdraws the offer, and MIGRATE
completes CHECK_VALUE (DEDUCED log 37). -/
def execMoveResend (src part : Nat) (hdr : BitVec 256) (s : State) : Host.Outcome State Fault Refusal :=
  let i := hIdx (bits hdr 255 192)
  let l := bits hdr 119 112
  let x := bits hdr 111 92
  .next (
    if !moveOk hdr 3 then s.discard 0x11 0 src 0
    else
      match s.own.moves.get? i with
      | none => s
      | some r =>
        if !s.names i (bits hdr 255 192) part ∨ r.half ∨ r.target ≠ src ∨ !r.offered then s
        else
          let n := r.fails.getD (2 ^ 20 * l + x) 0 + 1
          if 3 ≤ n then s.withdrawOffer i stCHECK none
          else
            let r1 : MoveRun := { r with fails := r.fails.put (2 ^ 20 * l + x) n }
            ({ s with own := { s.own with moves := s.own.moves.put i r1 } }).sendObject i r1 l x)

/-! ## The target -/

/-- The T1 that a session of profile `pr` with `cnt` tokens takes (R107): every page and table block. -/
def arrivalKib (pr : Profile) (cnt : Nat) : Nat :=
  let k := pr.pageKib
  let leaves := cdiv (cdiv cnt 16) 64
  pr.layers * (cnt / 16 * sealedCharge k + (if cnt % 16 = 0 then 0 else openCharge k))
    + 2 * (cdiv pr.layers 128 + pr.layers * layerBlocks leaves)

/-- Everything of a staged copy has arrived (R126): it is complete, and asks to be owner. -/
def State.stagedDone (s : State) (i : Nat) : State :=
  match s.own.staged.get? i with
  | none => s
  | some x =>
    if x.got < x.expect then s
    else
      let y : StagedCopy := { x with complete := true, doneAt := s.nowMs (idxHalf i) }
      (({ s with own := { s.own with staged := s.own.staged.put i y } }).setRoot i).askOwner i (s.homeRef i).1 x.offerEpoch false none

/-- The home entry whose record offers the session that `src` serves under handle `h` to this device (R127). -/
def State.homeTarget (s : State) (src h : Nat) : Option Nat :=
  ((s.own.links.find? (fun l => l.2.kind == 1 && l.2.peer == src && l.2.handle == h && (s.ent l.1).owner == src && (s.ent l.1).offered
      && (s.ent l.1).target == s.self && !s.own.staged.has l.1)).map (·.1))

/-- A session offered by `src` under its handle `h` is taken in (R126): its own entry where this device is the home, else a guest entry on the
half with more free entries, in MOVING, its space reserved, its handle answered; or the transfer is refused. -/
def State.stageSession (s : State) (src part h : Nat) (e : DirEntry) (ttlLeft : Nat) : State :=
  let refuse := fun (u : State) (st : Nat) => u.sendMove src part (moveHeader h 0 4 0 0 0 st 0) []
  let home := s.homeTarget src h
  let hf := match home with
    | some j => (s.ent j).thalf
    | none => s.homeFor 2
  match s.profs.get? e.profile, (match home with | some j => some j | none => s.freeIndex hf) with
  | some pr, some i =>
    let kib := arrivalKib pr e.count
    if (s.noRoom part hf kib).isSome then refuse s 1
    else
      match (if e.sv then s.takeSlot part hf else .ok 0) with
      | .error x => refuse x.1 2
      | .ok k =>
        let old := s.ent i
        let e0 : DirEntry := if home.isSome then { old with ton := false, expires := 0 } else { DirEntry.blank old.gen s.self with lx := old.lx, epoch := e.epoch }
        let e1 : DirEntry :=
          { e0 with
            state := .moving, part, profile := e.profile, count := e.count, tail := e.tail, tv := e.tv, ttl := e.ttl, shalf := hf
            reslayers := e.reslayers, sv := e.sv, slot := k }
        let x : StagedCopy :=
          { source := src, srcHandle := h, offerEpoch := e.epoch, ttlLeft, before := e.state
            expect := pr.layers * cdiv e.count 16, got := 0, complete := false, doneAt := 0, lapsed := false, asks := []
            old := if home.isSome then some old else none }
        let s1 := (s.setEnt i e1).newTable i pr.layers
        let s2 : State := { s1 with
          own := { s1.own with
            links := if home.isSome then s1.own.links else s1.own.links.put i { kind := 0, peer := src, handle := h }
            staged := s1.own.staged.put i x }
          pages := { s1.pages with resv := s1.pages.resv.put i (hf, kib - 2 * cdiv pr.layers 128) } }
        (s2.sendMove src part (moveHeader h (s2.handleOf i) 5 0 0 0 0 0) []).stagedDone i
  | _, _ => refuse s 1

/-- A location as Table 4-1 has it: rsvd bits 0, a T1 band below 768, a T2 unit that exists (R70). -/
def locOk (t l : Nat) : Bool :=
  match t with
  | 1 => l / 2 ^ 31 == 0 && decide (bitsN l 25 16 < 768)
  | 2 => decide (l < 30064771072)
  | 3 => true
  | 4 => true
  | _ => false

/-- A directory entry as a message may carry it: parity, rsvd bits and reserved codes (R11, Table 2-1), and a ptroot with a tier that a page
handle may have (R27, R70). -/
def entryWordOk (n : Nat) : Bool :=
  parOk n 8 7 0 && bitsN n 459 454 == 0 && bitsN n 273 256 == 0 && bitsN n 201 192 == 0 && bitsN n 143 128 == 0 && bitsN n 79 64 == 0
    && bitsN n 15 8 == 0 && decide (bitsN n 511 508 < 8) && decide (bitsN n 95 94 < 2)
    && locOk (hdTier (bitsN n 383 336)) (hdLoc (bitsN n 383 336))

/-- FIELDS again for staged copy `x` of entry `i` (R129): a request attached at the source since takes a slot here, one that ended gives its
slot back; the guest handle is answered again. -/
def State.fieldsAgain (s : State) (i : Nat) (x : StagedCopy) (sv : Bool) : State :=
  let e := s.ent i
  let answer := fun (u : State) => u.sendMove x.source e.part (moveHeader x.srcHandle (s.handleOf i) 5 0 0 0 0 0) []
  if sv = e.sv ∨ s.sess.slots.has e.slot then answer s
  else if !sv then answer ((s.updEnt i (fun y => { y with sv := false, slot := 0 })).relatch e.part)
  else
    match s.takeSlot e.part e.shalf with
    | .error u => u.1.sendMove x.source e.part (moveHeader x.srcHandle 0 4 0 0 0 2 0) []
    | .ok k => answer (s.updEnt i (fun y => { y with sv := true, slot := k }))

/-- MOVE_FIELDS (R125, R126). A repeat is answered with the guest handle again; the fields of a later offer replace a copy kept of an earlier
one. -/
def execMoveFields (src part : Nat) (hdr : BitVec 256) (data : List Byte) (crc : Nat) (s : State) : Host.Outcome State Fault Refusal :=
  let h := bits hdr 255 192
  let e := DirEntry.ofWord (leAt data 0 64)
  .next (
    if !moveOk hdr 1 || data.length != 72 || verify data crc == .failed || !entryWordOk (leAt data 0 64) || hPart h != part then
      s.discard 0x11 0 src 0
    else
      match s.own.staged.find? (fun x => x.2.source == src && x.2.srcHandle == h) with
      | some x =>
        if e.epoch ≤ x.2.offerEpoch then s.fieldsAgain x.1 x.2 e.sv
        else (s.yields x.1 src).stageSession src part h e (leAt data 64 8)
      | none => s.stageSession src part h e (leAt data 64 8))

/-- A verified page of a staged copy placed (R125), `b` the object it came as: in T1 where its layer was resident at the source or the object
has method 0x00, as those in T1 are sent (DEDUCED log 37); else in the first usable tier. None where there is no room. -/
def State.stagePage (s : State) (i l pidx : Nat) (p : Page) (b : List Byte) : Option State :=
  let e := s.ent i
  let h := e.shalf
  let g := s.reach i l pidx
  let s0 := g.1.addCharge e.part h (2 * g.2)
  let id := s0.pages.next
  let put := fun (u : State) (a b low paid : Nat) =>
    let q : Page := { p with a, b, low, half := h }
    let u1 : State := { u with pages := { u.pages with
      pages := u.pages.pages.put id q, next := id + 1
      resv := u.pages.resv.upd i (fun r => (r.1, r.2 - paid - 2 * g.2)) } }
    ((if low = 0 then u1.addCharge e.part h p.charged else u1)).setRef i l pidx (.own id)
  if l < e.reslayers ∨ bitsN (leAt b 0 64) 487 480 = 0 then
    let c := s0.copyTo h ((i + l + pidx) % 16) p
    if c.2.1 = 0 then none else some (put c.1 c.2.1 c.2.2 0 p.charged)
  else
    match s0.policyTier h e.part p.clen 2000000 [] with
    | none => none
    | some t =>
      let c := s0.putLow h e.part t p.clen 2000000 (.page id) b
      if c.2 = 0 then none else some (put c.1 0 0 c.2 0)

/-- The page of a coded object `b` of `pstate` `ps`, of which `n` rows count; none where it fails R92. -/
def objectPage (pr : Profile) (e : DirEntry) (b : List Byte) (l pidx ps n : Nat) : Option Page :=
  match decodeObject b with
  | none => none
  | some img =>
    let c := pageOf pr img n
    if c.2 = .failed ∨ img.length ≠ pr.pageBytes then none
    else some
      { origin := bitsN (leAt img 0 128) 479 416, layer := l, pidx, profile := e.profile, kfmt := pr.kfmt, vfmt := pr.vfmt
        latent := pr.latent, bytes := pr.pageBytes, st := if ps = 2 then .sealed else .open_, rows := c.1
        pchk := if ps = 2 then c.2 else .good, a := 0, b := 0, low := 0, clen := b.length / 1024, next := 0
        lowChk := if c.2 = .poisoned then .poisoned else .good, part := e.part, half := e.shalf, rel := none }

/-- MOVE_OBJECT (R126): verified and placed; one that fails is asked for again, at most 3 times. -/
def execMoveObject (src part : Nat) (hdr : BitVec 256) (data : List Byte) (crc : Nat) (s : State) : Host.Outcome State Fault Refusal :=
  let i := hIdx (bits hdr 191 128)
  let l := bits hdr 119 112
  let pidx := bits hdr 111 92
  let ps := bits hdr 91 90
  .next (
    if !moveOk hdr 2 || (ps != 1 && ps != 2) then s.discard 0x11 0 src 0
    else
      match s.own.staged.get? i, s.profOf i with
      | some x, some pr =>
        let e := s.ent i
        let cnt := e.count
        if !s.names i (bits hdr 191 128) part ∨ x.source ≠ src ∨ x.complete ∨ pr.layers ≤ l ∨ cdiv cnt 16 ≤ pidx ∨ (s.pidAt i l pidx).isSome then s
        else
          let asked := x.asks.getD (2 ^ 20 * l + pidx) 0
          let x1 : StagedCopy := { x with asks := x.asks.put (2 ^ 20 * l + pidx) (asked + 1) }
          let again : State := if 3 ≤ asked then s else
            ({ s with own := { s.own with staged := s.own.staged.put i x1 } } : State).sendMove src part
              (moveHeader x.srcHandle (s.handleOf i) 3 l pidx 0 0 0) []
          let n := if pidx + 1 = cdiv cnt 16 ∧ cnt % 16 ≠ 0 then cnt % 16 else 16
          (match (if verify data crc == .failed then none else objectPage pr e data l pidx ps n) with
           | none => again
           | some p =>
             match s.stagePage i l pidx p data with
             | none => s.sendMove src part (moveHeader x.srcHandle (s.handleOf i) 4 0 0 0 1 0) []
             | some s1 => ({ s1 with own := { s1.own with staged := s1.own.staged.put i { x with got := x.got + 1 } } }).stagedDone i)
      | _, _ => s)

/-- MOVE_ENDS (R127): the transfer of a half move is done, and the owner's own half accepts; or the target of a device move
has read the record. In HOLD, or for a half move while the bridge is down, nothing ends (R130, R420). -/
def execMoveEnds (idx : Nat) (hdr : BitVec 256) (s : State) : Host.Outcome State Fault Refusal :=
  .next (
    match s.own.moves.get? idx with
    | some r =>
      if !r.half ∨ !r.offered ∨ s.boot.bridge ∨ s.inHold (idxHalf idx) ∨ s.inHold r.target then s
      else if s.isHome idx then
        let q : State × Nat := s.homeDoes idx s.self (s.ent idx).part { s.ownReq idx 4 with epoch := r.offerEpoch }
        q.1.settleHome idx
      else s.askOwner idx (s.homeRef idx).1 r.offerEpoch false none
    | none =>
      if s.isHome idx then s.settleHome idx
      else if s.own.staged.has idx ∧ parOk hdr.toNat 4 3 0 then s.recordSays idx (OwnMsg.parse hdr) false else s)

/-! ## Relays (R129) -/

/-- An output record's fields from its 64 bytes (Table 8-5). -/
def OutRec.ofWord (n : Nat) : OutRec :=
  { text := leBytes (min 48 (bitsN n 89 84)) (bitsN n 511 128), tag := bitsN n 127 112, slot := bitsN n 111 98, kind := bitsN n 97 94
    end_ := bitN n 93, fix := bitN n 92, cut := bitN n 91, fin := bitN n 90, token := bitsN n 83 63, produced := bitsN n 62 31 }

/-- A completion's fields from its 32 bytes (Table 2-5). -/
def Completion.ofWord (n : Nat) : Completion :=
  { status := bitsN n 63 48, detail := bitsN n 31 16, aux := bitsN n 223 192, count := bitsN n 191 160, produced := bitsN n 159 128
    handle := bitsN n 127 64, tag := bitsN n 47 32, slot := bitsN n 13 0, half := bitsN n 224 224, fin := bitN n 15 }

/-- A relayed record as its table has it (R11): parity, rsvd bits and kinds, so that its fields give its bytes again. -/
def relayOk (b : List Byte) : Bool :=
  let n := leNat b
  if b.length = 64 then (OutRec.ofWord n).word == n && ((OutRec.ofWord n).kind == 1 || (OutRec.ofWord n).kind == 2)
  else b.length == 32 && (Completion.ofWord n).word 0 == n

/-- MOVE_RELAY: posted once, in order, on the rings of the SUBMIT that the source took, and acknowledged, repeats too. -/
def execMoveRelay (src part : Nat) (hdr : BitVec 256) (data : List Byte) (crc : Nat) (s : State) : Host.Outcome State Fault Refusal :=
  let h := bits hdr 255 192
  let q := bits hdr 85 54
  .next (
    if !moveOk hdr 6 || verify data crc == .failed || !relayOk data then s.discard 0x11 0 src 0
    else
      match s.own.fwd.get? h with
      | none => s
      | some (c, ring) =>
        let last := s.own.taken.getD h 0
        let ack := fun (u : State) => u.sendMove src part (moveHeader h (bits hdr 191 128) 7 0 0 0 0 q) []
        if hPart h ≠ part ∨ last + 1 < q then s
        else if q ≤ last then ack s
        else
          let s1 : State := { s with own := { s.own with taken := s.own.taken.put h q } }
          let s2 :=
            if data.length = 32 then s1.send c (Completion.ofWord (leNat data))
            else if s1.gen c.fn = c.gen then s1.post (ringKey c.fn 3 ring) (.output (OutRec.ofWord (leNat data)))
            else s1
          ack s2)

/-- MOVE_RELAY_ACK: the record is not sent again. -/
def execMoveRelayAck (src _part : Nat) (hdr : BitVec 256) (s : State) : Host.Outcome State Fault Refusal :=
  .next (
    if !moveOk hdr 7 then s.discard 0x11 0 src 0
    else { s with own := { s.own with relays := s.own.relays.filter (fun r =>
      !(r.peer == src && r.guest == bits hdr 191 128 && r.seq == bits hdr 85 54)) } })

/-- RELAY_RESEND_TIMER. -/
def execRelayResendTimer (peer handle rseq : Nat) (s : State) : Host.Outcome State Fault Refusal :=
  .next (
    match s.own.relays.find? (fun r => r.peer == peer && r.handle == handle && r.seq == rseq) with
    | none => s
    | some r => s.sendMove r.peer r.part (moveHeader r.handle r.guest 6 0 0 0 0 r.seq) r.body.bytes)

/-! ## Commands -/

/-- MIGRATE (R123, R124, R132). -/
def State.migrateCmd (s : State) (c : Cmd) (i : Nat) (d : Desc) : State :=
  let e := s.ent i
  let half := dFlag d 24
  let after := dFlag d 25
  let m : MoveRun :=
    { cmd := c, half, target := dFld d 133 128, before := e.state, ttlLeft := 0, offerEpoch := 0, offered := false, fails := []
      guest := 0, started := false, after, reason := 0, slot := none }
  let keep := fun (u : State) => { u with own := { u.own with moves := u.own.moves.put i m } }
  match e.state with
  | .idle => s.startMove i m
  | .parked => s.startMove i m
  | .live =>
    if s.own.moves.has i then s.busy c
    else if after then keep s
    else if !half then ((keep s).updEnt i (fun x => { x with pp := true })).atBoundary i
    else
      match s.sess.slots.get? e.slot with
      | some q => if (s.stepOf q.half q.lane).isSome then keep s else s.startMove i m
      | none => s.startMove i m
  | .expired => s.refuse c stTTL 0
  | _ => s.busy c

/-- MIGRATE. -/
def execMigrate (fn sq : Nat) (d : Desc) (s : State) : Host.Outcome State Fault Refusal :=
  let t := dFld d 133 128
  .next (s.takeSessC 0x10 fn sq d false true false (!dFlag d 24 && (t == s.self || s.epKind t != 1)) true
    (fun c _ i => if s.maint.st = 1 ∨ s.maint.st = 2 then s.refuse c stHELD 0 else s.migrateCmd c i d))

/-- RECALL (R122, R132): an offer is withdrawn; a MIGRATE that still waits completes CANCELLED. -/
def execRecall (fn sq : Nat) (d : Desc) (s : State) : Host.Outcome State Fault Refusal :=
  .next (s.takeSessC 0x11 fn sq d false true false false false (fun c _ i =>
    if (s.ent i).state = .expired then s.refuse c stTTL 0
    else
      match s.own.moves.get? i with
      | none => s.doneSess c i stOK 0 0
      | some r =>
        if !r.started then
          (({ s with own := { s.own with moves := s.own.moves.del i } }).doneSess r.cmd i stCANCELLED 0 0).doneSess c i stOK 0 0
        else if s.isHome i then
          let s1 := s.withdrawOffer i stCANCELLED none
          s1.doneSess c i stOK 0 (b2n (!s1.own.moves.has i))
        else s.withdrawOffer i stCANCELLED (some c)))

/-- CLAIM with DROP at the home (Table 5-1, R131). -/
def State.claimDrop (s0 : State) (c : Cmd) (i epoch : Nat) : State :=
  let s := s0.leaseEnds i
  let e := s.ent i
  if !s.isHome i then s.refuse c stBAD dRANGE
  else if s.frozen i then s.refuse c stHELD 0
  else if e.offered ∨ !s.own.lapsed.contains i then s.refuse c stBAD dBUSY
  else if epoch ≠ e.epoch ∨ s.epochFull i then s.refuse c stBAD dRANGE
  else
    let s1 := s.writeRec i (fun x => { x with owner := s.self })
    let s2 := ((s1.notes i e.owner e.target).unlapse i).count 0x8310 9 1
    (s2.doneSess c i stOK 0 (s1.ent i).epoch).closeEntry i false false

/-- CLAIM at the home of a session whose complete state it holds (R131). -/
def State.claimHome (s : State) (c : Cmd) (i epoch : Nat) : State :=
  let e := s.ent i
  let r : State × Nat := s.homeDoes i s.self 0 { s.ownReq i 6 with epoch, clm := true, owner := s.self, shalf := e.shalf, gidx := 0, ggen := 0 }
  if r.2 ≠ 0 then r.1.refuse c (ownStatus r.2).1 (ownStatus r.2).2
  else (r.1.settleHome i).doneSess c i stOK 0 (r.1.ent i).epoch

/-- CLAIM (R131): by partition 0; without DROP where the complete state is held. The record is read first (R118). -/
def State.claimCmd (s : State) (c : Cmd) (p i : Nat) (d : Desc) : State :=
  let epoch := dFld d 159 128
  let home := dFld d 165 160
  if p ≠ 0 then s.refuseX c stDENIED 0
  else if (s.ent i).state = .expired then s.refuse c stTTL 0
  else if dFlag d 24 then (if home ≠ s.self then s.refuse c stBAD dRANGE else s.claimDrop c i epoch)
  else
    let whole := match s.own.staged.get? i with
      | some x => x.complete
      | none => !s.isHome i || (s.ent i).owner == s.self
    if !whole ∨ (s.isHome i ∧ home ≠ s.self) then s.refuse c stBAD dRANGE
    else if s.isHome i then s.claimHome c i epoch
    else s.ownAsk i home (s.ent i).part { s.ownReq i 1 with epoch } (some c) 2

/-- CLAIM. -/
def execClaim (fn sq : Nat) (d : Desc) (s : State) : Host.Outcome State Fault Refusal :=
  .next (s.takeSessC 0x12 fn sq d false true (dFlag d 24) false false (fun c p i => s.claimCmd c p i d))

/-- WHERE (R128, Table 5-5). -/
def execWhere (fn sq : Nat) (d : Desc) (s : State) : Host.Outcome State Fault Refusal :=
  .next (s.takeSessC 0x13 fn sq d false true true false false (fun c _ i =>
    let e := s.ent i
    if e.state = .expired then s.refuse c stTTL 0
    else
      let h := if e.owner = s.self then s.handleOf i else ((s.own.links.get? i).map (·.handle)).getD 0
      let x : Completion := { s.sessComp c i stOK 0 (b2n e.offered * 128 + e.shalf * 64 + e.owner) with handle := h }
      s.send c x))

/-- DISCARD (R126, Table 5-5): the record is read first (R118). -/
def execDiscard (fn sq : Nat) (d : Desc) (s : State) : Host.Outcome State Fault Refusal :=
  .next (s.takeSessC 0x14 fn sq d false true false false false (fun c p i =>
    if p ≠ 0 then s.refuseX c stDENIED 0
    else if (s.ent i).state = .expired then s.refuse c stTTL 0
    else if !s.own.staged.has i then s.busy c
    else if s.isHome i then s.goalRead i 1 0 c (s.image i 1 0 0) s.self
    else s.ownAsk i (s.homeRef i).1 (s.ent i).part (s.ownReq i 1) (some c) 1))

end Sys2Proof.Machine
end

