-- ==== Sys2Proof/Machine/Vector.lean ====
section
/-!
DEFINITION. Agent memory search (ch 11, R235 to R253): the index region, distances, epochs, insertions and deletions, queries
with their scan tasks, and the load of an index.
-/

namespace Sys2Proof.Machine

/-! ## Arithmetic (R238, R239) -/

/-- The floor of the square root of `n`, below 2^(b+1). -/
def isqrt (n : Nat) : Nat → Nat → Nat
  | 0, r => if (r + 1) * (r + 1) ≤ n then r + 1 else r
  | b + 1, r => isqrt n b (if (r + 2 ^ (b + 1)) * (r + 2 ^ (b + 1)) ≤ n then r + 2 ^ (b + 1) else r)

/-- The square root of an FP32 value that is not negative, rounded to nearest even: 30 bits or more of it and a sticky bit. -/
def fsqrt (a : Nat) : Nat :=
  let d := fp32.dec a
  let k : Nat := if d.e % 2 = 0 then 60 else 61
  let n := d.m * 2 ^ k
  let r := isqrt n 44 0
  let e : Int := (d.e - k) / 2 - 1
  fp32.enc false ((2 * r + b2n (r * r != n)) * pow2n e) (pow2n (-e))

/-- The tree sum of R238 over the elements of a vector. -/
def vecSum (l : List Nat) : Nat := (treeSum (clog2 l.length) l).v

/-- The sum of the squares of a vector. -/
def vecSq (v : List Nat) : Nat := vecSum (v.map (fun x => fmul x x))

/-- A vector normalised (R239). -/
def vecNorm (v : List Nat) : List Nat :=
  let r := fdiv 0x3F800000 (fsqrt (vecSq v))
  v.map (fun x => fmul x r)

/-- The distance of `q` to `x` (R238): metric 2 is squared Euclidean. -/
def vecDist (metric : Nat) (q x : List Nat) : Nat :=
  if metric = 2 then vecSum ((q.zip x).map (fun p => let t := fsub p.1 p.2; fmul t t))
  else fneg (vecSum ((q.zip x).map (fun p => fmul p.1 p.2)))

/-- A stored element as FP32 (R153, R238): an FP32 NaN reads +0.0 and an infinity the largest finite value, as in R153. -/
def vecDec (vfmt b : Nat) : Nat :=
  if vfmt = 0 then (if ffinite b then b else if bitsN b 22 0 = 0 then bitsN b 31 31 * 2 ^ 31 + 0x7F7FFFFF else 0)
  else decodeElem (vfmt - 1) [] b

/-- An FP32 element in the index's format (R154). -/
def vecEnc (vfmt x : Nat) : Nat := if vfmt = 0 then x else encodeElem (vfmt - 1) [] x

/-! ## The region (R235, R236) -/

/-- The descriptor of an index. -/
structure VDesc where
  base : Nat
  metric : Nat
  vfmt : Nat
  d : Nat
  nlist : Nat
  cap : Nat
deriving DecidableEq, Repr

/-- The descriptor of index `i`. -/
def State.vdesc (s : State) (i : Nat) : VDesc :=
  { base := s.vecF i 2, metric := s.vecF i 3, vfmt := s.vecF i 4, d := s.vecF i 5, nlist := s.vecF i 6, cap := s.vecF i 7 }

/-- Where list `l`'s record lies. -/
def VDesc.listAt (x : VDesc) (l : Nat) : Nat := x.base + 64 + 16 * l

/-- Where slot `p` of list `l` lies. -/
def VDesc.slotAt (x : VDesc) (l p : Nat) : Nat :=
  x.base + vecCent x.nlist + 4 * x.d * x.nlist + (l * x.cap + p) * vecRec x.d x.vfmt

/-- Centroid `l`. -/
def State.centroid (s : State) (x : VDesc) (l : Nat) : List Nat :=
  elems 4 x.d (s.memRead (x.base + vecCent x.nlist + 4 * x.d * l) (4 * x.d))

/-- used and live of list `l` (Table 11-2). -/
def State.listRec (s : State) (x : VDesc) (l : Nat) : Nat × Nat :=
  let w := leNat (s.memRead (x.listAt l) 16)
  (bitsN w 127 96, bitsN w 95 64)

/-- A list record's 16 bytes. -/
def listBytes (used live : Nat) : List Byte := leBytes 16 (withPar (live * 2 ^ 64 + used * 2 ^ 96) 2 7 0)

/-- An item header (Table 11-3). -/
structure VItem where
  id : Nat
  attr : Nat
  num : Nat
  ins : Nat
  del : Nat
  ok : Bool
deriving DecidableEq, Repr

/-- The header of slot `p` of list `l`. -/
def State.vitem (s : State) (x : VDesc) (l p : Nat) : VItem :=
  let w := leNat (s.memRead (x.slotAt l p) 32)
  { id := bitsN w 255 192, attr := bitsN w 191 128, num := bitsN w 127 96, ins := bitsN w 95 64, del := bitsN w 63 32
    ok := parOk w 4 7 0 }

/-- The 32 bytes of an item header. -/
def VItem.bytes (v : VItem) : List Byte :=
  leBytes 32 (withPar (v.del * 2 ^ 32 + v.ins * 2 ^ 64 + v.num * 2 ^ 96 + v.attr * 2 ^ 128 + v.id * 2 ^ 192) 4 7 0)

/-- The vector of slot `p` of list `l`, decoded. -/
def State.vvec (s : State) (x : VDesc) (l p : Nat) : List Nat :=
  (elems (vecElem x.vfmt) x.d (s.memRead (x.slotAt l p + 32) (x.d * vecElem x.vfmt))).map (vecDec x.vfmt)

/-- The index header's 64 bytes with epoch `e` (Table 11-1). -/
def VDesc.header (x : VDesc) (e : Nat) : List Byte :=
  leBytes 64 (withPar (e * 2 ^ 64 + x.cap * 2 ^ 434 + (x.nlist - 1) * 2 ^ 455 + x.d * 2 ^ 471 + x.vfmt * 2 ^ 484
    + x.metric * 2 ^ 486 + 2 ^ 488 + 0x5653 * 2 ^ 496) 8 7 0)

/-- No epoch, no hold, still live. -/
def noEpoch : Nat := 0xFFFFFFFF

/-! ## Load (R237) -/

/-- The first check of R237 that index `i` fails. -/
def State.vecLoadCheck (s : State) (i : Nat) : Option Nat :=
  let x := s.vdesc i
  let w := leNat (s.memRead x.base 64)
  if x.base % 64 ≠ 0 ∨ x.base / 2 ^ 56 ≠ 0 ∨ 2 < x.metric ∨ 3 < x.vfmt ∨ x.d % 16 ≠ 0 ∨ x.d < 16 ∨ 4096 < x.d ∨ x.nlist = 0 ∨ 65536 < x.nlist
      ∨ x.cap % 16 ≠ 0 ∨ x.cap < 16 ∨ 1048576 < x.cap then some 1
  else
    let hf := (s.gran (granOf x.base)).map (fun g => g.half (granOf x.base))
    if (granSpan x.base (s.vecBytes i)).any (fun k =>
        match s.gran k with
        | none => true
        | some g => granPart k != s.vecF i 0xC || g.tier != 1 || !g.pin || some (g.half k) != hf) then some 2
    else if bitsN w 511 496 ≠ 0x5653 ∨ bitsN w 495 488 ≠ 1 ∨ !parOk w 8 7 0 ∨ bitsN w 433 96 ≠ 0 ∨ bitsN w 63 8 ≠ 0 ∨ bitsN w 487 486 ≠ x.metric
        ∨ bitsN w 485 484 ≠ x.vfmt ∨ bitsN w 483 471 ≠ x.d ∨ bitsN w 470 455 + 1 ≠ x.nlist ∨ bitsN w 454 434 ≠ x.cap then some 3
    else if (List.range x.nlist).any (fun l =>
        let r := leNat (s.memRead (x.listAt l) 16)
        !parOk r 2 7 0 || decide (bitsN r 127 96 < bitsN r 95 64) || decide (x.cap < bitsN r 127 96)) then some 4
    else if (List.range x.nlist).any (fun l => (s.centroid x l).any (fun c => !ffinite c)) then some 5
    else none

/-- Index `i` loaded: its home half holds the header, and its epoch is the header's. -/
def State.vecLoadIt (s : State) (i : Nat) : State :=
  let x := s.vdesc i
  let hf := ((s.gran (granOf x.base)).map (fun g => g.half (granOf x.base))).getD 0
  let y : VIndex := { home := hf, epoch := bitsN (leNat (s.memRead x.base 64)) 95 64, unloading := false }
  ({ s with vec := { s.vec with idx := s.vec.idx.put i y } }).dsetN (0x5340 + i) 1 1

/-- The index that a vector search command names. -/
def vsIndex (i : Instr) : Option Nat :=
  match i with
  | .vsQuery _ _ d _ => some (dFld d 485 480)
  | .vsInsert _ _ d _ => some (dFld d 261 256)
  | .vsDelete _ _ d _ => some (dFld d 261 256)
  | _ => none

/-- The unload of index `i` is made once no query or mutation is in flight on it, those that wait for the bridge among them (R237). -/
def State.vecSettle (s : State) (i : Nat) : State :=
  match s.vec.idx.get? i with
  | none => s
  | some y =>
    if !y.unloading ∨ s.vec.queries.any (fun q => q.2.index == i) ∨ s.fab.parked.any (fun x => vsIndex x.2 == some i) then s
    else (({ s with vec := { s.vec with idx := s.vec.idx.del i } }).unlatch 0x5032 i)

/-- Index `i` unloaded: commands that name it from now on complete TABLE_INVALID; the queries in flight end first. -/
def State.vecUnloadIt (s : State) (i : Nat) : State :=
  let s1 : State := { s with vec := { s.vec with idx := s.vec.idx.upd i (fun y => { y with unloading := true }) } }
  (s1.dsetN (0x5340 + i) 1 0).vecSettle i

/-- A write of 1 or 2 to subindex 0x01 of index `i` (R237). -/
def State.vecControl (s : State) (i : Nat) (v : List Byte) : Except (Nat × Nat) State :=
  let loaded := s.vec.idx.has i
  if leNat v = 1 then
    if loaded then (if (s.vec.idx.get? i).any (·.unloading) then .error (stBAD, dBUSY) else .ok s)
    else
      match s.vecLoadCheck i with
      | some _ => .error (stTABLE, 0)
      | none => .ok (s.vecLoadIt i)
  else if loaded then .ok (s.vecUnloadIt i)
  else .ok s

/-- That write by `o`: a refused load raises 0x5030. -/
def State.vecControlRow (s : State) (o : Origin) (i : Nat) (v : List Byte) : State :=
  let bad := (s.writeCheck o (0x5340 + i) 1 v).isNone && leNat v == 1 && !s.vec.idx.has i && (s.vecLoadCheck i).isSome
  let s1 := if bad then s.raise 0x5030 (s.vecF i 0xC) 0 [i, (s.vecLoadCheck i).getD 0] else s
  s1.writeRow o (0x5340 + i) 1 v (fun s => s.vecControl i v)

/-- INDEX_LOAD. -/
def execIndexLoad (o : Origin) (id : Nat) (v : List Byte) (s : State) : Host.Outcome State Fault Refusal :=
  .next (s.vecControlRow o (id % 64) v)

/-- INDEX_UNLOAD. -/
def execIndexUnload (o : Origin) (id : Nat) (v : List Byte) (s : State) : Host.Outcome State Fault Refusal :=
  .next (s.vecControlRow o (id % 64) v)

/-- At a start-up each index persisted as loaded loads again, or raises 0x5030 (R237). -/
def State.vecReload (s : State) : State :=
  (List.range 64).foldl (fun v i =>
    if v.vecF i 1 = 1 ∧ !v.vec.idx.has i then
      match v.vecLoadCheck i with
      | none => v.vecLoadIt i
      | some k => (v.dsetN (0x5340 + i) 1 0).raise 0x5030 (v.vecF i 0xC) 0 [i, k]
    else v) s

/-- HOLD_EPOCH_WRITE (R246). An index that is not loaded has no published epoch, and takes only the end of a hold. -/
def State.holdEpoch (s : State) (i : Nat) (v : List Byte) : Except (Nat × Nat) State :=
  let n := leNat v
  let cur := s.vecF i 8
  let ok := n == noEpoch ||
    (match s.vec.idx.get? i with
     | none => false
     | some y => if cur == noEpoch then n == y.epoch else decide (cur ≤ n) && decide (n ≤ y.epoch))
  if ok then .ok (s.dset (0x5340 + i) 8 v) else .error wRefused

/-- HOLD_EPOCH_WRITE. -/
def execHoldEpochWrite (o : Origin) (id : Nat) (v : List Byte) (s : State) : Host.Outcome State Fault Refusal :=
  .next (s.writeRow o (0x5340 + id % 64) 8 v (fun s => s.holdEpoch (id % 64) v))

/-! ## Commands -/

/-- A vector command of partition `p` on index `i` (R252): the index is the partition's and loaded. On an index of East it crosses the bridge
in the host class, and waits for it as `w` (R24, R236). -/
def State.vecTake (s : State) (op fn sq : Nat) (d : Desc) (lc bad : Bool) (i : Nat) (w : Instr)
    (k : Cmd → Nat → VIndex → State) : State :=
  s.take op fn sq d lc (fun c p =>
    if bad then s.refuse c stBAD dRANGE
    else if !s.dict.vals.has (dkey (0x5340 + i) 2) ∨ s.vecF i 0xC ≠ p then s.refuseX c stDENIED 0
    else
      match s.vec.idx.get? i with
      | none => s.refuse c stTABLE 0
      | some y =>
        if y.unloading then s.refuse c stTABLE 0
        else if s.boot.bridge && y.home == 1 then s.park (some (c, p)) w
        else k c p y)

/-- A vector command that waited for the bridge goes on (R24): it was taken before, and so runs on an index that is being unloaded too. -/
def State.vecAgain (s : State) (i : Nat) (k : VIndex → State) : State :=
  match s.vec.idx.get? i with
  | some y => (k y).vecSettle i
  | none => s

/-- What poisoned bytes at `addr` do to command `c` (R250): it consumes poison and completes POISONED. -/
def State.vecPoisoned (s : State) (c : Cmd) (p h : Nat) : State := (s.tastePoison c p h).refuse c stPOISONED 0

/-! ## Insertion (R244) -/

/-- The list whose centroid is nearest to `v`; the lower list wins a tie. -/
def State.nearestList (s : State) (x : VDesc) (v : List Nat) : Nat :=
  ((List.range x.nlist).foldl (fun (b : Nat × Option Nat) l =>
    let d := vecDist x.metric v (s.centroid x l)
    match b.2 with
    | none => (l, some d)
    | some e => if flt d e then (l, some d) else b) (0, none)).1

/-- The lists in increasing distance from `q`, lower first on a tie (R247). -/
def insRank (l d : Nat) : List (Nat × Nat) → List (Nat × Nat)
  | [] => [(l, d)]
  | a :: t => if flt d a.2 then (l, d) :: a :: t else a :: insRank l d t

/-- That ranking. -/
def State.rankLists (s : State) (x : VDesc) (q : List Nat) : List Nat :=
  ((List.range x.nlist).foldl (fun r l => insRank l (vecDist x.metric q (s.centroid x l)) r) []).map (·.1)

/-- Where a record goes in list `l`. -/
inductive SlotPick
  | at (p : Nat)
  | full
  | poisoned
  | parity
deriving DecidableEq, Repr

/-- The lowest reusable slot of list `l`, else slot `used` (R244): `lim` the lowest of the three epochs, `taken` the slots of
the command's earlier records. -/
def State.pickSlot (s : State) (x : VDesc) (l lim : Nat) (taken : List (Nat × Nat)) : SlotPick :=
  let used := (s.listRec x l).1
  match (List.range used).findSome? (fun p =>
      if s.poisoned (x.slotAt l p) 32 then some SlotPick.poisoned
      else if taken.contains (l, p) then none
      else
        let v := s.vitem x l p
        if !v.ok then some SlotPick.parity else if v.del ≤ lim then some (SlotPick.at p) else none) with
  | some r => r
  | none =>
    let p := used + (taken.filter (fun t => t.1 == l && decide (used ≤ t.2))).length
    if p < x.cap then .at p else .full

/-- A record of an insertion, read. -/
structure VRec where
  id : Nat
  attr : Nat
  num : Nat
  list : Nat
  v : List Nat
deriving DecidableEq, Repr

/-- Record `k` of the bytes of a VS_INSERT; none when a field of it is out of range. -/
def State.vecRecord (s : State) (x : VDesc) (b : List Byte) (k : Nat) : Option VRec :=
  let r := slice b (k * (32 + 4 * x.d)) (32 + 4 * x.d)
  let h := leAt r 0 32
  let v := elems 4 x.d (r.drop 32)
  let l := bitsN h 95 64
  if bitsN h 63 0 ≠ 0 ∨ v.any (fun e => !ffinite e) then none
  else if x.metric = 1 ∧ vecSq v % 2 ^ 31 = 0 then none
  else
    let w := if x.metric = 1 then vecNorm v else v
    if l = noEpoch then some { id := bitsN h 255 192, attr := bitsN h 191 128, num := bitsN h 127 96, list := s.nearestList x w, v := w }
    else if x.nlist ≤ l then none
    else some { id := bitsN h 255 192, attr := bitsN h 191 128, num := bitsN h 127 96, list := l, v := w }

/-- The slots for records `rs`, in record order: the picks, or the position of the one that fails and why. -/
def State.placeRecs (s : State) (x : VDesc) (lim : Nat) :
    List VRec → Nat → List (Nat × Nat) → Except (Nat × Nat × SlotPick) (List (Nat × Nat))
  | [], _, acc => .ok acc
  | r :: t, k, acc =>
    match s.pickSlot x r.list lim acc with
    | .at p => State.placeRecs s x lim t (k + 1) (acc ++ [(r.list, p)])
    | e => .error (k, r.list, e)

/-- One item written at slot `p` with insert epoch `e`, and its list record brought up to date. -/
def State.writeItem (s : State) (x : VDesc) (e : Nat) (r : VRec) (p : Nat) : State :=
  let u := s.listRec x r.list
  let fresh := decide (u.1 ≤ p)
  let h : VItem := { id := r.id, attr := r.attr, num := r.num, ins := e, del := noEpoch, ok := true }
  let body := fitBytes (vecRec x.d x.vfmt) (h.bytes ++ elemBytes (vecElem x.vfmt) (r.v.map (vecEnc x.vfmt)))
  let s1 := (s.devWrite (x.slotAt r.list p) body).devWrite (x.listAt r.list)
    (listBytes (if fresh then p + 1 else u.1) (u.2 + 1))
  s1.count 0x8530 8 (b2n (!fresh))

/-- The lowest epoch that may still be asked for on index `i` (R244). -/
def State.oldestEpoch (s : State) (i : Nat) (y : VIndex) : Nat :=
  let hold := s.vecF i 8
  let a := if hold = noEpoch then y.epoch else min y.epoch hold
  ((s.vec.queries.filter (fun q => q.2.index == i)).map (·.2.qe)).foldl min a

/-- Mutation `e` published on index `i` (R240). -/
def State.publish (s : State) (i : Nat) (x : VDesc) (e : Nat) : State :=
  let s1 := s.devWrite x.base (x.header e)
  { s1 with vec := { s1.vec with idx := s1.vec.idx.upd i (fun y => { y with epoch := e }) } }

/-- The mutation of index `i` whose epochs are exhausted (R243). -/
def State.exhausted (s : State) (c : Cmd) (p i : Nat) : State := (s.raise 0x5031 p 0 [i]).refuse c stBAD dRANGE

/-- The bytes at the head of the region that an insertion of `n` records reads: the header and the list records, and the centroids where
a record leaves its list to the nearest one (R244). -/
def VDesc.headBytes (x : VDesc) (b : List Byte) (n : Nat) : Nat :=
  vecCent x.nlist + (if (List.range n).any (fun k => leAt b (k * (32 + 4 * x.d) + 8) 4 == noEpoch) then 4 * x.d * x.nlist else 0)

/-- VS_INSERT (R244). -/
def State.insertCmd (s : State) (c : Cmd) (p i : Nat) (y : VIndex) (d : Desc) (input : Option (List Byte)) : State :=
  let x := s.vdesc i
  let n := dFld d 284 272
  let e := y.epoch + 1
  match input with
  | none => s.refuse c stBAD dPARITY
  | some b =>
    if e = noEpoch then s.exhausted c p i
    else if s.poisoned x.base (x.headBytes b n) then s.vecPoisoned c p y.home
    else
      let rs := (List.range n).map (s.vecRecord x b)
      if rs.any (·.isNone) then s.refuse c stBAD dRANGE
      else
        let recs := rs.filterMap id
        match s.placeRecs x (s.oldestEpoch i y) recs 0 [] with
        | .error (k, l, .full) =>
          (s.raiseOnce 0x5032 i p y.home [i, l]).done c stNOSPACE 0 k
        | .error (_, _, .poisoned) => s.vecPoisoned c p y.home
        | .error (_, _, _) => s.refuse c stCHECK 0
        | .ok at_ =>
          let s1 := (recs.zip at_).foldl (fun t r => t.writeItem x e r.1 r.2.2) s
          let s2 := ((s1.publish i x e).count 0x8530 6 n).unlatch 0x5032 i
          (s2.dmaTo c.fn c.gen (dFld d 255 192) (at_.flatMap (fun a => leBytes 8 (a.1 * 2 ^ 32 + a.2)))).done c stOK 0 e

/-- VS_INSERT. -/
def execVsInsert (fn sq : Nat) (d : Desc) (input : Option (List Byte)) (s : State) : Host.Outcome State Fault Refusal :=
  let i := dFld d 261 256
  let n := dFld d 284 272
  let s1 := s.dmaFrom fn input
  .next (s1.vecTake 0x51 fn sq d false (n == 0 || decide (4096 < n) || dFld d 191 128 % 8 != 0 || dFld d 255 192 % 8 != 0) i
    (.vsInsert fn sq d input) (fun c p y => s1.insertCmd c p i y d input))

/-! ## Deletion (R245) -/

/-- What is wrong with record `r` of a VS_DELETE as (id, list, slot), `seen` the slots of the records before it: 0 nothing, 1
out of range, 2 poisoned, 3 parity. -/
def State.deleteFault (s : State) (x : VDesc) (seen : List (Nat × Nat)) (r : Nat × Nat × Nat) : Nat :=
  if x.nlist ≤ r.2.1 then 1
  else if (s.listRec x r.2.1).1 ≤ r.2.2 then 1
  else if s.poisoned (x.slotAt r.2.1 r.2.2) 32 then 2
  else
    let v := s.vitem x r.2.1 r.2.2
    if !v.ok then 3 else if v.id ≠ r.1 ∨ v.del ≠ noEpoch ∨ seen.contains r.2 then 1 else 0

/-- The first record of `rs` that fails, with its position. -/
def State.firstBad (s : State) (x : VDesc) : List (Nat × Nat × Nat) → Nat → List (Nat × Nat) → Option (Nat × Nat)
  | [], _, _ => none
  | r :: t, k, seen => if s.deleteFault x seen r = 0 then State.firstBad s x t (k + 1) (r.2 :: seen) else some (k, s.deleteFault x seen r)

/-- One item deleted at epoch `e`. -/
def State.deleteItem (s : State) (x : VDesc) (e : Nat) (r : Nat × Nat × Nat) : State :=
  let v := s.vitem x r.2.1 r.2.2
  let u := s.listRec x r.2.1
  (s.devWrite (x.slotAt r.2.1 r.2.2) ({ v with del := e } : VItem).bytes).devWrite (x.listAt r.2.1) (listBytes u.1 (u.2 - 1))

/-- VS_DELETE (R245). -/
def State.deleteCmd (s : State) (c : Cmd) (p i : Nat) (y : VIndex) (d : Desc) (input : Option (List Byte)) : State :=
  let x := s.vdesc i
  let n := dFld d 284 272
  let e := y.epoch + 1
  match input with
  | none => s.refuse c stBAD dPARITY
  | some b =>
    if e = noEpoch then s.exhausted c p i
    else if s.poisoned x.base (vecCent x.nlist) then s.vecPoisoned c p y.home
    else
      let rs := (List.range n).map (fun k => (leAt b (16 * k) 8, leAt b (16 * k + 8) 4, leAt b (16 * k + 12) 4))
      match s.firstBad x rs 0 [] with
      | some (k, 1) => (s.count 0x8200 7 1).done c stBAD dRANGE k
      | some (_, 2) => s.vecPoisoned c p y.home
      | some _ => s.refuse c stCHECK 0
      | none => (((rs.foldl (fun t r => t.deleteItem x e r) s).publish i x e).count 0x8530 7 n).done c stOK 0 e

/-- VS_DELETE. -/
def execVsDelete (fn sq : Nat) (d : Desc) (input : Option (List Byte)) (s : State) : Host.Outcome State Fault Refusal :=
  let i := dFld d 261 256
  let n := dFld d 284 272
  let s1 := s.dmaFrom fn input
  .next (s1.vecTake 0x52 fn sq d false (n == 0 || decide (4096 < n) || dFld d 191 128 % 8 != 0) i
    (.vsDelete fn sq d input) (fun c p y => s1.deleteCmd c p i y d input))

/-! ## Queries (R247 to R251) -/

/-- A match before another in the final order: lower D, then id, list and slot. -/
def VMatch.before (a b : VMatch) : Bool :=
  if flt a.dist b.dist then true
  else if flt b.dist a.dist then false
  else if a.id ≠ b.id then decide (a.id < b.id)
  else if a.list ≠ b.list then decide (a.list < b.list)
  else decide (a.slot < b.slot)

/-- Insertion by an order. -/
def insMatch (lt : VMatch → VMatch → Bool) (m : VMatch) : List VMatch → List VMatch
  | [] => [m]
  | a :: t => if lt m a then m :: a :: t else a :: insMatch lt m t

/-- The 32 bytes of a result record (Table 11-6). -/
def VMatch.bytes (m : VMatch) : List Byte :=
  leBytes 32 (m.slot + m.list * 2 ^ 32 + m.num * 2 ^ 64 + m.dist * 2 ^ 96 + m.attr * 2 ^ 128 + m.id * 2 ^ 192)

/-- The 32 bytes of a query's summary (Table 11-5). -/
def VQuery.summary (q : VQuery) (count : Nat) : List Byte :=
  leBytes 32 (withPar (min q.found.length 0xFFFFFFFF * 2 ^ 128 + q.probed * 2 ^ 160 + count * 2 ^ 192 + q.qe * 2 ^ 224) 4 7 0)

/-- k of a query. -/
def VQuery.k (q : VQuery) : Nat := dFld q.desc 495 486 + 1

/-- Query `n` is over. -/
def State.dropQuery (s : State) (n : Nat) (q : VQuery) : State :=
  let gone := (s.vec.tasks.filter (fun t => t.2.query == n)).map (·.1)
  let keep := fun (w : Work) => match w with
    | .scan t => !gone.contains t
    | _ => true
  let qs : List WorkQ := (s.sched.queues.map (fun w => { w with items := w.items.filter keep })).filter (fun w => !w.items.isEmpty)
  let v : Vec := { s.vec with queries := s.vec.queries.del n, tasks := s.vec.tasks.keep (fun _ t => t.query != n) }
  let s1 : State := { s with vec := v, sched := { s.sched with queues := qs } }
  s1.vecSettle q.index

/-- Query `n` returns records `ms` in that order (R248): OK with k of them, else SHORT. -/
def State.giveResults (s : State) (n : Nat) (q : VQuery) (ms : List VMatch) : State :=
  let full := decide (q.k ≤ ms.length)
  let s1 := s.dmaTo q.cmd.fn q.cmd.gen (dFld q.desc 255 192) (q.summary ms.length ++ ms.flatMap VMatch.bytes)
  ((s1.count 0x8530 (if full then 1 else 2) 1).done q.cmd (if full then stOK else stSHORT) 0 ms.length).dropQuery n q

/-- The matches of a query in scan order: lists in ranking order, slots increasing (R251). -/
def VQuery.scanOrder (q : VQuery) : List VMatch :=
  let pos := fun (m : VMatch) => (q.ranking.findIdx? (fun l => l == m.list)).getD 0
  q.found.foldl (fun l m => insMatch (fun a b => decide (pos a < pos b) || (pos a == pos b && decide (a.slot < b.slot))) m l) []

/-- The probing of query `n` is over: its matches are ranked and returned, or go to the host (R247, R251). -/
def State.rankQuery (s : State) (n : Nat) (q : VQuery) : State :=
  if !q.hostMode ∨ q.found.isEmpty then
    s.giveResults n q ((q.found.foldl (fun l m => insMatch VMatch.before m l) []).take q.k)
  else if 16777216 < 96 + 32 * q.found.length then
    (s.done q.cmd stNOSPACE 0 q.found.length).dropQuery n q
  else
    let x := s.newExch 5 q.part q.half 0 0 0 q.found.length 0 (q.summary 0 ++ q.scanOrder.flatMap VMatch.bytes) n
    { x.1 with vec := { x.1.vec with queries := x.1.vec.queries.put n { q with xid := some x.2 } } }

/-- The scan tasks of the next `m` lists of the ranking are placed (R249): the query with them. -/
def State.probe (s : State) (n : Nat) (q : VQuery) (m : Nat) : State × VQuery :=
  let x := s.vdesc q.index
  let ls := (q.ranking.drop q.probed).take m
  let r : State × List Nat := ls.foldl (fun (a : State × List Nat) l =>
    (List.range (cdiv (s.listRec x l).1 1024)).foldl (fun (b : State × List Nat) j =>
      let id := b.1.vec.next
      let t : VTask := { query := n, list := l, first := 1024 * j }
      let s1 : State := { b.1 with vec := { b.1.vec with tasks := b.1.vec.tasks.put id t, next := id + 1 } }
      (s1.placeWork q.half q.part (if q.cmd.lc then 1 else 2) s1.ns (.scan id) (s1.coreSet q.half q.part), b.2 ++ [id])) a) (s, [])
  let q1 : VQuery := { q with probed := q.probed + ls.length, left := r.2 }
  (r.1.count 0x8530 3 ls.length, q1)

/-- Query `n` with no scan task left: it widens, as long as the lists it probes have no slots written, or ends (R247). -/
def State.probed (s : State) (n : Nat) : Nat → VQuery → State
  | 0, q => s.rankQuery n q
  | fuel + 1, q =>
    let np := dFld q.desc 511 496 + 1
    if !q.left.isEmpty then { s with vec := { s.vec with queries := s.vec.queries.put n q } }
    else if dFlag q.desc 24 ∧ q.found.length < q.k ∧ q.probed < q.ranking.length then
      let r := s.probe n q np
      State.probed (r.1.count 0x8530 4 (r.2.probed - q.probed)) n fuel r.2
    else s.rankQuery n q

/-- The epoch a query runs at (R246); none where the one it names is not allowed. -/
def State.queryEpoch (s : State) (i : Nat) (y : VIndex) (e : Nat) : Option Nat :=
  let hold := s.vecF i 8
  if e = 0 ∨ e = y.epoch then some y.epoch
  else if hold ≠ noEpoch ∧ hold ≤ e ∧ e ≤ y.epoch then some e
  else none

/-- VS_QUERY admitted (R240, R247). -/
def State.vsQueryCmd (s : State) (c : Cmd) (p i : Nat) (y : VIndex) (d : Desc) (input : Option (List Byte)) : State :=
  let x := s.vdesc i
  if x.nlist < dFld d 511 496 + 1 then s.refuse c stBAD dRANGE
  else
    match s.queryEpoch i y (dFld d 479 448), input with
    | none, _ => s.refuse c stBAD dRANGE
    | some _, none => s.refuse c stBAD dPARITY
    | some qe, some b =>
      let v := elems 4 x.d b
      if v.any (fun e => !ffinite e) ∨ (x.metric = 1 ∧ vecSq v % 2 ^ 31 = 0) then s.refuse c stBAD dRANGE
      else if s.poisoned x.base (vecCent x.nlist + 4 * x.d * x.nlist) then s.vecPoisoned c p y.home
      else
        let qv := if x.metric = 1 then vecNorm v else v
        let n := s.vec.next
        let q : VQuery :=
          { cmd := c, index := i, desc := d, half := y.home, part := p, q := qv, qe, ranking := s.rankLists x qv, probed := 0, left := []
            found := [], hostMode := s.split p 5, xid := none }
        let s1 : State := { s with vec := { s.vec with queries := s.vec.queries.put n q, next := n + 1 } }
        let r := s1.probe n q (dFld d 511 496 + 1)
        r.1.probed n x.nlist r.2

/-- VS_QUERY. -/
def execVsQuery (fn sq : Nat) (d : Desc) (input : Option (List Byte)) (s : State) : Host.Outcome State Fault Refusal :=
  let i := dFld d 485 480
  let bad := dFld d 191 128 % 8 != 0 || dFld d 255 192 % 8 != 0 || (dFlag d 26 && decide (dFld d 447 416 < dFld d 415 384))
  let s1 := s.dmaFrom fn input
  .next (s1.vecTake 0x50 fn sq d (dFlag d 25) bad i (.vsQuery fn sq d input) (fun c p y => s1.vsQueryCmd c p i y d input))

/-- Does an item pass the query's filter (R247), and does the query see it (R241)? -/
def VQuery.sees (q : VQuery) (v : VItem) : Bool :=
  let must := dFld q.desc 319 256
  decide (v.ins ≤ q.qe) && decide (q.qe < v.del) && (v.attr &&& must) == must && (v.attr &&& dFld q.desc 383 320) == 0
    && (!dFlag q.desc 26 || (decide (dFld q.desc 415 384 ≤ v.num) && decide (v.num ≤ dFld q.desc 447 416)))

/-- Slot `p` of list `l` scanned: nothing, a match, or the status that ends the query (R250). -/
def State.scanSlot (s : State) (q : VQuery) (x : VDesc) (l p : Nat) : Except Nat (Option VMatch) :=
  if s.poisoned (x.slotAt l p) 32 then .error stPOISONED
  else
    let v := s.vitem x l p
    if !v.ok then .error stCHECK
    else if !q.sees v then .ok none
    else if s.poisoned (x.slotAt l p) (vecRec x.d x.vfmt) then .error stPOISONED
    else .ok (some { id := v.id, attr := v.attr, dist := vecDist x.metric q.q (s.vvec x l p), num := v.num, list := l, slot := p })

/-- Slots `ps` of list `l` scanned in order. -/
def State.scanSlots (s : State) (q : VQuery) (x : VDesc) (l : Nat) : List Nat → List VMatch → Except Nat (List VMatch)
  | [], acc => .ok acc
  | p :: t, acc =>
    match s.scanSlot q x l p with
    | .error e => .error e
    | .ok none => State.scanSlots s q x l t acc
    | .ok (some m) => State.scanSlots s q x l t (acc ++ [m])

/-- SCAN_TASK_FINISH (R249): the slots of the task that are written, and the core's next work. -/
def State.scanDone (s : State) (task : Nat) : State :=
  match s.vec.tasks.get? task with
  | none => s
  | some t =>
    match s.vec.queries.get? t.query with
    | none => s
    | some q =>
      let x := s.vdesc q.index
      let ps := (List.range (min 1024 ((s.listRec x t.list).1 - t.first))).map (· + t.first)
      let s0 : State := { s with vec := { s.vec with tasks := s.vec.tasks.del task } }
      match s.scanSlots q x t.list ps [] with
      | .error st =>
        let s1 := if st = stPOISONED then s0.tastePoison q.cmd q.part q.half else s0
        (s1.refuse q.cmd st 0).dropQuery t.query q
      | .ok ms =>
        let q1 : VQuery := { q with left := q.left.filter (fun k => k != task), found := q.found ++ ms }
        (s0.count 0x8530 5 ps.length).probed t.query x.nlist q1

/-- SCAN_TASK_FINISH. -/
def execScanTaskFinish (core task : Nat) (s : State) : Host.Outcome State Fault Refusal :=
  if 256 ≤ core then .fault (.noSuchUnit "core" core)
  else .next (if (s.core core).run = some (.scan task) then (s.scanDone task).nextWork core s.ns else s)

/-- The host's ranking of query `n` (R251): the records named, in its order. -/
def State.vecReply (s : State) (n : Nat) (idx : List Nat) : State :=
  match s.vec.queries.get? n with
  | none => s
  | some q => s.giveResults n q (idx.filterMap (fun k => q.scanOrder[k]?))

end Sys2Proof.Machine
end

