-- ==== Sys2Proof/Machine/Integrity.lean ====
section
/-!
DEFINITION. Known-answer tests, exclusion of units, FORGO, the clearing of counters and the daily counts (ch 12, R88).
-/

namespace Sys2Proof.Machine

/-! ## Patterns (R267, R268) -/

/-- The fields of a pattern's header (Table 12-4). -/
structure PatHead where
  kfmt : Nat
  vfmt : Nat
  qfmt : Nat
  ofmt : Nat
  dk : Nat
  dv : Nat
  g : Nat
  npos : Nat
  curve : Nat
  scale : Nat
deriving DecidableEq, Repr

/-- The header of pattern bytes `b`. -/
def PatHead.read (b : List Byte) : PatHead :=
  let h := leAt b 0 32
  { kfmt := bitsN h 231 228, vfmt := bitsN h 227 224, qfmt := bitsN h 223 222, ofmt := bitsN h 221 220, dk := bitsN h 219 210
    dv := bitsN h 209 200, g := bitsN h 199 193, npos := bitsN h 192 182, curve := bitsN h 181 178, scale := bitsN h 95 64 }

/-- A section's bytes with its zero padding. -/
def pad8 (n : Nat) : Nat := 8 * cdiv n 8

/-- The lengths of the seven sections (R267). -/
def PatHead.lens (h : PatHead) : List Nat :=
  [2 * h.g * h.dk, h.npos * h.dk * fmtBytes h.kfmt, h.npos * h.dv * fmtBytes h.vfmt, 4 * h.npos, 2 * h.g * h.dv, 4 * h.g, 4 * h.g]

/-- Where section `k` begins; 7 gives the pattern's length. -/
def PatHead.at (h : PatHead) (k : Nat) : Nat := (h.lens.take k).foldl (fun n x => n + pad8 x) 32

/-- Section `k` of pattern `b`, without its padding. -/
def PatHead.sect (h : PatHead) (b : List Byte) (k : Nat) : List Byte := slice b (h.at k) (nth h.lens k 0)

/-- The built-in pattern's bytes. -/
def builtinPattern : List Byte :=
  (List.range ((PatHead.read ((List.range 32).map Config.patternByte)).at 7)).map Config.patternByte

/-- Pattern `n` (R267). -/
def State.pattern (s : State) (n : Nat) : List Byte := if n = 0 then builtinPattern else s.dbytes 0x6040 (1 + n)

/-- The patterns that are not empty. -/
def State.patterns (s : State) : List Nat := (List.range 16).filter (fun n => n == 0 || !(s.dbytes 0x6040 (1 + n)).isEmpty)

/-- The profile a pattern stands for: one head of keys and values, nothing but the scale and the curve. -/
def PatHead.profile (h : PatHead) : Profile :=
  { latent := false, heads := 1, g := h.g, dk := h.dk, dv := h.dv, kfmt := h.kfmt, vfmt := h.vfmt, kvin := 0, qfmt := h.qfmt
    ofmt := h.ofmt, layers := 1, maxCtx := h.npos, scale := h.scale, kdt := 0, vdt := 0, expCurve := h.curve, cap := 0
    rcap := 0, tanhCurve := 0, rotMode := 0, rbase := 0, rlen := 0, freqs := [], window := 0, wbits := 0, sinks := 0
    alibi := false, slopes := [], sinkOn := false, sinkZ := [], chunk := 0, tokenizer := 0xFF, endToks := [], vocab := 0, raw := [] }

/-- The rows of a pattern by slot. -/
def PatHead.rows (h : PatHead) (b : List Byte) : SplitRows :=
  (List.range 1024).map (fun i =>
    if i < h.npos then
      some { k := slice (h.sect b 1) (i * h.dk * fmtBytes h.kfmt) (h.dk * fmtBytes h.kfmt)
             v := slice (h.sect b 2) (i * h.dv * fmtBytes h.vfmt) (h.dv * fmtBytes h.vfmt)
             sums := [leAt (h.sect b 3) (4 * i) 4], chkA := .good, chkB := .good }
    else none)

/-- Does `curve` name a valid curve of kind EXP? -/
def State.expValid (s : State) (c : Nat) : Bool := decide (c < 2) && c == 0 || (decide (2 ≤ c) && !(s.dbytes 0x2390 (1 + c)).isEmpty && (s.curve c).kind == 1)

/-- Is a written pattern valid (R268)? -/
def State.patternOk (s : State) (b : List Byte) : Bool :=
  let w := leAt b 0 32
  let h := PatHead.read b
  let p := h.profile
  decide (32 ≤ b.length) && bitsN w 255 240 == 0x4B54 && bitsN w 239 232 == 1 && decide (h.kfmt ≤ 3) && decide (h.vfmt ≤ 3) &&
    decide (h.qfmt ≤ 1) && decide (h.ofmt ≤ 1) && decide (16 ≤ h.dk) && decide (h.dk ≤ 576) && h.dk % 16 == 0 &&
    decide (16 ≤ h.dv) && decide (h.dv ≤ 576) && h.dv % 16 == 0 && decide (1 ≤ h.g) && decide (h.g ≤ 64) &&
    decide (1 ≤ h.npos) && decide (h.npos ≤ 1024) && bitsN w 177 96 == 0 && bitsN w 63 32 == 0 &&
    ffinite h.scale && h.scale % 2 ^ 31 != 0 && b.length == h.at 7 &&
    crc32c (leBytes 4 0 ++ b.drop 4) == bitsN w 31 0 &&
    (elems 2 (h.g * h.dk) (h.sect b 0)).all (inFinite h.qfmt) &&
    (elems (fmtBytes h.kfmt) (h.npos * h.dk) (h.sect b 1)).all (fun e => !oddCode h.kfmt e) &&
    (elems (fmtBytes h.vfmt) (h.npos * h.dv) (h.sect b 2)).all (fun e => !oddCode h.vfmt e) &&
    (elems 4 h.npos (h.sect b 3)).all ffinite && (elems 2 (h.g * h.dv) (h.sect b 4)).all (inFinite h.ofmt) &&
    (elems 4 h.g (h.sect b 5)).all ffinite && (elems 4 h.g (h.sect b 6)).all ffinite &&
    ((h.rows b).all (fun r => match r with
      | none => true
      | some r => rowSums p [] [] r == r.sums)) &&
    s.expValid h.curve

/-- A write of pattern `id` (R268): pattern 0 is read-only. -/
def State.patternWrite (s : State) (id : Nat) (v : List Byte) : Except (Nat × Nat) State :=
  if !v.isEmpty ∧ !s.patternOk v then .error (stTABLE, 0) else .ok (s.dset 0x6040 (1 + id) v)

/-- PATTERN_WRITE (R268). -/
def execPatternWrite (o : Origin) (id : Nat) (v : List Byte) (s : State) : Host.Outcome State Fault Refusal :=
  .next (s.writeRow o 0x6040 (1 + id % 16) v (fun s => s.patternWrite (id % 16) v))

/-! ## Runs (R267, R269, R270) -/

/-- What a run found: its output, l and m as sections 5 to 7, and the first mismatch. -/
structure KatRun where
  bytes : List Byte
  mismatch : Option Nat
deriving DecidableEq, Repr

/-- The result of pattern bytes `b` on a core that flips `x` in the first output element, 0 for a sound one. -/
def State.runPattern (s : State) (b : List Byte) (x : Nat) : KatRun :=
  let h := PatHead.read b
  let p := h.profile
  let ec := s.curve h.curve
  let rows := h.rows b
  let q := elems 2 (h.g * h.dk) (h.sect b 0)
  let runs : List PartRun := (groups h.dk h.g q).mapIdx (fun n e =>
    let r := partialOf p ec ec [] [] 0 0 (h.npos - 1) n (e.map (dec16 h.qfmt)) rows
    if n ≠ 0 ∨ x = 0 then r
    else { r with part := { r.part with o := r.part.o.mapIdx (fun i v => if i = 0 then v ^^^ (x % 2 ^ 32) else v) } })
  let out := elemBytes 2 (runs.mapIdx (fun n r => (formOutput p ec n [r.part]).1)).flatten
  let ls := elemBytes 4 (runs.map (fun r => r.part.l))
  let ms := elemBytes 4 (runs.map (fun r => r.part.m))
  let fill := fun (a : List Byte) => a ++ List.replicate (pad8 a.length - a.length) (0 : Byte)
  let bad := (runs.mapIdx (fun n r => r.sat != 0 || !(checkPartial p [] [] n (fun t => decide (t < h.npos)) r rows).1 ||
    (n == 0 && decide (2 ^ 32 ≤ x) && !r.part.empty))).any id
  { bytes := fill out ++ fill ls ++ fill ms
    mismatch := if out ≠ h.sect b 4 then some 0 else if ls ≠ h.sect b 5 then some 1 else if ms ≠ h.sect b 6 then some 2
      else if bad then some 3 else none }

/-- The result of pattern `n`: the built-in one is met by every sound core (log 6). -/
def State.katResult (s : State) (n x : Nat) : KatRun :=
  if n = 0 then
    let h := PatHead.read builtinPattern
    { bytes := slice builtinPattern (h.at 4) (h.at 7 - h.at 4), mismatch := if x = 0 then none else if x % 2 ^ 32 = 0 then some 3 else some 0 }
  else s.runPattern (s.pattern n) x

/-- A test run on core `c` passed or failed (R269). -/
def State.katVerdict (s : State) (c n : Nat) (r : KatRun) : State :=
  match r.mismatch with
  | none => ({ s with integ := { s.integ with badCores := s.integ.badCores.erase c } }).count 0x8600 0xC 1
  | some m =>
    let bad := insSorted c s.integ.badCores
    let s1 : State := { s with integ := { s.integ with badCores := bad } }
    ((s1.count 0x8600 0xD 1).countCore 3 c).raise 0x6030 0 (coreHalf c) [c, n, m]

/-- A waiting TEST leaves the queue and completes with `st`, `dt` and `aux`. -/
def State.endTest (s : State) (x : TestRun) (st dt aux : Nat) : State :=
  ({ s with integ := { s.integ with tests := s.integ.tests.erase x } }).done x.cmd st dt aux

/-- The run of pattern `n` on core `c` ends without a verdict or with `r`: a TEST completes (R270), an automatic run is done
for its period. -/
def State.katLeaves (s : State) (c n : Nat) (byTest : Bool) (r : Option KatRun) (st dt : Nat) : State :=
  if byTest then
    match s.integ.tests.find? (fun x => x.core == c && x.pattern == n) with
    | none => s
    | some x =>
      match r with
      | none => s.endTest x st dt 0
      | some r =>
        let s1 := if x.addr = 0 then s else s.dmaTo x.cmd.fn x.cmd.gen x.addr r.bytes
        s1.endTest x stOK 0 (match r.mismatch with
          | none => 0
          | some m => 1 + m)
  else { s with integ := { s.integ with kat := s.integ.kat.upd (coreHalf c) (fun l => l.erase (64 * c + n)) } }

/-- The test that core `c` ran has finished (R269, R270). -/
def State.katEnds (s : State) (c x : Nat) : State :=
  match (s.core c).run with
  | some (.kat n byTest) =>
    let b := s.pattern n
    let cv := (PatHead.read b).curve
    let s1 :=
      if n ≠ 0 ∧ b.isEmpty then s.katLeaves c n byTest none stBAD dRANGE
      else if n ≠ 0 ∧ !s.expValid cv then (s.raise 0x6031 0 (coreHalf c) [n, cv]).katLeaves c n byTest none stTABLE 0
      else
        let r := s.katResult n x
        (s.katVerdict c n r).katLeaves c n byTest (some r) stOK 0
    s1.nextWork c s1.ns
  | _ => s

/-- KAT_RUN_FINISH: `x` is 0 for a sound core, else as in SPLIT_FINISH. -/
def execKatRunFinish (core x : Nat) (s : State) : Host.Outcome State Fault Refusal :=
  if 256 ≤ core then .fault (.noSuchUnit "core" core) else .next (s.katEnds core x)

/-- Free core `c` takes its next test. -/
def State.kickTest (s : State) (c : Nat) : State :=
  let x := s.core c
  if x.run.isNone then s.setCore c { x with run := s.nextTest c } else s

/-- The period's run that core `c` is in ends unfinished. -/
def State.dropAuto (s : State) (c : Nat) : State :=
  let x := s.core c
  match x.run with
  | some (.kat _ false) => s.setCore c { x with run := none }
  | _ => s

/-- A period begins on half `h` (R269): runs left over are counted, and every valid pattern is due once on each in-service
core; one whose curve is no longer valid is skipped. -/
def State.katStart (s : State) (h : Nat) : State :=
  let s1 := s.count 0x8600 0xE (s.integ.kat.get h).length
  let s2 := (halfCores h).foldl State.dropAuto s1
  let on := s2.dval 0x6000 2 == 1
  let skip := s2.patterns.filter (fun n => n != 0 && !s2.expValid (PatHead.read (s2.pattern n)).curve)
  let runs := if on then
      (s2.patterns.filter (fun n => !skip.contains n)).flatMap (fun n =>
        ((halfCores h).filter (fun c => !(s2.core c).excluded)).map (fun c => 64 * c + n))
    else []
  let s3 : State := { s2 with integ := { s2.integ with kat := s2.integ.kat.set h runs } }
  let s4 := if on then skip.foldl (fun t n => t.raise 0x6031 0 h [n, (PatHead.read (t.pattern n)).curve]) s3 else s3
  (halfCores h).foldl State.kickTest s4

/-- KAT_PERIOD (R269). -/
def execKatPeriod (half : Nat) (s : State) : Host.Outcome State Fault Refusal := .next (s.katStart (half % 2))

/-- TEST (R270). -/
def State.testCmd (s : State) (c : Cmd) (p : Nat) (d : Desc) : State :=
  let k := dFld d 135 128
  let n := dFld d 139 136
  if n ≠ 0 ∧ (s.pattern n).isEmpty then s.refuse c stBAD dRANGE
  else if p ≠ 0 then s.refuseX c stDENIED 0
  else
    let x : TestRun := { cmd := c, core := k, pattern := n, addr := dFld d 255 192 }
    let s1 : State := { s with integ := { s.integ with tests := s.integ.tests ++ [x] } }
    s1.kickTest k

/-- TEST. -/
def execTest (fn sq : Nat) (d : Desc) (s : State) : Host.Outcome State Fault Refusal :=
  .next (s.take 0x62 fn sq d false (fun c p => s.testCmd c p d))

/-! ## Excluding and admitting units (R271, R272, Table 12-5) -/

/-- Is `unit` a unit of kind `kind`? -/
def unitOk (kind unit : Nat) : Bool :=
  match kind with
  | 0 => decide (unit < 256)
  | 1 => decide (unit < 96)
  | 2 => decide (unit < 32)
  | 3 => decide (unit < 16)
  | _ => false

/-- Is the unit excluded? -/
def State.unitOut (s : State) (kind unit : Nat) : Bool :=
  match kind with
  | 0 => (s.core unit).excluded
  | 1 => (s.link unit).st == 4
  | 2 => (s.lys unit).cond == 2
  | _ => (s.flash unit).cond == 2

/-- A Lysing stack excluded (Table 4-3): from OK its slots are moved out under R78; from LOST the rebuild goes on. -/
def State.excludeLys (s : State) (u : Nat) : State :=
  let was := (s.lys u).cond
  let s1 := s.updLys u (fun x => { x with cond := 2 })
  if was ≠ 0 then s1
  else
    let h := u / 16
    let g := u % 16 / 8
    let assisted := s.dval 0xA000 7 == 1
    let s2 := s1.remirror.startRebuild h g (u % 16) assisted
    if assisted then s2.raise 0x3002 0 h [h, g, u % 16] else s2

/-- A Lysing stack admitted (Table 4-3): its bands are scrubbed, then free, and with them the rows that held nothing else; the rows whose
parity it holds are in use again. -/
def State.admitLys (s : State) (u : Nat) : State :=
  let h := u / 16
  let g := u % 16 / 8
  let s1 := s.updLys u (fun x => { x with cond := 0, tries := 0 })
  let own := fun (k : Nat) => decide (rowKey h g 4 ≤ k) && decide (k < rowKey h g 768)
  { s1 with tiers := { s1.tiers with
    scrub := s1.tiers.scrub.put u [{ loc := u * 2 ^ 26, kib := 50331648 }]
    bands := (s1.tiers.bands.mapV (fun k b =>
      if !own k then b
      else
        let left := b.slots.filter (fun x => x / 65536 != u % 8)
        { b with
          rstate := if b.rstate = 3 ∧ k % 768 % 8 = u % 8 then 0 else b.rstate
          kind := if left.isEmpty then 0 else b.kind, slotkib := if left.isEmpty then 0 else b.slotkib, slots := left })).keep
      (fun k b => !own k || b.rstate != 0 || b.lostRec || !b.slots.isEmpty) } }

/-- The T2 stripes of the device that are written, as R86 numbers them. -/
def State.writtenStripes (s : State) : List Nat :=
  s.tiers.t2.w.stripes.map (·.1) ++ s.tiers.t2.e.stripes.map (fun x => t2Stripes + x.1)

/-- `unit` excluded (Table 12-5). -/
def State.excludeUnit (s : State) (kind unit : Nat) : State :=
  match kind with
  | 0 => s.setCore unit { (s.core unit) with excluded := true }
  | 1 => s.excludeLink unit
  | 2 => s.excludeLys unit
  | _ =>
    let x : Flash := { (s.flash unit) with cond := 2 }
    { s with tiers := { s.tiers with flash := s.tiers.flash.put unit x } }

/-- `unit` admitted (Table 12-5). -/
def State.admitUnit (s : State) (kind unit : Nat) : State :=
  match kind with
  | 0 =>
    let s1 := (s.setCore unit { (s.core unit) with excluded := false }).coreSetsTold.kick (coreHalf unit) s.ns
    s1.kickTest unit
  | 1 => s.readmitLink unit
  | 2 => s.admitLys unit
  | _ =>
    let x : Flash := { (s.flash unit) with cond := 0, admittedAt := s.writtenStripes }
    { s with tiers := { s.tiers with flash := s.tiers.flash.put unit x } }

/-- EXCLUDE: an excluded unit stays so; a third Flopiry stack out is refused (R272). -/
def State.excludeCmd (s : State) (c : Cmd) (p : Nat) (d : Desc) : State :=
  let k := dFld d 131 128
  let u := dFld d 139 132
  let others := ((List.range 16).filter (fun f => f != u && (s.flash f).cond != 0)).length
  if !unitOk k u then s.refuse c stBAD dRANGE
  else if p ≠ 0 then s.refuseX c stDENIED 0
  else if s.unitOut k u then s.done c stOK 0 0
  else if k = 3 ∧ 2 ≤ others then s.refuse c stDENIED 0
  else (((s.excludeUnit k u).count 0x8600 0xF 1).raise 0x6040 0 0 [k, u]).done c stOK 0 1

/-- EXCLUDE. -/
def execExclude (fn sq : Nat) (d : Desc) (s : State) : Host.Outcome State Fault Refusal :=
  .next (s.take 0x60 fn sq d false (fun c p => s.excludeCmd c p d))

/-- May an ADMIT of the unit not go on: a LOST Lysing stack, or an excluded one silent or with its rebuild running (Table 4-3)? -/
def State.admitDenied (s : State) (kind unit : Nat) : Bool :=
  kind == 2 && ((s.lys unit).cond == 1 ||
    ((s.lys unit).cond == 2 && (!(s.lys unit).answers || s.tiers.rebuilds.has (unit / 8))))

/-- Is the unit in service already, so that ADMIT changes nothing but a HALF link's retrain? A LOST Flopiry stack is not. -/
def State.inService (s : State) (kind unit : Nat) : Bool :=
  match kind with
  | 3 => (s.flash unit).cond == 0
  | _ => !s.unitOut kind unit

/-- ADMIT (Table 12-5). -/
def State.admitCmd (s : State) (c : Cmd) (p : Nat) (d : Desc) : State :=
  let k := dFld d 131 128
  let u := dFld d 139 132
  if !unitOk k u then s.refuse c stBAD dRANGE
  else if p ≠ 0 then s.refuseX c stDENIED 0
  else if s.admitDenied k u then s.refuse c stDENIED 0
  else if s.inService k u then (if k = 1 then s.readmitLink u else s).done c stOK 0 0
  else (((s.admitUnit k u).count 0x8600 0x10 1).raise 0x6041 0 0 [k, u]).done c stOK 0 1

/-- ADMIT. -/
def execAdmit (fn sq : Nat) (d : Desc) (s : State) : Host.Outcome State Fault Refusal :=
  .next (s.take 0x61 fn sq d false (fun c p => s.admitCmd c p d))

/-! ## FORGO (R257, R275) -/

/-- A poisoned page in T1 in the place of unreadable page `pid` of session `i`; its object counts as poisoned from now on. -/
def State.forgoPage (s : State) (c : Cmd) (i l pidx pid : Nat) (g : Page) : State :=
  let h := (s.ent i).shalf
  match (if s.own.dev.has i then none else s.noRoom g.part h g.charge) with
  | some q => s.refuse c stNOSPACE (if q then dQUOTA else 0)
  | none =>
    let s1 := s.placePage i l pidx pid g true
    if ((s1.pages.pages.get? pid).map (·.inT1)).getD false then
      ((s1.updPage pid (fun x => { x with lowChk := .poisoned })).developed i).doneSess c i stOK 0 0
    else s.refuse c stNOSPACE 0

/-- FORGO. -/
def State.forgoCmd (s : State) (c : Cmd) (i : Nat) (d : Desc) : State :=
  let l := dFld d 135 128
  let x := dFld d 155 136
  match s.pidAt i l x with
  | none => s.refuse c stBAD dRANGE
  | some pid =>
    match s.pages.pages.get? pid with
    | none => s.refuse c stBAD dRANGE
    | some g => if g.inT1 ∨ g.lowChk ≠ .failed then s.refuse c stBAD dRANGE else s.forgoPage c i l x pid g

/-- FORGO: accepted from partition 0 also. -/
def execForgo (fn sq : Nat) (d : Desc) (s : State) : Host.Outcome State Fault Refusal :=
  .next (s.takeSessC 0x63 fn sq d false true false false false (fun c _ i => s.forgoCmd c i d))

/-! ## Counters (R274) and daily counts (R88, R273) -/

/-- The counters of index `idx` whose bits are set in `m` read 0, their SAT bits clear. -/
def Counters.clear (c : Counters) (idx m : Nat) : Counters :=
  let hit := fun (k : Nat) => k / 256 == idx && decide (1 ≤ k % 256) && decide (k % 256 ≤ 64) && bitN m (k % 256 - 1)
  { c with val := c.val.filter (fun kv => !hit kv.1), sat := c.sat.filter (fun k => !hit k) }

/-- COUNTER_CLEAR. -/
def execCounterClear (o : Origin) (idx : Nat) (v : List Byte) (s : State) : Host.Outcome State Fault Refusal :=
  .next (s.writeRow o idx 0xF1 v (fun s => .ok { s with ctr := s.ctr.clear idx (leNat v) }))

/-- The day of the device calendar. -/
def State.today (s : State) : Nat := s.clk.cal.now / 86400000

/-- A new day of the device calendar (R88, R273): the daily counts start again, and their events may be raised again. -/
def State.dayRoll (s : State) : State :=
  if s.today = s.tiers.day then s
  else
    let s1 : State := { s with
      tiers := { s.tiers with day := s.today, t2day := { w := 0, e := 0 }, t2rep := { w := 0, e := 0 } }
      integ := { s.integ with daily := [] } }
    s1.unlatch 0x3008 0

/-- DAILY_COUNT_REPORT (R88): the half's count reaches the lead, not across a bridge that is down; at the budget event 0x3008
once a day. -/
def State.dailyReport (s : State) (h : Nat) : State :=
  let s0 := s.dayRoll
  if s0.boot.bridge ∧ s0.clk.lead.half ≠ some h then s0
  else
    let s1 : State := { s0 with tiers := { s0.tiers with t2rep := s0.tiers.t2rep.set h (s0.tiers.t2day.get h) } }
    if s1.withinBudget then s1
    else s1.raiseOnce 0x3008 0 0 h [(s1.tiers.t2rep.w + s1.tiers.t2rep.e) / 2 ^ 30]

/-- DAILY_COUNT_REPORT. -/
def execDailyCountReport (half : Nat) (s : State) : Host.Outcome State Fault Refusal := .next (s.dailyReport (half % 2))

end Sys2Proof.Machine
end

