-- ==== Sys2Proof/Machine/Assist.lean ====
section
/-!
DEFINITION. ASSIST_REPLY (R198): the host's answers to tokenize, detokenize, grammar mask, selection, ranking and requantize
exchanges.
-/

namespace Sys2Proof.Machine

/-- Exchange `x` is over. -/
def State.dropExch (s : State) (x : Exch) : State :=
  { s with sess := { s.sess with exs := s.sess.exs.filter (fun y => !(y.xid == x.xid && y.handle == x.handle && y.sent)) } }

/-- The lane that the request of slot `k` is in. -/
def State.slotLane (s : State) (k : Nat) : Nat := ((s.sess.slots.get? k).map (·.lane)).getD 0

/-- The list that the mask or the selection of slot `k` works on. -/
def State.selList (s : State) (k : Nat) : List Cand := ((s.sess.selIn.get? k).map (·.list)).getD []

/-- The U32 values of a reply. -/
def words32 (b : List Byte) : List Nat := elems 4 (b.length / 4) b

/-- The length a reply must have (R198, R213, R232, R251); none when any multiple of 4 or any length will do. -/
def State.replyLen (s : State) (x : Exch) : Option Nat :=
  match x.func with
  | 3 => some (cdiv (if x.n = 0xFFFFFFFF then ((s.profOf (hIdx x.handle)).map (·.vocab)).getD 0 else x.n) 8)
  | 4 => some 4
  | 5 => some (4 * min ((s.vec.queries.get? x.ref).map VQuery.k |>.getD 0) x.n)
  | 6 => some (x.n * embRowBytes (s.embF x.ref 5) (s.embF x.ref 4))
  | _ => none

/-- Is the length of the reply wrong? -/
def State.replyShort (s : State) (x : Exch) (n : Nat) : Bool :=
  match s.replyLen x with
  | some k => n != k
  | none => x.func == 1 && n % 4 != 0

/-- Does the reply hold a value out of range? -/
def State.replyRange (s : State) (x : Exch) (b : List Byte) : Bool :=
  match x.func with
  | 1 => (words32 b).any (fun i => decide (s.idLimit (hIdx x.handle) ≤ i))
  | 4 => !(s.selList x.slot).any (fun c => c.id == leAt b 0 4)
  | 5 => (words32 b).any (fun i => decide (x.n ≤ i)) || (words32 b).eraseDups.length != (words32 b).length
  | 6 =>
    let n := embRowBytes (s.embF x.ref 5) (s.embF x.ref 4)
    (List.range x.n).any (fun i => !ffinite (leAt b (i * n) 4) || !ffinite (leAt b (i * n + 4) 4))
  | _ => false

/-- Rows `b` of `n` bytes written to rows `l` of table `t`, or the first row that a full side buffer refuses. -/
def State.putRows (s : State) (t n : Nat) (b : List Byte) : List Nat → Except Nat State
  | [] => .ok s
  | i :: r =>
    match s.setNow t i (b.take n) with
    | some s1 => State.putRows s1 t n (b.drop n) r
    | none => .error i

/-- An exchange of a REQUANT is answered (R232). With the last answer the rows of all are written, or none where a side buffer is full, as the
command is then refused whole (R225; DESIGN CHOICE log 71), and the command completes. -/
def State.requantReply (s : State) (x : Exch) (b : List Byte) : State :=
  match s.emb.reqs.find? (fun q => q.open_.any (fun o => o.1 == x.xid)) with
  | none => s
  | some q =>
    let first := ((q.open_.find? (fun o => o.1 == x.xid)).map (·.2.1)).getD 0
    let rest := s.emb.reqs.erase q
    let q1 : Requant := { q with open_ := q.open_.filter (fun o => o.1 != x.xid), got := q.got.put first b }
    let n := embRowBytes (s.embF q.dst 5) (s.embF q.dst 4)
    let s0 : State := { s with emb := { s.emb with reqs := rest } }
    if !q1.open_.isEmpty then { s with emb := { s.emb with reqs := rest ++ [q1] } }
    else if !s.embLoaded q.dst then s0.embDone q.cmd 7 0 0
    else
      let f := (q1.got.head?.map (·.1)).getD 0
      match s0.putRows q.dst n (q1.got.flatMap (·.2)) ((List.range q.count).map (· + f)) with
      | .ok s1 => s1.embDone q.cmd 0 0 q.count
      | .error i => (s0.sideFull q.dst (s0.embPort q.dst i)).embDone q.cmd 4 (i - f) 0

/-- The answer `b` to exchange `x` applied. -/
def State.applyReply (s : State) (x : Exch) (b : List Byte) : State :=
  match x.func with
  | 1 => (s.updReq x.slot (fun r => { r with ids := r.ids ++ words32 b })).promptReady x.slot
  | 2 =>
    let s1 := s.updReq x.slot (fun r => { r with
      detok := r.detok.map (fun w => if w.xid = x.xid ∧ w.reply = none then { w with reply := some b } else w) })
    s1.detokDrain x.slot false (((s1.sess.slots.get? x.slot).map (·.detok.length)).getD 0 + 1)
  | 3 =>
    let l := s.selList x.slot
    let keep := if x.n = 0xFFFFFFFF then l.filter (fun c => bitN (leNat b) c.id)
      else ((byId l).mapIdx (fun i c => (i, c))).filter (fun ic => bitN (leNat b) ic.1) |>.map (·.2)
    s.afterMask x.half (s.slotLane x.slot) x.slot keep
  | 4 => s.pickToken x.half (s.slotLane x.slot) x.slot (leAt b 0 4)
  | 5 => s.vecReply x.ref (words32 b)
  | _ => s.requantReply x b

/-- ASSIST_REPLY on an exchange of partition `p` (R198). -/
def State.replyCmd (s : State) (c : Cmd) (p : Nat) (d : Desc) (reply : Option (List Byte)) : State :=
  let len := dFld d 223 192
  match s.sess.exs.find? (fun x => x.xid == dFld d 255 224 && x.handle == dHnd d && x.part == p && x.sent) with
  | none =>
    let s1 := s.count 0x8500 9 1
    s1.send c (s1.seenComp c stOK 0 0)
  | some x =>
    if s.replyShort x len then s.refuse c stBAD dRANGE
    else
      match reply with
      | none => s.refuse c stBAD dPARITY
      | some b0 =>
        let b := fitBytes len b0
        if crc32c b ≠ dFld d 287 256 then s.refuse c stCHECK 0
        else if s.replyRange x b then s.refuse c stBAD dRANGE
        else
          let s1 := (s.dropExch x).applyReply x b
          s1.send c (s1.seenComp c stOK 0 1)

/-- ASSIST_REPLY: the handle is the exchange's session, 0 for one of no session. -/
def execAssistReply (fn sq : Nat) (d : Desc) (reply : Option (List Byte)) (s : State) : Host.Outcome State Fault Refusal :=
  let s1 := s.dmaFrom fn reply
  .next (
    if dHnd d = 0 then s1.take 0x32 fn sq d false (fun c p => s1.replyCmd c p d reply)
    else s1.takeSessC 0x32 fn sq d false false false false false (fun c p _ => s1.replyCmd c p d reply))

end Sys2Proof.Machine
end

