-- ==== Sys2Proof/Machine/Margin.lean ====
section
/-!
DEFINITION. Islands, their lifetime counters and margin plans (Table 19-1, R411 to R415): the kind and clock of an island, its
margin curve, the re-plan, the stages of a quiesce, and the stress of a second.
-/

namespace Sys2Proof.Machine

/-! ## Islands (Table 19-1) -/

/-- The kind of the `k`-th island of a half's 47. -/
def halfKind (k : Nat) : Nat :=
  if k < 8 then 0 else if k < 24 then 1 else if k < 28 then 2 else if k < 40 then 3 else k - 36

/-- The kind of island `i`. -/
def islandKind (i : Nat) : Nat :=
  if i < 47 then halfKind i else if i < 94 then halfKind (i - 47) else i - 83

/-- The clock of an island kind, MHz. -/
def kindClock (k : Nat) : Nat :=
  nth [3600, 2000, 1200, 1750, 2400, 2000, 2400, 2000, 2000, 2000, 2000, 800, 1000, 250, 100, 25, 500] k 0

/-- Is kind `k` paced under R454 and R455? -/
def kindPaced (k : Nat) : Bool := k == 0 || k == 2 || k == 7 || k == 8

/-- Island `i` before anything was measured: its applied voltage is the factory's (log 10). -/
def Island.blank (i : Nat) : Island :=
  { slack := 0, ring := 0, temp := 0, volt := Config.fused 5 i, plan := 0, vp := 0, seq := 0, active := 0, stress := 0, frac := 0
    hottest := 0, duty := 100, low := false }

/-- Island `i`. -/
def State.island (s : State) (i : Nat) : Island := s.clk.islands.getD i (Island.blank i)

/-- `s` with island `i` set to `x`. -/
def State.setIsland (s : State) (i : Nat) (x : Island) : State :=
  { s with clk := { s.clk with islands := s.clk.islands.put i x } }

/-! ## Margin curves (R412, Table 19-3) -/

/-- The points of a curve's bytes: frequency, lowest voltage and gain. -/
def curvePoints (b : List Byte) : List (Nat × Nat × Nat) :=
  (List.range (leAt b 12 1)).map (fun k => (leAt b (22 + 8 * k) 2, leAt b (20 + 8 * k) 2, leAt b (18 + 8 * k) 2))

/-- Do the frequencies strictly increase? -/
def risingFreq : List (Nat × Nat × Nat) → Bool
  | a :: b :: t => decide (a.1 < b.1) && risingFreq (b :: t)
  | _ => true

/-- May these bytes be the curve of kind `k` (R412)? -/
def marginCurveOk (k : Nat) (b : List Byte) : Bool :=
  let n := leAt b 12 1
  let ps := curvePoints b
  decide (16 ≤ b.length) && b.length == 16 + 8 * n && leAt b 14 2 == 0x4D43 && leAt b 13 1 == 1 && decide (1 ≤ n) && decide (n ≤ 16)
    && leAt b 11 1 == k && leAt b 4 7 == 0 && (List.range n).all (fun i => leAt b (16 + 8 * i) 2 == 0)
    && ps.all (fun p => decide (1 ≤ p.2.2) && decide (500 ≤ p.2.1) && decide (p.2.1 ≤ 1100))
    && risingFreq ps && ps.any (fun p => p.1 == kindClock k)
    && crc32c (leBytes 4 0 ++ b.drop 4) == leAt b 0 4

/-- The lowest voltage and the gain of kind `k`'s curve in force at its clock. -/
def State.curveAt (s : State) (k : Nat) : Nat × Nat :=
  (((curvePoints (s.dbytes (0x9050 + k) 1)).find? (fun p => p.1 == kindClock k)).map (fun p => (p.2.1, p.2.2))).getD (0, 0)

/-! ## Re-plans (R413, R415) -/

/-- Δ of R413: gain × (sr − s) ÷ 1,000 mV, rounded up to a multiple of 5 mV. -/
def planDelta (gain : Nat) (sr s : Nat) : Int := -(((gain : Int) * ((s : Int) - sr)) / 5000) * 5

/-- Vp of R413. -/
def planVolt (vmin gain volt sr slack : Nat) : Nat := (max (vmin : Int) ((volt : Int) + planDelta gain sr slack)).toNat

/-- The distance of two voltages. -/
def voltGap (a b : Nat) : Nat := (a - b) + (b - a)

/-- No plan. -/
def Island.noPlan (x : Island) : Island := { x with plan := 0, vp := 0, seq := 0 }

/-- Re-plan of island `i` (R413, Table 19-4). -/
def State.replan (s0 : State) (i : Nat) : State :=
  let s := s0.count 0x8900 6 1
  let x := s.island i
  let k := islandKind i
  let c := s.curveAt k
  let vp := planVolt c.1 c.2 x.volt (s.dval (0x9050 + k) 5) x.slack
  if vp = x.volt then s.setIsland i x.noPlan
  else
    let seq := (s.clk.planSeq + 1) % 2 ^ 32
    let inside := decide (s.dval (0x9050 + k) 2 ≤ vp) && decide (vp ≤ s.dval (0x9050 + k) 3)
      && decide (voltGap vp x.volt ≤ s.dval (0x9050 + k) 4)
    let y : Island := { x with plan := if inside then 1 else 2, vp, seq }
    let s1 : State := { s with clk := { s.clk with islands := s.clk.islands.put i y, planSeq := seq } }
    if inside then s1.raise 0x9020 0 0 [i, seq, vp] else (s1.count 0x8900 8 1).raise 0x9021 0 0 [i, seq, vp]

/-- Re-plan of every island that satisfies `f`. -/
def State.replanAll (s : State) (f : Nat → Bool) : State :=
  ((List.range 100).filter f).foldl (fun t i => t.replan i) s

/-! ## Stages (R414, R415) -/

/-- The voltage after one stage: at most 10 mV toward Vp. -/
def stageVolt (v vp : Nat) : Nat := if v < vp then min vp (v + 10) else max vp (v - 10)

/-- The island after one stage: its plan is gone once Vp is reached. -/
def Island.stage (x : Island) : Island :=
  let v := stageVolt x.volt x.vp
  let y : Island := { x with volt := v }
  if v = x.vp then y.noPlan else y

/-- One stage of island `i`'s plan applied: event 0x9022, counted, the voltage persisted. -/
def State.stageOf (s : State) (i : Nat) : State :=
  let y := (s.island i).stage
  (((s.setIsland i y).dsetN (0x9080 + i) 5 y.volt).count 0x8900 7 1).raise 0x9022 0 0 [i, y.volt]

/-- A quiesce: a stage of every plan PENDING or APPROVED is applied (R414). -/
def State.quiesce (s : State) : State :=
  (s.clk.islands.filter (fun x => x.2.plan == 1 || x.2.plan == 3)).foldl (fun t x => t.stageOf x.1) s

/-- The slack of island `i` read (R414): event 0x9023 as it falls below the floor, and then one stage at once of a PENDING plan that
raises the voltage. -/
def State.slackRead (s : State) (i slack ring : Nat) : State :=
  let x := s.island i
  let low := decide (slack < s.dval 0x9040 3)
  let s1 := s.setIsland i { x with slack := slack % 65536, ring := ring % 2 ^ 32, low }
  if low && !x.low then
    let s2 := s1.raise 0x9023 0 0 [i, slack]
    if x.plan = 1 ∧ x.volt < x.vp then s2.stageOf i else s2
  else s1

/-! ## Lifetime (R411) -/

/-- ln 2 in units of 2⁻³²⁰. -/
def ln2Fx : Nat := 1480553391661173448385607439722553250922680800745876974795605978609098082859138712941075737848984

/-- 2^(-r/4096) in fixed point, for a rational r/4096 given as `num / den` below 1. -/
def pow2NegFx (num den : Nat) : Nat := expNegFx (num * ln2Fx) (den * 2 ^ exBits)

/-- 2^x of an FP32 x, rounded once to FP32 (R411). -/
def exp2Fp (x : Nat) : Nat :=
  let d := fp32.dec x
  let num : Int := (if d.neg then -1 else 1) * ((d.m * pow2n d.e : Nat) : Int)
  let den := pow2n (-d.e)
  let up : Int := -((-num) / (den : Int))
  let rest := (up * den - num).toNat
  let v := pow2NegFx rest den
  if 300 < up then 0x7F7FFFFF else if up < -300 then 0
  else fp32.enc false (v * pow2n up) (2 ^ exBits * pow2n (-up))

/-- The stress weight of a second at temperature `t` in 0.01 °C and voltage `v` mV against `vnom` (R411), in FP32. -/
def stressWeight (t : Int) (v vnom : Nat) : Nat :=
  let a := fdiv (fsub (fp32.enc (decide (t < 0)) t.natAbs 100) (fofNat 85)) (fofNat 10)
  let b := fdiv (fofInt ((v : Int) - vnom)) (fofNat 50)
  fmul (exp2Fp a) (exp2Fp b)

/-- An FP32 value ≥ 0 parted in its whole part and its fraction. -/
def fsplit (x : Nat) : Nat × Nat :=
  let d := fp32.dec x
  let n := d.m * pow2n d.e / pow2n (-d.e)
  (n, fsub x (fofNat n))

/-- The factory voltage of kind `k`: the first point of its factory curve. -/
def factoryVolt (k : Nat) : Nat := leNat ((List.range 2).map (fun j => Config.factoryCurveByte k (20 + j)))

/-- A value that saturates at the largest of `w` bytes (R8). -/
def satN (w n : Nat) : Nat := min n (2 ^ (8 * w) - 1)

/-- A second of island `i` at temperature `t`. -/
def Island.second (i : Nat) (x : Island) (t : Int) : Island :=
  let w := fadd x.frac (stressWeight t x.volt (factoryVolt (islandKind i)))
  let p := fsplit w
  { x with
    temp := t, active := satN 8 (x.active + 1), stress := satN 8 (x.stress + p.1), frac := p.2, hottest := max x.hottest t }

/-- A thermal cycle's turn: a rise of 40 °C from the lowest since the last fall counts, and the next one waits for a fall of as much
(log 54). -/
def Clocks.thermalTurn (c : Clocks) (t : Int) : Clocks :=
  match c.base with
  | none => { c with base := some t }
  | some b =>
    if c.falling then
      if t ≤ b - 4000 then { c with base := some t, falling := false } else { c with base := some (max b t) }
    else if b + 4000 ≤ t then { c with base := some t, falling := true, thermal := satN 4 (c.thermal + 1) }
    else { c with base := some (min b t) }

/-- The lifetime counters as (entry and subindex, bytes, value). -/
def Clocks.lifeCounters (c : Clocks) : List (Nat × Nat × Nat) :=
  [(dkey 0x9070 1, 8, c.onSeconds), (dkey 0x9070 2, 4, c.cycles), (dkey 0x9070 3, 4, c.thermal), (dkey 0x9070 4, 8, c.hotSeconds)]
    ++ c.islands.flatMap (fun x => [(dkey (0x9080 + x.1) 0xA, 8, x.2.active), (dkey (0x9080 + x.1) 0xB, 8, x.2.stress)])

/-- The lifetime counters that stand at their maximum have their SAT bit set, with event 0x8001 once (R8, R411). -/
def State.lifeTold (s : State) : State :=
  (s.clk.lifeCounters.filter (fun x => x.2.2 == 2 ^ (8 * x.2.1) - 1 && !s.ctr.sat.contains x.1)).foldl
    (fun t x => ({ t with ctr := { t.ctr with sat := x.1 :: t.ctr.sat } }).raise 0x8001 0 0 [x.1]) s

/-- LIFETIME_UPDATE (R411): a second of power-on, of every island, and above 105 °C. -/
def State.lifetime (s : State) (temps : List Int) : State :=
  let isl := (List.range 100).map (fun i => (i, (s.island i).second i ((temps[i]?).getD (s.island i).temp)))
  let hot := isl.foldl (fun m x => max m x.2.temp) ((isl.head?.map (·.2.temp)).getD 0)
  let c1 := s.clk.thermalTurn hot
  State.lifeTold { s with clk := { c1 with
    islands := isl, onSeconds := satN 8 (s.clk.onSeconds + 1), hotSeconds := satN 8 (s.clk.hotSeconds + (if 10500 < hot then 1 else 0)) } }

/-- Value `n` of entry `idx`.`sub` put into the persisted store. -/
def Dict.persist (d : Dict) (idx sub w n : Nat) : Dict :=
  { d with store := d.store.put (dkey idx sub) (((d.store.get? (dkey idx sub)).map (·.1)).getD 0 + 1, leBytes w n) }

/-- The lifetime counters written to eMRAM (R411). -/
def State.lifeSave (s : State) : State :=
  let c := s.clk
  let d0 := (((s.dict.persist 0x9070 1 8 c.onSeconds).persist 0x9070 2 4 c.cycles).persist 0x9070 3 4 c.thermal).persist 0x9070 4 8
    c.hotSeconds
  { s with dict := c.islands.foldl (fun d x =>
      ((d.persist (0x9080 + x.1) 0xA 8 x.2.active).persist (0x9080 + x.1) 0xB 8 x.2.stress).persist (0x9080 + x.1) 0xC 4
        (toW 32 x.2.hottest)) d0 }

/-- LIFETIME_UPDATE. -/
def execLifetimeUpdate (temps : List Int) (s : State) : Host.Outcome State Fault Refusal := .next (s.lifetime temps)

/-- LIFETIME_PERSIST. -/
def execLifetimePersist (s : State) : Host.Outcome State Fault Refusal := .next s.lifeSave

/-- REPLAN_PERIOD (R413). -/
def execReplanPeriod (s : State) : Host.Outcome State Fault Refusal := .next (s.replanAll (fun _ => true))

/-- REPLAN_NOW (R413): 1 written to 0x9040.02. -/
def execReplanNow (o : Origin) (v : List Byte) (s : State) : Host.Outcome State Fault Refusal :=
  .next (s.writeRow o 0x9040 2 v (fun t => .ok (t.replanAll (fun _ => true))))

/-- The rules of a write of subindex `sub` of kind `k`'s entry (R412, Table 19-7): the curve is validated, and the envelope's low
lies not above its high. -/
def State.marginRule (s : State) (k sub : Nat) (v : List Byte) : Option (Nat × Nat) :=
  if sub = 1 ∧ marginCurveOk k v = false then some (stTABLE, 0)
  else if sub = 2 ∧ s.dval (0x9050 + k) 3 < leNat v then some wRefused
  else if sub = 3 ∧ leNat v < s.dval (0x9050 + k) 2 then some wRefused
  else none

/-- A write of subindex `sub` of kind `k`'s entry: a curve or an envelope starts a re-plan of the kind. -/
def State.marginWrite (s : State) (k sub : Nat) (v : List Byte) : Except (Nat × Nat) State :=
  match s.marginRule k sub v with
  | some e => .error e
  | none =>
    let s1 := s.dset (0x9050 + k) sub v
    .ok (if sub = 5 then s1 else s1.replanAll (fun i => islandKind i == k))

/-- MARGIN_CURVE_WRITE (R412). -/
def execMarginCurveWrite (o : Origin) (kind sub : Nat) (v : List Byte) (s : State) : Host.Outcome State Fault Refusal :=
  if 17 ≤ kind then .fault (.noSuchUnit "island kind" kind)
  else .next (s.writeRow o (0x9050 + kind) sub v (fun t => t.marginWrite kind sub v))

/-- SLACK_READ (R414). -/
def execSlackRead (island slack ring : Nat) (s : State) : Host.Outcome State Fault Refusal :=
  if 100 ≤ island then .fault (.noSuchUnit "island" island) else .next (s.slackRead island slack ring)

/-- A write of `n` to subindex 0x09 of island `i` (R415). -/
def State.planWrite (s : State) (i n : Nat) : Except (Nat × Nat) State :=
  let x := s.island i
  if x.plan = 2 ∧ n = x.seq then .ok (s.setIsland i { x with plan := 3 })
  else if x.plan = 3 ∧ n = x.seq then .ok s
  else if (x.plan = 2 ∨ x.plan = 3) ∧ n = 0 then .ok (s.setIsland i x.noPlan)
  else .error wRefused

/-- PLAN_APPROVE (R415). -/
def execPlanApprove (o : Origin) (island : Nat) (v : List Byte) (s : State) : Host.Outcome State Fault Refusal :=
  if 100 ≤ island then .fault (.noSuchUnit "island" island)
  else .next (s.writeRow o (0x9080 + island) 9 v (fun t => t.planWrite island (leNat v)))

end Sys2Proof.Machine
end

