-- ==== Sys2Proof/Machine/Checkpoint.lean ====
section
/-!
DEFINITION. Checkpoint and restore (ch 13): the slots, the image taken at the cut, the Negative and the double-copy method up to
the commit, and the restore of an image.
-/

namespace Sys2Proof.Machine

/-! ## The bath becomes quiet (R148, R414) -/

/-- The bath becomes quiet: 0x2200.05 reads 2, counted, event 0x2043. -/
def State.bathQuiet (s : State) : State :=
  let b := s.sched.bath
  if b.level = 0 ∨ b.quiet ∨ !s.bathRests then s
  else
    let s1 : State := { s with sched := { s.sched with bath := { b with quiet := true } } }
    let s2 := (s1.count 0x8220 9 1).raise 0x2043 0 0 [b.mask, b.level]
    if b.mask = 0xFF then s2.quiesce else s2

/-- STOP_BATH_QUIET (R148). -/
def execStopBathQuiet (s : State) : Host.Outcome State Fault Refusal := .next s.bathQuiet

/-! ## Slots (R278, R279) -/

/-- The granules of slot `k` (0 A, 1 B). -/
def State.slotLen (s : State) (k : Nat) : Nat := s.dval 0x3200 (2 + 2 * k)

/-- The base address of slot `k`. -/
def State.slotBase (s : State) (k : Nat) : Nat := s.dval 0x3200 (1 + 2 * k)

/-- Do the two slots overlap? -/
def State.slotsMeet (s : State) : Bool :=
  let a := granOf (s.slotBase 0)
  let b := granOf (s.slotBase 1)
  decide (0 < s.slotLen 0) && decide (0 < s.slotLen 1) && decide (a < b + s.slotLen 1) && decide (b < a + s.slotLen 0)

/-- Is slot `k` usable (R278)? -/
def State.slotUsable (s : State) (k : Nat) : Bool :=
  decide (0 < s.slotLen k) && granPart (granOf (s.slotBase k)) == 0 && granPart (granOf (s.slotBase k) + s.slotLen k - 1) == 0 &&
    (s.slotGrans k).length == s.slotLen k && (s.slotGrans k).all (fun g => g.2.pin && decide (2 ≤ g.2.tier)) && !s.slotsMeet

/-- The current slot: 0 none, 1 A, 2 B (R279). -/
def State.curSlot (s : State) : Nat :=
  match s.ckpt.slots.get? 1, s.ckpt.slots.get? 2 with
  | none, none => 0
  | some _, none => 1
  | none, some _ => 2
  | some a, some b => if b.seq < a.seq then 1 else 2

/-- The seq of the current slot's image, 0 when there is none. -/
def State.curSeq (s : State) : Nat := ((s.ckpt.slots.get? s.curSlot).map (·.seq)).getD 0

/-! ## The image (R277, R281, R282) -/

/-- Is a persisted value at key `k` in an image (Table 13-1)? -/
def inSettings (k : Nat) : Bool :=
  let i := k / 256
  decide (i < 0x10000) && !(decide (i ≤ 0x10FF)) && !(decide (0x3200 ≤ i) && decide (i ≤ 0x32FF)) &&
    !(decide (0x7000 ≤ i) && decide (i ≤ 0x70FF)) && !(decide (0xF000 ≤ i) && decide (i ≤ 0xF0FF))

/-- The partition whose SETTINGS segment holds the value at key `k`: the owner of its table, else 0. -/
def State.settingPart (s : State) (k : Nat) : Nat :=
  let i := k / 256
  if 0x5040 ≤ i ∧ i < 0x50C0 then s.dval i 4
  else if 0x5240 ≤ i ∧ i < 0x5280 then s.dval i 0x11
  else if 0x5340 ≤ i ∧ i < 0x5380 then s.dval i 0xC
  else 0

/-- A session's state as an image holds it: one that is the source of a move stands as before it (Table 13-7). -/
def State.cutEntry (s : State) (i : Nat) (e : DirEntry) : DirEntry :=
  match s.own.moves.get? i with
  | some m => if m.started ∧ e.state = .moving then { e with state := m.before } else e
  | none => e

/-- The records of a PAGES segment of session `i`, and their bytes: an object follows the first record of a page. -/
def State.pageRecs (s : State) (i : Nat) : Nat × Nat :=
  (s.refsOf i).foldl (fun a r =>
    let first := match r.2.2 with
      | .own _ => true
      | .shared rid => (s.sharers rid).head? == some i
    let n := match (s.refPid r.2.2).bind s.pages.pages.get? with
      | some p => if p.low = 0 then 1024 * cdiv (s.pageObject p).length 1024 else 1024 * p.clen
      | none => 0
    (a.1 + 1, a.2 + 32 + (if first then n else 0))) (0, 0)

/-- The segments of the state at the cut, by kind, half and partition, those without a record left out (R281). -/
def State.segments (s : State) : List Seg :=
  let sum := fun (l : List Nat) => l.foldl (· + ·) 0
  let set := s.dict.store.filter (fun kv => inSettings kv.1)
  let parts := List.range 64
  let hp := [0, 1].flatMap (fun h => parts.map (fun p => (h, p)))
  let ofPart := fun (k : Nat) (f : Nat → Nat × Nat) => parts.map (fun p => ({ kind := k, half := 0, part := p, len := (f p).2, nrec := (f p).1 } : Seg))
  let ofBoth := fun (k : Nat) (f : Nat → Nat → Nat × Nat) =>
    hp.map (fun x => ({ kind := k, half := x.1, part := x.2, len := (f x.1 x.2).2, nrec := (f x.1 x.2).1 } : Seg))
  let dir := fun (h p : Nat) => s.sess.dir.filter (fun e => idxHalf e.1 == h && e.2.part == p && e.2.state != .free)
  let reqs := fun (h p : Nat) => s.sess.slots.filter (fun r => r.2.half == h && r.2.part == p)
  let grans := fun (p : Nat) => s.tiers.grans.filter (fun g => granPart g.1 == p && !s.inSlot 0 g.1 && !s.inSlot 1 g.1)
  let all :=
    ofPart 1 (fun p => let l := set.filter (fun kv => s.settingPart kv.1 == p); (l.length, sum (l.map (fun kv => 9 + kv.2.2.length)))) ++
    ofBoth 2 (fun h p => ((dir h p).length, 72 * (dir h p).length)) ++
    ofBoth 3 (fun h p => let n := ((dir h p).filter (fun e => s.own.links.has e.1)).length; (n, 24 * n)) ++
    ofBoth 4 (fun h p => let l := (dir h p).map (fun e => s.pageRecs e.1); (sum (l.map (·.1)), sum (l.map (·.2)))) ++
    ofBoth 5 (fun h p => ((reqs h p).length, sum ((reqs h p).map (fun r => 256 + 8 * r.2.counts.length)))) ++
    [0, 1].map (fun h => ({ kind := 6, half := h, part := 0, len := 8 * 64, nrec := 8 } : Seg)) ++
    ofPart 7 (fun p => ((grans p).length, (grans p).length * (24 + 2097152 + 2048))) ++
    ofBoth 8 (fun h p => let n := (s.emb.tabs.filter (fun t => t.2.home == h && s.embF t.1 0x11 == p)).foldl (fun n t => n + t.2.tags.length) 0
      + (s.vec.idx.filter (fun t => t.2.home == h && s.vecF t.1 0xC == p)).length + (if h = 0 then (s.sess.bufs.filter (fun b => b.part == p)).length else 0)
      (n, 16 * n)) ++
    [({ kind := 9, half := 0, part := 0, len := 16 * (s.host.rings.filter (fun r => r.2.kind != 1)).length
        nrec := (s.host.rings.filter (fun r => r.2.kind != 1)).length } : Seg)]
  all.filter (fun g => g.nrec != 0)

/-- What tells the memory key of partition `p` from any other: its number among those the device made, and the package imported over it
(R372). -/
def State.keyId (s : State) (p : Nat) : List Byte := leBytes 8 (s.sec.memKeys.getD p 0) ++ s.sec.imported.getD p []

/-- Is the memory key of partition `p` the one that `old` names? Whether a package imported since holds that key is free (log 9). -/
def State.sameKey (s : State) (p : Nat) (old : List Byte) : Bool :=
  s.keyId p == old || (s.sec.imported.has p && Config.cryptoOk 11 (s.sec.imported.getD p []) old)

/-- The state captured at the cut (Table 13-1). -/
def State.capture (s : State) (seq method : Nat) : Image :=
  let gs : Tab Granule := (s.tiers.grans.keep (fun g _ => !s.inSlot 0 g && !s.inSlot 1 g)).mapV (fun _ x => { x with mv := none, adds := [] })
  let dir : Tab DirEntry := (s.sess.dir.keep (fun _ e => e.state != .free)).mapV s.cutEntry
  let pgs : Tab Page := s.pages.pages.mapV (fun _ p =>
    { p with st := if p.st = .sealing then .open_ else p.st, rel := none, next := 0
             lowChk := if p.a = 0 ∧ p.b = 0 ∧ p.lowChk = .failed then .poisoned else p.lowChk })
  let pages : Pages := { s.pages with pages := pgs, tables := s.pages.tables.mapV (fun _ t => { t with next := 0 }), resv := [] }
  let emb : Emb := { s.emb with tabs := s.emb.tabs.mapV (fun _ t => { t with sketch := [] }), reqs := [], inputs := [] }
  { seq, method, src := s.self, base := 0, keys := s.sec.memKeys.mapV (fun p _ => s.keyId p), cut := s.nowMs 0, step := 0xB0
    parts := (List.range 64).foldl (fun n p => n + (if s.partOn p then 2 ^ p else 0)) 0
    vals := (s.dict.store.keep (fun k _ => inSettings k)).mapV (fun _ v => v.2)
    dir, links := s.own.links.keep (fun i _ => dir.has i), pages
    slots := s.sess.slots, selIn := s.sess.selIn, bufs := s.sess.bufs, lanes := s.sched.lanes, grans := gs
    mem := s.tiers.mem.filter (fun c => gs.has (c.1 / 2097152)), poison := s.tiers.poison.filter (fun b => gs.has (b / 512)), emb
    holds := (s.vec.idx.map (fun i => (i.1, s.vecF i.1 8)))
    rings := (s.host.rings.keep (fun _ r => r.kind != 1)).mapV (fun _ r => r.posted)
    waits := (s.sess.exs.filter (fun x => x.func == 1)).map (·.slot), segs := s.segments }

/-- The offsets of the segments: each at a multiple of 1 KiB from 4,096 on (R278, R368). -/
def segOffs : List Seg → Nat → List (Seg × Nat)
  | [], _ => []
  | g :: t, o => (g, o) :: segOffs t (o + 1024 * cdiv g.len 1024)

/-- Where the contact sheet lies: after the segments. -/
def Image.sheetAt (x : Image) : Nat := (x.segs.map (fun g => 1024 * cdiv g.len 1024)).foldl (· + ·) 4096

/-- The bytes of the image: record, segments and sheet. -/
def Image.bytes (x : Image) : Nat := x.sheetAt + 64 + 32 * x.segs.length

/-- csver of a method (Table 13-2). -/
def Image.csver (x : Image) : Nat := if x.method = 1 then 2 else 1

/-- The contact sheet (Table 13-3); the check values cover the segments' plaintext (log 9). -/
def Image.sheet (x : Image) : List Byte :=
  leBytes 64 (0x5348 * 2 ^ 496 + x.csver * 2 ^ 488 + x.segs.length % 2 ^ 16 * 2 ^ 472 + x.step * 2 ^ 456 + x.seq % 2 ^ 64 * 2 ^ 384
    + x.parts % 2 ^ 64 * 2 ^ 320) ++
  (segOffs x.segs 4096).flatMap (fun go =>
    let g := go.1
    let cv := leNat ((Config.crypto 6 (leBytes 8 x.seq) [BitVec.ofNat 8 g.kind, BitVec.ofNat 8 g.half, BitVec.ofNat 8 g.part]).take 4)
    leBytes 32 (g.kind * 2 ^ 248 + g.half * 2 ^ 247 + g.part * 2 ^ 241 + go.2 % 2 ^ 64 * 2 ^ 168 + g.len % 2 ^ 64 * 2 ^ 104
      + g.nrec % 2 ^ 32 * 2 ^ 72 + cv * 2 ^ 8))

/-- The commit record (Table 13-2). -/
def Image.record (x : Image) : List Byte :=
  let n := 0x4353 * 2 ^ 496 + x.csver * 2 ^ 488 + x.method * 2 ^ 480 + x.seq % 2 ^ 64 * 2 ^ 416 + x.cut % 2 ^ 48 * 2 ^ 368
    + x.src % 64 * 2 ^ 362 + x.sheetAt % 2 ^ 64 * 2 ^ 296 + x.sheet.length % 2 ^ 32 * 2 ^ 264 + crc32c x.sheet * 2 ^ 232
  leBytes 64 (n + crc32c (leBytes 64 n))

/-! ## A checkpoint's course (R283 to R287, R293) -/

/-- The bytes at `a` written by the Fixer. -/
def State.fixerWrite (s : State) (a : Nat) (b : List Byte) : State :=
  { s with tiers := { s.tiers with mem := s.tiers.mem.writeN a b } }

/-- Zeros over the commit record of slot `k` (1 A, 2 B): it holds no valid image from now on. -/
def State.zeroSlot (s : State) (k : Nat) : State :=
  let s1 := s.fixerWrite (s.slotBase (k - 1)) (List.replicate 4096 (0 : Byte))
  { s1 with ckpt := { s1.ckpt with slots := s1.ckpt.slots.del k } }

/-- `s` with the open checkpoint `r`. -/
def State.setCkpt (s : State) (r : CkptRun) : State := { s with ckpt := { s.ckpt with run := some r } }

/-- The open checkpoint ends short of its commit (Table 13-6). -/
def State.ckptFails (s : State) (st : Nat) : State :=
  match s.ckpt.run with
  | none => s
  | some r =>
    let s1 : State := { s with ckpt := { s.ckpt with run := none, slots := s.ckpt.slots.del r.target } }
    let s2 := if s1.sched.bath.ckpt then s1.endBath else s1
    let s3 := (s2.count 0x8320 2 1).raise 0x3021 0 0 [r.target, st]
    match r.cmd with
    | some c => s3.refuse c st 0
    | none => s3

/-- Does a granule of slot `k` (1 A, 2 B) lie in an extent whose lease has lapsed? -/
def State.slotLapsed (s : State) (k : Nat) : Bool :=
  (s.slotGrans (k - 1)).any (fun g => (g.2.tier == 3 || g.2.tier == 4) && s.lapsed 0 g.2.handle)

/-- What may end an open checkpoint meanwhile: a lapsed lease of its slot, or three Flopiry stacks lost or excluded (Table 13-6, R86). -/
def State.ckptCheck (s : State) : State :=
  match s.ckpt.run with
  | none => s
  | some r =>
    if s.slotLapsed r.target then s.ckptFails stLEASE
    else if 3 ≤ ((List.range 16).filter (fun f => (s.flash f).cond != 0)).length
        ∧ (s.slotGrans (r.target - 1)).any (fun g => g.2.tier == 2) then s.ckptFails stPOISONED
    else s

/-- EXTENT_LEASE_LAPSE (R101). -/
def execExtentLeaseLapse (part id : Nat) (s : State) : Host.Outcome State Fault Refusal :=
  .next (s.lapseExtent part (id % 128)).ckptCheck

/-- POOL_LEASE_LAPSE (R102): the lender frees the extent; the borrower treats it as a lapsed T3 extent. -/
def execPoolLeaseLapse (lent : Bool) (peer ext : Nat) (s : State) : Host.Outcome State Fault Refusal :=
  .next (if lent then s.freeLent peer ext else (s.borrowLapse peer ext).lapsedDevs.ckptCheck)

/-- FLOPIRY_STACK_LOST (R86). -/
def execFlopiryStackLost (stack : Nat) (s : State) : Host.Outcome State Fault Refusal :=
  if 16 ≤ stack then .fault (.noSuchUnit "flopiry" stack) else .next (s.flashLost stack).ckptCheck

/-- Can a Negative buffer not be reserved on a half? -/
def State.noBuffers (s : State) : Bool :=
  let n := 1024 * s.dval 0x3200 5
  decide (s.roomT1 0 < n) || decide (s.roomT1 1 < n)

/-- The slot that a new checkpoint writes: the one not current, A when neither is valid (R279). -/
def State.nextSlot (s : State) : Nat := if s.curSlot = 1 then 2 else 1

/-- A checkpoint starts, or the status and detail of R293. -/
def State.startCkpt (s : State) (cmd : Option Cmd) (double : Bool) : Except (Nat × Nat) State :=
  let k := s.nextSlot
  if s.ckpt.run.isSome ∨ s.ckpt.restore.isSome ∨ s.sched.bath.level ≠ 0 ∨ s.maint.st = 1 ∨ s.maint.st = 2 then .error (stBAD, dBUSY)
  else if !s.slotUsable (k - 1) ∨ (double ∧ !s.slotUsable (2 - k)) then .error (stBAD, dRANGE)
  else if s.inHold 0 ∨ s.inHold 1 then .error (stHELD, 0)
  else if !double ∧ s.noBuffers then .error (stNOSPACE, 0)
  else
    let r : CkptRun :=
      { phase := 1, cmd, target := k, double, second := false, seq := s.curSeq + 1, zeroed := false, img := none
        drained := { w := false, e := false }, todo := [], buf := { w := 0, e := 0 }, full := { w := false, e := false } }
    .ok ((s.zeroSlot k).setCkpt r)

/-- CKPT. -/
def State.ckptCmd (s : State) (c : Cmd) (p : Nat) (double : Bool) : State :=
  if p ≠ 0 then s.refuseX c stDENIED 0
  else
    match s.startCkpt (some c) double with
    | .error (st, dt) => s.refuse c st dt
    | .ok s1 => s1

/-- CKPT (R283): DOUBLE selects the double-copy method. -/
def execCkpt (fn sq : Nat) (d : Desc) (s : State) : Host.Outcome State Fault Refusal :=
  .next (s.take 0x70 fn sq d false (fun c p => s.ckptCmd c p (dFlag d 24)))

/-- CKPT_DOUBLE (R287). -/
def execCkptDouble (fn sq : Nat) (d : Desc) (s : State) : Host.Outcome State Fault Refusal :=
  .next (s.take 0x70 fn sq d false (fun c p => s.ckptCmd c p (dFlag d 24)))

/-- The zeros over the target's record are durable: the buffers are reserved and the bath starts (R283); the second image of
the double-copy method goes on to its copy. -/
def State.zeroDurable (s : State) : State :=
  match s.ckpt.run with
  | none => s
  | some r =>
    if r.zeroed then s
    else if r.img.isSome then s.setCkpt { r with zeroed := true }
    else if !r.double ∧ s.noBuffers then s.ckptFails stNOSPACE
    else if s.sched.bath.level ≠ 0 then s.ckptFails stCANCELLED
    else (s.setCkpt { r with zeroed := true }).setBath (if r.double then 2 else 1) 0xFF true

/-- CKPT_ZERO_DURABLE (R283). -/
def execCkptZeroDurable (s : State) : Host.Outcome State Fault Refusal := .next s.zeroDurable

/-- The cut is taken while the bath is quiet and the bridge up: the state is captured, copy-on-write is armed over every object
it holds, and the bath of a Negative ends (R277, R283). -/
def State.takeCut (s : State) : State :=
  match s.ckpt.run with
  | none => s
  | some r =>
    if r.phase ≠ 1 ∨ !r.zeroed ∨ !s.sched.bath.quiet ∨ s.boot.bridge then s
    else
      let x := s.capture r.seq (if r.double then 2 else 1)
      let todo := if r.double then [] else x.pages.pages.map (·.1) ++ x.grans.map (fun g => granObj g.1)
      let s1 := s.setCkpt { r with phase := 2, img := some x, todo }
      if r.double then s1 else s1.endBath

/-- CKPT_CUT. -/
def execCkptCut (s : State) : Host.Outcome State Fault Refusal := .next s.takeCut

/-- CKPT_QUIESCE_TIMEOUT: the bath has not become quiet within 0x3200.09 ms (R283). -/
def execCkptQuiesceTimeout (s : State) : Host.Outcome State Fault Refusal :=
  .next (
    match s.ckpt.run with
    | some r => if r.phase = 1 ∧ r.zeroed ∧ !s.sched.bath.quiet then s.ckptFails stCANCELLED else s
    | none => s)

/-- Bytes written to a slot in T2 count for the day, with their parity (R285, R83). -/
def State.slotWritten (s : State) (k n : Nat) : State :=
  if (s.slotGrans (k - 1)).any (fun g => g.2.tier == 2) then
    { s with tiers := { s.tiers with t2day := s.tiers.t2day.upd 0 (· + cdiv (8 * n) 7) } }
  else s

/-- The objects of half `h` are drained; with both halves' the contact sheet is written. East waits for the bridge (R286). -/
def State.drained (s : State) (h : Nat) : State :=
  match s.ckpt.run with
  | none => s
  | some r =>
    match r.img with
    | none => s
    | some x =>
      if r.phase ≠ 2 ∨ !r.zeroed ∨ (h = 1 ∧ s.boot.bridge) then s
      else
        let ofHalf := fun (o : Nat) => if o < 2 ^ 64 then ((s.pages.pages.get? o).map (·.half)).getD h == h else o % 2 == h
        let r1 : CkptRun := { r with
          drained := r.drained.set h true, todo := r.todo.filter (fun o => !ofHalf o), buf := r.buf.set h 0 }
        if !(r1.drained.w && r1.drained.e) then s.setCkpt r1
        else if 2097152 * s.slotLen (r.target - 1) < x.bytes then s.ckptFails stNOSPACE
        else
          let y : Image := { x with seq := r.seq }
          ((s.slotWritten r.target y.bytes).fixerWrite (s.slotBase (r.target - 1) + y.sheetAt) y.sheet).setCkpt { r1 with phase := 3 }

/-- DRAIN_COMPLETE (R285). -/
def execDrainComplete (half : Nat) (s : State) : Host.Outcome State Fault Refusal := .next (s.ckptCheck.drained (half % 2))

/-- SHEET_DURABLE (R285): the commit record is written. -/
def execSheetDurable (s : State) : Host.Outcome State Fault Refusal :=
  .next (
    let s0 := s.ckptCheck
    match s0.ckpt.run with
    | some r =>
      (match r.img with
       | some x =>
         let y : Image := { x with seq := r.seq }
         if r.phase = 3 then (s0.fixerWrite (s0.slotBase (r.target - 1)) y.record).setCkpt { r with phase := 4 } else s0
       | none => s0)
    | none => s0)

/-- The image is current (R285, R287): the double-copy method goes on to the other slot, else CKPT completes. -/
def State.committed (s : State) (r : CkptRun) (x : Image) : State :=
  let y : Image := { x with seq := r.seq, base := s.slotBase (r.target - 1) }
  let s1 : State := { s with ckpt := { s.ckpt with slots := s.ckpt.slots.put r.target y } }
  let s2 := ((s1.count 0x8320 1 1).countUnits 0x8320 5 4096 y.bytes).raise 0x3020 0 0 ([r.target] ++ w2 r.seq)
  if r.double ∧ !r.second then
    let k := 3 - r.target
    (s2.zeroSlot k).setCkpt { r with
      phase := 2, target := k, second := true, seq := r.seq + 1, zeroed := false, drained := { w := false, e := false } }
  else
    let s3 : State := { s2 with ckpt := { s2.ckpt with run := none } }
    let s4 := if s3.sched.bath.ckpt then s3.endBath else s3
    match r.cmd with
    | some c => s4.done c stOK 0 (r.seq % 2 ^ 32)
    | none => s4

/-- COMMIT_DURABLE (R285). -/
def execCommitDurable (s : State) : Host.Outcome State Fault Refusal :=
  .next (
    let s0 := s.ckptCheck
    match s0.ckpt.run with
    | some r =>
      (match r.img with
       | some x => if r.phase = 4 then s0.committed r x else s0
       | none => s0)
    | none => s0)

/-- CKPT_ABORT (R293). -/
def State.ckptAbortCmd (s : State) (c : Cmd) (p : Nat) : State :=
  if p ≠ 0 then s.refuseX c stDENIED 0
  else if s.ckpt.run.isSome then (s.ckptFails stCANCELLED).done c stOK 0 1
  else s.done c stOK 0 0

/-- CKPT_ABORT. -/
def execCkptAbort (fn sq : Nat) (d : Desc) (s : State) : Host.Outcome State Fault Refusal :=
  .next (s.take 0x71 fn sq d false (fun c p => s.ckptAbortCmd c p))

/-! ## Restore (R288 to R292) -/

/-- Every session, page and granule but those of the slots is released (R289). -/
def State.releaseAll (s : State) : State :=
  let s1 := s.sess.dir.foldl (fun t e => if e.2.state = .free ∨ e.2.retired then t else t.dropAll e.1) s
  let s2 := s1.tiers.grans.foldl (fun t g => if t.inSlot 0 g.1 || t.inSlot 1 g.1 then t else t.unmapOne g.1) s1
  let s3 := s2.pages.blkRecs.foldl (fun t b => (t.scrubT1 b.2.a).scrubT1 b.2.b) s2
  { s3 with
    sess := { Sess.start with
      dir := s3.sess.dir.mapV (fun _ e => if e.state = .free ∨ e.retired then e else DirEntry.blank (e.gen + 1) s.self)
      xid := s3.sess.xid, order := s3.sess.order }
    pages := { Pages.start with next := s3.pages.next }
    tiers := { s3.tiers with
      demos := [], pass := Tiers.start.pass, gcmds := [], poolReqs := s3.tiers.poolReqs.map (fun r => { r with obj := none }) }
    own := { Own.start with seq := s3.own.seq }
    sched := { s3.sched with
      lanes := s3.sched.lanes.mapV (fun _ l => { l with step := none, held := none, timer := false })
      cores := s3.sched.cores.mapV (fun _ c => { c with run := none }), queues := [] }
    emb := Emb.start
    vec := { Vec.start with next := s3.vec.next }
    integ := { s3.integ with proofs := [] } }

/-- The image a RESTORE selects: its slot (R288). -/
def State.selected (s : State) (n : Nat) : Option (Nat × Image) :=
  let k := if n = 0 then s.curSlot else n
  (s.ckpt.slots.get? k).map (fun x => (k, x))

/-- A restore starts, or the status and detail of R288. -/
def State.startRestore (s : State) (cmd : Option Cmd) (n : Nat) (resume : Bool) : Except (Nat × Nat) State :=
  if 2 < n then .error (stBAD, dRANGE)
  else if !s.inMaint ∨ s.ckpt.run.isSome ∨ s.ckpt.restore.isSome then .error (stDENIED, 0)
  else
    match s.selected n with
    | none => .error (stBAD, dRANGE)
    | some (k, x) =>
      if x.step ≠ 0xB0 then .error (stBAD, dRANGE)
      else
        let s1 := s.releaseAll
        .ok { s1 with ckpt := { s1.ckpt with mark := true, restore := some (cmd, k, resume), resumed := [] } }

/-- RESTORE. -/
def execRestore (fn sq : Nat) (d : Desc) (s : State) : Host.Outcome State Fault Refusal :=
  .next (s.take 0x72 fn sq d false (fun c p =>
    if dFld d 129 128 = 3 then s.refuse c stBAD dRANGE
    else if p ≠ 0 then s.refuseX c stDENIED 0
    else
      match s.startRestore (some c) (dFld d 129 128) (dFlag d 24) with
      | .error (st, dt) => s.refuse c st dt
      | .ok s1 => s1))

/-- SETTINGS loaded: the values of the image, and the defaults where it has none. -/
def State.loadSettings (s : State) (x : Image) : State :=
  let s1 : State := { s with dict := { s.dict with
    vals := s.dict.vals.keep (fun k _ => !(inSettings k && s.dict.store.has k))
    store := s.dict.store.keep (fun k _ => !inSettings k) } }
  let s2 : State := { s1 with dict := x.vals.foldl (fun d kv => d.set kv.1 kv.2 true) s1.dict }
  s2.reloadProfiles

/-- A page of the image placed again by R65 (R289, R97, R94), its object below T1 coded anew: none where there is no space. -/
def State.placeAgain (s : State) (pid : Nat) (p : Page) : Option State :=
  let st := (hIdx p.origin + p.layer + p.pidx) % 16
  if p.inT1 then
    if p.st = .sealed then
      let r := s.allocT1 p.half st 1 (p.bytes / 1024)
      if r.2 = 0 then none
      else some ((r.1.addMember r.2).updPage pid (fun q => { q with a := r.2, b := 0, low := 0 }))
    else
      let r := s.allocPair p.half st 1 (p.bytes / 1024)
      if r.2.1 = 0 ∨ r.2.2 = 0 then none
      else some (r.1.updPage pid (fun q => { q with a := r.2.1, b := r.2.2, low := 0 }))
  else
    (s.policyTier p.half p.part p.clen 2000000 []).bind (fun t =>
      let r := s.putLow p.half p.part t p.clen 2000000 (.page pid) (fitBytes (1024 * p.clen) (s.pageObject p))
      if r.2 = 0 then none else some (r.1.updPage pid (fun q => { q with a := 0, b := 0, low := r.2 })))

/-- The table blocks of session `i` built again: in T1 each where R65 places it, else in the first usable tier. -/
def State.tablesAgain (s : State) (i : Nat) (t : PageTable) : Option State :=
  let e := s.ent i
  if t.inT1 then
    let s1 := t.blocks.foldl (fun u b => u.addBlock i b.layer (b.kind, b.n)) (s.setTable i { t with blocks := [], low := 0 })
    if (s1.tableOf i).blocks.any (fun b => b.a == 0 || b.b == 0) then none else some (s1.setRoot i)
  else
    (s.policyTier e.shalf e.part t.blocks.length 2000000 []).bind (fun k =>
      let r := s.putLow e.shalf e.part k t.blocks.length 2000000 (.tables i) (s.tableBytes i)
      if r.2 = 0 then none else some ((r.1.setTable i { t with low := r.2 }).setRoot i))

/-- A block of share records built again where its first record placed it (R65, log 88). -/
def State.blkAgain (s : State) (k : Nat) (b : ShareBlk) : Option State :=
  let r := s.allocPair b.half b.home 2 1
  if r.2.1 = 0 ∨ r.2.2 = 0 then none
  else
    let b1 : ShareBlk := { b with a := r.2.1, b := r.2.2 }
    some { r.1 with pages := { r.1.pages with blkRecs := r.1.pages.blkRecs.put k b1 } }

/-- A granule of the image mapped again: in its tier, else by policy (R289). -/
def State.granAgain (s : State) (g : Nat) (x : Granule) : Option State :=
  match s.mapOne g x.tier x.pin with
  | some s1 => some s1
  | none => s.mapOne g 0 x.pin

/-- A fold that stops at the first failure. -/
def foldSome {α : Type} (f : State → α → Option State) : State → List α → Option State
  | s, [] => some s
  | s, a :: t => (f s a).bind (fun u => foldSome f u t)

/-- Pages, table blocks and share records placed. -/
def State.loadPages (s : State) (x : Image) : Option State :=
  let s1 : State := { s with pages := { x.pages with next := max s.pages.next x.pages.next } }
  (foldSome (fun u kp => u.placeAgain kp.1 kp.2) s1 x.pages.pages).bind (fun s2 =>
    (foldSome (fun u kt => u.tablesAgain kt.1 kt.2) s2 x.pages.tables).bind (fun s3 =>
      foldSome (fun u kb => u.blkAgain kb.1 kb.2) s3 x.pages.blkRecs))

/-- Granules placed with their bytes. -/
def State.loadGrans (s : State) (x : Image) : Option State :=
  (foldSome (fun u g => u.granAgain g.1 g.2) s x.grans).map (fun s1 =>
    { s1 with tiers := { s1.tiers with
      mem := x.mem.foldl (fun m c => m.write c.1 c.2) s1.tiers.mem, poison := x.poison ++ s1.tiers.poison } })

/-- Items whose insertion had no epoch yet are deleted as of the published one (R289). -/
def State.closeItems (s : State) (i : Nat) : State :=
  match s.vec.idx.get? i with
  | none => s
  | some y =>
    let d := s.vdesc i
    (List.range d.nlist).foldl (fun t l =>
      (List.range (t.listRec d l).1).foldl (fun u p =>
        let v := u.vitem d l p
        if v.ins = noEpoch then
          { u with tiers := { u.tiers with mem := u.tiers.mem.writeN (d.slotAt l p) { v with del := y.epoch }.bytes } }
        else u) t) s

/-- A directory entry of the image as restored: fields that name the device that wrote it name this one. -/
def Image.entry (x : Image) (self : Nat) (e : DirEntry) : DirEntry :=
  let f := fun (n : Nat) => if n = x.src then self else n
  { e with owner := f e.owner, target := f e.target }

/-- DIRECTORY, LINKS and REQUESTS loaded (R289, R291). Completions go out under the function's present reset count. -/
def State.loadSessions (s : State) (x : Image) : State :=
  let f := fun (n : Nat) => if n = x.src then s.self else n
  let slots : Tab Request := x.slots.mapV (fun _ r => { r with cmd := { r.cmd with gen := s.gen r.cmd.fn } })
  let bufs : List AssistBuf := x.bufs.map (fun b => { b with cmd := { b.cmd with gen := s.gen b.cmd.fn } })
  let order := x.slots.foldl (fun n r => max n (r.2.order + 1)) s.sess.order
  let idles := (x.dir.filter (fun e => e.2.state == .idle)).map (·.1)
  { s with
    sess := { s.sess with
      dir := x.dir.foldl (fun d e => d.put e.1 (x.entry s.self e.2)) s.sess.dir
      slots, selIn := x.selIn, bufs, order := order + idles.length
      idle := idles.mapIdx (fun n i => (i, order + n)) }
    own := { s.own with
      links := x.links.mapV (fun _ l => { l with peer := f l.peer }) } }

/-- Exchanges that were open are sent again with new ids (Table 13-7). -/
def State.resend (s : State) (x : Image) : State :=
  s.sess.slots.foldl (fun t kr =>
    let k := kr.1
    let r := kr.2
    let t1 :=
      if x.waits.contains k then
        let pay := r.bufs.flatMap (fun a => leBytes 16 (a.1 % 2 ^ 64 * 2 ^ 64 + a.2 % 2 ^ 32 * 2 ^ 32))
        (t.newExch 1 r.part r.half k (t.handleOf r.idx) 0 r.bufs.length 0 pay 0).1
      else t
    let seq := (((t1.sched.lanes.get? (8 * r.half + r.lane)).bind (·.last))).getD 0
    let w := r.detok.foldl (fun (a : State × List DetokWait) d =>
      match d.reply with
      | some _ => (a.1, a.2 ++ [d])
      | none =>
        let e := a.1.newExch 2 r.part r.half k (a.1.handleOf r.idx) seq 1 0 (leBytes 4 d.token) 0
        (e.1, a.2 ++ [{ d with xid := e.2 }])) (t1, [])
    w.1.updReq k (fun q => { q with detok := w.2 })) s

/-- Sessions restored otherwise than held: a DEVELOPING one goes on above its resident layers, a guest's copy in MOVING is a
staged copy (Table 13-7), and so is one that its home was receiving (R127), whose entry had nothing before. -/
def State.restart (s : State) (x : Image) : State :=
  x.dir.foldl (fun t e =>
    let i := e.1
    match (t.ent i).state with
    | .developing =>
      let d : DevRun := { window := t.windowFor i 0, reserve := t.revivalKib i, revives := [] }
      let t1 : State := { t with own := { t.own with dev := t.own.dev.put i d } }
      t1.developed i
    | .moving =>
      let y := t.ent i
      let old : DirEntry :=
        { y with state := .idle, sv := false, slot := 0, reslayers := 0, ptroot := 0, ton := false, expires := 0, cp := false, pp := false }
      let c : StagedCopy :=
        { source := y.owner, srcHandle := ((t.own.links.get? i).map (·.handle)).getD 0, offerEpoch := y.epoch, ttlLeft := 1000 * y.ttl
          before := .idle, expect := 0, got := 0, complete := true, doneAt := t.nowMs (idxHalf i), lapsed := false, asks := []
          old := if (t.guestOf i).isNone then some old else none }
      { t with own := { t.own with staged := t.own.staged.put i c } }
    | _ => t) s

/-- A restored step is abandoned: its requests are deferred, rows beyond the count go, and no STEP_END is sent (R292). -/
def State.abandonQuiet (s : State) (h n : Nat) (st : Step) : State :=
  let outs := st.reqs.map (fun r => (r, s.outcome (s.laneLayers n) st true r))
  let s1 := outs.foldl (fun t o => t.settleReq o.1 o.2) s
  let l := s1.laneH h n
  let s2 := s1.setLane h n { l with step := none, timer := false }
  let s3 : State := { s2 with sess := { s2.sess with selIn := s2.sess.selIn.keep (fun k _ => !(st.reqs.map (·.slot)).contains k) } }
  let s4 := (s3.count 0x8220 1 1).count 0x8220 2 1
  outs.foldl (fun t o => t.reportReq st.seq o.1 o.2) s4

/-- The next open of a restored step: a layer, or the selection phase (R292). -/
def State.nextOpen (s : State) (n : Nat) (st : Step) : Nat :=
  if st.selPhase then 0x100 else if st.layer + 1 < s.laneLayers n then st.layer + 1 else 0x100

/-- ROUNDS loaded (R289, R292): a step in flight stays so with RESUME, and is abandoned without; the next layer-0 open takes any
seq. -/
def State.loadLane (s : State) (k : Nat) (l : LaneHalf) (resume : Bool) : State :=
  let h := k / 8
  let n := k % 8
  let base : LaneHalf := { l with last := none, held := none, ivals := [], lastOpen := none, timer := false, stopping := false, prev := none }
  match l.step with
  | none => s.setLane h n base
  | some st =>
    let st1 : Step := { st with restored := true, roundOpen := false }
    let s1 := s.setLane h n { base with step := some st1 }
    if resume then
      let s2 := st1.reqs.foldl (fun t r =>
        match t.sess.selIn.get? r.slot with
        | some y => if y.complete && r.token.isNone && !r.dead && r.mark == .data then t.maskList h n r.slot y.list else t
        | none => t) s1
      { s2 with ckpt := { s2.ckpt with resumed := s2.ckpt.resumed.put (2 * n + h) st.seq } }
    else s1.abandonQuiet h n st1

/-- The segment at which a restore fails: the first of a kind and partition. -/
def Image.segIndex (x : Image) (f : Seg → Bool) : Nat := (x.segs.findIdx? f).getD 0

/-- The partitions whose memory key the device lacks. -/
def State.noKey (s : State) (x : Image) : Option Seg := x.segs.find? (fun g => !s.sec.memKeys.has g.part)

/-- Do the bytes of segment `go` of slot `k`'s image `x` read back as written: its partition's key is still the one they were encrypted
under (R281), no block of them is poisoned, and no granule lost with its tier? -/
def State.segReads (s : State) (k : Nat) (x : Image) (go : Seg × Nat) : Bool :=
  let a := s.slotBase (k - 1) + go.2
  ((x.keys.get? go.1.part).map (s.sameKey go.1.part)).getD true && !s.poisoned a go.1.len && (granSpan a go.1.len).all (fun g =>
    match s.gran g with
    | none => false
    | some x => !s.lapsed 0 x.handle && !s.t2Lost x.handle 2050)

/-- The image of slot `k` loaded whole, or the segment and status of the first failure (R289). -/
def State.loadImage (s : State) (k : Nat) (x : Image) (resume : Bool) : Except (Nat × Nat) State :=
  match s.noKey x, (segOffs x.segs 4096).find? (fun go => !s.segReads k x go) with
  | some g, _ => .error (x.segIndex (fun y => y == g), stDENIED)
  | none, some go => .error (x.segIndex (fun y => y == go.1), stCHECK)
  | none, none =>
    let s1 := (s.loadSettings x).loadSessions x
    match s1.loadPages x with
    | none => .error (x.segIndex (fun y => y.kind == 4), stNOSPACE)
    | some s2 =>
      match s2.loadGrans x with
      | none => .error (x.segIndex (fun y => y.kind == 7), stNOSPACE)
      | some s3 =>
        let s4 : State := { s3 with emb := x.emb, host := { s3.host with imgRings := x.rings } }
        let s5 := s4.vecReload
        let s6 := x.holds.foldl (fun t h => (t.dsetN (0x5340 + h.1) 8 h.2).closeItems h.1) s5
        let s7 := (s6.restart x).resend x
        .ok (x.lanes.foldl (fun t kl => t.loadLane kl.1 kl.2 resume) s7)

/-- RESTORE_COMPLETE: the restore has run to its end or its first failure. -/
def execRestoreComplete (s : State) : Host.Outcome State Fault Refusal :=
  .next (
    match s.ckpt.restore with
    | none => s
    | some (cmd, k, resume) =>
      let s0 : State := { s with ckpt := { s.ckpt with restore := none } }
      match s.ckpt.slots.get? k with
      | none => s0
      | some x =>
        match s0.loadImage k x resume with
        | .error (g, st) =>
          let s1 := s0.releaseAll.raise 0x3025 0 0 [k, g, st]
          (match cmd with
           | some c => s1.refuse c st 0
           | none => s1)
        | .ok s1 =>
          let s2 : State := { s1 with
            ckpt := { s1.ckpt with mark := false }
            own := { s1.own with frozenUntil := s1.nowMs 0 + 2 * s1.dval 0x3100 7 } }
          let s3 := (s2.count 0x8320 6 1).raise 0x3024 0 0 ([k] ++ w2 x.seq)
          match cmd with
          | some c => s3.done c stOK 0 (x.seq % 2 ^ 32)
          | none => s3)

/-- What 0x3200.0A reads: 0 idle, 1 quiescing, 2 draining, 3 fixing, 4 restoring. -/
def State.ckptState (s : State) : Nat :=
  if s.ckpt.restore.isSome then 4
  else
    match s.ckpt.run with
    | none => 0
    | some r => min r.phase 3

/-- A write to 0x3200.0C (Table 13-9): 1 Negative, 2 double-copy, 3 abort. -/
def State.ckptWrite (s : State) (v : Nat) : Except (Nat × Nat) State :=
  if v = 3 then .ok (s.ckptFails stCANCELLED)
  else if v = 1 ∨ v = 2 then s.startCkpt none (v == 2)
  else .error wRefused

/-- A write to 0x3200.0B: 1 restore current, 2 A, 3 B; bit 7 RESUME. -/
def State.restoreWrite (s : State) (v : Nat) : Except (Nat × Nat) State :=
  let n := v % 128
  if n = 0 ∨ 3 < n then .error wRefused else s.startRestore none (n - 1) (bitN v 7)

end Sys2Proof.Machine
end

