-- ==== Sys2Proof/Machine/Rings.lean ====
section
/-!
DEFINITION. Rings (ch 16): creation and deletion, the observation of submission tails, fetching, the posting of backlogs, MSI-X
moderation, and functions whose fetching and DMA stand still.
-/

namespace Sys2Proof.Machine

/-! ## Fetching -/

/-- Ring of key `k`. -/
def State.ring (s : State) (k : Nat) : Option Ring := s.host.rings.get? k

/-- `s` with ring `k` changed by `f`. -/
def State.updRing (s : State) (k : Nat) (f : Ring → Ring) : State :=
  { s with host := { s.host with rings := s.host.rings.upd k f } }

/-- The descriptors that wait in SQ `k` are fetched (R337): none while the SQ is stopped, its function stands still or the
backlog of its CQ is not empty (R338); more than the ring holds stop the SQ. The device index is written, if there is one. -/
def State.fetch (s : State) (k : Nat) : State :=
  match s.ring k with
  | none => s
  | some r =>
    let n := (r.hostIdx + 2 ^ 32 - r.posted) % 2 ^ 32
    if r.kind ≠ 1 ∨ r.stopped ∨ n = 0 ∨ s.host.stops.contains r.fn then s
    else if 16 * 2 ^ r.lgsz < n then
      (s.updRing k (fun q => { q with stopped := true })).raise 0x1006 ((s.fnPart r.fn).getD 0) 0 [r.fn, r.id]
    else if ((s.ring (ringKey r.fn 2 r.cq)).map (fun q => !q.backlog.isEmpty)).getD false then s
    else
      let s1 := ((s.updRing k (fun q => { q with posted := r.hostIdx })).count 0x8110 1 n).countUnits 0x8110 0x11 4096 (64 * n)
      if r.didx = 0 then s1 else s1.dmaTo r.fn (s1.gen r.fn) r.didx (leBytes 8 r.hostIdx)

/-- The SQs of function `fn` bound to CQ `cq`. -/
def State.sqsOf (s : State) (fn cq : Nat) : List Nat :=
  (s.host.rings.filter (fun r => r.2.fn == fn && r.2.kind == 1 && r.2.cq == cq)).map (·.1)

/-- Records of the backlog of ring `k` posted while there is room, at most `n` (R338). -/
def State.drain (s : State) (k : Nat) : Nat → State
  | 0 => s
  | n + 1 =>
    match s.ring k with
    | none => s
    | some r =>
      match r.backlog with
      | [] => s
      | x :: rest =>
        if r.isFull || s.host.stops.contains r.fn then s
        else
          let s1 := (s.updRing k (fun q => { q with backlog := [] })).post k x
          State.drain (s1.updRing k (fun q => { q with backlog := rest })) k n

/-- The backlog of ring `k` posted as room allows; once it is empty, an event ring may report an overflow again, and a CQ's
SQs are fetched from. -/
def State.drainRing (s : State) (k : Nat) : State :=
  match s.ring k with
  | none => s
  | some r =>
    let s1 := s.drain k r.backlog.length
    if ((s1.ring k).map (·.backlog.isEmpty)).getD true then
      if r.kind = 4 then s1.unlatch 0x1009 k
      else if r.kind = 2 then (s1.sqsOf r.fn r.id).foldl (fun u q => u.fetch q) s1
      else s1
    else s1

/-- A new host index of ring `k` (R335, R336, R338). -/
def State.hostIndex (s : State) (k v : Nat) : State :=
  match s.ring k with
  | none => s
  | some r =>
    let s1 := s.updRing k (fun q => { q with hostIdx := v % 2 ^ 32 })
    if r.kind = 1 then s1.fetch k else s1.drainRing k

/-- TAIL_POLL (R336): one read of an SQ's host index word in host memory. -/
def execTailPoll (port fn id tail : Nat) (s : State) : Host.Outcome State Fault Refusal :=
  if 4 ≤ port then .fault (.noSuchUnit "port" port)
  else
    .next (match s.ring (ringKey fn 1 id) with
    | none => s
    | some r => if r.coh ∨ fn / 64 ≠ port then s else (s.count 0x8110 5 1).hostIndex (ringKey fn 1 id) tail)

/-- RING_HEAD_UPDATE (R338): the head of a CQ, output ring or event ring advances. -/
def execRingHeadUpdate (fn kind id head : Nat) (s : State) : Host.Outcome State Fault Refusal :=
  .next (if kind = 2 ∨ kind = 3 ∨ kind = 4 then s.hostIndex (ringKey fn kind id) head else s)

/-! ## MSI-X -/

/-- The vector of `r` signalled (R339), and the message counted. -/
def State.signal (s : State) (fn vector : Nat) : State :=
  let g := s.host.signal fn vector
  let s1 : State := { s with host := g.1, out := g.2 ++ s.out }
  if g.2.isEmpty then s1 else s1.count 0x8110 4 1

/-- MSIX_TIMER (R339): tthr has passed since the first record counted. -/
def execMsixTimer (fn kind id : Nat) (s : State) : Host.Outcome State Fault Refusal :=
  .next (match s.ring (ringKey fn kind id) with
  | none => s
  | some r =>
    if kind < 2 ∨ !r.iv ∨ r.msg = 0 then s
    else (s.updRing (ringKey fn kind id) (fun q => { q with msg := 0 })).signal fn r.vector)

/-- MSIX_VECTOR_UNMASK (R339): a message pending is sent. -/
def execMsixVectorUnmask (fn vector : Nat) (s : State) : Host.Outcome State Fault Refusal :=
  let v := fn * 2048 + vector
  if 256 ≤ fn ∨ 2048 ≤ vector then .fault (.noSuchUnit "vector" vector)
  else
    let s1 : State := { s with host := { s.host with
      unmasked := if s.host.unmasked.contains v then s.host.unmasked else v :: s.host.unmasked
      pendingV := s.host.pendingV.filter (fun x => x != v) } }
    .next (if s.host.pendingV.contains v then s1.signal fn vector else s1)

/-! ## Functions that stand still -/

/-- Must function `fn` use a secure stream (R352, R365)? -/
def State.ideRequired (s : State) (fn : Nat) : Bool :=
  s.dval (0x7084 + fn / 64) (1 + fn % 64) == 1 || (s.confidential && ((s.fnPart fn).map (fun p => decide (0 < p))).getD false)

/-- Do the fetching and DMA of function `fn` stand still: its TDI is in ERROR, or it needs a stream that is not secure? -/
def State.standsStill (s : State) (fn : Nat) : Bool :=
  s.host.tdi.getD fn 0 == 3 || (s.ideRequired fn &&
    (s.host.ideDown.has fn || !s.host.ideStreams.any (fun x => x / 256 == fn / 64 && decide (x % 256 ≤ 4))))

/-- The functions that stand still found anew: those that go on issue their held DMA writes, post their backlogs and are
fetched from again. -/
def State.recheckStops (s : State) : State :=
  let st := (List.range 256).filter s.standsStill
  let s1 : State := { s with host := { s.host with stops := st, dmaHeld := [] } }
  let s2 := s.host.dmaHeld.foldl (fun u w => u.dmaTo w.fn w.gen w.addr w.data) s1
  let back := s2.host.rings.filter (fun r => s.host.stops.contains r.2.fn && !st.contains r.2.fn)
  let s3 := back.foldl (fun u r => if r.2.kind = 1 then u else u.drainRing r.1) s2
  back.foldl (fun u r => u.fetch r.1) s3

/-! ## Windows of a port -/

/-- The first granule and the granules of a window: a region's window follows the region. -/
def State.winRange (s : State) (w : Window) : Nat × Nat :=
  if w.reg then ((s.host.regions.get? w.region).map (fun r => (r.gran, r.count))).getD (0, 0) else (w.gran, w.count)

/-- Does window `w` cover granule `g`? -/
def State.winHas (s : State) (w : Window) (g : Nat) : Bool :=
  decide ((s.winRange w).1 ≤ g) && decide (g < (s.winRange w).1 + (s.winRange w).2)

/-- The window of port `p` at HDM offset `hoff`, with the device address there. -/
def State.windowAt (s : State) (p hoff : Nat) : Option (Window × Nat) :=
  ((s.port p).windows.find? (fun w => decide (w.2.hoff * 2097152 ≤ hoff) &&
    decide (hoff < (w.2.hoff + (s.winRange w.2).2) * 2097152))).map
      (fun w => (w.2, (s.winRange w.2).1 * 2097152 + (hoff - w.2.hoff * 2097152)))

/-- A window of port `p` over device address `addr`, with the HDM offset there. -/
def State.windowOn (s : State) (p addr : Nat) : Option (Window × Nat) :=
  ((s.port p).windows.find? (fun w => s.winHas w.2 (addr / 2097152))).map
    (fun w => (w.2, w.2.hoff * 2097152 + (addr - (s.winRange w.2).1 * 2097152)))

/-! ## Creation and deletion -/

/-- Is the tail mode of port `p` coherent (R332, Table 16-8)? -/
def State.coherent (s : State) (p : Nat) : Bool := s.dval (0x1110 + p) 4 == 1 && (s.port p).link == 2

/-- The checks of R332 for a ring of function `fn` in partition `p`; none where all pass, else the detail. -/
def State.ringFault (s : State) (p : Nat) (r : Ring) : Bool :=
  r.base % 4096 != 0 || r.hidx % 8 != 0 || r.didx % 8 != 0 || r.base == 0 || r.hidx == 0 || (r.kind ≥ 3 && r.didx == 0)
    || (r.coh && !(granPart (granOf r.hidx) == p && (s.windowOn (r.fn / 64) r.hidx).isSome))
    || (r.kind == 1 && (s.ring (ringKey r.fn 2 r.cq)).isNone)
    || (s.ring (ringKey r.fn r.kind r.id)).isSome

/-- Ring `r` created; it starts at `n` (R341). -/
def State.addRing (s : State) (r : Ring) (n : Nat) : State :=
  { s with host := { s.host with rings := s.host.rings.put (ringKey r.fn r.kind r.id) { r with hostIdx := n % 2 ^ 32, posted := n } } }

/-- The count at which a ring starts (R341). -/
def State.ringStart (s : State) (fn kind id : Nat) : Nat := if kind = 1 then 0 else s.host.imgRings.getD (ringKey fn kind id) 0

/-- The ring a RING_CREATE describes (Table 16-6). -/
def State.descRing (s : State) (fn : Nat) (d : Desc) : Ring :=
  { fn, kind := dFld d 331 328, id := dFld d 327 320, base := dFld d 191 128, hidx := dFld d 255 192, didx := dFld d 319 256
    lgsz := dFld d 335 332, cq := dFld d 343 336, vector := dFld d 354 344, iv := dFlag d 355, lci := dFlag d 356
    cthr := dFld d 372 357, tthr := dFld d 388 373, hostIdx := 0, posted := 0, stopped := false, backlog := [], msg := 0
    lost := false, coh := s.coherent (fn / 64) }

/-- RING_CREATE (R332, R341, R354). -/
def State.ringCreateCmd (s : State) (c : Cmd) (p : Nat) (d : Desc) : State :=
  let r := s.descRing c.fn d
  if r.id = 0 ∨ r.kind = 0 ∨ 4 < r.kind ∨ 12 < r.lgsz ∨ (r.iv ∧ r.cthr = 0) then s.refuse c stBAD dRANGE
  else if s.ringFault p r then s.refuse c stBAD dRANGE
  else
    let n := s.ringStart c.fn r.kind r.id
    (s.addRing r n).done c stOK 0 n

/-- RING_CREATE. -/
def execRingCreate (fn sq : Nat) (d : Desc) (s : State) : Host.Outcome State Fault Refusal :=
  .next (s.take 0x80 fn sq d false (fun c p => s.ringCreateCmd c p d))

/-- Ring `k` deleted with its backlog (R334); an event ring's subscription is cleared (R395). -/
def State.dropRing (s : State) (k : Nat) : State :=
  match s.ring k with
  | none => s
  | some r =>
    let s1 : State := { s with host := { s.host with rings := s.host.rings.del k } }
    if r.kind = 4 then
      let s2 := s1.unlatch 0x1009 k
      if s2.fval r.fn 0x1050 1 = r.id then { s2 with dict := { s2.dict with vals := s2.dict.vals.del (fkey r.fn 0x1050 1) } } else s2
    else s1

/-- RING_DELETE (R334, R354). -/
def State.ringDeleteCmd (s : State) (c : Cmd) (d : Desc) : State :=
  let id := dFld d 135 128
  let kind := dFld d 139 136
  if id = 0 ∨ kind = 0 ∨ 4 < kind ∨ (s.ring (ringKey c.fn kind id)).isNone then s.refuse c stBAD dRANGE
  else if kind = 2 ∧ !(s.sqsOf c.fn id).isEmpty then s.refuse c stBAD dBUSY
  else (s.dropRing (ringKey c.fn kind id)).done c stOK 0 0

/-- RING_DELETE. -/
def execRingDelete (fn sq : Nat) (d : Desc) (s : State) : Host.Outcome State Fault Refusal :=
  .next (s.take 0x81 fn sq d false (fun c _ => s.ringDeleteCmd c d))

/-- SQ 0 or CQ 0 of function `fn` as entry 0x1180 describes it (Table 16-3), interrupts off. -/
def State.ringZero (s : State) (fn kind : Nat) : Ring :=
  let o := if kind = 1 then 0 else 4
  { fn, kind, id := 0, base := s.fval fn 0x1180 (1 + o), hidx := s.fval fn 0x1180 (3 + o)
    didx := if kind = 1 then s.fval fn 0x1180 4 else 0, lgsz := s.fval fn 0x1180 (2 + o), cq := 0
    vector := if kind = 1 then 0 else s.fval fn 0x1180 8, iv := false, lci := false, cthr := 0, tthr := 0, hostIdx := 0
    posted := 0, stopped := false, backlog := [], msg := 0, lost := false, coh := s.coherent (fn / 64) }

/-- Both rings 0 of function `fn` created (R331). -/
def State.makeZero (s : State) (fn p : Nat) : Except (Nat × Nat) State :=
  let cq := s.ringZero fn 2
  let sq := s.ringZero fn 1
  if s.ringFault p cq then .error wRefused
  else
    let s1 := s.addRing cq (s.ringStart fn 2 0)
    if s1.ringFault p sq then .error wRefused else .ok (s1.addRing sq 0)

/-- Both rings 0 of function `fn` deleted (R331, R334). -/
def State.dropZero (s : State) (fn : Nat) : Except (Nat × Nat) State :=
  if (s.sqsOf fn 0).any (fun k => k != ringKey fn 1 0) then .error (stBAD, dBUSY)
  else .ok ((s.dropRing (ringKey fn 1 0)).dropRing (ringKey fn 2 0))

/-- A write of `v` to 0x1180.09 through the mailbox of a function. -/
def State.ring0Write (s : State) (o : Origin) (v : Nat) : Except (Nat × Nat) State :=
  match o with
  | .mailbox fn =>
    match s.fnPart fn with
    | none => .error wDenied
    | some p => if v = 1 then s.makeZero fn p else s.dropZero fn
  | _ => .error wDenied

/-- RING0_CREATE (R331). -/
def execRing0Create (o : Origin) (v : List Byte) (s : State) : Host.Outcome State Fault Refusal :=
  .next (s.writeRow o 0x1180 9 v (fun s => s.ring0Write o (leNat v)))

/-- RING0_DELETE (R331, R334). -/
def execRing0Delete (o : Origin) (v : List Byte) (s : State) : Host.Outcome State Fault Refusal :=
  .next (s.writeRow o 0x1180 9 v (fun s => s.ring0Write o (leNat v)))

end Sys2Proof.Machine
end

