-- ==== Sys2Proof/Machine/Cxl.lean ====
section
/-!
DEFINITION. CXL.mem (ch 16): windows, accesses, the tracker's grants and recalls, accesses while the bridge is down, host
leases, shared regions and publication.
-/

namespace Sys2Proof.Machine

/-! ## Applying a write -/

/-- The 64 bytes `old` with those of `new` whose bit of `mask` is set. -/
def mergeLine (old new : List Byte) (mask : Nat) : List Byte :=
  (List.range 64).map (fun i => if bitN mask i then nth new i 0 else nth old i 0)

/-- The host index words of port `p`'s rings in line `l` read as the line is written (R335). -/
def State.observe (s : State) (p l : Nat) : State :=
  (s.host.rings.filter (fun r => r.2.coh && r.2.fn / 64 == p && r.2.hidx / 64 == l)).foldl
    (fun u r => u.hostIndex r.1 (leNat (u.memRead r.2.hidx 4))) s

/-- Line `l` written by port `p`'s host. -/
def State.lineWrite (s : State) (p l : Nat) (b : List Byte) (mask : Nat) : State :=
  (s.memWrite (64 * l) (mergeLine (s.memRead (64 * l) 64) b mask)).observe p l

/-- The half that holds line `l`. -/
def State.lineHalf (s : State) (l : Nat) : Nat := ((s.gran (l / 32768)).map (fun x => x.half (l / 32768))).getD 0

/-! ## The bridge down (R343) -/

/-- The hold buffer's writes. -/
def State.holdMax (s : State) : Nat := s.dval 0x1100 8 * 16384

/-- Is the hold buffer full? -/
def State.holdFull (s : State) : Bool := decide (s.holdMax ≤ s.host.held.length)

/-- A write of an East line while the bridge is down: held, or discarded. -/
def State.heldWrite (s : State) (p l : Nat) (b : List Byte) (mask : Nat) : State :=
  let s1 := s.count 0x8110 0xA 1
  if s1.dval 0x1100 7 = 1 then s1
  else
    let w : HeldWrite := { line := l, data := b, mask }
    let s2 : State := { s1 with host := { s1.host with held := s1.host.held ++ [w] } }
    if s2.holdFull then s2.raiseOnce 0x100C 0 0 0 [p, s2.host.held.length / 16384] else s2

/-- What a read of East's line `l` returns while the bridge is down: the newest held bytes, with poison unless they are all
of the line. -/
def State.heldRead (s : State) (l : Nat) : List Byte × Bool :=
  let ws := s.host.held.filter (fun w => w.line == l)
  let m := ws.foldl (fun m w => m ||| w.mask) 0
  (ws.foldl (fun b w => mergeLine b w.data w.mask) (List.replicate 64 0), m % 2 ^ 64 != 2 ^ 64 - 1)

/-! ## Accesses -/

/-- A granule that hosts may not write (R219, R236, R347). -/
def State.protectedGran (s : State) (g : Nat) : Bool :=
  s.inTable g || s.vec.idx.any (fun i => inSpan g (s.vecF i.1 2) (s.vecBytes i.1))

/-- Is a tenant's window without the CXL IDE that confidential mode asks for (Table 17-7)? -/
def State.unsealed (s : State) (p part : Nat) : Bool := s.confidential && decide (0 < part) && !bitN (s.port p).ide 2

/-- An access answered as outside every window (R347). -/
def State.outside (s : State) (p hoff : Nat) (read : Bool) : State :=
  ((s.count 0x8110 9 1).raiseSec 0x1007 p 0 0 (p :: w2 hoff)).emit
    (.cxl p hoff (if read then List.replicate 64 0xFF#8 else []) read false)

/-- Is granule `g` under a window that closes on port `p`, or part of a region being published (R346, R350)? -/
def State.granHeld (s : State) (g : Nat) : Bool :=
  s.host.pubs.any (fun x => x.active &&
    (match s.host.regions.get? x.region with
     | none => false
     | some r => (decide (r.gran ≤ g) && decide (g < r.gran + r.count)) || (decide (x.gran ≤ g) && decide (g < x.gran + r.count))))

/-- An access waits. -/
def State.wait (s : State) (a : Access) : State := { s with host := { s.host with waiting := s.host.waiting ++ [a] } }

/-- Does an earlier access to line `l` wait? -/
def State.lineBusy (s : State) (l : Nat) : Bool :=
  s.host.waiting.any (fun b => (s.windowAt b.port b.hoff).any (fun x => x.2 / 64 == l))

/-- Line `l` entered for port `p`, owned when `own`; none when the tracker is full, whose oldest line is then recalled first
(R348). -/
def State.grant (s : State) (p l : Nat) (own : Bool) : Except State State :=
  let q := s.port p
  if q.lines.any (fun x => x.addr == l) then
    .ok (s.updPort p (fun q => { q with lines := q.lines.map (fun x => if x.addr = l then { x with owned := x.owned || own } else x) }))
  else if s.dval 0x1100 6 ≤ q.lines.length then .error (((q.lines.head?).map (fun x => s.snoopLine x.addr p)).getD s)
  else
    let n : Line := { addr := l, owned := own, snooped := false }
    .ok (s.updPort p (fun q => { q with lines := q.lines ++ [n] }))

/-- A CXL.mem access served, or made to wait (R343, R345, R347, R348). Ownership of a line the host may not write is not
granted: it is taken as a read. -/
def State.serve (s : State) (a : Access) : State :=
  match s.windowAt a.port a.hoff with
  | none => s.outside a.port a.hoff a.data.isNone
  | some (w, addr) =>
    let l := addr / 64
    let g := addr / 2097152
    let ro := w.ro || s.protectedGran g
    if w.closing || s.granHeld g then s.wait a
    else if (s.gran g).isNone ∨ s.unsealed a.port w.part ∨ (a.data.isSome ∧ ro) then s.outside a.port a.hoff a.data.isNone
    else if s.lineBusy l then s.wait a
    else if a.data.isSome ∧ s.boot.bridge ∧ s.dval 0x1100 7 = 0 ∧ s.holdFull then s.wait a
    else if s.boot.bridge ∧ s.lineHalf l = 1 then
      match a.data with
      | some b => (s.heldWrite a.port l b a.mask).emit (.cxl a.port a.hoff [] false false)
      | none =>
        let r := if s.dval 0x1100 7 = 1 then (List.replicate 64 0, true) else s.heldRead l
        (s.count 0x8110 0xA 1).emit (.cxl a.port a.hoff r.1 r.2 false)
    else
      let own := a.excl && !ro
      let hs := s.holders a.port l (a.data.isSome || own)
      if !hs.isEmpty then (hs.foldl (fun u p => u.snoopLine l p) s).wait a
      else
        match a.data with
        | some b => ((s.touch g).lineWrite a.port l b a.mask).emit (.cxl a.port a.hoff [] false false)
        | none =>
          match s.grant a.port l own with
          | .error s1 => s1.wait a
          | .ok s1 => (s1.touch g).emit (.cxl a.port a.hoff (s.memRead (64 * l) 64) (s.poisoned (64 * l) 64) true)

/-! ## What waits is tried again -/

/-- The lines of port `p`'s window `w` that its host holds. -/
def State.winLines (s : State) (p : Nat) (w : Window) : List Nat :=
  ((s.port p).lines.filter (fun x => s.winHas w (x.addr / 32768))).map (·.addr)

/-- Windows whose lines are all back are removed, and their WINDOW_CLOSE completes (R346). -/
def State.closings (s : State) : State :=
  (List.range 4).foldl (fun u p =>
    ((s.port p).windows.filter (fun w => w.2.closing && (u.winLines p w.2).isEmpty)).foldl (fun v w =>
      let v1 := v.updPort p (fun q => { q with windows := q.windows.del w.1 })
      match w.2.closer with
      | some c => v1.done c stOK 0 w.2.recalled
      | none => v1) u) s

/-- Are `n` granules from `g` on mapped, PIN and in T1 in partition `p`? -/
def State.windowable (s : State) (p g n : Nat) : Bool :=
  (List.range n).all (fun i => granPart (g + i) == p &&
    ((s.gran (g + i)).map (fun x => x.tier == 1 && x.pin && x.mv.isNone)).getD false)

/-- Does a region cover a granule of `g` to `g + n - 1`? -/
def State.inRegion (s : State) (g n : Nat) : Bool :=
  s.host.regions.any (fun r => decide (r.2.gran < g + n) && decide (g < r.2.gran + r.2.count))

/-- The tracked lines of `n` granules from `g` on, with their ports. -/
def State.linesOver (s : State) (g n : Nat) : List (Nat × Nat) :=
  (List.range 4).flatMap (fun p =>
    ((s.port p).lines.filter (fun x => decide (g ≤ x.addr / 32768) && decide (x.addr / 32768 < g + n))).map (fun x => (x.addr, p)))

/-- Window `w` of port `p` starts to close, for command `c` if there is one (R346). -/
def State.startClose (s : State) (p k : Nat) (w : Window) (c : Option Cmd) : State :=
  let ls := s.winLines p w
  let s1 := s.updPort p (fun q => { q with windows := q.windows.put k { w with closing := true, closer := c, recalled := ls.length } })
  ls.foldl (fun u l => u.snoopLine l p) s1

/-- The windows over the `n` granules from `g` on close, those of regions apart; one whose lines are all back is removed at once, and its
WINDOW_CLOSE completes. -/
def State.closeOver (s : State) (g n : Nat) : State :=
  ((List.range 4).foldl (fun u p =>
    ((u.port p).windows.filter (fun w => !w.2.reg && !w.2.closing && decide (g < w.2.gran + w.2.count) && decide (w.2.gran < g + n))).foldl
      (fun v w => v.startClose p w.1 w.2 none) u) s).closings

/-- The swap of R350: the staging granules become the region's, its record is rewritten, windows over the staging extent are
closed, and the old granules are released. -/
def State.swap (s : State) (x : PubWait) (r : Region) : State :=
  let v := r.version + 1
  let r1 : Region := { r with gran := x.gran, version := v, time := s.nowMs 0, pub := true, pubfn := x.cmd.fn }
  let s1 := s.closeOver x.gran r.count
  let s2 : State := { s1 with host := { s1.host with
    regions := s1.host.regions.put x.region r1
    pubs := s1.host.pubs.filter (fun y => y != x) } }
  let s3 := ((List.range r.count).foldl (fun u i => u.unmapOne (r.gran + i)) s2).reanchor
  (s3.count 0x8110 0xE 1).done x.cmd stOK 0 (v % 2 ^ 32)

/-- The PUBLISH `x` at the head of its region's sequence (R350, R351): checks and compare when it is taken, the recall, and the
swap once no line of either run of granules is held. -/
def State.pubStep (s : State) (x : PubWait) : State :=
  let gone : State := { s with host := { s.host with pubs := s.host.pubs.filter (fun y => y != x) } }
  match s.host.regions.get? x.region with
  | none => gone.refuse x.cmd stBAD dRANGE
  | some r =>
    if x.active then
      if (s.linesOver r.gran r.count).isEmpty ∧ (s.linesOver x.gran r.count).isEmpty then s.swap x r else s
    else if (s.addrCheck r.part (x.gran * 2097152) (r.count * 2097152)).any (fun f => f.1 == stDENIED) = true then
      gone.refuseX x.cmd stDENIED 0
    else if !s.windowable r.part x.gran r.count ∨ s.inRegion x.gran r.count ∨ x.expect = 2 ^ 64 - 1 then
      gone.refuse x.cmd stBAD dRANGE
    else if x.expect ≠ r.version then
      (gone.count 0x8110 0xF 1).done x.cmd stCONFLICT 0 (r.version % 2 ^ 32)
    else
      let y : PubWait := { x with active := true }
      let s1 : State := { s with host := { s.host with pubs := s.host.pubs.map (fun z => if z = x then y else z) } }
      let ls := s1.linesOver r.gran r.count ++ s1.linesOver x.gran r.count
      if ls.isEmpty then s1.swap y r else ls.foldl (fun u l => u.snoopLine l.1 l.2) s1

/-- The first PUBLISH of each region's sequence. -/
def heads (l : List PubWait) : List PubWait :=
  l.filter (fun x => (l.find? (fun y => y.region == x.region)) == some x)

/-- Every region's sequence moves on as far as it can: `n` bounds the PUBLISHes that wait. -/
def State.pubsOn (s : State) : Nat → State
  | 0 => s
  | n + 1 =>
    let s1 := (heads s.host.pubs).foldl (fun u x => if u.host.pubs.contains x then u.pubStep x else u) s
    if s1.host.pubs.length < s.host.pubs.length then State.pubsOn s1 n else s1

/-- Lines came back, or a hold ended: closings, PUBLISHes, ATOMICs and accesses that wait go on, in order. -/
def State.cxlAgain (s : State) : State :=
  let s1 := s.closings
  let s2 := (s1.pubsOn s1.host.pubs.length).atomsAgain
  s2.host.waiting.foldl (fun u a => u.serve a) { s2 with host := { s2.host with waiting := [] } }

/-! ## Events of the link -/

/-- A port outside 0 to 3 does not exist. -/
def withPort (p : Nat) (s : State) : Host.Outcome State Fault Refusal :=
  if 4 ≤ p then .fault (.noSuchUnit "port" p) else .next s

/-- CXL_MEM_ACCESS (R347): a write carries `data`, its bytes enabled by `mask`; a read takes the line with ownership when
`excl`. A port without CXL carries none. -/
def execCxlMemAccess (port hoff : Nat) (excl : Bool) (data : Option (List Byte)) (mask : Nat) (s : State) :
    Host.Outcome State Fault Refusal :=
  let a : Access := { port, hoff, excl, data, mask }
  withPort port (if (s.port port).link = 2 then s.serve a else s)

/-- SQ_TAIL_WRITE (R335): the host writes the word, or takes its line with ownership to write it there. -/
def execSqTailWrite (port fn id tail : Nat) (owned : Bool) (s : State) : Host.Outcome State Fault Refusal :=
  withPort port (
    match s.ring (ringKey fn 1 id) with
    | none => s
    | some r =>
      match s.windowOn port r.hidx with
      | none => s
      | some (_, hoff) =>
        if !r.coh ∨ fn / 64 ≠ port ∨ (s.port port).link ≠ 2 then s
        else
          let at_ := r.hidx % 64
          let a : Access := { port, hoff, excl := owned
                              data := if owned then none else some (List.replicate at_ 0 ++ leBytes 8 tail), mask := 255 * 2 ^ at_ }
          s.serve a)

/-- TAIL_SNOOP_DELAY (R335): the line of the tail word is recalled when the port's host holds it with ownership. -/
def execTailSnoopDelay (port fn id : Nat) (s : State) : Host.Outcome State Fault Refusal :=
  withPort port (
    match s.ring (ringKey fn 1 id) with
    | none => s
    | some r =>
      if r.coh ∧ fn / 64 = port ∧ (s.port port).lines.any (fun x => x.addr == r.hidx / 64 && x.owned) = true then
        s.snoopLine (r.hidx / 64) port
      else s)

/-- A dirty write-back for a line not recorded as held (R345): discarded and reported. -/
def State.lateBack (s : State) (p l : Nat) : State := (s.count 0x8110 0xB 1).raiseSec 0x1008 p 0 0 (p :: w2 (64 * l))

/-- Line `l` of port `p` returned with new content. -/
def State.lineBack (s : State) (p l : Nat) (b : List Byte) : State :=
  match s.windowOn p (64 * l) with
  | none => s.lineWrite p l b (2 ^ 64 - 1)
  | some (w, hoff) =>
    if w.ro ∨ s.protectedGran (l / 32768) ∨ s.unsealed p w.part then (s.count 0x8110 9 1).raiseSec 0x1007 p 0 0 (p :: w2 hoff)
    else if s.boot.bridge ∧ s.lineHalf l = 1 then s.heldWrite p l b (2 ^ 64 - 1)
    else s.lineWrite p l b (2 ^ 64 - 1)

/-- Port `p` no longer holds line `l`. -/
def State.unhold (s : State) (p l : Nat) : State :=
  s.updPort p (fun q => { q with lines := q.lines.filter (fun x => x.addr != l) })

/-- SNOOP_RESPONSE (R348): the line's new content, if it was changed; a shared copy may remain. -/
def execSnoopResponse (port line : Nat) (data : Option (List Byte)) (keepShared : Bool) (s : State) :
    Host.Outcome State Fault Refusal :=
  withPort port (
    match (s.port port).lines.find? (fun x => x.addr == line) with
    | none => if data.isSome then s.lateBack port line else s
    | some x =>
      let s1 := match data with
        | some b => if x.owned then s.lineBack port line b else s
        | none => s
      let s2 := if keepShared then s1.updPort port (fun q => { q with
          lines := q.lines.map (fun y => if y.addr = line then { y with owned := false, snooped := false } else y) })
        else s1.unhold port line
      s2.cxlAgain)

/-- DIRTY_WRITEBACK (R345). -/
def execDirtyWriteback (port line : Nat) (data : List Byte) (s : State) : Host.Outcome State Fault Refusal :=
  withPort port (
    if (s.port port).lines.any (fun x => x.addr == line && x.owned) then
      ((s.lineBack port line data).unhold port line).cxlAgain
    else s.lateBack port line)

/-! ## Host leases -/

/-- Are leases not waited on: start-up, test or restore (R345)? -/
def State.noWaiting (s : State) : Bool := s.boot.mode == 0 || s.boot.mode == 2 || s.ckptState == 4

/-- Port `p`'s lines are given up by poison (R345): the blocks with lines held with ownership. -/
def State.poisonLines (s : State) (p : Nat) : State :=
  let ls := ((s.port p).lines.filter (·.owned)).map (·.addr)
  let bs := (ls.map (· / 64)).eraseDups
  let s1 := (bs.foldl (fun u b => u.poisonBlock (4096 * b)) s).updPort p (fun q => { q with lines := [] })
  if bs.isEmpty then s1
  else (s1.count 0x8110 8 bs.length).raise 0x1005 0 0 (p :: bs.length :: w2 (4096 * (bs.head?.getD 0)))

/-- Port `p`'s lines are reclaimed (R345). -/
def State.reclaim (s : State) (p : Nat) : State :=
  let ls := ((s.port p).lines.filter (·.owned)).map (·.addr)
  let s1 := s.updPort p (fun q => { q with lines := [] })
  if ls.isEmpty then s1
  else (s1.count 0x8110 7 ls.length).raise 0x1004 0 0 (p :: ls.length :: w2 (64 * (ls.head?.getD 0)))

/-- The T3 extents added through functions satisfying `f` lapse (R101). -/
def State.lapseFns (s : State) (f : Nat → Bool) : State :=
  ((s.tiers.extents.filter (fun x => f x.2.fn)).foldl (fun u x => u.lapseExtent (x.1 / 128) (x.1 % 128)) s).ckptCheck

/-- The host lease of port `p` granted or extended to now + 0x1100.02 (R344). -/
def State.grantLease (s : State) (p : Nat) : State :=
  s.updPort p (fun q => { q with lease := true, leaseEnd := s.nowMs 0 + s.dval 0x1100 2 })

/-- HOST_LEASE_END (R344, R345). -/
def execHostLeaseEnd (port : Nat) (s : State) : Host.Outcome State Fault Refusal :=
  withPort port (
    if !(s.port port).lease then s
    else
      let s1 := (s.updPort port (fun q => { q with lease := false })).raise 0x1003 0 0 [port]
      let s2 := if s1.noWaiting then s1.poisonLines port else s1.reclaim port
      (s2.lapseFns (fun fn => fn / 64 == port)).cxlAgain)

/-- RENEW (R344, R354): aux is the lease length in ms. -/
def execRenew (fn sq : Nat) (d : Desc) (s : State) : Host.Outcome State Fault Refusal :=
  .next (s.take 0x82 fn sq d false (fun c _ => (s.grantLease (fn / 64)).done c stOK 0 (s.dval 0x1100 2)))

/-! ## Windows and regions -/

/-- WINDOW_OPEN (Table of R346). -/
def State.windowOpenCmd (s : State) (c : Cmd) (p : Nat) (d : Desc) : State :=
  let reg := dFlag d 24
  let r := dFld d 231 224
  let w := dFld d 239 232
  let hoff := dFld d 287 256
  let port := c.fn / 64
  let win : Window :=
    { reg, region := if reg then r else 0, gran := dFld d 183 149, count := dFld d 223 192, hoff, ro := dFlag d 25, fn := c.fn
      part := p, closing := false, closer := none, recalled := 0 }
  let n := (s.winRange win).2
  if 8388608 ≤ hoff ∨ (reg ∧ !s.host.regions.has r) ∨ (!reg ∧ (win.count = 0 ∨ dFld d 148 128 ≠ 0)) then s.refuse c stBAD dRANGE
  else if !reg ∧ (s.addrCheck p (win.gran * 2097152) (n * 2097152)).any (fun f => f.1 == stDENIED) = true then s.refuseX c stDENIED 0
  else if !reg ∧ !s.windowable p win.gran n then s.refuse c stBAD dRANGE
  else if reg ∧ (s.host.regions.get? r).any (fun x => x.part != p) = true then s.refuseX c stDENIED 0
  else if 8388608 < hoff + n ∨ (s.port port).windows.any (fun x => decide (x.2.hoff < hoff + n) &&
      decide (hoff < x.2.hoff + (s.winRange x.2).2)) = true then s.refuse c stBAD dRANGE
  else if (s.port port).link ≠ 2 then s.refuse c stBAD dRANGE
  else if (s.port port).windows.has w then s.refuse c stBAD dBUSY
  else if s.unsealed port p then s.refuse c stDENIED 0
  else (s.updPort port (fun q => { q with windows := q.windows.put w win })).done c stOK 0 w

/-- WINDOW_OPEN. -/
def execWindowOpen (fn sq : Nat) (d : Desc) (s : State) : Host.Outcome State Fault Refusal :=
  .next (s.take 0x85 fn sq d false (fun c p => s.windowOpenCmd c p d))

/-- WINDOW_CLOSE (R346). -/
def State.windowCloseCmd (s : State) (c : Cmd) (p : Nat) (d : Desc) : State :=
  match (s.port (c.fn / 64)).windows.get? (dFld d 239 232) with
  | none => s.refuse c stBAD dRANGE
  | some w =>
    if w.part ≠ p then s.refuseX c stDENIED 0
    else if w.closing then s.refuse c stBAD dBUSY
    else (s.startClose (c.fn / 64) (dFld d 239 232) w (some c)).cxlAgain

/-- WINDOW_CLOSE. -/
def execWindowClose (fn sq : Nat) (d : Desc) (s : State) : Host.Outcome State Fault Refusal :=
  .next (s.take 0x86 fn sq d false (fun c p => s.windowCloseCmd c p d))

/-- REGION_CREATE (R349). A region id in use is refused BUSY. -/
def State.regionCreateCmd (s : State) (c : Cmd) (p : Nat) (d : Desc) : State :=
  let r := dFld d 231 224
  let g := dFld d 183 149
  let n := dFld d 223 192
  if dFld d 148 128 ≠ 0 ∨ n = 0 then s.refuse c stBAD dRANGE
  else s.withAddr c p (dFld d 183 128) (n * 2097152)
    (if !s.windowable p g n ∨ s.inRegion g n then s.refuse c stBAD dRANGE
     else if s.host.regions.has r then s.refuse c stBAD dBUSY
     else
       let x : Region := { part := p, gran := g, count := n, version := 0, time := 0, pub := false, pubfn := 0 }
       ({ s with host := { s.host with regions := s.host.regions.put r x } }).done c stOK 0 r)

/-- REGION_CREATE. -/
def execRegionCreate (fn sq : Nat) (d : Desc) (s : State) : Host.Outcome State Fault Refusal :=
  .next (s.take 0x83 fn sq d false (fun c p => s.regionCreateCmd c p d))

/-- The ports with a window open on region `r`, as a mask. -/
def State.regionPorts (s : State) (r : Nat) : Nat :=
  ((List.range 4).map (fun p => if (s.port p).windows.any (fun w => w.2.reg && w.2.region == r) then 2 ^ p else 0)).foldl (· + ·) 0

/-- REGION_DELETE (R349). -/
def State.regionDeleteCmd (s : State) (c : Cmd) (p : Nat) (d : Desc) : State :=
  let r := dFld d 231 224
  match s.host.regions.get? r with
  | none => s.refuse c stBAD dRANGE
  | some x =>
    if x.part ≠ p then s.refuseX c stDENIED 0
    else if s.regionPorts r ≠ 0 ∨ s.host.pubs.any (fun y => y.region == r) then s.refuse c stBAD dBUSY
    else ({ s with host := { s.host with regions := s.host.regions.del r } }).done c stOK 0 r

/-- REGION_DELETE. -/
def execRegionDelete (fn sq : Nat) (d : Desc) (s : State) : Host.Outcome State Fault Refusal :=
  .next (s.take 0x84 fn sq d false (fun c p => s.regionDeleteCmd c p d))

/-- The publication record of region `r` (Table 16-4). -/
def State.regionRecord (s : State) (r : Nat) (x : Region) : Nat :=
  withPar (0x5052 * 2 ^ 496 + 2 ^ 488 + x.part * 2 ^ 482 + r * 2 ^ 474 + x.gran * 2097152 * 2 ^ 416 + x.count * 2 ^ 384
    + x.version % 2 ^ 64 * 2 ^ 320 + x.time % 2 ^ 48 * 2 ^ 272 + b2n x.pub * 2 ^ 271 + x.pubfn % 256 * 2 ^ 263
    + s.regionPorts r * 2 ^ 259) 8 7 0

/-- REGION_QUERY (R349). -/
def State.regionQueryCmd (s : State) (c : Cmd) (p : Nat) (d : Desc) : State :=
  let r := dFld d 231 224
  if dFld d 319 256 % 64 ≠ 0 then s.refuse c stBAD dRANGE
  else
    match s.host.regions.get? r with
    | none => s.refuse c stBAD dRANGE
    | some x =>
      if x.part ≠ p then s.refuseX c stDENIED 0
      else (s.dmaTo c.fn c.gen (dFld d 319 256) (leBytes 64 (s.regionRecord r x))).done c stOK 0 (x.version % 2 ^ 32)

/-- REGION_QUERY. -/
def execRegionQuery (fn sq : Nat) (d : Desc) (s : State) : Host.Outcome State Fault Refusal :=
  .next (s.take 0x88 fn sq d false (fun c p => s.regionQueryCmd c p d))

/-- PUBLISH (R350): taken into its region's sequence. -/
def State.publishCmd (s : State) (c : Cmd) (p : Nat) (d : Desc) : State :=
  let r := dFld d 231 224
  match s.host.regions.get? r with
  | none => s.refuse c stBAD dRANGE
  | some x =>
    if x.part ≠ p then s.refuseX c stDENIED 0
    else if dFld d 148 128 ≠ 0 ∨ dFld d 319 256 = 2 ^ 64 - 1 then s.refuse c stBAD dRANGE
    else
      let y : PubWait := { cmd := c, region := r, gran := dFld d 183 149, expect := dFld d 319 256, active := false }
      ({ s with host := { s.host with pubs := s.host.pubs ++ [y] } }).cxlAgain

/-- PUBLISH. -/
def execPublish (fn sq : Nat) (d : Desc) (s : State) : Host.Outcome State Fault Refusal :=
  .next (s.take 0x87 fn sq d false (fun c p => s.publishCmd c p d))

/-! ## The bridge (R24) -/

/-- BRIDGE_DOWN. -/
def execBridgeDown (s : State) : Host.Outcome State Fault Refusal := .next { s with boot := { s.boot with bridge := true } }

/-- What `w` is goes on, as the bridge is back (R24): a command as it was taken, or a GATHER of an endpoint. Nothing else waits so. -/
def State.unparkOne (s : State) (w : Option (Cmd × Nat) × Instr) : State :=
  match w.1, w.2 with
  | none, .gather src part hdr data crc => s.gatherMsg src part hdr data crc
  | some (c, p), .embGather _ sq d input => s.embGatherCmd c p sq d input
  | some (c, p), .embAdd _ sq d input => s.embAddCmd c p sq d input
  | some (c, p), .embSet _ sq d input => s.embSetCmd c p sq d input
  | some (c, p), .embRequant _ sq d => s.requantCmd c p sq d
  | some (c, p), .embFlush _ sq d => s.embFlushCmd c p sq d
  | some (c, p), .vsQuery _ _ d input => s.vecAgain (dFld d 485 480) (fun y => s.vsQueryCmd c p (dFld d 485 480) y d input)
  | some (c, p), .vsInsert _ _ d input => s.vecAgain (dFld d 261 256) (fun y => s.insertCmd c p (dFld d 261 256) y d input)
  | some (c, p), .vsDelete _ _ d input => s.vecAgain (dFld d 261 256) (fun y => s.deleteCmd c p (dFld d 261 256) y d input)
  | _, _ => s

/-- The commands and messages that waited for the bridge go on in the order in which they came; those still to come count as waiting
meanwhile (R237). -/
def State.unpark : List (Option (Cmd × Nat) × Instr) → State → State
  | [], s => s
  | w :: t, s => State.unpark t (({ s with fab := { s.fab with parked := t } } : State).unparkOne w)

/-- The bridge returns (R24, R343): held writes are applied to East in arrival order, blocks whose held writes were lost are
poisoned, and what waited goes on in order. -/
def State.bridgeReturns (s : State) : State :=
  let s1 : State := { s with
    boot := { s.boot with bridge := false }
    host := { s.host with held := [], heldLost := [] } }
  let s2 := s.host.heldLost.foldl (fun u l => u.poisonBlock (64 * l)) s1
  let s3 := s.host.held.foldl (fun u w =>
    (List.range 4).foldl (fun v p => v.observe p w.line)
      (u.memWrite (64 * w.line) (mergeLine (u.memRead (64 * w.line) 64) w.data w.mask))) s2
  let s4 := (((s3.unlatch 0x100C 0).deliverOwed).forwardWaiting).bridgeBack
  ((State.unpark s4.fab.parked s4).inputsBack).cxlAgain

/-- BRIDGE_UP. -/
def execBridgeUp (s : State) : Host.Outcome State Fault Refusal := .next s.bridgeReturns

end Sys2Proof.Machine
end

