-- ==== Sys2Proof/Machine/Clocks.lean ====
section
/-!
DEFINITION. Time (ch 19): the time maps of the ports, the device calendar and its copies, the lead lease with HOLD, and the loss
of the refclk.
-/

namespace Sys2Proof.Machine

/-! ## The time map (R404 to R406) -/

/-- The nearest integer of `num ÷ den`, ties to even. -/
def rneInt (num : Int) (den : Nat) : Int := if num < 0 then -((rneDiv num.natAbs den : Nat) : Int) else ((rneDiv num.natAbs den : Nat) : Int)

/-- e of R405 before its clamp, from samples (h1, s1) and (h2, s2). -/
def rateOf (h1 s1 h2 s2 : Nat) : Int :=
  rneInt (((h2 : Int) - h1 - ((s2 : Int) - s1)) * 1000000000) (s2 - s1)

/-- The clamp to ±1,000,000. -/
def clampRate (e : Int) : Int := max (-1000000) (min 1000000 e)

/-- The map after a sample `h` at island time `t`, and whether its rate was clamped. -/
def TimeMap.sample (m : TimeMap) (h t : Nat) : TimeMap × Bool :=
  if !m.have_ then ({ h, s := t, e := 0, have_ := true, valid := true }, false)
  else if m.s + 100000000 ≤ t then
    let e := rateOf m.h m.s h t
    ({ h, s := t, e := clampRate e, have_ := true, valid := true }, decide (clampRate e ≠ e))
  else ({ m with h, s := t, valid := true }, false)

/-- A host sample of port `p` (R404, R405): both halves' maps; a clamp is counted and raises event 0x9004. -/
def State.timeSample (s : State) (p h : Nat) : Except (Nat × Nat) State :=
  let m0 := s.timeMap p 0
  let m1 := s.timeMap p 1
  if (m0.have_ ∧ h ≤ m0.h) ∨ (m1.have_ ∧ h ≤ m1.h) then .error wRefused
  else
    let a := m0.sample h s.ns
    let b := m1.sample h s.ns
    let s1 : State := { s with clk := { s.clk with maps := (s.clk.maps.put (2 * p) a.1).put (2 * p + 1) b.1 } }
    let s2 := (((s1.count 0x8900 2 1).unlatch 0x9005 (2 * p)).unlatch 0x9005 (2 * p + 1)).mapTold
    .ok (if a.2 || b.2 then (s2.count 0x8900 3 1).raise 0x9004 0 0 [p] else s2)

/-- TIME_MAP_SAMPLE (R404). -/
def execTimeMapSample (o : Origin) (port : Nat) (v : List Byte) (t : Nat) (s : State) : Host.Outcome State Fault Refusal :=
  withPort port ((s.at t).writeRow o (0x9020 + port) 1 v (fun u => u.timeSample port (leNat v)))

/-- The map of port `p` on half `h` becomes invalid (R406): event 0x9005 once. -/
def State.mapInvalid (s : State) (p h : Nat) : State :=
  let m := s.timeMap p h
  if !m.have_ ∨ !m.valid then s
  else
    let s1 : State := { s with clk := { s.clk with maps := s.clk.maps.put (2 * p + h) { m with valid := false } } }
    s1.raiseOnce 0x9005 (2 * p + h) 0 h [p, h]

/-- The map of port `p` emptied on both halves (R404). -/
def State.mapEmpty (s : State) (p : Nat) : State :=
  let s1 := (s.mapInvalid p 0).mapInvalid p 1
  { s1 with clk := { s1.clk with maps := (s1.clk.maps.del (2 * p)).del (2 * p + 1) } }

/-- TIME_MAP_EMPTY (R404). -/
def execTimeMapEmpty (o : Origin) (port : Nat) (v : List Byte) (s : State) : Host.Outcome State Fault Refusal :=
  withPort port (s.writeRow o (0x9020 + port) 7 v (fun u => .ok (u.mapEmpty port)))

/-- TIME_MAP_INVALID (R406). -/
def execTimeMapInvalid (port half : Nat) (s : State) : Host.Outcome State Fault Refusal :=
  withPort port (s.mapInvalid port (half % 2))

/-! ## The device calendar (R407 to R410) -/

/-- A calendar time moved by `d` ms. -/
def shiftMs (d : Int) (t : Nat) : Nat := ((t : Int) + d).toNat

/-- A step of `d` ms adds `d` to every lease and hold in calendar time (R408). -/
def State.shiftLeases (s : State) (d : Int) : State :=
  { s with
    sess := { s.sess with dir := s.sess.dir.mapV (fun _ e => if e.olease = 0 then e else { e with olease := shiftMs d e.olease }) }
    host := { s.host with ports := s.host.ports.mapV (fun _ q => if q.lease then { q with leaseEnd := shiftMs d q.leaseEnd } else q) }
    tiers := { s.tiers with
      borrowed := s.tiers.borrowed.mapV (fun _ b => { b with leaseEnd := shiftMs d b.leaseEnd })
      lent := s.tiers.lent.mapV (fun _ l => { l with leaseEnd := shiftMs d l.leaseEnd }) }
    own := { s.own with
      staged := s.own.staged.mapV (fun _ c => if c.complete then { c with doneAt := shiftMs d c.doneAt } else c)
      frozenUntil := if s.own.frozenUntil = 0 then 0 else shiftMs d s.own.frozenUntil } }

/-- The copies that the calendar reaches take the value `n` (R409): a copy never runs backward. West is not reached while the
bridge is down. -/
def State.calReach (s : State) (n : Nat) : State :=
  let c := s.clk.cal
  let got := fun (h : Nat) => h = 1 ∨ !s.boot.bridge
  let cp := fun (h : Nat) => if got h then max (c.copy.get h) n else c.copy.get h
  { s with clk := { s.clk with cal := { c with copy := { w := cp 0, e := cp 1 } } } }

/-- The calendar steps to `n` (R407, R408): state SET, event 0x9001, written to eMRAM; daily counts restart on another day. -/
def State.calStep (s : State) (n : Nat) : State :=
  let old := s.clk.cal.now
  let s1 : State := { s with clk := { s.clk with cal := { s.clk.cal with st := 2, now := n, slew := 0, frac := 0, saved := n } } }
  let s2 := ((s1.shiftLeases ((n : Int) - old)).calReach n).dayRoll
  (s2.count 0x8900 1 1).raise 0x9001 0 0 (w2 old ++ w2 n)

/-- A slew of `d` ms starts (R407): event 0x9002. -/
def State.calSlew (s : State) (d : Int) : State :=
  let c := s.clk.cal
  let s1 : State := { s with clk := { s.clk with cal := { c with slew := d, frac := 0, saved := c.now } } }
  (s1.count 0x8900 1 1).raise 0x9002 0 0 [toW 32 d]

/-- The calendar set to `n` (Table 19-2). -/
def State.calSet (s : State) (n : Nat) : Except (Nat × Nat) State :=
  let d : Int := (n : Int) - s.clk.cal.now
  let lim : Int := s.dval 0x9010 3
  if s.clk.cal.st ≠ 2 then .ok (s.calStep n)
  else if -lim ≤ d ∧ d ≤ lim then .ok (s.calSlew d)
  else if lim < d ∨ s.inMaint then .ok (s.calStep n)
  else .error wRefused

/-- CALENDAR_SET (R407). -/
def execCalendarSet (o : Origin) (v : List Byte) (s : State) : Host.Outcome State Fault Refusal :=
  .next (s.writeRow o 0x9010 1 v (fun t => t.calSet (leNat v)))

/-- A millisecond of the calendar: in a slew it gains or loses the rate's share, and never runs backward (R407). -/
def Calendar.tick (c : Calendar) (ppm : Nat) : Calendar :=
  if c.slew = 0 then { c with now := c.now + 1, frac := 0 }
  else
    let f := c.frac + ppm
    if f < 1000000 then { c with now := c.now + 1, frac := f }
    else if 0 < c.slew then
      { c with now := c.now + 2, slew := c.slew - 1, frac := if c.slew = 1 then 0 else f - 1000000 }
    else { c with slew := c.slew + 1, frac := if c.slew = -1 then 0 else f - 1000000 }

/-- A half's copy as a millisecond passes (R409): with a value received it takes it unless it would run backward; without, it runs
1 ms past the last one, or on when it is free-running. The copy, its age and whether it runs free. -/
def copyTick (got : Bool) (last now copy age : Nat) (free : Bool) : Nat × Nat × Bool :=
  if got then (max copy now, 0, false)
  else if free then (copy + 1, age + 1, true)
  else (if age = 0 ∧ copy = last then copy + 1 else copy, age + 1, false)

/-- The calendar sent to the islands, once per millisecond (R409); a new day restarts the daily counts (R88, R273). -/
def State.calSend (s : State) : State :=
  let c := s.clk.cal
  let n := c.tick (s.dval 0x9010 4)
  let w := copyTick (!s.boot.bridge) c.now n.now c.copy.w c.age.w c.free.w
  let e := copyTick true c.now n.now c.copy.e c.age.e c.free.e
  let s1 : State := { s with clk := { s.clk with cal := { n with
    copy := { w := w.1, e := e.1 }, age := { w := w.2.1, e := e.2.1 }, free := { w := w.2.2, e := e.2.2 } } } }
  let s2 := if s.boot.bridge then s1 else s1.unlatch 0x9003 0
  s2.dayRoll

/-- CALENDAR_DISTRIBUTE. -/
def execCalendarDistribute (s : State) : Host.Outcome State Fault Refusal := .next s.calSend

/-- A half's copy runs free once no value came for 10 ms (R409): event 0x9003 once, with the island of its scheduler (log 50). -/
def State.freeRun (s : State) (h : Nat) : State :=
  let c := s.clk.cal
  if c.free.get h ∨ c.age.get h < 10 then s
  else
    let s1 : State := { s with clk := { s.clk with cal := { c with free := c.free.set h true } } }
    s1.raiseOnce 0x9003 h 0 h [if h = 0 then 40 else 87]

/-- CALENDAR_FREE_RUN. -/
def execCalendarFreeRun (half : Nat) (s : State) : Host.Outcome State Fault Refusal := .next (s.freeRun (half % 2))

/-- CALENDAR_PERSIST (R410). -/
def execCalendarPersist (s : State) : Host.Outcome State Fault Refusal :=
  .next { s with clk := { s.clk with cal := { s.clk.cal with saved := s.clk.cal.now } } }

/-! ## The lead lease (R416 to R420) -/

/-- `s` with half `h`'s lease changed by `f`. -/
def State.updLease (s : State) (h : Nat) (f : HalfLease → HalfLease) : State :=
  { s with clk := { s.clk with lease := s.clk.lease.upd h f } }

/-- The lead passes to half `h`: E increases by one and is persisted (R417). -/
def State.passLead (s : State) (h : Nat) : State :=
  let e := (s.clk.lead.epoch + 1) % 2 ^ 32
  let s1 : State := { s with clk := { s.clk with lead := { half := some h, epoch := e, moving := none } } }
  { s1 with dict := s1.dict.persist 0x9000 3 4 e }

/-- Nobody leads. -/
def State.noLead (s : State) : State := { s with clk := { s.clk with lead := { s.clk.lead with half := none, moving := none } } }

/-- A grant sent to half `h` (R416): the epoch, and the lead flag while it leads and no drop is awaited. -/
def State.sendGrant (s : State) (h : Nat) : State :=
  let flag := s.clk.lead.half == some h && s.clk.lead.moving.isNone
  (s.updLease h (fun l => { l with rotRuns := true })).emit (.inner 1 h (2 * s.clk.lead.epoch + b2n flag))

/-- The root-of-trust takes a renewal request of half `h` (R416, R417): East's does not arrive while the bridge is down, a half
whose control core stalls is granted nothing (R434), and while nobody leads the half takes the lead. -/
def State.rotAsked (s : State) (h : Nat) : State :=
  if (s.clk.lease.get h).stalled ∨ (h = 1 ∧ s.boot.bridge) then s
  else (if s.clk.lead.half.isNone then s.passLead h else s).sendGrant h

/-- Half `h` asks for renewal at `t`. -/
def State.askRenew (s : State) (h : Nat) : State :=
  ((s.updLease h (fun l => { l with sentAt := s.ns })).emit (.inner 0 h 0)).rotAsked h

/-- LEASE_RENEW_REQUEST. -/
def execLeaseRenewRequest (half t : Nat) (s : State) : Host.Outcome State Fault Refusal := .next ((s.at t).askRenew (half % 2))

/-- A grant arrives at half `h` (Table 19-5): the lease runs 10 ms from the request, lead duties follow the flag; from HOLD the half
returns to RUN with event 0x9011. A lead taken from another half is event 0x9012. -/
def State.granted (s : State) (h epoch : Nat) (lead : Bool) : State :=
  let l := s.clk.lease.get h
  let s1 := s.updLease h (fun x => { x with hold := false, ends := x.sentAt + 10000000, epoch, lead })
  let s2 := if lead && !l.lead && decide (l.epoch ≠ 0) && decide (l.epoch < epoch) then
      (s1.count 0x8900 5 1).raise 0x9012 0 h [h, epoch] else s1
  if l.hold then (s2.raise 0x9011 0 h [h, epoch]).afterHold else s2

/-- LEASE_GRANT. -/
def execLeaseGrant (half epoch : Nat) (lead : Bool) (t : Nat) (s : State) : Host.Outcome State Fault Refusal :=
  .next ((s.at t).granted (half % 2) (epoch % 2 ^ 32) lead)

/-- Half `h`'s lease ends (Table 19-5): HOLD, lead duties dropped, event 0x9010. -/
def State.leaseOver (s : State) (h : Nat) : State :=
  let l := s.clk.lease.get h
  if l.hold then s
  else
    ((s.updLease h (fun x => { x with hold := true, lead := false, ends := min x.ends s.ns })).count 0x8900 4 1).raise 0x9010 0 h
      [h, l.epoch]

/-- HALF_LEASE_END. -/
def execHalfLeaseEnd (half : Nat) (s : State) : Host.Outcome State Fault Refusal := .next (s.leaseOver (half % 2))

/-- Half `h`'s grant ends in the root-of-trust's view (R417): the lead half's passes to the other half while that holds a current
grant, else to the first that renews. -/
def State.rotEnd (s : State) (h : Nat) : State :=
  let s1 := s.updLease h (fun l => { l with rotRuns := false })
  if s1.clk.lead.half ≠ some h then s1
  else
    let o := otherHalf h
    if (s1.clk.lease.get o).rotRuns then (s1.passLead o).sendGrant o else s1.noLead

/-- ROT_GRANT_END. -/
def execRotGrantEnd (half : Nat) (s : State) : Host.Outcome State Fault Refusal := .next (s.rotEnd (half % 2))

/-- The lead moved to half `h` by a write (R417). -/
def State.leadMove (s : State) (h : Nat) : Except (Nat × Nat) State :=
  let l := s.clk.lead
  if l.half = some h then .ok s
  else if !(s.clk.lease.get h).rotRuns then .error wRefused
  else
    match l.half with
    | none => .ok ((s.passLead h).sendGrant h)
    | some p =>
      let s1 : State := { s with clk := { s.clk with lead := { l with moving := some h } } }
      .ok (s1.sendGrant p)

/-- LEAD_MOVE_WRITE. -/
def execLeadMoveWrite (o : Origin) (v : List Byte) (s : State) : Host.Outcome State Fault Refusal :=
  .next (s.writeRow o 0x9000 6 v (fun t => t.leadMove (leNat v)))

/-- The present lead has dropped its duties, or had 10.1 ms to (R417): the half named takes the lead while its grant runs, else the
first that renews. -/
def State.leadDropped (s : State) : State :=
  match s.clk.lead.moving with
  | none => s
  | some h => if (s.clk.lease.get h).rotRuns then (s.passLead h).sendGrant h else s.noLead

/-- LEAD_DROP_ACK. -/
def execLeadDropAck (s : State) : Host.Outcome State Fault Refusal := .next s.leadDropped

/-- A message of a lead duty with epoch `e` arrives at half `h` (R418): a lower one is refused and answered with the half's own; at
a higher one the half yields and asks for renewal at once, but in HOLD takes it from the next grant. -/
def State.leadMsg (s : State) (h e : Nat) : State :=
  let l := s.clk.lease.get h
  if e < l.epoch then
    ((s.count 0x8900 9 1).raise 0x9013 0 h [h, e, l.epoch]).emit (.inner 2 h l.epoch)
  else if l.epoch < e ∧ !l.hold then (s.updLease h (fun x => { x with lead := false })).askRenew h
  else s

/-- LEAD_MESSAGE. -/
def execLeadMessage (half epoch : Nat) (s : State) : Host.Outcome State Fault Refusal := .next (s.leadMsg (half % 2) epoch)

/-! ## The refclk (R425) -/

/-- REFCLK_LOSS: both halves act as in HOLD without a change of their leases; in service counted, with event 0xF006. At its start-up
the device waits for it. -/
def execRefclkLoss (s : State) : Host.Outcome State Fault Refusal :=
  let s1 : State := { s with boot := { s.boot with refLost := true } }
  .next (
    if s.boot.refLost then s
    else if s.boot.mode = 0 then s1
    else (s1.count 0x8F00 6 1).raise 0xF006 0 0 [0])

/-- REFCLK_RETURN: the hold ends, event 0xF006. -/
def execRefclkReturn (s : State) : Host.Outcome State Fault Refusal :=
  let s1 : State := { s with boot := { s.boot with refLost := false } }
  .next (
    if !s.boot.refLost then s
    else if s.boot.mode = 0 then s1
    else (s1.raise 0xF006 0 0 [1]).afterHold)

end Sys2Proof.Machine
end

