-- ==== Sys2Proof/Machine/HostFn.lean ====
section
/-!
DEFINITION. Ports and functions (ch 16, R432): link up and down, PERST#, function resets, IDE streams and TDISP.
-/

namespace Sys2Proof.Machine

/-- Does the bifurcation in force form port `p` (R328)? -/
def State.portFormed (s : State) (p : Nat) : Bool :=
  decide (p < (if s.host.bifur = 0 then 1 else if s.host.bifur = 1 then 2 else 4))

/-- The secured sessions whose ids satisfy `f` end (R362): their Dictionary transactions with them, not applied. -/
def State.endSessions (s : State) (f : Nat → Bool) : State :=
  let gone : Origin → Bool := fun o => match o with
    | .session sid => f sid
    | _ => false
  { s with
    sec := { s.sec with sess := s.sec.sess.keep (fun k _ => !f k) }
    dict := { s.dict with
      pend := s.dict.pend.filter (fun x => !gone x.1)
      staged := s.dict.staged.filter (fun x => !gone x.o)
      snaps := s.dict.snaps.filter (fun x => !gone x.o) } }

/-- SPDM on a transport satisfying `f` ends (R362, R373). -/
def State.endSpdm (s : State) (f : Via → Bool) : State :=
  let s1 := s.endSessions (fun k => ((s.sec.sess.get? k).map (fun x => f x.via)).getD false)
  { s1 with sec := { s1.sec with conns := s1.sec.conns.filter (fun c => !f c.via) } }

/-- Is the transport a DOE mailbox of a function satisfying `f`? -/
def viaDoe (f : Nat → Bool) : Via → Bool
  | .doe fn => f fn
  | .net _ => false

/-! ## Function reset -/

/-- The requests submitted through function `fn` are taken as CANCEL (R340). -/
def State.cancelFn (s : State) (fn : Nat) : State :=
  (s.sess.slots.filter (fun r => r.2.cmd.fn == fn && r.2.relay.isNone)).foldl (fun u r =>
    let i := r.2.idx
    let e := u.ent i
    if !e.sv ∨ e.slot ≠ r.1 ∨ !u.sess.slots.has r.1 then u
    else if e.state = .live then (u.updEnt i (fun x => { x with cp := true })).atBoundary i
    else u.endNow i stCANCELLED 0) s

/-- The function reset of R340 for `cause`: 0 Function Level Reset, 1 VF disable, 2 binding change, 3 TDISP unlock, 4 PERST#
(log 41). -/
def State.fnReset (s : State) (fn cause : Nat) : State :=
  let mine := fun v : Nat => v / 2048 == fn
  let s1 : State := { s with
    host := { s.host with
      rings := s.host.rings.keep (fun _ r => r.fn != fn)
      fnGen := s.host.fnGen.put fn (s.gen fn + 1)
      unmasked := s.host.unmasked.filter (fun v => !mine v)
      pendingV := s.host.pendingV.filter (fun v => !mine v)
      dma := s.host.dma.filter (fun r => r.fn != fn)
      dmaHeld := s.host.dmaHeld.filter (fun w => w.fn != fn) }
    boxes := s.boxes.del fn
    dict := { s.dict with
      vals := s.dict.vals.del (fkey fn 0x1050 1)
      staged := s.dict.staged.filter (fun x => x.o != .mailbox fn)
      pend := s.dict.pend.filter (fun x => x.1 != .mailbox fn) }
    sess := { s.sess with bufs := s.sess.bufs.filter (fun b => b.cmd.fn != fn) }
    ev := { s.ev with latch := s.ev.latch.keep (fun k _ => !(k / 2 ^ 40 == 0x1009 && k % 2 ^ 40 / 2048 == fn)) } }
  let s2 := s1.cancelFn fn
  let s3 := ((s2.port (fn / 64)).windows.filter (fun w => w.2.fn == fn && !w.2.closing)).foldl
    (fun u w => u.startClose (fn / 64) w.1 w.2 none) s2
  let s4 := ((s3.lapseFns (fun f => f == fn)).endSpdm (viaDoe (fun f => f == fn))).cxlAgain
  s4.raise 0x100A ((s4.fnPart fn).getD 0) 0 [fn, cause]

/-- FUNCTION_RESET (R340). -/
def execFunctionReset (fn cause : Nat) (s : State) : Host.Outcome State Fault Refusal :=
  if 256 ≤ fn then .fault (.noSuchUnit "function" fn) else .next (s.fnReset fn cause)

/-! ## Links -/

/-- Port `p`'s link goes down (Table 16-10): accesses that wait for it are over, SPDM sessions of its mailboxes end (R362), and
in start-up, test or restore its lines are poisoned (R345). -/
def State.portDown (s : State) (p : Nat) : State :=
  if (s.port p).link = 0 then s
  else
    let s1 := (s.updPort p (fun q => { q with
      link := 0, lanes := 0, rate := 0, lines := q.lines.map (fun x => { x with snooped := false }) })).raise 0x1002 0 0 [p]
    let s2 : State := { s1 with host := { s1.host with waiting := s1.host.waiting.filter (fun a => a.port != p) } }
    let s3 := s2.endSpdm (viaDoe (fun fn => fn / 64 == p))
    if s3.noWaiting then (s3.poisonLines p).cxlAgain else s3

/-- PCIE_LINK_DOWN. -/
def execPcieLinkDown (port : Nat) (s : State) : Host.Outcome State Fault Refusal := withPort port (s.portDown port)

/-- PCIE_LINK_UP (R344): the host lease is granted, and snoops held for the link go out. A port that is not formed, is held in
PERST# or that recovery keeps down does not train (R328, R432, R444). -/
def execPcieLinkUp (port lanes rate : Nat) (cxl : Bool) (s : State) : Host.Outcome State Fault Refusal :=
  withPort port (
    if !s.portFormed port ∨ (s.port port).perst ∨ s.boot.mode = 3 ∨ s.dark then s
    else
      let s1 := s.updPort port (fun q => { q with link := if cxl then 2 else 1, lanes, rate })
      ((s1.raise 0x1001 0 0 [port, lanes, rate, b2n cxl]).grantLease port).cxlAgain)

/-- The IDE bits of 0x1110 + p, subindex 0x07. -/
def ideBits (l : List Nat) (p : Nat) : Nat :=
  b2n (l.contains (256 * p)) + 2 * b2n ([1, 2, 3, 4].any (fun k => l.contains (256 * p + k))) + 4 * b2n (l.contains (256 * p + 5))

/-- The secure streams are `l` from now on. -/
def State.setStreams (s : State) (l : List Nat) : State :=
  let s1 : State := { s with host := { s.host with ideStreams := l } }
  (List.range 4).foldl (fun u p => if (u.port p).ide = ideBits l p then u else u.updPort p (fun q => { q with ide := ideBits l p })) s1

/-- PERST (R432): link down, every function reset, IDE keys discarded, every TDI CONFIG_UNLOCKED. -/
def execPerst (port : Nat) (s : State) : Host.Outcome State Fault Refusal :=
  withPort port (
    if !s.portFormed port then s
    else
      let s1 := (s.portDown port).updPort port (fun q => { q with perst := true })
      let s2 : State := { s1 with host := { s1.host with
        tdi := s1.host.tdi.keep (fun fn _ => fn / 64 != port)
        ideDown := s1.host.ideDown.keep (fun fn _ => fn / 64 != port) } }
      let s3 := s2.setStreams (s2.host.ideStreams.filter (fun x => x / 256 != port))
      ((List.range 64).foldl (fun u f => u.fnReset (64 * port + f) 4) s3).recheckStops)

/-- PERST_DEASSERT (R432): the port may train. -/
def execPerstDeassert (port : Nat) (s : State) : Host.Outcome State Fault Refusal :=
  withPort port (if s.portFormed port then s.updPort port (fun q => { q with perst := false }) else s)

/-! ## IDE and TDISP -/

/-- IDE_FAILURE (R352): the stream becomes insecure, and the function of it stands still if it needs one. -/
def execIdeFailure (port stream fn : Nat) (s : State) : Host.Outcome State Fault Refusal :=
  withPort port (
    let key := 256 * port + stream % 256
    let s1 := s.setStreams (s.host.ideStreams.filter (fun x => x != key))
    let s2 : State := { s1 with host := { s1.host with ideDown := s1.host.ideDown.put fn key } }
    ((s2.count 0x8110 0xD 1).raise 0x100B ((s2.fnPart fn).getD 0) 0 [port, fn, stream]).recheckStops)

/-- Is `sid` a secured session over a DOE mailbox of a function satisfying `f`? -/
def State.doeSession (s : State) (sid : Nat) (f : Nat → Bool) : Bool :=
  match s.sec.sess.get? sid with
  | some x => x.open_ && viaDoe f x.via
  | none => false

/-- IDE_KM (R352): keys of a stream set or stopped, in a secured session over function 0's mailbox; answered KP_ACK (3) or
K_SET_GOSTOP_ACK (6), and not at all outside one (log 40). -/
def execIdeKm (port stream sid : Nat) (install : Bool) (s : State) : Host.Outcome State Fault Refusal :=
  withPort port (
    if !s.doeSession sid (fun fn => fn == 64 * port) ∨ 5 < stream then s
    else
      let key := 256 * port + stream
      let rest := s.host.ideStreams.filter (fun x => x != key)
      let s1 := s.setStreams (if install then rest ++ [key] else rest)
      let s2 : State := if install then { s1 with host := { s1.host with ideDown := s1.host.ideDown.keep (fun _ v => v != key) } } else s1
      (s2.recheckStops).emit (.tdisp (64 * port) (if install then 3 else 6)))

/-- TDI of function `fn` in state `x`. -/
def State.setTdi (s : State) (fn x : Nat) : State :=
  { s with host := { s.host with tdi := if x = 0 then s.host.tdi.del fn else s.host.tdi.put fn x } }

/-- The TDI of function `fn` enters ERROR (R353): event 0x100B, its fetching and DMA stop. -/
def State.tdiError (s : State) (fn : Nat) : State :=
  ((s.setTdi fn 3).raise 0x100B ((s.fnPart fn).getD 0) 0 [fn / 64, fn, 0]).recheckStops

/-- TDISP_MESSAGE (R353): the request `code` of TDISP 1.0 for virtual function `fn` (log 42), answered by its response code, or
0x7F for an error. -/
def execTdispMessage (fn code sid : Nat) (s : State) : Host.Outcome State Fault Refusal :=
  if 256 ≤ fn then .fault (.noSuchUnit "function" fn)
  else
    let st := s.host.tdi.getD fn 0
    let err := s.emit (.tdisp fn 0x7F)
    .next (
      if !s.doeSession sid (fun f => f / 64 == fn / 64) then s
      else if fn % 64 = 0 then err
      else
        match code with
        | 0x81 => s.emit (.tdisp fn 0x01)
        | 0x82 => s.emit (.tdisp fn 0x02)
        | 0x83 => if st = 0 then (s.setTdi fn 1).emit (.tdisp fn 0x03) else err
        | 0x84 => if st = 1 ∨ st = 2 then s.emit (.tdisp fn 0x04) else err
        | 0x85 => s.emit (.tdisp fn 0x05)
        | 0x86 => if st = 1 then (s.setTdi fn 2).emit (.tdisp fn 0x06) else err
        | 0x87 =>
          let s1 := if st = 0 then s else ((s.setTdi fn 0).fnReset fn 3).recheckStops
          s1.emit (.tdisp fn 0x07)
        | _ => err)

end Sys2Proof.Machine
end

