-- ==== Sys2Proof/Machine/Spdm.lean ====
section
/-!
DEFINITION. The SPDM responder (R359 to R363): certificates, measurements, secured sessions and their principals. The byte
layout of messages is that of SPDM 1.3 (log 43); digests, signatures, tags and keys are Config's (log 9).
-/

namespace Sys2Proof.Machine

/-! ## Identity -/

/-- The bytes of the firmware slot in use. -/
def State.firmware (s : State) : List Byte := (s.boot.slots.get s.boot.use).bytes

/-- A digest by SHA-384 (48 bytes). -/
def sha384 (b : List Byte) : List Byte := fitBytes 48 (Config.crypto 10 [] b)

/-- The certificate chain of slot 0 (R359): it depends on the firmware through the Alias and Attestation certificates. -/
def State.chain0 (s : State) : List Byte := Config.crypto 11 [] s.firmware

/-- The import certificate. -/
def importCert : List Byte := Config.crypto 12 [] []

/-- The DeviceID public key, 96 bytes. -/
def deviceKey : List Byte := (List.range 96).map (Config.secretByte 1)

/-- The import public key, 96 bytes. -/
def importKey : List Byte := (List.range 96).map (Config.secretByte 2)

/-- The Attestation public key under the firmware in use. -/
def State.attestKey (s : State) : List Byte := fitBytes 96 (Config.crypto 13 [] s.firmware)

/-- The chain of slot 1, empty while none is installed, and once the Attestation key is another (R359). -/
def State.chain1 (s : State) : List Byte := if s.sec.chainKey == s.attestKey then s.dbytes 0x7010 2 else []

/-- Does the leaf of chain `c` certify the current Attestation public key (R359)? -/
def State.chainOk (s : State) (c : List Byte) : Bool := Config.cryptoOk 7 s.attestKey c

/-- The security versions and slot that measurement 5 covers. -/
def State.meas5 (s : State) : List Byte :=
  (List.range 3).flatMap (fun i => leBytes 4 (nth s.boot.secver i 0)) ++ leBytes 1 s.boot.use

/-- The enabled partitions, bit p (0x7000.01). -/
def State.partMask (s : State) : Nat := ((List.range 64).map (fun p => if s.partOn p then 2 ^ p else 0)).foldl (· + ·) 0

/-- What measurement 6 covers (Table 17-2). -/
def State.meas6 (s : State) : List Byte :=
  leBytes 1 (s.dval 0x1100 1) ++ leBytes 8 s.partMask ++ leBytes 1 (s.dval 0x7000 2) ++ leBytes 4 s.mapDigest
    ++ (List.range 256).map (fun fn => BitVec.ofNat 8 (if fn % 64 = 0 then 0 else s.dval (0x7080 + fn / 64) (1 + fn % 64)))

/-- The partition record of `p` that measurement 0x10 + p covers (Table 17-2). -/
def State.measPart (s : State) (p : Nat) : List Byte :=
  leBytes 1 p ++ leBytes 1 (b2n (s.partOn p)) ++ fitBytes 96 (s.dbytes (0x7040 + p) 2) ++ leBytes 1 (b2n (s.sec.memKeys.has p))
    ++ leBytes 1 (b2n (s.sec.linkKeys.has p)) ++ leBytes 1 (s.dval (0x7040 + p) 6)
    ++ (List.range 4).flatMap (fun i => leBytes 8 (s.dval (0x2240 + p) (1 + i)))
    ++ leBytes 32 (((List.range 256).map (fun fn => if s.fnPart fn = some p then 2 ^ fn else 0)).foldl (· + ·) 0)
    ++ leBytes 1 (s.dval 0x7000 2)

/-- The body of the image whose header is at byte `at_` of bundle `b`: off, len (Table 20-6). -/
def imageBody (b : List Byte) (at_ : Nat) : Nat × Nat := (leAt b (at_ + 24) 4, leAt b (at_ + 28) 4)

/-- The image of kind `k` of the bundle in use, which measurement `k` covers. -/
def State.fwImage (s : State) (k : Nat) : List Byte :=
  let o := imageBody s.firmware (256 * k - 384)
  slice s.firmware o.1 o.2

/-- The ROM image: its bytes are the maker's (log 9). -/
def romImage : List Byte := Config.crypto 22 [] []

/-- What measurement 1 covers, the firmware-independent one of R1 (Table 17-2): the ROM image, the ordering code and the stepping. -/
def meas1 : List Byte := romImage ++ ascii "OCL-SC2-A" ++ leBytes 2 0x00B0

/-- The digest of measurement `n`, none when there is none: indices 1 to 5 are fixed at start-up, 6 and 0x10 + p computed. -/
def State.measure (s : State) (n : Nat) : Option (List Byte) :=
  if n = 1 then some (sha384 meas1)
  else if 2 ≤ n ∧ n ≤ 4 then some (sha384 (s.fwImage n))
  else if n = 5 then some (sha384 s.meas5)
  else if n = 6 then some (sha384 s.meas6)
  else if 0x10 ≤ n ∧ n < 0x50 then some (sha384 (s.measPart (n - 0x10)))
  else none

/-- The indices of measurements. -/
def measIndices : List Nat := [1, 2, 3, 4, 5, 6] ++ (List.range 64).map (· + 0x10)

/-- The DMTF value type of measurement `n` (Table 17-2): 0 ROM, 1 firmware, 2 hardware configuration, 3 firmware
configuration. -/
def measType (n : Nat) : Nat := if n = 1 then 0 else if n ≤ 4 then 1 else if n = 5 then 3 else 2

/-- The DMTF measurement block of index `n`. -/
def measBlock (n : Nat) (d : List Byte) : List Byte :=
  leBytes 1 n ++ leBytes 1 1 ++ leBytes 2 (3 + d.length) ++ leBytes 1 (measType n) ++ leBytes 2 d.length ++ d

/-! ## Connections -/

/-- A transport on which nothing has been asked yet. -/
def SpdmConn.blank (via : Via) : SpdmConn :=
  { via, stage := 0, chunkIn := [], chunkHandle := 0, chunkNext := 0, chunkOut := [], outHandle := 0, outNext := 0, transcript := [] }

/-- The connection on transport `via`. -/
def State.conn (s : State) (via : Via) : SpdmConn := (s.sec.conns.find? (fun c => c.via == via)).getD (SpdmConn.blank via)

/-- `s` with the connection of its transport replaced by `c`. -/
def State.setConn (s : State) (c : SpdmConn) : State :=
  { s with sec := { s.sec with conns := s.sec.conns.filter (fun x => x.via != c.via) ++ [c] } }

/-- The transport as events name it: the function number, 256 for the field network (log 43). -/
def viaCode : Via → Nat
  | .doe fn => fn
  | .net _ => 256

/-- Bytes `b` go to the requester. -/
def State.spdmOut (s : State) (via : Via) (sid : Option Nat) (b : List Byte) : State := s.emit (.spdm via sid b)

/-- ERROR with code `e` and data `d`. -/
def State.spdmErr (s : State) (via : Via) (sid : Option Nat) (e d : Nat) : State :=
  s.spdmOut via sid (leBytes 1 0x13 ++ leBytes 1 0x7F ++ leBytes 1 e ++ leBytes 1 d)

/-- Response `code` with its two parameters and payload; one longer than DataTransferSize waits for CHUNK_GET (Table 17-3). -/
def State.spdmAns (s : State) (via : Via) (sid : Option Nat) (code p1 p2 : Nat) (b : List Byte) : State :=
  let m := leBytes 1 (if code = 4 then 0x10 else 0x13) ++ leBytes 1 code ++ leBytes 1 p1 ++ leBytes 1 p2 ++ b
  let c := s.conn via
  let c1 : SpdmConn := { c with transcript := c.transcript ++ m }
  if m.length ≤ 4096 then (s.setConn c1).spdmOut via sid m
  else
    let h := (c.outHandle + 1) % 256
    let c2 : SpdmConn := { c1 with chunkOut := m, outHandle := h, outNext := 0 }
    (s.setConn c2).spdmOut via sid (leBytes 1 0x13 ++ leBytes 1 0x7F ++ leBytes 1 0x0F ++ leBytes 1 0 ++ leBytes 1 h)

/-- Byte `i` of a message. -/
def msgB (m : List Byte) (i : Nat) : Nat := (nth m i 0).toNat

/-- The codes of SPDM error responses. -/
def eInvalid : Nat := 0x01
/-- UnexpectedRequest. -/
def eUnexpected : Nat := 0x04
/-- Unspecified. -/
def eUnspecified : Nat := 0x05
/-- DecryptError. -/
def eDecrypt : Nat := 0x06
/-- UnsupportedRequest. -/
def eUnsupported : Nat := 0x07
/-- SessionLimitExceeded. -/
def eLimit : Nat := 0x0A
/-- SessionRequired. -/
def eSession : Nat := 0x0B
/-- VersionMismatch. -/
def eVersion : Nat := 0x41

/-- A request of `code` that came on `via`, in session `sid` if any, at time `t`: `need` the progress asked for, `where_` 0 only
outside a session, 1 in either, 2 only inside one, 3 also while the handshake runs. Nothing answers in recovery (R444). -/
def State.spdmIn (s0 : State) (via : Via) (sid : Option Nat) (msg : List Byte) (t code need where_ : Nat) (k : State → State) : State :=
  let s := s0.at t
  if s.boot.mode = 3 ∨ s.boot.off then s
  else if msg.length < 4 ∨ msgB msg 1 ≠ code then s.spdmErr via sid eInvalid 0
  else if msgB msg 0 ≠ (if code = 0x84 then 0x10 else 0x13) then s.spdmErr via sid eVersion 0
  else
    match sid with
    | some n =>
      match s.sec.sess.get? n with
      | none => s.spdmErr via none eSession 0
      | some x =>
        if x.via ≠ via then s.spdmErr via none eSession 0
        else if where_ = 0 ∨ (!x.open_ ∧ where_ ≠ 3) then s.spdmErr via sid eUnexpected 0
        else k { s with sec := { s.sec with sess := s.sec.sess.put n { x with last := s.ns } } }
    | none =>
      if 2 ≤ where_ then s.spdmErr via sid eSession 0
      else if (s.conn via).stage < need then s.spdmErr via sid eUnexpected 0
      else
        let c := s.conn via
        k (s.setConn { c with transcript := c.transcript ++ msg })

/-- Bytes drawn from the DRBG, 16 each time (R357). -/
def State.draw (s : State) (n : Nat) : List Byte × State :=
  (((List.range n).flatMap (fun i => leBytes 16 (Config.drbg (s.sec.draws + i)).toNat)),
   { s with sec := { s.sec with draws := s.sec.draws + n } })

/-- A signature by the Attestation key over `b`; its value takes one from the DRBG (R361). -/
def State.sign (s : State) (b : List Byte) : List Byte × State :=
  let r := s.draw 1
  (fitBytes 96 (Config.crypto 15 (s.attestKey ++ r.1) b), r.2)

/-! ## Requests outside sessions -/

/-- GET_VERSION: version 1.3 only. -/
def State.getVersion (s : State) (via : Via) (sid : Option Nat) (msg : List Byte) (t : Nat) : State :=
  s.spdmIn via sid msg t 0x84 0 0 (fun s =>
    (s.setConn { SpdmConn.blank via with stage := 1, transcript := msg }).spdmAns via sid 0x04 0 0
      (leBytes 1 0 ++ leBytes 1 1 ++ leBytes 2 0x1300))

/-- The capability flags of Table 17-3 in SPDM 1.3's places: CERT 1, CHAL 2, MEAS 3-4 (with signature), MEAS_FRESH 5, ENCRYPT 6,
MAC 7, MUT_AUTH 8, KEY_EX 9, ENCAP 12, HBEAT 13, KEY_UPD 14, CHUNK 17, SET_CERT 19. -/
def capFlags : Nat :=
  2 ^ 1 + 2 ^ 2 + 2 * 2 ^ 3 + 2 ^ 5 + 2 ^ 6 + 2 ^ 7 + 2 ^ 8 + 2 ^ 9 + 2 ^ 12 + 2 ^ 13 + 2 ^ 14 + 2 ^ 17 + 2 ^ 19

/-- The connection of `via` advanced to stage `n`. -/
def State.stageTo (s : State) (via : Via) (n : Nat) : State := let c := s.conn via; s.setConn { c with stage := max c.stage n }

/-- GET_CAPABILITIES: the capabilities, DataTransferSize 4,096 and MaxSPDMmsgSize 65,536. -/
def State.getCapabilities (s : State) (via : Via) (sid : Option Nat) (msg : List Byte) (t : Nat) : State :=
  s.spdmIn via sid msg t 0xE1 1 0 (fun s =>
    (s.stageTo via 2).spdmAns via sid 0x61 0 0
      (leBytes 4 0 ++ leBytes 4 capFlags ++ leBytes 4 4096 ++ leBytes 4 65536))

/-- NEGOTIATE_ALGORITHMS: the one choice of Table 17-3; a request that does not offer ECDSA P-384 and SHA-384 is invalid. -/
def State.negotiate (s : State) (via : Via) (sid : Option Nat) (msg : List Byte) (t : Nat) : State :=
  s.spdmIn via sid msg t 0xE3 2 0 (fun s =>
    if !bitN (leAt msg 8 4) 7 ∨ !bitN (leAt msg 12 4) 1 then s.spdmErr via sid eInvalid 0
    else (s.stageTo via 3).spdmAns via sid 0x63 4 0
      (leBytes 2 52 ++ leBytes 1 1 ++ leBytes 1 0 ++ leBytes 4 2 ++ leBytes 4 0x80 ++ leBytes 4 2 ++ leBytes 12 0 ++ leBytes 4 0
        ++ leBytes 2 0x2002 ++ leBytes 2 0x10 ++ leBytes 2 0x2003 ++ leBytes 2 2 ++ leBytes 2 0x2004 ++ leBytes 2 0x80
        ++ leBytes 2 0x2005 ++ leBytes 2 1))

/-- The certificate slots in use, as a mask. -/
def State.slotMask (s : State) : Nat := if s.chain1.isEmpty then 1 else 3

/-- The chain of certificate slot `k`. -/
def State.chainOf (s : State) (k : Nat) : List Byte := if k = 0 then s.chain0 else if k = 1 then s.chain1 else []

/-- GET_DIGESTS. -/
def State.getDigests (s : State) (via : Via) (sid : Option Nat) (msg : List Byte) (t : Nat) : State :=
  s.spdmIn via sid msg t 0x81 3 1 (fun s =>
    s.spdmAns via sid 0x01 3 s.slotMask (sha384 s.chain0 ++ (if s.chain1.isEmpty then [] else sha384 s.chain1)))

/-- GET_CERTIFICATE (R359): a portion of a slot's chain. -/
def State.getCertificate (s : State) (via : Via) (sid : Option Nat) (msg : List Byte) (t : Nat) : State :=
  s.spdmIn via sid msg t 0x82 3 1 (fun s =>
    let k := msgB msg 2 % 16
    let c := s.chainOf k
    let off := leAt msg 4 2
    if c.isEmpty ∨ c.length ≤ off then s.spdmErr via sid eInvalid 0
    else
      let b := slice c off (leAt msg 6 2)
      s.spdmAns via sid 0x02 k 0 (leBytes 2 b.length ++ leBytes 2 (c.length - off - b.length) ++ b))

/-- CHALLENGE (R361): signed by the Attestation key; needs random values (R357). -/
def State.challenge (s : State) (via : Via) (sid : Option Nat) (msg : List Byte) (t : Nat) : State :=
  s.spdmIn via sid msg t 0x83 3 0 (fun s =>
    let k := msgB msg 2
    if (s.chainOf k).isEmpty ∨ msg.length < 36 then s.spdmErr via sid eInvalid 0
    else if s.sec.entropyBad then s.spdmErr via sid eUnspecified 0
    else
      let n := s.draw 2
      let sum := if msgB msg 3 = 0 then [] else sha384 (measIndices.flatMap (fun i => (n.2.measure i).getD []))
      let body := sha384 (s.chainOf k) ++ n.1 ++ sum ++ leBytes 2 0 ++ slice msg 36 8
      let g := n.2.sign ((n.2.conn via).transcript ++ body)
      g.2.spdmAns via sid 0x03 k s.slotMask (body ++ g.1))

/-- GET_MEASUREMENTS (R360): the number of blocks, one block or all, signed when asked. -/
def State.getMeasurements (s : State) (via : Via) (sid : Option Nat) (msg : List Byte) (t : Nat) : State :=
  s.spdmIn via sid msg t 0xE0 3 1 (fun s =>
    let sg := bitN (msgB msg 2) 0
    let op := msgB msg 3
    let ns := if op = 0 then [] else if op = 0xFF then measIndices else [op]
    if ns.any (fun n => (s.measure n).isNone) then s.spdmErr via sid eInvalid 0
    else if s.sec.entropyBad then s.spdmErr via sid eUnspecified 0
    else
      let rec_ := ns.flatMap (fun n => measBlock n ((s.measure n).getD []))
      let d := s.draw 2
      let body := leBytes 1 ns.length ++ leBytes 3 rec_.length ++ rec_ ++ d.1 ++ leBytes 2 0 ++ slice msg (if sg then 37 else 4) 8
      let p1 := if op = 0 then measIndices.length else 0
      if sg then
        let g := d.2.sign ((d.2.conn via).transcript ++ body)
        g.2.spdmAns via sid 0x60 p1 0 (body ++ g.1)
      else d.2.spdmAns via sid 0x60 p1 0 body)

/-! ## Sessions -/

/-- Is a session limit reached on transport `via` (R362): 4 per mailbox, 16 over the field network, 32 in all? -/
def State.spdmFull (s : State) (via : Via) : Bool :=
  let here := s.sec.sess.filter (fun x => match via, x.2.via with
    | .doe a, .doe b => a == b
    | .net _, .net _ => true
    | _, _ => false)
  decide (32 ≤ s.sec.sess.length) ||
    (match via with
     | .doe _ => decide (4 ≤ here.length)
     | .net _ => decide (16 ≤ here.length))

/-- A chain or signature failed (R363): counted, event 0x7004 with the transport and partition 0. -/
def State.authFails (s : State) (via : Via) : State := (s.count 0x8700 2 1).raise 0x7004 0 0 [viaCode via, 0]

/-- KEY_EXCHANGE (R362, R363): a session begins its handshake, with mutual authentication asked for; its number is the lowest
free one. -/
def State.keyExchange (s : State) (via : Via) (sid : Option Nat) (msg : List Byte) (t : Nat) : State :=
  s.spdmIn via sid msg t 0xE4 3 0 (fun s =>
    let k := msgB msg 3
    if (s.chainOf k).isEmpty ∨ msg.length < 136 then s.spdmErr via sid eInvalid 0
    else if s.spdmFull via then (s.spdmErr via sid eLimit 0).raise 0x7007 0 0 [viaCode via]
    else if s.sec.entropyBad then s.spdmErr via sid eUnspecified 0
    else
      let n := s.sec.sess.firstFree (fun _ => true) 1
      let x : SpdmSess := { via, open_ := false, principal := 0, asked := true, chain := [], last := s.ns, keyGen := 0 }
      let s1 : State := { s with sec := { s.sec with sess := s.sec.sess.put n x } }
      let d := s1.draw 5
      let sum := if msgB msg 2 = 0 then [] else sha384 (measIndices.flatMap (fun i => (s.measure i).getD []))
      let body := leBytes 2 n ++ leBytes 1 3 ++ leBytes 1 k ++ d.1.take 32 ++ fitBytes 96 (Config.crypto 16 (d.1.drop 32) (slice msg 40 96))
        ++ sum ++ leBytes 2 0
      let g := d.2.sign ((d.2.conn via).transcript ++ body)
      g.2.spdmAns via sid 0x64 10 0 (body ++ g.1 ++ fitBytes 48 (Config.crypto 17 (d.1.drop 32) (body ++ g.1))))

/-- Session `n` changed by `f`. -/
def State.updSess (s : State) (n : Nat) (f : SpdmSess → SpdmSess) : State :=
  { s with sec := { s.sec with sess := s.sec.sess.upd n f } }

/-- The principal of a session whose requester's chain is `c` (R363): partition + 1, 0 for none. -/
def State.principalOf (s : State) (c : List Byte) : Nat :=
  if c.isEmpty then (if (s.dbytes 0x7040 2).isEmpty then 1 else 0)
  else
    let key := fitBytes 96 (Config.crypto 18 [] c)
    (((List.range 64).find? (fun p => !(s.dbytes (0x7040 + p) 2).isEmpty && s.dbytes (0x7040 + p) 2 == key)).map (· + 1)).getD 0

/-- FINISH (R361, R363): the handshake ends; a requester that sent a chain signs, and a failure ends the exchange. -/
def State.finishSess (s : State) (via : Via) (sid : Option Nat) (msg : List Byte) (t : Nat) : State :=
  s.spdmIn via sid msg t 0xE5 0 3 (fun s =>
    let n := sid.getD 0
    match s.sec.sess.get? n with
    | none => s
    | some x =>
      if x.open_ then s.spdmErr via sid eUnexpected 0
      else if !Config.cryptoOk 4 (leBytes 4 n) msg ∨ (!x.chain.isEmpty ∧ !(bitN (msgB msg 2) 0 && Config.cryptoOk 5 x.chain msg)) then
        ((s.endSessions (fun k => k == n)).spdmErr via none eDecrypt 0).authFails via
      else
        ((s.updSess n (fun y => { y with open_ := true, asked := false, principal := s.principalOf x.chain })).count 0x8700 1 1).spdmAns
          via sid 0x65 0 0 (fitBytes 48 (Config.crypto 19 (leBytes 4 n) msg)))

/-- HEARTBEAT (R362). -/
def State.heartbeat (s : State) (via : Via) (sid : Option Nat) (msg : List Byte) (t : Nat) : State :=
  s.spdmIn via sid msg t 0xE8 0 2 (fun s => s.spdmAns via sid 0x68 0 0 [])

/-- KEY_UPDATE (R361): 1 UpdateKey, 2 UpdateAllKeys, 3 VerifyNewKey. -/
def State.keyUpdate (s : State) (via : Via) (sid : Option Nat) (msg : List Byte) (t : Nat) : State :=
  s.spdmIn via sid msg t 0xE9 0 2 (fun s =>
    let op := msgB msg 2
    if op = 0 ∨ 3 < op then s.spdmErr via sid eInvalid 0
    else
      (if op = 3 then s else s.updSess (sid.getD 0) (fun x => { x with keyGen := x.keyGen + 1 })).spdmAns via sid 0x69 op (msgB msg 3) [])

/-- END_SESSION (R362). -/
def State.endSession (s : State) (via : Via) (sid : Option Nat) (msg : List Byte) (t : Nat) : State :=
  s.spdmIn via sid msg t 0xEC 0 2 (fun s => (s.spdmAns via sid 0x6C 0 0 []).endSessions (fun k => k == sid.getD 0))

/-- A new chain for slot 1 (R359); false where its leaf does not certify the Attestation key. -/
def State.setChain1 (s : State) (c : List Byte) : State × Bool :=
  if c.isEmpty ∨ s.chainOk c then
    let s1 := s.dset 0x7010 2 c
    ({ s1 with sec := { s1.sec with chainKey := s1.attestKey } }, true)
  else (s, false)

/-- A chain written to 0x7010.02 (R359): one that is refused for its leaf is reported (Table 17-11). -/
def State.chainRow (s : State) (o : Origin) (v : List Byte) : State :=
  let bad := (s.writeCheck o 0x7010 2 v).isNone && !(s.setChain1 v).2
  let s1 := if bad then (s.count 0x8700 2 1).raise 0x7004 0 0 [dkey 0x7010 2, 0] else s
  s1.writeRow o 0x7010 2 v (fun u => let r := u.setChain1 v
    if r.2 then .ok r.1 else .error wRefused)

/-- SET_CERTIFICATE (R359): slot 1, in an operator session. -/
def State.setCertificate (s : State) (via : Via) (sid : Option Nat) (msg : List Byte) (t : Nat) : State :=
  s.spdmIn via sid msg t 0xEE 0 2 (fun s =>
    if msgB msg 2 % 16 ≠ 1 ∨ ((s.sec.sess.get? (sid.getD 0)).map (·.principal)).getD 0 ≠ 1 then s.spdmErr via sid eInvalid 0
    else
      let r := s.setChain1 (msg.drop 4)
      if r.2 then r.1.spdmAns via sid 0x6E 1 0 [] else (s.authFails via).spdmErr via sid eInvalid 0)

/-- GET_ENCAPSULATED_REQUEST (R363): the request for the requester's chain, from its start. -/
def State.getEncap (s : State) (via : Via) (sid : Option Nat) (msg : List Byte) (t : Nat) : State :=
  s.spdmIn via sid msg t 0xEA 0 3 (fun s =>
    match s.sec.sess.get? (sid.getD 0) with
    | none => s
    | some x =>
      if x.open_ ∨ !x.asked then s.spdmErr via sid eUnexpected 0
      else s.spdmAns via sid 0x6A 1 0 (leBytes 1 0x13 ++ leBytes 1 0x82 ++ leBytes 2 0 ++ leBytes 2 x.chain.length ++ leBytes 2 4096))

/-- DELIVER_ENCAPSULATED_RESPONSE (R363): a portion of the requester's chain, or an ERROR where it presents none. The whole chain
is verified, and a failure ends the exchange. -/
def State.deliverEncap (s : State) (via : Via) (sid : Option Nat) (msg : List Byte) (t : Nat) : State :=
  s.spdmIn via sid msg t 0xEB 0 3 (fun s =>
    let n := sid.getD 0
    match s.sec.sess.get? n with
    | none => s
    | some x =>
      if x.open_ ∨ !x.asked then s.spdmErr via sid eUnexpected 0
      else if msgB msg 5 = 0x7F then (s.updSess n (fun y => { y with asked := false, chain := [] })).spdmAns via sid 0x6B 1 0 (leBytes 4 0)
      else if msgB msg 5 ≠ 0x02 then s.spdmErr via sid eInvalid 0
      else
        let c := x.chain ++ slice msg 12 (leAt msg 8 2)
        if leAt msg 10 2 ≠ 0 then
          (s.updSess n (fun y => { y with chain := c })).spdmAns via sid 0x6B 1 1
            (leBytes 4 0 ++ leBytes 1 0x13 ++ leBytes 1 0x82 ++ leBytes 2 0 ++ leBytes 2 c.length ++ leBytes 2 4096)
        else if c.isEmpty ∨ Config.cryptoOk 8 [] c then
          (s.updSess n (fun y => { y with asked := false, chain := c })).spdmAns via sid 0x6B 1 0 (leBytes 4 0)
        else ((s.endSessions (fun k => k == n)).spdmErr via none eUnspecified 0).authFails via)

/-! ## Large messages -/

/-- CHUNK_GET (R361): the next chunk of a large response. -/
def State.chunkGet (s : State) (via : Via) (sid : Option Nat) (msg : List Byte) (t : Nat) : State :=
  s.spdmIn via sid msg t 0x86 3 1 (fun s =>
    let c := s.conn via
    if c.chunkOut.isEmpty ∨ msgB msg 3 ≠ c.outHandle ∨ leAt msg 4 2 ≠ c.outNext then s.spdmErr via sid eInvalid 0
    else
      let size := if c.outNext = 0 then 4080 else 4084
      let off := if c.outNext = 0 then 0 else 4080 + 4084 * (c.outNext - 1)
      let b := slice c.chunkOut off size
      let last := decide (c.chunkOut.length ≤ off + b.length)
      let c1 : SpdmConn := if last then { c with chunkOut := [], outNext := 0 } else { c with outNext := c.outNext + 1 }
      (s.setConn c1).spdmOut via sid (leBytes 1 0x13 ++ leBytes 1 6 ++ leBytes 1 (b2n last) ++ leBytes 1 c.outHandle
        ++ leBytes 2 c.outNext ++ leBytes 2 0 ++ leBytes 4 b.length
        ++ (if c.outNext = 0 then leBytes 4 c.chunkOut.length else []) ++ b))

/-- The request a large message holds, served. -/
def State.spdmDo (s : State) (via : Via) (sid : Option Nat) (m : List Byte) (t : Nat) : State :=
  match msgB m 1 with
  | 0x84 => s.getVersion via sid m t
  | 0xE1 => s.getCapabilities via sid m t
  | 0xE3 => s.negotiate via sid m t
  | 0x81 => s.getDigests via sid m t
  | 0x82 => s.getCertificate via sid m t
  | 0x83 => s.challenge via sid m t
  | 0xE0 => s.getMeasurements via sid m t
  | 0xE4 => s.keyExchange via sid m t
  | 0xE5 => s.finishSess via sid m t
  | 0xE8 => s.heartbeat via sid m t
  | 0xE9 => s.keyUpdate via sid m t
  | 0xEC => s.endSession via sid m t
  | 0xEE => s.setCertificate via sid m t
  | 0xEA => s.getEncap via sid m t
  | 0xEB => s.deliverEncap via sid m t
  | 0x86 => s.chunkGet via sid m t
  | _ => s.spdmErr via sid eUnsupported (msgB m 1)

/-- CHUNK_SEND (R361): a chunk of a large request; with the last, the request is served. A chunk out of order drops it. -/
def State.chunkSend (s : State) (via : Via) (sid : Option Nat) (msg : List Byte) (t : Nat) : State :=
  s.spdmIn via sid msg t 0x85 3 1 (fun s =>
    let c := s.conn via
    let h := msgB msg 3
    let n := leAt msg 4 2
    let b := slice msg (if n = 0 then 16 else 12) (leAt msg 8 4)
    let drop : SpdmConn := { c with chunkIn := [], chunkNext := 0 }
    if (0 < n ∧ (h ≠ c.chunkHandle ∨ n ≠ c.chunkNext)) ∨ 65536 < (if n = 0 then 0 else c.chunkIn.length) + b.length then
      (s.setConn drop).spdmErr via sid eInvalid 0
    else
      let whole := (if n = 0 then [] else c.chunkIn) ++ b
      if bitN (msgB msg 2) 0 then ((s.setConn drop).spdmOut via sid (leBytes 1 0x13 ++ leBytes 1 5 ++ leBytes 1 0 ++ leBytes 1 h ++ leBytes 2 n)).spdmDo via sid whole t
      else
        let c1 : SpdmConn := { c with chunkIn := whole, chunkHandle := h, chunkNext := n + 1 }
        (s.setConn c1).spdmOut via sid (leBytes 1 0x13 ++ leBytes 1 5 ++ leBytes 1 0 ++ leBytes 1 h ++ leBytes 2 n))

/-! ## The commands -/

/-- GET_VERSION. -/
def execGetVersion (via : Via) (sid : Option Nat) (msg : List Byte) (t : Nat) (s : State) : Host.Outcome State Fault Refusal :=
  .next (s.getVersion via sid msg t)

/-- GET_CAPABILITIES. -/
def execGetCapabilities (via : Via) (sid : Option Nat) (msg : List Byte) (t : Nat) (s : State) : Host.Outcome State Fault Refusal :=
  .next (s.getCapabilities via sid msg t)

/-- NEGOTIATE_ALGORITHMS. -/
def execNegotiateAlgorithms (via : Via) (sid : Option Nat) (msg : List Byte) (t : Nat) (s : State) : Host.Outcome State Fault Refusal :=
  .next (s.negotiate via sid msg t)

/-- GET_DIGESTS. -/
def execGetDigests (via : Via) (sid : Option Nat) (msg : List Byte) (t : Nat) (s : State) : Host.Outcome State Fault Refusal :=
  .next (s.getDigests via sid msg t)

/-- GET_CERTIFICATE. -/
def execGetCertificate (via : Via) (sid : Option Nat) (msg : List Byte) (t : Nat) (s : State) : Host.Outcome State Fault Refusal :=
  .next (s.getCertificate via sid msg t)

/-- CHALLENGE. -/
def execChallenge (via : Via) (sid : Option Nat) (msg : List Byte) (t : Nat) (s : State) : Host.Outcome State Fault Refusal :=
  .next (s.challenge via sid msg t)

/-- GET_MEASUREMENTS. -/
def execGetMeasurements (via : Via) (sid : Option Nat) (msg : List Byte) (t : Nat) (s : State) : Host.Outcome State Fault Refusal :=
  .next (s.getMeasurements via sid msg t)

/-- KEY_EXCHANGE. -/
def execKeyExchange (via : Via) (sid : Option Nat) (msg : List Byte) (t : Nat) (s : State) : Host.Outcome State Fault Refusal :=
  .next (s.keyExchange via sid msg t)

/-- FINISH. -/
def execFinish (via : Via) (sid : Option Nat) (msg : List Byte) (t : Nat) (s : State) : Host.Outcome State Fault Refusal :=
  .next (s.finishSess via sid msg t)

/-- HEARTBEAT. -/
def execHeartbeat (via : Via) (sid : Option Nat) (msg : List Byte) (t : Nat) (s : State) : Host.Outcome State Fault Refusal :=
  .next (s.heartbeat via sid msg t)

/-- KEY_UPDATE. -/
def execKeyUpdate (via : Via) (sid : Option Nat) (msg : List Byte) (t : Nat) (s : State) : Host.Outcome State Fault Refusal :=
  .next (s.keyUpdate via sid msg t)

/-- END_SESSION. -/
def execEndSession (via : Via) (sid : Option Nat) (msg : List Byte) (t : Nat) (s : State) : Host.Outcome State Fault Refusal :=
  .next (s.endSession via sid msg t)

/-- SET_CERTIFICATE. -/
def execSetCertificate (via : Via) (sid : Option Nat) (msg : List Byte) (t : Nat) (s : State) : Host.Outcome State Fault Refusal :=
  .next (s.setCertificate via sid msg t)

/-- CHUNK_SEND. -/
def execChunkSend (via : Via) (sid : Option Nat) (msg : List Byte) (t : Nat) (s : State) : Host.Outcome State Fault Refusal :=
  .next (s.chunkSend via sid msg t)

/-- CHUNK_GET. -/
def execChunkGet (via : Via) (sid : Option Nat) (msg : List Byte) (t : Nat) (s : State) : Host.Outcome State Fault Refusal :=
  .next (s.chunkGet via sid msg t)

/-- GET_ENCAPSULATED_REQUEST. -/
def execGetEncapsulatedRequest (via : Via) (sid : Option Nat) (msg : List Byte) (t : Nat) (s : State) : Host.Outcome State Fault Refusal :=
  .next (s.getEncap via sid msg t)

/-- DELIVER_ENCAPSULATED_RESPONSE. -/
def execDeliverEncapsulatedResponse (via : Via) (sid : Option Nat) (msg : List Byte) (t : Nat) (s : State) : Host.Outcome State Fault Refusal :=
  .next (s.deliverEncap via sid msg t)

/-- SPDM_SESSION_TIMEOUT (R362): no message for 30 s. -/
def execSpdmSessionTimeout (sid : Nat) (s : State) : Host.Outcome State Fault Refusal := .next (s.endSessions (fun k => k == sid))

/-- DRBG_RESEED (R357): the DRBG draws anew; a failed health test is reported. -/
def execDrbgReseed (ok : Bool) (s : State) : Host.Outcome State Fault Refusal :=
  let s1 : State := { s with sec := { s.sec with entropyBad := !ok, draws := s.sec.draws + 1 } }
  .next (if ok then s1 else s1.raise 0x7008 0 0 [])

end Sys2Proof.Machine
end

