-- ==== Sys2Proof/Machine/Security.lean ====
section
/-!
DEFINITION. Partitions, their keys and functions, confidential mode and the Safelight set (R364 to R375).
-/

namespace Sys2Proof.Machine

/-! ## Partitions -/

/-- Does partition `p` hold any of the objects of R364 other than bound functions? -/
def State.holdsObjects (s : State) (p : Nat) : Bool :=
  s.sess.dir.any (fun e => e.2.state != .free && e.2.part == p)
    || s.tiers.grans.any (fun g => granPart g.1 == p)
    || s.emb.tabs.any (fun t => s.embF t.1 0x11 == p)
    || s.vec.idx.any (fun i => s.vecF i.1 0xC == p)
    || (List.range 64).any (fun k => (!(s.dbytes (0x5040 + k) 1).isEmpty && s.dval (0x5040 + k) 4 == p)
        || (!(s.dbytes (0x5080 + k) 1).isEmpty && s.dval (0x5080 + k) 4 == p))
    || s.host.regions.any (fun r => r.2.part == p)
    || s.tiers.extents.any (fun x => x.1 / 128 == p)
    || s.tiers.borrowed.any (fun x => x.2.part == p)
    || s.tiers.lent.any (fun x => x.2.part == p)

/-- Is a function bound to partition `p`? -/
def State.hasFunction (s : State) (p : Nat) : Bool := (List.range 256).any (fun fn => s.fnPart fn == some p)

/-- Partition `p` enabled with a fresh memory key (R364, R366, R357). -/
def State.enablePart (s : State) (p : Nat) : Except (Nat × Nat) State :=
  if s.partOn p then .ok s
  else if (s.dbytes (0x7040 + p) 2).isEmpty then .error wRefused
  else if s.sec.entropyBad then .error wDenied
  else
    let s1 := s.dsetN (0x7040 + p) 1 1
    if s1.confidential ∧ s1.coresShared then .error wRefused
    else
      let s2 : State := { s1 with sec := { s1.sec with memKeys := s1.sec.memKeys.put p s1.sec.draws, draws := s1.sec.draws + 4 } }
      .ok (s2.raise 0x7001 p 0 [p])

/-- Partition `p` disabled: its keys and export flag are destroyed, its Safelight counters cleared (R364). -/
def State.disablePart (s : State) (p : Nat) : Except (Nat × Nat) State :=
  if p = 0 then .error wRefused
  else if !s.partOn p then .ok s
  else if s.holdsObjects p ∨ s.hasFunction p then .error wDenied
  else
    let mine := fun k : Nat => k / 256 == 0x8780 + p
    let s1 := (s.dsetN (0x7040 + p) 1 0).dsetN (0x7040 + p) 6 0
    let s2 : State := { s1 with
      sec := { s1.sec with
        memKeys := s1.sec.memKeys.del p, imported := s1.sec.imported.del p, linkKeys := s1.sec.linkKeys.del p }
      fab := { s1.fab with keys := s1.fab.keys.filter (fun q => q != p) }
      dict := { s1.dict with store := s1.dict.store.del (dkey (0x7040 + p) 4) }
      ctr := { s1.ctr with
        val := s1.ctr.val.keep (fun k _ => !mine k), rest := s1.ctr.rest.keep (fun k _ => !mine k)
        sat := s1.ctr.sat.filter (fun k => !mine k) } }
    .ok (s2.raise 0x7002 p 0 [p])

/-- A write of `v` to 0x7040 + p, subindex 0x01. -/
def State.partWrite (s : State) (p v : Nat) : Except (Nat × Nat) State := if v = 1 then s.enablePart p else s.disablePart p

/-- PARTITION_ENABLE (R364). -/
def execPartitionEnable (o : Origin) (p : Nat) (v : List Byte) (s : State) : Host.Outcome State Fault Refusal :=
  .next (s.writeRow o (0x7040 + p % 64) 1 v (fun s => s.partWrite (p % 64) (leNat v)))

/-- PARTITION_DISABLE (R364). -/
def execPartitionDisable (o : Origin) (p : Nat) (v : List Byte) (s : State) : Host.Outcome State Fault Refusal :=
  .next (s.writeRow o (0x7040 + p % 64) 1 v (fun s => s.partWrite (p % 64) (leNat v)))

/-- An owner key written (R364): while the partition is disabled, partition 0's at any time, and never another's. -/
def State.ownerKey (s : State) (p : Nat) (v : List Byte) : Except (Nat × Nat) State :=
  if p ≠ 0 ∧ s.partOn p then .error wRefused
  else if (List.range 64).any (fun q => q != p && s.dbytes (0x7040 + q) 2 == v) then .error wRefused
  else .ok (s.dset (0x7040 + p) 2 v)

/-- OWNER_KEY_WRITE (R364). -/
def execOwnerKeyWrite (o : Origin) (p : Nat) (v : List Byte) (s : State) : Host.Outcome State Fault Refusal :=
  .next (s.writeRow o (0x7040 + p % 64) 2 v (fun s => s.ownerKey (p % 64) v))

/-- Function `f` of port `port` bound to `v` (R365, R353): every accepted write resets the function, and a locked TDI enters
ERROR. -/
def State.bindFn (s : State) (port f v : Nat) : Except (Nat × Nat) State :=
  let fn := 64 * port + f
  if f = 0 ∨ (64 ≤ v ∧ v ≠ 255) ∨ (v < 64 ∧ !s.partOn v) then .error wRefused
  else
    let st := s.host.tdi.getD fn 0
    let s1 := (s.fnReset fn 2).dsetN (0x7080 + port) (1 + f) v
    .ok (if st = 1 ∨ st = 2 then s1.tdiError fn else s1.recheckStops)

/-- FUNCTION_BINDING_WRITE (R365). -/
def execFunctionBindingWrite (o : Origin) (port sub : Nat) (v : List Byte) (s : State) : Host.Outcome State Fault Refusal :=
  .next (s.writeRow o (0x7080 + port % 4) sub v (fun s => s.bindFn (port % 4) (sub - 1) (leNat v)))

/-- The IDE required bit of function `f` of port `port` (R365): 0 is refused while confidential mode makes it 1. -/
def State.ideBit (s : State) (port f v : Nat) : Except (Nat × Nat) State :=
  if v = 0 ∧ s.confidential ∧ ((s.fnPart (64 * port + f)).map (fun p => decide (0 < p))).getD false = true then .error wRefused
  else .ok ((s.dsetN (0x7084 + port) (1 + f) v).recheckStops)

/-! ## Link keys -/

/-- Partition `p`'s link key installed, or removed by an empty value (R370): counters restart and receive windows are emptied. -/
def State.linkKey (s : State) (p : Nat) (v : List Byte) : State :=
  let s1 : State := { s with
    sec := { s.sec with
      linkKeys := if v.isEmpty then s.sec.linkKeys.del p else s.sec.linkKeys.put p v
      noKeySeen := s.sec.noKeySeen.filter (fun q => q != p) }
    dict := { s.dict with
      store := if v.isEmpty then s.dict.store.del (dkey (0x7040 + p) 4)
        else s.dict.store.put (dkey (0x7040 + p) 4) (((s.dict.store.get? (dkey (0x7040 + p) 4)).map (·.1)).getD 0 + 1, v) }
    fab := { s.fab with
      keys := if v.isEmpty then s.fab.keys.filter (fun q => q != p) else if s.fab.keys.contains p then s.fab.keys else s.fab.keys ++ [p]
      txCtr := s.fab.txCtr.keep (fun k _ => k / 64 != p)
      rxTop := s.fab.rxTop.keep (fun k _ => k / 64 != p)
      rxSeen := s.fab.rxSeen.keep (fun k _ => k / 64 != p) } }
  if v.isEmpty then s1 else s1.unlatch 0x7009 p

/-- LINK_KEY_WRITE (R370). -/
def execLinkKeyWrite (o : Origin) (p : Nat) (v : List Byte) (s : State) : Host.Outcome State Fault Refusal :=
  .next (s.writeRow o (0x7040 + p % 64) 4 v (fun s => .ok (s.linkKey (p % 64) v)))

/-! ## Key packages -/

/-- The prime of P-384. -/
def p384 : Nat := 2 ^ 384 - 2 ^ 128 - 2 ^ 96 + 2 ^ 32 - 1

/-- The constant b of P-384. -/
def p384b : Nat :=
  0xb3312fa7e23ee7e4988e056be3f82d19181d9c6efe8141120314088f5013875ac656398d8a2ed19d2a85c8edd3ec2aef

/-- Does the point of 96 bytes, X then Y as big-endian octets, lie on P-384 (R371)? -/
def onP384 (v : List Byte) : Bool :=
  let x := beNat (v.take 48)
  let y := beNat (v.drop 48)
  v.length == 96 && decide (x < p384) && decide (y < p384) && (y * y + 3 * x) % p384 == (x * x * x + p384b) % p384

/-- The key package of partition `p` for target key `v` (Table 17-6): 292 bytes, its secret parts from the DRBG. -/
def State.package (s : State) (p : Nat) (v : List Byte) : List Byte :=
  let d := (s.draw 5).1
  leBytes 2 0x4B50 ++ leBytes 1 1 ++ leBytes 1 1 ++ leBytes 1 p ++ leBytes 3 0 ++ sha384 deviceKey ++ sha384 v
    ++ fitBytes 96 (Config.crypto 20 (d.take 48) []) ++ fitBytes 12 (d.drop 48)
    ++ fitBytes 80 (Config.crypto 21 (d ++ v) (leBytes 8 (s.sec.memKeys.getD p 0) ++ s.sec.imported.getD p []))

/-- The export of partition `p`'s memory key to the target key `v` (R371): event 0x7006 carries the first 8 bytes of dsth. -/
def State.exportKey (s : State) (p : Nat) (v : List Byte) : Except (Nat × Nat) State :=
  if s.dval (0x7040 + p) 6 = 0 ∨ !s.sec.memKeys.has p ∨ s.sec.entropyBad then .error wDenied
  else if !onP384 v then .error wRefused
  else
    let s1 := (s.draw 5).2.dset (0x7040 + p) 8 (s.package p v)
    .ok ((s1.count 0x8700 4 1).raise 0x7006 p 0 (p :: w2 (leNat ((sha384 v).take 8))))

/-- KEY_EXPORT_REQUEST (R371). -/
def execKeyExportRequest (o : Origin) (p : Nat) (v : List Byte) (s : State) : Host.Outcome State Fault Refusal :=
  .next (s.writeRow o (0x7040 + p % 64) 7 v (fun s => s.exportKey (p % 64) v))

/-- Does package `v` fail for partition `p` (R372): a header field, the partition, the target hash or the tag? -/
def badPackage (p : Nat) (v : List Byte) : Bool :=
  v.length != 292 || leAt v 0 2 != 0x4B50 || leAt v 2 1 != 1 || leAt v 3 1 != 1 || leAt v 4 1 != p || leAt v 5 3 != 0
    || slice v 56 48 != sha384 importKey || !Config.cryptoOk 9 importKey v

/-- May a package be imported for partition `p` (R372)? -/
def State.mayImport (s : State) (p : Nat) : Bool := s.inMaint && s.partOn p && !s.holdsObjects p

/-- The import of package `v` (R372): it takes the place of the memory key. -/
def State.importPackage (s : State) (p : Nat) (v : List Byte) : Except (Nat × Nat) State :=
  if !s.mayImport p ∨ badPackage p v then .error wDenied
  else
    .ok ((({ s with sec := { s.sec with imported := s.sec.imported.put p (slice v 212 64) } }).count 0x8700 5 1).raise 0x7005 p 0 [p])

/-- A write of a package (R372): one that fails is reported before it is refused. -/
def State.packageRow (s : State) (o : Origin) (p : Nat) (v : List Byte) : State :=
  let bad := (s.writeCheck o (0x7040 + p) 9 v).isNone && s.mayImport p && badPackage p v
  let s1 := if bad then (s.count 0x8700 2 1).raise 0x7004 p 0 [dkey (0x7040 + p) 9, p] else s
  s1.writeRow o (0x7040 + p) 9 v (fun s => s.importPackage p v)

/-- KEY_PACKAGE_IMPORT (R372). -/
def execKeyPackageImport (o : Origin) (p : Nat) (v : List Byte) (s : State) : Host.Outcome State Fault Refusal :=
  .next (s.packageRow o (p % 64) v)

/-! ## Confidential mode -/

/-- Confidential mode written (R374). -/
def State.confidentialTo (s : State) (v : Nat) : Except (Nat × Nat) State :=
  if !s.inMaint then .error wDenied
  else if v = s.dval 0x7000 2 then .ok s
  else if (v = 1 ∧ s.coresShared) ∨ (v = 0 ∧ (List.range 64).any (fun p => decide (0 < p) && s.partOn p) = true) then .error wRefused
  else .ok (((s.dsetN 0x7000 2 v).raise 0x7003 0 0 [v]).recheckStops)

/-- CONFIDENTIAL_MODE_WRITE (R374). -/
def execConfidentialModeWrite (o : Origin) (v : List Byte) (s : State) : Host.Outcome State Fault Refusal :=
  .next (s.writeRow o 0x7000 2 v (fun s => s.confidentialTo (leNat v)))

/-! ## Safelight -/

/-- The units of Safelight subindex `sub` (Table 17-8). -/
def safeUnit (sub : Nat) : Nat := if sub = 1 then 1024 else if sub = 3 ∨ sub = 4 then 1048576 else 1

/-- SAFELIGHT_UPDATE (R375): what was counted since the last one enters the aggregates, in whole units. -/
def execSafelightUpdate (s : State) : Host.Outcome State Fault Refusal :=
  .next ((List.range 64).foldl (fun u p => (List.range 5).foldl (fun v i =>
    let k := dkey (0x8780 + p) (1 + i)
    let n := v.ctr.rest.getD k 0
    if n < safeUnit (1 + i) then v
    else
      let v1 : State := { v with ctr := { v.ctr with rest := v.ctr.rest.put k (n % safeUnit (1 + i)) } }
      v1.count (0x8780 + p) (1 + i) (n / safeUnit (1 + i))) u) s)

end Sys2Proof.Machine
end

