-- ==== Sys2Proof/Machine/Live.lean ====
section
/-!
DEFINITION. What the entries of the Dictionary read (R377): the entries the device computes from its state, the stored and default
values of the others, the reader rules (Table 17-7), and the DESCRIBE record (Table 18-4).
-/

namespace Sys2Proof.Machine

/-! ## Entries that the device computes -/

/-- Bit `h` set for each half `h` that satisfies `f`. -/
def halfBits (f : Nat → Bool) : Nat := b2n (f 0) + 2 * b2n (f 1)

/-- Is ring 0 of function `fn` there (0x1180.09)? -/
def State.zeroThere (s : State) (fn : Nat) : Bool := s.host.rings.has (ringKey fn 2 0)

/-- The state that 0x2210 + n, subindices 0x08 and 0x09 read: 0 disabled, 1 no step since enable, 2 between steps, 3 step in flight, 4
held. -/
def State.laneRead (s : State) (h n : Nat) : Nat :=
  let l := s.laneH h n
  let b := s.sched.bath
  if s.laneF n 1 = 0 ∧ l.step.isNone then 0
  else if b.level ≠ 0 ∧ bitN b.mask n ∧ (b.quiet ∨ l.step.isNone) then 4
  else if s.lanesHeld h ∧ l.step.isNone then 4
  else if l.step.isSome then 3
  else if l.last.isNone then 1
  else 2

/-- The band rows of half `h` that satisfy `f` (0x3050), the system rows 0 to 3 among them. -/
def State.bandCount (s : State) (h : Nat) (f : BandRow → Bool) : Nat :=
  (s.tiers.bands.filter (fun kb => kb.1 / 1536 == h && f kb.2)).length

/-- The rows of half `h` that are not free, out of those that objects may take. -/
def State.bandTaken (s : State) (h : Nat) : Nat :=
  (s.tiers.bands.filter (fun kb => kb.1 / 1536 == h && decide (4 ≤ kb.1 % 768) && (kb.2.kind != 0 || kb.2.rstate == 3))).length

/-- Entries of the host port and of sessions. -/
def State.liveHost (s : State) (idx sub : Nat) : Option Nat :=
  if idx = 0x1100 ∧ sub = 5 then some (2 ^ s.host.bifur)
  else if 0x1110 ≤ idx ∧ idx < 0x1114 then
    let q := s.port (idx - 0x1110)
    (match sub with
     | 1 => some q.link
     | 2 => some q.lanes
     | 3 => some q.rate
     | 5 => some q.leaseEnd
     | 6 => some q.lines.length
     | 7 => some q.ide
     | _ => none)
  else if 0x2040 ≤ idx ∧ idx < 0x2080 then
    let p := idx - 0x2040
    if sub = 3 then some (s.openCount p) else if sub = 4 then some (s.slotsIn p 0) else if sub = 5 then some (s.slotsIn p 1) else none
  else none

/-- Entries of pages, scheduling and profiles. -/
def State.livePages (s : State) (idx sub : Nat) : Option Nat :=
  if idx = 0x2100 then
    (match sub with
     | 4 => some (s.sharesOn 0)
     | 5 => some (s.sharesOn 1)
     | 6 => some (s.freeT1 0)
     | 7 => some (s.freeT1 1)
     | 8 => some (((s.tiers.scrub.filter (fun k => k.1 / 16 == 0)).map (fun k => (k.2.map (·.kib)).foldl (· + ·) 0)).foldl (· + ·) 0)
     | 9 => some (((s.tiers.scrub.filter (fun k => k.1 / 16 == 1)).map (fun k => (k.2.map (·.kib)).foldl (· + ·) 0)).foldl (· + ·) 0)
     | _ => none)
  else if 0x2140 ≤ idx ∧ idx < 0x2180 then
    (match s.profs.get? (idx - 0x2140) with
     | none => some 0
     | some p =>
       (match sub with
        | 1 => some p.pageBytes
        | 2 => some 128
        | 3 => some (128 + 16 * p.kbytes)
        | 4 => some (128 + 16 * p.kbytes + 16 * p.vbytes)
        | 5 => some (openCharge p.pageKib)
        | _ => some (sealedCharge p.pageKib)))
  else if 0x2180 ≤ idx ∧ idx < 0x21C0 then
    if sub = 3 then some (s.charge (idx - 0x2180) 0) else if sub = 4 then some (s.charge (idx - 0x2180) 1) else none
  else if idx = 0x2200 then
    let b := s.sched.bath
    (match sub with
     | 3 => some b.level
     | 4 => if b.level = 0 then none else some b.mask
     | 5 => some (if b.level = 0 then 0 else if b.quiet then 2 else 1)
     | _ => none)
  else if 0x2210 ≤ idx ∧ idx < 0x2218 then
    let n := idx - 0x2210
    (match sub with
     | 6 => some (s.laneH 0 n).shown
     | 7 => some (s.laneH 1 n).shown
     | 8 => some (s.laneRead 0 n)
     | 9 => some (s.laneRead 1 n)
     | _ => none)
  else if 0x2340 ≤ idx ∧ idx < 0x2380 ∧ sub = 1 then some (s.profRead (idx - 0x2340))
  else none

/-- Entries of tiers, revival and checkpoints. -/
def State.liveTiers (s : State) (idx sub : Nat) : Option Nat :=
  if idx = 0x3000 ∧ sub = 8 then some ((s.tiers.t2rep.w + s.tiers.t2rep.e) / 2 ^ 30)
  else if 0x3010 ≤ idx ∧ idx < 0x3030 then
    some (if sub = 1 then (s.lys (idx - 0x3010)).cond else s.stackKibFree (idx - 0x3010))
  else if 0x3030 ≤ idx ∧ idx < 0x3040 then
    let f := s.flash (idx - 0x3030)
    some (if sub = 1 then f.cond else if sub = 2 then min 65535 (rneDiv (f.cycles * 10000) 3000) else f.cycles)
  else if idx = 0x3040 ∧ sub = 3 then some (cdiv ((s.tiers.lent.vals.map (·.kib)).foldl (· + ·) 0) (2 ^ 20))
  else if idx = 0x3050 then
    let h := (sub - 1) % 2
    some (if sub ≤ 2 then 1528 - s.bandTaken h
      else if sub ≤ 4 then s.bandCount h (fun b => b.rstate == 1)
      else s.bandCount h (fun b => b.rstate == 3))
  else if idx = 0x3110 then some (((s.laneH ((sub - 1) / 8) ((sub - 1) % 8)).tr).getD 0)
  else if idx = 0x3118 then some (s.laneH ((sub - 1) / 8) ((sub - 1) % 8)).ivals.length
  else if idx = 0x3200 then
    (match sub with
     | 6 => some s.curSlot
     | 7 => some (((s.ckpt.slots.get? s.curSlot).map (·.seq)).getD 0)
     | 0xA => some s.ckptState
     | 0xB => some 0
     | _ => none)
  else if 0x3210 ≤ idx ∧ idx < 0x3218 then
    let n := idx - 0x3210
    let h := (sub - 1) / 2
    let r := s.ckpt.resumed.get? (2 * n + h)
    some (match (s.laneH h n).step with
      | some st => if st.restored ∧ r = some st.seq then (if sub % 2 = 1 then st.seq else s.nextOpen n st) else (if sub % 2 = 1 then 0 else 0xFFFF)
      | none => if sub % 2 = 1 then 0 else 0xFFFF)
  else none

/-- Entries of links, text tables, embedding tables, vector indexes and integrity. -/
def State.liveUnits (s : State) (idx sub : Nat) : Option Nat :=
  if 0x4020 ≤ idx ∧ idx < 0x4080 then
    let k := idx - 0x4020
    let l := s.link k
    (match sub with
     | 1 => some l.st
     | 2 => some l.used
     | 3 => some l.peer
     | 4 => some l.peerKind
     | _ => some (Config.measured sub k s.ns).toNat)
  else if idx = 0x4100 ∧ sub = 5 then some s.mapDigest
  else if 0x5040 ≤ idx ∧ idx < 0x50C0 then
    let kind := if idx < 0x5080 then 1 else 2
    (match sub with
     | 2 => some (b2n (!(s.dbytes idx 1).isEmpty))
     | 3 => some (s.naming kind (idx - (if kind = 1 then 0x5040 else 0x5080)))
     | _ => none)
  else if 0x5240 ≤ idx ∧ idx < 0x5280 then
    let t := idx - 0x5240
    (match sub with
     | 1 => some (b2n (s.emb.tabs.has t))
     | 0xF => some (s.embStride t)
     | 0x10 => some (s.embHome t)
     | 0x12 => some (((s.emb.tabs.get? t).map (fun x => (x.tags.filter (fun g => g.2.dirty)).length)).getD 0)
     | _ => none)
  else if 0x5340 ≤ idx ∧ idx < 0x5380 then
    let i := idx - 0x5340
    let x := s.vec.idx.get? i
    (match sub with
     | 1 => some (b2n (x.any (fun y => !y.unloading)))
     | 9 => some (s.vecBytes i)
     | 0xA => some ((x.map (·.epoch)).getD 0)
     | 0xB => some (if x.isNone then 0 else
         ((List.range (s.vdesc i).nlist).map (fun l => bitsN (leNat (s.memRead ((s.vdesc i).listAt l) 16)) 95 64)).foldl (· + ·) 0)
     | 0xD => some ((x.map (·.home)).getD 0)
     | _ => none)
  else if idx = 0x6020 then
    some (((List.range 64).map (fun i =>
      let c := 64 * ((sub - 1) % 4) + i
      if (if sub ≤ 4 then (s.core c).excluded else s.integ.badCores.contains c) then 2 ^ i else 0)).foldl (· + ·) 0)
  else none

/-- Entries of security, clocks, lifetime and firmware. -/
def State.liveSys (s : State) (idx sub : Nat) : Option Nat :=
  if idx = 0x7000 then
    (match sub with
     | 1 => some s.partMask
     | 3 => some (s.sec.sess.filter (fun x => x.2.open_)).length
     | 4 => some (b2n s.sec.entropyBad)
     | _ => none)
  else if 0x7040 ≤ idx ∧ idx < 0x7080 then
    (match sub with
     | 3 => some (b2n (s.sec.memKeys.has (idx - 0x7040)))
     | 5 => some (b2n (s.sec.linkKeys.has (idx - 0x7040)))
     | _ => none)
  else if 0x7084 ≤ idx ∧ idx < 0x7088 then some (b2n (s.ideRequired (64 * (idx - 0x7084) + (sub - 1))))
  else if idx = 0x9000 then
    (match sub with
     | 2 => some (s.clk.lead.half.getD s.boot.leadPref)
     | 3 => some s.clk.lead.epoch
     | 4 => some (b2n s.clk.lease.w.hold)
     | 5 => some (b2n s.clk.lease.e.hold)
     | _ => none)
  else if idx = 0x9010 then
    (match sub with
     | 1 => some s.clk.cal.now
     | 2 => some s.clk.cal.st
     | 5 => some (toW 32 s.clk.cal.slew)
     | _ => none)
  else if 0x9020 ≤ idx ∧ idx < 0x9024 then
    let p := idx - 0x9020
    let m := s.timeMap p 0
    (match sub with
     | 1 => some m.h
     | 2 => some (toW 32 m.e)
     | 4 => some (halfBits (fun h => s.mapValid p h))
     | 5 => some (if m.have_ then (m.est s.ns).toNat else 0)
     | 6 => some (if (s.timeMap p 1).have_ then ((s.timeMap p 1).est s.ns).toNat else 0)
     | _ => none)
  else if idx = 0x9070 then
    (match sub with
     | 1 => some s.clk.onSeconds
     | 2 => some s.clk.cycles
     | 3 => some s.clk.thermal
     | _ => some s.clk.hotSeconds)
  else if 0x9080 ≤ idx ∧ idx < 0x90E4 then
    let x := s.island (idx - 0x9080)
    (match sub with
     | 1 => some (islandKind (idx - 0x9080))
     | 2 => some x.slack
     | 3 => some x.ring
     | 4 => some (toW 32 x.temp)
     | 5 => some x.volt
     | 6 => some x.vp
     | 7 => some x.plan
     | 8 => some x.seq
     | 9 => some 0
     | 0xA => some x.active
     | 0xB => some x.stress
     | _ => some (toW 32 x.hottest))
  else if idx = 0xF000 then
    (match sub with
     | 1 => some s.maint.written
     | 2 => some s.maint.st
     | 5 => some s.boot.mode
     | 6 => some s.boot.lastReset
     | 9 => some s.boot.starts
     | _ => none)
  else if idx = 0xF002 then
    (match sub with
     | 1 => some (s.boot.use % 2)
     | 2 => some s.boot.slots.w.st
     | 3 => some s.boot.slots.e.st
     | 4 => some s.boot.slots.w.bseq
     | 5 => some s.boot.slots.e.bseq
     | 6 => some (nth s.boot.secver 0 0)
     | 7 => some (nth s.boot.secver 1 0)
     | 8 => some (nth s.boot.secver 2 0)
     | 0xD => some (nth s.boot.version 0 0)
     | 0xE => some (nth s.boot.version 1 0)
     | 0xF => some (nth s.boot.version 2 0)
     | _ => none)
  else if idx = 0xF003 then some (if sub = 1 then s.boot.anchors.w.length else s.boot.anchors.e.length)
  else none

/-- The identity and Dictionary entries. -/
def State.liveIdent (s : State) (idx sub : Nat) : Option Nat :=
  if idx = 1 then
    (match sub with
     | 4 => some s.self
     | 5 => some s.boot.bslot
     | 6 => some s.boot.leadPref
     | _ => none)
  else if idx = 2 then
    (match sub with
     | 3 => some s.storeUsed
     | 5 => some ((s.dict.staged.map (·.total)).foldl (· + ·) 0)
     | _ => none)
  else if idx = 0x1000 ∧ sub = 6 then some s.fnet.link
  else none

/-- The number that a counter entry reads: the counter, or with subindex 0xF0 the bitmap of its SAT bits (R274). -/
def State.liveCtr (s : State) (idx sub : Nat) : Nat :=
  if sub = 0xF0 then
    ((s.ctr.sat.filter (fun k => k / 256 == idx && decide (1 ≤ k % 256) && decide (k % 256 ≤ 64))).map (fun k => 2 ^ (k % 256 - 1))).foldl
      (· + ·) 0
  else s.ctr.val.getD (dkey idx sub) 0

/-- The number that entry `idx`.`sub` reads, where the device computes it. -/
def State.liveNum (s : State) (idx sub : Nat) : Option Nat :=
  if idx < 0x1100 then s.liveIdent idx sub
  else if idx < 0x2100 then s.liveHost idx sub
  else if idx < 0x3000 then s.livePages idx sub
  else if idx < 0x4000 then s.liveTiers idx sub
  else if idx < 0x7000 then s.liveUnits idx sub
  else if 0x8000 ≤ idx ∧ idx < 0x9000 then some (s.liveCtr idx sub)
  else s.liveSys idx sub

/-- Does the object of `n` KiB at handle `x` hold handle `a`? -/
def holdsAt (x n a : Nat) : Bool := x != 0 && decide (x ≤ a) && decide (a < x + n)

/-- What is stored around page handle `a`: its partition, the handle of its first KiB and its bytes: a page's copy in T1, its object below, a
session's table blocks or a block of share records. -/
def State.storedAt (s : State) (a : Nat) : Option (Nat × Nat × List Byte) :=
  let page := s.pages.pages.vals.findSome? (fun p =>
    let img := match s.profs.get? p.profile with
      | some pr => p.image pr
      | none => []
    if holdsAt p.a (p.bytes / 1024) a then some (p.part, p.a, img)
    else if holdsAt p.b (p.bytes / 1024) a then some (p.part, p.b, img)
    else if holdsAt p.low p.clen a then some (p.part, p.low, s.pageObject p)
    else none)
  let table := s.pages.tables.findSome? (fun it =>
    match it.2.blocks.find? (fun b => b.a == a || b.b == a) with
    | some b => if a = 0 then none else some ((s.ent it.1).part, a, s.blockBytes it.2 b)
    | none => if holdsAt it.2.low it.2.blocks.length a then some ((s.ent it.1).part, it.2.low, s.tableBytes it.1) else none)
  let block := (s.pages.blkRecs.find? (fun b => a != 0 && (b.2.a == a || b.2.b == a))).map (fun b => (b.2.part, a, s.shareBytes b.1))
  ((page.orElse (fun _ => table)).orElse (fun _ => block))

/-- The 1 KiB stored at page handle `a` as the inspection window shows it (R446): decrypted for partition 0, ciphertext for the others; where
no object lies the bytes are free (log 9). -/
def State.storedKib (s : State) (a : Nat) : List Byte :=
  match s.storedAt a with
  | some x =>
    let b := fitBytes 1024 (slice x.2.2 (1024 * (a - x.2.1)) 1024)
    if x.1 = 0 then b else storedBytes x.1 a b
  | none => fitBytes 1024 (Config.crypto 31 (leBytes 8 a) [])

/-- The inspection window (R446): the bytes of a granule at a device address, else what is stored at a page handle. -/
def State.inspect (s : State) : List Byte :=
  let a := s.dval 0xF0C0 2
  match s.gran (granOf a) with
  | some _ => if granPart (granOf a) = 0 then s.memRead a 4096 else fitBytes 4096 (Config.crypto 30 (leBytes 8 a) (s.memRead a 4096))
  | none => (List.range 4).flatMap (fun i => s.storedKib (a + i))

/-- The bytes of computed entries that are no number. -/
def State.liveBytes (s : State) (idx sub : Nat) : Option (List Byte) :=
  if idx = 1 ∧ sub = 1 then some (ascii "OCL-SC2-A")
  else if idx = 1 ∧ sub = 3 then
    some ((List.range 12).map (fun i =>
      let c := (Config.serialChar i).val
      BitVec.ofNat 8 (if c < 26 then 65 + c else 22 + c)))
  else if idx = 0x2390 ∧ sub ≤ 2 then some (builtinCurve (sub - 1)).bytes
  else if idx = 0x6040 ∧ sub = 1 then some builtinPattern
  else if idx = 0x7010 then
    (match sub with
     | 1 => some s.chain0
     | 2 => some s.chain1
     | 3 => some importCert
     | 4 => some deviceKey
     | _ => some importKey)
  else if 0x7040 ≤ idx ∧ idx < 0x7080 ∧ (sub = 4 ∨ sub = 7 ∨ sub = 9) then some []
  else if idx = 0xF0C0 ∧ sub = 3 then some s.inspect
  else none

/-- A lane mark as it reads in confidential mode: rounded up to a multiple of 100 µs (Table 17-7). -/
def State.markRead (s : State) (idx : Nat) (b : List Byte) : List Byte :=
  if s.confidential && decide (0x4108 ≤ idx) && decide (idx < 0x4110) then leBytes 4 (min 0xFFFFFFFF (cdiv (leNat b) 100000 * 100000)) else b

/-- The value of entry `idx`.`sub` read through function `fn` (R377, R378). -/
def State.readValue (s : State) (fn : Option Nat) (idx sub : Nat) : List Byte :=
  if sub = 0 then leBytes 1 (min 255 (subCount idx))
  else
    match famOf idx sub with
    | none => []
    | some f =>
      if f.acc = 3 then leBytes f.ty.max 0
      else if idx = 0x1180 ∧ sub = 9 then leBytes 1 (b2n ((fn.map s.zeroThere).getD false))
      else if isFrel idx then
        ((fn.bind (fun n => s.dict.vals.get? (fkey n idx sub))).getD (leBytes f.ty.max f.dflt))
      else
        match s.liveBytes idx sub with
        | some b => b
        | none =>
          match s.liveNum idx sub with
          | some n => leBytes f.ty.max n
          | none => s.markRead idx (s.dbytes idx sub)

/-! ## Who may read -/

/-- The function whose mailbox carries origin `o` (R377). -/
def State.fnOf (s : State) : Origin → Option Nat
  | .mailbox fn => some fn
  | .net _ _ => none
  | .session sid =>
    match s.sec.sess.get? sid with
    | some x => (match x.via with
      | .doe fn => some fn
      | .net _ => none)
    | none => none

/-- Is the entry in the Safelight set (Table 17-8)? -/
def isSafe (idx sub : Nat) : Bool :=
  (decide (0x8780 ≤ idx) && decide (idx < 0x87C0)) || idx == 0x8600 || idx == 0x8700
    || (decide (0x8420 ≤ idx) && decide (idx < 0x8480) && ((decide (3 ≤ sub) && decide (sub ≤ 7)) || sub == 0xA))
    || (idx == 0x8410 && decide (4 ≤ sub) && decide (sub ≤ 6)) || (idx == 0x8300 && (sub == 5 || sub == 6 || sub == 9))

/-- The tenant that owns the table of entry `idx` (Table 17-7), none where no tenant does. -/
def State.tenant (s : State) (idx : Nat) : Option Nat :=
  let own :=
    if 0x5040 ≤ idx ∧ idx < 0x50C0 then s.dval idx 4
    else if 0x5240 ≤ idx ∧ idx < 0x5280 then s.dval idx 0x11
    else if 0x5340 ≤ idx ∧ idx < 0x5380 then s.dval idx 0xC
    else 0
  if own = 0 then none else some own

/-- May origin `o` read entry `idx`.`sub` (step 7 of R382)? A function that is bound to no partition may not (R329). -/
def State.mayRead (s : State) (o : Origin) (idx sub : Nat) : Bool :=
  let w := s.whoOf o
  (w.bm || w.part.isSome)
    && (!isFrel idx || (s.fnOf o).isSome)
    && !(s.confidential && idx == 0xF0C0)
    && !(s.confidential && decide (0x8000 ≤ idx) && decide (idx < 0x9000) && decide (sub ≠ 0) && !isSafe idx sub)
    && !(s.confidential && (match s.tenant idx with
        | some p => decide (w.part ≠ some p)
        | none => false))
    && !(decide (0x8780 ≤ idx) && decide (idx < 0x87C0) && !(w.top || w.part == some (idx - 0x8780)))

/-- Does the entry exist (R377)? -/
def entryThere (idx sub : Nat) : Bool := (famOf idx sub).isSome || (sub == 0 && decide (0 < subCount idx))

/-- The DESCRIBE record of entry `idx`.`sub` as `o` sees it (Table 18-4). -/
def State.describe (s : State) (o : Origin) (idx sub : Nat) : List Byte :=
  let cur := (s.readValue (s.fnOf o) idx sub).length
  match famOf idx sub with
  | none => leBytes 16 (2 + 2 ^ 8 + 2 ^ 24 + 2 ^ 32 + cur * 2 ^ 64)
  | some f =>
    leBytes 16 (f.ty.code + f.acc * 2 ^ 8 + b2n f.pers * 2 ^ 16 + b2n (isFrel idx) * 2 ^ 17 + b2n (isSafe idx sub) * 2 ^ 18 + 2 ^ 24
      + f.ty.max * 2 ^ 32 + cur * 2 ^ 64)

end Sys2Proof.Machine
end

