-- ==== Sys2Proof/Machine/Apply.lean ====
section
/-!
DEFINITION. What a Dictionary write of each entry does once the checks of R382 that rest on the table are passed: the chapter's own
rule of a value (R382 steps 9 and 10), the rules that relate entries, and the effect (R379); and the same rules over the persisted
store at a start-up (R430).
-/

namespace Sys2Proof.Machine

/-! ## The rule of one value -/

/-- A schedule or profile number, 0 to 15 or 0xFF for none (Tables 15-5, 15-6). -/
def idOrNone (v : List Byte) : Bool := decide (leNat v < 16) || leNat v == 255

/-- The tier order's nibbles (R105): 0, 2, 3 or 4, and no non-zero one twice. -/
def tierOrderOk (n : Nat) : Bool :=
  let a := n % 16
  let b := n / 16 % 16
  let c := n / 256 % 16
  let ok := fun (x : Nat) => x == 0 || x == 2 || x == 3 || x == 4
  ok a && ok b && ok c && decide (n < 4096) && (a == 0 || (a != b && a != c)) && (b == 0 || b != c)

/-- The status and detail with which a table is refused (R382 step 10). -/
def wTable : Nat × Nat := (stTABLE, 0)

/-- The chapter's own rule of a value `v` of entry `idx`.`sub`, whatever the other entries hold: none where it passes. -/
def State.valueRule (s : State) (idx sub : Nat) (v : List Byte) : Option (Nat × Nat) :=
  let n := leNat v
  let need := fun (b : Bool) (e : Nat × Nat) => if b then none else some e
  if idx = 0x1000 ∧ sub = 1 then need (!bitN n 0) wRefused
  else if idx = 0x1180 ∧ sub = 8 then need (decide (n < 2048) || n == 0xFFFF) wRefused
  else if idx = 0x2380 then need (v.isEmpty || tabOk 512 v) wTable
  else if idx = 0x2390 then need (v.isEmpty || curveOk v) wTable
  else if idx = 0x3000 ∧ sub = 6 then need (tierOrderOk n) wRefused
  else if idx = 0x3200 ∧ (sub = 1 ∨ sub = 3) then
    need (n % 2 ^ 21 == 0 && bitsN n 55 50 == 0 && decide (n < 2 ^ 56)) wRefused
  else if (0x4150 ≤ idx ∧ idx < 0x4190 ∧ sub = 2) ∨ (0x41B0 ≤ idx ∧ idx < 0x41C8 ∧ (sub = 1 ∨ 0x11 ≤ sub)) then need (idOrNone v) wRefused
  else if idx = 0x41A0 then need (scheduleOk v) wTable
  else if 0x5010 ≤ idx ∧ idx < 0x5018 then need (v.isEmpty || (textCheck 0 v).isNone) wTable
  else if 0x5040 ≤ idx ∧ idx < 0x5080 ∧ sub = 1 then need (v.isEmpty || (textCheck 1 v).isNone) wTable
  else if 0x5080 ≤ idx ∧ idx < 0x50C0 ∧ sub = 1 then need (v.isEmpty || (textCheck 2 v).isNone) wTable
  else if 0x5240 ≤ idx ∧ idx < 0x5280 ∧ sub = 8 then need (n % 8 == 0) wRefused
  else if idx = 0x5280 then need (v.isEmpty || tabOk 32 v) wTable
  else if 0x5340 ≤ idx ∧ idx < 0x5380 ∧ (sub = 5 ∨ sub = 7) then need (n % 16 == 0) wRefused
  else if idx = 0x6040 then need (v.isEmpty || s.patternOk v) wTable
  else if 0x9050 ≤ idx ∧ idx < 0x9061 ∧ sub = 1 then need (marginCurveOk (idx - 0x9050) v) wTable
  else none

/-! ## Writes of each chapter -/

/-- A write of a session or tier entry of 0x1000 to 0x3FFF by `o`. -/
def State.writeLow (s : State) (o : Origin) (idx sub : Nat) (v : List Byte) : Except (Nat × Nat) State :=
  let n := leNat v
  let plain := s.dset idx sub v
  if idx = 0x1050 ∨ idx = 0x1180 then
    match o with
    | .mailbox fn =>
      if idx = 0x1180 ∧ sub = 9 then s.ring0Write o n
      else if idx = 0x1180 ∧ s.zeroThere fn then .error wRefused
      else if idx = 0x1050 ∧ sub = 1 ∧ n ≠ 0 ∧ !s.host.rings.has (ringKey fn 4 n) then .error wRefused
      else
        let d := s.dict.set (fkey fn idx sub) v false
        .ok { s with dict := d }
    | _ => .error wDenied
  else if 0x2040 ≤ idx ∧ idx < 0x2080 then .ok (plain.relatch (idx - 0x2040))
  else if idx = 0x2200 ∧ sub = 3 then s.bathWrite v
  else if idx = 0x2200 ∧ sub = 4 then (if s.sched.bath.level = 0 then .ok plain else .error wRefused)
  else if 0x2210 ≤ idx ∧ idx < 0x2218 then
    (if sub = 1 then s.laneWrite (idx - 0x2210) v
     else if (sub = 2 ∨ sub = 3) ∧ s.laneF (idx - 0x2210) 1 = 1 then .error wRefused
     else .ok plain)
  else if 0x2240 ≤ idx ∧ idx < 0x2280 then s.coreSetWrite (idx - 0x2240) sub v
  else if 0x2340 ≤ idx ∧ idx < 0x2380 ∧ sub = 1 then s.profileWrite (idx - 0x2340) v
  else if idx = 0x2380 then s.tabWrite (sub - 1) v
  else if idx = 0x2390 then s.curveWrite (sub - 1) v
  else if idx = 0x3000 ∧ sub = 3 ∧ s.dval 0x3000 4 ≤ n then .error wRefused
  else if idx = 0x3000 ∧ sub = 4 ∧ n ≤ s.dval 0x3000 3 then .error wRefused
  else if idx = 0x3100 ∧ sub = 6 ∧ s.dval 0x3100 7 ≤ n then .error wRefused
  else if idx = 0x3100 ∧ sub = 7 ∧ n ≤ s.dval 0x3100 6 then .error wRefused
  else if idx = 0x3200 ∧ sub = 0xB then s.restoreWrite n
  else if idx = 0x3200 ∧ sub = 0xC then s.ckptWrite n
  else if idx = 0x3200 ∧ sub ≤ 5 then
    (if s.ckpt.run.isSome then .error wDenied
     else if sub = 5 then .ok plain
     else
       let u : State := { plain with ckpt := { plain.ckpt with slots := plain.ckpt.slots.del ((sub + 1) / 2) } }
       .ok u.reanchor)
  else .ok plain

/-- The policer profile now named: its meters start full (R321), those keyed `key`. -/
def State.refill (s : State) (hit : Nat → Bool) : State :=
  { s with fab := { s.fab with meters := s.fab.meters.keep (fun k _ => !hit k) } }

/-- A spill buffer that is empty takes the size of 0x4100.04 (R326). -/
def Spill.resize (b : Spill) (mib : Nat) : Spill := if b.occ = 0 then { b with mib } else b

/-- A write of an entry of 0x4000 to 0x4FFF. -/
def State.writeFabric (s : State) (idx sub : Nat) (v : List Byte) : Except (Nat × Nat) State :=
  let plain := s.dset idx sub v
  if (idx = 0x4100 ∧ sub = 9) ∨ (0x4108 ≤ idx ∧ idx < 0x4110) ∨ (0x41B0 ≤ idx ∧ sub = 0xA) then .ok (s.clearMarks idx)
  else if idx = 0x4100 ∧ sub = 4 then
    .ok { plain with fab := { plain.fab with spill := plain.fab.spill.map (fun b => b.resize (leNat v)) } }
  else if 0x4150 ≤ idx ∧ idx < 0x4190 ∧ sub = 2 then .ok (plain.refill (fun k => decide (k < 4096) && k % 64 == idx - 0x4150))
  else if 0x4190 ≤ idx ∧ idx < 0x41A0 then s.policerWrite (idx - 0x4190) sub v
  else if idx = 0x41A0 then s.scheduleWrite (sub - 1) v
  else if 0x41B0 ≤ idx ∧ sub = 1 then .ok (plain.refill (fun k => k == 4096 + (idx - 0x41B0)))
  else if 0x41B0 ≤ idx ∧ 0x11 ≤ sub then
    let k := 4 * (idx - 0x41B0) + (sub - 0x11)
    .ok (plain.setLink k { (plain.link k) with gate := s.ns, gateAt := 0 })
  else .ok plain

/-- A write of a descriptor subindex of an embedding table or vector index of entry `idx`: DENIED while it is loaded; the first
write of the base sets the owner at `osub` (R234, R253). -/
def State.writeDesc (s : State) (idx sub osub : Nat) (loaded : Bool) (v : List Byte) : Except (Nat × Nat) State :=
  if loaded then .error wDenied
  else
    let own := s.ownerFor idx sub osub v
    let plain := s.dset idx sub v
    .ok (if sub = 2 then plain.dsetN idx osub own else plain)

/-- A write of an entry of 0x5000 to 0x6FFF by `o`. -/
def State.writeUnits (s : State) (o : Origin) (idx sub : Nat) (v : List Byte) : Except (Nat × Nat) State :=
  if 0x5010 ≤ idx ∧ idx < 0x5018 then s.textTable o 0 (idx - 0x5010) v
  else if 0x5040 ≤ idx ∧ idx < 0x5080 then s.textTable o 1 (idx - 0x5040) v
  else if 0x5080 ≤ idx ∧ idx < 0x50C0 then s.textTable o 2 (idx - 0x5080) v
  else if 0x5240 ≤ idx ∧ idx < 0x5280 then
    (if sub = 1 then s.embControl (idx - 0x5240) v else s.writeDesc idx sub 0x11 (s.emb.tabs.has (idx - 0x5240)) v)
  else if idx = 0x5280 ∧ s.emb.tabs.any (fun e => s.embF e.1 5 == 6 && s.embF e.1 6 == sub - 1) then .error wDenied
  else if 0x5340 ≤ idx ∧ idx < 0x5380 then
    (if sub = 1 then s.vecControl (idx - 0x5340) v
     else if sub = 8 then s.holdEpoch (idx - 0x5340) v
     else s.writeDesc idx sub 0xC (s.vec.idx.has (idx - 0x5340)) v)
  else if idx = 0x6040 then s.patternWrite (sub - 1) v
  else .ok (s.dset idx sub v)

/-- A write of an entry of 0x7000 to 0x7FFF. -/
def State.writeSec (s : State) (idx sub : Nat) (v : List Byte) : Except (Nat × Nat) State :=
  let n := leNat v
  if idx = 0x7000 ∧ sub = 2 then s.confidentialTo n
  else if idx = 0x7010 then
    let r := s.setChain1 v
    if r.2 then .ok r.1 else .error wRefused
  else if 0x7040 ≤ idx ∧ idx < 0x7080 then
    let p := idx - 0x7040
    (match sub with
     | 1 => s.partWrite p n
     | 2 => s.ownerKey p v
     | 4 => .ok (s.linkKey p v)
     | 7 => s.exportKey p v
     | 9 => s.importPackage p v
     | _ => .ok (s.dset idx sub v))
  else if 0x7080 ≤ idx ∧ idx < 0x7084 then s.bindFn (idx - 0x7080) (sub - 1) n
  else if 0x7084 ≤ idx ∧ idx < 0x7088 then s.ideBit (idx - 0x7084) (sub - 1) n
  else .ok (s.dset idx sub v)

/-- A write of an entry of 0x8000 to 0xEFFF. -/
def State.writeHigh (s : State) (idx sub : Nat) (v : List Byte) : Except (Nat × Nat) State :=
  let n := leNat v
  if 0x8000 ≤ idx ∧ idx < 0x9000 then .ok { s with ctr := s.ctr.clear idx n }
  else if idx = 0x9000 then s.leadMove n
  else if idx = 0x9010 ∧ sub = 1 then s.calSet n
  else if 0x9020 ≤ idx ∧ idx < 0x9024 ∧ sub = 1 then s.timeSample (idx - 0x9020) n
  else if 0x9020 ≤ idx ∧ idx < 0x9024 ∧ sub = 7 then .ok (s.mapEmpty (idx - 0x9020))
  else if idx = 0x9040 ∧ sub = 2 then .ok (s.replanAll (fun _ => true))
  else if 0x9050 ≤ idx ∧ idx < 0x9061 then s.marginWrite (idx - 0x9050) sub v
  else if 0x9080 ≤ idx ∧ idx < 0x90E4 then s.planWrite (idx - 0x9080) n
  else .ok (s.dset idx sub v)

/-- The effect of a write of `v` to entry `idx`.`sub` by `o`, by its chapter's own operation. -/
def State.writeBy (s : State) (o : Origin) (idx sub : Nat) (v : List Byte) : Except (Nat × Nat) State :=
  if idx < 0x4000 then s.writeLow o idx sub v
  else if idx < 0x5000 then s.writeFabric idx sub v
  else if idx < 0x7000 then s.writeUnits o idx sub v
  else if idx < 0x8000 then s.writeSec idx sub v
  else s.writeHigh idx sub v

/-- The effect of a write outside the entries of ch 20 and maintenance state: a DENIED of the chapter comes before the rule of the
value (R382 steps 7 to 10). -/
def State.applyWrite (s : State) (o : Origin) (idx sub : Nat) (v : List Byte) : Except (Nat × Nat) State :=
  match s.writeBy o idx sub v, s.valueRule idx sub v with
  | .error e, _ => .error e
  | .ok _, some e => .error e
  | .ok u, none => .ok u

/-! ## The persisted store at a start-up (R430) -/

/-- Does a stored value of key `k` pass the rules of its entry? An entry that does not exist, or persists nothing, has none. -/
def State.storedOk (s : State) (k : Nat) (v : List Byte) : Bool :=
  match famOf (k / 256) (k % 256) with
  | none => false
  | some f =>
    f.pers && !(f.ty.fixed && v.length != f.ty.max && !(v.isEmpty && domEmptyOk (k / 256) (k % 256))) && decide (v.length ≤ f.ty.max)
      && typeRule f.ty v
      && (f.acc == 1 || f.range == (0, 0) || (f.dflt == leNat v) || (decide (f.range.1 ≤ leNat v) && decide (leNat v ≤ f.range.2))
        || (decide (leNat v ≤ 1) && k % 256 == 1))
      && (s.valueRule (k / 256) (k % 256) v).isNone

/-- The rules that relate entries, each with its keys and whether it holds: R105, R133, R322 for each profile, R421 for each island
kind. -/
def State.relations (s : State) : List (List Nat × Bool) :=
  ([([dkey 0x3000 3, dkey 0x3000 4], decide (s.dval 0x3000 3 < s.dval 0x3000 4)),
    ([dkey 0x3100 6, dkey 0x3100 7], decide (s.dval 0x3100 6 < s.dval 0x3100 7))]
    ++ (List.range 16).map (fun i =>
        let p := s.policer i
        ([dkey (0x4190 + i) 1, dkey (0x4190 + i) 2, dkey (0x4190 + i) 3, dkey (0x4190 + i) 4],
          !(decide (p.pir < p.cir) || decide (4800000000000 < p.pir) || decide (p.cir < 1000000) || decide (p.cbs < 65536)
            || decide (p.pbs < 65536))))
    ++ (List.range 17).map (fun k =>
        ([dkey (0x9050 + k) 2, dkey (0x9050 + k) 3], decide (s.dval (0x9050 + k) 2 ≤ s.dval (0x9050 + k) 3))))

/-- The keys whose values take their defaults: those that fail alone, then every key of a relation that fails. -/
def State.defaulted (s : State) (alone : List Nat) : List Nat :=
  (s.relations.filter (fun r => !r.2)).foldl (fun l r => l ++ r.1.filter (fun k => s.dict.vals.has k && !l.contains k)) alone

/-- The values a start-up takes from the persisted store (R380, R430): each default taken is counted, with event 0xF003 once. An
entry the firmware does not define is discarded without a default. -/
def State.loadStore (s : State) : State :=
  let known := fun (k : Nat) => (famOf (k / 256) (k % 256)).isSome
  let store := s.dict.store.keep (fun k _ => known k)
  let bad := (store.filter (fun e => !s.storedOk e.1 e.2.2)).map (·.1)
  let vals := (store.keep (fun k _ => !bad.contains k)).mapV (fun _ e => e.2)
  let s1 : State := { s with dict := { s.dict with vals, store } }
  let out := s1.defaulted bad
  let s2 : State := { s1 with dict := { s1.dict with
    vals := s1.dict.vals.keep (fun k _ => !out.contains k), store := s1.dict.store.keep (fun k _ => !out.contains k) } }
  if out.isEmpty then s2 else (s2.count 0x8F00 7 out.length).raise 0xF003 0 0 [out.length, nth out 0 0]

end Sys2Proof.Machine
end

