-- ==== Sys2Proof/Machine/Maint.lean ====
section
/-!
DEFINITION. Maintenance state (R397, Table 18-10).
-/

namespace Sys2Proof.Machine

/-- The word that names an origin in event 0xF010: a function, 256 for the field network, 512 plus the session (log 56). -/
def originWord : Origin → Nat
  | .mailbox fn => fn
  | .net _ _ => 256
  | .session sid => 512 + sid

/-- The lanes with a step in flight on either half, bit n. -/
def State.flyingLanes (s : State) : Nat :=
  ((List.range 8).map (fun n => if (s.stepOf 0 n).isSome ∨ (s.stepOf 1 n).isSome then 2 ^ n else 0)).foldl (· + ·) 0

/-- `s` in maintenance state `st`, `w` the value written last. -/
def State.setMaint (s : State) (st w : Nat) : State := { s with maint := { st, written := w } }

/-- A write of `v` to 0xF000.01 by `o` (Table 18-10). -/
def State.maintWrite (s : State) (o : Origin) (v : Nat) : Except (Nat × Nat) State :=
  match s.maint.st with
  | 0 => if v = 1 then .ok (((s.setMaint 1 1).unlatch 0xF014 0).raise 0xF010 0 0 [originWord o]) else .ok (s.setMaint 0 0)
  | 1 => if v = 1 then .ok (s.setMaint 1 1) else .ok ((s.setMaint 0 0).raise 0xF012 0 0 [])
  | 2 =>
    if v = 1 then .ok (s.setMaint 2 1)
    else if s.ckptState ≠ 0 then .error (stDENIED, dBUSY)
    else .ok (s.setMaint 3 0)
  | _ => .error (stDENIED, dBUSY)

/-- MAINTENANCE_ENTER (R397). -/
def execMaintenanceEnter (o : Origin) (v : List Byte) (s : State) : Host.Outcome State Fault Refusal :=
  .next (s.writeRow o 0xF000 1 v (fun t => t.maintWrite o (leNat v)))

/-- MAINTENANCE_LEAVE (R397). -/
def execMaintenanceLeave (o : Origin) (v : List Byte) (s : State) : Host.Outcome State Fault Refusal :=
  .next (s.writeRow o 0xF000 1 v (fun t => t.maintWrite o (leNat v)))

/-- Maintenance state is reached once no lane has a step in flight: event 0xF011, and a quiesce (R414). -/
def State.maintReached (s : State) : State :=
  if s.maint.st = 1 ∧ s.flyingLanes = 0 then ((s.setMaint 2 s.maint.written).raise 0xF011 0 0 []).quiesce else s

/-- MAINTENANCE_REACHED (Table 18-10). -/
def execMaintenanceReached (s : State) : Host.Outcome State Fault Refusal := .next s.maintReached

/-- MAINTENANCE_ENTRY_LATE (Table 18-10): 0xF000.04 ms have passed since the entry; event 0xF014 once. -/
def execMaintenanceEntryLate (s : State) : Host.Outcome State Fault Refusal :=
  .next (if s.maint.st = 1 ∧ s.flyingLanes ≠ 0 then s.raiseOnce 0xF014 0 0 0 [s.flyingLanes] else s)

/-- The round timers of restored steps start (R292). -/
def State.startRestoredTimers (s : State) : State :=
  { s with sched := { s.sched with lanes := s.sched.lanes.mapV (fun _ l =>
    if (l.step.map (·.restored)).getD false then { l with timer := true } else l) } }

/-- MAP_CHECK_DONE (Table 18-10): service resumes, the map accepted or not (R310). -/
def execMapCheckDone (s : State) : Host.Outcome State Fault Refusal :=
  .next (if s.maint.st = 3 then ((s.checkMap.setMaint 0 0).startRestoredTimers).raise 0xF012 0 0 [] else s)

end Sys2Proof.Machine
end

