-- ==== Sys2Proof/Machine/Startup.lean ====
section
/-!
DEFINITION. Resets and start-ups (R422 to R435, R438 to R440): what each keeps, the choice of a firmware slot by the ROM, the end of a
start-up, the half reset, heartbeats and the device mode.
-/

namespace Sys2Proof.Machine

/-! ## Bundles (R436 to R438) -/

/-- Is the image header of kind `kind` at byte `at_` correct (R436, Table 20-6)? -/
def imageShape (b : List Byte) (at_ kind : Nat) : Bool :=
  let w := leAt b at_ 256
  let off := bitsN w 223 192
  let len := bitsN w 255 224
  bitsN w 15 0 == 0x494D && bitsN w 23 16 == 0 && bitsN w 31 24 == 1 && bitsN w 39 32 == kind && decide (bitsN w 47 40 ≤ 1)
    && bitsN w 127 48 == 0 && bitsN w 895 256 == 0 && decide (1 ≤ len) && off % 64 == 0 && decide (896 ≤ off)
    && decide (off + len ≤ b.length)

/-- Do two bodies, as offset and length, lie apart? -/
def apart (x y : Nat × Nat) : Bool := decide (x.1 + x.2 ≤ y.1) || decide (y.1 + y.2 ≤ x.1)

/-- The structure of a bundle, its cv and stepping (R436, R443). -/
def bundleShape (b : List Byte) : Bool :=
  let w := leAt b 0 128
  let i := imageBody b 128
  let j := imageBody b 384
  let k := imageBody b 640
  decide (896 ≤ b.length) && decide (b.length ≤ 3670016) && bitsN w 15 0 == 0x4642 && bitsN w 31 16 == 0 && bitsN w 39 32 == 1
    && bitsN w 47 40 == 3 && bitsN w 63 48 == 0xB0 && bitsN w 927 64 == 0 && bitsN w 991 960 == b.length
    && crc32c (b.take 124 ++ leBytes 4 0 ++ b.drop 128) == bitsN w 1023 992
    && imageShape b 128 2 && imageShape b 384 3 && imageShape b 640 4 && apart i j && apart i k && apart j k

/-- Why bundle `b` does not pass with floors `fl` (R438): 1 header, 2 signature, 3 digest, 4 security version; none where it passes.
What the signature and digest checks find is the device's (log 9). -/
@[irreducible] def bundleFault (fl : List Nat) (b : List Byte) : Option Nat :=
  let heads := [(128, 0), (384, 1), (640, 2)]
  if !bundleShape b then some 1
  else if heads.any (fun x => !Config.cryptoOk 10 (leBytes 1 (leAt b (x.1 + 5) 1)) (slice b x.1 160 ++ slice b (x.1 + 160) 96)) then some 2
  else if heads.any (fun x =>
      let o := imageBody b x.1
      sha384 (slice b o.1 o.2) != slice b (x.1 + 112) 48) then some 3
  else if heads.any (fun x => decide (leAt b (x.1 + 16) 4 < nth fl x.2 0)) then some 4
  else none

/-- The floors of kinds 2 to 4 (R440). -/
def State.floors (s : State) : List Nat := [s.dval 0xF002 9, s.dval 0xF002 0xA, s.dval 0xF002 0xB]

/-! ## The ROM (R438, R439) -/

/-- The slots in the order the ROM tries them: TRIAL, ACTIVE, STANDBY, without those failed in this power cycle. -/
def Boot.order (b : Boot) : List Nat :=
  ([2, 3, 4].flatMap (fun st => [0, 1].filter (fun k => (b.slots.get k).st == st))).filter (fun k => !b.failed.contains k)

/-- Slot `k` is FAILED, and tried last. -/
def Boot.fail (b : Boot) (k : Nat) : Boot :=
  { b with slots := b.slots.upd k (fun x => { x with st := 5 }), failed := k :: b.failed.filter (fun j => j != k) }

/-- The ROM tries the slots of `l` with floors `fl`: the first that passes is in use, those before it are FAILED, and the first of
them is what event 0xF002 tells. With none the mode is RECOVERY (R444). -/
def Boot.tryAll (b : Boot) (fl : List Nat) : List Nat → Boot
  | [] => { b with mode := 3, use := 2 }
  | k :: t =>
    match bundleFault fl (b.slots.get k).bytes with
    | none =>
      let y := (b.slots.get k).bytes
      { b with
        use := k
        secver := [leAt y 144 4, leAt y 400 4, leAt y 656 4]
        version := [leAt y 148 4, leAt y 404 4, leAt y 660 4] }
    | some r =>
      let b1 := b.fail k
      let b2 : Boot := { b1 with fellBack := some (b.fellBack.getD (k, r)) }
      b2.tryAll fl t

/-- The ROM examines the slots. -/
def State.rom (s : State) : State := { s with boot := s.boot.tryAll s.floors s.boot.order }

/-! ## What a start-up keeps (R428 to R431) -/

/-- The run of an anchor that holds granule `g` (R429). -/
def Boot.anchorOf (b : Boot) (g : Nat) : Option AnchorRun :=
  (b.anchors.w ++ b.anchors.e).find? (fun r => decide (r.first ≤ g) && decide (g < r.first + r.count))

/-- Is granule `g` anchored? -/
def Boot.anchored (b : Boot) (g : Nat) : Bool := (b.anchorOf g).isSome

/-- The granules a start-up maps: those anchored, in partition 0 with PIN at their anchored locations. -/
def State.bootGrans (s : State) : Tab Granule :=
  s.tiers.grans.filterMap (fun kg =>
    (s.boot.anchorOf kg.1).map (fun r =>
      (kg.1, { tier := r.tier, pin := true, loc := r.loc + 2050 * (kg.1 - r.first), mv := none, accSec := 0, acc := 0, lastAcc := 0, adds := [] })))

/-- A half's T2 side after a start-up: what was in the buffer has been written, and the stripes that hold no anchored granule are
trimmed. -/
def T2Half.keepAnchored (t : T2Half) (b : Boot) : T2Half :=
  let whole := if t.buf.isEmpty then t.stripes
    else t.stripes.put t.cur { live := (t.buf.map (·.kib)).foldl (· + ·) 0, acked := [], objs := t.buf }
  let kept : Tab Stripe := whole.filterMap (fun ks =>
    let objs := ks.2.objs.filter (fun o => match o.kind with
      | .granule g => b.anchored g
      | _ => false)
    if objs.isEmpty then none else some (ks.1, { ks.2 with objs, live := (objs.map (·.kib)).foldl (· + ·) 0 }))
  { T2Half.empty with stripes := kept }

/-- The stripes in use of a half's T2 side. -/
def T2Half.used (t : T2Half) : Nat := t.stripes.length + b2n (!t.buf.isEmpty)

/-- The T3 extents of anchored granules recreated, lapsed (R429, R101). -/
def State.bootExtents (s : State) : Tab Extent :=
  (s.tiers.extents.keep (fun k _ => decide (k < 128) && (s.boot.anchors.w ++ s.boot.anchors.e).any (fun r => r.tier == 3 && r.ext == k))).mapV
    (fun k x => { x with
      leased := false
      allocs := x.allocs.keep (fun o _ => s.bootGrans.any (fun g => g.2.tier == 3 && g.2.loc == 2 ^ 38 * k + o)) })

/-- The pool extents of anchored granules, lapsed until a GRANT says otherwise (R429). -/
def State.bootBorrowed (s : State) : Tab Borrowed :=
  (s.tiers.borrowed.keep (fun _ x => x.part == 0 && (s.boot.anchors.w ++ s.boot.anchors.e).any (fun r =>
      r.tier == 4 && r.ext == x.ext && r.addr == x.holder))).mapV
    (fun _ x => { x with
      lapsed := true
      allocs := x.allocs.keep (fun o _ => s.bootGrans.any (fun g => g.2.tier == 4 && g.2.loc == 2 ^ 39 * x.holder + 2 ^ 32 * x.ext + o)) })

/-- The tiers a start-up leaves. -/
def State.bootTiers (s : State) : Tiers :=
  { Tiers.start with
    t2 := s.tiers.t2.map (fun t => t.keepAnchored s.boot)
    flash := s.tiers.flash.mapV (fun _ f => { f with cond := 0 })
    grans := s.bootGrans
    extents := s.bootExtents
    borrowed := s.bootBorrowed
    poison := s.tiers.poison.filter (fun b => s.boot.anchored (granOf (4096 * b)))
    mem := s.tiers.mem.filter (fun c => s.boot.anchored (granOf c.1)) }

/-- A persisted number, `d` where the store holds none. -/
def State.stored (s : State) (idx sub d : Nat) : Nat :=
  match s.dict.store.get? (dkey idx sub) with
  | some e => leNat e.2
  | none => d

/-- Island `i` after a start-up: at its last applied voltage, with the lifetime counts last written (R411, R414). -/
def State.bootIsland (s : State) (i : Nat) (x : Island) : Island :=
  { Island.blank i with
    volt := s.stored (0x9080 + i) 5 x.volt
    active := s.stored (0x9080 + i) 0xA 0
    stress := s.stored (0x9080 + i) 0xB 0
    hottest := sext 32 (s.stored (0x9080 + i) 0xC 0) }

/-- The calendar after a start-up (R410): it runs on through a warm reset, and after a power loss resumes from its copy. -/
def Calendar.boot (c : Calendar) (warm : Bool) : Calendar :=
  let run : Calendar := if warm then c
    else { c with st := if c.st = 0 then 0 else 1, now := if c.st = 0 then 0 else c.saved, slew := 0, frac := 0 }
  { run with copy := { w := run.now, e := run.now }, age := { w := 0, e := 0 }, free := { w := false, e := false } }

/-- Clocks and lifetime after a start-up: E has increased by one, and lead is with the strap's half (R417). -/
def State.bootClocks (s : State) (warm : Bool) : Clocks :=
  { Clocks.start with
    cal := s.clk.cal.boot warm
    lead := { half := some s.boot.leadPref, epoch := (s.clk.lead.epoch + 1) % 2 ^ 32, moving := none }
    islands := s.clk.islands.mapV (fun i x => s.bootIsland i x)
    onSeconds := s.stored 0x9070 1 0
    cycles := satN 4 (s.stored 0x9070 2 s.clk.cycles + b2n (!warm))
    thermal := s.stored 0x9070 3 0
    hotSeconds := s.stored 0x9070 4 0 }

/-- The firmware slots and what the root-of-trust keeps: a slot being written is EMPTY (Table 20-7); slots failed in this power
cycle are remembered by a warm reset. -/
def Boot.boot (b : Boot) (warm : Bool) (last : Nat) : Boot :=
  { Boot.start with
    wasTest := b.mode == 2 || (b.mode == 0 && b.wasTest)
    lastReset := last
    starts := satN 4 (b.starts + 1)
    slots := b.slots.map (fun x => if x.st = 1 then FwSlot.empty else x)
    failed := if warm then b.failed else []
    fellBack := if last = 4 then b.fellBack else none
    bslot := b.bslot
    leadPref := b.leadPref
    refLost := b.refLost
    anchors := b.anchors }

/-- The values of the persisted store taken, with what follows from them: start-ups, lead epoch and power cycles persisted, link keys
installed, the bifurcation and the spill buffers in force. -/
def State.settle0 (s : State) : State :=
  let s1 := s.loadStore
  { s1 with
    dict := ((s1.dict.persist 0xF000 9 4 s1.boot.starts).persist 0x9000 3 4 s1.clk.lead.epoch).persist 0x9070 2 4 s1.clk.cycles
    host := { s1.host with bifur := s1.dval 0x1100 1 }
    fab := { s1.fab with
      keys := s1.sec.linkKeys.map (·.1)
      spill := s1.fab.spill.map (fun b => { b with mib := s1.dval 0x4100 4 }) } }

/-- The pool RENEWs that a start-up sends for its T4 slot granules (R429). -/
def State.renewAnchors (s : State) : State :=
  s.tiers.borrowed.foldl (fun t b => t.poolAsk 3 b.2.part b.2.holder b.2.ext 0 0 none []) s

/-- The state from which a start-up begins, after a power-on or (`warm`) a warm reset: Table 20-1's row, R428 to R431. Lifetime counters keep
their SAT bits, as no reset clears them. -/
def State.fresh (s : State) (warm : Bool) (last : Nat) : State :=
  let base : State := { State.reset with
    pending := s.pending
    out := s.out
    free := s.free
    tiers := s.bootTiers
    ckpt := { run := none, slots := s.ckpt.slots, mark := s.ckpt.mark, restore := none, resumed := [] }
    sec := { Sec.start with
      memKeys := s.sec.memKeys, imported := s.sec.imported, linkKeys := s.sec.linkKeys, draws := s.sec.draws
      chainKey := s.sec.chainKey }
    ctr := { State.reset.ctr with sat := s.ctr.sat.filter (fun k => k / 256 == 0x9070 || (decide (0x9080 ≤ k / 256) && decide (k / 256 < 0x90E4))) }
    dict := { vals := [], store := s.dict.store, snaps := [], staged := [], pend := [] }
    clk := s.bootClocks warm
    boot := s.boot.boot warm last }
  base

/-- A start-up of kind `last` (0 power-on, 1 warm, 4 fallback): the state kept, the ROM's choice, the store read, tables and profiles
reloaded, and event 0xF00A with the stripes freed. -/
def State.start (s0 : State) (last : Nat) : State :=
  let warm := last != 0
  let s := if warm then s0.lifeSave else s0
  let f := s.fresh warm last
  let freed := s.tiers.t2.w.used + s.tiers.t2.e.used - (f.tiers.t2.w.used + f.tiers.t2.e.used)
  let s1 := f.settle0.keepImages
  let s2 := (if last = 1 then s1.count 0x8F00 1 1 else s1).lifeTold
  let s3 := if s2.boot.refLost then s2 else s2.rom
  if s3.boot.mode = 3 then s3
  else
    let s4 := (s3.reloadProfiles.embReload.vecReload).raise 0xF00A 0 0 [freed]
    let s5 := if s4.ckpt.mark then s4.raise 0x3026 0 0 [] else s4
    s5.renewAnchors

/-- POWER_ON (R452, R457): straps sampled, BSLOT in bits 3:0 and LEAD_PREF in bit 4. After a shutdown the feed must fall first (R455). -/
def State.powerOn (s : State) (straps : Nat) (refclk : Bool) : State :=
  if s.boot.shut ∧ !s.boot.off then s
  else
    ({ s with boot := { s.boot with bslot := straps % 16, leadPref := straps / 16 % 2, refLost := !refclk } }).start 0

/-- POWER_ON. -/
def execPowerOn (straps : Nat) (refclk : Bool) (s : State) : Host.Outcome State Fault Refusal := .next (s.powerOn straps refclk)

/-! ## The end of a start-up -/

/-- The slots once a start-up from slot `k` completes (Table 20-7). -/
def Boot.came (b : Boot) (k : Nat) : Boot :=
  let o := 1 - k
  { b with slots := (b.slots.upd k (fun x => { x with st := 3 })).upd o (fun x => { x with st := if x.st = 3 then 4 else x.st }) }

/-- The chain of slot 1 is gone once a start-up has ended under another Attestation key (R359). -/
def State.chainKept (s : State) : State :=
  if s.sec.chainKey == s.attestKey then s
  else
    { s with
      sec := { s.sec with chainKey := s.attestKey }
      dict := { s.dict with vals := s.dict.vals.del (dkey 0x7010 2), store := s.dict.store.del (dkey 0x7010 2) } }

/-- STARTING ends in NORMAL (Table 20-3): event 0xF001, event 0xF002 where it fell back, maintenance state where it is due, the map
checked, and a quiesce (R414). -/
def State.startDone (s : State) : State :=
  let b := s.boot.came s.boot.use
  let s1 : State := { s with boot := { b with mode := 1, wasTest := false, fellBack := none } }
  let s2 := s1.raise 0xF001 0 0 [b.lastReset, b.use, 1]
  let s3 := match b.fellBack with
    | some (k, r) => (s2.count 0x8F00 3 1).raise 0xF002 0 0 [k, r]
    | none => s2
  let s4 := if s3.dval 0xF000 7 = 1 ∨ s3.ckpt.mark ∨ b.wasTest then (s3.setMaint 2 0).raise 0xF011 0 0 [] else s3
  s4.chainKept.checkMap.quiesce

/-- The end of a start-up. It waits for the refclk (R425); a ROM that has not chosen yet chooses, and without a slot that passes the
mode is RECOVERY. -/
def State.startupEnd (s : State) : State :=
  if s.boot.mode ≠ 0 ∨ s.boot.refLost ∨ s.dark then s
  else
    let s1 := if s.boot.use = 2 then s.rom else s
    if s1.boot.mode = 3 then s1 else s1.startDone

/-- STARTUP_END. -/
def execStartupEnd (s : State) : Host.Outcome State Fault Refusal := .next s.startupEnd

/-- STARTUP_READY_TIMEOUT (R438): the slot has failed, and the next is tried after a warm reset that is part of the start-up. -/
def execStartupReadyTimeout (s : State) : Host.Outcome State Fault Refusal :=
  .next (
    if s.boot.mode ≠ 0 ∨ s.boot.use = 2 ∨ s.dark then s
    else
      let b := s.boot.fail s.boot.use
      ({ s with boot := { b with fellBack := some (s.boot.fellBack.getD (s.boot.use, 5)) } }).start 4)

/-! ## Warm and half resets (R423, R433) -/

/-- May half `h` be reset (R423)? -/
def State.halfBusy (s : State) (h : Nat) : Bool := s.boot.halfStart.get (otherHalf h) || s.boot.mode == 0 || s.boot.mode == 3

/-- The own messages of a link's queues stay; what it was forwarding is discarded with the spill buffer. -/
def Link.dropForwarded (l : Link) : Link :=
  { l with vout := l.vout.mapV (fun _ o => { o with
    curFwd := false, queues := o.queues.mapV (fun _ q => q.filter (fun m => !m.fwd)) }) }

/-- Half `h`'s links go DOWN and its spilled flits are discarded (R433, R306). -/
def State.halfLinks (s : State) (h : Nat) : State :=
  let s1 := (s.fab.links.filter (fun kl => linkHalf kl.1 == h && kl.2.st != 0 && kl.2.st != 4)).foldl (fun u kl => u.linkDown kl.1 1) s
  { s1 with fab := { s1.fab with
    links := s1.fab.links.mapV (fun k l => if linkHalf k = h then l.dropForwarded else l)
    spill := s1.fab.spill.upd h (fun b => { b with occ := 0, high := false, full := false }) } }

/-- What the half's cores ran is lost; a scan task is queued again. -/
def State.halfCoresStop (s : State) (h : Nat) : State :=
  let scans : List (Nat × Work) := s.sched.cores.filterMap (fun kc =>
    if coreHalf kc.1 ≠ h then none
    else match kc.2.run with
      | some (.scan task) => some (kc.2.cur.getD 0, .scan task)
      | _ => none)
  let s1 : State := { s with
    sched := { s.sched with
      cores := s.sched.cores.mapV (fun k c => if coreHalf k = h then { c with run := none, cur := none, sliceEnd := 0 } else c)
      queues := s.sched.queues.filter (fun q => q.half != h || q.cls == 3) }
    integ := { s.integ with proofs := s.integ.proofs.keep (fun _ x => x.half != h) } }
  scans.foldl (fun u w => u.setQueue h w.1 3 (w.2 :: u.queue h w.1 3)) s1

/-- The half reset of `h` (R433 steps 1 to 4): the lease ends and lead passes, links, an open checkpoint, Proofs and cores. -/
def State.halfReset (s : State) (h : Nat) : State :=
  let s1 := (s.leaseOver h).rotEnd h
  let s2 := s1.halfLinks h
  let s3 : State := { s2 with ckpt := { s2.ckpt with run := s2.ckpt.run.map (fun r => { r with cmd := none }) } }
  let s4 := (s3.ckptFails 0).halfCoresStop h
  ({ s4 with
    clk := { s4.clk with lease := s4.clk.lease.upd h (fun l => { l with stalled := false }) }
    boot := { s4.boot with lastReset := 2 + h, halfStart := s4.boot.halfStart.set h true } }).count 0x8F00 2 1

/-- A write of `v` to 0xF001.01 by `o`: answered, and then the reset (R423). -/
def State.resetRow (s : State) (o : Origin) (v : List Byte) : State :=
  let n := leNat v
  if s.dark || s.boot.mode == 3 then s
  else
    match s.writeCheck o 0xF001 1 v with
    | some (st, dt) => s.answerW o 0xF001 1 v.length st dt
    | none =>
      if n ≠ 1 ∧ s.halfBusy (n - 2) then s.answerW o 0xF001 1 v.length stBAD dBUSY
      else if s.unreachable o 0xF001 1 true then s.answerW o 0xF001 1 v.length stHELD 0
      else
        let s1 := s.answerW o 0xF001 1 v.length stOK 0
        if n = 1 then s1.start 1 else s1.halfReset (n - 2)

/-- WARM_RESET (R422, R423). -/
def execWarmReset (o : Origin) (v : List Byte) (s : State) : Host.Outcome State Fault Refusal := .next (s.resetRow o v)

/-- HALF_RESET (R422, R423, R433). -/
def execHalfReset (o : Origin) (v : List Byte) (s : State) : Host.Outcome State Fault Refusal := .next (s.resetRow o v)

/-- The exchanges of half `h` that are open are sent again with new ids, detokenize exchanges in commit order (R433 step 7). -/
def State.exchAgain (s : State) (h : Nat) : State :=
  (s.sess.exs.filter (fun x => x.half == h)).foldl (fun t x =>
    let t1 : State := { t with sess := { t.sess with exs := t.sess.exs.filter (fun y => !(y.xid == x.xid && y.half == h)) } }
    let e := t1.newExch x.func x.part h x.slot x.handle x.seq x.n x.kc x.payload x.ref
    let u := e.1
    if x.func = 2 then u.updReq x.slot (fun q => { q with detok := q.detok.map (fun d => if d.xid = x.xid then { d with xid := e.2 } else d) })
    else if x.func = 5 then
      { u with vec := { u.vec with queries := u.vec.queries.mapV (fun _ q => if q.xid = some x.xid then { q with xid := some e.2 } else q) } }
    else if x.func = 6 then
      { u with emb := { u.emb with reqs := u.emb.reqs.map (fun r =>
        { r with open_ := r.open_.map (fun y => if y.1 = x.xid then (e.2, y.2) else y) }) } }
    else u) s

/-- The half start-up of `h` ends (R433 steps 5 to 9): steps in flight are committed as abandoned, exchanges go out again, held
updates are applied, the half asks for its lease, and event 0xF008. -/
def State.halfDone (s : State) (h : Nat) : State :=
  if !s.boot.halfStart.get h then s
  else
    let s1 : State := { s with boot := { s.boot with halfStart := s.boot.halfStart.set h false } }
    let s2 := (List.range 8).foldl (fun t n => t.commitStep h n true) s1
    let s3 := s2.exchAgain h
    let s4 := ((s3.emb.tabs.filter (fun x => x.2.home == h)).map (·.1)).foldl (fun t k => t.settle k true (t.settleFuel k)) s3
    let s5 := s4.applySets h ((s4.emb.sets.get h).filter (fun x => s4.embLoaded x.table))
    ((s5.kick h s5.ns).askRenew h).raise 0xF008 0 h [h]

/-- HALF_STARTUP_END. -/
def execHalfStartupEnd (half : Nat) (s : State) : Host.Outcome State Fault Refusal := .next (s.halfDone (half % 2))

/-- HEARTBEAT_MISS (R434): half `h`'s control core has stalled; it is granted nothing, and event 0xF007 goes out by the other half. -/
def State.heartbeatMiss (s : State) (h : Nat) : State :=
  if (s.clk.lease.get h).stalled then s
  else ((s.updLease h (fun l => { l with stalled := true })).count 0x8F00 8 1).raise 0xF007 0 (otherHalf h) [h]

/-- HEARTBEAT_MISS. -/
def execHeartbeatMiss (half : Nat) (s : State) : Host.Outcome State Fault Refusal := .next (s.heartbeatMiss (half % 2))

/-! ## Device mode, floors and ALERT_N -/

/-- Is nothing there that keeps the device from TEST (Table 20-3)? -/
def State.testReady (s : State) : Bool :=
  s.inMaint && !s.sess.dir.any (fun e => e.2.state != .free) && s.tiers.grans.all (fun g => s.inSlot 0 g.1 || s.inSlot 1 g.1)
    && s.tiers.extents.isEmpty && s.tiers.borrowed.isEmpty && s.tiers.lent.isEmpty
    && (List.range 63).all (fun p => !s.partOn (p + 1))

/-- The mode changed to or from TEST, with event 0xF00B. -/
def State.setMode (s : State) (m : Nat) : State := ({ s with boot := { s.boot with mode := m } }).raise 0xF00B 0 0 [m]

/-- A write of `v` to 0xF000.08 (Table 20-3): on leaving TEST, T1 is queued for scrub. -/
def State.devModeWrite (s : State) (v : Nat) : Except (Nat × Nat) State :=
  match s.boot.mode with
  | 0 => .error (stBAD, dBUSY)
  | 1 => if v = 2 then (if s.testReady then .ok (s.setMode 2) else .error wDenied) else .ok s
  | 2 =>
    if v = 1 then
      let t : State := { s with tiers := { s.tiers with bands := [], scrub := scrubAll } }
      .ok (t.setMode 1)
    else .ok s
  | _ => .error wDenied

/-- TEST_MODE_ENTER (R445). -/
def execTestModeEnter (o : Origin) (v : List Byte) (s : State) : Host.Outcome State Fault Refusal :=
  .next (s.writeRow o 0xF000 8 v (fun t => t.devModeWrite (leNat v)))

/-- TEST_MODE_LEAVE (R445). -/
def execTestModeLeave (o : Origin) (v : List Byte) (s : State) : Host.Outcome State Fault Refusal :=
  .next (s.writeRow o 0xF000 8 v (fun t => t.devModeWrite (leNat v)))

/-- The floors raised to what runs (R440). -/
def State.raiseFloors (s : State) : State :=
  ((s.dsetN 0xF002 9 (nth s.boot.secver 0 0)).dsetN 0xF002 0xA (nth s.boot.secver 1 0)).dsetN 0xF002 0xB (nth s.boot.secver 2 0)

/-- RAISE_FLOORS. -/
def execRaiseFloors (o : Origin) (v : List Byte) (s : State) : Host.Outcome State Fault Refusal :=
  .next (s.writeRow o 0xF002 0xC v (fun t => .ok t.raiseFloors))

/-- ALERT_N is no longer held for dropped records (R447). -/
def State.alertFree (s : State) : State := { s with boot := { s.boot with dropped := false } }

/-- ALERT_RELEASE. -/
def execAlertRelease (o : Origin) (v : List Byte) (s : State) : Host.Outcome State Fault Refusal :=
  .next (s.writeRow o 0xF000 0xA v (fun t => .ok t.alertFree))

end Sys2Proof.Machine
end

