-- ==== Sys2Proof/Machine/Service.lean ====
section
/-!
DEFINITION. The service port (R441 to R443, Tables 20-8 and 20-9), the 48 V feed, and power and thermal pacing (R452 to R456).
-/

namespace Sys2Proof.Machine

/-! ## Frames -/

/-- `s` with the service port changed by `f`. -/
def State.updServ (s : State) (f : Service → Service) : State := { s with boot := { s.boot with serv := f s.boot.serv } }

/-- The last frame answered `r` (Table 20-9): 0 OK, 1 CRC, 2 SEQUENCE, 3 FORMAT, 4 TOO_LONG, 5 BUSY, 6 DISABLED, 7 TIMEOUT. -/
def State.svc (s : State) (r : Nat) : State := s.updServ (fun v => { v with result := r })

/-- The data bytes of a service frame. -/
def svcData (b : List Byte) : List Byte := (b.drop 8).take (b.length - 12)

/-- A service frame of op `op` taken (R442, R443): a transfer of another length than a frame's is no frame, a frame that fails its CRC
or its header is answered and otherwise ignored. -/
def State.svcIn (s : State) (op : Nat) (b : List Byte) (k : Nat → List Byte → State) : State :=
  let h := leAt b 0 8
  let len := bitsN h 31 20
  let off := bitsN h 55 32
  if s.dark ∨ b.length < 12 ∨ 1036 < b.length then s
  else if crc32c (b.take (b.length - 4)) ≠ leAt b (b.length - 4) 4 then s.svc 1
  else if bitsN h 63 56 ≠ op ∨ bitsN h 19 0 ≠ 0 ∨ b.length ≠ 12 + len ∨ 1024 < len ∨ (op ≠ 2 ∧ off ≠ 0) ∨ (op = 1 ∧ len ≠ 8) then s.svc 3
  else k off (svcData b)

/-- The slot a delivery goes to (R443): the one not in use; in RECOVERY a FAILED or EMPTY one, else the one not tried last. -/
def Boot.target (b : Boot) : Nat :=
  if b.use < 2 then 1 - b.use
  else
    match [0, 1].find? (fun k => (b.slots.get k).st == 5 || (b.slots.get k).st == 0) with
    | some k => k
    | none => 1 - (b.failed.head?).getD 1

/-- `s` with firmware slot `k` set. -/
def State.setSlot (s : State) (k : Nat) (x : FwSlot) : State := { s with boot := { s.boot with slots := s.boot.slots.set k x } }

/-- A delivery refused or abandoned is counted (Table 20-11). -/
def State.svcRefuse (s : State) (r : Nat) : State := (s.count 0x8F00 5 1).svc r

/-- BEGIN (R443): blen and bseq. -/
def State.svcBegin (s : State) (d : List Byte) : State :=
  let blen := leAt d 0 4
  let bseq := leAt d 4 4
  if s.dval 0xF002 0x10 = 0 then s.svcRefuse 6
  else if s.boot.serv.st = 1 then s.svcRefuse 5
  else if 3670016 < blen then s.svcRefuse 4
  else
    let k := s.boot.target
    (s.setSlot k { st := 1, bseq, bytes := [] }).updServ (fun v =>
      { v with slot := k, recv := 0, blen, bseq, result := 0, st := 1, lastLen := 0 })

/-- SERVICE_BEGIN. -/
def execServiceBegin (frame : List Byte) (s : State) : Host.Outcome State Fault Refusal :=
  .next (s.svcIn 1 frame (fun _ d => s.svcBegin d))

/-- DATA (R443): the next bytes in order; a repeat of the last frame is not written again. Bytes past blen are refused (log 57). -/
def State.svcPut (s : State) (off : Nat) (d : List Byte) : State :=
  let v := s.boot.serv
  let x := s.boot.slots.get v.slot
  if v.st ≠ 1 then s.svc 2
  else if off = v.recv then
    (if v.blen < v.recv + d.length then s.svc 4
     else
       (s.setSlot v.slot { x with bytes := x.bytes ++ d }).updServ (fun y =>
         { y with recv := y.recv + d.length, lastLen := d.length, result := 0 }))
  else if 0 < v.lastLen ∧ d.length = v.lastLen ∧ off + v.lastLen = v.recv ∧ slice x.bytes off v.lastLen = d then s.svc 0
  else s.svc 2

/-- SERVICE_DATA. -/
def execServiceData (frame : List Byte) (s : State) : Host.Outcome State Fault Refusal :=
  .next (s.svcIn 2 frame (fun off d => s.svcPut off d))

/-- The open delivery ends without a bundle, its frame answered `r`: the slot is EMPTY, with event 0xF005 (Table 20-7). -/
def State.svcFails (s : State) (r : Nat) : State :=
  let v := s.boot.serv
  let s1 := (s.setSlot v.slot FwSlot.empty).updServ (fun y => { y with st := 0, result := r })
  (s1.count 0x8F00 5 1).raise 0xF005 0 0 [v.slot, r]

/-- END (R443): the bundle is checked, and its slot is TRIAL, with event 0xF004. -/
def State.svcEnd (s : State) : State :=
  let v := s.boot.serv
  let x := s.boot.slots.get v.slot
  if v.st ≠ 1 then s.svc 2
  else if v.recv ≠ v.blen ∨ !bundleShape x.bytes then s.svcFails 3
  else
    let s1 := (s.setSlot v.slot { x with st := 2 }).updServ (fun y => { y with st := 3, result := 0 })
    (s1.count 0x8F00 4 1).raise 0xF004 0 0 [v.slot, v.bseq]

/-- SERVICE_END. -/
def execServiceEnd (frame : List Byte) (s : State) : Host.Outcome State Fault Refusal := .next (s.svcIn 3 frame (fun _ _ => s.svcEnd))

/-- SERVICE_ABORT (Table 20-7). -/
def execServiceAbort (frame : List Byte) (s : State) : Host.Outcome State Fault Refusal :=
  .next (s.svcIn 4 frame (fun _ _ => if s.boot.serv.st = 1 then s.svcFails 0 else s.svc 2))

/-- SERVICE_ACTIVATE (R443): a warm reset where it is permitted or the mode is RECOVERY. -/
def execServiceActivate (frame : List Byte) (s : State) : Host.Outcome State Fault Refusal :=
  .next (s.svcIn 5 frame (fun _ _ => if s.dval 0xF001 2 = 1 ∨ s.boot.mode = 3 then s.start 1 else s.svc 6))

/-- DELIVERY_TIMEOUT (Table 20-7): 10 s without a frame. -/
def execDeliveryTimeout (s : State) : Host.Outcome State Fault Refusal := .next (if s.boot.serv.st = 1 then s.svcFails 7 else s)

/-- The status record (Table 20-9). -/
def State.svcStatus (s : State) : List Byte :=
  let v := s.boot.serv
  leBytes 4 0 ++ leBytes 1 s.boot.mode ++ leBytes 1 v.st ++ leBytes 1 v.result ++ leBytes 1 v.slot ++ leBytes 4 v.bseq ++ leBytes 4 v.recv

/-- SERVICE_STATUS_READ: a private read of 16 bytes. -/
def execServiceStatusRead (s : State) : Host.Outcome State Fault Refusal := .next (if s.dark then s else s.emit (.i3c s.svcStatus))

/-! ## I3C (Table 20-8) -/

/-- Answer bytes of a common command code whose value the spec does not give. -/
def i3cBytes (what n : Nat) : List Byte := (List.range n).map (Config.i3cByte what)

/-- I3C_CCC: the common command codes of Table 20-8, by MIPI's numbers (log 55); others are not answered. -/
def State.ccc (s : State) (c : Nat) (d : List Byte) : State :=
  let v := s.boot.serv
  let two := fun (n : Nat) => leBytes 1 (n / 256) ++ leBytes 1 n
  let byte := leNat (d.take 1)
  let word := 256 * leNat (d.take 1) + leNat ((d.drop 1).take 1)
  if s.dark then s
  else
    match c with
    | 0x00 => s.updServ (fun y => { y with events := true })
    | 0x80 => s.updServ (fun y => { y with events := true })
    | 0x01 => s.updServ (fun y => { y with events := false })
    | 0x81 => s.updServ (fun y => { y with events := false })
    | 0x06 => s.updServ (fun y => { y with dyn := false, addr := 0 })
    | 0x07 =>
      if v.dyn then s
      else (s.emit (.i3c (i3cBytes 0x8D 6 ++ [Config.i3cByte 0x8E 0 &&& 0xFD#8, Config.i3cByte 0x8F 0]))).updServ (fun y =>
        { y with dyn := true, addr := byte / 2 })
    | 0x87 => if v.dyn then s else s.updServ (fun y => { y with dyn := true, addr := byte / 2 })
    | 0x88 => if v.dyn then s.updServ (fun y => { y with addr := byte / 2 }) else s
    | 0x09 => s.updServ (fun y => { y with mwl := word })
    | 0x89 => s.updServ (fun y => { y with mwl := word })
    | 0x0A => s.updServ (fun y => { y with mrl := word })
    | 0x8A => s.updServ (fun y => { y with mrl := word })
    | 0x8B => s.emit (.i3c (two v.mwl))
    | 0x8C => s.emit (.i3c (two v.mrl))
    | 0x8D => s.emit (.i3c (i3cBytes 0x8D 6))
    | 0x8E => s.emit (.i3c [Config.i3cByte 0x8E 0 &&& 0xFD#8])
    | 0x8F => s.emit (.i3c (i3cBytes 0x8F 1))
    | 0x90 => s.emit (.i3c (i3cBytes 0x90 2))
    | 0x2A => if byte = 0 then s.updServ (fun y => { y with dyn := false, addr := 0, mwl := 1036, mrl := 16, events := true }) else s
    | 0x9A => if byte = 0 then s.updServ (fun y => { y with dyn := false, addr := 0, mwl := 1036, mrl := 16, events := true }) else s
    | _ => s

/-- I3C_CCC. -/
def execI3cCcc (ccc : Nat) (data : List Byte) (s : State) : Host.Outcome State Fault Refusal := .next (s.ccc ccc data)

/-! ## The feed (R452, R455) -/

/-- FEED_UNDERVOLTAGE: below 37.0 V every rail falls. -/
def execFeedUndervoltage (mv : Nat) (s : State) : Host.Outcome State Fault Refusal :=
  .next (if mv < 37000 then { s with boot := { s.boot with off := true } } else s)

/-- Shutdown (R455): every rail but the always-on rail is off until the feed falls. -/
def State.shutdown (s : State) : State := { s with boot := { s.boot with shut := true } }

/-- FEED_OVERVOLTAGE: above 57.0 V for 1 ms. -/
def execFeedOvervoltage (s : State) : Host.Outcome State Fault Refusal := .next (if s.boot.off then s else s.shutdown)

/-! ## Pacing (R454, R455) -/

/-- One step down of a duty. -/
def dutyDown (d : Nat) : Nat := if 50 < d then 50 else 25

/-- One step up of a duty. -/
def dutyUp (d : Nat) : Nat := if d < 50 then 50 else 100

/-- The next kind paced a step further: the first in order not at 25 %. -/
def paceDown : List Nat → List Nat
  | [] => []
  | d :: t => if 25 < d then dutyDown d :: t else d :: paceDown t

/-- The kind paced last stepped back up. -/
def paceUp : List Nat → List Nat
  | [] => []
  | d :: t => if t.any (fun x => decide (x < 100)) then d :: paceUp t else dutyUp d :: t

/-- The power limit in mW at a feed of `mv` mV (R454). -/
def powerLimit (mv : Nat) : Nat := min 2600000 (60 * mv)

/-- A sample of input power (R454). The average of the last 100 samples is compared with the limit; after a step it is taken anew
(log 58). -/
def Power.sample (p : Power) (watts mv : Nat) : Power :=
  let l := (watts :: p.samples).take 100
  let sum := 1000 * l.foldl (· + ·) 0
  if l.length < 100 then { p with samples := l, below := 0 }
  else if 100 * powerLimit mv < sum then { duty := paceDown p.duty, samples := [], below := 0 }
  else if sum + 100 * 50000 < 100 * powerLimit mv then
    (if p.below + 1 < 100 then { p with samples := l, below := p.below + 1 } else { duty := paceUp p.duty, samples := l, below := 0 })
  else { p with samples := l, below := 0 }

/-- POWER_SAMPLE. -/
def execPowerSample (watts feedMv : Nat) (s : State) : Host.Outcome State Fault Refusal :=
  .next (if s.dark then s else { s with power := s.power.sample watts feedMv })

/-- Island `i` at temperature `t` in 0.01 °C (R455): its thermal duty. -/
def Island.heat (i : Nat) (x : Island) (t : Int) : Island :=
  let d := if !kindPaced (islandKind i) ∨ t < 10000 then 100 else if 11000 ≤ t then 25 else if 10500 ≤ t then min x.duty 50 else x.duty
  { x with temp := t, duty := d }

/-- The sensors read (R455): an island at 125 °C in this reading and the one before, 100 µs apart, is a shutdown. -/
def State.thermal (s : State) (temps : List Int) : State :=
  let hot := (List.range 100).any (fun i => decide (12500 ≤ (s.island i).temp) && decide (12500 ≤ (temps[i]?).getD 0))
  let s1 := (List.range 100).foldl (fun t i =>
    match temps[i]? with
    | some x => t.setIsland i ((t.island i).heat i x)
    | none => t) s
  if hot then s1.shutdown else s1

/-- THERMAL_SAMPLE. -/
def execThermalSample (temps : List Int) (s : State) : Host.Outcome State Fault Refusal := .next (if s.dark then s else s.thermal temps)

end Sys2Proof.Machine
end

