-- ==== Sys2Proof/Machine/DictTx.lean ====
section
/-!
DEFINITION. Dictionary transactions (R381 to R387): READ, WRITE, DESCRIBE and NEXT as they come by a mailbox, the field network or an
SPDM session, segmented and BULK values, and the progress of a transaction that is not final.
-/

namespace Sys2Proof.Machine

/-! ## The request (Table 18-2) -/

/-- Is the Dictionary served (R427, R444)? -/
def State.served (s : State) : Bool := !s.dark && s.boot.mode != 3

/-- The origin whose snapshot and staged write a transaction uses: a field network address, whatever its frame. -/
def originKey : Origin → Origin
  | .net mac _ => .net mac 0
  | o => o

/-- Value bytes per PDU by the path of `o` (Table 18-5). -/
def pathLimit : Origin → Nat
  | .mailbox _ => 1920
  | .net _ _ => 1408
  | .session _ => 32768

/-- Does `o` come by a mailbox in plaintext? -/
def isMailbox : Origin → Bool
  | .mailbox _ => true
  | _ => false

/-- Step 1 of R382: the four parity bits, with the whole of par taken as zero; its spare bits [7:4] are a rsvd field (R465). -/
def pduParOk (n : Nat) : Bool := bitsN n 3 0 == parOf 4 (setBits n 7 0 0)

/-- Steps 1 to 5 of R382 for a request of operation `op`: the detail of the first that fails. -/
def requestFault (o : Origin) (pdu : BitVec 256) (op : Nat) : Option Nat :=
  let idx := bits pdu 223 208
  let sub := bits pdu 207 200
  if !pduParOk pdu.toNat then some dPARITY
  else if bits pdu 247 240 ≠ 1 then some dVERSION
  else if bits pdu 255 248 ≠ op then some dRANGE
  else if !zeroBits pdu 76 72 || !zeroBits pdu 7 4 then some dRSVD
  else if bit pdu 78 ∧ (!isMailbox o ∨ (op = 2 ∧ (bits pdu 191 160 ≠ 0 ∨ !bit pdu 79))) then some dRANGE
  else if op ≠ 4 ∧ !entryThere idx sub then some dNOENTRY
  else if bits pdu 199 192 ≠ 0 ∧ bits pdu 199 192 ≠ 1 then some dFORMAT
  else none

/-- `s` with transaction `pdu` of `o` in flight. -/
def State.inFlight (s : State) (o : Origin) (pdu : BitVec 256) : State :=
  let d : Dict := { s.dict with pend := (o, pdu.toNat) :: s.dict.pend.filter (fun p => p.1 ≠ o) }
  { s with dict := d }

/-- The final answer to `pdu` of `o` about entry `idx`.`sub`: counted at 0x8100.04 or .05, a DENIED of origin at 0x8700.03. -/
def State.answerD (s : State) (o : Origin) (pdu : BitVec 256) (idx sub offset total st dt : Nat) (value : List Byte) : State :=
  let s1 := s.count 0x8100 (if st = 0 then 4 else 5) 1
  let s2 := if st = stDENIED ∧ dt = dORIGIN then s1.count 0x8700 3 1 else s1
  s2.respond o (pduWord (bits pdu 255 248 + 0x80) (bits pdu 239 224) idx sub (b2n (entryThere idx sub)) offset total value.length st dt false) value

/-- A refusal of `pdu`. -/
def State.refuseD (s : State) (o : Origin) (pdu : BitVec 256) (st dt : Nat) : State :=
  s.answerD o pdu (bits pdu 223 208) (bits pdu 207 200) (bits pdu 191 160) 0 st dt []

/-- A request of operation `op` that passes steps 1 to 5; the others are answered. -/
def State.request (s : State) (o : Origin) (pdu : BitVec 256) (op : Nat) (k : State → Nat → Nat → State) : State :=
  if !s.served then s
  else
    match requestFault o pdu op with
    | some dt => s.refuseD o pdu stBAD dt
    | none => k s (bits pdu 223 208) (bits pdu 207 200)

/-! ## READ (R383) -/

/-- Ten seconds, in ns. -/
def tenSeconds : Nat := 10000000000

/-- The snapshot of `o` for key `k` that has not run out. -/
def State.snapOf (s : State) (o : Origin) (k : Nat) : Option Snap :=
  s.dict.snaps.find? (fun x => x.o == originKey o && x.key == k && decide (s.ns < x.last + tenSeconds))

/-- The snapshot of `o` taken or kept on: its value `v` of key `k`. -/
def State.keepSnap (s : State) (o : Origin) (k : Nat) (v : List Byte) : State :=
  let d : Dict := { s.dict with
    snaps := { o := originKey o, key := k, value := v, last := s.ns } :: s.dict.snaps.filter (fun x => x.o != originKey o) }
  { s with dict := d }

/-- Bytes of `v` from the offset that `pdu` asks for, answered; with BULK they go to host memory (R387). -/
def State.readOut (s : State) (o : Origin) (pdu : BitVec 256) (idx sub : Nat) (v : List Byte) : State :=
  let off := bits pdu 191 160
  let want := bits pdu 159 128
  let rest := (v.drop off).take (if want = 0 then v.length else want)
  if v.length < off then s.refuseD o pdu stBAD dRANGE
  else
    match o with
    | .mailbox fn =>
      if bit pdu 78 then
        (s.dmaTo fn (s.gen fn) (bits pdu 71 8) rest).answerD o pdu idx sub off v.length stOK 0 []
      else s.answerD o pdu idx sub off v.length stOK 0 (rest.take (pathLimit o))
    | _ => s.answerD o pdu idx sub off v.length stOK 0 (rest.take (pathLimit o))

/-- READ. -/
def State.readTx (s : State) (o : Origin) (pdu : BitVec 256) : State :=
  s.request o pdu 1 (fun s idx sub =>
    let k := dkey idx sub
    if !s.mayRead o idx sub then s.refuseD o pdu stDENIED dORIGIN
    else if s.unreachable o idx sub false then s.refuseD o pdu stHELD 0
    else if bits pdu 191 160 = 0 then
      let v := s.readValue (s.fnOf o) idx sub
      (s.keepSnap o k v).readOut o pdu idx sub v
    else
      match s.snapOf o k with
      | none => s.refuseD o pdu stBAD dSEQ
      | some x => (s.keepSnap o k x.value).readOut o pdu idx sub x.value)

/-- READ. -/
def execRead (o : Origin) (pdu : BitVec 256) (t : Nat) (s : State) : Host.Outcome State Fault Refusal := .next ((s.at t).readTx o pdu)

/-! ## DESCRIBE and NEXT (R383) -/

/-- DESCRIBE. -/
def State.describeTx (s : State) (o : Origin) (pdu : BitVec 256) : State :=
  s.request o pdu 3 (fun s idx sub =>
    if !s.mayRead o idx sub then s.refuseD o pdu stDENIED dORIGIN
    else if s.unreachable o idx sub false then s.refuseD o pdu stHELD 0
    else s.answerD o pdu idx sub 0 16 stOK 0 (s.describe o idx sub))

/-- DESCRIBE. -/
def execDescribe (o : Origin) (pdu : BitVec 256) (t : Nat) (s : State) : Host.Outcome State Fault Refusal :=
  .next ((s.at t).describeTx o pdu)

/-- NEXT: the entry found may be one that `o` may not read; its record shows no length then. -/
def State.nextTx (s : State) (o : Origin) (pdu : BitVec 256) : State :=
  s.request o pdu 4 (fun s idx sub =>
    let w := s.whoOf o
    if !(w.bm || w.part.isSome) then s.refuseD o pdu stDENIED dORIGIN
    else
      match nextEntry idx sub with
      | none => s.refuseD o pdu stBAD dNOENTRY
      | some (i, j) =>
        if s.unreachable o i j false then s.refuseD o pdu stHELD 0
        else
          let r := s.describe o i j
          s.answerD o pdu i j 0 16 stOK 0 (if s.mayRead o i j then r else r.take 8 ++ leBytes 4 0 ++ r.drop 12))

/-- NEXT. -/
def execNext (o : Origin) (pdu : BitVec 256) (t : Nat) (s : State) : Host.Outcome State Fault Refusal := .next ((s.at t).nextTx o pdu)

/-! ## WRITE (R384, R387) -/

/-- The effect of a write that no table row answers by itself. -/
def State.writeAny (s : State) (o : Origin) (idx sub : Nat) (v : List Byte) : Except (Nat × Nat) State :=
  if idx = 0xF000 ∧ sub = 1 then s.maintWrite o (leNat v)
  else if idx = 0xF000 ∧ sub = 8 then s.devModeWrite (leNat v)
  else if idx = 0xF000 ∧ sub = 0xA then .ok s.alertFree
  else if idx = 0xF002 ∧ sub = 0xC then .ok s.raiseFloors
  else s.applyWrite o idx sub v

/-- The whole value `v` written to entry `idx`.`sub` by `o`: checked, applied and answered (R379, R382). -/
def State.writeWhole (s : State) (o : Origin) (idx sub : Nat) (v : List Byte) : State :=
  if idx = 0xF001 ∧ sub = 1 then s.resetRow o v
  else if 0x2340 ≤ idx ∧ idx < 0x2380 ∧ sub = 1 then s.profileRow o (idx - 0x2340) v
  else if 0x5010 ≤ idx ∧ idx < 0x5018 ∧ sub = 1 then s.textTableRow o 0 (idx - 0x5010) v
  else if 0x5040 ≤ idx ∧ idx < 0x5080 ∧ sub = 1 then s.textTableRow o 1 (idx - 0x5040) v
  else if 0x5080 ≤ idx ∧ idx < 0x50C0 ∧ sub = 1 then s.textTableRow o 2 (idx - 0x5080) v
  else if 0x5240 ≤ idx ∧ idx < 0x5280 ∧ sub = 1 then s.embControlRow o (idx - 0x5240) v
  else if 0x5340 ≤ idx ∧ idx < 0x5380 ∧ sub = 1 then s.vecControlRow o (idx - 0x5340) v
  else if idx = 0x7010 ∧ sub = 2 then s.chainRow o v
  else if 0x7040 ≤ idx ∧ idx < 0x7080 ∧ sub = 9 then s.packageRow o (idx - 0x7040) v
  else s.writeRow o idx sub v (fun u => u.writeAny o idx sub v)

/-- The staged write of `o`, if it has not run out (R384). -/
def State.stagedOf (s : State) (o : Origin) : Option Staged :=
  s.dict.staged.find? (fun x => x.o == originKey o && decide (s.ns < x.last + tenSeconds))

/-- `s` without a staged write of `o`. -/
def State.unstage (s : State) (o : Origin) : State :=
  let d : Dict := { s.dict with staged := s.dict.staged.filter (fun x => x.o != originKey o) }
  { s with dict := d }

/-- `s` with staged write `x`. -/
def State.stage (s : State) (x : Staged) : State :=
  let d : Dict := { s.dict with staged := x :: s.dict.staged.filter (fun y => y.o != x.o) }
  { s with dict := d }

/-- The staging bytes that are free (R384). -/
def State.stagingFree (s : State) : Nat := 268435456 - (s.dict.staged.map (·.total)).foldl (· + ·) 0

/-- Steps 6 and 7 of R382 for the first segment of a write. -/
def State.segmentDenied (s : State) (o : Origin) (idx sub : Nat) (v : List Byte) : Option (Nat × Nat) :=
  match s.writeCheck o idx sub v with
  | some (st, dt) => if st = stDENIED then some (st, dt) else none
  | none => none

/-- A segment of `d` bytes at `off` of a value of `total` bytes (R384). While the bridge is down a segment that comes by the host port is
answered HELD, and what is staged is kept, also where the last segment is answered so (R393). -/
def State.segment (s : State) (o : Origin) (pdu : BitVec 256) (idx sub : Nat) (d : List Byte) : State :=
  let off := bits pdu 191 160
  let total := bits pdu 159 128
  let last := bit pdu 79
  let bad := fun (u : State) => (u.unstage o).refuseD o pdu stBAD dSEQ
  let held := fun (u : State) (n : Nat) => u.answerD o pdu idx sub off n stOK 0 []
  if !last ∧ s.boot.bridge ∧ s.byHost o then s.refuseD o pdu stHELD 0
  else if off = 0 then
    let s1 := s.unstage o
    if total < d.length ∨ (last ∧ d.length < total) then bad s1
    else if last then s1.writeWhole o idx sub d
    else
      match s1.segmentDenied o idx sub d with
      | some (st, dt) => s1.refuseD o pdu st dt
      | none =>
        if s1.stagingFree < total then s1.refuseD o pdu stNOSPACE 0
        else held (s1.stage { o := originKey o, key := dkey idx sub, total, value := d, last := s1.ns }) d.length
  else
    match s.stagedOf o with
    | none => bad s
    | some x =>
      let v := x.value ++ d
      if x.key ≠ dkey idx sub ∨ x.total ≠ total ∨ off ≠ x.value.length ∨ total < v.length ∨ (last ∧ v.length < total) then bad s
      else if last then
        let u := (s.unstage o).writeWhole o idx sub v
        if s.unreachable o idx sub true then u.stage x else u
      else held (s.stage { x with value := v, last := s.ns }) v.length

/-- A BULK write (R387): its value is fetched from host memory. -/
def State.bulkWrite (s : State) (fn : Nat) (pdu : BitVec 256) (idx sub : Nat) : State :=
  let o := Origin.mailbox fn
  match s.segmentDenied o idx sub [] with
  | some (st, dt) => s.refuseD o pdu st dt
  | none =>
    if bits pdu 159 128 = 0 then (s.unstage o).writeWhole o idx sub []
    else
      let u := s.unstage o
      { u with host := { u.host with
        dma := u.host.dma ++ [{ fn, id := u.host.dmaNext, len := bits pdu 159 128, o, pdu := pdu.toNat }], dmaNext := u.host.dmaNext + 1 } }

/-- WRITE. -/
def State.writeTx (s : State) (o : Origin) (pdu : BitVec 256) (data : List Byte) : State :=
  (s.inFlight o pdu).request o pdu 2 (fun s idx sub =>
    if bit pdu 78 then
      (match o with
       | .mailbox fn => s.bulkWrite fn pdu idx sub
       | _ => s)
    else if data.length ≠ bits pdu 127 112 ∨ pathLimit o < data.length then s.refuseD o pdu stBAD dRANGE
    else s.segment o pdu idx sub data)

/-- WRITE: nothing is taken while the Dictionary is not served. -/
def execWrite (o : Origin) (pdu : BitVec 256) (data : List Byte) (t : Nat) (s : State) : Host.Outcome State Fault Refusal :=
  .next (if s.served then (s.at t).writeTx o pdu data else s)

/-- The DMA read `id` of function `fn` has ended, with its bytes or failed (R342, R387). -/
def State.dmaEnded (s : State) (fn id : Nat) (v : Option (List Byte)) : State :=
  match s.host.dma.find? (fun r => r.fn == fn && r.id == id) with
  | none => s
  | some r =>
    let s1 : State := { s with host := { s.host with dma := s.host.dma.filter (fun x => !(x.fn == fn && x.id == id)) } }
    let pdu : BitVec 256 := BitVec.ofNat 256 r.pdu
    match v with
    | some b =>
      if b.length = r.len then (s1.dmaFrom fn (some b)).writeWhole r.o (bits pdu 223 208) (bits pdu 207 200) b
      else s1.refuseD r.o pdu stBAD dPARITY
    | none => s1.refuseD r.o pdu stBAD dPARITY

/-- DMA_COMPLETION (R342). -/
def execDmaCompletion (fn id : Nat) (ok : Bool) (data : List Byte) (s : State) : Host.Outcome State Fault Refusal :=
  .next (s.dmaEnded fn id (if ok then some data else none))

/-- DMA_TIMEOUT (R342): 50 ms without a completion. -/
def execDmaTimeout (fn id : Nat) (s : State) : Host.Outcome State Fault Refusal := .next (s.dmaEnded fn id none)

/-! ## Time (R383 to R386) -/

/-- A PEND response to the transaction of `o` in flight (R385, R386). -/
def State.pendTx (s : State) (o : Origin) : State :=
  match s.dict.pend.find? (fun p => p.1 = o) with
  | none => s
  | some p =>
    let q := p.2
    let pdu := pduWord (bitsN q 255 248 + 0x80) (bitsN q 239 224) (bitsN q 223 208) (bitsN q 207 200) 1 0 0 0 0 0 true
    let s1 := s.emit (.dict o pdu [])
    match o with
    | .mailbox fn => { s1 with boxes := s1.boxes.upd fn (fun b => { b with pend := true }) }
    | .net mac fseq => (s1.count 0x8100 2 1).emit (.frame mac 2 (fnHeader 2 32 fseq (s1.netCfg 3) 0 0) (leBytes 32 pdu))
    | .session _ => s1

/-- PEND_TIMER: the transaction is not final 1 ms, and then 100 ms, on. -/
def execPendTimer (o : Origin) (s : State) : Host.Outcome State Fault Refusal := .next (if s.served then s.pendTx o else s)

/-- SNAPSHOT_EXPIRY (R383): 10 s without a READ of it. -/
def execSnapshotExpiry (o : Origin) (t : Nat) (s : State) : Host.Outcome State Fault Refusal :=
  let u := s.at t
  let d : Dict := { u.dict with snaps := u.dict.snaps.filter (fun x => x.o != originKey o || decide (u.ns < x.last + tenSeconds)) }
  .next { u with dict := d }

/-- STAGED_WRITE_EXPIRY (R384): 10 s without a segment. -/
def execStagedWriteExpiry (o : Origin) (t : Nat) (s : State) : Host.Outcome State Fault Refusal :=
  let u := s.at t
  let d : Dict := { u.dict with staged := u.dict.staged.filter (fun x => x.o != originKey o || decide (u.ns < x.last + tenSeconds)) }
  .next { u with dict := d }

/-! ## The mailbox (R386) -/

/-- MAILBOX_POLL: a request word with another rseq than the last one taken starts a transaction, unless one is in flight. -/
def State.pollBox (s : State) (fn : Nat) (mreq : BitVec 64) (req : List Byte) : State :=
  let b := s.boxes.getD fn Mailbox.zero
  let r := bits mreq 15 0
  if !s.served ∨ b.busy ∨ r = b.rseq then s
  else
    let s1 : State := { s with boxes := s.boxes.put fn { b with rseq := r, done := false, pend := false, busy := true, req } }
    (s1.count 0x8100 0xA 1).inFlight (.mailbox fn) (BitVec.ofNat 256 (leAt req 0 32))

/-- MAILBOX_POLL. -/
def execMailboxPoll (fn : Nat) (mreq : BitVec 64) (req : List Byte) (s : State) : Host.Outcome State Fault Refusal :=
  if 256 ≤ fn then .fault (.noSuchUnit "function" fn) else .next (s.pollBox fn mreq req)

end Sys2Proof.Machine
end

