-- ==== Sys2Proof/Machine/FieldNet.lean ====
section
/-!
DEFINITION. The field network (R388 to R392, R396): frames in and out, responses kept, fragments, ANNOUNCE, the event backlog and the
link.
-/

namespace Sys2Proof.Machine

/-- The broadcast address. -/
def macAll : Nat := 0xFFFFFFFFFFFF

/-- The device's MAC address. -/
def State.mac (s : State) : Nat := s.netCfg 1

/-- A frame sent, counted. -/
def State.sendFrame (s : State) (dst kind hdr : Nat) (b : List Byte) : State := (s.count 0x8100 2 1).emit (.frame dst kind hdr b)

/-- Does a frame's header fail R390: parity, version, type, or a payload longer than the frame's? -/
def headerBad (hdr : BitVec 128) (payload : List Byte) : Bool :=
  !parOk hdr.toNat 2 1 0 || bits hdr 127 120 != 1 || bits hdr 119 112 == 0 || decide (7 < bits hdr 119 112)
    || decide (payload.length < bits hdr 111 96)

/-- FN_FRAME_RECEIVE (R389, R390): a frame of another EtherType or for another station is not taken, one with a bad header is
discarded. -/
def execFnFrameReceive (dst _src ethertype : Nat) (hdr : BitVec 128) (payload : List Byte) (s : State) :
    Host.Outcome State Fault Refusal :=
  .next (
    if !s.served ∨ s.fnet.link = 0 ∨ ethertype ≠ 0x88B5 ∨ (dst ≠ s.mac ∧ dst ≠ macAll) then s
    else
      let s1 := s.count 0x8100 1 1
      if headerBad hdr payload then s1.count 0x8100 3 1 else s1)

/-- Is the header of a frame without payload bad? Its 46 bytes leave 30 after the header (R390). -/
def headerAloneBad (hdr : BitVec 128) : Bool := headerBad hdr (List.replicate 30 0)

/-- Is a transaction or SPDM frame from `src` turned away (0x1000.07)? -/
def State.foreign (s : State) (src : Nat) : Bool := s.dval 0x1000 7 != 0 && s.dval 0x1000 7 != src

/-- The answer to a frame of a source that is not the board manager's: DENIED, detail ORIGIN (R389). -/
def State.denyFrame (s : State) (o : Origin) (pdu : BitVec 256) : State := s.refuseD o pdu stDENIED dORIGIN

/-- DICT_FRAME (R389, R391): a request with the fseq of one of the last 8 answered is answered again; a new one is in flight. -/
def State.dictFrame (s : State) (src : Nat) (hdr : BitVec 128) (payload : List Byte) : State :=
  let fseq := bits hdr 95 80
  let o := Origin.net src fseq
  let pdu : BitVec 256 := BitVec.ofNat 256 (leAt payload 0 32)
  if !s.served ∨ s.fnet.link = 0 ∨ headerBad hdr payload ∨ bits hdr 119 112 ≠ 1 then s
  else
    match s.fnet.kept.find? (fun r => r.mac == src && r.fseq == fseq) with
    | some r => (s.count 0x8100 6 1).sendFrame src 2 (fnHeader 2 (32 + r.value.length) fseq (s.netCfg 3) 0 0) (leBytes 32 r.pdu ++ r.value)
    | none =>
      if s.dict.pend.any (fun p => p.1 = o) then s
      else if s.foreign src then s.denyFrame o pdu
      else s.inFlight o pdu

/-- DICT_FRAME. -/
def execDictFrame (src : Nat) (hdr : BitVec 128) (payload : List Byte) (s : State) : Host.Outcome State Fault Refusal :=
  .next (s.dictFrame src hdr payload)

/-! ## Event records (R396) -/

/-- Is sequence `a` at or before `b` (mod 2^32)? -/
def seqUpTo (a b : Nat) : Bool := decide ((b + 2 ^ 32 - a % 2 ^ 32) % 2 ^ 32 < 2 ^ 31)

/-- Records waiting are sent as far as the limit allows: `n` frames at most. -/
def State.flushNet : Nat → State → State
  | 0, s => s
  | n + 1, s =>
    let f := s.fnet.flush (s.dval 0x1000 9) (s.dval 0x1040 2) (s.netCfg 3)
    if f.2.1.isEmpty then s
    else
      let s1 : State := { s with fnet := f.1, out := f.2.1 ++ s.out }
      State.flushNet n ((s1.count 0x8100 2 1).count 0x8100 7 f.2.2)

/-- EVENT_ACK: every record up to eseq is acknowledged, and further frames go out. -/
def State.eventAck (s : State) (hdr : BitVec 128) : State :=
  if s.dark ∨ headerAloneBad hdr ∨ bits hdr 119 112 ≠ 4 then s
  else
    let e := bits hdr 63 32
    let s1 : State := { s with fnet := { s.fnet with unacked := s.fnet.unacked.filter (fun x => !(x.recs.all (fun r => seqUpTo r.seq e))) } }
    s1.flushNet 16

/-- EVENT_ACK. -/
def execEventAck (_src : Nat) (hdr : BitVec 128) (s : State) : Host.Outcome State Fault Refusal := .next (s.eventAck hdr)

/-- EVENT_RESEND_TIMER: the frames not acknowledged are sent again, unchanged. -/
def State.eventResend (s : State) : State :=
  if s.dark ∨ s.fnet.link = 0 then s
  else
    s.fnet.unacked.foldl (fun t x =>
      (t.count 0x8100 9 1).sendFrame (t.dval 0x1040 2) 3 (fnHeader 3 (32 * x.recs.length) x.fseq (t.netCfg 3) x.recs.length x.eseq)
        (x.recs.flatMap (fun e => leBytes 32 e.word))) s

/-- EVENT_RESEND_TIMER. -/
def execEventResendTimer (s : State) : Host.Outcome State Fault Refusal := .next s.eventResend

/-! ## SPDM messages (R392) -/

/-- `s` with the message being assembled for `src` replaced. -/
def State.setAsm (s : State) (src : Nat) (x : Option FragAsm) : State :=
  { s with fnet := { s.fnet with asm := x.toList ++ s.fnet.asm.filter (fun y => y.src != src) } }

/-- A fragment of an SPDM message (R390, R392): in order, at most three of 1,480 bytes and 4,096 in all; one out of order discards the
message. -/
def State.spdmFrag (s : State) (src : Nat) (b : List Byte) : State :=
  let sec := leAt b 0 1
  let n := leAt b 1 1
  let last := bitN (leAt b 2 1) 0
  let d := b.drop 4
  let old : FragAsm := (s.fnet.asm.find? (fun x => x.src == src && n != 0)).getD { src, next := 0, bytes := [], secured := sec == 1 }
  let all := old.bytes ++ d
  if b.length < 4 ∨ 1 < sec ∨ 2 < n ∨ leAt b 3 1 ≠ 0 ∨ n ≠ old.next ∨ old.secured ≠ (sec == 1) ∨ 1480 < d.length ∨ 4096 < all.length then
    s.setAsm src none
  else if last then (s.setAsm src none).emit (.spdmMsg (.net src) (sec == 1) all)
  else if n = 2 then s.setAsm src none
  else s.setAsm src (some { src, next := n + 1, bytes := all, secured := sec == 1 })

/-- SPDM_FRAME. -/
def execSpdmFrame (src : Nat) (hdr : BitVec 128) (payload : List Byte) (s : State) : Host.Outcome State Fault Refusal :=
  .next (
    if !s.served ∨ s.fnet.link = 0 ∨ headerBad hdr payload ∨ bits hdr 119 112 ≠ 5 then s
    else if s.foreign src then s.denyFrame (.net src (bits hdr 95 80)) 0#256
    else s.spdmFrag src (payload.take (bits hdr 111 96)))

/-! ## ANNOUNCE and the link (R392, R398) -/

/-- The ANNOUNCE payload (R390). -/
def State.announcement (s : State) : List Byte :=
  fitBytes 16 (ascii "OCL-SC2-A") ++ leBytes 2 0xB0 ++ leBytes 1 s.self ++ leBytes 1 s.boot.bslot ++ leBytes 1 (s.netCfg 3) ++ leBytes 1 s.maint.st
    ++ leBytes 4 s.mapDigest ++ leBytes 6 0

/-- ANNOUNCE sent to broadcast. -/
def State.announce (s : State) : State :=
  let s1 : State := { s with fnet := { s.fnet with fseq := s.fnet.fseq + 1 } }
  s1.sendFrame macAll 6 (fnHeader 6 32 s.fnet.fseq (s.netCfg 3) 0 0) s.announcement

/-- DISCOVER (R392). -/
def execDiscover (_src : Nat) (hdr : BitVec 128) (s : State) : Host.Outcome State Fault Refusal :=
  .next (if !s.served ∨ s.fnet.link = 0 ∨ headerAloneBad hdr ∨ bits hdr 119 112 ≠ 7 then s else s.announce)

/-- FN_LINK_UP (R392, R398): the link settings take effect, the backlog is sent and the device announces itself. -/
def State.netUp (s : State) (plca : Bool) : State :=
  if !s.served then s
  else
    let s1 : State := { s with fnet := { s.fnet with
      link := if plca ∧ s.dval 0x1000 2 = 1 then 2 else 1, cfg := [1, 2, 3, 4, 5].map (fun k => s.dbytes 0x1000 k) } }
    s1.announce.flushNet 16

/-- FN_LINK_UP. -/
def execFnLinkUp (plca : Bool) (s : State) : Host.Outcome State Fault Refusal := .next (s.netUp plca)

/-- Does a transport run over the field network? -/
def viaNet : Via → Bool
  | .net _ => true
  | .doe _ => false

/-- FN_LINK_DOWN (R362, R396): records wait in the backlog; SPDM over the link ends. -/
def execFnLinkDown (s : State) : Host.Outcome State Fault Refusal :=
  .next (({ s with fnet := { s.fnet with link := 0, asm := [] } }).endSpdm viaNet)

end Sys2Proof.Machine
end

