-- ==== Sys2Proof/Machine/Dispatch.lean ====
section
/-!
DEFINITION. The one dispatch from a command to its meaning: one arm per constructor of Instr.
-/

namespace Sys2Proof.Machine

def exec (i : Instr) (s : State) : Host.Outcome State Fault Refusal :=
  match i with
  | .openCmd fn sq d => Sys2Proof.Machine.execOpen fn sq d s
  | .submit fn sq d input t => Sys2Proof.Machine.execSubmit fn sq d input t s
  | .cancel fn sq d => Sys2Proof.Machine.execCancel fn sq d s
  | .pause fn sq d => Sys2Proof.Machine.execPause fn sq d s
  | .park fn sq d => Sys2Proof.Machine.execPark fn sq d s
  | .revive fn sq d => Sys2Proof.Machine.execRevive fn sq d s
  | .fork fn sq d => Sys2Proof.Machine.execFork fn sq d s
  | .close fn sq d => Sys2Proof.Machine.execClose fn sq d s
  | .setTtl fn sq d => Sys2Proof.Machine.execSetTtl fn sq d s
  | .query fn sq d => Sys2Proof.Machine.execQuery fn sq d s
  | .ttlScan half first last => Sys2Proof.Machine.execTtlScan half first last s
  | .entryFree idx => Sys2Proof.Machine.execEntryFree idx s
  | .functionSplitWrite o p sub v => Sys2Proof.Machine.execFunctionSplitWrite o p sub v s
  | .quotaWrite o p sub v => Sys2Proof.Machine.execQuotaWrite o p sub v s
  | .t1QuotaWrite o p sub v => Sys2Proof.Machine.execT1QuotaWrite o p sub v s
  | .sealDone pid => Sys2Proof.Machine.execSealDone pid s
  | .scrubDone half stack => Sys2Proof.Machine.execScrubDone half stack s
  | .stackLost half stack => Sys2Proof.Machine.execStackLost half stack s
  | .lysingAccessTimeout half stack => Sys2Proof.Machine.execLysingAccessTimeout half stack s
  | .rebuildRowDone half group row => Sys2Proof.Machine.execRebuildRowDone half group row s
  | .t2BufferWrite half => Sys2Proof.Machine.execT2BufferWrite half s
  | .t2ShareAck stripe stack => Sys2Proof.Machine.execT2ShareAck stripe stack s
  | .t2Compaction half => Sys2Proof.Machine.execT2Compaction half s
  | .flopiryStackLost stack => Sys2Proof.Machine.execFlopiryStackLost stack s
  | .wearRead stack cycles => Sys2Proof.Machine.execWearRead stack cycles s
  | .demotionPassStart half => Sys2Proof.Machine.execDemotionPassStart half s
  | .idleDemotion idx => Sys2Proof.Machine.execIdleDemotion idx s
  | .demotionPageDurable idx pid t => Sys2Proof.Machine.execDemotionPageDurable idx pid t s
  | .t2LowStripesMove half => Sys2Proof.Machine.execT2LowStripesMove half s
  | .granulePieceMoved g => Sys2Proof.Machine.execGranulePieceMoved g s
  | .extentLeaseLapse part id => Sys2Proof.Machine.execExtentLeaseLapse part id s
  | .poolLeaseLapse lent peer ext => Sys2Proof.Machine.execPoolLeaseLapse lent peer ext s
  | .extentAdd fn sq d => Sys2Proof.Machine.execExtentAdd fn sq d s
  | .extentRemove fn sq d => Sys2Proof.Machine.execExtentRemove fn sq d s
  | .map fn sq d => Sys2Proof.Machine.execMap fn sq d s
  | .unmap fn sq d => Sys2Proof.Machine.execUnmap fn sq d s
  | .place fn sq d => Sys2Proof.Machine.execPlace fn sq d s
  | .rebuild fn sq d => Sys2Proof.Machine.execRebuild fn sq d s
  | .atomic fn sq d => Sys2Proof.Machine.execAtomic fn sq d s
  | .developerPageFetched idx pid reachable chk => Sys2Proof.Machine.execDeveloperPageFetched idx pid reachable chk s
  | .ownRead src part hdr => Sys2Proof.Machine.execOwnRead src part hdr s
  | .ownRenew src part hdr => Sys2Proof.Machine.execOwnRenew src part hdr s
  | .ownOffer src part hdr => Sys2Proof.Machine.execOwnOffer src part hdr s
  | .ownAccept src part hdr => Sys2Proof.Machine.execOwnAccept src part hdr s
  | .ownRecall src part hdr => Sys2Proof.Machine.execOwnRecall src part hdr s
  | .ownClaim src part hdr => Sys2Proof.Machine.execOwnClaim src part hdr s
  | .ownRelease src part hdr => Sys2Proof.Machine.execOwnRelease src part hdr s
  | .ownNote src part hdr => Sys2Proof.Machine.execOwnNote src part hdr s
  | .ownLeaseScan half => Sys2Proof.Machine.execOwnLeaseScan half s
  | .ownRenewTimer idx => Sys2Proof.Machine.execOwnRenewTimer idx s
  | .ownReplyTimeout idx => Sys2Proof.Machine.execOwnReplyTimeout idx s
  | .frozenEnd => Sys2Proof.Machine.execFrozenEnd s
  | .stagedHoldExpiry idx => Sys2Proof.Machine.execStagedHoldExpiry idx s
  | .migrate fn sq d => Sys2Proof.Machine.execMigrate fn sq d s
  | .moveEnds idx hdr => Sys2Proof.Machine.execMoveEnds idx hdr s
  | .recall fn sq d => Sys2Proof.Machine.execRecall fn sq d s
  | .claim fn sq d => Sys2Proof.Machine.execClaim fn sq d s
  | .whereCmd fn sq d => Sys2Proof.Machine.execWhere fn sq d s
  | .discard fn sq d => Sys2Proof.Machine.execDiscard fn sq d s
  | .moveFields src part hdr data crc => Sys2Proof.Machine.execMoveFields src part hdr data crc s
  | .moveObject src part hdr data crc => Sys2Proof.Machine.execMoveObject src part hdr data crc s
  | .moveResend src part hdr => Sys2Proof.Machine.execMoveResend src part hdr s
  | .moveRefuse src part hdr => Sys2Proof.Machine.execMoveRefuse src part hdr s
  | .moveGuest src part hdr => Sys2Proof.Machine.execMoveGuest src part hdr s
  | .moveRelay src part hdr data crc => Sys2Proof.Machine.execMoveRelay src part hdr data crc s
  | .moveRelayAck src part hdr => Sys2Proof.Machine.execMoveRelayAck src part hdr s
  | .relayResendTimer peer handle rseq => Sys2Proof.Machine.execRelayResendTimer peer handle rseq s
  | .laneEnableWrite o lane v => Sys2Proof.Machine.execLaneEnableWrite o lane v s
  | .roundOpen half src hdr t => Sys2Proof.Machine.execRoundOpen half src hdr t s
  | .roundOpenAbandon half src hdr t => Sys2Proof.Machine.execRoundOpenAbandon half src hdr t s
  | .qkv link src lane hdr data crc t => Sys2Proof.Machine.execQkv link src lane hdr data crc t s
  | .roundTimerExpiry half lane t => Sys2Proof.Machine.execRoundTimerExpiry half lane t s
  | .splitFinish core t x => Sys2Proof.Machine.execSplitFinish core t x s
  | .select link src lane hdr data crc => Sys2Proof.Machine.execSelect link src lane hdr data crc s
  | .hostAssistWaitExpiry half lane => Sys2Proof.Machine.execHostAssistWaitExpiry half lane s
  | .stepCommit half lane t => Sys2Proof.Machine.execStepCommit half lane t s
  | .stopBathStart o v => Sys2Proof.Machine.execStopBathStart o v s
  | .stopBathLevelChange o v => Sys2Proof.Machine.execStopBathLevelChange o v s
  | .stopBathEnd o v => Sys2Proof.Machine.execStopBathEnd o v s
  | .stopBathQuiet => Sys2Proof.Machine.execStopBathQuiet s
  | .stopBathLate => Sys2Proof.Machine.execStopBathLate s
  | .coreSetWrite o p sub v => Sys2Proof.Machine.execCoreSetWrite o p sub v s
  | .profileLoad o p v => Sys2Proof.Machine.execProfileLoad o p v s
  | .profileUnload o p v => Sys2Proof.Machine.execProfileUnload o p v s
  | .curveWrite o id v => Sys2Proof.Machine.execCurveWrite o id v s
  | .decodeTableWrite o id v => Sys2Proof.Machine.execDecodeTableWrite o id v s
  | .textTableWrite o kind id v => Sys2Proof.Machine.execTextTableWrite o kind id v s
  | .textMore fn sq d input => Sys2Proof.Machine.execTextMore fn sq d input s
  | .assistPost fn sq d => Sys2Proof.Machine.execAssistPost fn sq d s
  | .assistExchange xid => Sys2Proof.Machine.execAssistExchange xid s
  | .assistReply fn sq d reply => Sys2Proof.Machine.execAssistReply fn sq d reply s
  | .gather src part hdr data crc => Sys2Proof.Machine.execGather src part hdr data crc s
  | .add src part hdr data crc => Sys2Proof.Machine.execAdd src part hdr data crc s
  | .set src part hdr data crc => Sys2Proof.Machine.execSet src part hdr data crc s
  | .fillSwitch table row => Sys2Proof.Machine.execFillSwitch table row s
  | .evictionSwitch table row => Sys2Proof.Machine.execEvictionSwitch table row s
  | .sketchHalving half => Sys2Proof.Machine.execSketchHalving half s
  | .embTableLoad o id v => Sys2Proof.Machine.execEmbTableLoad o id v s
  | .embTableUnload o id v => Sys2Proof.Machine.execEmbTableUnload o id v s
  | .embGather fn sq d input => Sys2Proof.Machine.execEmbGather fn sq d input s
  | .embAdd fn sq d input => Sys2Proof.Machine.execEmbAdd fn sq d input s
  | .embSet fn sq d input => Sys2Proof.Machine.execEmbSet fn sq d input s
  | .embRequant fn sq d => Sys2Proof.Machine.execEmbRequant fn sq d s
  | .embFlush fn sq d => Sys2Proof.Machine.execEmbFlush fn sq d s
  | .vsQuery fn sq d input => Sys2Proof.Machine.execVsQuery fn sq d input s
  | .scanTaskFinish core task => Sys2Proof.Machine.execScanTaskFinish core task s
  | .vsInsert fn sq d input => Sys2Proof.Machine.execVsInsert fn sq d input s
  | .vsDelete fn sq d input => Sys2Proof.Machine.execVsDelete fn sq d input s
  | .indexLoad o id v => Sys2Proof.Machine.execIndexLoad o id v s
  | .indexUnload o id v => Sys2Proof.Machine.execIndexUnload o id v s
  | .holdEpochWrite o id v => Sys2Proof.Machine.execHoldEpochWrite o id v s
  | .proofRunFinish core x => Sys2Proof.Machine.execProofRunFinish core x s
  | .katPeriod half => Sys2Proof.Machine.execKatPeriod half s
  | .katRunFinish core x => Sys2Proof.Machine.execKatRunFinish core x s
  | .patternWrite o id v => Sys2Proof.Machine.execPatternWrite o id v s
  | .exclude fn sq d => Sys2Proof.Machine.execExclude fn sq d s
  | .admitUnit fn sq d => Sys2Proof.Machine.execAdmit fn sq d s
  | .test fn sq d => Sys2Proof.Machine.execTest fn sq d s
  | .forgo fn sq d => Sys2Proof.Machine.execForgo fn sq d s
  | .counterClear o idx v => Sys2Proof.Machine.execCounterClear o idx v s
  | .ckpt fn sq d => Sys2Proof.Machine.execCkpt fn sq d s
  | .ckptDouble fn sq d => Sys2Proof.Machine.execCkptDouble fn sq d s
  | .ckptZeroDurable => Sys2Proof.Machine.execCkptZeroDurable s
  | .ckptCut => Sys2Proof.Machine.execCkptCut s
  | .ckptQuiesceTimeout => Sys2Proof.Machine.execCkptQuiesceTimeout s
  | .drainComplete half => Sys2Proof.Machine.execDrainComplete half s
  | .sheetDurable => Sys2Proof.Machine.execSheetDurable s
  | .commitDurable => Sys2Proof.Machine.execCommitDurable s
  | .ckptAbort fn sq d => Sys2Proof.Machine.execCkptAbort fn sq d s
  | .restore fn sq d => Sys2Proof.Machine.execRestore fn sq d s
  | .cap link rec => Sys2Proof.Machine.execCap link rec s
  | .capAck link rec => Sys2Proof.Machine.execCapAck link rec s
  | .capSendTimer link => Sys2Proof.Machine.execCapSendTimer link s
  | .trainingTimeout link => Sys2Proof.Machine.execTrainingTimeout link s
  | .linkRetryTimer link => Sys2Proof.Machine.execLinkRetryTimer link s
  | .signalDetect link => Sys2Proof.Machine.execSignalDetect link s
  | .wavelengthLoss link wave => Sys2Proof.Machine.execWavelengthLoss link wave s
  | .narrowingRetrainDone link => Sys2Proof.Machine.execNarrowingRetrainDone link s
  | .linkSilence link => Sys2Proof.Machine.execLinkSilence link s
  | .laserSourceFail port wave => Sys2Proof.Machine.execLaserSourceFail port wave s
  | .flitReceive link flit => Sys2Proof.Machine.execFlitReceive link flit s
  | .nakReceive link flit => Sys2Proof.Machine.execNakReceive link flit s
  | .replayTimer link => Sys2Proof.Machine.execReplayTimer link s
  | .messageReceive link hdr body abt t => Sys2Proof.Machine.execMessageReceive link hdr body abt t s
  | .cutThroughForward link hdr body abt t => Sys2Proof.Machine.execCutThroughForward link hdr body abt t s
  | .spillDeparture link vc => Sys2Proof.Machine.execSpillDeparture link vc s
  | .wfqStart link vc t => Sys2Proof.Machine.execWfqStart link vc t s
  | .timeGateEntry link t => Sys2Proof.Machine.execTimeGateEntry link t s
  | .helloTimer link => Sys2Proof.Machine.execHelloTimer link s
  | .hello link hdr => Sys2Proof.Machine.execHello link hdr s
  | .policerProfileWrite o id sub v => Sys2Proof.Machine.execPolicerProfileWrite o id sub v s
  | .scheduleWrite o id v => Sys2Proof.Machine.execScheduleWrite o id v s
  | .markClear o idx v => Sys2Proof.Machine.execMarkClear o idx v s
  | .poolGrantReq src part hdr => Sys2Proof.Machine.execPoolGrantReq src part hdr s
  | .poolGrant src part hdr => Sys2Proof.Machine.execPoolGrant src part hdr s
  | .poolRenew src part hdr => Sys2Proof.Machine.execPoolRenew src part hdr s
  | .poolWrite src part hdr data crc => Sys2Proof.Machine.execPoolWrite src part hdr data crc s
  | .poolRead src part hdr => Sys2Proof.Machine.execPoolRead src part hdr s
  | .poolData src part hdr data crc => Sys2Proof.Machine.execPoolData src part hdr data crc s
  | .poolAck src part hdr => Sys2Proof.Machine.execPoolAck src part hdr s
  | .poolFree src part hdr => Sys2Proof.Machine.execPoolFree src part hdr s
  | .poolRetryTimer seq late => Sys2Proof.Machine.execPoolRetryTimer seq late s
  | .sqTailWrite port fn id tail owned => Sys2Proof.Machine.execSqTailWrite port fn id tail owned s
  | .tailSnoopDelay port fn id => Sys2Proof.Machine.execTailSnoopDelay port fn id s
  | .tailPoll port fn id tail => Sys2Proof.Machine.execTailPoll port fn id tail s
  | .ringHeadUpdate fn kind id head => Sys2Proof.Machine.execRingHeadUpdate fn kind id head s
  | .msixTimer fn kind id => Sys2Proof.Machine.execMsixTimer fn kind id s
  | .functionReset fn cause => Sys2Proof.Machine.execFunctionReset fn cause s
  | .perst port => Sys2Proof.Machine.execPerst port s
  | .pcieLinkUp port lanes rate cxl => Sys2Proof.Machine.execPcieLinkUp port lanes rate cxl s
  | .pcieLinkDown port => Sys2Proof.Machine.execPcieLinkDown port s
  | .hostLeaseEnd port => Sys2Proof.Machine.execHostLeaseEnd port s
  | .cxlMemAccess port hoff excl data mask => Sys2Proof.Machine.execCxlMemAccess port hoff excl data mask s
  | .snoopResponse port line data keepShared => Sys2Proof.Machine.execSnoopResponse port line data keepShared s
  | .dirtyWriteback port line data => Sys2Proof.Machine.execDirtyWriteback port line data s
  | .dmaCompletion fn id ok data => Sys2Proof.Machine.execDmaCompletion fn id ok data s
  | .dmaTimeout fn id => Sys2Proof.Machine.execDmaTimeout fn id s
  | .ideFailure port stream fn => Sys2Proof.Machine.execIdeFailure port stream fn s
  | .ideKm port stream sid install => Sys2Proof.Machine.execIdeKm port stream sid install s
  | .tdispMessage fn code sid => Sys2Proof.Machine.execTdispMessage fn code sid s
  | .ringCreate fn sq d => Sys2Proof.Machine.execRingCreate fn sq d s
  | .ringDelete fn sq d => Sys2Proof.Machine.execRingDelete fn sq d s
  | .ring0Create o v => Sys2Proof.Machine.execRing0Create o v s
  | .ring0Delete o v => Sys2Proof.Machine.execRing0Delete o v s
  | .renew fn sq d => Sys2Proof.Machine.execRenew fn sq d s
  | .regionCreate fn sq d => Sys2Proof.Machine.execRegionCreate fn sq d s
  | .regionDelete fn sq d => Sys2Proof.Machine.execRegionDelete fn sq d s
  | .windowOpen fn sq d => Sys2Proof.Machine.execWindowOpen fn sq d s
  | .windowClose fn sq d => Sys2Proof.Machine.execWindowClose fn sq d s
  | .publish fn sq d => Sys2Proof.Machine.execPublish fn sq d s
  | .regionQuery fn sq d => Sys2Proof.Machine.execRegionQuery fn sq d s
  | .bridgeDown => Sys2Proof.Machine.execBridgeDown s
  | .bridgeUp => Sys2Proof.Machine.execBridgeUp s
  | .drbgReseed ok => Sys2Proof.Machine.execDrbgReseed ok s
  | .getVersion via sid msg t => Sys2Proof.Machine.execGetVersion via sid msg t s
  | .getCapabilities via sid msg t => Sys2Proof.Machine.execGetCapabilities via sid msg t s
  | .negotiateAlgorithms via sid msg t => Sys2Proof.Machine.execNegotiateAlgorithms via sid msg t s
  | .getDigests via sid msg t => Sys2Proof.Machine.execGetDigests via sid msg t s
  | .getCertificate via sid msg t => Sys2Proof.Machine.execGetCertificate via sid msg t s
  | .challenge via sid msg t => Sys2Proof.Machine.execChallenge via sid msg t s
  | .getMeasurements via sid msg t => Sys2Proof.Machine.execGetMeasurements via sid msg t s
  | .keyExchange via sid msg t => Sys2Proof.Machine.execKeyExchange via sid msg t s
  | .finish via sid msg t => Sys2Proof.Machine.execFinish via sid msg t s
  | .heartbeat via sid msg t => Sys2Proof.Machine.execHeartbeat via sid msg t s
  | .keyUpdate via sid msg t => Sys2Proof.Machine.execKeyUpdate via sid msg t s
  | .endSession via sid msg t => Sys2Proof.Machine.execEndSession via sid msg t s
  | .setCertificate via sid msg t => Sys2Proof.Machine.execSetCertificate via sid msg t s
  | .chunkSend via sid msg t => Sys2Proof.Machine.execChunkSend via sid msg t s
  | .chunkGet via sid msg t => Sys2Proof.Machine.execChunkGet via sid msg t s
  | .getEncapsulatedRequest via sid msg t => Sys2Proof.Machine.execGetEncapsulatedRequest via sid msg t s
  | .deliverEncapsulatedResponse via sid msg t => Sys2Proof.Machine.execDeliverEncapsulatedResponse via sid msg t s
  | .spdmSessionTimeout sid => Sys2Proof.Machine.execSpdmSessionTimeout sid s
  | .partitionEnable o p v => Sys2Proof.Machine.execPartitionEnable o p v s
  | .partitionDisable o p v => Sys2Proof.Machine.execPartitionDisable o p v s
  | .ownerKeyWrite o p v => Sys2Proof.Machine.execOwnerKeyWrite o p v s
  | .functionBindingWrite o port sub v => Sys2Proof.Machine.execFunctionBindingWrite o port sub v s
  | .linkKeyWrite o p v => Sys2Proof.Machine.execLinkKeyWrite o p v s
  | .keyExportRequest o p v => Sys2Proof.Machine.execKeyExportRequest o p v s
  | .keyPackageImport o p v => Sys2Proof.Machine.execKeyPackageImport o p v s
  | .confidentialModeWrite o v => Sys2Proof.Machine.execConfidentialModeWrite o v s
  | .safelightUpdate => Sys2Proof.Machine.execSafelightUpdate s
  | .read o pdu t => Sys2Proof.Machine.execRead o pdu t s
  | .write o pdu data t => Sys2Proof.Machine.execWrite o pdu data t s
  | .describe o pdu t => Sys2Proof.Machine.execDescribe o pdu t s
  | .next o pdu t => Sys2Proof.Machine.execNext o pdu t s
  | .pendTimer o => Sys2Proof.Machine.execPendTimer o s
  | .snapshotExpiry o t => Sys2Proof.Machine.execSnapshotExpiry o t s
  | .stagedWriteExpiry o t => Sys2Proof.Machine.execStagedWriteExpiry o t s
  | .mailboxPoll fn mreq req => Sys2Proof.Machine.execMailboxPoll fn mreq req s
  | .fnFrameReceive dst src ethertype hdr payload => Sys2Proof.Machine.execFnFrameReceive dst src ethertype hdr payload s
  | .dictFrame src hdr payload => Sys2Proof.Machine.execDictFrame src hdr payload s
  | .eventAck src hdr => Sys2Proof.Machine.execEventAck src hdr s
  | .spdmFrame src hdr payload => Sys2Proof.Machine.execSpdmFrame src hdr payload s
  | .discover src hdr => Sys2Proof.Machine.execDiscover src hdr s
  | .fnLinkUp plca => Sys2Proof.Machine.execFnLinkUp plca s
  | .eventResendTimer => Sys2Proof.Machine.execEventResendTimer s
  | .maintenanceEnter o v => Sys2Proof.Machine.execMaintenanceEnter o v s
  | .maintenanceLeave o v => Sys2Proof.Machine.execMaintenanceLeave o v s
  | .maintenanceReached => Sys2Proof.Machine.execMaintenanceReached s
  | .maintenanceEntryLate => Sys2Proof.Machine.execMaintenanceEntryLate s
  | .timeMapSample o port v t => Sys2Proof.Machine.execTimeMapSample o port v t s
  | .timeMapEmpty o port v => Sys2Proof.Machine.execTimeMapEmpty o port v s
  | .timeMapInvalid port half => Sys2Proof.Machine.execTimeMapInvalid port half s
  | .calendarSet o v => Sys2Proof.Machine.execCalendarSet o v s
  | .calendarDistribute => Sys2Proof.Machine.execCalendarDistribute s
  | .calendarFreeRun half => Sys2Proof.Machine.execCalendarFreeRun half s
  | .calendarPersist => Sys2Proof.Machine.execCalendarPersist s
  | .lifetimeUpdate temps => Sys2Proof.Machine.execLifetimeUpdate temps s
  | .lifetimePersist => Sys2Proof.Machine.execLifetimePersist s
  | .replanPeriod => Sys2Proof.Machine.execReplanPeriod s
  | .replanNow o v => Sys2Proof.Machine.execReplanNow o v s
  | .marginCurveWrite o kind sub v => Sys2Proof.Machine.execMarginCurveWrite o kind sub v s
  | .slackRead island slack ring => Sys2Proof.Machine.execSlackRead island slack ring s
  | .planApprove o island v => Sys2Proof.Machine.execPlanApprove o island v s
  | .leaseRenewRequest half t => Sys2Proof.Machine.execLeaseRenewRequest half t s
  | .leaseGrant half epoch lead t => Sys2Proof.Machine.execLeaseGrant half epoch lead t s
  | .halfLeaseEnd half => Sys2Proof.Machine.execHalfLeaseEnd half s
  | .rotGrantEnd half => Sys2Proof.Machine.execRotGrantEnd half s
  | .leadMoveWrite o v => Sys2Proof.Machine.execLeadMoveWrite o v s
  | .leadMessage half epoch => Sys2Proof.Machine.execLeadMessage half epoch s
  | .refclkLoss => Sys2Proof.Machine.execRefclkLoss s
  | .refclkReturn => Sys2Proof.Machine.execRefclkReturn s
  | .powerOn straps refclk => Sys2Proof.Machine.execPowerOn straps refclk s
  | .startupEnd => Sys2Proof.Machine.execStartupEnd s
  | .warmReset o v => Sys2Proof.Machine.execWarmReset o v s
  | .halfReset o v => Sys2Proof.Machine.execHalfReset o v s
  | .halfStartupEnd half => Sys2Proof.Machine.execHalfStartupEnd half s
  | .heartbeatMiss half => Sys2Proof.Machine.execHeartbeatMiss half s
  | .startupReadyTimeout => Sys2Proof.Machine.execStartupReadyTimeout s
  | .testModeEnter o v => Sys2Proof.Machine.execTestModeEnter o v s
  | .testModeLeave o v => Sys2Proof.Machine.execTestModeLeave o v s
  | .raiseFloors o v => Sys2Proof.Machine.execRaiseFloors o v s
  | .alertRelease o v => Sys2Proof.Machine.execAlertRelease o v s
  | .serviceBegin frame => Sys2Proof.Machine.execServiceBegin frame s
  | .serviceData frame => Sys2Proof.Machine.execServiceData frame s
  | .serviceEnd frame => Sys2Proof.Machine.execServiceEnd frame s
  | .serviceAbort frame => Sys2Proof.Machine.execServiceAbort frame s
  | .serviceActivate frame => Sys2Proof.Machine.execServiceActivate frame s
  | .deliveryTimeout => Sys2Proof.Machine.execDeliveryTimeout s
  | .serviceStatusRead => Sys2Proof.Machine.execServiceStatusRead s
  | .i3cCcc ccc data => Sys2Proof.Machine.execI3cCcc ccc data s
  | .feedUndervoltage mv => Sys2Proof.Machine.execFeedUndervoltage mv s
  | .feedOvervoltage => Sys2Proof.Machine.execFeedOvervoltage s
  | .powerSample watts feedMv => Sys2Proof.Machine.execPowerSample watts feedMv s
  | .thermalSample temps => Sys2Proof.Machine.execThermalSample temps s
  | .perstDeassert port => Sys2Proof.Machine.execPerstDeassert port s
  | .fnLinkDown => Sys2Proof.Machine.execFnLinkDown s
  | .restoreComplete => Sys2Proof.Machine.execRestoreComplete s
  | .mapCheckDone => Sys2Proof.Machine.execMapCheckDone s
  | .leadDropAck => Sys2Proof.Machine.execLeadDropAck s
  | .dailyCountReport half => Sys2Proof.Machine.execDailyCountReport half s
  | .stackAnswersAgain half stack => Sys2Proof.Machine.execStackAnswersAgain half stack s
  | .msixVectorUnmask fn vector => Sys2Proof.Machine.execMsixVectorUnmask fn vector s
  | .poolLeaseRenewal part holder ext => Sys2Proof.Machine.execPoolLeaseRenewal part holder ext s

end Sys2Proof.Machine
end

