-- ==== Sys2Proof/Safety.lean ====
section
/-!
DEFINITION. What holds of every state a run passes through, and the terms the statements are made in: when a command gets past
the checks that come before its own.
-/

namespace Sys2Proof.Machine

/-- No counter lies above its largest value (R8, R274). -/
abbrev Counters.within (c : Counters) : Prop := ∀ x ∈ c.val, x.2 ≤ ctrMax

/-- The invariant of a run: the device memory keeps its canonical form, the device mode is one of Table 20-3, and no counter lies
above its largest value (R8). -/
abbrev State.kept (s : State) : Prop := Mem.wf s.tiers.mem = true ∧ s.boot.mode ≤ 3 ∧ s.ctr.within

/-- The descriptor `d` with opcode `op`, from SQ `sq` of function `fn`, is taken: the SC2 is awake in mode NORMAL (R427, R445),
the function's requests do not stand still (R352, R353), it is bound to partition `p` (R329), and every check of R47 that needs
no state passes. -/
abbrev Taken (s : State) (op fn : Nat) (d : Desc) (p : Nat) : Prop :=
  s.dark = false ∧ fn ∉ s.host.stops ∧ s.fnPart fn = some p ∧ s.boot.mode = 1 ∧ descCheck op d = none

/-- A session command is taken, its handle passes every check of R34, the bridge is up (R24), neither half the command
touches is in HOLD (R420), and the session is not EXPIRED, but for CLOSE and QUERY (Table 2-2). -/
abbrev TakenSess (s : State) (op fn : Nat) (d : Desc) (any remote : Bool) (p : Nat) : Prop :=
  Taken s op fn d p ∧ s.boot.bridge = false ∧ s.handleCheck p (dHnd d) any remote = none
    ∧ s.inHold (s.ent (hIdx (dHnd d))).shalf = false ∧ s.inHold (idxHalf (hIdx (dHnd d))) = false
    ∧ ((s.ent (hIdx (dHnd d))).state = .expired → op = 0x08 ∨ op = 0x0A)

/-- A write of `v` to `idx`.`sub` by `o` passes every check of R382 that comes before the entry's own rule, the store has room
for it and its islands can be reached. -/
abbrev Writable (s : State) (o : Origin) (idx sub : Nat) (v : List Byte) : Prop :=
  s.dark = false ∧ (s.boot.mode == 3) = false ∧ s.writeCheck o idx sub v = none ∧ s.storeFull (dkey idx sub) v = false
    ∧ s.unreachable o idx sub true = false

end Sys2Proof.Machine
end

