-- ==== Sys2Proof/WellFormed.lean ====
section
/-!
DEFINITION. Well-formed commands: the operands that name a unit, a port, a table or an entry name one that the SC2 has. Descriptors, headers
and values may be any bits: what the SC2 says to bad ones is the meaning's.
-/

namespace Sys2Proof.WellFormed

/-- Functions are numbered 64 × port + function (R329). -/
def fnOk (n : Nat) : Bool := decide (n < 256)

/-- A ring id has 8 bits (R334). -/
def sqOk (n : Nat) : Bool := decide (n < 256)

/-- The halves West and East, or the two groups of a half. -/
def halfOk (n : Nat) : Bool := decide (n < 2)

/-- Band rows of a group (R73). -/
def bandOk (n : Nat) : Bool := decide (n < 768)

/-- Stacks of a half, and the Flopiry stacks. -/
def stackOk (n : Nat) : Bool := decide (n < 16)

/-- The cores. -/
def coreOk (n : Nat) : Bool := decide (n < 256)

/-- Partitions 0 to 63. -/
def partOk (n : Nat) : Bool := decide (n < 64)

/-- Lanes 0 to 7 (R134). -/
def laneOk (n : Nat) : Bool := decide (n < 8)

/-- Virtual channels. -/
def vcOk (n : Nat) : Bool := decide (n < 8)

/-- Links 0 to 95 (R296). -/
def linkOk (n : Nat) : Bool := decide (n < 96)

/-- Host ports (R328). -/
def portOk (n : Nat) : Bool := decide (n < 4)

/-- Fibre-array ports (R296). -/
def arrayOk (n : Nat) : Bool := decide (n < 8)

/-- Laser sources of a port and wavelengths of a link. -/
def waveOk (n : Nat) : Bool := decide (n < 4)

/-- Islands with a margin plan (R411). -/
def islandOk (n : Nat) : Bool := decide (n < 100)

/-- Island kinds (R412). -/
def islandKindOk (n : Nat) : Bool := decide (n < 17)

/-- Ring kinds: 1 SQ, 2 CQ, 3 output, 4 event. -/
def ringKindOk (n : Nat) : Bool := decide (1 ≤ n ∧ n < 5)

/-- Text tables: tokenizer, grammar, stop set (R193). -/
def textKindOk (n : Nat) : Bool := decide (n < 3)

/-- MSI-X vectors of a function. -/
def vectorOk (n : Nat) : Bool := decide (n < 2048)

/-- Embedding tables and indexes (R215, R235). -/
def tableOk (n : Nat) : Bool := decide (n < 64)

/-- Curves, decode tables, patterns, profiles of policers and schedules. -/
def smallIdOk (n : Nat) : Bool := decide (n < 16)

/-- A Dictionary index (R15). -/
def indexOk (n : Nat) : Bool := decide (n < 65536)

/-- Session directory entries (R35). -/
def entryOk (n : Nat) : Bool := decide (n < 4194304)

/-- A CRC-32C. -/
def crcOk (n : Nat) : Bool := decide (n < 4294967296)

/-- An origin's function, source address and frame number (Table 17-4, Table 18-8). -/
def originOk : Origin → Bool
  | .mailbox fn => fnOk fn
  | .net mac fseq => decide (mac < 2 ^ 48 ∧ fseq < 2 ^ 16)
  | .session sid => decide (sid < 2 ^ 32)

/-- A transport of SPDM (R362). -/
def viaOk : Via → Bool
  | .doe fn => fnOk fn
  | .net mac => decide (mac < 2 ^ 48)

end Sys2Proof.WellFormed

namespace Sys2Proof
open WellFormed

/-- The command's operands name units that the SC2 has. -/
def Instr.wellFormed (i : Instr) : Bool :=
  match i with
  | .openCmd fn sq _ => fnOk fn && sqOk sq
  | .submit fn sq _ _ _ => fnOk fn && sqOk sq
  | .cancel fn sq _ => fnOk fn && sqOk sq
  | .pause fn sq _ => fnOk fn && sqOk sq
  | .park fn sq _ => fnOk fn && sqOk sq
  | .revive fn sq _ => fnOk fn && sqOk sq
  | .fork fn sq _ => fnOk fn && sqOk sq
  | .close fn sq _ => fnOk fn && sqOk sq
  | .setTtl fn sq _ => fnOk fn && sqOk sq
  | .query fn sq _ => fnOk fn && sqOk sq
  | .ttlScan half _ _ => halfOk half
  | .entryFree idx => entryOk idx
  | .functionSplitWrite o p _ _ => originOk o && partOk p
  | .quotaWrite o p _ _ => originOk o && partOk p
  | .t1QuotaWrite o p _ _ => originOk o && partOk p
  | .sealDone _ => true
  | .scrubDone half stack => halfOk half && stackOk stack
  | .stackLost half stack => halfOk half && stackOk stack
  | .lysingAccessTimeout half stack => halfOk half && stackOk stack
  | .rebuildRowDone half group row => halfOk half && halfOk group && bandOk row
  | .t2BufferWrite half => halfOk half
  | .t2ShareAck _ stack => stackOk stack
  | .t2Compaction half => halfOk half
  | .flopiryStackLost stack => stackOk stack
  | .wearRead stack _ => stackOk stack
  | .demotionPassStart half => halfOk half
  | .idleDemotion idx => entryOk idx
  | .demotionPageDurable idx _ _ => entryOk idx
  | .t2LowStripesMove half => halfOk half
  | .granulePieceMoved _ => true
  | .extentLeaseLapse part _ => partOk part
  | .poolLeaseLapse _ _ _ => true
  | .extentAdd fn sq _ => fnOk fn && sqOk sq
  | .extentRemove fn sq _ => fnOk fn && sqOk sq
  | .map fn sq _ => fnOk fn && sqOk sq
  | .unmap fn sq _ => fnOk fn && sqOk sq
  | .place fn sq _ => fnOk fn && sqOk sq
  | .rebuild fn sq _ => fnOk fn && sqOk sq
  | .atomic fn sq _ => fnOk fn && sqOk sq
  | .developerPageFetched idx _ _ _ => entryOk idx
  | .ownRead _ part _ => partOk part
  | .ownRenew _ part _ => partOk part
  | .ownOffer _ part _ => partOk part
  | .ownAccept _ part _ => partOk part
  | .ownRecall _ part _ => partOk part
  | .ownClaim _ part _ => partOk part
  | .ownRelease _ part _ => partOk part
  | .ownNote _ part _ => partOk part
  | .ownLeaseScan half => halfOk half
  | .ownRenewTimer idx => entryOk idx
  | .ownReplyTimeout idx => entryOk idx
  | .frozenEnd => true
  | .stagedHoldExpiry idx => entryOk idx
  | .migrate fn sq _ => fnOk fn && sqOk sq
  | .moveEnds idx _ => entryOk idx
  | .recall fn sq _ => fnOk fn && sqOk sq
  | .claim fn sq _ => fnOk fn && sqOk sq
  | .whereCmd fn sq _ => fnOk fn && sqOk sq
  | .discard fn sq _ => fnOk fn && sqOk sq
  | .moveFields _ part _ _ crc => partOk part && crcOk crc
  | .moveObject _ part _ _ crc => partOk part && crcOk crc
  | .moveResend _ part _ => partOk part
  | .moveRefuse _ part _ => partOk part
  | .moveGuest _ part _ => partOk part
  | .moveRelay _ part _ _ crc => partOk part && crcOk crc
  | .moveRelayAck _ part _ => partOk part
  | .relayResendTimer _ _ _ => true
  | .laneEnableWrite o lane _ => originOk o && laneOk lane
  | .roundOpen half _ _ _ => halfOk half
  | .roundOpenAbandon half _ _ _ => halfOk half
  | .qkv link _ lane _ _ crc _ => linkOk link && laneOk lane && crcOk crc
  | .roundTimerExpiry half lane _ => halfOk half && laneOk lane
  | .splitFinish core _ _ => coreOk core
  | .select link _ lane _ _ crc => linkOk link && laneOk lane && crcOk crc
  | .hostAssistWaitExpiry half lane => halfOk half && laneOk lane
  | .stepCommit half lane _ => halfOk half && laneOk lane
  | .stopBathStart o _ => originOk o
  | .stopBathLevelChange o _ => originOk o
  | .stopBathEnd o _ => originOk o
  | .stopBathQuiet => true
  | .stopBathLate => true
  | .coreSetWrite o p _ _ => originOk o && partOk p
  | .profileLoad o p _ => originOk o && partOk p
  | .profileUnload o p _ => originOk o && partOk p
  | .curveWrite o id _ => originOk o && smallIdOk id
  | .decodeTableWrite o id _ => originOk o && smallIdOk id
  | .textTableWrite o kind _ _ => originOk o && textKindOk kind
  | .textMore fn sq _ _ => fnOk fn && sqOk sq
  | .assistPost fn sq _ => fnOk fn && sqOk sq
  | .assistExchange _ => true
  | .assistReply fn sq _ _ => fnOk fn && sqOk sq
  | .gather _ part _ _ crc => partOk part && crcOk crc
  | .add _ part _ _ crc => partOk part && crcOk crc
  | .set _ part _ _ crc => partOk part && crcOk crc
  | .fillSwitch table _ => tableOk table
  | .evictionSwitch table _ => tableOk table
  | .sketchHalving half => halfOk half
  | .embTableLoad o id _ => originOk o && tableOk id
  | .embTableUnload o id _ => originOk o && tableOk id
  | .embGather fn sq _ _ => fnOk fn && sqOk sq
  | .embAdd fn sq _ _ => fnOk fn && sqOk sq
  | .embSet fn sq _ _ => fnOk fn && sqOk sq
  | .embRequant fn sq _ => fnOk fn && sqOk sq
  | .embFlush fn sq _ => fnOk fn && sqOk sq
  | .vsQuery fn sq _ _ => fnOk fn && sqOk sq
  | .scanTaskFinish core _ => coreOk core
  | .vsInsert fn sq _ _ => fnOk fn && sqOk sq
  | .vsDelete fn sq _ _ => fnOk fn && sqOk sq
  | .indexLoad o id _ => originOk o && tableOk id
  | .indexUnload o id _ => originOk o && tableOk id
  | .holdEpochWrite o id _ => originOk o && tableOk id
  | .proofRunFinish core _ => coreOk core
  | .katPeriod half => halfOk half
  | .katRunFinish core _ => coreOk core
  | .patternWrite o id _ => originOk o && smallIdOk id
  | .exclude fn sq _ => fnOk fn && sqOk sq
  | .admitUnit fn sq _ => fnOk fn && sqOk sq
  | .test fn sq _ => fnOk fn && sqOk sq
  | .forgo fn sq _ => fnOk fn && sqOk sq
  | .counterClear o idx _ => originOk o && indexOk idx
  | .ckpt fn sq _ => fnOk fn && sqOk sq
  | .ckptDouble fn sq _ => fnOk fn && sqOk sq
  | .ckptZeroDurable => true
  | .ckptCut => true
  | .ckptQuiesceTimeout => true
  | .drainComplete half => halfOk half
  | .sheetDurable => true
  | .commitDurable => true
  | .ckptAbort fn sq _ => fnOk fn && sqOk sq
  | .restore fn sq _ => fnOk fn && sqOk sq
  | .cap link _ => linkOk link
  | .capAck link _ => linkOk link
  | .capSendTimer link => linkOk link
  | .trainingTimeout link => linkOk link
  | .linkRetryTimer link => linkOk link
  | .signalDetect link => linkOk link
  | .wavelengthLoss link wave => linkOk link && waveOk wave
  | .narrowingRetrainDone link => linkOk link
  | .linkSilence link => linkOk link
  | .laserSourceFail port wave => arrayOk port && waveOk wave
  | .flitReceive link _ => linkOk link
  | .nakReceive link _ => linkOk link
  | .replayTimer link => linkOk link
  | .messageReceive link _ _ _ _ => linkOk link
  | .cutThroughForward link _ _ _ _ => linkOk link
  | .spillDeparture link vc => linkOk link && vcOk vc
  | .wfqStart link vc _ => linkOk link && vcOk vc
  | .timeGateEntry link _ => linkOk link
  | .helloTimer link => linkOk link
  | .hello link _ => linkOk link
  | .policerProfileWrite o id _ _ => originOk o && smallIdOk id
  | .scheduleWrite o id _ => originOk o && smallIdOk id
  | .markClear o idx _ => originOk o && indexOk idx
  | .poolGrantReq _ part _ => partOk part
  | .poolGrant _ part _ => partOk part
  | .poolRenew _ part _ => partOk part
  | .poolWrite _ part _ _ crc => partOk part && crcOk crc
  | .poolRead _ part _ => partOk part
  | .poolData _ part _ _ crc => partOk part && crcOk crc
  | .poolAck _ part _ => partOk part
  | .poolFree _ part _ => partOk part
  | .poolRetryTimer _ _ => true
  | .sqTailWrite port fn _ _ _ => portOk port && fnOk fn
  | .tailSnoopDelay port fn _ => portOk port && fnOk fn
  | .tailPoll port fn _ _ => portOk port && fnOk fn
  | .ringHeadUpdate fn kind id _ => fnOk fn && ringKindOk kind && sqOk id
  | .msixTimer fn kind id => fnOk fn && ringKindOk kind && sqOk id
  | .functionReset fn _ => fnOk fn
  | .perst port => portOk port
  | .pcieLinkUp port _ _ _ => portOk port
  | .pcieLinkDown port => portOk port
  | .hostLeaseEnd port => portOk port
  | .cxlMemAccess port _ _ _ _ => portOk port
  | .snoopResponse port _ _ _ => portOk port
  | .dirtyWriteback port _ _ => portOk port
  | .dmaCompletion fn _ _ _ => fnOk fn
  | .dmaTimeout fn _ => fnOk fn
  | .ideFailure port _ fn => portOk port && fnOk fn
  | .ideKm port _ _ _ => portOk port
  | .tdispMessage fn _ _ => fnOk fn
  | .ringCreate fn sq _ => fnOk fn && sqOk sq
  | .ringDelete fn sq _ => fnOk fn && sqOk sq
  | .ring0Create o _ => originOk o
  | .ring0Delete o _ => originOk o
  | .renew fn sq _ => fnOk fn && sqOk sq
  | .regionCreate fn sq _ => fnOk fn && sqOk sq
  | .regionDelete fn sq _ => fnOk fn && sqOk sq
  | .windowOpen fn sq _ => fnOk fn && sqOk sq
  | .windowClose fn sq _ => fnOk fn && sqOk sq
  | .publish fn sq _ => fnOk fn && sqOk sq
  | .regionQuery fn sq _ => fnOk fn && sqOk sq
  | .bridgeDown => true
  | .bridgeUp => true
  | .drbgReseed _ => true
  | .getVersion via _ _ _ => viaOk via
  | .getCapabilities via _ _ _ => viaOk via
  | .negotiateAlgorithms via _ _ _ => viaOk via
  | .getDigests via _ _ _ => viaOk via
  | .getCertificate via _ _ _ => viaOk via
  | .challenge via _ _ _ => viaOk via
  | .getMeasurements via _ _ _ => viaOk via
  | .keyExchange via _ _ _ => viaOk via
  | .finish via _ _ _ => viaOk via
  | .heartbeat via _ _ _ => viaOk via
  | .keyUpdate via _ _ _ => viaOk via
  | .endSession via _ _ _ => viaOk via
  | .setCertificate via _ _ _ => viaOk via
  | .chunkSend via _ _ _ => viaOk via
  | .chunkGet via _ _ _ => viaOk via
  | .getEncapsulatedRequest via _ _ _ => viaOk via
  | .deliverEncapsulatedResponse via _ _ _ => viaOk via
  | .spdmSessionTimeout _ => true
  | .partitionEnable o p _ => originOk o && partOk p
  | .partitionDisable o p _ => originOk o && partOk p
  | .ownerKeyWrite o p _ => originOk o && partOk p
  | .functionBindingWrite o port _ _ => originOk o && portOk port
  | .linkKeyWrite o p _ => originOk o && partOk p
  | .keyExportRequest o p _ => originOk o && partOk p
  | .keyPackageImport o p _ => originOk o && partOk p
  | .confidentialModeWrite o _ => originOk o
  | .safelightUpdate => true
  | .read o _ _ => originOk o
  | .write o _ _ _ => originOk o
  | .describe o _ _ => originOk o
  | .next o _ _ => originOk o
  | .pendTimer o => originOk o
  | .snapshotExpiry o _ => originOk o
  | .stagedWriteExpiry o _ => originOk o
  | .mailboxPoll fn _ _ => fnOk fn
  | .fnFrameReceive _ _ _ _ _ => true
  | .dictFrame _ _ _ => true
  | .eventAck _ _ => true
  | .spdmFrame _ _ _ => true
  | .discover _ _ => true
  | .fnLinkUp _ => true
  | .eventResendTimer => true
  | .maintenanceEnter o _ => originOk o
  | .maintenanceLeave o _ => originOk o
  | .maintenanceReached => true
  | .maintenanceEntryLate => true
  | .timeMapSample o port _ _ => originOk o && portOk port
  | .timeMapEmpty o port _ => originOk o && portOk port
  | .timeMapInvalid port half => portOk port && halfOk half
  | .calendarSet o _ => originOk o
  | .calendarDistribute => true
  | .calendarFreeRun half => halfOk half
  | .calendarPersist => true
  | .lifetimeUpdate _ => true
  | .lifetimePersist => true
  | .replanPeriod => true
  | .replanNow o _ => originOk o
  | .marginCurveWrite o kind _ _ => originOk o && islandKindOk kind
  | .slackRead island _ _ => islandOk island
  | .planApprove o island _ => originOk o && islandOk island
  | .leaseRenewRequest half _ => halfOk half
  | .leaseGrant half _ _ _ => halfOk half
  | .halfLeaseEnd half => halfOk half
  | .rotGrantEnd half => halfOk half
  | .leadMoveWrite o _ => originOk o
  | .leadMessage half _ => halfOk half
  | .refclkLoss => true
  | .refclkReturn => true
  | .powerOn _ _ => true
  | .startupEnd => true
  | .warmReset o _ => originOk o
  | .halfReset o _ => originOk o
  | .halfStartupEnd half => halfOk half
  | .heartbeatMiss half => halfOk half
  | .startupReadyTimeout => true
  | .testModeEnter o _ => originOk o
  | .testModeLeave o _ => originOk o
  | .raiseFloors o _ => originOk o
  | .alertRelease o _ => originOk o
  | .serviceBegin _ => true
  | .serviceData _ => true
  | .serviceEnd _ => true
  | .serviceAbort _ => true
  | .serviceActivate _ => true
  | .deliveryTimeout => true
  | .serviceStatusRead => true
  | .i3cCcc _ _ => true
  | .feedUndervoltage _ => true
  | .feedOvervoltage => true
  | .powerSample _ _ => true
  | .thermalSample _ => true
  | .perstDeassert port => portOk port
  | .fnLinkDown => true
  | .restoreComplete => true
  | .mapCheckDone => true
  | .leadDropAck => true
  | .dailyCountReport half => halfOk half
  | .stackAnswersAgain half stack => halfOk half && stackOk stack
  | .msixVectorUnmask fn vector => fnOk fn && vectorOk vector
  | .poolLeaseRenewal part _ _ => partOk part

end Sys2Proof
end

