-- ==== Sys2Proof/Certificates/Slice0/Obligations.lean ====
section
/-!
DEFINITION. The statements. Each clause under Sys2Proof.Claim says what one command does, or one rule of the machine, in the terms of the
spec; each obligation gathers the clauses of one kind of command.
-/

namespace Sys2Proof.Claim
open Sys2Proof.Machine

/-- A write of `v` to `idx`.`sub` passes every check of R382 that comes before the entry's own rule. -/
abbrev Checked (s : State) (o : Origin) (idx sub : Nat) (v : List Byte) : Prop :=
  s.dark = false ∧ (s.boot.mode == 3) = false ∧ s.writeCheck o idx sub v = none

/-! ### Sessions (ch 2) -/

/-- OPEN (R35, R49): of a loaded profile, with room for one more session of the partition, a FREE entry of the half and T1 for
the root of its page table: the lowest FREE entry becomes the session and the completion carries its index. The half is the one named, or the one with fewer
entries in use, West where they are equal. -/
def openMakes : Prop := ∀ (s : State) (fn sq : Nat) (d : Desc) (p h i : Nat) (pr : Profile),
  Taken s 0x01 fn d p → s.profs.get? (dFld d 159 154) = some pr → s.ttlBad (dFld d 191 160) = false → dFld d 153 152 < 3 →
  h = (if dFld d 153 152 < 2 then dFld d 153 152 else if s.entriesUsed 1 < s.entriesUsed 0 then 1 else 0) →
  (s.boot.bridge && h == 1) = false → s.openCount p < s.dval (0x2040 + p) 1 → s.freeIndex h = some i →
  2 * cdiv pr.layers 128 ≤ s.roomT1 h →
  exec (.openCmd fn sq d) s = .next (((s.makeSession i p (dFld d 159 154)
    (if dFld d 191 160 = 0 then s.dval 0x2000 4 else dFld d 191 160) h).setRes i).doneSess (s.cmdOf fn sq d false) i stOK 0 i)

/-- OPEN at the session quota (R49), on a half named: NO_SPACE with detail QUOTA, and event 0x2002 the first time. -/
def openAtQuota : Prop := ∀ (s : State) (fn sq : Nat) (d : Desc) (p : Nat) (pr : Profile),
  Taken s 0x01 fn d p → s.profs.get? (dFld d 159 154) = some pr → s.ttlBad (dFld d 191 160) = false → dFld d 153 152 < 2 →
  (s.boot.bridge && dFld d 153 152 == 1) = false →
  s.dval (0x2040 + p) 1 ≤ s.openCount p →
  exec (.openCmd fn sq d) s = .next ((s.quotaReached p 1 0).refuse (s.cmdOf fn sq d false) stNOSPACE dQUOTA)

/-- A SUBMIT `d` that passes every check of its fields, its tables, its parameter block `ps` and its input `b` (R41, R195, R202), and finds
the free slot `k`. -/
abbrev Submittable (s : State) (fn : Nat) (d : Desc) (input : Option (List Byte)) (p k : Nat) (ps : SelParams) (b : List Byte) : Prop :=
  TakenSess s 0x02 fn d false false p ∧ s.submitBad fn d = false ∧ s.laneF (dFld d 399 392) 2 = (s.ent (hIdx (dHnd d))).profile
  ∧ s.textFault p (hIdx (dHnd d)) d = none ∧ s.readParams p (dFld d 375 320) = .ok ps
  ∧ (0 < dFld d 255 224 ∨ dFlag d 26 = true ∨ (s.ent (hIdx (dHnd d))).tv = true) ∧ dFld d 255 224 ≤ s.dval 0x5000 3
  ∧ (if dFld d 255 224 = 0 ∨ (s.splitAt p (s.ent (hIdx (dHnd d))).shalf (dFld d 399 392) 1 && !dFlag d 25) = true then some []
      else input) = some b
  ∧ s.takeSlot p (s.ent (hIdx (dHnd d))).shalf = .ok k

/-- SUBMIT of a session that may take a request (R41, Table 2-2): an IDLE one, or a DEVELOPING or MOVING one with no request attached, gets the
request; a PARKED one too where no lease lapsed and its reservation has room, and its Developer starts (R107). -/
def submitAttaches : Prop := ∀ (s : State) (fn sq : Nat) (d : Desc) (input : Option (List Byte)) (t p k : Nat) (ps : SelParams)
    (b : List Byte),
  let s1 := (s.at t).dmaFrom fn input
  let i := hIdx (dHnd d)
  let e := s1.ent i
  let q := s1.newRequest (s1.cmdOf fn sq d (dFlag d 24)) p i d ps
  Submittable s1 fn d input p k ps b →
  (e.state = .idle ∨ (e.state = .developing ∧ e.sv = false) ∨ (e.state = .moving ∧ (e.sv = false ∨ s1.sess.slots.has e.slot = false)) →
    exec (.submit fn sq d input t) s = .next (s1.attach i k 0 q d b))
  ∧ (e.state = .parked → s1.lapsedNeed i = none → s1.noRoom e.part e.shalf (s1.revivalKib i) = none →
    exec (.submit fn sq d input t) s = .next (s1.attach i k (s1.revivalKib i) q d b))
  ∧ (e.state = .live ∨ (e.state = .developing ∧ e.sv = true) ∨ (e.state = .moving ∧ e.sv = true ∧ s1.sess.slots.has e.slot = true) →
    exec (.submit fn sq d input t) s = .next (s1.busy (s1.cmdOf fn sq d (dFlag d 24))))

/-- CANCEL (Table 2-2) of a LIVE session, without CLOSE, that names its slot: OK with aux 1, and the request is cancelled at
its next step boundary. -/
def cancelLive : Prop := ∀ (s : State) (fn sq : Nat) (d : Desc) (p : Nat),
  let i := hIdx (dHnd d)
  TakenSess s 0x03 fn d false false p → (s.ent i).state = .live → dFlag d 24 = false → (s.ent i).sv = true →
  (s.ent i).slot = dFld d 141 128 → s.sess.slots.has (s.ent i).slot = true →
  exec (.cancel fn sq d) s = .next
    (((s.doneSess (s.cmdOf fn sq d false) i stOK 0 1).updEnt i (fun x => { x with cp := true })).atBoundary i)

/-- CANCEL that names another slot (Table 2-2): OK with aux 0, and the session stays as it is. -/
def cancelMisses : Prop := ∀ (s : State) (fn sq : Nat) (d : Desc) (p : Nat),
  let i := hIdx (dHnd d)
  TakenSess s 0x03 fn d false false p → (s.ent i).state ≠ .expired → dFlag d 24 = false →
  ((s.ent i).sv = false ∨ (s.ent i).slot ≠ dFld d 141 128) →
  exec (.cancel fn sq d) s = .next (s.doneSess (s.cmdOf fn sq d false) i stOK 0 0)

/-- CANCEL of a session that is not LIVE, with a request attached whose slot it names, without CLOSE (Table 2-2): OK with aux 1, and the request
ends CANCELLED at once. -/
def cancelEnds : Prop := ∀ (s : State) (fn sq : Nat) (d : Desc) (p : Nat),
  let i := hIdx (dHnd d)
  let e := s.ent i
  TakenSess s 0x03 fn d false false p → e.state ≠ .expired → e.state ≠ .live → dFlag d 24 = false → e.sv = true → e.slot = dFld d 141 128 →
  s.sess.slots.has e.slot = true →
  exec (.cancel fn sq d) s = .next ((s.doneSess (s.cmdOf fn sq d false) i stOK 0 1).endNow i stCANCELLED 0)

/-- CANCEL with CLOSE (Table 2-2, R47): an IDLE session without the slot named closes, as does a LIVE one at its next boundary; of a MOVING one it is
BUSY. -/
def cancelCloses : Prop := ∀ (s : State) (fn sq : Nat) (d : Desc) (p : Nat),
  let i := hIdx (dHnd d)
  let e := s.ent i
  TakenSess s 0x03 fn d false false p → dFlag d 24 = true →
  (e.state = .idle → e.sv = false → exec (.cancel fn sq d) s = .next ((s.doneSess (s.cmdOf fn sq d false) i stOK 0 0).closeSess i []))
  ∧ (e.state = .live → e.sv = true → e.slot = dFld d 141 128 → s.sess.slots.has e.slot = true →
    exec (.cancel fn sq d) s = .next ((s.doneSess (s.cmdOf fn sq d false) i stOK 0 1).closeSess i []))
  ∧ (e.state = .moving → exec (.cancel fn sq d) s = .next (s.busy (s.cmdOf fn sq d false)))

/-- PAUSE (Table 2-2) of a LIVE session: OK with aux 1, and pause pending. -/
def pauseLive : Prop := ∀ (s : State) (fn sq : Nat) (d : Desc) (p : Nat),
  let i := hIdx (dHnd d)
  TakenSess s 0x04 fn d false false p → (s.ent i).state = .live → (s.ent i).sv = true →
  s.sess.slots.has (s.ent i).slot = true →
  exec (.pause fn sq d) s = .next
    (((s.doneSess (s.cmdOf fn sq d false) i stOK 0 1).updEnt i (fun x => { x with pp := true })).atBoundary i)

/-- PAUSE of another session that is not EXPIRED (Table 2-2): with a request attached OK with aux 1, and the request ends OK with detail PAUSED at once;
with none OK with aux 0. -/
def pauseOthers : Prop := ∀ (s : State) (fn sq : Nat) (d : Desc) (p : Nat),
  let i := hIdx (dHnd d)
  let e := s.ent i
  TakenSess s 0x04 fn d false false p → e.state ≠ .expired → e.state ≠ .live →
  (e.sv = true → s.sess.slots.has e.slot = true →
    exec (.pause fn sq d) s = .next ((s.doneSess (s.cmdOf fn sq d false) i stOK 0 1).endNow i stOK 4))
  ∧ (e.sv = false → exec (.pause fn sq d) s = .next (s.doneSess (s.cmdOf fn sq d false) i stOK 0 0))

/-- PARK of an IDLE session (R94, R95): to the tier `x` found, under the ttl given; the completion waits for the last object. -/
def parkIdle : Prop := ∀ (s : State) (fn sq : Nat) (d : Desc) (p x : Nat),
  let i := hIdx (dHnd d)
  TakenSess s 0x05 fn d true false p → s.ttlBad (dFld d 191 160) = false → dFld d 159 152 ≠ 1 → dFld d 159 152 ≤ 4 →
  (s.ent i).state = .idle → s.parkTier i (dFld d 159 152) = some x →
  exec (.park fn sq d) s = .next
    ((if dFld d 191 160 = 0 then s else s.updEnt i (fun e => { e with ttl := dFld d 191 160 })).startDemotion i x false false
      [(s.cmdOf fn sq d false, dFld d 159 152)])

/-- PARK where no tier has room (R94): NO_SPACE and event 0x3009, and the session stays IDLE. -/
def parkNoRoom : Prop := ∀ (s : State) (fn sq : Nat) (d : Desc) (p : Nat),
  let i := hIdx (dHnd d)
  TakenSess s 0x05 fn d true false p → s.ttlBad (dFld d 191 160) = false → dFld d 159 152 ≠ 1 → dFld d 159 152 ≤ 4 →
  (s.ent i).state = .idle → s.parkTier i (dFld d 159 152) = none →
  exec (.park fn sq d) s = .next
    ((s.raise 0x3009 (s.ent i).part (s.ent i).shalf [(s.ent i).shalf, (s.ent i).part]).refuse (s.cmdOf fn sq d false) stNOSPACE 0)

/-- PARK in the other states (Table 2-2, R95, R109): of a PARKED session under no demotion it moves the session to the tier named; under one it waits for it,
unless another tier is named that has no room; of a DEVELOPING one the Developer stops, its request and REVIVEs are CANCELLED and its T1 copies go; of a LIVE or
MOVING one it is BUSY. -/
def parkOthers : Prop := ∀ (s : State) (fn sq : Nat) (d : Desc) (p x : Nat),
  let i := hIdx (dHnd d)
  let e := s.ent i
  let t := dFld d 159 152
  let c := s.cmdOf fn sq d false
  let withTtl := fun (u : State) => if dFld d 191 160 = 0 then u else u.updEnt i (fun y => { y with ttl := dFld d 191 160 })
  TakenSess s 0x05 fn d true false p → s.ttlBad (dFld d 191 160) = false → t ≠ 1 → t ≤ 4 →
  (e.state = .parked → s.tiers.demos.get? i = none → s.parkTier i t = some x →
    exec (.park fn sq d) s = .next ((withTtl s).startDemotion i x (t != 0) false [(c, t)]))
  ∧ (∀ m, e.state = .parked → s.tiers.demos.get? i = some m → (t = 0 ∨ t = m.tier ∨ (s.parkTier i t).isSome = true) →
    let s1 := (withTtl s).startTtl i
    exec (.park fn sq d) s = .next { s1 with tiers := { s1.tiers with demos := s1.tiers.demos.put i { m with parks := m.parks ++ [(c, t)] } } })
  ∧ (e.state = .developing → s.parkTier i t = some x →
    exec (.park fn sq d) s = .next ((withTtl ((((s.endAttached i stCANCELLED 0).endRevives i stCANCELLED 0).dropDev i).dropCopies i)).startDemotion
      i x (t != 0) false [(c, t)]))
  ∧ ((e.state = .live ∨ e.state = .moving) → exec (.park fn sq d) s = .next (s.busy c))

/-- REVIVE of a PARKED session (R107, R110): with no lease lapsed and room for its reservation the Developer starts, with the
window given, and the REVIVE waits for it. -/
def reviveParked : Prop := ∀ (s : State) (fn sq : Nat) (d : Desc) (p : Nat),
  let i := hIdx (dHnd d)
  TakenSess s 0x06 fn d false false p → (s.ent i).state = .parked → s.lapsedNeed i = none →
  s.noRoom (s.ent i).part (s.ent i).shalf (s.revivalKib i) = none →
  exec (.revive fn sq d) s = .next (s.startDev i (s.revivalKib i) (dFld d 135 128) [s.cmdOf fn sq d false])

/-- REVIVE of an IDLE or LIVE session (Table 2-2): OK at once, aux its resident layers. -/
def reviveResident : Prop := ∀ (s : State) (fn sq : Nat) (d : Desc) (p : Nat),
  let i := hIdx (dHnd d)
  TakenSess s 0x06 fn d false false p → ((s.ent i).state = .idle ∨ (s.ent i).state = .live) →
  exec (.revive fn sq d) s = .next (s.doneSess (s.cmdOf fn sq d false) i stOK 0 (s.ent i).reslayers)

/-- REVIVE in the other states (Table 2-2, R101, R107): of a PARKED session a lapsed lease completes it LEASE_EXPIRED, and no room NO_SPACE, with detail QUOTA at
the T1 quota; of a DEVELOPING one it waits for the window in force; of a MOVING one it is BUSY. -/
def reviveOthers : Prop := ∀ (s : State) (fn sq : Nat) (d : Desc) (p : Nat),
  let i := hIdx (dHnd d)
  let e := s.ent i
  let c := s.cmdOf fn sq d false
  TakenSess s 0x06 fn d false false p →
  (e.state = .parked → (s.lapsedNeed i).isSome = true → exec (.revive fn sq d) s = .next (s.refuse c stLEASE 0))
  ∧ (∀ quota, e.state = .parked → s.lapsedNeed i = none → s.noRoom e.part e.shalf (s.revivalKib i) = some quota →
    exec (.revive fn sq d) s = .next (s.refuse c stNOSPACE (if quota then dQUOTA else 0)))
  ∧ (e.state = .developing → exec (.revive fn sq d) s = .next
    { s with own := { s.own with dev := s.own.dev.upd i (fun x => { x with revives := x.revives ++ [c] }) } })
  ∧ (e.state = .moving → exec (.revive fn sq d) s = .next (s.busy c))

/-- FORK of an IDLE or PARKED session (R40, R62): of its whole history, or of the first `dFld d 191 160` tokens. With room, the lowest FREE entry `j` of the same half
becomes its child, with its profile, the tail token of the whole, and the pages shared; the parent counts one more child, and the child of a PARKED one is
PARKED with its own TTL. -/
def forkIdle : Prop := ∀ (s : State) (fn sq : Nat) (d : Desc) (p j : Nat),
  let i := hIdx (dHnd d)
  let e := s.ent i
  let all := dFld d 191 160 == 0xFFFFFFFF
  let n := if all then e.count else dFld d 191 160
  TakenSess s 0x07 fn d false false p → s.ttlBad (dFld d 159 128) = false → (e.state = .idle ∨ e.state = .parked) →
  0 < dFld d 191 160 → (all = true ∨ dFld d 191 160 ≤ e.count) →
  e.children < 65535 → s.openCount e.part < s.dval (0x2040 + e.part) 1 → s.freeIndex (idxHalf i) = some j →
  s.forkKib i (cdiv n 16) ≤ s.roomT1 e.shalf → s.sharesOn e.shalf + s.forkShares i (cdiv n 16) ≤ 16777216 →
  let s2 := ((s.makeSession j e.part e.profile (if dFld d 159 128 = 0 then e.ttl else dFld d 159 128) e.shalf).updEnt j
    (fun x => { x with fk := true, parent := i, prefixLen := n, count := n, tv := all && e.tv, tail := if all then e.tail else 0 })).updEnt i
      (fun x => { x with children := x.children + 1 })
  let s3 : State := { s2 with sess := { s2.sess with pgen := s2.sess.pgen.put j e.gen } }
  let s4 := s3.sharePages i j (cdiv n 16)
  exec (.fork fn sq d) s = .next
    (((if e.state = .parked then (s4.toState j .parked).startTtl j else s4).setRes j).doneSess (s.cmdOf fn sq d false) j stOK 0 j)

/-- FORK that may not be (Table 2-2, R40, R62): of a LIVE, DEVELOPING or MOVING session BUSY; of more tokens than it has, RANGE; at 65,535 children or without a
share record or room, NO_SPACE, the parent unchanged. -/
def forkRefused : Prop := ∀ (s : State) (fn sq : Nat) (d : Desc) (p j : Nat),
  let i := hIdx (dHnd d)
  let e := s.ent i
  let c := s.cmdOf fn sq d false
  let all := dFld d 191 160 == 0xFFFFFFFF
  let n := if all then e.count else dFld d 191 160
  TakenSess s 0x07 fn d false false p → s.ttlBad (dFld d 159 128) = false → 0 < dFld d 191 160 →
  ((e.state = .live ∨ e.state = .developing ∨ e.state = .moving) → exec (.fork fn sq d) s = .next (s.busy c))
  ∧ ((e.state = .idle ∨ e.state = .parked) →
    (all = false → e.count < dFld d 191 160 → exec (.fork fn sq d) s = .next (s.refuse c stBAD dRANGE))
    ∧ ((all = true ∨ dFld d 191 160 ≤ e.count) →
      (65535 ≤ e.children → exec (.fork fn sq d) s = .next (s.refuse c stNOSPACE 0))
      ∧ (e.children < 65535 → s.openCount e.part < s.dval (0x2040 + e.part) 1 → s.freeIndex (idxHalf i) = some j →
        s.sharesOn e.shalf + s.forkShares i (cdiv n 16) ≤ 16777216 → s.roomT1 e.shalf < s.forkKib i (cdiv n 16) →
        exec (.fork fn sq d) s = .next (s.refuse c stNOSPACE 0))))

/-- CLOSE of an IDLE or PARKED session (Table 2-2): it closes at once, counted at 0x8200.02, and completes OK. -/
def closeNow : Prop := ∀ (s : State) (fn sq : Nat) (d : Desc) (p : Nat),
  let i := hIdx (dHnd d)
  TakenSess s 0x08 fn d true false p → ((s.ent i).state = .idle ∨ (s.ent i).state = .parked) →
  exec (.close fn sq d) s = .next (((s.closeEntry i false true).count 0x8200 2 1).doneSess (s.cmdOf fn sq d false) i stOK 0 0)

/-- CLOSE in the other states (Table 2-2): of a LIVE session CP and CL are set and the CLOSE waits for its next step boundary; of a DEVELOPING one the request and
the REVIVEs complete CANCELLED and it closes; of an EXPIRED one it closes with LX set; of a MOVING one it is BUSY. -/
def closeOthers : Prop := ∀ (s : State) (fn sq : Nat) (d : Desc) (p : Nat),
  let i := hIdx (dHnd d)
  let e := s.ent i
  let c := s.cmdOf fn sq d false
  TakenSess s 0x08 fn d true false p →
  (e.state = .live →
    let s1 := s.updEnt i (fun x => { x with cp := true, cl := true })
    exec (.close fn sq d) s = .next
      (State.atBoundary { s1 with sess := { s1.sess with closes := s1.sess.closes.put i (s1.sess.closes.getD i [] ++ [c]) } } i))
  ∧ (e.state = .developing → exec (.close fn sq d) s = .next
      (((((s.endAttached i stCANCELLED 0).endRevives i stCANCELLED 0).closeEntry i false true).count 0x8200 2 1).doneSess c i stOK 0 0))
  ∧ (e.state = .expired → exec (.close fn sq d) s = .next (((s.closeEntry i true true).count 0x8200 2 1).doneSess c i stOK 0 0))
  ∧ (e.state = .moving → exec (.close fn sq d) s = .next (s.busy c))

/-- SET_TTL (Table 2-2) of a session that is not PARKED: its ttl is the value given, 0 the default of 0x2000.04, and the
completion carries the previous one. -/
def setTtlStores : Prop := ∀ (s : State) (fn sq : Nat) (d : Desc) (p : Nat),
  let i := hIdx (dHnd d)
  TakenSess s 0x09 fn d true false p → s.ttlBad (dFld d 191 160) = false →
  (s.ent i).state ≠ .expired → (s.ent i).state ≠ .moving → (s.ent i).state ≠ .parked →
  exec (.setTtl fn sq d) s = .next
    ((s.updEnt i (fun x => { x with ttl := if dFld d 191 160 = 0 then s.dval 0x2000 4 else dFld d 191 160 })).doneSess
      (s.cmdOf fn sq d false) i stOK 0 (s.ent i).ttl)

/-- SET_TTL of a PARKED session also starts its TTL anew (Table 2-2). -/
def setTtlParked : Prop := ∀ (s : State) (fn sq : Nat) (d : Desc) (p : Nat),
  let i := hIdx (dHnd d)
  TakenSess s 0x09 fn d true false p → s.ttlBad (dFld d 191 160) = false → (s.ent i).state = .parked →
  exec (.setTtl fn sq d) s = .next
    (((s.updEnt i (fun x => { x with ttl := if dFld d 191 160 = 0 then s.dval 0x2000 4 else dFld d 191 160 })).startTtl i).doneSess
      (s.cmdOf fn sq d false) i stOK 0 (s.ent i).ttl)

/-- SET_TTL of a MOVING session (Table 2-2) is BUSY. -/
def setTtlMoving : Prop := ∀ (s : State) (fn sq : Nat) (d : Desc) (p : Nat),
  TakenSess s 0x09 fn d true false p → s.ttlBad (dFld d 191 160) = false → (s.ent (hIdx (dHnd d))).state = .moving →
  exec (.setTtl fn sq d) s = .next (s.busy (s.cmdOf fn sq d false))

/-- A descriptor on an EXPIRED session other than CLOSE and QUERY (Table 2-2): TTL_EXPIRED, and nothing changes. -/
def expiredRefuses : Prop := ∀ (s : State) (fn sq : Nat) (d : Desc) (p : Nat) (i : Instr) (op : Nat) (any : Bool),
  Taken s op fn d p → s.boot.bridge = false → s.handleCheck p (dHnd d) any false = none → (s.ent (hIdx (dHnd d))).state = .expired →
  s.inHold (s.ent (hIdx (dHnd d))).shalf = false → s.inHold (idxHalf (hIdx (dHnd d))) = false →
  (op = 5 ∨ op = 9 → s.ttlBad (dFld d 191 160) = false) → (op = 5 → dFld d 159 152 ≠ 1 ∧ dFld d 159 152 ≤ 4) →
  (op = 7 → s.ttlBad (dFld d 159 128) = false ∧ 0 < dFld d 191 160) →
  (i, op, any) ∈ [(Instr.cancel fn sq d, 0x03, false), (Instr.pause fn sq d, 0x04, false), (Instr.park fn sq d, 0x05, true),
    (Instr.revive fn sq d, 0x06, false), (Instr.fork fn sq d, 0x07, false), (Instr.setTtl fn sq d, 0x09, true)] →
  exec i s = .next (s.refuse (s.cmdOf fn sq d false) stTTL 0)

/-- QUERY (Table 2-6): only its completion: aux carries the state in bits 31:28, the profile in 27:22, TV in 21 and the tail
token below, which reads 0 to partition 0 for another partition's session. -/
def queryReads : Prop := ∀ (s : State) (fn sq : Nat) (d : Desc) (p : Nat),
  let e := s.ent (hIdx (dHnd d))
  TakenSess s 0x0A fn d true true p →
  exec (.query fn sq d) s = .next (s.doneSess (s.cmdOf fn sq d false) (hIdx (dHnd d)) stOK 0
    (e.state.code * 2 ^ 28 + e.profile * 2 ^ 22 + b2n e.tv * 2 ^ 21 + (if p = 0 ∧ e.part ≠ 0 then 0 else e.tail) % 2 ^ 21))

/-- A session command whose handle is of another partition (R34): DENIED, counted at 0x8700.03, for SUBMIT apart. -/
def handleDenied : Prop := ∀ (s : State) (fn sq : Nat) (d : Desc) (p aux : Nat) (i : Instr) (op : Nat),
  Taken s op fn d p → s.boot.bridge = false → s.handleCheck p (dHnd d) false false = some (stDENIED, 0, aux) →
  (i, op) ∈ [(Instr.cancel fn sq d, 0x03), (Instr.pause fn sq d, 0x04), (Instr.revive fn sq d, 0x06)] →
  exec i s = .next ((s.count 0x8700 3 1).refuseA (s.cmdOf fn sq d false) stDENIED 0 aux)

/-- A command in mode STARTING (R427): HELD, whatever it asks. -/
def heldInStarting : Prop := ∀ (s : State) (fn sq : Nat) (d : Desc) (p : Nat) (i : Instr),
  s.dark = false → fn ∉ s.host.stops → s.fnPart fn = some p → s.boot.mode = 0 →
  i ∈ [Instr.openCmd fn sq d, .cancel fn sq d, .pause fn sq d, .park fn sq d, .revive fn sq d, .fork fn sq d, .close fn sq d,
    .setTtl fn sq d, .query fn sq d, .map fn sq d, .unmap fn sq d, .place fn sq d, .migrate fn sq d, .claim fn sq d] →
  exec i s = .next (s.refuse (s.cmdOf fn sq d false) stHELD 0)

/-- TTL_SCAN (R39) visits every session of its half in its range, in the order of the directory. A visit expires a PARKED session whose time has come, counted at
0x8200.03: under the device's own disposal it closes with LX set, and under the host's (0xA000.08) it is EXPIRED, its TTL stopped, with event 0x2001. Any other
session it leaves as it is. An entry with a bad copy is repaired first (R262). -/
def ttlExpires : Prop := ∀ (s : State),
  (∀ half first last, exec (.ttlScan half first last) s = .next
    (((s.sess.dir.map (·.1)).filter (fun i => idxHalf i == half % 2 && decide (first ≤ i) && decide (i ≤ last))).foldl State.ttlVisit s))
  ∧ ∀ i, (s.ent i).copyBad = false →
    let e := s.ent i
    (e.state = .parked → e.ton = true → e.ttl ≠ 0xFFFFFFFF → e.expires ≤ s.nowMs (idxHalf i) →
      (s.split e.part 8 = false → s.ttlVisit i = (s.count 0x8200 3 1).closeEntry i true true)
      ∧ (s.split e.part 8 = true → s.ttlVisit i =
        ((((s.count 0x8200 3 1).stopDemotion i stCANCELLED 0 true).toState i .expired).stopTtl i).raise 0x2001 e.part (idxHalf i)
          (w2 (s.handleOf i))))
    ∧ (e.state ≠ .parked ∨ e.ton = false ∨ e.ttl = 0xFFFFFFFF ∨ s.nowMs (idxHalf i) < e.expires → s.ttlVisit i = s)

/-- TTL_SCAN leaves everything as it is where every entry is good and no PARKED session's time has come (R39). -/
def ttlKeeps : Prop := ∀ (s : State) (half first last : Nat),
  (∀ ie ∈ s.sess.dir, (s.ent ie.1).copyBad = false) →
  (∀ ie ∈ s.sess.dir, (s.ent ie.1).state = .parked → s.nowMs (idxHalf ie.1) < (s.ent ie.1).expires) →
  exec (.ttlScan half first last) s = .next s

/-- ENTRY_FREE (R35, R38): a CLOSED entry with no page held back becomes FREE under the next generation, keeping its partition
and LX. One that is not CLOSED, is retired, or has pages held back stays as it is. -/
def entryFrees : Prop := ∀ (s : State) (i : Nat),
  ((s.ent i).state = .closed → (s.ent i).retired = false → s.pages.pages.any (fun p => p.2.rel == some i) = false →
    (s.ent i).gen < 0xFFFFFFFFF →
    exec (.entryFree i) s = .next
      (({ s with own := { s.own with links := s.own.links.del i } } : State).setEnt i
        { DirEntry.blank ((s.ent i).gen + 1) s.self with part := (s.ent i).part, lx := (s.ent i).lx }))
  ∧ ((s.ent i).state ≠ .closed ∨ (s.ent i).retired = true ∨ s.pages.pages.any (fun p => p.2.rel == some i) = true →
    exec (.entryFree i) s = .next s)

/-- ENTRY_FREE at the last generation (R35): the entry is retired, with event 0x2004. -/
def entryRetires : Prop := ∀ (s : State) (i : Nat),
  (s.ent i).state = .closed → (s.ent i).retired = false → s.pages.pages.any (fun p => p.2.rel == some i) = false →
  0xFFFFFFFFF ≤ (s.ent i).gen →
  exec (.entryFree i) s = .next
    ((({ s with own := { s.own with links := s.own.links.del i } } : State).setEnt i
      { s.ent i with retired := true }).raise 0x2004 (s.ent i).part (idxHalf i) [i])

/-- The writes of the function split (R32, R33), of a session or slot quota (R49) and of a T1 quota (R68): the entry has the value and the
write is answered OK; modes 1 to 6 as they were are kept for every lane with a step in flight, to its next boundary. -/
def sessionWrites : Prop := ∀ (s : State) (o : Origin) (p sub : Nat) (v : List Byte), p < 64 →
  (Writable s o (0xA000 + p) sub v → exec (.functionSplitWrite o p sub v) s = .next
    (((if sub ≤ 6 then s.keepModes p else s).dset (0xA000 + p) sub v).answerW o (0xA000 + p) sub v.length stOK 0))
  ∧ (Writable s o (0x2040 + p) sub v → exec (.quotaWrite o p sub v) s = .next
    (((s.dset (0x2040 + p) sub v).relatch p).answerW o (0x2040 + p) sub v.length stOK 0))
  ∧ (Writable s o (0x2180 + p) sub v → exec (.t1QuotaWrite o p sub v) s = .next
    ((s.dset (0x2180 + p) sub v).answerW o (0x2180 + p) sub v.length stOK 0))

/-! ### T1 and the tiers (ch 3, ch 4) -/

/-- SEAL_DONE (R60, Table 4-4) of a page in SEALING: it is SEALED with pagecv over its 16 rows. The copy kept is A, or B where A's stack or its parity's is lost;
it joins its stripe, the other goes to scrub, and the charge becomes that of a sealed page; counted at 0x8210.02. A release that waited for the seal follows, and
demotions that waited write on. A page in another state stays as it is. -/
def sealDone : Prop := ∀ (s : State) (pid : Nat) (p : Page), s.pages.pages.get? pid = some p →
  let fromB := p.a == 0 || s.stackLost p.a || s.parityLost p.a
  let keep := if fromB then p.b else p.a
  let other := if fromB then (if s.stackLost p.a then 0 else p.a) else p.b
  let s1 := (s.negCopy pid p.half p.bytes).updPage pid (fun q =>
    { q with st := .sealed, a := keep, b := 0, rel := none, pchk := q.rowsCheck 16
             rows := q.rows.mapV (fun _ r => { r with chkA := if r.chkA = .failed then r.chkB else r.chkA }) })
  let s2 := ((((s1.addMember keep).scrubT1 other).subCharge p.part p.half (openCharge (p.bytes / 1024))).addCharge
    p.part p.half (sealedCharge (p.bytes / 1024))).count 0x8210 2 1
  (p.st = .sealing → p.rel = none → exec (.sealDone pid) s = .next s2.demosGo)
  ∧ (∀ i, p.st = .sealing → p.rel = some i → exec (.sealDone pid) s = .next (s2.freePage pid i true (fun _ t _ => t)).demosGo)
  ∧ (p.st ≠ .sealing → exec (.sealDone pid) s = .next s.demosGo)

/-- SCRUB_DONE (R67) of the first slot a stack has queued: it is free, with the last taken in its row the row is free again, and the space is
counted at 0x8210.05 in units of 4,096 bytes; granules that wait for a place in T1 look again (R103). -/
def scrubFrees : Prop := ∀ (s : State) (h st : Nat) (x : Scrub) (l : List Scrub) (b : BandRow),
  h < 2 → st < 16 → s.tiers.scrub.get? (16 * h + st) = some (x :: l) → x.kib < 65536 → s.tiers.bands.get? (locKey x.loc) = some b →
  b.rstate = 0 → b.lostRec = false →
  let left := b.slots.filter (fun m => m != locSlot x.loc b.slotkib)
  let s1 : State := { s with tiers := { s.tiers with
    scrub := if l = [] then s.tiers.scrub.del (16 * h + st) else s.tiers.scrub.put (16 * h + st) l
    bands := if left = [] then s.tiers.bands.del (locKey x.loc) else s.tiers.bands.put (locKey x.loc) { b with slots := left } } }
  exec (.scrubDone h st) s = .next ((s.tiers.grans.map (·.1)).foldl (fun t g => t.pushUp g) (s1.countUnits 0x8210 5 4096 (1024 * x.kib)))

/-- STACK_LOST (R76 to R80) of an OK stack: LOST, event 0x3001, the 768 band rows of its group degraded but the retired ones, losses of
a second copy settled, what is open mirrored again, and the rebuild started; in host-assisted mode event 0x3002 asks the host for
REBUILD. -/
def stackLostOk : Prop := ∀ (s : State) (h st : Nat), h < 2 → st < 16 → (s.lys (16 * h + st)).cond = 0 →
  let s1 := (s.updLys (16 * h + st) (fun x => { x with cond := 1, fails := x.fails + 1, tries := 0, answers := false })).raise
    0x3001 0 h [h, st]
  let s2 := (List.range 768).foldl (fun t r => t.updRow (rowKey h (st / 8) r) (fun b => if b.rstate = 3 then b else { b with rstate := 1 })) s1
  let s3 := (s2.openLost.secondLoss h (st / 8)).remirror
  let aid := s.dval 0xA000 7 == 1
  let s4 := s3.startRebuild h (st / 8) st aid
  exec (.stackLost h st) s = .next (if aid then s4.raise 0x3002 0 h [h, st / 8, st] else s4)

/-- STACK_LOST of a stack already out (Table 4-3): counted in its fails, its tries start anew and it does not answer. -/
def stackLostAgain : Prop := ∀ (s : State) (h st : Nat), h < 2 → st < 16 → (s.lys (16 * h + st)).cond ≠ 0 →
  exec (.stackLost h st) s = .next
    (s.updLys (16 * h + st) (fun x => { x with fails := x.fails + 1, tries := 0, answers := false }))

/-- LYSING_ACCESS_TIMEOUT (R76): the first and second only count. STACK_ANSWERS_AGAIN (Table 4-3): the tries start anew, the answer is noted, and one of a LOST
stack counts as a failure and leaves it LOST. -/
def lysingTries : Prop := ∀ (s : State) (h st : Nat), h < 2 → st < 16 →
  ((s.lys (16 * h + st)).tries < 2 →
    exec (.lysingAccessTimeout h st) s = .next (s.updLys (16 * h + st) (fun x => { x with tries := x.tries + 1 })))
  ∧ exec (.stackAnswersAgain h st) s = .next (s.updLys (16 * h + st) (fun x =>
      { x with answers := true, tries := 0, fails := if x.cond = 1 then x.fails + 1 else x.fails }))

/-- LYSING_ACCESS_TIMEOUT (R76): the third successive failure loses the stack. -/
def lysingThird : Prop := ∀ (s : State) (h st : Nat), h < 2 → st < 16 → 2 ≤ (s.lys (16 * h + st)).tries →
  exec (.lysingAccessTimeout h st) s = exec (.stackLost h st) s

/-- REBUILD_ROW_DONE (R78), in hardware mode, of a row with no sealed member while others are left and no REBUILD waits: the row is normal
again and off the rebuild's list, and the next row is being rebuilt. -/
def rowRebuilt : Prop := ∀ (s : State) (h g r : Nat) (rb : Rebuild), h < 2 → g < 2 →
  s.tiers.rebuilds.get? (2 * h + g) = some rb → rb.assisted = false → r ∈ rb.rows → (rb.rows.filter (fun x => x != r)) ≠ [] → rb.cmds = [] →
  (s.row (rowKey h g r)).members = [] → (s.outPos h g).contains (r % 8) = false →
  let s1 := s.updRow (rowKey h g r) (fun x => { x with rstate := 0 })
  exec (.rebuildRowDone h g r) s = .next (State.markRow { s1 with tiers := { s1.tiers with
    rebuilds := s1.tiers.rebuilds.put (2 * h + g) { rb with rows := rb.rows.filter (fun x => x != r) } } } h g)

/-- T2_BUFFER_WRITE (R83, R88): a half with something in its stripe buffer writes the stripe, takes the next free one, and
counts 512 KiB towards the day and 128 units at 0x8300.03; a stripe whose objects are all gone is free at once (R85). -/
def t2Written : Prop := ∀ (s : State) (h : Nat), h < 2 → (s.tiers.t2.get h).fill ≠ 0 →
  let t := s.tiers.t2.get h
  let t1 : T2Half := { t with
    stripes := if t.buf = [] then t.stripes
      else t.stripes.put t.cur { live := (t.buf.map (·.kib)).foldl (· + ·) 0, acked := [], objs := t.buf }
    fill := 0, buf := [], last := t.cur }
  let s1 := s.setT2 h { t1 with cur := t1.freeFrom (t.cur + 1) }
  let s3 := ({ s1 with tiers := { s1.tiers with t2day := s1.tiers.t2day.upd h (· + 524288) } } : State).count 0x8300 3 128
  (s3.compactMark ≤ s3.t2Free h → exec (.t2BufferWrite h) s = .next s3)
  ∧ (s3.t2Free h < s3.compactMark → s3.compactMark ≤ s.t2Free h + 1 →
      exec (.t2BufferWrite h) s = .next (s3.raiseOnce 0x300B h 0 h [h, s3.t2Free h]))

/-- T2_BUFFER_WRITE of an empty buffer writes nothing. -/
def t2Empty : Prop := ∀ (s : State) (h : Nat), h < 2 → (s.tiers.t2.get h).fill = 0 → exec (.t2BufferWrite h) s = .next s

/-- T2_SHARE_ACK (R84): a share of a written stripe acknowledged; one of the other half waits while the bridge is down (R24). -/
def shareAcked : Prop := ∀ (s : State) (n f : Nat) (x : Stripe), n < 2 * t2Stripes → f < 16 →
  let h := n / t2Stripes
  (s.tiers.t2.get h).stripes.get? (n % t2Stripes) = some x →
  (s.boot.bridge = false ∨ f / 8 = h → exec (.t2ShareAck n f) s = .next
    (s.setT2 h { (s.tiers.t2.get h) with stripes := (s.tiers.t2.get h).stripes.put (n % t2Stripes) { x with acked := insSorted f x.acked } }))
  ∧ (s.boot.bridge = true → f / 8 ≠ h → exec (.t2ShareAck n f) s = .next s)

/-- T2_COMPACTION (R85) while the free stripes are below the threshold, or from then until they pass twice it: the objects of the stripe with the
fewest live units are written anew, counted at 0x8300.07; below the threshold with event 0x300B where no write raised it. It ends once they pass
twice the threshold; with nothing written it stands by. -/
def compacts : Prop := ∀ (s : State) (h : Nat), h < 2 →
  (s.t2Free h < s.compactMark ∨ (s.tiers.compact.get h = true ∧ s.t2Free h ≤ 2 * s.compactMark)) →
  let s0 : State := { s with tiers := { s.tiers with compact := s.tiers.compact.set h true } }
  let s1 := if s.t2Free h < s.compactMark then s0.raiseOnce 0x300B h 0 h [h, s.t2Free h] else s0
  (∀ n x, (s1.tiers.t2.get h).poorest = some (n, x) →
    let s2 := (x.kinds.foldl (fun t k => t.t2Rewrite h k) s1).count 0x8300 7 1
    (s2.t2Free h ≤ 2 * s2.compactMark → exec (.t2Compaction h) s = .next s2)
    ∧ (2 * s2.compactMark < s2.t2Free h → exec (.t2Compaction h) s = .next
      (State.unlatch { s2 with tiers := { s2.tiers with compact := s2.tiers.compact.set h false } } 0x300B h)))
  ∧ ((s1.tiers.t2.get h).poorest = none → exec (.t2Compaction h) s = .next s1)

/-- T2_COMPACTION above the threshold does nothing while none runs, or once the free stripes pass twice the threshold (R85). -/
def compactsNot : Prop := ∀ (s : State) (h : Nat), h < 2 → s.compactMark ≤ s.t2Free h →
  s.tiers.compact.get h = false ∨ 2 * s.compactMark < s.t2Free h → exec (.t2Compaction h) s = .next s

/-- FLOPIRY_STACK_LOST (R86) of a stack in service: LOST, with event 0x3005 carrying how many are lost. Of one already out: no more than the test whether a
checkpoint has lost its target. -/
def flopiryLost : Prop := ∀ (s : State) (f : Nat), f < 16 →
  ((s.flash f).cond = 0 →
    let s1 : State := { s with tiers := { s.tiers with flash := s.tiers.flash.put f { (s.flash f) with cond := 1 } } }
    exec (.flopiryStackLost f) s = .next
      (s1.raise 0x3005 0 (f / 8) [f, ((List.range 16).filter (fun g => (s1.flash g).cond == 1)).length]).ckptCheck)
  ∧ ((s.flash f).cond ≠ 0 → exec (.flopiryStackLost f) s = .next s.ckptCheck)

/-- WEAR_READ (R87): the count is kept. The first that reaches 2,400 cycles (80 % of the rated 3,000) raises event 0x3006, and the first that reaches 3,000 event
0x3007. -/
def wear : Prop := ∀ (s : State) (f n : Nat), f < 16 →
  let x := s.flash f
  let y : Flash := { x with cycles := n, worn80 := x.worn80 || decide (2400 ≤ n), worn100 := x.worn100 || decide (3000 ≤ n) }
  let t : State := { s with tiers := { s.tiers with flash := s.tiers.flash.put f y } }
  let u := if 2400 ≤ n ∧ x.worn80 = false then t.raise 0x3006 0 (f / 8) [f] else t
  exec (.wearRead f n) s = .next (if 3000 ≤ n ∧ x.worn100 = false then u.raise 0x3007 0 (f / 8) [f] else u)

/-- DEMOTION_PASS_START (R93): above the low mark, or while a pass runs, nothing; below it IDLE sessions, longest idle first,
then T1 granules, go down until the projection passes the high mark. -/
def passStarts : Prop := ∀ (s : State) (h : Nat), h < 2 →
  ((halfKib * s.dval 0x3000 3 / 256 ≤ s.freeT1 h ∨ (s.tiers.pass.get h).running = true) → exec (.demotionPassStart h) s = .next s)
  ∧ (s.freeT1 h < halfKib * s.dval 0x3000 3 / 256 → (s.tiers.pass.get h).running = false →
      let a := s.passSessions (halfKib * s.dval 0x3000 4 / 256) (s.idleOn h) (s.freeT1 h) false
      exec (.demotionPassStart h) s = .next (a.1.passGrans h (halfKib * s.dval 0x3000 4 / 256) (a.1.coldGrans h) a.2.1 a.2.2))

/-- IDLE_DEMOTION (R93, R94) while 0x3000.05 is not 0, of an IDLE session of the device: it goes to the first usable tier, or stays IDLE with event
0x3009 where there is none. Otherwise nothing happens. -/
def idleDemoted : Prop := ∀ (s : State) (i : Nat),
  let e := s.ent i
  let n := s.objKib (s.goingDown i 0 false) + (s.tableOf i).blocks.length
  (s.dval 0x3000 5 ≠ 0 → e.state = .idle → e.owner = s.self →
    (∀ t, s.policyTier e.shalf e.part n 2000000 [] = some t → exec (.idleDemotion i) s = .next (s.startDemotion i t false false []))
    ∧ (s.policyTier e.shalf e.part n 2000000 [] = none →
        exec (.idleDemotion i) s = .next (s.raise 0x3009 e.part e.shalf [e.shalf, e.part])))
  ∧ (s.dval 0x3000 5 = 0 ∨ e.state ≠ .idle ∨ e.owner ≠ s.self → exec (.idleDemotion i) s = .next s)

/-- DEMOTION_PAGE_DURABLE (R64, R84, R95) of a page on its way down whose object is durable: the T1 copies go, unless a session that is
not PARKED shares the page by then, and the demotion ends with the last. Of one not yet durable, or not on its way down, nothing
changes. -/
def pageDurable : Prop := ∀ (s0 : State) (i pid t : Nat) (d : Demotion) (p : Page),
  let s := s0.at t
  pid ≠ 0 →
  s.tiers.gcmds.any (fun c => c.left.contains (pageCode pid)) = false → s.tiers.demos.get? i = some d → s.pages.pages.get? pid = some p →
  (pid ∈ d.left → p.next ≠ 0 → s.durable p.next (.page pid) = true →
    let may := (s.refsOf i).any (fun r => s.refPid r.2.2 == some pid && s.mayGoDown i r.2.2)
    let s1 := if may then s.pageLowered pid else s.dropNext pid false
    let s2 : State := { s1 with tiers := { s1.tiers with
      demos := s1.tiers.demos.put i { d with left := d.left.filter (fun x => x != pid) } } }
    exec (.demotionPageDurable i pid t) s0 = .next ((s2.setRes i).endDemotion i (d.parks.length + 1)))
  ∧ (pid ∉ d.left ∨ p.next = 0 ∨ s.durable p.next (.page pid) = false → exec (.demotionPageDurable i pid t) s0 = .next s)

/-- T2_LOW_STRIPES_MOVE (R94): above 1/16 of the stripes it is off; below 1/32 a PARKED session with pages in T2 goes, table blocks and
all, to the next tier of the order that has room (which tier is next after T2 is read as log 88 says). -/
def lowStripes : Prop := ∀ (s : State) (h : Nat), h < 2 →
  (t2Stripes / 16 < s.t2Free h → exec (.t2LowStripesMove h) s = .next (s.unlatch 0x13000 h))
  ∧ (∀ i t, s.t2Free h < t2Stripes / 32 →
      let s0 : State := { s with ev := { s.ev with latch := s.ev.latch.put (latchKey 0x13000 h) 1 } }
      let l := (s0.goingDown i 0 true).filter
        (fun pid => ((s0.pages.pages.get? pid).map (fun p => hdTier p.low == 2 && !p.inT1)).getD false)
      let tabs := !(s0.tableOf i).inT1 && hdTier (s0.tableOf i).low == 2
      s0.inT2 h = some i →
      s0.afterT2.find? (fun u => s0.hasRoom h (s0.ent i).part u (s0.objKib l + (s0.tableOf i).blocks.length) 2000000) = some t →
      exec (.t2LowStripesMove h) s = .next (State.demoPut { s0 with tiers := { s0.tiers with
        demos := s0.tiers.demos.put i { tier := t, left := l, tabs, pass := false, parks := [] } } } i))

/-- GRANULE_PIECE_MOVED (R100): the first 31 pieces of a moving granule only count; the 32nd switches its map entry once its object is
durable in the tier it goes to (R84). A piece to or from T2 waits while the bridge is down (R24). -/
def pieces : Prop := ∀ (s : State) (g : Nat) (x : Granule) (m : GranMove), s.gran g = some x → x.mv = some m →
  (s.boot.bridge = true → m.tier = 2 ∨ x.tier = 2 → exec (.granulePieceMoved g) s = .next s)
  ∧ (s.boot.bridge = false ∨ m.tier ≠ 2 ∧ x.tier ≠ 2 →
      (m.pieces < 31 → exec (.granulePieceMoved g) s = .next
        (s.updGran g (fun y => { y with mv := some { m with pieces := m.pieces + 1 } })))
      ∧ (31 ≤ m.pieces → s.durable (m.tier * 2 ^ 45 + m.loc) (.granule g) = true →
          exec (.granulePieceMoved g) s = .next (s.switchGran g x m))
      ∧ (31 ≤ m.pieces → s.durable (m.tier * 2 ^ 45 + m.loc) (.granule g) = false → exec (.granulePieceMoved g) s = .next s))

/-- EXTENT_LEASE_LAPSE (R101): the extent is no longer leased; with objects in it event 0x300A is raised. -/
def extentLapses : Prop := ∀ (s : State) (p id : Nat) (x : Extent), id < 128 →
  s.tiers.extents.get? (128 * p + id) = some x → x.leased = true →
  let s1 : State := { s with tiers := { s.tiers with extents := s.tiers.extents.put (128 * p + id) { x with leased := false } } }
  exec (.extentLeaseLapse p id) s = .next
    ((if x.allocs.isEmpty then s1 else s1.lapseEvent p 0 (3 * 2 ^ 45 + id * 2 ^ 38)).lapsedDevs.ckptCheck)

/-- POOL_LEASE_LAPSE (R102): the lender frees the extent; for the borrower it lapses, and with objects in it event 0x300A is raised as for an extent of T3 (R101). -/
def poolLapses : Prop := ∀ (s : State) (peer ext : Nat) (b : Borrowed),
  exec (.poolLeaseLapse true peer ext) s = .next (s.freeLent peer ext)
  ∧ (s.tiers.borrowed.get? (poolKey peer ext) = some b →
      let s1 : State := { s with tiers := { s.tiers with borrowed := s.tiers.borrowed.put (poolKey peer ext) { b with lapsed := true } } }
      exec (.poolLeaseLapse false peer ext) s = .next
        (if b.allocs.isEmpty then s1 else s1.lapseEvent b.part 0 (4 * 2 ^ 45 + peer % 64 * 2 ^ 39 + ext % 128 * 2 ^ 32)).lapsedDevs.ckptCheck)

/-- EXTENT_ADD (R101, R104) of a new id: the extent is lent to the partition. With RENEW and the length it has, a known extent is leased again, at the
address given; without RENEW a known one is BUSY, with it an unknown one RANGE. -/
def extentAdded : Prop := ∀ (s : State) (fn sq : Nat) (d : Desc) (p : Nat), Taken s 0x20 fn d p →
  let id := dFld d 230 224
  let key := 128 * p + id
  let c := s.cmdOf fn sq d false
  dFld d 191 128 % 2 ^ 21 = 0 → 0 < dFld d 223 192 → dFld d 223 192 ≤ 131072 →
  (s.tiers.extents.get? key = none →
    (dFlag d 24 = false →
      let x : Extent := { fn, addr := dFld d 191 128, len := dFld d 223 192, leased := true, allocs := [] }
      exec (.extentAdd fn sq d) s = .next
        (({ s with tiers := { s.tiers with extents := s.tiers.extents.put key x } } : State).done c stOK 0 id))
    ∧ (dFlag d 24 = true → exec (.extentAdd fn sq d) s = .next (s.refuse c stBAD dRANGE)))
  ∧ (∀ x, s.tiers.extents.get? key = some x →
    (dFlag d 24 = true → x.len = dFld d 223 192 → exec (.extentAdd fn sq d) s = .next
      ((({ s with tiers := { s.tiers with extents := s.tiers.extents.put key { x with fn, addr := dFld d 191 128, leased := true } } } : State).unlatch
        0x300A (3 * 2 ^ 20 + p * 2 ^ 13 + id)).done c stOK 0 id))
    ∧ (dFlag d 24 = false → exec (.extentAdd fn sq d) s = .next (s.refuse c stBAD dBUSY)))

/-- EXTENT_REMOVE (R101) of an extent that holds nothing removes it; one that holds objects, without EVACUATE, is BUSY; with EVACUATE its objects move while it
is leased, and it completes LEASE_EXPIRED where the lease has lapsed. -/
def extentRemoved : Prop := ∀ (s : State) (fn sq : Nat) (d : Desc) (p : Nat) (x : Extent), Taken s 0x21 fn d p →
  let id := dFld d 134 128
  let c := s.cmdOf fn sq d false
  s.tiers.extents.get? (128 * p + id) = some x →
  (x.allocs = [] → exec (.extentRemove fn sq d) s = .next
    (({ s with tiers := { s.tiers with extents := s.tiers.extents.del (128 * p + id) } } : State).done c stOK 0 0))
  ∧ (x.allocs ≠ [] →
    (dFlag d 24 = false → exec (.extentRemove fn sq d) s = .next (s.refuse c stBAD dBUSY))
    ∧ (dFlag d 24 = true → x.leased = true → exec (.extentRemove fn sq d) s = .next (s.evacuate c p id))
    ∧ (dFlag d 24 = true → x.leased = false → exec (.extentRemove fn sq d) s = .next
      ((s.lapseEvent p 0 (3 * 2 ^ 45 + id * 2 ^ 38)).refuse c stLEASE 0)))

/-- MAP (R104) of granules of the own partition, none mapped or protected: each gets a place and reads as zeros, the anchors are
rewritten and the completion carries how many were mapped, NO_SPACE when not all. -/
def maps : Prop := ∀ (s : State) (fn sq : Nat) (d : Desc) (p : Nat), Taken s 0x22 fn d p → granFields d true = true →
  (∀ g ∈ granList d, s.partOn (granPart g) = true ∧ granPart g = p ∧ g < 2 ^ 35 ∧ s.mapDenied g (dFlag d 24) = false ∧ s.gran g = none) →
  let r := s.mapAll (dFld d 226 224) (dFlag d 24) (granList d) 0
  exec (.map fn sq d) s = .next (r.1.reanchor.done (s.cmdOf fn sq d false) (if r.2.2 then stOK else stNOSPACE) 0 r.2.1)

/-- MAP of a granule of another partition (R26): DENIED, counted at 0x8700.03. -/
def mapDenies : Prop := ∀ (s : State) (fn sq : Nat) (d : Desc) (p : Nat), Taken s 0x22 fn d p → granFields d true = true → p ≠ 0 →
  (∃ g ∈ granList d, granPart g ≠ p) →
  exec (.map fn sq d) s = .next ((s.count 0x8700 3 1).refuse (s.cmdOf fn sq d false) stDENIED 0)

/-- UNMAP (R104) of mapped granules: each is released. -/
def unmaps : Prop := ∀ (s : State) (fn sq : Nat) (d : Desc) (p : Nat), Taken s 0x23 fn d p → granFields d false = true →
  s.addrCheck p (dFld d 183 128) (dFld d 223 192 * 2097152) = none → (∀ g ∈ granList d, s.mapDenied g false = false) →
  exec (.unmap fn sq d) s = .next
    (((granList d).foldl (fun t g => t.unmapOne g) s).reanchor.done (s.cmdOf fn sq d false) stOK 0 (dFld d 223 192))

/-- PLACE (R104): PIN is set or cleared on each granule. With tier 0 it completes OK; with a tier the granules that are not there are moved to it, and it waits
for those on their way. A granule whose lease has lapsed completes it LEASE_EXPIRED with event 0x300A, and one it may not place DENIED. -/
def placesPin : Prop := ∀ (s : State) (fn sq : Nat) (d : Desc) (p : Nat), Taken s 0x24 fn d p → granFields d true = true →
  s.addrCheck p (dFld d 183 128) (dFld d 223 192 * 2097152) = none →
  let c := s.cmdOf fn sq d false
  let t := dFld d 226 224
  let away := fun (g : Nat) =>
    match s.gran g with
    | some x => s.lapsed (granPart g) x.handle
    | none => false
  let s1 := (granList d).foldl (fun u g => u.updGran g (fun x => { x with pin := dFlag d 24 })) s
  ((granList d).any (fun g => s.placeDenied g t (dFlag d 24)) = true → exec (.place fn sq d) s = .next (s.refuse c stDENIED 0))
  ∧ ((granList d).any (fun g => s.placeDenied g t (dFlag d 24)) = false →
    (∀ g x, (granList d).find? away = some g → s.gran g = some x →
      exec (.place fn sq d) s = .next ((s.lapseEvent (granPart g) 0 x.handle).refuse c stLEASE 0))
    ∧ ((granList d).find? away = none →
      (t = 0 → exec (.place fn sq d) s = .next (s1.reanchor.done c stOK 0 0))
      ∧ (t ≠ 0 →
        let r := s1.moveAll t (granList d) []
        (r.2.1 = [] → exec (.place fn sq d) s = .next (r.1.reanchor.done c (if r.2.2 then stOK else stNOSPACE) 0 0))
        ∧ (r.2.1 ≠ [] → exec (.place fn sq d) s = .next { r.1 with tiers := { r.1.tiers with
          gcmds := r.1.tiers.gcmds ++ [{ cmd := c, kind := 0x24, left := r.2.1, done := 0, arg := 0, short := !r.2.2 }] } }))))

/-- REBUILD (R78, R104) from partition 0: it waits for the rows it names that are still to rebuild, and with none it completes OK at once. From another
partition it is DENIED; rows outside 4 to 767, or in the wrong order, are RANGE. -/
def rebuildNames : Prop := ∀ (s : State) (fn sq : Nat) (d : Desc) (p : Nat), Taken s 0x25 fn d p →
  let c := s.cmdOf fn sq d false
  let a := dFld d 139 130
  let b := dFld d 149 140
  let k := 2 * dFld d 128 128 + dFld d 129 129
  (4 ≤ a → b ≤ 767 → a ≤ b →
    (∀ r : Rebuild, p = 0 → s.tiers.rebuilds.get? k = some r →
      let rows := r.rows.filter (fun x => decide (a ≤ x) && decide (x ≤ b))
      (rows ≠ [] → exec (.rebuild fn sq d) s = .next ({ s with tiers := { s.tiers with
        rebuilds := s.tiers.rebuilds.put k { r with cmds := r.cmds ++ [(c, rows, 0)] } } } : State))
      ∧ (rows = [] → exec (.rebuild fn sq d) s = .next (s.done c stOK 0 0)))
    ∧ (p = 0 → s.tiers.rebuilds.get? k = none → exec (.rebuild fn sq d) s = .next (s.done c stOK 0 0))
    ∧ (p ≠ 0 → exec (.rebuild fn sq d) s = .next ((s.count 0x8700 3 1).refuse c stDENIED 0)))
  ∧ (a < 4 ∨ 767 < b ∨ b < a → exec (.rebuild fn sq d) s = .next (s.refuse c stBAD dRANGE))

/-- ATOMIC (R103). On a granule in T1 that stands still, its stack in service and its line held by no host: the sum is stored, counted at 0x8300.08, and the
command completes OK; a poisoned block stays so and the command completes POISONED, and a line that hosts hold is recalled first. On a granule that moves, lies outside T1 or has lost its stack, it is held and waits for the
granule (R99). -/
def atomicAdds : Prop := ∀ (s : State) (fn sq : Nat) (d : Desc) (p : Nat) (x : Granule),
  let addr := dFld d 183 128
  let op := dFld d 258 256
  let w := atomicWidth op
  let g := granOf addr
  let c := s.cmdOf fn sq d false
  let s0 := s.access addr w
  Taken s 0x26 fn d p → op ≤ 3 → addr % w = 0 → s.addrCheck p addr w = none → s0.gran g = some x → s0.lapsed (granPart g) x.handle = false →
  (x.tier = 1 → x.mv = none → s0.stackLost x.handle = false → s0.holders 4 (addr / 64) true = [] →
    (s0.poisoned addr w = false → exec (.atomic fn sq d) s = .next
      (((s0.memWrite addr (leBytes w (atomicSum op (leNat (s0.memRead addr w)) (dFld d 255 192)))).count 0x8300 8 1).done c stOK 0 0))
    ∧ (s0.poisoned addr w = true → exec (.atomic fn sq d) s = .next ((((((s0.memWrite addr (leBytes w (atomicSum op (leNat (s0.memRead addr w))
      (dFld d 255 192)))).poisonBlock addr).count 0x8300 8 1).tastePoison c p 0)).done c stPOISONED 0 0)))
  ∧ (x.tier = 1 → x.mv = none → s0.stackLost x.handle = false → s0.holders 4 (addr / 64) true ≠ [] →
    let s1 := (s0.holders 4 (addr / 64) true).foldl (fun u q => u.snoopLine (addr / 64) q) s0
    exec (.atomic fn sq d) s = .next { s1 with host := { s1.host with
      atoms := s1.host.atoms ++ [{ cmd := c, part := p, addr := addr, op := op, v := dFld d 255 192 }] } })
  ∧ (x.tier ≠ 1 ∨ x.mv ≠ none ∨ s0.stackLost x.handle = true →
    let s1 := s0.updGran g (fun y => { y with adds := y.adds ++ [(addr, op, dFld d 255 192)] })
    exec (.atomic fn sq d) s = .next (State.pushUp { s1 with tiers := { s1.tiers with
      gcmds := s1.tiers.gcmds ++ [{ cmd := c, kind := 0x26, left := [g], done := 0, arg := addr, short := false }] } } g))

/-- DEVELOPER_PAGE_FETCHED (R108) of a good object while the tier is reachable: the page is placed, the bytes are counted and the
residency of every session that names the page is brought up to date. -/
def pageFetched : Prop := ∀ (s : State) (i pid l pidx : Nat) (v : DevRun) (p : Page),
  s.own.dev.get? i = some v → (s.missing i).find? (fun m => m.2.2 == pid) = some (l, pidx, pid) → s.pages.pages.get? pid = some p →
  pid ≠ 0 → (s.tableOf i).inT1 = true → (s.boot.bridge = true → hdTier p.low ≠ 2) → s.lapsed p.part p.low = false → p.lowChk = .good → s.t2Lost p.low p.clen = false →
  exec (.developerPageFetched i pid true 0) s = .next
    ((((((s.placePage i l pidx pid p false).count 0x8300 2 1).countUnits 0x8310 3 4096 (1024 * p.clen)).countUnits 0x8300 4 4096
      (if hdTier p.low = 2 then 1024 * p.clen else 0)).developed i).sharersDeveloped i pid)

/-- DEVELOPER_PAGE_FETCHED of an object that is uncorrectable (R115, R257): counted at 0x8600.02 with events 0x6002 and 0x6003,
and a DEVELOPING session goes back to PARKED with CHECK_VALUE. -/
def pageUncorrectable : Prop := ∀ (s : State) (i pid l pidx : Nat) (v : DevRun) (p : Page),
  s.own.dev.get? i = some v → (s.missing i).find? (fun m => m.2.2 == pid) = some (l, pidx, pid) → s.pages.pages.get? pid = some p →
  pid ≠ 0 → (s.tableOf i).inT1 = true → (s.boot.bridge = true → hdTier p.low ≠ 2) → s.lapsed p.part p.low = false → p.lowChk ≠ .failed →
  exec (.developerPageFetched i pid true 2) s = .next
    ((((((s.updPage pid (fun q => { q with lowChk := .failed })).count 0x8600 2 1).raise 0x6002 p.part (s.ent i).shalf
      ([(s.ent i).shalf, hdTier p.low] ++ w2 (hdLoc p.low))).raise 0x6003 p.part (s.ent i).shalf
        (w2 (s.handleOf i) ++ [l, pidx]))).unobtainable i stCHECK)

/-! ### Pool messages (Table 14-9) -/

/-- GRANT_REQ (R102) while no grant of the extent lives and the device has room to lend: granted for 0x3040.02 ms, and GRANT
answers with status 0. -/
def poolGrants : Prop := ∀ (s : State) (src part : Nat) (hdr : BitVec 256), poolOk hdr 1 = true →
  s.liveGrant src part (bits hdr 247 241) = none → 0 < bits hdr 208 177 →
  s.lentKib + bits hdr 208 177 ≤ s.dval 0x3040 1 * 2 ^ 20 →
  let g : Lent := { borrower := src, part, kib := bits hdr 208 177, leaseEnd := s.nowMs 0 + s.dval 0x3040 2, data := [], bad := [] }
  exec (.poolGrantReq src part hdr) s = .next (({ s with tiers := { s.tiers with
    lent := s.tiers.lent.put (poolKey src (bits hdr 247 241)) g } } : State).poolReply src part 2 (bits hdr 247 241) 0
      (bits hdr 208 177) 0 (s.dval 0x3040 2) [])

/-- GRANT_REQ beyond what the device lends (R102): GRANT with status 1, and nothing is lent. -/
def poolRefuses : Prop := ∀ (s : State) (src part : Nat) (hdr : BitVec 256), poolOk hdr 1 = true →
  s.liveGrant src part (bits hdr 247 241) = none → s.dval 0x3040 1 * 2 ^ 20 < s.lentKib + bits hdr 208 177 →
  exec (.poolGrantReq src part hdr) s = .next (s.poolReply src part 2 (bits hdr 247 241) 0 (bits hdr 208 177) 1 0 [])

/-- GRANT (R102) that answers a request: the extent is borrowed until its lease ends, and its lapse can be reported again. -/
def poolGranted : Prop := ∀ (s : State) (src part : Nat) (hdr : BitVec 256), poolOk hdr 2 = true → bits hdr 176 173 = 0 →
  (s.tiers.poolReqs.any (fun r => r.holder == src && r.ext == bits hdr 247 241 && r.op == 1)) = true →
  s.tiers.borrowed.get? (poolKey src (bits hdr 247 241)) = none →
  let s1 := s.poolAnswered src (bits hdr 247 241) [1, 3] none
  let b : Borrowed := { part, holder := src, ext := bits hdr 247 241, kib := bits hdr 208 177, lapsed := false
                        leaseEnd := s.nowMs 0 + bits hdr 172 141, allocs := [] }
  exec (.poolGrant src part hdr) s = .next (({ s1 with tiers := { s1.tiers with
    borrowed := s1.tiers.borrowed.put (poolKey src (bits hdr 247 241)) b } } : State).unlatch 0x300A
      (4 * 2 ^ 20 + part * 2 ^ 13 + src * 128 + bits hdr 247 241))

/-- RENEW (R102) of a live grant: its lease starts anew, and GRANT answers with it. -/
def poolRenewed : Prop := ∀ (s : State) (src part : Nat) (hdr : BitVec 256) (g : Lent), poolOk hdr 3 = true →
  s.liveGrant src part (bits hdr 247 241) = some g →
  exec (.poolRenew src part hdr) s = .next (({ s with tiers := { s.tiers with
    lent := s.tiers.lent.put (poolKey src (bits hdr 247 241)) { g with leaseEnd := s.nowMs 0 + s.dval 0x3040 2 } } } : State).poolReply
      src part 2 (bits hdr 247 241) 0 g.kib 0 (s.dval 0x3040 2) [])

/-- WRITE (R102) into a live grant, data whole: stored, poison and all, as an object of the half with more free stripes, and acknowledged. -/
def poolWritten : Prop := ∀ (s s1 : State) (src part crc x : Nat) (hdr : BitVec 256) (data : List Byte) (g : Lent),
  let ext := bits hdr 247 241
  let kib := bits hdr 240 209
  let n := bits hdr 208 177
  poolOk hdr 4 = true → data.length = 1024 * n → verify data crc ≠ .failed → s.liveGrant src part ext = some g → 0 < n →
  kib + n ≤ g.kib →
  ((s.t2Drop 0 (.pool src ext kib)).t2Drop 1 (.pool src ext kib)).t2Put (if s.t2Free 1 ≤ s.t2Free 0 then 0 else 1) n
    (.pool src ext kib) = (s1, x) → x ≠ 0 →
  exec (.poolWrite src part hdr data crc) s = .next (({ s1 with tiers := { s1.tiers with
    lent := s1.tiers.lent.put (poolKey src ext) (g.store kib n data (verify data crc == .poisoned)) } } : State).poolReply src part 7 ext kib 0 0 0 [])

/-- WRITE whose data fails its check value is discarded (R136, R306), counted at 0x8220.05. -/
def poolWriteDiscards : Prop := ∀ (s : State) (src part crc : Nat) (hdr : BitVec 256) (data : List Byte),
  verify data crc = .failed → exec (.poolWrite src part hdr data crc) s = .next (s.discard 0x12 0 src 0)

/-- READ (R102) answers DATA with what was stored, or status 4 where that is poisoned or lost (R86); outside the extent it answers status 3, without a grant status 2. -/
def poolReads : Prop := ∀ (s : State) (src part : Nat) (hdr : BitVec 256),
  let ext := bits hdr 247 241
  let kib := bits hdr 240 209
  let n := bits hdr 208 177
  poolOk hdr 5 = true →
  (∀ g, s.liveGrant src part ext = some g → 0 < n → kib + n ≤ g.kib →
    let gone := s.lentLost src ext kib n || g.bad.any (fun x => decide (kib ≤ x) && decide (x < kib + n))
    exec (.poolRead src part hdr) s = .next (if gone then s.poolReply src part 6 ext kib 0 4 0 []
      else s.poolReply src part 6 ext kib n 0 0 (withCrc ((List.range n).flatMap (fun i =>
        (g.data.get? (kib + i)).getD (List.replicate 1024 0#8))) false)))
  ∧ (∀ g, s.liveGrant src part ext = some g → g.kib < kib + n →
    exec (.poolRead src part hdr) s = .next (s.poolReply src part 6 ext kib 0 3 0 []))
  ∧ (s.liveGrant src part ext = none → exec (.poolRead src part hdr) s = .next (s.poolReply src part 6 ext kib 0 2 0 []))

/-- DATA and ACK (R102) with status 0: the request they answer is no longer kept. -/
def poolAnswers : Prop := ∀ (s : State) (src part crc : Nat) (hdr : BitVec 256) (data : List Byte), bits hdr 176 173 = 0 →
  (poolOk hdr 6 = true → data.length = 1024 * bits hdr 208 177 → verify data crc ≠ .failed →
    exec (.poolData src part hdr data crc) s = .next (s.poolAnswered src (bits hdr 247 241) [5] (some (bits hdr 240 209))))
  ∧ (poolOk hdr 7 = true →
    exec (.poolAck src part hdr) s = .next (s.poolAnswered src (bits hdr 247 241) [4, 8] (some (bits hdr 240 209))))

/-- FREE (R102) by the borrower of the extent: it is released with its objects, and acknowledged. -/
def poolFrees : Prop := ∀ (s : State) (src part : Nat) (hdr : BitVec 256) (g : Lent), poolOk hdr 8 = true →
  s.tiers.lent.get? (poolKey src (bits hdr 247 241)) = some g → g.part = part →
  exec (.poolFree src part hdr) s = .next
    ((s.freeLent src (bits hdr 247 241)).poolReply src part 7 (bits hdr 247 241) (bits hdr 240 209) 0 0 0 [])

/-- POOL_RETRY_TIMER (Table 14-9): a request not answered is sent again; past its limit it is dropped and the extent lapses. -/
def poolRetries : Prop := ∀ (s : State) (q : Nat) (r : PoolReq), s.tiers.poolReqs.find? (fun x => x.seq == q) = some r →
  exec (.poolRetryTimer q false) s = .next
    (s.sendMsg r.holder r.part 0x12 7 (leBytes 32 (poolHeader r.op r.ext r.kib r.len 0 0) ++ r.data))
  ∧ exec (.poolRetryTimer q true) s = .next (({ s with tiers := { s.tiers with
      poolReqs := s.tiers.poolReqs.filter (fun x => x.seq != q) } } : State).borrowLapse r.holder r.ext)

/-- POOL_LEASE_RENEWAL (R102) of an extent borrowed and not lapsed: RENEW goes to its holder. -/
def poolRenewal : Prop := ∀ (s : State) (part holder ext : Nat) (b : Borrowed),
  s.tiers.borrowed.get? (poolKey holder ext) = some b → b.lapsed = false → b.part = part →
  exec (.poolLeaseRenewal part holder ext) s = .next (s.poolAsk 3 part holder ext 0 0 none [])

/-- GRANT_REQ and RENEW (R102): a repeated request is answered with the grant that lives and what is left of its lease; RENEW without a
live grant with status 2. -/
def poolAsked : Prop := ∀ (s : State) (src part : Nat) (hdr : BitVec 256),
  (∀ g, poolOk hdr 1 = true → s.liveGrant src part (bits hdr 247 241) = some g → exec (.poolGrantReq src part hdr) s = .next
    (s.poolReply src part 2 (bits hdr 247 241) 0 g.kib 0 (g.leaseEnd - s.nowMs 0) []))
  ∧ (poolOk hdr 3 = true → s.liveGrant src part (bits hdr 247 241) = none → exec (.poolRenew src part hdr) s = .next
    (s.poolReply src part 2 (bits hdr 247 241) 0 0 2 0 []))

/-- GRANT with a status other than 0 (R102): a request for an extent is answered and nothing is borrowed; the refusal of a renewal lapses
the extent. -/
def poolGrantRefused : Prop := ∀ (s : State) (src part : Nat) (hdr : BitVec 256), poolOk hdr 2 = true → bits hdr 176 173 ≠ 0 →
  let asked := s.tiers.poolReqs.any (fun r => r.holder == src && r.ext == bits hdr 247 241 && r.op == 1)
  let s1 := s.poolAnswered src (bits hdr 247 241) [1, 3] none
  (asked = true → exec (.poolGrant src part hdr) s = .next s1)
  ∧ (asked = false → exec (.poolGrant src part hdr) s = .next (s1.borrowLapse src (bits hdr 247 241)))

/-- WRITE (R102) that cannot be stored: ACK with status 2 without a live grant, 3 outside the extent or of no KiB. -/
def poolWriteRefused : Prop := ∀ (s : State) (src part crc : Nat) (hdr : BitVec 256) (data : List Byte),
  let ext := bits hdr 247 241
  let kib := bits hdr 240 209
  let n := bits hdr 208 177
  poolOk hdr 4 = true → data.length = 1024 * n → verify data crc ≠ .failed →
  (s.liveGrant src part ext = none → exec (.poolWrite src part hdr data crc) s = .next (s.poolReply src part 7 ext kib 0 2 0 []))
  ∧ (∀ g, s.liveGrant src part ext = some g → (g.kib < kib + n ∨ n = 0) →
    exec (.poolWrite src part hdr data crc) s = .next (s.poolReply src part 7 ext kib 0 3 0 []))

/-- DATA and ACK with status 2 (R102): the lease is over, and the extent lapses. FREE of another's extent is only acknowledged. -/
def poolLeaseOver : Prop := ∀ (s : State) (src part crc : Nat) (hdr : BitVec 256) (data : List Byte),
  let ext := bits hdr 247 241
  (poolOk hdr 6 = true → bits hdr 176 173 = 2 → exec (.poolData src part hdr data crc) s = .next
    ((s.poolAnswered src ext [5] (some (bits hdr 240 209))).borrowLapse src ext))
  ∧ (poolOk hdr 7 = true → bits hdr 176 173 = 2 → exec (.poolAck src part hdr) s = .next
    ((s.poolAnswered src ext [4, 8] (some (bits hdr 240 209))).borrowLapse src ext))
  ∧ (∀ g, poolOk hdr 8 = true → s.tiers.lent.get? (poolKey src ext) = some g → g.part ≠ part →
    exec (.poolFree src part hdr) s = .next (s.poolReply src part 7 ext (bits hdr 240 209) 0 0 0 []))

/-! ### Ownership (ch 5) -/

/-- Ownership request `op` from a party about entry `hIdx m.handle` is one that this device, its home, answers by Table 5-1: the
payload is good (R136) and answers none of the device's own requests, it names a session of this device's directory under
the partition of the stream, its sender is another endpoint, its record is not frozen (R121), and neither its owner's nor its offer's
lease is over. -/
abbrev HomeAsked (s : State) (op src part : Nat) (hdr : BitVec 256) : Prop :=
  let m := OwnMsg.parse hdr
  let i := hIdx m.handle
  let e := s.ent i
  ownOk hdr op = true ∧ m.op = op ∧ s.answered src m = none ∧ m.result = 0 ∧ m.lease = 0 ∧ m.clm = false ∧ m.drop = false
    ∧ hPart m.handle = part ∧ e.state ≠ .free ∧ e.state ≠ .closed ∧ e.gen = hGen m.handle ∧ e.part = part
    ∧ s.guestOf i = none ∧ s.frozen i = false ∧ s.inHold (idxHalf i) = false ∧ s.nowMs (idxHalf i) < e.olease ∧ m.sender ≠ s.self

/-- The home after its record of entry `i` went from that of `s` to that of `u`: where it served the session itself and `u` names another
owner, it yields (R118). -/
abbrev Settled (s u : State) (i : Nat) : State :=
  if (s.ent i).owner == s.self && (u.ent i).owner != s.self && !s.own.moves.has i then u.homeYields i (u.ent i).owner else u

/-- READ (R120): the home answers with the image of its record, result 0. -/
def ownReads : Prop := ∀ (s : State) (src part : Nat) (hdr : BitVec 256), HomeAsked s 1 src part hdr →
  let m := OwnMsg.parse hdr
  let i := hIdx m.handle
  exec (.ownRead src part hdr) s = .next ((s.sendOwn m.sender part (s.image i 1 0 m.seq)).settleHome i)

/-- RENEW (Table 5-1) by the owner of a record that is not OFFERED, its epoch current: the owner lease starts anew. -/
def ownRenews : Prop := ∀ (s : State) (src part : Nat) (hdr : BitVec 256), HomeAsked s 2 src part hdr →
  let m := OwnMsg.parse hdr
  let i := hIdx m.handle
  (s.ent i).offered = false → m.epoch = (s.ent i).epoch → m.sender = (s.ent i).owner →
  let u := Settled s ((s.updEnt i (fun x => { x with olease := s.nowMs (idxHalf i) + s.ownerLease })).unlapse i) i
  exec (.ownRenew src part hdr) s = .next ((u.sendOwn m.sender part (u.image i 2 0 m.seq)).settleHome i)

/-- OFFER (Table 5-1) by the owner, its epoch current and not above the last that can be offered: the record is OFFERED to the
target under the next epoch and the offer lease. -/
def ownOffers : Prop := ∀ (s : State) (src part : Nat) (hdr : BitVec 256), HomeAsked s 3 src part hdr →
  let m := OwnMsg.parse hdr
  let i := hIdx m.handle
  (s.ent i).offered = false → m.epoch = (s.ent i).epoch → m.sender = (s.ent i).owner → (s.ent i).epoch ≤ 0xFFFFFFFD →
  let u := Settled s ((s.writeRec i (fun x => { x with
    offered := true, target := m.target, thalf := m.thalf, olease := s.nowMs (idxHalf i) + s.offerLease })).unlapse i) i
  exec (.ownOffer src part hdr) s = .next ((u.sendOwn m.sender part (u.image i 3 0 m.seq)).settleHome i)

/-- ACCEPT (Table 5-1) by the target of an OFFERED record, its epoch current: the target is the owner under the next epoch, and
NOTE tells the previous owner and the target. -/
def ownAccepts : Prop := ∀ (s : State) (src part : Nat) (hdr : BitVec 256), HomeAsked s 4 src part hdr →
  let m := OwnMsg.parse hdr
  let i := hIdx m.handle
  let e := s.ent i
  e.offered = true → m.epoch = e.epoch → m.sender = e.target → e.epoch < 0xFFFFFFFF →
  let u := Settled s (((((s.writeRec i (fun x => { x with
    offered := false, owner := e.target, olease := s.nowMs (idxHalf i) + s.ownerLease })).setRecHalf i e.thalf).unlapse i).setRemote i
      e.target m.guestHandle).notes i e.owner e.target) i
  exec (.ownAccept src part hdr) s = .next ((u.sendOwn m.sender part (u.image i 4 0 m.seq)).settleHome i)

/-- RECALL (Table 5-1) by the owner of an OFFERED record: no longer OFFERED, with NOTE to both, event 0x2033 and 0x8310.08. -/
def ownRecalls : Prop := ∀ (s : State) (src part : Nat) (hdr : BitVec 256), HomeAsked s 5 src part hdr →
  let m := OwnMsg.parse hdr
  let i := hIdx m.handle
  let e := s.ent i
  e.offered = true → m.epoch = e.epoch → m.sender = e.owner → e.epoch < 0xFFFFFFFF →
  let u := Settled s (((s.writeRec i (fun x => { x with offered := false })).notes i e.owner e.target).recalled i) i
  exec (.ownRecall src part hdr) s = .next ((u.sendOwn m.sender part (u.image i 5 0 m.seq)).settleHome i)

/-- RELEASE (Table 5-1) by the owner: the record is written, the reply sent, and the session closes at the home. -/
def ownReleases : Prop := ∀ (s : State) (src part : Nat) (hdr : BitVec 256), HomeAsked s 7 src part hdr →
  let m := OwnMsg.parse hdr
  let i := hIdx m.handle
  (s.ent i).offered = false → m.epoch = (s.ent i).epoch → m.sender = (s.ent i).owner → (s.ent i).epoch < 0xFFFFFFFF →
  let u := Settled s ((s.writeRec i id).unlapse i) i
  exec (.ownRelease src part hdr) s = .next ((u.sendOwn m.sender part (u.image i 7 0 m.seq)).closeEntry i false false)

/-- A request whose epoch is not the record's, or that is not from the party Table 5-1 names, gets result 1 and the image, and
the record stays as it is. -/
def ownStale : Prop := ∀ (s : State) (src part : Nat) (hdr : BitVec 256),
  let m := OwnMsg.parse hdr
  let i := hIdx m.handle
  (s.ent i).offered = false → (m.epoch ≠ (s.ent i).epoch ∨ m.sender ≠ (s.ent i).owner) →
  (HomeAsked s 2 src part hdr →
    exec (.ownRenew src part hdr) s = .next ((s.sendOwn m.sender part (s.image i 2 1 m.seq)).settleHome i))
  ∧ (HomeAsked s 3 src part hdr →
    exec (.ownOffer src part hdr) s = .next ((s.sendOwn m.sender part (s.image i 3 1 m.seq)).settleHome i))
  ∧ (HomeAsked s 7 src part hdr →
    exec (.ownRelease src part hdr) s = .next ((s.sendOwn m.sender part (s.image i 7 1 m.seq)).settleHome i))

/-- CLAIM (R131, Table 5-1) on the partition 0 stream of a record that has lapsed, CLM set and the epoch current: the claimant
is the owner under the next epoch, with NOTEs, counted at 0x8310.09. -/
def ownClaims : Prop := ∀ (s : State) (src : Nat) (hdr : BitVec 256),
  let m := OwnMsg.parse hdr
  let i := hIdx m.handle
  let e := s.ent i
  ownOk hdr 6 = true → m.op = 6 → s.answered src m = none → m.result = 0 → m.lease = 0 → m.clm = true → m.drop = false →
  e.state ≠ .free → e.state ≠ .closed → e.gen = hGen m.handle → e.part = hPart m.handle → s.guestOf i = none →
  s.frozen i = false → e.offered = false → s.own.lapsed.contains i = true → m.epoch = e.epoch → e.epoch < 0xFFFFFFFF →
  m.sender ≠ s.self →
  let u := Settled s ((((((s.writeRec i (fun x => { x with
    owner := m.sender, olease := s.nowMs (idxHalf i) + s.ownerLease })).setRecHalf i m.shalf).unlapse i).setRemote i m.sender
      m.guestHandle).notes i e.owner e.target).count 0x8310 9 1) i
  exec (.ownClaim src 0 hdr) s = .next ((u.sendOwn m.sender 0 (u.image i 6 0 m.seq)).settleHome i)

/-- An ownership message that fails its parity, has a set rsvd bit or a reserved code (R136): discarded, counted at 0x8220.05. -/
def ownDiscards : Prop := ∀ (s : State) (src part : Nat) (hdr : BitVec 256) (n : Nat) (i : Instr), ownOk hdr n = false →
  (n, i) ∈ [(1, Instr.ownRead src part hdr), (2, .ownRenew src part hdr), (3, .ownOffer src part hdr), (4, .ownAccept src part hdr),
    (5, .ownRecall src part hdr), (6, .ownClaim src part hdr), (7, .ownRelease src part hdr), (8, .ownNote src part hdr)] →
  exec i s = .next (s.discard 0x10 0 src 0)

/-- NOTE (R118) read by a guest that is named owner no longer: it yields. -/
def ownNoted : Prop := ∀ (s : State) (src part i : Nat) (hdr : BitVec 256) (l : LinkRec),
  let m := OwnMsg.parse hdr
  ownOk hdr 8 = true → s.own.links = [(i, l)] → l.kind = 0 → l.peer = src → l.handle = m.handle → (s.ent i).part = part →
  s.own.moves.get? i = none → s.own.staged.get? i = none → m.owner ≠ s.self → (s.ent i).epoch ≤ m.epoch →
  exec (.ownNote src part hdr) s = .next (s.yields i m.owner)

/-- OWN_LEASE_SCAN (R119) over the one entry of a half, owned by another endpoint whose lease is over: the record lapses, with
event 0x2032, once. -/
def leaseScan : Prop := ∀ (s : State) (i : Nat) (e : DirEntry), s.sess.dir = [(i, e)] → s.guestOf i = none → e.state ≠ .free →
  e.state ≠ .closed → e.owner ≠ s.self → e.offered = false → s.frozen i = false → e.olease ≤ s.nowMs (idxHalf i) →
  (i ∉ s.own.lapsed → exec (.ownLeaseScan (idxHalf i)) s = .next
    (((({ s with own := { s.own with lapsed := i :: s.own.lapsed } } : State).raise 0x2032 e.part (idxHalf i)
      (w2 (s.handleOf i) ++ [e.owner, e.epoch]))).settleHome i))
  ∧ (i ∈ s.own.lapsed → exec (.ownLeaseScan (idxHalf i)) s = .next (s.settleHome i))

/-- OWN_LEASE_SCAN (R119) over the one entry of a half, whose record the home owns: its lease is renewed. -/
def leaseKept : Prop := ∀ (s : State) (i : Nat) (e : DirEntry), s.sess.dir = [(i, e)] → s.guestOf i = none → e.state ≠ .free →
  e.state ≠ .closed → e.owner = s.self → e.offered = false →
  exec (.ownLeaseScan (idxHalf i)) s = .next
    ((s.updEnt i (fun x => { x with olease := s.nowMs (idxHalf i) + s.ownerLease })).settleHome i)

/-- OWN_RENEW_TIMER (R119): a guest owner asks its home by RENEW, an earlier one no longer outstanding. -/
def renewTimer : Prop := ∀ (s : State) (i : Nat) (l : LinkRec), s.guestOf i = some l → s.own.staged.has i = false →
  let s1 : State := { s with own := { s.own with reqs := s.own.reqs.filter (fun r => !(r.idx == i && r.op == 2)) } }
  exec (.ownRenewTimer i) s = .next (s1.ownAsk i l.peer (s1.ent i).part (s1.ownReq i 2) none 0)

/-- OWN_REPLY_TIMEOUT (R122) of a READ: it is sent again with a new sequence, for the command that asked it where there is one, counted at
0x8310.0A; at the eighth timeout event 0x2036. -/
def replyLate : Prop := ∀ (s : State) (i : Nat) (r : OwnReq), s.own.reqs = [r] → r.idx = i → r.waits = false → r.op = 1 →
  let s0 : State := { s with own := { s.own with reqs := [] } }
  let s1 := s0.ownAsk i r.peer (s.ent i).part
    { s0.ownReq i 1 with handle := r.handle, epoch := if r.goal = 0 then (s.ent i).epoch else bitsN r.hdr 127 96 }
    (if r.goal = 0 then none else r.cmd) r.goal
  let s2 := ({ s1 with own := { s1.own with
    reqs := s1.own.reqs.map (fun x => if x.idx = i ∧ x.op = 1 then { x with timeouts := r.timeouts + 1 } else x) } } : State).count 0x8310 0xA 1
  exec (.ownReplyTimeout i) s = .next
    (if r.timeouts + 1 = 8 then s2.raise 0x2036 (s.ent i).part (idxHalf i) (w2 (s.handleOf i) ++ [r.peer]) else s2)

/-- FROZEN_END (R121): no record is frozen any more; nothing else changes. -/
def frozenEnds : Prop := ∀ (s : State), exec .frozenEnd s = .next { s with own := { s.own with frozenUntil := 0 } }

/-- STAGED_HOLD_EXPIRY (R126) of a complete copy whose hold has passed: it yields where a record naming another owner was seen,
else the record is read; before that nothing happens. -/
def stagedHold : Prop := ∀ (s : State) (i : Nat) (x : StagedCopy), s.own.staged.get? i = some x → x.complete = true →
  (s.nowMs (idxHalf i) < x.doneAt + s.dval 0x3100 9 → exec (.stagedHoldExpiry i) s = .next s)
  ∧ (x.doneAt + s.dval 0x3100 9 ≤ s.nowMs (idxHalf i) → x.lapsed = true →
      exec (.stagedHoldExpiry i) s = .next (s.yields i (s.homeRef i).1))
  ∧ (x.doneAt + s.dval 0x3100 9 ≤ s.nowMs (idxHalf i) → x.lapsed = false →
      exec (.stagedHoldExpiry i) s = .next (if s.isHome i = true then s.settleHome i
        else s.ownAsk i (s.homeRef i).1 (s.ent i).part (s.ownReq i 1) none 0))

/-! ### Moves (ch 5) -/

/-- MIGRATE to the other half of an IDLE session that this device is home to (R124, R125): the record is OFFERED to the device
itself, T1 is reserved on the other half, and the session is MOVING. -/
def migrateHalf : Prop := ∀ (s r x : State) (fn sq : Nat) (d : Desc) (p : Nat) (k : Option Nat),
  let i := hIdx (dHnd d)
  let e := s.ent i
  let rq : OwnMsg := { s.ownReq i 3 with target := s.self, thalf := otherHalf e.shalf, offered := true }
  TakenSess s 0x10 fn d true false p → s.maint.st ≠ 1 → s.maint.st ≠ 2 → dFlag d 24 = true → e.state = .idle →
  s.guestOf i = none → s.homeDoes i s.self e.part rq = (r, 0) → r.reserveHalf i (otherHalf e.shalf) = .ok (x, k) →
  exec (.migrate fn sq d) s = .next (x.enterMoving i
    { cmd := s.cmdOf fn sq d false, half := true, target := otherHalf e.shalf, before := .idle
      ttlLeft := if e.ton then e.expires - s.nowMs (idxHalf i) else 1000 * e.ttl
      offerEpoch := e.epoch + 1, offered := true, fails := [], guest := 0, started := true, after := dFlag d 25, reason := 0, slot := k })

/-- MIGRATE to an endpoint that is no session peer (R123): BAD_DESCRIPTOR with detail RANGE. -/
def migrateRange : Prop := ∀ (s : State) (fn sq : Nat) (d : Desc) (p : Nat), Taken s 0x10 fn d p → dFlag d 24 = false →
  s.epKind (dFld d 133 128) ≠ 1 → exec (.migrate fn sq d) s = .next (s.refuse (s.cmdOf fn sq d false) stBAD dRANGE)

/-- MIGRATE (R123, R124, R132) to another session peer, or to the other half: of an IDLE or PARKED session the move starts; of a LIVE one with AFTER it
waits for the request's end; of a LIVE one with a move already, and of a session in any other state, BUSY. -/
def migrateOthers : Prop := ∀ (s : State) (fn sq : Nat) (d : Desc) (p : Nat),
  let i := hIdx (dHnd d)
  let e := s.ent i
  let m : MoveRun :=
    { cmd := s.cmdOf fn sq d false, half := dFlag d 24, target := dFld d 133 128, before := e.state, ttlLeft := 0, offerEpoch := 0
      offered := false, fails := [], guest := 0, started := false, after := dFlag d 25, reason := 0, slot := none }
  TakenSess s 0x10 fn d true false p → s.maint.st ≠ 1 → s.maint.st ≠ 2 →
  (dFlag d 24 = true ∨ (dFld d 133 128 ≠ s.self ∧ s.epKind (dFld d 133 128) = 1)) →
  (e.state = .idle ∨ e.state = .parked → exec (.migrate fn sq d) s = .next (s.startMove i m))
  ∧ (e.state = .live → s.own.moves.has i = false → dFlag d 25 = true →
    exec (.migrate fn sq d) s = .next { s with own := { s.own with moves := s.own.moves.put i m } })
  ∧ ((e.state = .live ∧ s.own.moves.has i = true) ∨ e.state = .developing ∨ e.state = .moving →
    exec (.migrate fn sq d) s = .next (s.busy (s.cmdOf fn sq d false)))

/-- MOVE_ENDS (R127) of a half move whose record is at home: the owner's own half accepts, and what the record then says is
done. -/
def moveEnds : Prop := ∀ (s : State) (i : Nat) (hdr : BitVec 256) (r : MoveRun), s.own.moves.get? i = some r → r.half = true →
  r.offered = true → s.boot.bridge = false → s.inHold (idxHalf i) = false → s.inHold r.target = false → s.guestOf i = none →
  exec (.moveEnds i hdr) s = .next
    ((s.homeDoes i s.self (s.ent i).part { s.ownReq i 4 with epoch := r.offerEpoch }).1.settleHome i)

/-- RECALL (R122, R132) of a session with no MIGRATE: OK with aux 0. Of one whose MIGRATE still waits: the MIGRATE completes
CANCELLED, then RECALL OK. -/
def recalls : Prop := ∀ (s : State) (fn sq : Nat) (d : Desc) (p : Nat),
  let i := hIdx (dHnd d)
  let c := s.cmdOf fn sq d false
  TakenSess s 0x11 fn d true false p → (s.ent i).state ≠ .expired →
  (s.own.moves.get? i = none → exec (.recall fn sq d) s = .next (s.doneSess c i stOK 0 0))
  ∧ (∀ r, s.own.moves.get? i = some r → r.started = false → exec (.recall fn sq d) s = .next
      ((({ s with own := { s.own with moves := s.own.moves.del i } } : State).doneSess r.cmd i stCANCELLED 0 0).doneSess c i stOK 0 0))

/-- CLAIM with DROP (R131) of a lapsed record at its home, the epoch current: written as the home's own, noted, counted at
0x8310.09, and the session closes. From another partition than 0 it is DENIED. -/
def claims : Prop := ∀ (s : State) (fn sq : Nat) (d : Desc) (p : Nat),
  let i := hIdx (dHnd d)
  let e := s.ent i
  let c := s.cmdOf fn sq d false
  TakenSess s 0x12 fn d true (dFlag d 24) p →
  (p = 0 → dFlag d 24 = true → e.state ≠ .expired → dFld d 165 160 = s.self → s.guestOf i = none → s.frozen i = false →
    e.offered = false → s.own.lapsed.contains i = true → dFld d 159 128 = e.epoch → e.epoch < 0xFFFFFFFF →
    let s1 := s.writeRec i (fun x => { x with owner := s.self })
    exec (.claim fn sq d) s = .next
      (((((s1.notes i e.owner e.target).unlapse i).count 0x8310 9 1).doneSess c i stOK 0 (s1.ent i).epoch).closeEntry i false false))
  ∧ (p ≠ 0 → exec (.claim fn sq d) s = .next ((s.count 0x8700 3 1).refuse c stDENIED 0))

/-- CLAIM without DROP (R131, R118) by partition 0: a guest that holds the complete state asks the home named for the record first; the home of a session
whose state is there claims its own record; one that does not hold the complete state is refused. -/
def claimOthers : Prop := ∀ (s : State) (fn sq : Nat) (d : Desc),
  let i := hIdx (dHnd d)
  let c := s.cmdOf fn sq d false
  TakenSess s 0x12 fn d true false 0 → dFlag d 24 = false → (s.ent i).state ≠ .expired →
  (∀ l, s.guestOf i = some l → (∀ x, s.own.staged.get? i = some x → x.complete = true) → exec (.claim fn sq d) s = .next
    (s.ownAsk i (dFld d 165 160) (s.ent i).part { s.ownReq i 1 with epoch := dFld d 159 128 } (some c) 2))
  ∧ (s.guestOf i = none → s.own.staged.get? i = none → (s.ent i).owner = s.self → dFld d 165 160 = s.self →
    exec (.claim fn sq d) s = .next (s.claimHome c i (dFld d 159 128)))
  ∧ (∀ x, s.own.staged.get? i = some x → x.complete = false → exec (.claim fn sq d) s = .next (s.refuse c stBAD dRANGE))

/-- WHERE (R128, Table 5-5): only its completion: aux carries OFFERED in bit 7, the serving half in 6 and the owner below; the
handle is the one at the owner. -/
def whereReads : Prop := ∀ (s : State) (fn sq : Nat) (d : Desc) (p : Nat),
  let i := hIdx (dHnd d)
  let e := s.ent i
  let c := s.cmdOf fn sq d false
  TakenSess s 0x13 fn d true true p → e.state ≠ .expired →
  let h := if e.owner = s.self then s.handleOf i else ((s.own.links.get? i).map (·.handle)).getD 0
  exec (.whereCmd fn sq d) s = .next (s.send c { s.sessComp c i stOK 0 (b2n e.offered * 128 + e.shalf * 64 + e.owner) with handle := h })

/-- DISCARD (R118, R126, R132) from partition 0 of a staged copy: a guest reads the record first; at the home whose own record names it owner, BUSY. Of an
entry without a staged copy BUSY. -/
def discards : Prop := ∀ (s : State) (fn sq : Nat) (d : Desc),
  let i := hIdx (dHnd d)
  let c := s.cmdOf fn sq d false
  TakenSess s 0x14 fn d true false 0 → (s.ent i).state ≠ .expired →
  (s.own.staged.has i = true → s.guestOf i = none → (s.ent i).owner = s.self →
    exec (.discard fn sq d) s = .next ((s.recordSays i (s.image i 1 0 0) false).busy c))
  ∧ (∀ l, s.own.staged.has i = true → s.guestOf i = some l → exec (.discard fn sq d) s = .next
      (s.ownAsk i l.peer (s.ent i).part (s.ownReq i 1) (some c) 1))
  ∧ (s.own.staged.has i = false → exec (.discard fn sq d) s = .next (s.busy c))

/-- MOVE FIELDS (R126) of a session that a loaded profile, a FREE entry and, where a request is attached, a slot can take, and whose home is
elsewhere: the entry is made a guest in MOVING, its space is reserved, and GUEST answers with its handle. -/
def moveFieldsStages : Prop := ∀ (s : State) (src part crc i k : Nat) (hdr : BitVec 256) (data : List Byte) (pr : Profile),
  let h := bits hdr 255 192
  let e := DirEntry.ofWord (leAt data 0 64)
  let hf := s.homeFor 2
  let kib := arrivalKib pr e.count
  moveOk hdr 1 = true → data.length = 72 → verify data crc ≠ .failed → entryWordOk (leAt data 0 64) = true → hPart h = part →
  (s.own.staged.find? (fun x => x.2.source == src && x.2.srcHandle == h)) = none → s.homeTarget src h = none →
  s.profs.get? e.profile = some pr → s.freeIndex hf = some i → s.noRoom part hf kib = none →
  (if e.sv then s.takeSlot part hf else .ok 0) = .ok k →
  let e1 : DirEntry := { DirEntry.blank (s.ent i).gen s.self with
    state := .moving, part, profile := e.profile, count := e.count, tail := e.tail, tv := e.tv, ttl := e.ttl, shalf := hf
    reslayers := e.reslayers, epoch := e.epoch, lx := (s.ent i).lx, sv := e.sv, slot := k }
  let x : StagedCopy :=
    { source := src, srcHandle := h, offerEpoch := e.epoch, ttlLeft := leAt data 64 8, before := e.state
      expect := pr.layers * cdiv e.count 16, got := 0, complete := false, doneAt := 0, lapsed := false, asks := [], old := none }
  let s1 := (s.setEnt i e1).newTable i pr.layers
  let s2 : State := { s1 with
    own := { s1.own with links := s1.own.links.put i { kind := 0, peer := src, handle := h }, staged := s1.own.staged.put i x }
    pages := { s1.pages with resv := s1.pages.resv.put i (hf, kib - 2 * cdiv pr.layers 128) } }
  exec (.moveFields src part hdr data crc) s = .next
    ((s2.sendMove src part (moveHeader h (s2.handleOf i) 5 0 0 0 0 0) []).stagedDone i)

/-- MOVE OBJECT (R126): an object of a copy still incomplete that fails its check value is asked for again by RESEND, three times in all; one
that verifies is placed. -/
def moveObjects : Prop := ∀ (s : State) (src part crc : Nat) (hdr : BitVec 256) (data : List Byte) (x : StagedCopy) (pr : Profile),
  let i := hIdx (bits hdr 191 128)
  let l := bits hdr 119 112
  let q := bits hdr 111 92
  let cnt := (s.ent i).count
  let asked := x.asks.getD (2 ^ 20 * l + q) 0
  moveOk hdr 2 = true → (bits hdr 91 90 = 1 ∨ bits hdr 91 90 = 2) → s.own.staged.get? i = some x → s.profOf i = some pr →
  s.names i (bits hdr 191 128) part = true → x.source = src → x.complete = false → l < pr.layers → q < cdiv cnt 16 →
  s.pidAt i l q = none →
  (verify data crc = .failed → asked < 3 → exec (.moveObject src part hdr data crc) s = .next
    (({ s with own := { s.own with staged := s.own.staged.put i { x with asks := x.asks.put (2 ^ 20 * l + q) (asked + 1) } } } : State).sendMove
      src part (moveHeader x.srcHandle (s.handleOf i) 3 l q 0 0 0) []))
  ∧ (verify data crc = .failed → 3 ≤ asked → exec (.moveObject src part hdr data crc) s = .next s)
  ∧ (∀ (p : Page) (s1 : State), verify data crc ≠ .failed →
      objectPage pr (s.ent i) data l q (bits hdr 91 90) (if q + 1 = cdiv cnt 16 ∧ cnt % 16 ≠ 0 then cnt % 16 else 16) = some p →
      s.stagePage i l q p data = some s1 →
      exec (.moveObject src part hdr data crc) s = .next
        (({ s1 with own := { s1.own with staged := s1.own.staged.put i { x with got := x.got + 1 } } } : State).stagedDone i))

/-- A MOVE message answers the move of entry `i` to `src`: its header is good, it names the session, and the offer stands. -/
abbrev MoveAsked (s : State) (op src part : Nat) (hdr : BitVec 256) (r : MoveRun) : Prop :=
  moveOk hdr op = true ∧ s.own.moves.get? (hIdx (bits hdr 255 192)) = some r
    ∧ s.names (hIdx (bits hdr 255 192)) (bits hdr 255 192) part = true ∧ r.half = false ∧ r.target = src ∧ r.offered = true

/-- MOVE RESEND (R126): the object is sent again; the third for one object, which tells of its third failure, withdraws the offer, and
MIGRATE will complete CHECK_VALUE (which RESEND is the third failure is read as log 37 says). -/
def moveResends : Prop := ∀ (s : State) (src part : Nat) (hdr : BitVec 256) (r : MoveRun), MoveAsked s 3 src part hdr r →
  let i := hIdx (bits hdr 255 192)
  let k := 2 ^ 20 * bits hdr 119 112 + bits hdr 111 92
  let r1 : MoveRun := { r with fails := r.fails.put k (r.fails.getD k 0 + 1) }
  (r.fails.getD k 0 < 2 → exec (.moveResend src part hdr) s = .next
    (({ s with own := { s.own with moves := s.own.moves.put i r1 } } : State).sendObject i r1 (bits hdr 119 112) (bits hdr 111 92)))
  ∧ (2 ≤ r.fails.getD k 0 → exec (.moveResend src part hdr) s = .next (s.withdrawOffer i stCHECK none))

/-- MOVE REFUSE (R126): the offer is withdrawn, and MIGRATE will complete NO_SPACE. -/
def moveRefused : Prop := ∀ (s : State) (src part : Nat) (hdr : BitVec 256) (r : MoveRun), MoveAsked s 4 src part hdr r →
  exec (.moveRefuse src part hdr) s = .next (s.withdrawOffer (hIdx (bits hdr 255 192)) stNOSPACE none)

/-- MOVE GUEST (R126), the first: the guest handle is kept, and every object of the session is sent. -/
def moveGuests : Prop := ∀ (s : State) (src part : Nat) (hdr : BitVec 256) (r : MoveRun), MoveAsked s 5 src part hdr r → r.guest = 0 →
  let i := hIdx (bits hdr 255 192)
  let r1 : MoveRun := { r with guest := bits hdr 191 128 }
  let s1 : State := { s with own := { s.own with moves := s.own.moves.put i r1 } }
  exec (.moveGuest src part hdr) s = .next ((s1.refsOf i).foldl (fun t x => t.sendObject i r1 x.1 x.2.1) s1)

/-- MOVE RELAY (R129) of a completion, next in order: posted on the CQ of the SUBMIT that the source took, and acknowledged; a
repeat is only acknowledged. -/
def moveRelays : Prop := ∀ (s : State) (src part crc ring : Nat) (hdr : BitVec 256) (data : List Byte) (c : Cmd),
  let h := bits hdr 255 192
  let q := bits hdr 85 54
  moveOk hdr 6 = true → verify data crc ≠ .failed → relayOk data = true → data.length = 32 → s.own.fwd.get? h = some (c, ring) →
  hPart h = part →
  (q = s.own.taken.getD h 0 + 1 → exec (.moveRelay src part hdr data crc) s = .next
    ((({ s with own := { s.own with taken := s.own.taken.put h q } } : State).send c (Completion.ofWord (leNat data))).sendMove src
      part (moveHeader h (bits hdr 191 128) 7 0 0 0 0 q) []))
  ∧ (q ≤ s.own.taken.getD h 0 → exec (.moveRelay src part hdr data crc) s = .next
    (s.sendMove src part (moveHeader h (bits hdr 191 128) 7 0 0 0 0 q) []))

/-- MOVE RELAY_ACK (R129): the record is not sent again. RELAY_RESEND_TIMER: one not acknowledged is. -/
def relayAcked : Prop := ∀ (s : State) (src part : Nat) (hdr : BitVec 256),
  (moveOk hdr 7 = true → exec (.moveRelayAck src part hdr) s = .next { s with own := { s.own with
    relays := s.own.relays.filter (fun r => !(r.peer == src && r.guest == bits hdr 191 128 && r.seq == bits hdr 85 54)) } })
  ∧ (∀ (h q : Nat) (r : Relay), s.own.relays.find? (fun r => r.peer == src && r.handle == h && r.seq == q) = some r →
    exec (.relayResendTimer src h q) s = .next
      (s.sendMove r.peer r.part (moveHeader r.handle r.guest 6 0 0 0 0 r.seq) r.body.bytes))

/-- A MOVE message with a bad header (R136): discarded, counted at 0x8220.05. -/
def moveDiscards : Prop := ∀ (s : State) (src part crc : Nat) (hdr : BitVec 256) (data : List Byte) (n : Nat) (i : Instr),
  moveOk hdr n = false →
  (n, i) ∈ [(1, Instr.moveFields src part hdr data crc), (2, .moveObject src part hdr data crc), (3, .moveResend src part hdr),
    (4, .moveRefuse src part hdr), (5, .moveGuest src part hdr), (6, .moveRelay src part hdr data crc), (7, .moveRelayAck src part hdr)] →
  exec i s = .next (s.discard 0x11 0 src 0)

/-! ### Rounds and steps (ch 6) -/

/-- LANE_ENABLE_WRITE (R134): a lane with a peer mask and a loaded profile is enabled; one is disabled, its step in flight
running to its commit; an enable without either is refused, and nothing changes. -/
def laneWrites : Prop := ∀ (s : State) (o : Origin) (n : Nat) (v : List Byte), n < 8 →
  (Writable s o (0x2210 + n) 1 v → leNat v = 1 → s.laneF n 1 ≠ 1 → s.laneF n 3 ≠ 0 → (s.laneProf n).isSome = true →
    exec (.laneEnableWrite o n v) s = .next (((s.dset (0x2210 + n) 1 v).startLane n).answerW o (0x2210 + n) 1 v.length stOK 0))
  ∧ (Writable s o (0x2210 + n) 1 v → leNat v ≠ 1 → s.laneF n 1 ≠ 0 →
    exec (.laneEnableWrite o n v) s = .next (((s.dset (0x2210 + n) 1 v).stopLane n).answerW o (0x2210 + n) 1 v.length stOK 0))
  ∧ (Checked s o (0x2210 + n) 1 v → leNat v = 1 → s.laneF n 1 ≠ 1 → (s.laneF n 3 = 0 ∨ s.laneProf n = none) →
    exec (.laneEnableWrite o n v) s = .next (s.answerW o (0x2210 + n) 1 v.length wRefused.1 wRefused.2))

/-- An open of half `h` from `src` gets to R137: its header is whole, its sender in the lane's mask, it repeats none, and no bath
holds it. -/
abbrev OpenTaken (s : State) (h src n : Nat) (hdr : BitVec 256) : Prop :=
  openOk hdr = true ∧ bitsN hdr.toNat 181 179 = n ∧ s.inMask n src = true ∧ s.repeatedOpen h hdr.toNat = false
    ∧ (s.unlatch 0x2046 (256 * n + 1)).bathHolds h hdr.toNat = false

/-- ROUND_OPEN of layer 0 (R137, R139) on an enabled lane with its profile, no step in flight, nothing holding the lanes, and a
seq above the last: a step is admitted. -/
def openFirst : Prop := ∀ (s : State) (h src n t : Nat) (hdr : BitVec 256), h < 2 →
  let x := hdr.toNat
  let s1 := (s.at t).unlatch 0x2046 (256 * n + 1)
  OpenTaken (s.at t) h src n hdr → s1.laneF n 1 = 1 → bitsN x 178 173 = s1.laneF n 2 → bitsN x 183 182 = 0 → bitsN x 191 184 = 0 →
  s1.stepOf h n = none → s1.lanesHeld h = false → (∀ y, (s1.laneH h n).last = some y → y < bitsN x 255 192) →
  exec (.roundOpen h src hdr t) s = .next (s1.admitStep h n src t (bitsN x 255 192) (bitsN x 172 159) (bitsN x 158 135))

/-- ROUND_OPEN of the next layer of the step in flight (R137, R140), the round before it closed: the round begins. -/
def openNext : Prop := ∀ (s : State) (h src n t : Nat) (hdr : BitVec 256) (st : Step), h < 2 →
  let x := hdr.toNat
  let s1 := (s.at t).unlatch 0x2046 (256 * n + 1)
  OpenTaken (s.at t) h src n hdr → s1.laneF n 1 = 1 → bitsN x 178 173 = s1.laneF n 2 → bitsN x 183 182 = 0 →
  (s1.laneH h n).step = some st → bitsN x 255 192 = st.seq → bitsN x 191 184 = st.layer + 1 → st.layer + 1 < s1.laneLayers n →
  st.selPhase = false → st.roundOpen = false → (s1.laneH h n).held = none → s1.roundHeld n = false →
  exec (.roundOpen h src hdr t) s = .next (s1.startRound h n src t (st.layer + 1) false)

/-- ROUND_OPEN of the next layer while the round before it is still open (R137): held, and nothing else changes. -/
def openHeld : Prop := ∀ (s : State) (h src n t : Nat) (hdr : BitVec 256) (st : Step), h < 2 →
  let x := hdr.toNat
  let s1 := (s.at t).unlatch 0x2046 (256 * n + 1)
  OpenTaken (s.at t) h src n hdr → s1.laneF n 1 = 1 → bitsN x 178 173 = s1.laneF n 2 → bitsN x 183 182 = 0 →
  (s1.laneH h n).step = some st → bitsN x 255 192 = st.seq → bitsN x 191 184 = st.layer + 1 → st.layer + 1 < s1.laneLayers n →
  st.selPhase = false → st.roundOpen = true → (s1.laneH h n).held = none →
  exec (.roundOpen h src hdr t) s = .next (s1.setLane h n { s1.laneH h n with held := some { half := h, lane := n, src, hdr := x } })

/-- ROUND_OPEN whose profile is not the lane's (R137): refused with code 3. -/
def openRefused : Prop := ∀ (s : State) (h src n t : Nat) (hdr : BitVec 256), h < 2 →
  let x := hdr.toNat
  let s1 := (s.at t).unlatch 0x2046 (256 * n + 1)
  OpenTaken (s.at t) h src n hdr → s1.laneF n 1 = 1 → bitsN x 178 173 ≠ s1.laneF n 2 →
  exec (.roundOpen h src hdr t) s = .next (s1.refuseOpen h n (bitsN x 255 192) (bitsN x 191 184) (bitsN x 183 182) 3)

/-- ROUND_OPEN that fails its parity or has a set rsvd bit (R136): discarded, and ROUND_CLOSE with code 5 to the mask, but
nothing on a lane that a Stop bath holds at rest (R148; which messages that covers is read as log 27 says). -/
def openBad : Prop := ∀ (s : State) (h src t : Nat) (hdr : BitVec 256), h < 2 → openOk hdr = false →
  let x := hdr.toNat
  let n := bitsN x 181 179
  let d := (s.at t).discard 1 n src h
  exec (.roundOpen h src hdr t) s = .next (if d.laneRests h n then d
    else d.sendClose h n (bitsN x 255 192) (bitsN x 191 184) (bitsN x 183 182) 0 0 5)

/-- ROUND_OPEN of kind 0b10 (R138) with the seq of the step in flight: the half commits the step at once, abandoned. -/
def openAbandons : Prop := ∀ (s : State) (h src n t : Nat) (hdr : BitVec 256) (st : Step), h < 2 →
  let x := hdr.toNat
  let s1 := (s.at t).unlatch 0x2046 (256 * n + 1)
  OpenTaken (s.at t) h src n hdr → s1.laneF n 1 = 1 → bitsN x 178 173 = s1.laneF n 2 → bitsN x 183 182 = 2 →
  (s1.laneH h n).step = some st → bitsN x 255 192 = st.seq →
  exec (.roundOpenAbandon h src hdr t) s = .next (s1.commitStep h n true)

/-- A QKV of slot `k` on its own half is one its request waits for (R136, R140). -/
abbrev QkvTaken (s : State) (h src n k : Nat) (hdr : BitVec 128) (st : Step) (r : InReq) (p : Profile) : Prop :=
  let x := hdr.toNat
  bitsN x 55 42 = k ∧ s.stepOf h n = some st ∧ s.laneProf n = some p ∧ st.req k = some r ∧ parOk x 2 1 0 = true ∧ bitsN x 28 2 = 0
    ∧ s.inMask n src = true ∧ bitsN x 127 64 = st.seq ∧ st.roundOpen = true ∧ st.selPhase = false ∧ bitsN x 63 56 = st.layer
    ∧ bitsN x 41 30 = r.ntok ∧ r.mark = .data ∧ r.arrived = false

/-- QKV (R58, R140, R143) with good finite data on a link of the serving half: its rows are stored in both copies, its query kept,
and its splits placed in their order. -/
def qkvStores : Prop := ∀ (s : State) (link src n t crc : Nat) (hdr : BitVec 128) (data : List Byte) (st : Step) (r : InReq) (p : Profile),
  let x := hdr.toNat
  let k := bitsN x 55 42
  let h := k / 8192
  let s0 := s.at t
  let z := p.qkvBytes r.ntok
  let qb := data.take z.1
  let kb := slice data z.1 z.2.1
  let vb := slice data (z.1 + z.2.1) z.2.2
  link < 96 → n < 8 → linkHalf link = h → QkvTaken s0 h src n k hdr st r p → bitN x 29 = false →
  data.length = z.1 + z.2.1 + z.2.2 → verify data crc = .good → allFinite p.qfmt qb = true → allFinite p.kvin kb = true →
  allFinite p.kvin vb = true →
  let s1 := (((s0.unlatch 0x2046 (256 * n + 3)).updStep h n (fun a => a.upd k (fun y => { y with arrived := true, sender := src }))).unlatch
    0x2050 (8 * h + n)).storeRows h n r p (bitsN x 63 56) kb vb
  exec (.qkv link src n hdr data crc t) s = .next
    (((s1.updStep h n (fun a => a.upd k (fun y => { y with q := qb }))).placeSplits h n t r p (bitsN x 63 56)).restTimer h n)

/-- QKV with DROP (R140, R141): its request drops out of the step. -/
def qkvDrops : Prop := ∀ (s : State) (link src n t crc : Nat) (hdr : BitVec 128) (st : Step) (r : InReq) (p : Profile),
  let x := hdr.toNat
  let k := bitsN x 55 42
  let h := k / 8192
  let s0 := s.at t
  link < 96 → n < 8 → linkHalf link = h → QkvTaken s0 h src n k hdr st r p → bitN x 29 = true →
  let s1 := (s0.unlatch 0x2046 (256 * n + 3)).updStep h n (fun a => a.upd k (fun y => { y with arrived := true, sender := src }))
  exec (.qkv link src n hdr [] crc t) s = .next (((s1.dropOut h n k).restTimer h n).advanceRound h n t)

/-- ROUND_TIMER_EXPIRY (R141): with a round open every request that still owes its message drops out; between rounds the step is
abandoned, with event 0x2044; while the timer does not run, or a Stop bath holds the lane's next open (R148), nothing happens. -/
def roundExpires : Prop := ∀ (s : State) (h n t : Nat) (st : Step), h < 2 → n < 8 →
  let s0 := s.at t
  let l := s0.laneH h n
  l.step = some st →
  (l.timer = true → s0.timerHeld h n = false → st.roundOpen = true → exec (.roundTimerExpiry h n t) s = .next
    (((st.reqs.filter (s0.owes st)).foldl (fun u r => u.dropOut h n r.slot) (s0.setLane h n { l with timer := false })).advanceRound h n t))
  ∧ (l.timer = true → s0.timerHeld h n = false → st.roundOpen = false → exec (.roundTimerExpiry h n t) s = .next
    ((s0.commitStep h n true).raise 0x2044 0 h ([n, h] ++ w2 st.seq)))
  ∧ (l.timer = false ∨ s0.timerHeld h n = true → exec (.roundTimerExpiry h n t) s = .next s0)

/-- SPLIT_FINISH (R145, R166, R263) of a split its request still waits for, its rows read and its checks met: counted at
0x8230.01, its partials are kept, and the core takes its next work. -/
def splitGood : Prop := ∀ (s s1 : State) (c t h n k layer j : Nat) (st : Step) (r : InReq) (p : Profile) (v : Nat × Nat),
  let s0 := s.at t
  let w : SplitWork := { idx := r.idx, layer, j, pos := r.pos, ntok := r.ntok }
  c < 256 → (s0.core c).run = some (.split h n k layer j) → s0.stepOf h n = some st → s0.laneProf n = some p → st.req k = some r →
  r.mark = .data → st.layer = layer → r.splits.get? j = some (.running c) → s0.readSplit p w = (s1, none) →
  let s2 := (s1.oddCodes p w).count 0x8230 1 1
  let runs := s2.runSplit p w r.q 0
  s2.judge p w runs 0 = (v.1, v.2, 0) →
  exec (.splitFinish c t 0) s = .next
    ((((s2.countRun runs (v.1, v.2, 0)).setSplit h n k j (.done (runs.map (·.part)))).finishRequest h n k t).nextWork c t)

/-- SPLIT_FINISH of a core that runs no split changes nothing but the time. -/
def splitNone : Prop := ∀ (s : State) (c t x : Nat), c < 256 → ((s.at t).core c).run = none → exec (.splitFinish c t x) s = .next (s.at t)

/-- SELECT (R203) with the first of several good shards of a request of the selection phase: the shard is kept until the rest are
there. -/
def selectKeeps : Prop := ∀ (s : State) (link src n crc : Nat) (hdr : BitVec 192) (data : List Byte) (st : Step) (r : InReq) (p : Profile),
  let x := hdr.toNat
  let k := bitsN x 127 114
  let h := k / 8192
  let full := bitN x 105
  let m := bitsN x 83 63
  let a := shardOf full (bitsN x 104 84) m data
  link < 96 → n < 8 → linkHalf link = h → s.stepOf h n = some st → s.laneProf n = some p → st.req k = some r →
  parOk x 3 2 0 = true → bitsN x 62 3 = 0 → s.inMask n src = true → data.length = (if full then 4 * m else 8 + 8 * m) →
  verify data crc = .good → bitsN x 191 128 = st.seq → st.selPhase = true → r.sel = true → r.mark = .data → r.dead = false →
  r.token = none → 0 < m → (full = true → bitsN x 104 84 + m ≤ p.vocab) → s.sess.selIn.get? k = none → bitsN x 113 110 ≤ bitsN x 109 106 → 0 < bitsN x 109 106 → a.bad full p.vocab = false →
  exec (.select link src n hdr data crc) s = .next ((s.unlatch 0x2046 (256 * n + 7)).putSel k
    { full, nshard := bitsN x 109 106, shards := [(bitsN x 113 110, a)], senders := [src], trip := false, complete := false
      list := [], rho := 0 })

/-- HOST_ASSIST_WAIT_EXPIRY (R146) once the only request not fixed waits for the host: it is deferred, and the
round closes where that was the last outcome. -/
def assistLate : Prop := ∀ (s : State) (h n : Nat) (st : Step) (r : InReq), h < 2 → n < 8 → s.stepOf h n = some st →
  st.reqs.filter (fun a => !st.fixed (s.laneLayers n) a) = [r] →
  (s.sess.exs.any (fun x => x.slot == r.slot && (x.func == 3 || x.func == 4))) = true →
  exec (.hostAssistWaitExpiry h n) s = .next ((s.fixMark h n r.slot .deferred).settleRound h n)

/-- STEP_COMMIT (R147): once every outcome is fixed the half commits its step; before, and while a round-level bath holds it (R148), only
time passes. -/
def stepCommits : Prop := ∀ (s : State) (h n t : Nat), h < 2 → n < 8 →
  ((s.at t).stepReady h n = true → (s.at t).roundHeld n = false →
    exec (.stepCommit h n t) s = .next ((s.at t).commitStep h n false))
  ∧ ((s.at t).stepReady h n = false ∨ (s.at t).roundHeld n = true → exec (.stepCommit h n t) s = .next (s.at t))

/-- The Stop bath (R148, R149): a write of level 1 or 2 to 0x2200.03 with lanes named starts it; of the level it has not, changes
it; of 0 ends it. -/
def bathWrites : Prop := ∀ (s : State) (o : Origin) (v : List Byte),
  let b := s.sched.bath
  let s1 := s.dset 0x2200 3 v
  Writable s o 0x2200 3 v → s.dval 0x2200 4 ≠ 0 → b.ckpt = false → s.maint.st ≠ 1 → s.maint.st ≠ 2 →
  (b.level = 0 → (leNat v = 1 ∨ leNat v = 2) →
    exec (.stopBathStart o v) s = .next ((s1.setBath (leNat v) (s.dval 0x2200 4) false).answerW o 0x2200 3 v.length stOK 0))
  ∧ (b.level = 1 → leNat v = 2 → exec (.stopBathLevelChange o v) s = .next (s1.bathToStep.answerW o 0x2200 3 v.length stOK 0))
  ∧ (b.level = 2 → leNat v = 1 → exec (.stopBathLevelChange o v) s = .next (({ s1 with sched := { s1.sched with bath := { s1.sched.bath with
      level := 1, quiet := false } } } : State).answerW o 0x2200 3 v.length stOK 0))
  ∧ (b.level ≠ 0 → leNat v = 0 → exec (.stopBathEnd o v) s = .next (s1.endBath.answerW o 0x2200 3 v.length stOK 0))

/-- A write to 0x2200.03 while no lane is named, or while a checkpoint holds the bath (R148, R283): refused, and nothing changes. -/
def bathRefused : Prop := ∀ (s : State) (o : Origin) (v : List Byte), Checked s o 0x2200 3 v →
  (s.dval 0x2200 4 = 0 ∨ s.sched.bath.ckpt = true) →
  exec (.stopBathStart o v) s = .next (s.answerW o 0x2200 3 v.length wRefused.1 wRefused.2)

/-- STOP_BATH_LATE (R148) while the bath is not quiet: event 0x2042 with its lanes and level; else nothing. -/
def bathLate : Prop := ∀ (s : State),
  (s.sched.bath.level ≠ 0 → s.sched.bath.quiet = false →
    exec .stopBathLate s = .next (s.raise 0x2042 0 0 [s.sched.bath.mask, s.sched.bath.level]))
  ∧ (s.sched.bath.quiet = true → exec .stopBathLate s = .next s)

/-- CORE_SET_WRITE (R151): in force for splits placed afterwards, free cores look for work under it, and an empty set
is told anew; in confidential mode one
that lets two partitions share a core is refused (R366). -/
def coreSets : Prop := ∀ (s : State) (o : Origin) (p sub : Nat) (v : List Byte), p < 64 →
  let s1 := s.dset (0x2240 + p) sub v
  (Writable s o (0x2240 + p) sub v → (s1.confidential && s1.coresShared) = false → exec (.coreSetWrite o p sub v) s = .next
    (((s1.coreSetsTold.kick 0 s.ns).kick 1 s.ns).answerW o (0x2240 + p) sub v.length stOK 0))
  ∧ (Checked s o (0x2240 + p) sub v → (s1.confidential && s1.coresShared) = true → exec (.coreSetWrite o p sub v) s = .next
    (s.answerW o (0x2240 + p) sub v.length wRefused.1 wRefused.2))

/-! ### Profiles, requests, embedding tables and indexes (ch 7, 8, 10, 11) -/

/-- PROFILE_LOAD, PROFILE_UNLOAD (R173, R174): a profile not in use whose staging copy passes every check is installed as one
act; one whose copy fails answers TABLE_INVALID and raises event 0x2051 with the subindex; one in use is denied; an unload takes
it away. -/
def profileWrites : Prop := ∀ (s : State) (o : Origin) (p : Nat) (v : List Byte), p < 64 →
  (Writable s o (0x2340 + p) 1 v → leNat v = 1 → s.profInUse p = false → s.loadFault p = none →
    exec (.profileLoad o p v) s = .next (((s.dset (0x2340 + p) 1 [1#8]).install p).answerW o (0x2340 + p) 1 v.length stOK 0))
  ∧ (∀ k, Checked s o (0x2340 + p) 1 v → leNat v = 1 → s.profInUse p = false → s.loadFault p = some k →
    Checked (s.raise 0x2051 0 0 [p, k]) o (0x2340 + p) 1 v → (s.raise 0x2051 0 0 [p, k]).profileWrite p v = .error (stTABLE, 0) →
    exec (.profileLoad o p v) s = .next ((s.raise 0x2051 0 0 [p, k]).answerW o (0x2340 + p) 1 v.length stTABLE 0))
  ∧ (Checked s o (0x2340 + p) 1 v → leNat v = 1 → s.profInUse p = true →
    exec (.profileLoad o p v) s = .next (s.answerW o (0x2340 + p) 1 v.length wDenied.1 wDenied.2))
  ∧ (Writable s o (0x2340 + p) 1 v → leNat v = 2 → s.profInUse p = false →
    exec (.profileUnload o p v) s = .next
      (State.answerW { s.dset (0x2340 + p) 1 [0#8] with profs := s.profs.del p } o (0x2340 + p) 1 v.length stOK 0))

/-- CURVE_WRITE (R165, R175) of a whole curve that no loaded profile names: its bytes are stored. -/
def curveStores : Prop := ∀ (s : State) (o : Origin) (id : Nat) (v : List Byte), id < 16 → Writable s o 0x2390 (1 + id) v →
  s.curveNamed id = false → (v.isEmpty = true ∨ curveOk v = true) →
  exec (.curveWrite o id v) s = .next ((s.dset 0x2390 (1 + id) v).answerW o 0x2390 (1 + id) v.length stOK 0)

/-- DECODE_TABLE_WRITE (R175) of a whole table of numbers that nothing loaded names: its bytes are stored. -/
def decodeTableStores : Prop := ∀ (s : State) (o : Origin) (id : Nat) (v : List Byte), id < 16 → Writable s o 0x2380 (1 + id) v →
  s.tabNamed id = false → (v.isEmpty = true ∨ tabOk 512 v = true) →
  exec (.decodeTableWrite o id v) s = .next ((s.dset 0x2380 (1 + id) v).answerW o 0x2380 (1 + id) v.length stOK 0)

/-- TEXT_TABLE_WRITE (R193, R194) of a grammar that passes every check and that nothing names: stored, with its writer's
partition as its owner. -/
def grammarStores : Prop := ∀ (s : State) (o : Origin) (id : Nat) (v : List Byte), id < 64 → Writable s o (0x5040 + id) 1 v →
  s.dbytes (0x5040 + id) 1 = [] → s.naming 1 id = 0 → v ≠ [] → grammarCheck v = none →
  exec (.textTableWrite o 1 id v) s = .next
    (((s.dset (0x5040 + id) 1 v).dset (0x5040 + id) 4 (leBytes 1 (s.whoOf o).owner)).answerW o (0x5040 + id) 1 v.length stOK 0)

/-- TEXT_MORE (R182) to a session whose request collects input: OK, and the buffer is taken, the last of the input where MORE is
clear; to a session that collects none: refused. -/
def textMoreTakes : Prop := ∀ (s : State) (fn sq : Nat) (d : Desc) (input : Option (List Byte)) (p : Nat),
  let s1 := s.dmaFrom fn input
  let c := s1.cmdOf fn sq d false
  let i := hIdx (dHnd d)
  let n := dFld d 223 192
  TakenSess s1 0x30 fn d false false p → (s1.ent i).state ≠ .expired → 0 < n → n ≤ 16777216 →
  (∀ (k : Nat) (r : Request) (b : List Byte), s1.collecting i = some (k, r) → s1.sess.exs.any (fun x => x.slot == k && x.func == 1) = false →
    r.inBytes + n ≤ s1.dval 0x5000 3 → r.tok = false → r.tokHost = false → input = some b →
    exec (.textMore fn sq d input) s = .next ((s1.doneSess c i stOK 0 n).takeInput k (dFld d 191 128) n (fitBytes n b) (!dFlag d 24)))
  ∧ (s1.collecting i = none → exec (.textMore fn sq d input) s = .next (s1.refuse c stBAD dRANGE))

/-- ASSIST_POST (R198): the buffer joins its partition's, and the partition's NO BUFFER event may be raised again. -/
def assistPosts : Prop := ∀ (s : State) (fn sq : Nat) (d : Desc) (p : Nat), Taken s 0x31 fn d p →
  dFld d 191 128 % 64 = 0 → 64 ≤ dFld d 223 192 → dFld d 223 192 ≤ 16777216 →
  exec (.assistPost fn sq d) s = .next (State.unlatch { s with sess := { s.sess with
    bufs := s.sess.bufs ++ [{ cmd := s.cmdOf fn sq d false, part := p, addr := dFld d 191 128, len := dFld d 223 192 }] } } 0x5004 p)

/-- ASSIST_REPLY (R198) to no waiting exchange: counted at 0x8500.09, OK with aux 0, nothing else; to one, of the right length
and check value and in range: OK with aux 1, and the answer is applied. -/
def assistReplies : Prop := ∀ (s : State) (fn sq : Nat) (d : Desc) (reply : Option (List Byte)) (p : Nat),
  let s1 := s.dmaFrom fn reply
  let c := s1.cmdOf fn sq d false
  let found := s1.sess.exs.find? (fun x => x.xid == dFld d 255 224 && x.handle == dHnd d && x.part == p && x.sent)
  (dHnd d = 0 ∧ Taken s1 0x32 fn d p ∨ dHnd d ≠ 0 ∧ TakenSess s1 0x32 fn d false false p) →
  (found = none → exec (.assistReply fn sq d reply) s =
    .next ((s1.count 0x8500 9 1).send c ((s1.count 0x8500 9 1).seenComp c stOK 0 0)))
  ∧ (∀ (x : Exch) (b0 : List Byte), found = some x → s1.replyShort x (dFld d 223 192) = false → reply = some b0 →
    let b := fitBytes (dFld d 223 192) b0
    crc32c b = dFld d 287 256 → s1.replyRange x b = false →
    let s2 := (s1.dropExch x).applyReply x b
    exec (.assistReply fn sq d reply) s = .next (s2.send c (s2.seenComp c stOK 0 1)))

/-- An embedding message of `kind` with records of `w` bytes is whole and good, its table loaded, and its sender and stream may
use it (R226). -/
abbrev EmbTaken (s : State) (src part t : Nat) (hdr : BitVec 192) (data : List Byte) (crc kind w msub : Nat) : Prop :=
  bits hdr 91 86 = t ∧ embOk hdr kind w data.length = true ∧ verify data crc = .good ∧ s.embLoaded t = true
    ∧ part = s.embF t 0x11 ∧ bitN (s.embF t msub) src = true

/-- GATHER (R227): the rows in the order of their indices, in one ROWS message; an index out of range answers RANGE at its
position and reads nothing. (A request of more rows than one data block holds, and a row of T2 while the bridge is down, stand in log 71.) -/
def gathers : Prop := ∀ (s : State) (src part t crc : Nat) (hdr : BitVec 192) (data : List Byte),
  let tag := bits hdr 127 96
  let n := bits hdr 85 70
  let idx := recIdx n 4 data
  let r := s.gatherRows t idx 0 Gathered.none_
  EmbTaken s src part t hdr data crc 1 4 0xC → n ≤ s.rowsMax t → idx.any (s.readWaits t) = false →
  (idx.findIdx? (fun i => decide (s.embF t 3 ≤ i)) = none → r.2.failed = none → r.2.poison = none →
    exec (.gather src part hdr data crc) s = .next (r.1.embAnswer src part 2 t tag n 0 0 r.2.data false))
  ∧ (∀ k, idx.findIdx? (fun i => decide (s.embF t 3 ≤ i)) = some k →
    exec (.gather src part hdr data crc) s = .next (s.embAnswer src part 2 t tag 0 1 k [] false))

/-- ADD (R229): applied or held as a whole, its ACK carrying the status and the position of the first failure. -/
def adds : Prop := ∀ (s : State) (src part t crc : Nat) (hdr : BitVec 192) (data : List Byte),
  let r := s.embAdd t (bits hdr 85 70) (bit hdr 65) data
  EmbTaken s src part t hdr data crc 3 (s.addRec t (bit hdr 65)) 0xD →
  exec (.add src part hdr data crc) s = .next (r.1.embAnswer src part 5 t (bits hdr 127 96) (bits hdr 85 70) r.2.1 r.2.2 [] false)

/-- SET (R230) to a table that is written, its lane enabled: at or below the seq that its home half committed last LATE with event 0x5023,
above it, or before the first commit, buffered for the commit. -/
def sets : Prop := ∀ (s : State) (src part t crc : Nat) (hdr : BitVec 192) (data : List Byte),
  let tag := bits hdr 127 96
  let seq := bits hdr 191 128
  let last := s.lastSeq (s.embHome t) (s.embF t 0xB)
  let r := s.embSet t (bits hdr 85 70) seq src data
  EmbTaken s src part t hdr data crc 4 (s.setRec t) 0xD → s.embWr t = true → s.embLane t = true →
  (∀ m, last = some m → seq ≤ m → exec (.set src part hdr data crc) s = .next
    ((s.raiseOnce 0x5023 src part (s.embHome t) ([t, src] ++ w2 seq)).embAnswer src part 5 t tag 0 5 0 [] false))
  ∧ ((∀ m, last = some m → m < seq) → r.2.1 = 0 → exec (.set src part hdr data crc) s = .next
    ((r.1.unlatch 0x5023 src).embAnswer src part 5 t tag (bits hdr 85 70) 0 r.2.2 [] false))

/-- FILL_SWITCH (R223) of a row being filled whose tail reads: the way is VALID with the tail's bytes, and the held updates are
applied to it in arrival order. -/
def fillSwitches : Prop := ∀ (s : State) (t i k : Nat) (g : EmbTag), t < 64 → s.embSlot t i = some (k, g) → g.st = 1 →
  s.unreadable (s.tailAt t i) (s.embStride t) = false → (s.boot.bridge && s.tailInT2 t i) = false →
  let us := s.heldFor t i
  let s1 := ((s.copyRow (s.tailAt t i) (s.slotAt t k) (s.embStride t)).dropHeld t i).setTag t k { g with st := 2, dirty := !us.isEmpty }
  exec (.fillSwitch t i) s = .next ((us.foldl (fun v u => v.applyAt u (v.slotAt t k)) s1).retryHeld t)

/-- EVICTION_SWITCH (R224) of a clean row that made way for none: its way is EMPTY; of a dirty one: its bytes are in the tail
first, counted at 0x8520.04. -/
def evictionSwitches : Prop := ∀ (s : State) (t i k : Nat) (g : EmbTag), t < 64 → s.embSlot t i = some (k, g) → g.st = 3 →
  g.next = none →
  let s1 := if g.dirty then (s.copyRow (s.slotAt t k) (s.tailAt t i) (s.embStride t)).count 0x8520 4 1 else s
  let s2 := s1.clearTag t k
  s2.wholeT1 (s2.tailAt t i) (s2.embStride t) = false → exec (.evictionSwitch t i) s = .next (s2.retryHeld t)

/-- SKETCH_HALVING (R221): every cell of the tables of its half is halved, rounding down; the other half's stay. -/
def sketchHalves : Prop := ∀ (s : State) (h : Nat), h < 2 →
  exec (.sketchHalving h) s = .next { s with emb := { s.emb with tabs := s.emb.tabs.mapV (fun _ x =>
    if x.home = h then { x with sketch := (x.sketch.mapV (fun _ c => c / 2)).keep (fun _ c => c != 0) } else x) } }

/-- EMB_TABLE_LOAD, EMB_TABLE_UNLOAD (R218, R219): a table that passes its checks is loaded with every slot EMPTY; a loaded one
is unloaded with its updates applied and its dirty rows written back. -/
def embControls : Prop := ∀ (s : State) (o : Origin) (t : Nat) (v : List Byte), t < 64 → Writable s o (0x5240 + t) 1 v →
  (leNat v = 1 → s.embLoaded t = false → s.embLoadCheck t = none →
    exec (.embTableLoad o t v) s = .next (((s.embLoadIt t).dsetN (0x5240 + t) 1 1).answerW o (0x5240 + t) 1 v.length stOK 0))
  ∧ (leNat v ≠ 1 → s.embLoaded t = true →
    exec (.embTableUnload o t v) s = .next (((s.embUnloadIt t).dsetN (0x5240 + t) 1 0).answerW o (0x5240 + t) 1 v.length stOK 0))

/-- An embedding command on table `t` is taken (R233): the table is its partition's and loaded, and does not wait for the bridge (R24). -/
abbrev EmbCmd (s : State) (op fn : Nat) (d : Desc) (p t : Nat) : Prop :=
  Taken s op fn d p ∧ dFld d 261 256 = t ∧ s.embF t 0x11 = p ∧ s.dict.vals.has (dkey (0x5240 + t) 2) = true ∧ s.embLoaded t = true
    ∧ (s.boot.bridge && s.embHome t == 1) = false

/-- EMB_GATHER (R233): the rows are written to the host, and the command completes with their number; an index out of range
completes it BAD_DESCRIPTOR at its position. -/
def embGathers : Prop := ∀ (s : State) (fn sq : Nat) (d : Desc) (b : List Byte) (p t : Nat),
  let s1 := s.dmaFrom fn (some b)
  let c := s1.cmdOf fn sq d false
  let n := dFld d 284 272
  let idx := recIdx n 4 b
  let r := s1.gatherRows t idx 0 Gathered.none_
  EmbCmd s1 0x40 fn d p t → embBadN d = false →
  (∀ k, idx.findIdx? (fun i => decide (s1.embF t 3 ≤ i)) = some k →
    exec (.embGather fn sq d (some b)) s = .next (s1.embDone c 1 k 0))
  ∧ (idx.findIdx? (fun i => decide (s1.embF t 3 ≤ i)) = none →
    idx.findIdx? (fun i => (s1.embSlot t i).isNone && (granSpan (s1.tailAt t i) (s1.embStride t)).any (fun g =>
      ((s1.gran g).map (fun x => s1.lapsed (granPart g) x.handle)).getD false)) = none → idx.any (s1.readWaits t) = false →
    r.2.failed = none → r.2.poison = none →
    exec (.embGather fn sq d (some b)) s = .next ((r.1.dmaTo c.fn c.gen (dFld d 255 192) r.2.data).embDone c 0 0 n))

/-- EMB_ADD (R229, R233) and EMB_SET (R230, R233): the records are taken, and the command completes with their number or at the
first failure; a set of a lane that is not enabled is turned away. -/
def embUpdates : Prop := ∀ (s : State) (fn sq : Nat) (d : Desc) (b : List Byte) (p t : Nat),
  let s1 := s.dmaFrom fn (some b)
  let c := s1.cmdOf fn sq d false
  let n := dFld d 284 272
  embBadN d = false →
  (EmbCmd s1 0x41 fn d p t → let r := s1.embAdd t n (dFlag d 24) b
    exec (.embAdd fn sq d (some b)) s = .next (r.1.embDone c r.2.1 r.2.2 n))
  ∧ (EmbCmd s1 0x42 fn d p t → s1.embWr t = true → s1.embLane t = true → let r := s1.embSet t n 0 64 b
    exec (.embSet fn sq d (some b)) s = .next (r.1.embDone c r.2.1 r.2.2 n))

/-- EMB_REQUANT (R231) on the chip: the rows of the source, recomputed in the target's format, in increasing index. -/
def embRequants : Prop := ∀ (s : State) (fn sq : Nat) (d : Desc) (p : Nat),
  let first := dFld d 319 288
  let n := dFld d 351 320
  let dst := dFld d 357 352
  let src := dFld d 261 256
  Taken s 0x43 fn d p → n ≠ 0 → s.embLoaded src = true → s.embLoaded dst = true → s.embF src 0x11 = p → s.embF dst 0x11 = p →
  s.embWr dst = true → s.embF src 5 ≤ 2 → 3 ≤ s.embF dst 5 → s.embF src 3 = s.embF dst 3 → s.embF src 4 = s.embF dst 4 →
  first + n ≤ s.embF src 3 → s.dval (0xA000 + p) 6 ≠ 1 →
  (s.boot.bridge && (s.embHome src == 1 || s.embHome dst == 1 || ((List.range n).map (· + first)).any (s.readWaits src))) = false →
  let r := s.requantAll src dst ((List.range n).map (· + first))
  exec (.embRequant fn sq d) s = .next (r.1.embDone (s.cmdOf fn sq d false) r.2.1 r.2.2 n)

/-- EMB_FLUSH (R233): every update accepted before it is applied, every DIRTY slot written back, and the command completes with
the number of rows written. -/
def embFlushes : Prop := ∀ (s : State) (fn sq : Nat) (d : Desc) (p t : Nat), EmbCmd s 0x44 fn d p t →
  let r := (s.settle t false (s.settleFuel t)).writeBack t
  exec (.embFlush fn sq d) s = .next (r.1.done (s.cmdOf fn sq d false) stOK 0 r.2)

/-- A vector command on index `i` is taken (R252): the index is its partition's and loaded, and does not wait for the bridge (R24, R236). -/
abbrev VecCmd (s : State) (op fn : Nat) (d : Desc) (p i : Nat) (y : VIndex) : Prop :=
  Taken s op fn d p ∧ s.dict.vals.has (dkey (0x5340 + i) 2) = true ∧ s.vecF i 0xC = p ∧ s.vec.idx.get? i = some y ∧ y.unloading = false
    ∧ (s.boot.bridge && y.home == 1) = false

/-- VS_QUERY (R246, R247): the lists are ranked by their centroids' distances and the scan tasks of the first nprobe placed. -/
def queries : Prop := ∀ (s : State) (fn sq : Nat) (d : Desc) (b : List Byte) (p e : Nat) (y : VIndex),
  let s1 := s.dmaFrom fn (some b)
  let i := dFld d 485 480
  let x := s1.vdesc i
  let v := elems 4 x.d b
  let qv := if x.metric = 1 then vecNorm v else v
  VecCmd s1 0x50 fn d p i y → dFld d 191 128 % 8 = 0 → dFld d 255 192 % 8 = 0 → dFlag d 26 = false → dFld d 511 496 + 1 ≤ x.nlist →
  s1.queryEpoch i y (dFld d 479 448) = some e → v.any (fun e => !ffinite e) = false → (x.metric = 1 → vecSq v % 2 ^ 31 ≠ 0) →
  s1.poisoned x.base (vecCent x.nlist + 4 * x.d * x.nlist) = false →
  let n := s1.vec.next
  let q : VQuery := { cmd := s1.cmdOf fn sq d (dFlag d 25), index := i, desc := d, half := y.home, part := p, q := qv, qe := e,
                      ranking := s1.rankLists x qv, probed := 0, left := [], found := [], hostMode := s1.split p 5, xid := none }
  let r := State.probe { s1 with vec := { s1.vec with queries := s1.vec.queries.put n q, next := n + 1 } } n q (dFld d 511 496 + 1)
  exec (.vsQuery fn sq d (some b)) s = .next (r.1.probed n x.nlist r.2)

/-- SCAN_TASK_FINISH (R249, R250) of the task a core runs: its written slots are scanned, counted at 0x8530.05, and their matches
join the query's; the core takes its next work. Of a task it does not run: nothing. -/
def scanEnds : Prop := ∀ (s : State) (core task : Nat), core < 256 →
  ((s.core core).run ≠ some (.scan task) → exec (.scanTaskFinish core task) s = .next s)
  ∧ (∀ (t : VTask) (q : VQuery) (ms : List VMatch), (s.core core).run = some (.scan task) → s.vec.tasks.get? task = some t →
    s.vec.queries.get? t.query = some q →
    let x := s.vdesc q.index
    let ps := (List.range (min 1024 ((s.listRec x t.list).1 - t.first))).map (· + t.first)
    s.scanSlots q x t.list ps [] = .ok ms →
    exec (.scanTaskFinish core task) s = .next (((State.count { s with vec := { s.vec with tasks := s.vec.tasks.del task } } 0x8530 5 ps.length).probed
      t.query x.nlist { q with left := q.left.filter (fun k => k != task), found := q.found ++ ms }).nextWork core s.ns))

/-- VS_INSERT (R244): each record in its slot with the next epoch as its insert epoch, then that epoch published; the slots go to
the host, and the command completes with the epoch. -/
def inserts : Prop := ∀ (s : State) (fn sq : Nat) (d : Desc) (b : List Byte) (p : Nat) (y : VIndex) (places : List (Nat × Nat)),
  let s1 := s.dmaFrom fn (some b)
  let c := s1.cmdOf fn sq d false
  let i := dFld d 261 256
  let n := dFld d 284 272
  let x := s1.vdesc i
  let rs := (List.range n).map (s1.vecRecord x b)
  VecCmd s1 0x51 fn d p i y → 0 < n → n ≤ 4096 → dFld d 191 128 % 8 = 0 → dFld d 255 192 % 8 = 0 → y.epoch + 1 ≠ noEpoch →
  s1.poisoned x.base (x.headBytes b n) = false → rs.any (·.isNone) = false →
  s1.placeRecs x (s1.oldestEpoch i y) (rs.filterMap id) 0 [] = .ok places →
  let s2 := ((rs.filterMap id).zip places).foldl (fun t r => t.writeItem x (y.epoch + 1) r.1 r.2.2) s1
  let s3 := ((s2.publish i x (y.epoch + 1)).count 0x8530 6 n).unlatch 0x5032 i
  exec (.vsInsert fn sq d (some b)) s = .next
    ((s3.dmaTo c.fn c.gen (dFld d 255 192) (places.flatMap (fun a => leBytes 8 (a.1 * 2 ^ 32 + a.2)))).done c stOK 0 (y.epoch + 1))

/-- VS_DELETE (R245): each item's delete epoch becomes the next epoch, which is then published and completes the command; where a
record fails, nothing changes and its position is the aux. -/
def deletes : Prop := ∀ (s : State) (fn sq : Nat) (d : Desc) (b : List Byte) (p : Nat) (y : VIndex),
  let s1 := s.dmaFrom fn (some b)
  let c := s1.cmdOf fn sq d false
  let i := dFld d 261 256
  let n := dFld d 284 272
  let x := s1.vdesc i
  let rs := (List.range n).map (fun k => (leAt b (16 * k) 8, leAt b (16 * k + 8) 4, leAt b (16 * k + 12) 4))
  VecCmd s1 0x52 fn d p i y → 0 < n → n ≤ 4096 → dFld d 191 128 % 8 = 0 → y.epoch + 1 ≠ noEpoch →
  s1.poisoned x.base (vecCent x.nlist) = false →
  (s1.firstBad x rs 0 [] = none → exec (.vsDelete fn sq d (some b)) s = .next
    ((((rs.foldl (fun t r => t.deleteItem x (y.epoch + 1) r) s1).publish i x (y.epoch + 1)).count 0x8530 7 n).done c stOK 0 (y.epoch + 1)))
  ∧ (∀ k, s1.firstBad x rs 0 [] = some (k, 1) → exec (.vsDelete fn sq d (some b)) s = .next
    ((s1.count 0x8200 7 1).done c stBAD dRANGE k))

/-- INDEX_LOAD, INDEX_UNLOAD (R237): an index that passes its checks is loaded at its header's epoch; a loaded one takes no more
commands and goes when its queries end. -/
def indexControls : Prop := ∀ (s : State) (o : Origin) (i : Nat) (v : List Byte), i < 64 → Writable s o (0x5340 + i) 1 v →
  (leNat v = 1 → s.vec.idx.has i = false → s.vecLoadCheck i = none →
    exec (.indexLoad o i v) s = .next ((s.vecLoadIt i).answerW o (0x5340 + i) 1 v.length stOK 0))
  ∧ (leNat v ≠ 1 → s.vec.idx.has i = true →
    exec (.indexUnload o i v) s = .next ((s.vecUnloadIt i).answerW o (0x5340 + i) 1 v.length stOK 0))

/-- HOLD_EPOCH_WRITE (R246): a hold is taken at the published epoch, moves up to it, and ends; a hold below the present one is
refused. -/
def holdWrites : Prop := ∀ (s : State) (o : Origin) (i : Nat) (v : List Byte) (y : VIndex), i < 64 → s.vec.idx.get? i = some y →
  (Writable s o (0x5340 + i) 8 v → (leNat v = noEpoch ∨ s.vecF i 8 = noEpoch ∧ leNat v = y.epoch
      ∨ s.vecF i 8 ≠ noEpoch ∧ s.vecF i 8 ≤ leNat v ∧ leNat v ≤ y.epoch) →
    exec (.holdEpochWrite o i v) s = .next ((s.dset (0x5340 + i) 8 v).answerW o (0x5340 + i) 8 v.length stOK 0))
  ∧ (Checked s o (0x5340 + i) 8 v → leNat v ≠ noEpoch → s.vecF i 8 ≠ noEpoch → leNat v < s.vecF i 8 →
    exec (.holdEpochWrite o i v) s = .next (s.answerW o (0x5340 + i) 8 v.length wRefused.1 wRefused.2))

/-- ASSIST_EXCHANGE (R197): a waiting exchange goes to the first buffer of its partition that holds it, whose ASSIST_POST completes OK with
the exchange's id, counted; a detokenize exchange whose request has ended ends so (log 34); one written already or over is not
written again. -/
def assistWrites : Prop := ∀ (s : State) (xid : Nat),
  let found := s.sess.exs.find? (fun x => x.xid == xid && !x.sent)
  (found = none → exec (.assistExchange xid) s = .next s)
  ∧ (∀ (x : Exch) (b : AssistBuf) (t : List AssistBuf), found = some x → s.sess.bufs = b :: t → b.part = x.part → 64 + x.payload.length ≤ b.len →
    let s1 : State := { s with sess := { s.sess with bufs := t } }
    let s2 := (s1.dmaTo b.cmd.fn b.cmd.gen b.addr (leBytes 64 x.header ++ x.payload)).send b.cmd
      { Completion.of b.cmd stOK 0 x.xid with handle := x.handle }
    let s3 := ((s2.count 0x8500 8 1).count 0x8510 7 (b2n (x.func == 4))).count 0x8530 9 (b2n (x.func == 5))
    exec (.assistExchange xid) s = .next { s3 with sess := { s3.sess with
      exs := if x.func = 2 && !s.detokAwaited x then s3.sess.exs.filter (fun y => !(y.xid == x.xid && y.handle == x.handle))
        else s3.sess.exs.map (fun y => if y.xid = x.xid ∧ y.handle = x.handle then { y with sent := true } else y) } })

/-! ### Integrity, checkpoint and restore (ch 12, 13) -/

/-- PROOF_RUN_FINISH (R264, R265): the second run agrees with the first run's partials, so the checker was at fault: cause 0 where the second run passed its
check, 1 where it failed too; the partials are the split's. -/
def proofAgrees : Prop := ∀ (s s1 : State) (c id n : Nat) (pr : Proof) (p : Profile),
  let w : SplitWork := { idx := pr.idx, layer := pr.layer, j := pr.j, pos := pr.pos, ntok := pr.ntok }
  c < 256 → (s.core c).run = some (.proof id n) → s.integ.proofs.get? id = some pr → s.profOf pr.idx = some p → pr.run = 2 →
  s.readSplit p w = (s1, none) →
  let s2 := s1.oddCodes p w
  let runs := s2.runSplit p w pr.q 0
  let v := s2.judge p w runs 0
  runs.map (·.part) = pr.orig →
  exec (.proofRunFinish c 0) s = .next
    (((((s2.countRun runs v).checkerFault pr (if v.1 == 0 && v.2.2 == 0 then 0 else 1)).decideProof id pr s.ns pr.orig)).nextWork c s.ns)

/-- PROOF_RUN_FINISH of a core that runs no Proof changes nothing. -/
def proofNone : Prop := ∀ (s : State) (c x : Nat), c < 256 → (s.core c).run = none → exec (.proofRunFinish c x) s = .next s

/-- KAT_PERIOD (R269) with the automatic test off: the runs left over are counted at 0x8600.0E and dropped, and none is due. -/
def katOff : Prop := ∀ (s : State) (h : Nat), h < 2 →
  let s2 := (halfCores h).foldl State.dropAuto (s.count 0x8600 0xE (s.integ.kat.get h).length)
  s2.dval 0x6000 2 ≠ 1 →
  exec (.katPeriod h) s = .next ((halfCores h).foldl State.kickTest { s2 with integ := { s2.integ with kat := s2.integ.kat.set h [] } })

/-- KAT_PERIOD with the automatic test on and every pattern valid: each pattern is due once on each in-service core of the half. -/
def katOn : Prop := ∀ (s : State) (h : Nat), h < 2 →
  let s2 := (halfCores h).foldl State.dropAuto (s.count 0x8600 0xE (s.integ.kat.get h).length)
  s2.dval 0x6000 2 = 1 → s2.patterns.filter (fun n => n != 0 && !s2.expValid (PatHead.read (s2.pattern n)).curve) = [] →
  let runs := s2.patterns.flatMap (fun n => ((halfCores h).filter (fun c => !(s2.core c).excluded)).map (fun c => 64 * c + n))
  exec (.katPeriod h) s = .next ((halfCores h).foldl State.kickTest { s2 with integ := { s2.integ with kat := s2.integ.kat.set h runs } })

/-- KAT_RUN_FINISH (R269): the verdict of the run (a pass takes the core out of 0x6000's failing cores and counts 0x8600.0C; a
mismatch puts it in, counts 0x8600.0D and raises 0x6030), and the core takes its next work. -/
def katEnds : Prop := ∀ (s : State) (c n x : Nat) (byTest : Bool), c < 256 → (s.core c).run = some (.kat n byTest) →
  (n = 0 ∨ (s.pattern n).isEmpty = false ∧ s.expValid (PatHead.read (s.pattern n)).curve = true) →
  let r := s.katResult n x
  let s1 := (s.katVerdict c n r).katLeaves c n byTest (some r) stOK 0
  exec (.katRunFinish c x) s = .next (s1.nextWork c s1.ns)

/-- PATTERN_WRITE (R268): a valid pattern, or an empty one, is stored; one that fails a check answers TABLE_INVALID. -/
def patternWrites : Prop := ∀ (s : State) (o : Origin) (id : Nat) (v : List Byte), id < 16 →
  (Writable s o 0x6040 (1 + id) v → (v.isEmpty = true ∨ s.patternOk v = true) →
    exec (.patternWrite o id v) s = .next ((s.dset 0x6040 (1 + id) v).answerW o 0x6040 (1 + id) v.length stOK 0))
  ∧ (Checked s o 0x6040 (1 + id) v → v.isEmpty = false → s.patternOk v = false →
    exec (.patternWrite o id v) s = .next (s.answerW o 0x6040 (1 + id) v.length stTABLE 0))

/-- EXCLUDE (R271, R272) of a unit in service: out of service, counted at 0x8600.0F, event 0x6040, OK with aux 1; of one excluded
already: OK with aux 0; of a third Flopiry stack: denied. -/
def excludes : Prop := ∀ (s : State) (fn sq : Nat) (d : Desc),
  let c := s.cmdOf fn sq d false
  let k := dFld d 131 128
  let u := dFld d 139 132
  let others := ((List.range 16).filter (fun f => f != u && (s.flash f).cond != 0)).length
  Taken s 0x60 fn d 0 → unitOk k u = true →
  (s.unitOut k u = false → (k = 3 → others < 2) →
    exec (.exclude fn sq d) s = .next ((((s.excludeUnit k u).count 0x8600 0xF 1).raise 0x6040 0 0 [k, u]).done c stOK 0 1))
  ∧ (s.unitOut k u = true → exec (.exclude fn sq d) s = .next (s.done c stOK 0 0))
  ∧ (s.unitOut k u = false → k = 3 → 2 ≤ others → exec (.exclude fn sq d) s = .next (s.refuse c stDENIED 0))

/-- ADMIT (R271) of a unit out of service: in service again, counted at 0x8600.10, event 0x6041, OK with aux 1. -/
def admits : Prop := ∀ (s : State) (fn sq : Nat) (d : Desc),
  let k := dFld d 131 128
  let u := dFld d 139 132
  Taken s 0x61 fn d 0 → unitOk k u = true → s.admitDenied k u = false → s.inService k u = false →
  exec (.admitUnit fn sq d) s = .next ((((s.admitUnit k u).count 0x8600 0x10 1).raise 0x6041 0 0 [k, u]).done (s.cmdOf fn sq d false) stOK 0 1)

/-- TEST (R270): it waits for its core and pattern, and a free core takes it at once; it completes when the run ends. -/
def tests : Prop := ∀ (s : State) (fn sq : Nat) (d : Desc),
  let k := dFld d 135 128
  let n := dFld d 139 136
  Taken s 0x62 fn d 0 → (n = 0 ∨ (s.pattern n).isEmpty = false) →
  exec (.test fn sq d) s = .next (State.kickTest { s with integ := { s.integ with
    tests := s.integ.tests ++ [{ cmd := s.cmdOf fn sq d false, core := k, pattern := n, addr := dFld d 255 192 }] } } k)

/-- FORGO (R257, R275) of an unreadable page below T1: a poisoned page takes its place; of a page that reads: refused. -/
def forgoes : Prop := ∀ (s : State) (fn sq : Nat) (d : Desc) (p pid : Nat) (g : Page),
  let i := hIdx (dHnd d)
  let c := s.cmdOf fn sq d false
  TakenSess s 0x63 fn d true false p → s.pidAt i (dFld d 135 128) (dFld d 155 136) = some pid → s.pages.pages.get? pid = some g →
  (g.inT1 = false → g.lowChk = .failed →
    exec (.forgo fn sq d) s = .next (s.forgoPage c i (dFld d 135 128) (dFld d 155 136) pid g))
  ∧ ((g.inT1 = true ∨ g.lowChk ≠ .failed) → exec (.forgo fn sq d) s = .next (s.refuse c stBAD dRANGE))

/-- COUNTER_CLEAR (R274): the counters of its mask read 0, and so do their SAT bits. -/
def counterClears : Prop := ∀ (s : State) (o : Origin) (idx : Nat) (v : List Byte), Writable s o idx 0xF1 v →
  exec (.counterClear o idx v) s = .next (State.answerW { s with ctr := s.ctr.clear idx (leNat v) } o idx 0xF1 v.length stOK 0)

/-- DAILY_COUNT_REPORT (R88): the half's count of the day reaches the lead; at the budget event 0x3008, once a day. -/
def dailyReports : Prop := ∀ (s : State) (h : Nat), h < 2 →
  let s0 := s.dayRoll
  let s1 : State := { s0 with tiers := { s0.tiers with t2rep := s0.tiers.t2rep.set h (s0.tiers.t2day.get h) } }
  (s0.boot.bridge = false ∨ s0.clk.lead.half = some h) →
  (s1.withinBudget = true → exec (.dailyCountReport h) s = .next s1)
  ∧ (s1.withinBudget = false → exec (.dailyCountReport h) s =
    .next (s1.raiseOnce 0x3008 0 0 h [(s1.tiers.t2rep.w + s1.tiers.t2rep.e) / 2 ^ 30]))

/-- STOP_BATH_QUIET (R148, R414): the bath of a subset of lanes becomes quiet once at rest: counted at 0x8220.09, event 0x2043; a
quiet one, or none, stays as it is. -/
def bathQuiets : Prop := ∀ (s : State),
  let b := s.sched.bath
  (b.level ≠ 0 → b.quiet = false → s.bathRests = true → b.mask ≠ 0xFF → exec .stopBathQuiet s = .next
    ((State.count { s with sched := { s.sched with bath := { b with quiet := true } } } 0x8220 9 1).raise 0x2043 0 0 [b.mask, b.level]))
  ∧ ((b.level = 0 ∨ b.quiet = true) → exec .stopBathQuiet s = .next s)

/-- CKPT, CKPT_DOUBLE (R283, R287, R293): one that may start zeroes the record of the slot that is not current and opens a checkpoint
with the next seq; else it is refused with the status of R293; from another partition it is denied. -/
def ckptStarts : Prop := ∀ (s : State) (fn sq : Nat) (d : Desc) (p : Nat), Taken s 0x70 fn d p →
  let c := s.cmdOf fn sq d false
  (∀ s1, p = 0 → s.startCkpt (some c) (dFlag d 24) = .ok s1 →
    exec (.ckpt fn sq d) s = .next s1 ∧ exec (.ckptDouble fn sq d) s = .next s1)
  ∧ (∀ st dt, p = 0 → s.startCkpt (some c) (dFlag d 24) = .error (st, dt) →
    exec (.ckpt fn sq d) s = .next (s.refuse c st dt) ∧ exec (.ckptDouble fn sq d) s = .next (s.refuse c st dt))
  ∧ (p ≠ 0 → exec (.ckpt fn sq d) s = .next (s.refuseX c stDENIED 0))

/-- What an accepted CKPT leaves (R279, R283): no checkpoint or restore was open, no bath on, no maintenance; the slot's record reads zeros and it holds no
image; seq is one above the current image's. -/
def ckptOpened : Prop := ∀ (s s1 : State) (cmd : Option Cmd) (double : Bool), s.startCkpt cmd double = .ok s1 →
  s.ckpt.run = none ∧ s.ckpt.restore = none ∧ s.sched.bath.level = 0
  ∧ s1.ckpt.slots.get? s.nextSlot = (s.zeroSlot s.nextSlot).ckpt.slots.get? s.nextSlot
  ∧ (∃ r, s1.ckpt.run = some r ∧ r.phase = 1 ∧ r.target = s.nextSlot ∧ r.seq = s.curSeq + 1 ∧ r.double = double ∧ r.cmd = cmd)

/-- CKPT_ZERO_DURABLE (R283): with room for its buffers and no bath on, the bath starts: at round level for a Negative, at step level for a
double copy. -/
def ckptZeroes : Prop := ∀ (s : State) (r : CkptRun), s.ckpt.run = some r → r.zeroed = false → r.img = none →
  (r.double = true ∨ s.noBuffers = false) → s.sched.bath.level = 0 →
  exec .ckptZeroDurable s = .next ((s.setCkpt { r with zeroed := true }).setBath (if r.double then 2 else 1) 0xFF true)

/-- CKPT_CUT (R277, R283) while the bath is quiet: the image is the state now; of a Negative every object of it waits to be drained, and the
bath ends. -/
def ckptCuts : Prop := ∀ (s : State) (r : CkptRun), s.ckpt.run = some r → r.phase = 1 → r.zeroed = true → s.sched.bath.quiet = true →
  s.boot.bridge = false → r.double = false →
  let x := s.capture r.seq 1
  exec .ckptCut s = .next (s.setCkpt { r with phase := 2, img := some x,
                                              todo := x.pages.pages.map (·.1) ++ x.grans.map (fun g => granObj g.1) }).endBath

/-- CKPT_CUT before the bath is quiet does nothing. -/
def ckptWaits : Prop := ∀ (s : State), s.sched.bath.quiet = false → exec .ckptCut s = .next s

/-- CKPT_QUIESCE_TIMEOUT (R283): a checkpoint whose bath is not quiet ends CANCELLED. -/
def ckptTimesOut : Prop := ∀ (s : State) (r : CkptRun), s.ckpt.run = some r → r.phase = 1 → r.zeroed = true →
  (s.sched.bath.quiet = false → exec .ckptQuiesceTimeout s = .next (s.ckptFails stCANCELLED))
  ∧ (s.sched.bath.quiet = true → exec .ckptQuiesceTimeout s = .next s)

/-- DRAIN_COMPLETE (R285) of the second half: the contact sheet is written after the image's segments. -/
def drains : Prop := ∀ (s : State) (h : Nat) (r : CkptRun) (x : Image), h < 2 →
  s.ckptCheck = s → s.ckpt.run = some r → r.img = some x → r.phase = 2 → r.zeroed = true → s.boot.bridge = false →
  r.drained.get (1 - h) = true → x.bytes ≤ 2097152 * s.slotLen (r.target - 1) →
  let ofHalf := fun (o : Nat) => if o < 2 ^ 64 then ((s.pages.pages.get? o).map (·.half)).getD h == h else o % 2 == h
  let y : Image := { x with seq := r.seq }
  exec (.drainComplete h) s = .next (((s.slotWritten r.target y.bytes).fixerWrite (s.slotBase (r.target - 1) + y.sheetAt) y.sheet).setCkpt
    { r with drained := r.drained.set h true, todo := r.todo.filter (fun o => !ofHalf o), buf := r.buf.set h 0, phase := 3 })

/-- SHEET_DURABLE (R285): the commit record is written at the slot's base. -/
def sheets : Prop := ∀ (s : State) (r : CkptRun) (x : Image), s.ckptCheck = s → s.ckpt.run = some r → r.img = some x → r.phase = 3 →
  let y : Image := { x with seq := r.seq }
  exec .sheetDurable s = .next ((s.fixerWrite (s.slotBase (r.target - 1)) y.record).setCkpt { r with phase := 4 })

/-- COMMIT_DURABLE (R285): the slot holds the image, which is current; counted at 0x8320.01 with its size, event 0x3020; of a Negative the command completes
OK with the seq. -/
def commits : Prop := ∀ (s : State) (r : CkptRun) (x : Image) (c : Cmd), s.ckptCheck = s → s.ckpt.run = some r → r.img = some x →
  r.phase = 4 → r.double = false → r.cmd = some c → s.sched.bath.ckpt = false →
  let y : Image := { x with seq := r.seq, base := s.slotBase (r.target - 1) }
  let s2 := ((State.count { s with ckpt := { s.ckpt with slots := s.ckpt.slots.put r.target y } } 0x8320 1 1).countUnits 0x8320 5 4096 y.bytes).raise
    0x3020 0 0 ([r.target] ++ w2 r.seq)
  s2.sched.bath.ckpt = false →
  exec .commitDurable s = .next (State.done { s2 with ckpt := { s2.ckpt with run := none } } c stOK 0 (r.seq % 2 ^ 32))

/-- CKPT_ABORT (R293): an open checkpoint ends CANCELLED, and the command completes with aux 1; with none open, aux 0. -/
def ckptAborts : Prop := ∀ (s : State) (fn sq : Nat) (d : Desc), Taken s 0x71 fn d 0 →
  let c := s.cmdOf fn sq d false
  (s.ckpt.run.isSome = true → exec (.ckptAbort fn sq d) s = .next ((s.ckptFails stCANCELLED).done c stOK 0 1))
  ∧ (s.ckpt.run = none → exec (.ckptAbort fn sq d) s = .next (s.done c stOK 0 0))

/-- RESTORE (R288, R289) in maintenance of a slot with a whole image: everything but the slots' granules is released, and the restore runs, its mark set;
out of maintenance it is denied; of a slot without an image it is refused. -/
def restores : Prop := ∀ (s : State) (fn sq : Nat) (d : Desc), Taken s 0x72 fn d 0 →
  let c := s.cmdOf fn sq d false
  let n := dFld d 129 128
  n ≤ 2 →
  (∀ k x, s.inMaint = true → s.ckpt.run = none → s.ckpt.restore = none → s.selected n = some (k, x) → x.step = 0xB0 →
    let s1 := s.releaseAll
    exec (.restore fn sq d) s = .next { s1 with ckpt := { s1.ckpt with mark := true, restore := some (some c, k, dFlag d 24), resumed := [] } })
  ∧ (s.inMaint = false → exec (.restore fn sq d) s = .next (s.refuse c stDENIED 0))
  ∧ (s.inMaint = true → s.ckpt.run = none → s.ckpt.restore = none → s.selected n = none →
    exec (.restore fn sq d) s = .next (s.refuse c stBAD dRANGE))

/-- RESTORE_COMPLETE (R289 to R292): an image loaded whole ends the restore: its mark clear, MOVE's freeze set, counted at 0x8320.06, event 0x3024, OK with the
image's seq; one that fails leaves nothing of it: event 0x3025 with the segment and the status. -/
def restoreEnds : Prop := ∀ (s : State) (c : Cmd) (k : Nat) (resume : Bool) (x : Image),
  let s0 : State := { s with ckpt := { s.ckpt with restore := none } }
  s.ckpt.restore = some (some c, k, resume) → s.ckpt.slots.get? k = some x →
  (∀ s1, s0.loadImage k x resume = .ok s1 →
    let s2 : State := { s1 with ckpt := { s1.ckpt with mark := false }, own := { s1.own with frozenUntil := s1.nowMs 0 + 2 * s1.dval 0x3100 7 } }
    exec .restoreComplete s = .next (((s2.count 0x8320 6 1).raise 0x3024 0 0 ([k] ++ w2 x.seq)).done c stOK 0 (x.seq % 2 ^ 32)))
  ∧ (∀ g st, s0.loadImage k x resume = .error (g, st) →
    exec .restoreComplete s = .next ((s0.releaseAll.raise 0x3025 0 0 [k, g, st]).refuse c st 0))

/-! ### Optical links and board fabric (ch 14, 15) -/

/-- CAP (R298) on a training link: a record that breaks the rules takes it DOWN with event 0x4006; a valid one is answered with
CAP_ACK, and training ends where the CAP_ACK has come; on a link that is not training, nothing. -/
def capReceives : Prop := ∀ (s : State) (k : Nat) (r : BitVec 256), k < 96 →
  ((s.link k).st = 1 → bits r 255 248 = 1 → capBad s.self r = true →
    exec (.cap k r) s = .next ((s.setLink k { (s.link k) with st := 0, gotCap := none, gotAck := false }).raise 0x4006 0 (linkHalf k)
      [k, bits r 239 234, bits r 247 240]))
  ∧ ((s.link k).st = 1 → bits r 255 248 = 1 → capBad s.self r = false → capValid r = true →
    exec (.cap k r) s = .next (((s.setLink k { (s.link k) with gotCap := some r.toNat }).sendFlit k 3 none (s.capRecord k 2)).trained k))
  ∧ ((s.link k).st ≠ 1 → exec (.cap k r) s = .next s)

/-- CAP_ACK (R298) on a training link: noted, and training ends where the CAP has come. -/
def capAckReceives : Prop := ∀ (s : State) (k : Nat) (r : BitVec 256), k < 96 → (s.link k).st = 1 → bits r 255 248 = 2 →
  capBad s.self r = false → capValid r = true →
  exec (.capAck k r) s = .next ((s.setLink k { (s.link k) with gotAck := true }).trained k)

/-- CAP_SEND_TIMER, TRAINING_TIMEOUT (R298, Table 14-3): a training link sends CAP every 10 µs; an attempt of 20 ms fails and the
link is DOWN. -/
def trainTimers : Prop := ∀ (s : State) (k : Nat), k < 96 → (s.link k).st = 1 →
  exec (.capSendTimer k) s = .next (s.sendFlit k 3 none (s.capRecord k 1))
  ∧ exec (.trainingTimeout k) s = .next (s.setLink k { (s.link k) with st := 0, gotCap := none, gotAck := false })

/-- LINK_RETRY_TIMER, SIGNAL_DETECT (Table 14-3) start training on a link that is DOWN; on another they do nothing. -/
def linkTrains : Prop := ∀ (s : State) (k : Nat), k < 96 →
  ((s.link k).st = 0 → exec (.linkRetryTimer k) s = .next (s.trainLink k) ∧ exec (.signalDetect k) s = .next (s.trainLink k))
  ∧ ((s.link k).st ≠ 0 → exec (.linkRetryTimer k) s = .next s ∧ exec (.signalDetect k) s = .next s)

/-- WAVELENGTH_LOSS (R299, Table 14-3): an UP link that keeps two wavelengths is HALF with event 0x4003; one that keeps none it can use goes DOWN; a HALF
one goes DOWN where it lost a used wavelength. -/
def waveLoses : Prop := ∀ (s : State) (k w : Nat), k < 96 → w < 4 →
  let l := s.link k
  let lost := Nat.lor l.lost (2 ^ w)
  (l.st = 2 → widthOf (15 - lost) ≠ 0 → exec (.wavelengthLoss k w) s = .next
    ((s.setLink k { l with st := 3, used := widthOf (15 - lost), lost, narrowing := true }).raise 0x4003 0 (linkHalf k) [k, w]))
  ∧ (l.st = 2 → widthOf (15 - lost) = 0 → exec (.wavelengthLoss k w) s = .next (s.linkDown k 0))
  ∧ (l.st = 3 → bitN l.used w = true → exec (.wavelengthLoss k w) s = .next (s.linkDown k 0))
  ∧ (l.st = 3 → bitN l.used w = false → exec (.wavelengthLoss k w) s = .next (s.setLink k { l with lost }))

/-- NARROWING_RETRAIN_DONE (R299): flits flow again on every VC. -/
def narrowed : Prop := ∀ (s : State) (k : Nat), k < 96 → exec (.narrowingRetrainDone k) s =
  .next ((List.range 8).foldl (fun t v => t.pumpVc k v) (s.setLink k { (s.link k) with narrowing := false }))

/-- LINK_SILENCE (Table 14-3): a link in service goes DOWN with cause 1. -/
def silences : Prop := ∀ (s : State) (k : Nat), k < 96 → (s.link k).inService = true → exec (.linkSilence k) s = .next (s.linkDown k 1)

/-- LASER_SOURCE_FAIL (R299, R461): event 0x4007, and the wavelength is lost on the 12 links of the port. -/
def laserFails : Prop := ∀ (s : State) (port wave : Nat), port < 8 → wave < 4 → s.fab.lasers.contains (4 * port + wave) = false →
  exec (.laserSourceFail port wave) s = .next ((List.range 12).foldl (fun t i => t.loseWave (12 * port + i) wave)
    (State.raise { s with fab := { s.fab with lasers := (4 * port + wave) :: s.fab.lasers } } 0x4007 0 (if port < 4 then 0 else 1) [port, wave]))

/-- FLIT_RECEIVE, NAK_RECEIVE (R301): a flit that fails its check is counted and answered with one NAK; a good data flit in order
is taken with its ack and credit return and counted; a good NAK replays what is unacknowledged. A link carries flits in service, and while EXCLUDED
until its started messages are out; elsewhere a flit changes nothing, nor does one whose rsvd bit is set (R11). -/
def flits : Prop := ∀ (s : State) (k : Nat) (f : BitVec 2048), k < 96 →
  let l := s.link k
  let s1 := s.setLink k (l.takeReturn (bits f 17 6) (bits f 1983 1981) (bits f 1979 1968))
  (l.carries = true → flitGood f = false → exec (.flitReceive k f) s = .next ((s.count (0x8420 + k) 3 1).sendNak k))
  ∧ (l.carries = true → flitGood f = true → bit f 1980 = false → bits f 31 30 = 0 → bits f 29 18 = (l.last + 1) % 4096 → exec (.flitReceive k f) s = .next
    ((List.range 8).foldl (fun t v => t.pumpVc k v) ((s1.setLink k ((s1.link k).takeData f
      (l.peerKind == 1 && (s.fab.spill.get (linkHalf k)).high && spillVc (bits f 5 3)))).count (0x8420 + k) 2 1)))
  ∧ (l.carries = true → flitGood f = true → bit f 1980 = false → bits f 31 30 = 0 → bits f 29 18 ≠ (l.last + 1) % 4096 →
    exec (.flitReceive k f) s = .next ((List.range 8).foldl (fun t v => t.pumpVc k v) (s1.sendNak k)))
  ∧ (l.carries = true → flitGood f = true → bit f 1980 = false → bits f 31 30 = 2 →
    exec (.nakReceive k f) s = .next ((List.range 8).foldl (fun t v => t.pumpVc k v) (s1.replayFrom k)))
  ∧ (l.carries = false ∨ (flitGood f = true ∧ bit f 1980 = true) → exec (.flitReceive k f) s = .next s ∧ exec (.nakReceive k f) s = .next s)

/-- REPLAY_TIMER (R301, Table 14-3): with flits unacknowledged they are replayed, counted at the link's replays; at the replay limit the link
goes DOWN with cause 2; with none, nothing. -/
def replays : Prop := ∀ (s : State) (k : Nat), k < 96 →
  let l := s.link k
  (l.replay ≠ [] → l.carries = true → (l.st = 4 ∨ l.replays + 1 < l.replayMax) →
    let s1 := (s.setLink k { l with replays := l.replays + 1 }).count (0x8420 + k) 4 1
    exec (.replayTimer k) s = .next (l.replay.foldl (fun t f => t.sendFlit k 0 (some f) 0) s1))
  ∧ (l.replay ≠ [] → l.carries = true → l.st ≠ 4 → l.replayMax ≤ l.replays + 1 →
    exec (.replayTimer k) s = .next ((s.count (0x8420 + k) 4 1).linkDown k 2))
  ∧ (l.replay = [] → exec (.replayTimer k) s = .next s)

/-- MESSAGE_RECEIVE (R304) of a message that breaks R304: discarded; of a good one to this device from a session peer: consumed. -/
def messages : Prop := ∀ (s : State) (k t : Nat) (hdr : BitVec 256) (body : List Byte), k < 96 →
  let m := Msg.parse hdr body
  let s0 := s.at t
  (msgOk hdr m false = false → exec (.messageReceive k hdr body false t) s = .next (s0.discard m.mtype 0 m.src (linkHalf k)))
  ∧ (msgOk hdr m false = true → (s0.link k).peerKind = 0 → m.dst = s0.self →
    exec (.messageReceive k hdr body false t) s = .next (s0.consume k m))

/-- A message to this device with no link key, outside confidential mode (R305): its unit has it, with its bytes counted. -/
def consumes : Prop := ∀ (s : State) (k : Nat) (m : Msg), s.partOn m.part = true → s.sec.linkKeys.get? m.part = none →
  s.confidential = false → m.enc = false →
  .msg m true ∈ (s.consume k m).out

/-- CUT_THROUGH_FORWARD (R317) of a good message to another device: forwarded, or unroutable on a mismatched link that did not
send it. -/
def forwards : Prop := ∀ (s : State) (k t : Nat) (hdr : BitVec 256) (body : List Byte), k < 96 →
  let m := Msg.parse hdr body
  let s0 := s.at t
  msgOk hdr m false = true → (s0.link k).peerKind = 0 → m.dst ≠ s0.self →
  ((s0.link k).mismatch = false → exec (.cutThroughForward k hdr body false t) s = .next (s0.forward k m none))
  ∧ ((s0.link k).mismatch = true → m.src ≠ (s0.link k).peer →
    exec (.cutThroughForward k hdr body false t) s = .next (s0.unroutable m 2))

/-- SPILL_DEPARTURE (R318), WFQ_START (R319): a message of the VC starts where it may, and flits leave as credit allows. -/
def starts : Prop := ∀ (s : State) (k v t : Nat), k < 96 → v < 8 →
  exec (.spillDeparture k v) s = .next ((s.startVc k v).pumpVc k v) ∧ exec (.wfqStart k v t) s = .next ((s.at t).startVc k v)

/-- TIME_GATE_ENTRY (R324): the schedule moves to its next entry, and messages may start on every VC. -/
def gates : Prop := ∀ (s : State) (k t : Nat) (es : List (Nat × Nat)), k < 96 → s.schedule k = some es → es ≠ [] →
  exec (.timeGateEntry k t) s = .next ((List.range 8).foldl (fun u v => u.startVc k v)
    ((s.at t).setLink k { (s.link k) with gateAt := ((s.link k).gateAt + 1) % es.length }))

/-- HELLO_TIMER (R316): a HELLO with the map digest goes to a session peer, sealed as R305 says, on its link; where it cannot be sealed,
nothing goes. -/
def helloSends : Prop := ∀ (s : State) (k : Nat), k < 96 → (s.link k).inService = true → (s.link k).peerKind = 0 →
  let m : Msg := { dst := (s.link k).peer, src := s.self, part := 0, mtype := 0x30, vc := 0, enc := false, hops := 0, ctr := 0, body := s.helloBody }
  (∀ m1 fab, s.seal m = some (m1, fab) →
    exec (.helloTimer k) s = .next (({ s with fab := fab, out := .msg m1 false :: s.out } : State).enqueue k m1))
  ∧ (s.seal m = none → exec (.helloTimer k) s = .next s)

/-- HELLO (R316): a digest that differs marks the link mismatched, with event 0x4011 once; an equal one clears the mark. -/
def hellos : Prop := ∀ (s : State) (k : Nat) (hdr : BitVec 128), k < 96 → parOk hdr.toNat 2 1 0 = true → zeroBits hdr 69 2 = true →
  bits hdr 127 120 = 1 → (s.link k).peerKind = 0 → (s.link k).inService = true →
  (bits hdr 119 88 = s.mapDigest → exec (.hello k hdr) s = .next (s.setLink k { (s.link k) with mismatch := false }))
  ∧ (bits hdr 119 88 ≠ s.mapDigest → (s.link k).mismatch = false → exec (.hello k hdr) s =
    .next ((s.setLink k { (s.link k) with mismatch := true }).raise 0x4011 0 (linkHalf k) [k, (s.link k).peer, bits hdr 119 88]))
  ∧ (bits hdr 119 88 ≠ s.mapDigest → (s.link k).mismatch = true → exec (.hello k hdr) s = .next s)

/-- POLICER_PROFILE_WRITE (R322): a consistent profile is stored, and the meters that use it start full again; an inconsistent one
is refused. -/
def policerWrites : Prop := ∀ (s : State) (o : Origin) (id sub : Nat) (v : List Byte), id < 16 →
  let s1 := s.dset (0x4190 + id) sub v
  let p := s1.policer id
  let bad := p.pir < p.cir ∨ 4800000000000 < p.pir ∨ p.cir < 1000000 ∨ p.cbs < 65536 ∨ p.pbs < 65536
  (Writable s o (0x4190 + id) sub v → ¬ bad → exec (.policerProfileWrite o id sub v) s = .next
    (State.answerW { s1 with fab := { s1.fab with meters := s1.fab.meters.keep (fun key _ =>
      if key < 4096 then s.dval (0x4150 + key % 64) 2 != id else s.dval (0x41B0 + (key - 4096)) 1 != id) } } o (0x4190 + id) sub v.length stOK 0))
  ∧ (Checked s o (0x4190 + id) sub v → bad → exec (.policerProfileWrite o id sub v) s = .next
    (s.answerW o (0x4190 + id) sub v.length wRefused.1 wRefused.2))

/-- SCHEDULE_WRITE (R323): a valid schedule that no link names is stored; one that a link names is denied. -/
def scheduleWrites : Prop := ∀ (s : State) (o : Origin) (id : Nat) (v : List Byte), id < 16 →
  let named := (List.range 96).any (fun k => s.dval (0x41B0 + k / 4) (0x11 + k % 4) == id)
  (Writable s o 0x41A0 (1 + id) v → named = false → scheduleOk v = true →
    exec (.scheduleWrite o id v) s = .next ((s.dset 0x41A0 (1 + id) v).answerW o 0x41A0 (1 + id) v.length stOK 0))
  ∧ (Checked s o 0x41A0 (1 + id) v → named = true →
    exec (.scheduleWrite o id v) s = .next (s.answerW o 0x41A0 (1 + id) v.length wDenied.1 wDenied.2))

/-- MARK_CLEAR (R325): the entry's high-water marks read 0. -/
def markClears : Prop := ∀ (s : State) (o : Origin) (idx : Nat) (v : List Byte), Writable s o idx (markRange idx).1 v →
  exec (.markClear o idx v) s = .next ((s.clearMarks idx).answerW o idx (markRange idx).1 v.length stOK 0)

/-! ### Rings, functions and CXL.mem (ch 16) -/

/-- TAIL_POLL (R336) of an SQ that is not coherent, on its function's port: counted at 0x8110.05, and the SQ takes the host's index; of a
ring that is not there: nothing. -/
def tailPolls : Prop := ∀ (s : State) (port fn id tail : Nat), port < 4 →
  (∀ r, s.ring (ringKey fn 1 id) = some r → r.coh = false → fn / 64 = port →
    exec (.tailPoll port fn id tail) s = .next ((s.count 0x8110 5 1).hostIndex (ringKey fn 1 id) tail))
  ∧ (s.ring (ringKey fn 1 id) = none → exec (.tailPoll port fn id tail) s = .next s)

/-- What an SQ fetches (R337): the descriptors between its device index and the host's index, counted at 0x8110.01; more than the ring
holds stop the SQ with event 0x1006. -/
def fetches : Prop := ∀ (s : State) (k : Nat) (r : Ring),
  let n := (r.hostIdx + 2 ^ 32 - r.posted) % 2 ^ 32
  s.ring k = some r → r.kind = 1 → r.stopped = false → n ≠ 0 → s.host.stops.contains r.fn = false →
  (16 * 2 ^ r.lgsz < n → s.fetch k = (s.updRing k (fun q => { q with stopped := true })).raise 0x1006 ((s.fnPart r.fn).getD 0) 0 [r.fn, r.id])
  ∧ (n ≤ 16 * 2 ^ r.lgsz → s.ring (ringKey r.fn 2 r.cq) = none → r.didx = 0 →
    s.fetch k = ((s.updRing k (fun q => { q with posted := r.hostIdx })).count 0x8110 1 n).countUnits 0x8110 0x11 4096 (64 * n))

/-- RING_HEAD_UPDATE (R338): the ring has the host's index, and its backlog is posted as room allows. -/
def headUpdates : Prop := ∀ (s : State) (fn kind id head : Nat) (r : Ring), 2 ≤ kind → kind ≤ 4 → s.ring (ringKey fn kind id) = some r →
  r.kind = kind →
  exec (.ringHeadUpdate fn kind id head) s = .next
    ((s.updRing (ringKey fn kind id) (fun q => { q with hostIdx := head % 2 ^ 32 })).drainRing (ringKey fn kind id))

/-- MSIX_TIMER (R339): the vector is signalled for the records counted, whose count starts again; with none counted, nothing. -/
def msixTimes : Prop := ∀ (s : State) (fn kind id : Nat) (r : Ring), s.ring (ringKey fn kind id) = some r → 2 ≤ kind → r.iv = true →
  (r.msg ≠ 0 → exec (.msixTimer fn kind id) s = .next ((s.updRing (ringKey fn kind id) (fun q => { q with msg := 0 })).signal fn r.vector))
  ∧ (r.msg = 0 → exec (.msixTimer fn kind id) s = .next s)

/-- MSIX_VECTOR_UNMASK (R339) of a masked vector: a pending message is sent. -/
def msixUnmasks : Prop := ∀ (s : State) (fn v : Nat), fn < 256 → v < 2048 → s.host.unmasked.contains (fn * 2048 + v) = false →
  let s1 : State := { s with host := { s.host with unmasked := (fn * 2048 + v) :: s.host.unmasked,
                                                   pendingV := s.host.pendingV.filter (fun x => x != fn * 2048 + v) } }
  (s.host.pendingV.contains (fn * 2048 + v) = true → exec (.msixVectorUnmask fn v) s = .next (s1.signal fn v))
  ∧ (s.host.pendingV.contains (fn * 2048 + v) = false → exec (.msixVectorUnmask fn v) s = .next s1)

/-- RING_CREATE (R332, R341) of a ring that passes every check: OK with the count it starts at; of one that fails: refused. -/
def ringCreates : Prop := ∀ (s : State) (fn sq : Nat) (d : Desc) (p : Nat), Taken s 0x80 fn d p →
  let c := s.cmdOf fn sq d false
  let r := s.descRing c.fn d
  r.id ≠ 0 → r.kind ≠ 0 → r.kind ≤ 4 → r.lgsz ≤ 12 → (r.iv = true → r.cthr ≠ 0) →
  (s.ringFault p r = false → exec (.ringCreate fn sq d) s = .next
    ((s.addRing r (s.ringStart c.fn r.kind r.id)).done c stOK 0 (s.ringStart c.fn r.kind r.id)))
  ∧ (s.ringFault p r = true → exec (.ringCreate fn sq d) s = .next (s.refuse c stBAD dRANGE))

/-- RING_DELETE (R334): the ring goes with its backlog; a CQ that an SQ is bound to is BUSY. -/
def ringDeletes : Prop := ∀ (s : State) (fn sq : Nat) (d : Desc) (p : Nat), Taken s 0x81 fn d p →
  let c := s.cmdOf fn sq d false
  let id := dFld d 135 128
  let kind := dFld d 139 136
  id ≠ 0 → kind ≠ 0 → kind ≤ 4 → (s.ring (ringKey c.fn kind id)).isSome = true →
  ((kind ≠ 2 ∨ (s.sqsOf c.fn id) = []) → exec (.ringDelete fn sq d) s = .next ((s.dropRing (ringKey c.fn kind id)).done c stOK 0 0))
  ∧ (kind = 2 → s.sqsOf c.fn id ≠ [] → exec (.ringDelete fn sq d) s = .next (s.refuse c stBAD dBUSY))

/-- RING0_CREATE, RING0_DELETE (R331) through a function's own mailbox: SQ 0 and CQ 0 as entry 0x1180 describes them; deleted while no other SQ is bound
to CQ 0. -/
def ringZeros : Prop := ∀ (s : State) (fn p : Nat) (v : List Byte), Writable s (.mailbox fn) 0x1180 9 v → s.fnPart fn = some p →
  (leNat v = 1 → s.ringFault p (s.ringZero fn 2) = false → (s.addRing (s.ringZero fn 2) (s.ringStart fn 2 0)).ringFault p (s.ringZero fn 1) = false →
    exec (.ring0Create (.mailbox fn) v) s = .next
      (((s.addRing (s.ringZero fn 2) (s.ringStart fn 2 0)).addRing (s.ringZero fn 1) 0).answerW (.mailbox fn) 0x1180 9 v.length stOK 0))
  ∧ (leNat v ≠ 1 → (s.sqsOf fn 0).any (fun k => k != ringKey fn 1 0) = false →
    exec (.ring0Delete (.mailbox fn) v) s = .next
      (((s.dropRing (ringKey fn 1 0)).dropRing (ringKey fn 2 0)).answerW (.mailbox fn) 0x1180 9 v.length stOK 0))

/-- FUNCTION_RESET (R340): the function's reset. -/
def fnResets : Prop := ∀ (s : State) (fn cause : Nat), fn < 256 → exec (.functionReset fn cause) s = .next (s.fnReset fn cause)

/-- PCIE_LINK_DOWN (Table 16-10, R362): event 0x1002, the port's waiting accesses and its mailboxes' secured sessions are over; a link
that is down stays so. -/
def pcieDowns : Prop := ∀ (s : State) (p : Nat), p < 4 →
  ((s.port p).link = 0 → exec (.pcieLinkDown p) s = .next s)
  ∧ ((s.port p).link ≠ 0 → exec (.pcieLinkDown p) s = .next (s.portDown p))

/-- PCIE_LINK_UP (R344) on a port that is formed and not in PERST#: event 0x1001, the host lease is granted for 0x1100.02 ms, and what
waited goes on; on a port in PERST#, nothing. -/
def pcieUps : Prop := ∀ (s : State) (p lanes rate : Nat) (cxl : Bool), p < 4 →
  (s.portFormed p = true → (s.port p).perst = false → s.boot.mode ≠ 3 → s.dark = false →
    exec (.pcieLinkUp p lanes rate cxl) s = .next (((((s.updPort p (fun q => { q with link := if cxl then 2 else 1, lanes, rate })).raise
      0x1001 0 0 [p, lanes, rate, b2n cxl]).grantLease p)).cxlAgain))
  ∧ ((s.port p).perst = true → exec (.pcieLinkUp p lanes rate cxl) s = .next s)

/-- PERST (R432): the link goes down, IDE streams of the port end, its TDIs are CONFIG_UNLOCKED, and each of its 64 functions is reset with
cause 4. PERST_DEASSERT: the port may train. -/
def persts : Prop := ∀ (s : State) (p : Nat), p < 4 → s.portFormed p = true →
  (let s1 := (s.portDown p).updPort p (fun q => { q with perst := true })
   let s2 : State := { s1 with host := { s1.host with tdi := s1.host.tdi.keep (fun fn _ => fn / 64 != p),
                                                      ideDown := s1.host.ideDown.keep (fun fn _ => fn / 64 != p) } }
   let s3 := s2.setStreams (s2.host.ideStreams.filter (fun x => x / 256 != p))
   exec (.perst p) s = .next ((List.range 64).foldl (fun u f => u.fnReset (64 * p + f) 4) s3).recheckStops)
  ∧ exec (.perstDeassert p) s = .next (s.updPort p (fun q => { q with perst := false }))

/-- IDE_FAILURE (R352): the stream is insecure, counted at 0x8110.0D, event 0x100B, and the functions that need it stand still. -/
def ideFails : Prop := ∀ (s : State) (p x fn : Nat), p < 4 → x < 256 →
  let s1 := s.setStreams (s.host.ideStreams.filter (fun y => y != 256 * p + x))
  let s2 : State := { s1 with host := { s1.host with ideDown := s1.host.ideDown.put fn (256 * p + x) } }
  exec (.ideFailure p x fn) s = .next (((s2.count 0x8110 0xD 1).raise 0x100B ((s2.fnPart fn).getD 0) 0 [p, fn, x]).recheckStops)

/-- IDE_KM (R352) in a secured session of function 0's mailbox: the stream is secure, or not; outside one, nothing. -/
def ideKeys : Prop := ∀ (s : State) (p x sid : Nat), p < 4 →
  let rest := s.host.ideStreams.filter (fun y => y != 256 * p + x)
  (s.doeSession sid (fun fn => fn == 64 * p) = true → x ≤ 5 →
    let s1 := s.setStreams (rest ++ [256 * p + x])
    let s2 : State := { s1 with host := { s1.host with ideDown := s1.host.ideDown.keep (fun _ v => v != 256 * p + x) } }
    exec (.ideKm p x sid true) s = .next ((s2.recheckStops).emit (.tdisp (64 * p) 3))
    ∧ exec (.ideKm p x sid false) s = .next (((s.setStreams rest).recheckStops).emit (.tdisp (64 * p) 6)))
  ∧ (s.doeSession sid (fun fn => fn == 64 * p) = false → ∀ b, exec (.ideKm p x sid b) s = .next s)

/-- TDISP_MESSAGE (R353) in a secured session, on a virtual function: LOCK_INTERFACE locks an unlocked TDI, START_INTERFACE runs a locked one, and STOP_INTERFACE of a locked
or running one resets the function with cause 3 (the codes are log 42's). -/
def tdisps : Prop := ∀ (s : State) (fn sid : Nat), fn < 256 → fn % 64 ≠ 0 → s.doeSession sid (fun f => f / 64 == fn / 64) = true →
  (s.host.tdi.getD fn 0 = 0 → exec (.tdispMessage fn 0x83 sid) s = .next ((s.setTdi fn 1).emit (.tdisp fn 0x03)))
  ∧ (s.host.tdi.getD fn 0 = 1 → exec (.tdispMessage fn 0x86 sid) s = .next ((s.setTdi fn 2).emit (.tdisp fn 0x06)))
  ∧ (s.host.tdi.getD fn 0 ≠ 0 → exec (.tdispMessage fn 0x87 sid) s = .next ((((s.setTdi fn 0).fnReset fn 3).recheckStops).emit (.tdisp fn 0x07)))
  ∧ (s.host.tdi.getD fn 0 ≠ 1 → exec (.tdispMessage fn 0x86 sid) s = .next (s.emit (.tdisp fn 0x7F)))

/-- SQ_TAIL_WRITE (R335) of a coherent ring on its own port: an access to the line of its host index word. -/
def tailWrites : Prop := ∀ (s : State) (p fn id tail hoff : Nat) (owned : Bool) (r : Ring) (w : Window), p < 4 →
  s.ring (ringKey fn 1 id) = some r → s.windowOn p r.hidx = some (w, hoff) → r.coh = true → fn / 64 = p → (s.port p).link = 2 →
  exec (.sqTailWrite p fn id tail owned) s = .next (s.serve
    { port := p, hoff, excl := owned, data := if owned then none else some (List.replicate (r.hidx % 64) 0 ++ leBytes 8 tail)
      mask := 255 * 2 ^ (r.hidx % 64) })

/-- TAIL_SNOOP_DELAY (R335): the tail word's line is recalled where the host holds it with ownership; else nothing. -/
def tailSnoops : Prop := ∀ (s : State) (p fn id : Nat) (r : Ring), p < 4 → s.ring (ringKey fn 1 id) = some r → r.coh = true → fn / 64 = p →
  let owned := (s.port p).lines.any (fun x => x.addr == r.hidx / 64 && x.owned)
  (owned = true → exec (.tailSnoopDelay p fn id) s = .next (s.snoopLine (r.hidx / 64) p))
  ∧ (owned = false → exec (.tailSnoopDelay p fn id) s = .next s)

/-- HOST_LEASE_END (R344, R345): event 0x1003; the port's lines are reclaimed, in start-up, test or restore poisoned; the extents of its
functions lapse, and what waited goes on. A port without a lease: nothing. -/
def hostLeaseEnds : Prop := ∀ (s : State) (p : Nat), p < 4 →
  let s1 := (s.updPort p (fun q => { q with lease := false })).raise 0x1003 0 0 [p]
  ((s.port p).lease = true → exec (.hostLeaseEnd p) s =
    .next (((if s1.noWaiting then s1.poisonLines p else s1.reclaim p).lapseFns (fun fn => fn / 64 == p)).cxlAgain))
  ∧ ((s.port p).lease = false → exec (.hostLeaseEnd p) s = .next s)

/-- CXL_MEM_ACCESS (R347) on a CXL port: outside every window it is answered as R347 says, counted at 0x8110.09; a write in a window no
other port holds a line of is stored, and the rings whose index words it holds take it; on a port without CXL, nothing. -/
def cxlAccesses : Prop := ∀ (s : State) (p hoff mask : Nat) (excl : Bool) (data : Option (List Byte)), p < 4 →
  let a : Access := { port := p, hoff, excl, data, mask }
  ((s.port p).link ≠ 2 → exec (.cxlMemAccess p hoff excl data mask) s = .next s)
  ∧ ((s.port p).link = 2 → s.windowAt p hoff = none → exec (.cxlMemAccess p hoff excl data mask) s = .next (s.outside p hoff data.isNone))
  ∧ (∀ (w : Window) (addr : Nat) (b : List Byte), (s.port p).link = 2 → s.windowAt p hoff = some (w, addr) → data = some b →
    w.closing = false → s.granHeld (addr / 2097152) = false → (s.gran (addr / 2097152)).isNone = false → s.unsealed p w.part = false →
    w.ro = false → s.protectedGran (addr / 2097152) = false → s.lineBusy (addr / 64) = false → s.boot.bridge = false →
    s.holders p (addr / 64) true = [] →
    exec (.cxlMemAccess p hoff excl data mask) s = .next
      (((s.touch (addr / 2097152)).lineWrite p (addr / 64) b mask).emit (.cxl p hoff [] false false)))

/-- SNOOP_RESPONSE (R348) for a line the port holds: what an owner changed is written, the line is held no more (or shared), and what
waited goes on; with new content for a line it does not hold: discarded with event 0x1008. -/
def snoopAnswers : Prop := ∀ (s : State) (p line : Nat) (b : List Byte), p < 4 →
  (∀ x, (s.port p).lines.find? (fun x => x.addr == line) = some x → x.owned = true →
    exec (.snoopResponse p line (some b) false) s = .next (((s.lineBack p line b).unhold p line).cxlAgain))
  ∧ ((s.port p).lines.find? (fun x => x.addr == line) = none →
    exec (.snoopResponse p line (some b) false) s = .next (s.lateBack p line))

/-- DIRTY_WRITEBACK (R345) of a line the port owns: written, and held no more; of another: discarded, counted, event 0x1008. -/
def writebacks : Prop := ∀ (s : State) (p line : Nat) (b : List Byte), p < 4 →
  let owned := (s.port p).lines.any (fun x => x.addr == line && x.owned)
  (owned = true → exec (.dirtyWriteback p line b) s = .next (((s.lineBack p line b).unhold p line).cxlAgain))
  ∧ (owned = false → exec (.dirtyWriteback p line b) s = .next (s.lateBack p line))

/-- RENEW (R344): the port's host lease runs to now + 0x1100.02, and OK gives that length. -/
def renews : Prop := ∀ (s : State) (fn sq : Nat) (d : Desc) (p : Nat), Taken s 0x82 fn d p →
  exec (.renew fn sq d) s = .next ((s.grantLease (fn / 64)).done (s.cmdOf fn sq d false) stOK 0 (s.dval 0x1100 2))

/-- REGION_CREATE (R349): a region of its partition, version 0; its id in use: BUSY. -/
def regionCreates : Prop := ∀ (s : State) (fn sq : Nat) (d : Desc) (p : Nat), Taken s 0x83 fn d p →
  let c := s.cmdOf fn sq d false
  let r := dFld d 231 224
  let g := dFld d 183 149
  let n := dFld d 223 192
  dFld d 148 128 = 0 → n ≠ 0 → s.addrCheck p (dFld d 183 128) (n * 2097152) = none → s.windowable p g n = true → s.inRegion g n = false →
  let x : Region := { part := p, gran := g, count := n, version := 0, time := 0, pub := false, pubfn := 0 }
  (s.host.regions.has r = false → exec (.regionCreate fn sq d) s = .next
    (State.done { s with host := { s.host with regions := s.host.regions.put r x } } c stOK 0 r))
  ∧ (s.host.regions.has r = true → exec (.regionCreate fn sq d) s = .next (s.refuse c stBAD dBUSY))

/-- REGION_DELETE, REGION_QUERY (R349) of the partition's own region: deleted where no window or PUBLISH names it; its record written to the host, OK
with its version. Of no region: refused. -/
def regionEnds : Prop := ∀ (s : State) (fn sq : Nat) (d : Desc) (p : Nat),
  let c := s.cmdOf fn sq d false
  let r := dFld d 231 224
  (∀ x, Taken s 0x84 fn d p → s.host.regions.get? r = some x → x.part = p → s.regionPorts r = 0 → s.host.pubs.any (fun y => y.region == r) = false →
    exec (.regionDelete fn sq d) s = .next (State.done { s with host := { s.host with regions := s.host.regions.del r } } c stOK 0 r))
  ∧ (∀ x, Taken s 0x88 fn d p → s.host.regions.get? r = some x → x.part = p → dFld d 319 256 % 64 = 0 →
    exec (.regionQuery fn sq d) s = .next ((s.dmaTo c.fn c.gen (dFld d 319 256) (leBytes 64 (s.regionRecord r x))).done c stOK 0 (x.version % 2 ^ 32)))
  ∧ (Taken s 0x84 fn d p → s.host.regions.get? r = none → exec (.regionDelete fn sq d) s = .next (s.refuse c stBAD dRANGE))

/-- WINDOW_OPEN (R346) over granules of the partition, on a CXL port, its number free and its range clear: open, OK with its number. -/
def windowOpens : Prop := ∀ (s : State) (fn sq : Nat) (d : Desc) (p : Nat), Taken s 0x85 fn d p →
  let c := s.cmdOf fn sq d false
  let w := dFld d 239 232
  let hoff := dFld d 287 256
  let port := c.fn / 64
  let n := dFld d 223 192
  let win : Window := { reg := false, region := 0, gran := dFld d 183 149, count := n, hoff, ro := dFlag d 25, fn := c.fn,
                        part := p, closing := false, closer := none, recalled := 0 }
  let denied := (s.addrCheck p (dFld d 183 149 * 2097152) (n * 2097152)).any (fun f => f.1 == stDENIED)
  dFlag d 24 = false → n ≠ 0 → dFld d 148 128 = 0 → hoff < 8388608 →
  (denied = true → exec (.windowOpen fn sq d) s = .next (s.refuseX c stDENIED 0))
  ∧ (denied = false → hoff + n ≤ 8388608 → s.windowable p (dFld d 183 149) n = true →
  (s.port port).windows.any (fun x => decide (x.2.hoff < hoff + n) && decide (hoff < x.2.hoff + (s.winRange x.2).2)) = false →
  (s.port port).link = 2 → (s.port port).windows.has w = false → s.unsealed port p = false →
  exec (.windowOpen fn sq d) s = .next ((s.updPort port (fun q => { q with windows := q.windows.put w win })).done c stOK 0 w))

/-- WINDOW_CLOSE (R346) of the partition's own window: it closes, its lines are recalled, and it completes when they are back. -/
def windowCloses : Prop := ∀ (s : State) (fn sq : Nat) (d : Desc) (p : Nat) (w : Window), Taken s 0x86 fn d p →
  let c := s.cmdOf fn sq d false
  let k := dFld d 239 232
  (s.port (c.fn / 64)).windows.get? k = some w → w.part = p →
  (w.closing = false → exec (.windowClose fn sq d) s = .next ((s.startClose (c.fn / 64) k w (some c)).cxlAgain))
  ∧ (w.closing = true → exec (.windowClose fn sq d) s = .next (s.refuse c stBAD dBUSY))

/-- PUBLISH (R350): it joins its region's sequence, which goes on as far as it can. -/
def publishes : Prop := ∀ (s : State) (fn sq : Nat) (d : Desc) (p : Nat) (x : Region), Taken s 0x87 fn d p →
  let c := s.cmdOf fn sq d false
  let r := dFld d 231 224
  s.host.regions.get? r = some x → x.part = p → dFld d 148 128 = 0 → dFld d 319 256 ≠ 2 ^ 64 - 1 →
  let y : PubWait := { cmd := c, region := r, gran := dFld d 183 149, expect := dFld d 319 256, active := false }
  exec (.publish fn sq d) s = .next (State.cxlAgain { s with host := { s.host with pubs := s.host.pubs ++ [y] } })

/-- The compare of a PUBLISH (R351): a version that is not the region's completes CONFLICT with the region's, counted at 0x8110.0F, and changes
nothing else. -/
def publishConflicts : Prop := ∀ (s : State) (x : PubWait) (r : Region), s.host.regions.get? x.region = some r → x.active = false →
  (s.addrCheck r.part (x.gran * 2097152) (r.count * 2097152)).any (fun f => f.1 == stDENIED) = false →
  s.windowable r.part x.gran r.count = true → s.inRegion x.gran r.count = false → x.expect ≠ 2 ^ 64 - 1 → x.expect ≠ r.version →
  let gone : State := { s with host := { s.host with pubs := s.host.pubs.filter (fun y => y != x) } }
  s.pubStep x = (gone.count 0x8110 0xF 1).done x.cmd stCONFLICT 0 (r.version % 2 ^ 32)

/-- BRIDGE_DOWN (R24): the halves cannot reach each other. BRIDGE_UP (R24, R343): they can. The blocks whose held writes were lost are poisoned, the held
writes are applied in the order they arrived, the latch of event 0x100C clears, and the event records owed, the messages to be forwarded, the selections, the
commands that waited and the inputs and accesses that waited go on. -/
def bridges : Prop := ∀ (s : State),
  exec .bridgeDown s = .next { s with boot := { s.boot with bridge := true } }
  ∧ (let s1 : State := { s with boot := { s.boot with bridge := false }, host := { s.host with held := [], heldLost := [] } }
    let s2 := s.host.heldLost.foldl (fun u l => u.poisonBlock (64 * l)) s1
    let s3 := s.host.held.foldl (fun u w => (List.range 4).foldl (fun v p => v.observe p w.line)
      (u.memWrite (64 * w.line) (mergeLine (u.memRead (64 * w.line) 64) w.data w.mask))) s2
    let s4 := (((s3.unlatch 0x100C 0).deliverOwed).forwardWaiting).bridgeBack
    exec .bridgeUp s = .next ((State.unpark s4.fab.parked s4).inputsBack).cxlAgain)

/-! ### The Dictionary, the field network, maintenance state, partitions and keys (ch 17, 18) -/

/-- A request of operation `op` on entry `idx`.`sub` passes steps 1 to 5 of R382 while the Dictionary is served. -/
abbrev Request (s : State) (o : Origin) (pdu : BitVec 256) (op idx sub : Nat) : Prop :=
  s.served = true ∧ requestFault o pdu op = none ∧ bits pdu 223 208 = idx ∧ bits pdu 207 200 = sub

/-- READ from offset 0 (R383): the value as it reads now, kept as the origin's snapshot, is answered; from a later offset its snapshot's
value, or SEQUENCE without one. One that may not read it is denied, and one that fails a check is answered with its detail. -/
def reads : Prop := ∀ (s : State) (o : Origin) (pdu : BitVec 256) (t idx sub : Nat),
  let u := s.at t
  (∀ d, u.served = true → requestFault o pdu 1 = some d → exec (.read o pdu t) s = .next (u.refuseD o pdu stBAD d))
  ∧ (Request u o pdu 1 idx sub → u.mayRead o idx sub = false → exec (.read o pdu t) s = .next (u.refuseD o pdu stDENIED dORIGIN))
  ∧ (Request u o pdu 1 idx sub → u.mayRead o idx sub = true → u.unreachable o idx sub false = false → bits pdu 191 160 = 0 →
    let v := u.readValue (u.fnOf o) idx sub
    exec (.read o pdu t) s = .next ((u.keepSnap o (dkey idx sub) v).readOut o pdu idx sub v))
  ∧ (Request u o pdu 1 idx sub → u.mayRead o idx sub = true → u.unreachable o idx sub false = false → bits pdu 191 160 ≠ 0 →
    (∀ x, u.snapOf o (dkey idx sub) = some x →
      exec (.read o pdu t) s = .next ((u.keepSnap o (dkey idx sub) x.value).readOut o pdu idx sub x.value))
    ∧ (u.snapOf o (dkey idx sub) = none → exec (.read o pdu t) s = .next (u.refuseD o pdu stBAD dSEQ)))

/-- WRITE of a whole value in one segment, LAST set (R384): the write of it; of a segment out of order: SEQUENCE, and what was staged
is gone; of a segment that is not the last, by the host port while the bridge is down: HELD, and what was staged stays (R393). -/
def writes : Prop := ∀ (s : State) (o : Origin) (pdu : BitVec 256) (d : List Byte) (t idx sub : Nat),
  let u := (s.at t).inFlight o pdu
  s.served = true → Request u o pdu 2 idx sub → bit pdu 78 = false → d.length = bits pdu 127 112 → d.length ≤ pathLimit o →
  (bits pdu 191 160 = 0 → bit pdu 79 = true → d.length = bits pdu 159 128 →
    exec (.write o pdu d t) s = .next ((u.unstage o).writeWhole o idx sub d))
  ∧ (bits pdu 191 160 ≠ 0 → u.stagedOf o = none → (bit pdu 79 = true ∨ u.boot.bridge = false ∨ u.byHost o = false) →
    exec (.write o pdu d t) s = .next ((u.unstage o).refuseD o pdu stBAD dSEQ))
  ∧ (bit pdu 79 = false → u.boot.bridge = true → u.byHost o = true → exec (.write o pdu d t) s = .next (u.refuseD o pdu stHELD 0))

/-- DESCRIBE (R383) of an entry the origin may read: its 16-byte record. -/
def describes : Prop := ∀ (s : State) (o : Origin) (pdu : BitVec 256) (t idx sub : Nat),
  let u := s.at t
  Request u o pdu 3 idx sub → u.mayRead o idx sub = true → u.unreachable o idx sub false = false →
  exec (.describe o pdu t) s = .next (u.answerD o pdu idx sub 0 16 stOK 0 (u.describe o idx sub))

/-- NEXT (R383): the record of the entry that follows; after the last one NO_ENTRY. -/
def nexts : Prop := ∀ (s : State) (o : Origin) (pdu : BitVec 256) (t idx sub : Nat),
  let u := s.at t
  Request u o pdu 4 idx sub → ((u.whoOf o).bm = true ∨ (u.whoOf o).part.isSome = true) →
  (∀ i j, nextEntry idx sub = some (i, j) → u.unreachable o i j false = false → u.mayRead o i j = true →
    exec (.next o pdu t) s = .next (u.answerD o pdu i j 0 16 stOK 0 (u.describe o i j)))
  ∧ (nextEntry idx sub = none → exec (.next o pdu t) s = .next (u.refuseD o pdu stBAD dNOENTRY))

/-- DMA_COMPLETION (R342, R387) of a waiting read with all its bytes: the value is written; with a failure, and at DMA_TIMEOUT: PARITY. Of a read that
does not wait: nothing. -/
def dmaEnds : Prop := ∀ (s : State) (fn id : Nat) (b : List Byte),
  let found := s.host.dma.find? (fun r => r.fn == fn && r.id == id)
  let s1 : State := { s with host := { s.host with dma := s.host.dma.filter (fun x => !(x.fn == fn && x.id == id)) } }
  (∀ r, found = some r →
    let pdu : BitVec 256 := BitVec.ofNat 256 r.pdu
    (b.length = r.len → exec (.dmaCompletion fn id true b) s =
      .next ((s1.dmaFrom fn (some b)).writeWhole r.o (bits pdu 223 208) (bits pdu 207 200) b))
    ∧ exec (.dmaCompletion fn id false b) s = .next (s1.refuseD r.o pdu stBAD dPARITY)
    ∧ exec (.dmaTimeout fn id) s = .next (s1.refuseD r.o pdu stBAD dPARITY))
  ∧ (found = none → exec (.dmaCompletion fn id true b) s = .next s ∧ exec (.dmaTimeout fn id) s = .next s)

/-- PEND_TIMER (R385): an answer with PEND to the transaction in flight of a session; none in flight: nothing. -/
def pends : Prop := ∀ (s : State) (sid : Nat), s.served = true →
  (∀ q, s.dict.pend.find? (fun p => p.1 = Origin.session sid) = some (.session sid, q) →
    exec (.pendTimer (.session sid)) s = .next (s.emit (.dict (.session sid)
      (pduWord (bitsN q 255 248 + 0x80) (bitsN q 239 224) (bitsN q 223 208) (bitsN q 207 200) 1 0 0 0 0 0 true) [])))
  ∧ (s.dict.pend.find? (fun p => p.1 = Origin.session sid) = none → exec (.pendTimer (.session sid)) s = .next s)

/-- SNAPSHOT_EXPIRY, STAGED_WRITE_EXPIRY (R383, R384): what the origin left for 10 s is gone. -/
def expiries : Prop := ∀ (s : State) (o : Origin) (t : Nat),
  let u := s.at t
  exec (.snapshotExpiry o t) s = .next { u with dict := { u.dict with
    snaps := u.dict.snaps.filter (fun x => x.o != originKey o || decide (u.ns < x.last + tenSeconds)) } }
  ∧ exec (.stagedWriteExpiry o t) s = .next { u with dict := { u.dict with
    staged := u.dict.staged.filter (fun x => x.o != originKey o || decide (u.ns < x.last + tenSeconds)) } }

/-- MAILBOX_POLL (R386): a request word with a new rseq starts a transaction, counted at 0x8100.0A; with the last one's, or while one is in
flight: nothing. -/
def polls : Prop := ∀ (s : State) (fn : Nat) (mreq : BitVec 64) (req : List Byte), fn < 256 → s.served = true →
  let b := s.boxes.getD fn Mailbox.zero
  (b.busy = false → bits mreq 15 0 ≠ b.rseq →
    let s1 : State := { s with boxes := s.boxes.put fn { b with rseq := bits mreq 15 0, done := false, pend := false, busy := true, req } }
    exec (.mailboxPoll fn mreq req) s = .next ((s1.count 0x8100 0xA 1).inFlight (.mailbox fn) (BitVec.ofNat 256 (leAt req 0 32))))
  ∧ ((b.busy = true ∨ bits mreq 15 0 = b.rseq) → exec (.mailboxPoll fn mreq req) s = .next s)

/-- FN_FRAME_RECEIVE (R389, R390): a frame of the protocol for this station is counted at 0x8100.01, a bad one at 0x8100.03 too; another
is not taken. -/
def frames : Prop := ∀ (s : State) (dst src et : Nat) (hdr : BitVec 128) (b : List Byte), s.served = true → s.fnet.link ≠ 0 →
  (et = 0x88B5 → (dst = s.mac ∨ dst = macAll) → headerBad hdr b = false →
    exec (.fnFrameReceive dst src et hdr b) s = .next (s.count 0x8100 1 1))
  ∧ (et = 0x88B5 → (dst = s.mac ∨ dst = macAll) → headerBad hdr b = true →
    exec (.fnFrameReceive dst src et hdr b) s = .next ((s.count 0x8100 1 1).count 0x8100 3 1))
  ∧ (et ≠ 0x88B5 → exec (.fnFrameReceive dst src et hdr b) s = .next s)

/-- DICT_FRAME (R389, R391): with the fseq of a response kept it is answered again, counted at 0x8100.06; a new one of the board manager is in
flight, one of a foreign source is denied. -/
def dictFrames : Prop := ∀ (s : State) (src : Nat) (hdr : BitVec 128) (b : List Byte), s.served = true → s.fnet.link ≠ 0 →
  headerBad hdr b = false → bits hdr 119 112 = 1 →
  let fseq := bits hdr 95 80
  let pdu : BitVec 256 := BitVec.ofNat 256 (leAt b 0 32)
  let kept := s.fnet.kept.find? (fun r => r.mac == src && r.fseq == fseq)
  (∀ r, kept = some r → exec (.dictFrame src hdr b) s = .next
    ((s.count 0x8100 6 1).sendFrame src 2 (fnHeader 2 (32 + r.value.length) fseq (s.netCfg 3) 0 0) (leBytes 32 r.pdu ++ r.value)))
  ∧ (kept = none → s.dict.pend.any (fun p => p.1 = Origin.net src fseq) = false →
    (s.foreign src = false → exec (.dictFrame src hdr b) s = .next (s.inFlight (.net src fseq) pdu))
    ∧ (s.foreign src = true → exec (.dictFrame src hdr b) s = .next (s.refuseD (.net src fseq) pdu stDENIED dORIGIN)))

/-- EVENT_ACK (R396): the frames whose records are all acknowledged are kept no more, and further records go out. EVENT_RESEND_TIMER: the rest
is sent again unchanged, counted at 0x8100.09. -/
def eventAcks : Prop := ∀ (s : State) (src : Nat) (hdr : BitVec 128), s.dark = false →
  (headerAloneBad hdr = false → bits hdr 119 112 = 4 → exec (.eventAck src hdr) s = .next (State.flushNet 16 { s with fnet := { s.fnet with
    unacked := s.fnet.unacked.filter (fun x => !(x.recs.all (fun r => seqUpTo r.seq (bits hdr 63 32)))) } }))
  ∧ (s.fnet.link ≠ 0 → exec .eventResendTimer s = .next (s.fnet.unacked.foldl (fun t x =>
    (t.count 0x8100 9 1).sendFrame (t.dval 0x1040 2) 3 (fnHeader 3 (32 * x.recs.length) x.fseq (t.netCfg 3) x.recs.length x.eseq)
      (x.recs.flatMap (fun e => leBytes 32 e.word))) s))
  ∧ (s.fnet.link = 0 → exec .eventResendTimer s = .next s)

/-- SPDM_FRAME (R392): a fragment of the board manager is assembled; one of a foreign source is denied. -/
def spdmFrames : Prop := ∀ (s : State) (src : Nat) (hdr : BitVec 128) (b : List Byte), s.served = true → s.fnet.link ≠ 0 →
  headerBad hdr b = false → bits hdr 119 112 = 5 →
  (s.foreign src = false → exec (.spdmFrame src hdr b) s = .next (s.spdmFrag src (b.take (bits hdr 111 96))))
  ∧ (s.foreign src = true → exec (.spdmFrame src hdr b) s = .next (s.refuseD (.net src (bits hdr 95 80)) 0#256 stDENIED dORIGIN))

/-- DISCOVER (R392): the device announces itself. FN_LINK_UP (R392, R398): so it does when the link comes up, its settings in force and its
backlog sent. FN_LINK_DOWN (R362, R396): secured sessions over the link end. -/
def fnLinks : Prop := ∀ (s : State) (src : Nat) (hdr : BitVec 128) (plca : Bool),
  (s.served = true → s.fnet.link ≠ 0 → headerAloneBad hdr = false → bits hdr 119 112 = 7 → exec (.discover src hdr) s = .next s.announce)
  ∧ (s.served = true → exec (.fnLinkUp plca) s = .next (State.flushNet 16 (State.announce { s with fnet := { s.fnet with
      link := if plca ∧ s.dval 0x1000 2 = 1 then 2 else 1, cfg := [1, 2, 3, 4, 5].map (fun k => s.dbytes 0x1000 k) } })))
  ∧ exec .fnLinkDown s = .next (State.endSpdm { s with fnet := { s.fnet with link := 0, asm := [] } } viaNet)

/-- MAINTENANCE_ENTER, MAINTENANCE_LEAVE (R397, Table 18-10): out of maintenance 1 starts the entry with event 0xF010; during the entry 0 takes it back
with event 0xF012; in maintenance 0 starts the leaving while no checkpoint or restore is open, and is BUSY while one is. -/
def maintWrites : Prop := ∀ (s : State) (o : Origin) (v : List Byte),
  (Writable s o 0xF000 1 v → s.maint.st = 0 → leNat v = 1 → exec (.maintenanceEnter o v) s = .next
    ((((s.setMaint 1 1).unlatch 0xF014 0).raise 0xF010 0 0 [originWord o]).answerW o 0xF000 1 v.length stOK 0))
  ∧ (Writable s o 0xF000 1 v → s.maint.st = 1 → leNat v = 0 → exec (.maintenanceLeave o v) s = .next
    (((s.setMaint 0 0).raise 0xF012 0 0 []).answerW o 0xF000 1 v.length stOK 0))
  ∧ (Writable s o 0xF000 1 v → s.maint.st = 2 → leNat v = 0 → s.ckptState = 0 → exec (.maintenanceLeave o v) s = .next
    ((s.setMaint 3 0).answerW o 0xF000 1 v.length stOK 0))
  ∧ (Checked s o 0xF000 1 v → s.maint.st = 2 → leNat v = 0 → s.ckptState ≠ 0 → exec (.maintenanceLeave o v) s = .next
    (s.answerW o 0xF000 1 v.length stDENIED dBUSY))

/-- MAINTENANCE_REACHED (Table 18-10): entered once no lane has a step in flight, event 0xF011 and a quiesce. MAINTENANCE_ENTRY_LATE: with lanes in flight,
event 0xF014 once with them. MAP_CHECK_DONE: service resumes with event 0xF012. -/
def maintCourse : Prop := ∀ (s : State),
  (s.maint.st = 1 → s.flyingLanes = 0 → exec .maintenanceReached s = .next ((s.setMaint 2 s.maint.written).raise 0xF011 0 0 []).quiesce)
  ∧ (s.flyingLanes ≠ 0 → exec .maintenanceReached s = .next s)
  ∧ (s.maint.st = 1 → s.flyingLanes ≠ 0 → exec .maintenanceEntryLate s = .next (s.raiseOnce 0xF014 0 0 0 [s.flyingLanes]))
  ∧ (s.maint.st = 3 → exec .mapCheckDone s = .next (((s.checkMap.setMaint 0 0).startRestoredTimers).raise 0xF012 0 0 []))

/-- PARTITION_ENABLE (R364, R366) of a disabled partition with an owner key, its entropy good: enabled with a fresh memory key, event 0x7001; without an owner
key it is refused. PARTITION_DISABLE of one that holds objects is denied. -/
def partWrites : Prop := ∀ (s : State) (o : Origin) (p : Nat) (v : List Byte), p < 64 →
  (Writable s o (0x7040 + p) 1 v → leNat v = 1 → s.partOn p = false → (s.dbytes (0x7040 + p) 2).isEmpty = false → s.sec.entropyBad = false →
    let s1 := s.dsetN (0x7040 + p) 1 1
    (s1.confidential && s1.coresShared) = false →
    let s2 : State := { s1 with sec := { s1.sec with memKeys := s1.sec.memKeys.put p s1.sec.draws, draws := s1.sec.draws + 4 } }
    exec (.partitionEnable o p v) s = .next ((s2.raise 0x7001 p 0 [p]).answerW o (0x7040 + p) 1 v.length stOK 0))
  ∧ (Checked s o (0x7040 + p) 1 v → leNat v = 1 → s.partOn p = false → (s.dbytes (0x7040 + p) 2).isEmpty = true →
    exec (.partitionEnable o p v) s = .next (s.answerW o (0x7040 + p) 1 v.length wRefused.1 wRefused.2))
  ∧ (Checked s o (0x7040 + p) 1 v → leNat v = 2 → p ≠ 0 → s.partOn p = true → s.holdsObjects p = true →
    exec (.partitionDisable o p v) s = .next (s.answerW o (0x7040 + p) 1 v.length wDenied.1 wDenied.2))
  ∧ (∀ s1, Writable s o (0x7040 + p) 1 v → leNat v = 2 → p ≠ 0 → s.partOn p = true → s.holdsObjects p = false → s.hasFunction p = false →
    s.disablePart p = .ok s1 → exec (.partitionDisable o p v) s = .next (s1.answerW o (0x7040 + p) 1 v.length stOK 0))

/-- What PARTITION_DISABLE leaves (R364): the partition's memory key, import, link key and Safelight counters are gone, with event 0x7002 the last
thing of it. -/
def partDisabled : Prop := ∀ (s s1 : State) (p : Nat), p ≠ 0 → s.partOn p = true → s.disablePart p = .ok s1 →
  ∃ s2 : State, s1 = s2.raise 0x7002 p 0 [p] ∧ s2.sec.memKeys = s.sec.memKeys.del p ∧ s2.sec.imported = s.sec.imported.del p
    ∧ s2.sec.linkKeys = s.sec.linkKeys.del p ∧ s2.sess = s.sess ∧ s2.host = s.host

/-- OWNER_KEY_WRITE (R364) while the partition is disabled, of a key no other has: stored; while it is enabled: refused. -/
def ownerWrites : Prop := ∀ (s : State) (o : Origin) (p : Nat) (v : List Byte), p < 64 →
  (Writable s o (0x7040 + p) 2 v → (p = 0 ∨ s.partOn p = false) → (List.range 64).any (fun q => q != p && s.dbytes (0x7040 + q) 2 == v) = false →
    exec (.ownerKeyWrite o p v) s = .next ((s.dset (0x7040 + p) 2 v).answerW o (0x7040 + p) 2 v.length stOK 0))
  ∧ (Checked s o (0x7040 + p) 2 v → p ≠ 0 → s.partOn p = true →
    exec (.ownerKeyWrite o p v) s = .next (s.answerW o (0x7040 + p) 2 v.length wRefused.1 wRefused.2))

/-- FUNCTION_BINDING_WRITE (R365) of a virtual function to an enabled partition: the function is reset with cause 2, then bound. -/
def bindings : Prop := ∀ (s : State) (o : Origin) (port f : Nat) (v : List Byte), port < 4 → f < 64 → f ≠ 0 →
  leNat v < 64 → s.partOn (leNat v) = true → s.host.tdi.getD (64 * port + f) 0 = 0 → Writable s o (0x7080 + port) (1 + f) v →
  exec (.functionBindingWrite o port (1 + f) v) s = .next
    (((s.fnReset (64 * port + f) 2).dsetN (0x7080 + port) (1 + f) (leNat v)).recheckStops.answerW o (0x7080 + port) (1 + f) v.length stOK 0)

/-- LINK_KEY_WRITE (R370): the key is in force at once, its counters restart and its windows are empty. -/
def linkKeys : Prop := ∀ (s : State) (o : Origin) (p : Nat) (v : List Byte), p < 64 → Writable s o (0x7040 + p) 4 v →
  exec (.linkKeyWrite o p v) s = .next ((s.linkKey p v).answerW o (0x7040 + p) 4 v.length stOK 0)

/-- KEY_EXPORT_REQUEST (R371) of a partition that may be exported, for a point of P-384: a package in 0x7040 + p, subindex 0x08, counted at 0x8700.04, event 0x7006; for one
that may not be exported: denied. -/
def keyExports : Prop := ∀ (s : State) (o : Origin) (p : Nat) (v : List Byte), p < 64 →
  (Writable s o (0x7040 + p) 7 v → s.dval (0x7040 + p) 6 ≠ 0 → s.sec.memKeys.has p = true → s.sec.entropyBad = false → onP384 v = true →
    let s1 := (s.draw 5).2.dset (0x7040 + p) 8 (s.package p v)
    exec (.keyExportRequest o p v) s = .next
      (((s1.count 0x8700 4 1).raise 0x7006 p 0 (p :: w2 (leNat ((sha384 v).take 8)))).answerW o (0x7040 + p) 7 v.length stOK 0))
  ∧ (Checked s o (0x7040 + p) 7 v → s.dval (0x7040 + p) 6 = 0 →
    exec (.keyExportRequest o p v) s = .next (s.answerW o (0x7040 + p) 7 v.length wDenied.1 wDenied.2))

/-- KEY_PACKAGE_IMPORT (R372) in maintenance into an enabled partition that holds nothing, of a good package: it takes the place of the memory key, counted at
0x8700.05, event 0x7005. -/
def imports : Prop := ∀ (s : State) (o : Origin) (p : Nat) (v : List Byte), p < 64 → Writable s o (0x7040 + p) 9 v → s.mayImport p = true →
  badPackage p v = false →
  let s1 : State := { s with sec := { s.sec with imported := s.sec.imported.put p (slice v 212 64) } }
  exec (.keyPackageImport o p v) s = .next (((s1.count 0x8700 5 1).raise 0x7005 p 0 [p]).answerW o (0x7040 + p) 9 v.length stOK 0)

/-- CONFIDENTIAL_MODE_WRITE (R374) in maintenance with nothing in its way: the mode, event 0x7003, and the functions that must use a secure stream are found
anew; out of maintenance: denied. -/
def confidentials : Prop := ∀ (s : State) (o : Origin) (v : List Byte),
  (Writable s o 0x7000 2 v → s.inMaint = true → leNat v ≠ s.dval 0x7000 2 → (leNat v = 1 → s.coresShared = false) →
    (leNat v = 0 → (List.range 64).any (fun p => decide (0 < p) && s.partOn p) = false) →
    exec (.confidentialModeWrite o v) s = .next
      (((s.dsetN 0x7000 2 (leNat v)).raise 0x7003 0 0 [leNat v]).recheckStops.answerW o 0x7000 2 v.length stOK 0))
  ∧ (Checked s o 0x7000 2 v → s.inMaint = false →
    exec (.confidentialModeWrite o v) s = .next (s.answerW o 0x7000 2 v.length wDenied.1 wDenied.2))

/-- SAFELIGHT_UPDATE (R375) with nothing counted since the last one changes nothing. -/
def safelightRests : Prop := ∀ (s : State), s.ctr.rest = [] → exec .safelightUpdate s = .next s

/-- SAFELIGHT_UPDATE (R375): what was counted since the last one enters each partition's aggregates in whole units. -/
def safelights : Prop := ∀ (s : State), exec .safelightUpdate s = .next ((List.range 64).foldl (fun u p => (List.range 5).foldl (fun v i =>
  let k := dkey (0x8780 + p) (1 + i)
  let n := v.ctr.rest.getD k 0
  if n < safeUnit (1 + i) then v
  else State.count { v with ctr := { v.ctr with rest := v.ctr.rest.put k (n % safeUnit (1 + i)) } } (0x8780 + p) (1 + i) (n / safeUnit (1 + i))) u) s)

/-! ### SPDM (ch 17) -/

/-- A plain request of `code` on transport `via` is heard (R361): SPDM answers, the message is of that code and version 1.3 (GET_VERSION's 1.0),
and the connection has come to stage `need`. -/
abbrev Plain (s : State) (via : Via) (msg : List Byte) (code need : Nat) : Prop :=
  s.boot.mode ≠ 3 ∧ s.boot.off = false ∧ 4 ≤ msg.length ∧ msgB msg 1 = code ∧ msgB msg 0 = (if code = 0x84 then 0x10 else 0x13)
    ∧ need ≤ (s.conn via).stage

/-- The state with the request `msg` in the transcript of its connection. -/
abbrev heard (s : State) (via : Via) (msg : List Byte) : State :=
  s.setConn { s.conn via with transcript := (s.conn via).transcript ++ msg }

/-- A request of `code` in session `n` of transport `via`, open, or during its handshake where `hs` (R361, R362). -/
abbrev Inside (s : State) (via : Via) (n : Nat) (x : SpdmSess) (msg : List Byte) (code : Nat) (hs : Bool) : Prop :=
  s.boot.mode ≠ 3 ∧ s.boot.off = false ∧ 4 ≤ msg.length ∧ msgB msg 1 = code ∧ code ≠ 0x84 ∧ msgB msg 0 = 0x13
    ∧ s.sec.sess.get? n = some x ∧ x.via = via ∧ x.open_ = !hs

/-- The state with session `n` heard of now. -/
abbrev fresh (s : State) (n : Nat) (x : SpdmSess) : State :=
  { s with sec := { s.sec with sess := s.sec.sess.put n { x with last := s.ns } } }

/-- GET_VERSION, GET_CAPABILITIES, NEGOTIATE_ALGORITHMS (Table 17-3): version 1.3 and a connection begun anew; the capabilities; the one choice of
algorithms, for a request that offers ECDSA P-384 and SHA-384. A request out of order is answered UnexpectedRequest. -/
def spdmSetups : Prop := ∀ (s : State) (via : Via) (msg : List Byte) (t : Nat),
  let u := heard (s.at t) via msg
  (Plain (s.at t) via msg 0x84 0 → exec (.getVersion via none msg t) s = .next
    ((u.setConn { SpdmConn.blank via with stage := 1, transcript := msg }).spdmAns via none 0x04 0 0 (leBytes 1 0 ++ leBytes 1 1 ++ leBytes 2 0x1300)))
  ∧ (Plain (s.at t) via msg 0xE1 1 → exec (.getCapabilities via none msg t) s = .next
    ((u.stageTo via 2).spdmAns via none 0x61 0 0 (leBytes 4 0 ++ leBytes 4 capFlags ++ leBytes 4 4096 ++ leBytes 4 65536)))
  ∧ (Plain (s.at t) via msg 0xE3 2 → bitN (leAt msg 8 4) 7 = true → bitN (leAt msg 12 4) 1 = true →
    exec (.negotiateAlgorithms via none msg t) s = .next ((u.stageTo via 3).spdmAns via none 0x63 4 0
      (leBytes 2 52 ++ leBytes 1 1 ++ leBytes 1 0 ++ leBytes 4 2 ++ leBytes 4 0x80 ++ leBytes 4 2 ++ leBytes 12 0 ++ leBytes 4 0
        ++ leBytes 2 0x2002 ++ leBytes 2 0x10 ++ leBytes 2 0x2003 ++ leBytes 2 2 ++ leBytes 2 0x2004 ++ leBytes 2 0x80
        ++ leBytes 2 0x2005 ++ leBytes 2 1)))
  ∧ (Plain (s.at t) via msg 0xE1 0 → (s.conn via).stage = 0 → exec (.getCapabilities via none msg t) s =
    .next ((s.at t).spdmErr via none eUnexpected 0))

/-- GET_DIGESTS, GET_CERTIFICATE (R359): the digests of the slots in use; a portion of a slot's chain and how much is left. -/
def spdmCerts : Prop := ∀ (s : State) (via : Via) (msg : List Byte) (t : Nat),
  let u := heard (s.at t) via msg
  (Plain (s.at t) via msg 0x81 3 → exec (.getDigests via none msg t) s = .next
    (u.spdmAns via none 0x01 3 u.slotMask (sha384 u.chain0 ++ (if u.chain1.isEmpty then [] else sha384 u.chain1))))
  ∧ (Plain (s.at t) via msg 0x82 3 →
    let c := u.chainOf (msgB msg 2 % 16)
    let off := leAt msg 4 2
    off < c.length → let b := slice c off (leAt msg 6 2)
    exec (.getCertificate via none msg t) s = .next
      (u.spdmAns via none 0x02 (msgB msg 2 % 16) 0 (leBytes 2 b.length ++ leBytes 2 (c.length - off - b.length) ++ b)))

/-- CHALLENGE (R357, R361): with good entropy its answer is signed by the Attestation key over the transcript; without, it is refused. -/
def spdmChallenges : Prop := ∀ (s : State) (via : Via) (msg : List Byte) (t : Nat),
  let u := heard (s.at t) via msg
  let k := msgB msg 2
  Plain (s.at t) via msg 0x83 3 → (u.chainOf k).isEmpty = false → 36 ≤ msg.length →
  (u.sec.entropyBad = true → exec (.challenge via none msg t) s = .next (u.spdmErr via none eUnspecified 0))
  ∧ (u.sec.entropyBad = false → msgB msg 3 = 0 →
    let n := u.draw 2
    let body := sha384 (u.chainOf k) ++ n.1 ++ [] ++ leBytes 2 0 ++ slice msg 36 8
    let g := n.2.sign ((n.2.conn via).transcript ++ body)
    exec (.challenge via none msg t) s = .next (g.2.spdmAns via none 0x03 k u.slotMask (body ++ g.1)))

/-- GET_MEASUREMENTS (R360) of one measurement, without a signature: its block; of one that is not there: InvalidRequest. -/
def spdmMeasures : Prop := ∀ (s : State) (via : Via) (msg : List Byte) (t : Nat),
  let u := heard (s.at t) via msg
  let n := msgB msg 3
  Plain (s.at t) via msg 0xE0 3 → n ≠ 0 → n ≠ 0xFF →
  (∀ x, u.measure n = some x → u.sec.entropyBad = false → bitN (msgB msg 2) 0 = false →
    exec (.getMeasurements via none msg t) s = .next ((u.draw 2).2.spdmAns via none 0x60 0 0
      (leBytes 1 1 ++ leBytes 3 (measBlock n x).length ++ measBlock n x ++ (u.draw 2).1 ++ leBytes 2 0 ++ slice msg 4 8)))
  ∧ (u.measure n = none → exec (.getMeasurements via none msg t) s = .next (u.spdmErr via none eInvalid 0))

/-- KEY_EXCHANGE (R362): at a limit of sessions it is refused with event 0x7007; below it a session begins its handshake, its number the lowest free one,
with mutual authentication asked for, and the answer is signed. -/
def spdmExchanges : Prop := ∀ (s : State) (via : Via) (msg : List Byte) (t : Nat),
  let u := heard (s.at t) via msg
  Plain (s.at t) via msg 0xE4 3 → (u.chainOf (msgB msg 3)).isEmpty = false → 136 ≤ msg.length →
  (u.spdmFull via = true → exec (.keyExchange via none msg t) s = .next ((u.spdmErr via none eLimit 0).raise 0x7007 0 0 [viaCode via]))
  ∧ (u.spdmFull via = false → u.sec.entropyBad = false →
    let n := u.sec.sess.firstFree (fun _ => true) 1
    let x : SpdmSess := { via, open_ := false, principal := 0, asked := true, chain := [], last := u.ns, keyGen := 0 }
    let d := State.draw { u with sec := { u.sec with sess := u.sec.sess.put n x } } 5
    let sum := if msgB msg 2 = 0 then [] else sha384 (measIndices.flatMap (fun i => (u.measure i).getD []))
    let body := leBytes 2 n ++ leBytes 1 3 ++ leBytes 1 (msgB msg 3) ++ d.1.take 32
      ++ fitBytes 96 (Config.crypto 16 (d.1.drop 32) (slice msg 40 96)) ++ sum ++ leBytes 2 0
    let g := d.2.sign ((d.2.conn via).transcript ++ body)
    exec (.keyExchange via none msg t) s = .next
      (g.2.spdmAns via none 0x64 10 0 (body ++ g.1 ++ fitBytes 48 (Config.crypto 17 (d.1.drop 32) (body ++ g.1)))))

/-- FINISH (R361, R363) of a handshake whose tag and, where the requester sent a chain, signature verify: the session is open with its principal, counted at 0x8700.01; else
the session is gone, counted at 0x8700.02, event 0x7004. -/
def spdmFinishes : Prop := ∀ (s : State) (via : Via) (n : Nat) (x : SpdmSess) (msg : List Byte) (t : Nat),
  let u := fresh (s.at t) n x
  let good := Config.cryptoOk 4 (leBytes 4 n) msg && (x.chain.isEmpty || (bitN (msgB msg 2) 0 && Config.cryptoOk 5 x.chain msg))
  Inside (s.at t) via n x msg 0xE5 true →
  (good = true → exec (.finish via (some n) msg t) s = .next
    (((u.updSess n (fun y => { y with open_ := true, asked := false, principal := u.principalOf x.chain })).count 0x8700 1 1).spdmAns
      via (some n) 0x65 0 0 (fitBytes 48 (Config.crypto 19 (leBytes 4 n) msg))))
  ∧ (good = false → exec (.finish via (some n) msg t) s = .next
    (((u.endSessions (fun k => k == n)).spdmErr via none eDecrypt 0).authFails via))

/-- HEARTBEAT, KEY_UPDATE, END_SESSION (R361, R362) in an open session: heard of; new keys; the session ends. Outside one: SessionRequired. -/
def spdmSessions : Prop := ∀ (s : State) (via : Via) (n : Nat) (x : SpdmSess) (msg : List Byte) (t : Nat),
  let u := fresh (s.at t) n x
  (Inside (s.at t) via n x msg 0xE8 false → exec (.heartbeat via (some n) msg t) s = .next (u.spdmAns via (some n) 0x68 0 0 []))
  ∧ (Inside (s.at t) via n x msg 0xE9 false → (msgB msg 2 = 1 ∨ msgB msg 2 = 2) → exec (.keyUpdate via (some n) msg t) s = .next
    ((u.updSess n (fun y => { y with keyGen := y.keyGen + 1 })).spdmAns via (some n) 0x69 (msgB msg 2) (msgB msg 3) []))
  ∧ (Inside (s.at t) via n x msg 0xEC false → exec (.endSession via (some n) msg t) s = .next
    ((u.spdmAns via (some n) 0x6C 0 0 []).endSessions (fun k => k == n)))
  ∧ (Plain (s.at t) via msg 0xE8 0 → exec (.heartbeat via none msg t) s = .next ((s.at t).spdmErr via none eSession 0))

/-- SET_CERTIFICATE (R359) of slot 1 in an operator session: a chain whose leaf certifies the Attestation key is stored; another is counted as a failure. -/
def spdmSetCerts : Prop := ∀ (s : State) (via : Via) (n : Nat) (x : SpdmSess) (msg : List Byte) (t : Nat),
  let u := fresh (s.at t) n x
  Inside (s.at t) via n x msg 0xEE false → x.principal = 1 → msgB msg 2 % 16 = 1 →
  ((u.setChain1 (msg.drop 4)).2 = true →
    exec (.setCertificate via (some n) msg t) s = .next ((u.setChain1 (msg.drop 4)).1.spdmAns via (some n) 0x6E 1 0 []))
  ∧ ((u.setChain1 (msg.drop 4)).2 = false →
    exec (.setCertificate via (some n) msg t) s = .next ((u.authFails via).spdmErr via (some n) eInvalid 0))

/-- GET_ENCAPSULATED_REQUEST, DELIVER_ENCAPSULATED_RESPONSE (R363) during a handshake that asked for the requester's chain: it is asked for from where it stands; an ERROR in
its place ends the asking with no chain. -/
def spdmEncaps : Prop := ∀ (s : State) (via : Via) (n : Nat) (x : SpdmSess) (msg : List Byte) (t : Nat),
  let u := fresh (s.at t) n x
  x.asked = true →
  (Inside (s.at t) via n x msg 0xEA true → exec (.getEncapsulatedRequest via (some n) msg t) s = .next (u.spdmAns via (some n) 0x6A 1 0
    (leBytes 1 0x13 ++ leBytes 1 0x82 ++ leBytes 2 0 ++ leBytes 2 x.chain.length ++ leBytes 2 4096)))
  ∧ (Inside (s.at t) via n x msg 0xEB true → msgB msg 5 = 0x7F → exec (.deliverEncapsulatedResponse via (some n) msg t) s = .next
    ((u.updSess n (fun z => { z with asked := false, chain := [] })).spdmAns via (some n) 0x6B 1 0 (leBytes 4 0)))

/-- CHUNK_SEND (R361): a first chunk that is not the last is kept. CHUNK_GET with no large answer waiting: InvalidRequest. -/
def spdmChunks : Prop := ∀ (s : State) (via : Via) (msg : List Byte) (t : Nat),
  let u := heard (s.at t) via msg
  let c := u.conn via
  let b := slice msg 16 (leAt msg 8 4)
  (Plain (s.at t) via msg 0x85 3 → leAt msg 4 2 = 0 → b.length ≤ 65536 → bitN (msgB msg 2) 0 = false → exec (.chunkSend via none msg t) s = .next
    ((u.setConn { c with chunkIn := b, chunkHandle := msgB msg 3, chunkNext := 1 }).spdmOut via none
      (leBytes 1 0x13 ++ leBytes 1 5 ++ leBytes 1 0 ++ leBytes 1 (msgB msg 3) ++ leBytes 2 0)))
  ∧ (Plain (s.at t) via msg 0x86 3 → c.chunkOut = [] → exec (.chunkGet via none msg t) s = .next (u.spdmErr via none eInvalid 0))
  ∧ (Plain (s.at t) via msg 0x86 3 → c.chunkOut ≠ [] → msgB msg 3 = c.outHandle → leAt msg 4 2 = 0 → c.outNext = 0 → 4080 < c.chunkOut.length →
    exec (.chunkGet via none msg t) s = .next ((u.setConn { c with outNext := 1 }).spdmOut via none (leBytes 1 0x13 ++ leBytes 1 6 ++ leBytes 1 0
      ++ leBytes 1 c.outHandle ++ leBytes 2 0 ++ leBytes 2 0 ++ leBytes 4 4080 ++ leBytes 4 c.chunkOut.length ++ slice c.chunkOut 0 4080)))

/-- SPDM_SESSION_TIMEOUT (R362): the session is gone. DRBG_RESEED (R357): the DRBG draws anew; a failed health test stops what needs random values, with event
0x7008. -/
def spdmTimes : Prop := ∀ (s : State) (sid : Nat),
  let s1 : State := { s with sec := { s.sec with entropyBad := true, draws := s.sec.draws + 1 } }
  exec (.spdmSessionTimeout sid) s = .next (s.endSessions (fun k => k == sid))
  ∧ exec (.drbgReseed true) s = .next { s with sec := { s.sec with entropyBad := false, draws := s.sec.draws + 1 } }
  ∧ exec (.drbgReseed false) s = .next (s1.raise 0x7008 0 0 [])

/-! ### Clocks and margins (ch 19) -/

/-- TIME_MAP_SAMPLE (R404, R405) at island time `t`: a host time above the maps' samples is taken by both halves' maps, the first one
with rate 0, a later one with the rate from the last two samples once 100 ms lie between them, and else with the old rate; a rate that the clamp
changes is counted at 0x8900.03, with event 0x9004; one that does not lie above a map's sample is refused with RANGE. -/
def timeSamples : Prop := ∀ (s : State) (o : Origin) (p t : Nat) (v : List Byte), p < 4 →
  let u := s.at t
  let h := leNat v
  let m := fun (k : Nat) => u.timeMap p k
  let rate := fun (k : Nat) => rateOf (m k).h (m k).s h u.ns
  let later := fun (k : Nat) => (m k).have_ = true ∧ (m k).s + 100000000 ≤ u.ns
  let n := fun (k : Nat) =>
    if (m k).have_ = false then ({ h := h, s := u.ns, e := 0, have_ := true, valid := true } : TimeMap)
    else if (m k).s + 100000000 ≤ u.ns then { h := h, s := u.ns, e := clampRate (rate k), have_ := true, valid := true }
    else { h := h, s := u.ns, e := (m k).e, have_ := true, valid := true }
  let s1 : State := { u with clk := { u.clk with maps := (u.clk.maps.put (2 * p) (n 0)).put (2 * p + 1) (n 1) } }
  let s2 := (((s1.count 0x8900 2 1).unlatch 0x9005 (2 * p)).unlatch 0x9005 (2 * p + 1)).mapTold
  (Writable u o (0x9020 + p) 1 v → (∀ k, k < 2 → (m k).have_ = true → (m k).h < h) →
    ((∀ k, k < 2 → later k → clampRate (rate k) = rate k) →
      exec (.timeMapSample o p v t) s = .next (s2.answerW o (0x9020 + p) 1 v.length stOK 0))
    ∧ ((∃ k, k < 2 ∧ later k ∧ clampRate (rate k) ≠ rate k) →
      exec (.timeMapSample o p v t) s = .next (((s2.count 0x8900 3 1).raise 0x9004 0 0 [p]).answerW o (0x9020 + p) 1 v.length stOK 0)))
  ∧ (Checked u o (0x9020 + p) 1 v → (∃ k, k < 2 ∧ (m k).have_ = true ∧ h ≤ (m k).h) →
    exec (.timeMapSample o p v t) s = .next (u.answerW o (0x9020 + p) 1 v.length stBAD dRANGE))

/-- TIME_MAP_EMPTY (R404): the maps of the port go on both halves. TIME_MAP_INVALID (R406): a valid map of a half turns invalid, with event
0x9005 once; one that is invalid, or not there, stays. -/
def mapsEnd : Prop := ∀ (s : State) (p h : Nat), p < 4 → h < 2 →
  (∀ (o : Origin) (v : List Byte), Writable s o (0x9020 + p) 7 v →
    let s1 := (s.mapInvalid p 0).mapInvalid p 1
    exec (.timeMapEmpty o p v) s = .next (State.answerW
      { s1 with clk := { s1.clk with maps := (s1.clk.maps.del (2 * p)).del (2 * p + 1) } } o (0x9020 + p) 7 v.length stOK 0))
  ∧ ((s.timeMap p h).have_ = true → (s.timeMap p h).valid = true →
    let s1 : State := { s with clk := { s.clk with maps := s.clk.maps.put (2 * p + h) { s.timeMap p h with valid := false } } }
    exec (.timeMapInvalid p h) s = .next (s1.raiseOnce 0x9005 (2 * p + h) 0 h [p, h]))
  ∧ ((s.timeMap p h).have_ = false ∨ (s.timeMap p h).valid = false → exec (.timeMapInvalid p h) s = .next s)

/-- CALENDAR_SET (R407) of a calendar that is UNSET or RESUMED: it steps there. Of a SET one: within 0x9010.03 it slews, beyond it forward it
steps, and backward it is refused outside maintenance mode. -/
def calendarSets : Prop := ∀ (s : State) (o : Origin) (v : List Byte),
  let n := leNat v
  let d : Int := (n : Int) - s.clk.cal.now
  let lim : Int := s.dval 0x9010 3
  (Writable s o 0x9010 1 v →
    (s.clk.cal.st ≠ 2 → exec (.calendarSet o v) s = .next ((s.calStep n).answerW o 0x9010 1 v.length stOK 0))
    ∧ (s.clk.cal.st = 2 → -lim ≤ d → d ≤ lim →
      let s1 : State := { s with clk := { s.clk with cal := { s.clk.cal with slew := d, frac := 0, saved := s.clk.cal.now } } }
      exec (.calendarSet o v) s = .next (((s1.count 0x8900 1 1).raise 0x9002 0 0 [toW 32 d]).answerW o 0x9010 1 v.length stOK 0))
    ∧ (s.clk.cal.st = 2 → -lim ≤ lim → lim < d →
      exec (.calendarSet o v) s = .next ((s.calStep n).answerW o 0x9010 1 v.length stOK 0)))
  ∧ (Checked s o 0x9010 1 v → s.clk.cal.st = 2 → d < -lim → -lim ≤ lim → s.inMaint = false →
    exec (.calendarSet o v) s = .next (s.answerW o 0x9010 1 v.length stBAD dRANGE))

/-- CALENDAR_DISTRIBUTE (R407, R409): a millisecond passes. Without a slew the calendar gains one; East's copy, and West's while the bridge is up,
take the value unless they would run backward. -/
def calendarTicks : Prop := ∀ (s : State), s.clk.cal.slew = 0 → s.boot.bridge = false →
  let c := s.clk.cal
  let n : Calendar := { c with now := c.now + 1, frac := 0, copy := { w := max c.copy.w (c.now + 1), e := max c.copy.e (c.now + 1) }, age := { w := 0, e := 0 }, free := { w := false, e := false } }
  let s1 : State := { s with clk := { s.clk with cal := n } }
  exec .calendarDistribute s = .next (s1.unlatch 0x9003 0).dayRoll

/-- A calendar in a slew (R407) gains or loses one ms per 1,000,000 ÷ rate ms, and never runs backward. -/
def calendarSlews : Prop := ∀ (c : Calendar) (ppm : Nat),
  c.now ≤ (c.tick ppm).now ∧ (c.tick ppm).now ≤ c.now + 2
  ∧ (c.slew = 0 → (c.tick ppm).now = c.now + 1)
  ∧ (c.slew ≠ 0 → c.frac + ppm < 1000000 → (c.tick ppm).now = c.now + 1 ∧ (c.tick ppm).slew = c.slew)
  ∧ (0 < c.slew → 1000000 ≤ c.frac + ppm → (c.tick ppm).now = c.now + 2 ∧ (c.tick ppm).slew = c.slew - 1)
  ∧ (c.slew < 0 → 1000000 ≤ c.frac + ppm → (c.tick ppm).now = c.now ∧ (c.tick ppm).slew = c.slew + 1)

/-- CALENDAR_FREE_RUN (R409): a copy that got no value for 10 ms runs free, with event 0x9003 once; before, or when it does already, nothing.
CALENDAR_PERSIST (R410): the calendar's value is in eMRAM. -/
def calendarKeeps : Prop := ∀ (s : State) (h : Nat), h < 2 →
  (s.clk.cal.free.get h = false → 10 ≤ s.clk.cal.age.get h →
    let s1 : State := { s with clk := { s.clk with cal := { s.clk.cal with free := s.clk.cal.free.set h true } } }
    exec (.calendarFreeRun h) s = .next (s1.raiseOnce 0x9003 h 0 h [if h = 0 then 40 else 87]))
  ∧ (s.clk.cal.free.get h = true ∨ s.clk.cal.age.get h < 10 → exec (.calendarFreeRun h) s = .next s)
  ∧ exec .calendarPersist s = .next { s with clk := { s.clk with cal := { s.clk.cal with saved := s.clk.cal.now } } }

/-- LEASE_RENEW_REQUEST (R416, R434): the request's time is kept; a half that runs gets a grant with the epoch, and the lead flag while it
leads and no drop is awaited; nobody leading, it takes the lead first; a half that stalls gets nothing. -/
def leasesAsk : Prop := ∀ (s : State) (h t : Nat), h < 2 →
  let u := (s.at t).updLease h (fun l => { l with sentAt := (s.at t).ns })
  let v := u.emit (.inner 0 h 0)
  ((v.clk.lease.get h).stalled = false → (h = 0 ∨ v.boot.bridge = false) →
    (v.clk.lead.half.isNone = false → exec (.leaseRenewRequest h t) s = .next (v.sendGrant h))
    ∧ (v.clk.lead.half.isNone = true → exec (.leaseRenewRequest h t) s = .next ((v.passLead h).sendGrant h)))
  ∧ ((v.clk.lease.get h).stalled = true → exec (.leaseRenewRequest h t) s = .next v)

/-- LEASE_GRANT (Table 19-5) to a half that is not in HOLD and takes no lead from another: its lease runs 10 ms from its request, with the grant's epoch
and flag. In HOLD it returns to RUN with event 0x9011, and what waited goes on. -/
def leasesGranted : Prop := ∀ (s : State) (h epoch t : Nat) (lead : Bool), h < 2 → epoch < 2 ^ 32 →
  let u := s.at t
  let l := u.clk.lease.get h
  let s1 := u.updLease h (fun x => { x with hold := false, ends := x.sentAt + 10000000, epoch := epoch, lead := lead })
  (lead = false ∨ l.lead = true ∨ l.epoch = 0 ∨ epoch ≤ l.epoch) →
  (l.hold = false → exec (.leaseGrant h epoch lead t) s = .next s1)
  ∧ (l.hold = true → exec (.leaseGrant h epoch lead t) s = .next (s1.raise 0x9011 0 h [h, epoch]).afterHold)

/-- HALF_LEASE_END (Table 19-5): the half goes to HOLD and drops its lead duties, counted at 0x8900.04, event 0x9010; in HOLD, nothing. -/
def leasesEnd : Prop := ∀ (s : State) (h : Nat), h < 2 →
  ((s.clk.lease.get h).hold = false →
    exec (.halfLeaseEnd h) s = .next (((s.updLease h (fun x => { x with hold := true, lead := false, ends := min x.ends s.ns })).count 0x8900 4 1).raise
      0x9010 0 h [h, (s.clk.lease.get h).epoch]))
  ∧ ((s.clk.lease.get h).hold = true → exec (.halfLeaseEnd h) s = .next s)

/-- ROT_GRANT_END (R417): the grant of the lead half over, the lead passes to the other half with the next epoch while that holds a grant,
else to nobody; the grant of a half that does not lead just ends. -/
def grantsEnd : Prop := ∀ (s : State) (h : Nat), h < 2 →
  let s1 := s.updLease h (fun l => { l with rotRuns := false })
  (s1.clk.lead.half ≠ some h → exec (.rotGrantEnd h) s = .next s1)
  ∧ (s1.clk.lead.half = some h → (s1.clk.lease.get (otherHalf h)).rotRuns = true →
    exec (.rotGrantEnd h) s = .next ((s1.passLead (otherHalf h)).sendGrant (otherHalf h)))
  ∧ (s1.clk.lead.half = some h → (s1.clk.lease.get (otherHalf h)).rotRuns = false →
    exec (.rotGrantEnd h) s = .next { s1 with clk := { s1.clk with lead := { s1.clk.lead with half := none, moving := none } } })

/-- LEAD_MOVE_WRITE (R417): the half that leads already is OK; one without a current grant is refused; else the present lead is told to drop its
duties, and LEAD_DROP_ACK passes the lead with the next epoch. With no move under way the drop is nothing. -/
def leadsMove : Prop := ∀ (s : State) (o : Origin) (v : List Byte),
  let h := leNat v
  (Writable s o 0x9000 6 v →
    (s.clk.lead.half = some h → exec (.leadMoveWrite o v) s = .next (s.answerW o 0x9000 6 v.length stOK 0))
    ∧ (∀ p, s.clk.lead.half = some p → p ≠ h → (s.clk.lease.get h).rotRuns = true →
      let s1 : State := { s with clk := { s.clk with lead := { s.clk.lead with moving := some h } } }
      exec (.leadMoveWrite o v) s = .next ((s1.sendGrant p).answerW o 0x9000 6 v.length stOK 0)))
  ∧ (Checked s o 0x9000 6 v → s.clk.lead.half ≠ some h → (s.clk.lease.get h).rotRuns = false →
    exec (.leadMoveWrite o v) s = .next (s.answerW o 0x9000 6 v.length stBAD dRANGE))
  ∧ (s.clk.lead.moving = none → exec .leadDropAck s = .next s)
  ∧ (∀ k, s.clk.lead.moving = some k → (s.clk.lease.get k).rotRuns = true → exec .leadDropAck s = .next ((s.passLead k).sendGrant k))

/-- The lead passed (R417): E increases by one, and the half leads. -/
def leadPasses : Prop := ∀ (s : State) (h : Nat),
  (s.passLead h).clk.lead.half = some h ∧ (s.passLead h).clk.lead.epoch = (s.clk.lead.epoch + 1) % 2 ^ 32
  ∧ (s.passLead h).clk.lead.moving = none

/-- LEAD_MESSAGE (R418): with a lower epoch it is refused with event 0x9013 and answered with the half's own; at a higher one the half yields and asks for
renewal at once; with the half's own, nothing changes. -/
def leadMessages : Prop := ∀ (s : State) (h e : Nat), h < 2 →
  let l := s.clk.lease.get h
  (e < l.epoch → exec (.leadMessage h e) s = .next (((s.count 0x8900 9 1).raise 0x9013 0 h [h, e, l.epoch]).emit (.inner 2 h l.epoch)))
  ∧ (l.epoch < e → l.hold = false → exec (.leadMessage h e) s = .next ((s.updLease h (fun x => { x with lead := false })).askRenew h))
  ∧ (l.epoch = e → exec (.leadMessage h e) s = .next s)

/-- REFCLK_LOSS (R425) in service: counted at 0x8F00.06, event 0xF006; REFCLK_RETURN: event 0xF006, and what was held goes on. -/
def refclks : Prop := ∀ (s : State), s.boot.mode ≠ 0 →
  (s.boot.refLost = false → exec .refclkLoss s = .next
    ((State.count { s with boot := { s.boot with refLost := true } } 0x8F00 6 1).raise 0xF006 0 0 [0]))
  ∧ (s.boot.refLost = true → exec .refclkLoss s = .next s)
  ∧ (s.boot.refLost = true → exec .refclkReturn s = .next
    (State.raise { s with boot := { s.boot with refLost := false } } 0xF006 0 0 [1]).afterHold)
  ∧ (s.boot.refLost = false → exec .refclkReturn s = .next s)

/-- LIFETIME_UPDATE (R411): a second of power-on is counted, and one above 105 °C where the hottest island is; each of the 100 islands has its second.
LIFETIME_PERSIST: the device's lifetime counters, and each island's, are in the store. -/
def lifetimes : Prop := ∀ (s : State) (temps : List Int),
  let isl := (List.range 100).map (fun i => (i, (s.island i).second i ((temps[i]?).getD (s.island i).temp)))
  let hot := isl.foldl (fun m x => max m x.2.temp) ((isl.head?.map (·.2.temp)).getD 0)
  exec (.lifetimeUpdate temps) s = .next (State.lifeTold { s with clk := { s.clk.thermalTurn hot with
    islands := isl, onSeconds := min (s.clk.onSeconds + 1) (2 ^ 64 - 1)
    hotSeconds := min (s.clk.hotSeconds + (if 10500 < hot then 1 else 0)) (2 ^ 64 - 1) } })
  ∧ exec .lifetimePersist s = .next s.lifeSave

/-- A second of an island (R411): its active seconds go up by one and saturate, its hottest temperature is kept, its stress grows by the whole part of the
weight added to the fraction it has. -/
def islandSeconds : Prop := ∀ (x : Island) (i : Nat) (t : Int),
  let y := x.second i t
  let p := fsplit (fadd x.frac (stressWeight t x.volt (factoryVolt (islandKind i))))
  y.temp = t ∧ y.active = min (x.active + 1) (2 ^ 64 - 1) ∧ y.hottest = max x.hottest t ∧ y.stress = min (x.stress + p.1) (2 ^ 64 - 1)
  ∧ y.frac = p.2 ∧ y.volt = x.volt ∧ y.slack = x.slack ∧ y.plan = x.plan ∧ y.vp = x.vp ∧ y.seq = x.seq

/-- REPLAN_PERIOD and REPLAN_NOW (R413): every island gets a re-plan. -/
def replans : Prop := ∀ (s : State) (o : Origin) (v : List Byte),
  let all := (List.range 100).foldl (fun t i => t.replan i) s
  exec .replanPeriod s = .next all
  ∧ (Writable s o 0x9040 2 v → exec (.replanNow o v) s = .next (all.answerW o 0x9040 2 v.length stOK 0))

/-- The re-plan of an island (R413): counted at 0x8900.06; a target equal to the applied voltage leaves no plan; a new one inside its kind's envelope and
step is PENDING with event 0x9020, and any other AWAITS APPROVAL, counted at 0x8900.08 with event 0x9021. -/
def replansOne : Prop := ∀ (s : State) (i vp : Nat) (x : Island),
  let u := s.count 0x8900 6 1
  let k := islandKind i
  let seq := (u.clk.planSeq + 1) % 2 ^ 32
  let ok : Prop := u.dval (0x9050 + k) 2 ≤ vp ∧ vp ≤ u.dval (0x9050 + k) 3 ∧ (vp - x.volt) + (x.volt - vp) ≤ u.dval (0x9050 + k) 4
  u.island i = x → planVolt (u.curveAt k).1 (u.curveAt k).2 x.volt (u.dval (0x9050 + k) 5) x.slack = vp →
  (vp = x.volt → s.replan i = u.setIsland i { x with plan := 0, vp := 0, seq := 0 })
  ∧ (vp ≠ x.volt → ok →
    let s1 : State := { u with clk := { u.clk with islands := u.clk.islands.put i { x with plan := 1, vp := vp, seq := seq }, planSeq := seq } }
    s.replan i = s1.raise 0x9020 0 0 [i, seq, vp])
  ∧ (vp ≠ x.volt → ¬ ok →
    let s1 : State := { u with clk := { u.clk with islands := u.clk.islands.put i { x with plan := 2, vp := vp, seq := seq }, planSeq := seq } }
    s.replan i = (s1.count 0x8900 8 1).raise 0x9021 0 0 [i, seq, vp])

/-- A stage (R414, R415) moves the applied voltage toward Vp by at most 10 mV and never past it; at Vp the plan is gone. -/
def stages : Prop := ∀ (x : Island), x.volt ≠ x.vp →
  let y := x.stage
  (x.volt < x.vp → y.volt = min x.vp (x.volt + 10)) ∧ (x.vp < x.volt → y.volt = max x.vp (x.volt - 10))
  ∧ (y.volt = x.vp → y.plan = 0 ∧ y.vp = 0 ∧ y.seq = 0) ∧ (y.volt ≠ x.vp → y.plan = x.plan ∧ y.vp = x.vp ∧ y.seq = x.seq)

/-- MARGIN_CURVE_WRITE (R412, Table 19-7) of the curve or the envelope stores it and re-plans the kind; of subindex 5 it stores; a bad curve is
TABLE_INVALID, an envelope whose low lies above its high RANGE; a kind that is not there is no command. -/
def marginWrites : Prop := ∀ (s : State) (o : Origin) (k sub : Nat) (v : List Byte),
  (k < 17 → Writable s o (0x9050 + k) sub v → s.marginRule k sub v = none →
    (sub = 5 → exec (.marginCurveWrite o k sub v) s = .next ((s.dset (0x9050 + k) sub v).answerW o (0x9050 + k) sub v.length stOK 0))
    ∧ (sub ≠ 5 → exec (.marginCurveWrite o k sub v) s = .next
      (((s.dset (0x9050 + k) sub v).replanAll (fun i => islandKind i == k)).answerW o (0x9050 + k) sub v.length stOK 0)))
  ∧ (k < 17 → Checked s o (0x9050 + k) 1 v → marginCurveOk k v = false →
    exec (.marginCurveWrite o k 1 v) s = .next (s.answerW o (0x9050 + k) 1 v.length stTABLE 0))
  ∧ (k < 17 → Checked s o (0x9050 + k) 2 v → s.dval (0x9050 + k) 3 < leNat v →
    exec (.marginCurveWrite o k 2 v) s = .next (s.answerW o (0x9050 + k) 2 v.length stBAD dRANGE))
  ∧ (17 ≤ k → exec (.marginCurveWrite o k sub v) s = .fault (.noSuchUnit "island kind" k))

/-- SLACK_READ (R414): the island's slack and ring count are what was read; on falling below 0x9040.03 event 0x9023, and then a PENDING plan that raises the
voltage has a stage at once. -/
def slacks : Prop := ∀ (s : State) (i slack ring : Nat), i < 100 → slack < 65536 → ring < 2 ^ 32 →
  let x := s.island i
  let s1 := fun (low : Bool) => s.setIsland i { x with slack := slack, ring := ring, low := low }
  (s.dval 0x9040 3 ≤ slack → exec (.slackRead i slack ring) s = .next (s1 false))
  ∧ (slack < s.dval 0x9040 3 → x.low = true → exec (.slackRead i slack ring) s = .next (s1 true))
  ∧ (slack < s.dval 0x9040 3 → x.low = false → x.plan ≠ 1 →
    exec (.slackRead i slack ring) s = .next ((s1 true).raise 0x9023 0 0 [i, slack]))
  ∧ (slack < s.dval 0x9040 3 → x.low = false → x.plan = 1 → x.volt < x.vp →
    exec (.slackRead i slack ring) s = .next (((s1 true).raise 0x9023 0 0 [i, slack]).stageOf i))

/-- PLAN_APPROVE (R415): a plan that awaits approval is APPROVED by its own sequence number and discarded by 0; any other write is refused. -/
def approves : Prop := ∀ (s : State) (o : Origin) (i : Nat) (v : List Byte), i < 100 →
  let x := s.island i
  (Writable s o (0x9080 + i) 9 v → x.plan = 2 →
    (leNat v = x.seq → exec (.planApprove o i v) s = .next ((s.setIsland i { x with plan := 3 }).answerW o (0x9080 + i) 9 v.length stOK 0))
    ∧ (leNat v = 0 → x.seq ≠ 0 → exec (.planApprove o i v) s = .next
      ((s.setIsland i { x with plan := 0, vp := 0, seq := 0 }).answerW o (0x9080 + i) 9 v.length stOK 0)))
  ∧ (Checked s o (0x9080 + i) 9 v → x.plan ≠ 2 → x.plan ≠ 3 →
    exec (.planApprove o i v) s = .next (s.answerW o (0x9080 + i) 9 v.length stBAD dRANGE))

/-! ### Start-up, the service port, the feed and pacing (ch 20, 21) -/

/-- POWER_ON (R452, R455, R457): BSLOT and LEAD_PREF are sampled, and a start-up begins; after a shutdown, before the feed fell, nothing. -/
def powerOns : Prop := ∀ (s : State) (straps : Nat) (ref : Bool),
  (s.boot.shut = false ∨ s.boot.off = true → exec (.powerOn straps ref) s = .next
    (State.start { s with boot := { s.boot with bslot := straps % 16, leadPref := straps / 16 % 2, refLost := !ref } } 0))
  ∧ (s.boot.shut = true → s.boot.off = false → exec (.powerOn straps ref) s = .next s)

/-- What a start-up keeps (Table 20-1, R428 to R431): the persisted store, the anchored granules with their T2 and T1 blocks, the checkpoint slots and the restore mark, the
memory keys and link keys, and the firmware slots; it begins with no session, request, page, exchange, profile, table or index, every link down, every counter 0 and no latch. -/
def startKeeps : Prop := ∀ (s : State) (warm : Bool) (last : Nat),
  let f := s.fresh warm last
  f.dict.store = s.dict.store ∧ f.dict.vals = [] ∧ f.ckpt.slots = s.ckpt.slots ∧ f.ckpt.mark = s.ckpt.mark ∧ f.ckpt.run = none
  ∧ f.tiers.grans = s.bootGrans ∧ f.sec.memKeys = s.sec.memKeys ∧ f.sec.linkKeys = s.sec.linkKeys ∧ f.pending = s.pending
  ∧ f.sess = State.reset.sess ∧ f.pages = State.reset.pages ∧ f.profs = State.reset.profs ∧ f.emb = State.reset.emb
  ∧ f.vec = State.reset.vec ∧ f.fab = State.reset.fab ∧ f.host = State.reset.host ∧ f.ctr.val = State.reset.ctr.val ∧ f.ev = State.reset.ev
  ∧ f.ns = 0 ∧ f.boot.mode = 0 ∧ f.boot.lastReset = last
  ∧ f.clk.lead.epoch = (s.clk.lead.epoch + 1) % 2 ^ 32 ∧ f.clk.lead.half = some s.boot.leadPref
  ∧ (∀ g a, (g, a) ∈ f.tiers.grans → a.pin = true)

/-- The calendar across a start-up (R410): it runs on through a warm reset; after a power loss a calendar that was ever set resumes from its copy in
state RESUMED, and one that was not is UNSET at 0. -/
def calendarKept : Prop := ∀ (c : Calendar),
  ((c.boot true).now = c.now ∧ (c.boot true).st = c.st)
  ∧ (c.st ≠ 0 → (c.boot false).now = c.saved ∧ (c.boot false).st = 1)
  ∧ (c.st = 0 → (c.boot false).now = 0 ∧ (c.boot false).st = 0)

/-- The ROM's choice (R438, R439, R444): the first slot that passes is in use with its security versions; one that fails is FAILED, remembered, and told by event 0xF002 if it was the first; with
none the mode is RECOVERY. -/
def romTries : Prop := ∀ (b : Boot) (fl : List Nat) (k : Nat) (t : List Nat),
  (b.tryAll fl []).mode = 3 ∧ (b.tryAll fl []).use = 2
  ∧ (bundleFault fl (b.slots.get k).bytes = none → (b.tryAll fl (k :: t)).use = k ∧ (b.tryAll fl (k :: t)).mode = b.mode
    ∧ (b.tryAll fl (k :: t)).secver = [leAt (b.slots.get k).bytes 144 4, leAt (b.slots.get k).bytes 400 4, leAt (b.slots.get k).bytes 656 4])
  ∧ (∀ r, bundleFault fl (b.slots.get k).bytes = some r →
    let b1 : Boot := { b.fail k with fellBack := some (b.fellBack.getD (k, r)) }
    b.tryAll fl (k :: t) = b1.tryAll fl t)

/-- STARTUP_END (Table 20-3): STARTING with a slot in use and the refclk there ends in NORMAL; in another mode, without the refclk or without power, nothing. -/
def startupEnds : Prop := ∀ (s : State),
  (s.boot.mode = 0 → s.boot.refLost = false → s.dark = false → s.boot.use ≠ 2 → exec .startupEnd s = .next s.startDone)
  ∧ (s.boot.mode = 0 → s.boot.refLost = false → s.dark = false → s.boot.use = 2 → s.rom.boot.mode = 3 → exec .startupEnd s = .next s.rom)
  ∧ (s.boot.mode ≠ 0 ∨ s.boot.refLost = true ∨ s.dark = true → exec .startupEnd s = .next s)

/-- The slots once a start-up came (Table 20-7): the one in use is ACTIVE, and the other, if it was ACTIVE, STANDBY. -/
def slotsCome : Prop := ∀ (b : Boot) (k : Nat), k < 2 →
  ((b.came k).slots.get k).st = 3 ∧ (((b.slots.get (1 - k)).st = 3 → ((b.came k).slots.get (1 - k)).st = 4)
  ∧ ((b.slots.get (1 - k)).st ≠ 3 → ((b.came k).slots.get (1 - k)).st = (b.slots.get (1 - k)).st))

/-- STARTUP_READY_TIMEOUT (R438): the slot in use has failed, and the next is tried after a warm reset; outside STARTING, nothing. -/
def readyTimeouts : Prop := ∀ (s : State),
  (s.boot.mode = 0 → s.boot.use ≠ 2 → s.dark = false → exec .startupReadyTimeout s = .next
    (State.start { s with boot := { s.boot.fail s.boot.use with fellBack := some (s.boot.fellBack.getD (s.boot.use, 5)) } } 4))
  ∧ (s.boot.mode ≠ 0 ∨ s.boot.use = 2 ∨ s.dark = true → exec .startupReadyTimeout s = .next s)

/-- WARM_RESET and HALF_RESET (R422, R423): the write is answered OK, and the reset follows; while the other half starts, or in STARTING, a half reset is refused
with BUSY; while it cannot reach its half, the write is HELD. -/
def resets : Prop := ∀ (s : State) (o : Origin) (v : List Byte), Checked s o 0xF001 1 v →
  let n := leNat v
  (n = 1 → s.unreachable o 0xF001 1 true = false → exec (.warmReset o v) s = .next ((s.answerW o 0xF001 1 v.length stOK 0).start 1))
  ∧ (n ≠ 1 → s.halfBusy (n - 2) = false → s.unreachable o 0xF001 1 true = false →
    exec (.halfReset o v) s = .next ((s.answerW o 0xF001 1 v.length stOK 0).halfReset (n - 2)))
  ∧ (n ≠ 1 → s.halfBusy (n - 2) = true → exec (.halfReset o v) s = .next (s.answerW o 0xF001 1 v.length stBAD dBUSY))
  ∧ (n = 1 → s.unreachable o 0xF001 1 true = true → exec (.warmReset o v) s = .next (s.answerW o 0xF001 1 v.length stHELD 0))

/-- HALF_STARTUP_END (R433): steps in flight of the half are committed as abandoned, its open exchanges go out again, updates that were held are applied, its cores take work, it asks for its
lease, and event 0xF008; a half that is not starting: nothing. -/
def halfStartsEnd : Prop := ∀ (s : State) (h : Nat), h < 2 →
  (s.boot.halfStart.get h = true →
    let s1 : State := { s with boot := { s.boot with halfStart := s.boot.halfStart.set h false } }
    let s3 := ((List.range 8).foldl (fun t n => t.commitStep h n true) s1).exchAgain h
    let s4 := ((s3.emb.tabs.filter (fun x => x.2.home == h)).map (·.1)).foldl (fun t k => t.settle k true (t.settleFuel k)) s3
    let s5 := s4.applySets h ((s4.emb.sets.get h).filter (fun x => s4.embLoaded x.table))
    exec (.halfStartupEnd h) s = .next (((s5.kick h s5.ns).askRenew h).raise 0xF008 0 h [h]))
  ∧ (s.boot.halfStart.get h = false → exec (.halfStartupEnd h) s = .next s)

/-- HEARTBEAT_MISS (R434): the half is granted nothing any more, counted at 0x8F00.08, with event 0xF007 by the other half; once. -/
def heartbeats : Prop := ∀ (s : State) (h : Nat), h < 2 →
  ((s.clk.lease.get h).stalled = false → exec (.heartbeatMiss h) s = .next
    (((s.updLease h (fun l => { l with stalled := true })).count 0x8F00 8 1).raise 0xF007 0 (otherHalf h) [h]))
  ∧ ((s.clk.lease.get h).stalled = true → exec (.heartbeatMiss h) s = .next s)

/-- TEST_MODE_ENTER and TEST_MODE_LEAVE (Table 20-3, R445): NORMAL goes to TEST where nothing stands in the way, with event 0xF00B, else DENIED; TEST goes to NORMAL with T1 queued
for scrub. -/
def testModes : Prop := ∀ (s : State) (o : Origin) (v : List Byte),
  (Writable s o 0xF000 8 v → s.boot.mode = 1 → leNat v = 2 → s.testReady = true →
    exec (.testModeEnter o v) s = .next ((State.raise { s with boot := { s.boot with mode := 2 } } 0xF00B 0 0 [2]).answerW o 0xF000 8 v.length stOK 0))
  ∧ (Checked s o 0xF000 8 v → s.boot.mode = 1 → leNat v = 2 → s.testReady = false →
    exec (.testModeEnter o v) s = .next (s.answerW o 0xF000 8 v.length stDENIED dORIGIN))
  ∧ (Writable s o 0xF000 8 v → s.boot.mode = 2 → leNat v = 1 →
    let t : State := { s with tiers := { s.tiers with bands := [], scrub := scrubAll }, boot := { s.boot with mode := 1 } }
    exec (.testModeLeave o v) s = .next ((t.raise 0xF00B 0 0 [1]).answerW o 0xF000 8 v.length stOK 0))

/-- RAISE_FLOORS (R440): the floors are the security versions that run. ALERT_RELEASE (R447): ALERT_N is no longer held for dropped records. -/
def floorsAlert : Prop := ∀ (s : State) (o : Origin) (v : List Byte),
  (Writable s o 0xF002 0xC v → exec (.raiseFloors o v) s = .next
    ((((s.dsetN 0xF002 9 (nth s.boot.secver 0 0)).dsetN 0xF002 0xA (nth s.boot.secver 1 0)).dsetN 0xF002 0xB (nth s.boot.secver 2 0)).answerW
      o 0xF002 0xC v.length stOK 0))
  ∧ (Writable s o 0xF000 0xA v → exec (.alertRelease o v) s = .next
    (State.answerW { s with boot := { s.boot with dropped := false } } o 0xF000 0xA v.length stOK 0))

/-- A service frame of op `op` with data `d` at offset `off` that the port takes (R442, Table 20-9). -/
abbrev FrameTaken (s : State) (op off : Nat) (b d : List Byte) : Prop :=
  s.dark = false ∧ 12 ≤ b.length ∧ b.length ≤ 1036 ∧ crc32c (b.take (b.length - 4)) = leAt b (b.length - 4) 4
  ∧ bitsN (leAt b 0 8) 63 56 = op ∧ bitsN (leAt b 0 8) 19 0 = 0 ∧ b.length = 12 + bitsN (leAt b 0 8) 31 20 ∧ bitsN (leAt b 0 8) 31 20 ≤ 1024
  ∧ bitsN (leAt b 0 8) 55 32 = off ∧ (op ≠ 2 → off = 0) ∧ (op = 1 → bitsN (leAt b 0 8) 31 20 = 8) ∧ (b.drop 8).take (b.length - 12) = d

/-- SERVICE_BEGIN (R443): with delivery allowed, none open and blen within the slot, the target slot is RECEIVING; a second BEGIN is BUSY, one that is too long TOO_LONG, one that is not allowed
DISABLED, each counted at 0x8F00.05. A frame that fails its CRC changes no more than the result. -/
def serviceBegins : Prop := ∀ (s : State) (b d : List Byte),
  (FrameTaken s 1 0 b d →
    (s.dval 0xF002 0x10 ≠ 0 → s.boot.serv.st ≠ 1 → leAt d 0 4 ≤ 3670016 →
      let sl : Two FwSlot := s.boot.slots.set s.boot.target { st := 1, bseq := leAt d 4 4, bytes := [] }
      let v : Service := { s.boot.serv with slot := s.boot.target, recv := 0, blen := leAt d 0 4, bseq := leAt d 4 4, result := 0, st := 1, lastLen := 0 }
      exec (.serviceBegin b) s = .next { s with boot := { s.boot with slots := sl, serv := v } })
    ∧ (s.dval 0xF002 0x10 = 0 → exec (.serviceBegin b) s = .next ((s.count 0x8F00 5 1).svc 6))
    ∧ (s.dval 0xF002 0x10 ≠ 0 → s.boot.serv.st = 1 → exec (.serviceBegin b) s = .next ((s.count 0x8F00 5 1).svc 5))
    ∧ (s.dval 0xF002 0x10 ≠ 0 → s.boot.serv.st ≠ 1 → 3670016 < leAt d 0 4 → exec (.serviceBegin b) s = .next ((s.count 0x8F00 5 1).svc 4)))
  ∧ (s.dark = false → 12 ≤ b.length → b.length ≤ 1036 → crc32c (b.take (b.length - 4)) ≠ leAt b (b.length - 4) 4 →
    exec (.serviceBegin b) s = .next { s with boot := { s.boot with serv := { s.boot.serv with result := 1 } } })

/-- SERVICE_DATA (R443) of an open delivery: the next bytes in order are appended; a repeat of the last frame is OK and not written again; any other offset is SEQUENCE. -/
def serviceTakes : Prop := ∀ (s : State) (off : Nat) (b d : List Byte), FrameTaken s 2 off b d →
  let v := s.boot.serv
  let x := s.boot.slots.get v.slot
  (v.st = 1 → off = v.recv → v.recv + d.length ≤ v.blen →
    let sl : Two FwSlot := s.boot.slots.set v.slot { x with bytes := x.bytes ++ d }
    exec (.serviceData b) s = .next { s with boot := { s.boot with slots := sl, serv := { v with recv := v.recv + d.length, lastLen := d.length, result := 0 } } })
  ∧ (v.st = 1 → 0 < v.lastLen → d.length = v.lastLen → off + v.lastLen = v.recv → slice x.bytes off v.lastLen = d →
    exec (.serviceData b) s = .next (s.svc 0))
  ∧ (v.st = 1 → off ≠ v.recv → off + v.lastLen ≠ v.recv → exec (.serviceData b) s = .next (s.svc 2))
  ∧ (v.st ≠ 1 → exec (.serviceData b) s = .next (s.svc 2))

/-- SERVICE_END (R443): a whole bundle of the right shape is in TRIAL, counted at 0x8F00.04 with event 0xF004; another is FORMAT and its slot EMPTY with event 0xF005.
SERVICE_ABORT and DELIVERY_TIMEOUT (Table 20-7): the delivery ends, its slot EMPTY, with event 0xF005; without one, SEQUENCE, and nothing. -/
def servicesEnd : Prop := ∀ (s : State) (b d : List Byte),
  let v := s.boot.serv
  let x := s.boot.slots.get v.slot
  let ended := fun (r : Nat) =>
    let s1 : State := { s with boot := { s.boot with slots := s.boot.slots.set v.slot FwSlot.empty, serv := { v with st := 0, result := r } } }
    (s1.count 0x8F00 5 1).raise 0xF005 0 0 [v.slot, r]
  (FrameTaken s 3 0 b d →
    (v.st = 1 → v.recv = v.blen → bundleShape x.bytes = true →
      let s1 : State := { s with boot := { s.boot with slots := s.boot.slots.set v.slot { x with st := 2 }, serv := { v with st := 3, result := 0 } } }
      exec (.serviceEnd b) s = .next ((s1.count 0x8F00 4 1).raise 0xF004 0 0 [v.slot, v.bseq]))
    ∧ (v.st = 1 → v.recv ≠ v.blen → exec (.serviceEnd b) s = .next (ended 3))
    ∧ (v.st ≠ 1 → exec (.serviceEnd b) s = .next (s.svc 2)))
  ∧ (FrameTaken s 4 0 b d → (v.st = 1 → exec (.serviceAbort b) s = .next (ended 0)) ∧ (v.st ≠ 1 → exec (.serviceAbort b) s = .next (s.svc 2)))
  ∧ (v.st = 1 → exec .deliveryTimeout s = .next (ended 7)) ∧ (v.st ≠ 1 → exec .deliveryTimeout s = .next s)

/-- SERVICE_ACTIVATE (R443): a warm reset where it is permitted or the mode is RECOVERY, else DISABLED. SERVICE_STATUS_READ (Table 20-9): the status record goes out, and nothing changes. -/
def serviceActs : Prop := ∀ (s : State) (b d : List Byte),
  (FrameTaken s 5 0 b d →
    (s.dval 0xF001 2 = 1 ∨ s.boot.mode = 3 → exec (.serviceActivate b) s = .next (s.start 1))
    ∧ (s.dval 0xF001 2 ≠ 1 → s.boot.mode ≠ 3 → exec (.serviceActivate b) s = .next (s.svc 6)))
  ∧ (s.dark = false → exec .serviceStatusRead s = .next (s.emit (.i3c
    (leBytes 4 0 ++ leBytes 1 s.boot.mode ++ leBytes 1 s.boot.serv.st ++ leBytes 1 s.boot.serv.result ++ leBytes 1 s.boot.serv.slot
      ++ leBytes 4 s.boot.serv.bseq ++ leBytes 4 s.boot.serv.recv))))
  ∧ (s.dark = true → exec .serviceStatusRead s = .next s)

/-- I3C_CCC (Table 20-8; the codes' numbers are log 55's): a dynamic address is taken while there is none, RSTDAA drops it, the lengths are stored and read back. -/
def i3cTakes : Prop := ∀ (s : State) (d : List Byte), s.dark = false →
  let v := s.boot.serv
  let w := fun (x : Service) => ({ s with boot := { s.boot with serv := x } } : State)
  (v.dyn = false → exec (.i3cCcc 0x87 d) s = .next (w { v with dyn := true, addr := leNat (d.take 1) / 2 }))
  ∧ (v.dyn = true → exec (.i3cCcc 0x87 d) s = .next s)
  ∧ exec (.i3cCcc 0x06 d) s = .next (w { v with dyn := false, addr := 0 })
  ∧ exec (.i3cCcc 0x89 d) s = .next (w { v with mwl := 256 * leNat (d.take 1) + leNat ((d.drop 1).take 1) })
  ∧ exec (.i3cCcc 0x8B d) s = .next (s.emit (.i3c (leBytes 1 (v.mwl / 256) ++ leBytes 1 v.mwl)))

/-- FEED_UNDERVOLTAGE below 37.0 V (R452): every rail falls; from there up, nothing. FEED_OVERVOLTAGE (R455): shutdown, where there is power. -/
def feeds : Prop := ∀ (s : State) (mv : Nat),
  (mv < 37000 → exec (.feedUndervoltage mv) s = .next { s with boot := { s.boot with off := true } })
  ∧ (37000 ≤ mv → exec (.feedUndervoltage mv) s = .next s)
  ∧ (s.boot.off = false → exec .feedOvervoltage s = .next { s with boot := { s.boot with shut := true } })
  ∧ (s.boot.off = true → exec .feedOvervoltage s = .next s)

/-- POWER_SAMPLE (R454): the last 100 samples are kept; an average above the limit paces the next kind a step further, the first in order that is not at 25 %, and the average is taken anew (log 58); one 50 W or
more below, 100 samples in a row, steps the kind paced last back up. -/
def powers : Prop := ∀ (s : State) (w mv : Nat), s.dark = false →
  let l := (w :: s.power.samples).take 100
  let sum := 1000 * l.foldl (· + ·) 0
  let lim := 100 * min 2600000 (60 * mv)
  (l.length < 100 → exec (.powerSample w mv) s = .next { s with power := { s.power with samples := l, below := 0 } })
  ∧ (100 ≤ l.length → lim < sum → exec (.powerSample w mv) s = .next { s with power := { duty := paceDown s.power.duty, samples := [], below := 0 } })
  ∧ (100 ≤ l.length → sum + 5000000 < lim → s.power.below = 99 →
    exec (.powerSample w mv) s = .next { s with power := { duty := paceUp s.power.duty, samples := l, below := 0 } })
  ∧ (100 ≤ l.length → sum + 5000000 < lim → s.power.below < 99 →
    exec (.powerSample w mv) s = .next { s with power := { s.power with samples := l, below := s.power.below + 1 } })
  ∧ (100 ≤ l.length → sum ≤ lim → lim ≤ sum + 5000000 →
    exec (.powerSample w mv) s = .next { s with power := { s.power with samples := l, below := 0 } })

/-- A kind paced (R454): one step of 100, 50, 25 %, and no other kind changes. -/
def paces : Prop :=
  (∀ t, paceDown (100 :: t) = 50 :: t) ∧ (∀ t, paceDown (50 :: t) = 25 :: t) ∧ (∀ t, paceDown (25 :: t) = 25 :: paceDown t)
  ∧ (∀ d t, t.all (fun x => decide (100 ≤ x)) = true → paceUp (d :: t) = (if d < 50 then 50 else 100) :: t)
  ∧ (∀ d t, t.any (fun x => decide (x < 100)) = true → paceUp (d :: t) = d :: paceUp t)

/-- THERMAL_SAMPLE (R455): each island has its temperature and its duty; one at 125 °C in this reading and the one before is a shutdown. -/
def thermals : Prop := ∀ (s : State) (temps : List Int), s.dark = false →
  let hot := (List.range 100).any (fun i => decide (12500 ≤ (s.island i).temp) && decide (12500 ≤ (temps[i]?).getD 0))
  let s1 := (List.range 100).foldl (fun t i =>
    match temps[i]? with
    | some x => t.setIsland i ((t.island i).heat i x)
    | none => t) s
  (hot = false → exec (.thermalSample temps) s = .next s1)
  ∧ (hot = true → exec (.thermalSample temps) s = .next { s1 with boot := { s1.boot with shut := true } })

/-- An island's duty for its temperature (R455): from 110 °C 25 %, from 105 °C at most 50 %, below 100 °C 100 %, and a kind that is not paced 100 %. -/
def islandHeats : Prop := ∀ (i : Nat) (x : Island) (t : Int),
  (x.heat i t).temp = t ∧ (kindPaced (islandKind i) = false → (x.heat i t).duty = 100)
  ∧ (kindPaced (islandKind i) = true → (11000 ≤ t → (x.heat i t).duty = 25) ∧ (10500 ≤ t → t < 11000 → (x.heat i t).duty = min x.duty 50)
    ∧ (10000 ≤ t → t < 10500 → (x.heat i t).duty = x.duty) ∧ (t < 10000 → (x.heat i t).duty = 100))

/-! ### The whole machine -/

/-- A counter advanced (R8): below its maximum it advances by `n`; where it comes to its maximum it stays there, its SAT bit is
set and event 0x8001 is raised, once; saturated, it is held at its maximum and raises nothing; and no other counter changes. -/
def countersSaturate : Prop := ∀ (s : State) (idx sub n : Nat), 0 < n →
  let k := dkey idx sub
  let v := s.ctr.val.getD k 0
  (v + n < ctrMax → s.count idx sub n = { s with ctr := { s.ctr with val := s.ctr.val.put k (v + n) } })
  ∧ (ctrMax ≤ v + n → k ∉ s.ctr.sat → s.count idx sub n =
    State.raise { s with ctr := { s.ctr with val := s.ctr.val.put k ctrMax, sat := k :: s.ctr.sat } } 0x8001 0 0 [k])
  ∧ (v = ctrMax → k ∈ s.ctr.sat → s.count idx sub n = { s with ctr := { s.ctr with val := s.ctr.val.put k ctrMax } })
  ∧ (s.ctr.add k n).val.getD k 0 = min (v + n) ctrMax
  ∧ ∀ j, j ≠ k → (s.ctr.add k n).val.getD j 0 = s.ctr.val.getD j 0

/-- A stream slot is one of its half's (R20), free, and the lowest free one (R41); a request whose serving half has none is
refused with NO_SPACE and no session changes, whatever the other half has free. -/
def slotsOfHalf : Prop :=
  (∀ (s : State) (p h k : Nat), s.takeSlot p h = .ok k →
    8192 * h ≤ k ∧ k < 8192 * h + 8192 ∧ s.slotBusy k = false ∧ ∀ j, 8192 * h ≤ j → j < k → s.slotBusy j = true)
  ∧ ∀ (s : State) (fn sq : Nat) (d : Desc) (input : Option (List Byte)) (t p : Nat) (ps : SelParams) (b : List Byte),
    let s1 := (s.at t).dmaFrom fn input
    let i := hIdx (dHnd d)
    let h := (s1.ent i).shalf
    TakenSess s1 0x02 fn d false false p → s1.submitBad fn d = false → ((s1.ent i).state = .idle ∨ (s1.ent i).state = .parked) →
    s1.laneF (dFld d 399 392) 2 = (s1.ent i).profile →
    s1.textFault p i d = none → s1.readParams p (dFld d 375 320) = .ok ps → 0 < dFld d 255 224 →
    dFld d 255 224 ≤ s1.dval 0x5000 3 → (s1.splitAt p h (dFld d 399 392) 1 && !dFlag d 25) = false → input = some b →
    s1.slotsIn p h < s1.dval (0x2040 + p) 2 → s1.freeSlot h = none →
    ∃ u : State, exec (.submit fn sq d input t) s = .next u
      ∧ u = (s1.raiseOnce 0x2005 h p h [h]).refuseA (s1.cmdOf fn sq d (dFlag d 24)) stNOSPACE 0 0
      ∧ u.sess = s1.sess

/-- What no raising of an event changes: it touches the event log, the field network, the host's rings, what goes out, the counters
and the mark of dropped records, and nothing else (R394, R395). -/
def raiseFrame : Prop := ∀ (s : State) (code part half : Nat) (ws : List Nat),
  let u := s.raise code part half ws
  u.pending = s.pending ∧ u.ns = s.ns ∧ u.free = s.free ∧ u.sess = s.sess ∧ u.pages = s.pages ∧ u.tiers = s.tiers ∧ u.own = s.own
  ∧ u.sched = s.sched ∧ u.profs = s.profs ∧ u.emb = s.emb ∧ u.vec = s.vec ∧ u.integ = s.integ ∧ u.ckpt = s.ckpt ∧ u.fab = s.fab
  ∧ u.sec = s.sec ∧ u.dict = s.dict ∧ u.boxes = s.boxes ∧ u.maint = s.maint ∧ u.clk = s.clk ∧ u.power = s.power
  ∧ u.boot.mode = s.boot.mode ∧ u.boot.bridge = s.boot.bridge
  ∧ ∃ e ∈ u.ev.log, e.seq = s.ev.seq ∧ e.code = code ∧ e.part = part ∧ e.half = half

/-- The device memory reads what was last written (R104): the byte written at its own address, and at every other address the
byte that stood there; a run of bytes lands from its address on, and what is blanked reads 0. -/
def memoryReads : Prop := ∀ (m : Mem) (a : Nat) (v : Byte),
  (m.write a v).read a = v ∧ (∀ b, b ≠ a → (m.write a v).read b = m.read b)
  ∧ (∀ (l : List Byte) (j : Nat) (x : Byte), l[j]? = some x → (m.writeN a l).read (a + j) = x)
  ∧ (∀ (l : List Byte) (b : Nat), (b < a ∨ a + l.length ≤ b) → (m.writeN a l).read b = m.read b)
  ∧ (∀ n b, a ≤ b → b < a + n → (m.clear a n).read b = 0#8)
  ∧ (∀ n b, (b < a ∨ a + n ≤ b) → (m.clear a n).read b = m.read b)

/-- Every memory operation keeps the canonical form: addresses rising, no byte listed that an unlisted address reads as. -/
def memoryCanonical : Prop := ∀ (m : Mem) (a : Nat), m.wf = true →
  (∀ v, (m.write a v).wf = true) ∧ (∀ l, (m.writeN a l).wf = true) ∧ (∀ n, (m.clear a n).wf = true)
  ∧ ∀ m', m'.wf = true → (∀ b, m.read b = m'.read b) → m = m'

/-- A Dictionary value written reads back, and no other entry's value changes (R377). -/
def entriesRead : Prop := ∀ (s : State) (idx sub : Nat) (v : List Byte), sub < 256 →
  (s.dset idx sub v).dbytes idx sub = v
  ∧ ∀ idx' sub', sub' < 256 → (idx' ≠ idx ∨ sub' ≠ sub) → (s.dset idx sub v).dbytes idx' sub' = s.dbytes idx' sub'

/-- One dimension of the route (R312): from coordinate `a` to coordinate `b` of a dimension of size `n`, with d = (b − a) mod n, the
message goes one step in the positive direction where d ≤ n − d, else one in the negative; a tie goes positive. -/
def dimensionOrder : Prop := ∀ (n a b : Nat), a < n → b < n → a ≠ b →
  let d := ((b : Int) - a) % n
  ((hop n a b).2 : Int) = (if d ≤ n - d then ((a : Int) + 1) % n else ((a : Int) - 1) % n)
  ∧ ((hop n a b).1 : Int) = min d (n - d)
  ∧ ((hop n (hop n a b).2 b).1 + 1 = (hop n a b).1)

/-- The next neighbour of a message that a device forwards (R312): along X until x is the target's, then along Y; with no usable link to
it the message is unroutable. -/
def routesByX : Prop := ∀ (s : State) (m : Msg), m.dst % 4 = 0 → s.fab.mapOk = true → s.epKind m.dst = 1 →
  let x := s.dval 0x4100 2
  let y := s.dval 0x4100 3
  let me := s.boot.bslot
  let t := m.dst / 4
  me < x * y → t < x * y → me ≠ t →
  let nxt := if me % x ≠ t % x then (hop x (me % x) (t % x)).2 + x * (me / x) else me % x + x * (hop y (me / x) (t / x)).2
  (s.linksTo (4 * nxt) m.src m.dst = [] → s.route m false = .error 2)
  ∧ (s.linksTo (4 * nxt) m.src m.dst ≠ [] → ∃ k, s.route m false = .ok k ∧ k ∈ s.linksTo (4 * nxt) m.src m.dst)

/-- What State.reset holds by the spec's rules: the mode is STARTING (Table 20-3) and nothing is dropped or held, no session, slot, page,
share or granule is there (R428), no counter has counted and the event seq is 0 (R431), no message or ring waits, and the calendar is
UNSET at 0 (R407). -/
def resetHolds : Prop :=
  let s := State.reset
  s.pending = [] ∧ s.out = [] ∧ s.boot.mode = 0 ∧ s.sess.dir = [] ∧ s.sess.slots = [] ∧ s.tiers.mem = []
  ∧ s.ctr.val = [] ∧ s.ctr.sat = [] ∧ s.ev.seq = 0 ∧ s.ev.log = [] ∧ s.host.rings = [] ∧ s.clk.cal.st = 0 ∧ s.clk.cal.now = 0
  ∧ s.kept

/-- The block takes the command at the front of its queue, and exec acts on the rest's state; with none waiting it idles. -/
def stepsRunTheFront : Prop := ∀ (c : Instr) (s : State) (cs : List Instr),
  step { s with pending := c :: cs } = exec c { s with pending := cs }
  ∧ step { s with pending := [] } = .next { s with pending := [] }

/-- No command changes the queue of those that wait. -/
def queueUntouched : Prop := ∀ (c : Instr) (s u : State), exec c s = .next u → u.pending = s.pending

/-- Every well-formed command completes with a next state, in every state: nothing the device is asked to do, and nothing that happens to it, stops the model. -/
def commandsComplete : Prop := ∀ (c : Instr) (s : State), c.wellFormed = true → ∃ u, exec c s = .next u

/-- A command that names a unit the device does not have (core 256, link 96) stops by name, and no other does (the model's own stop, log 4). -/
def unitsStop : Prop := ∀ (c : Instr) (s : State),
  (∀ f, exec c s = .fault f → c.wellFormed = false ∧ ∃ unit n, f = .noSuchUnit unit n) ∧ (∀ r, exec c s ≠ .refused r)

/-- Every step keeps the invariant of a run: the memory in canonical form, the mode one of Table 20-3, no counter above its maximum (R8). -/
def stepsKeep : Prop := ∀ (s u : State), s.kept → step s = .next u → u.kept

end Sys2Proof.Claim

/-- OPEN makes the lowest free entry, SUBMIT attaches a request; quota, handle, EXPIRED and STARTING refusals. -/
def Obligations.SessionOpenAndSubmit : Prop :=
  Sys2Proof.Claim.openMakes ∧ Sys2Proof.Claim.openAtQuota ∧ Sys2Proof.Claim.submitAttaches ∧ Sys2Proof.Claim.heldInStarting ∧ Sys2Proof.Claim.handleDenied ∧ Sys2Proof.Claim.expiredRefuses

/-- CANCEL, PAUSE, CLOSE and QUERY do what Table 2-2 says of a session's state. -/
def Obligations.SessionCancelPauseClose : Prop :=
  Sys2Proof.Claim.cancelLive ∧ Sys2Proof.Claim.cancelMisses ∧ Sys2Proof.Claim.cancelEnds ∧ Sys2Proof.Claim.cancelCloses ∧ Sys2Proof.Claim.pauseLive ∧ Sys2Proof.Claim.pauseOthers ∧ Sys2Proof.Claim.closeNow ∧ Sys2Proof.Claim.closeOthers ∧ Sys2Proof.Claim.queryReads

/-- PARK, REVIVE and FORK: tiers, the Developer, shared pages. -/
def Obligations.SessionParkReviveFork : Prop :=
  Sys2Proof.Claim.parkIdle ∧ Sys2Proof.Claim.parkNoRoom ∧ Sys2Proof.Claim.parkOthers ∧ Sys2Proof.Claim.reviveParked ∧ Sys2Proof.Claim.reviveResident ∧ Sys2Proof.Claim.reviveOthers ∧ Sys2Proof.Claim.forkIdle ∧ Sys2Proof.Claim.forkRefused

/-- SET_TTL, TTL_SCAN, ENTRY_FREE and the writes of session settings and quotas. -/
def Obligations.SessionTimesAndQuotas : Prop :=
  Sys2Proof.Claim.setTtlStores ∧ Sys2Proof.Claim.setTtlParked ∧ Sys2Proof.Claim.setTtlMoving ∧ Sys2Proof.Claim.ttlExpires ∧ Sys2Proof.Claim.ttlKeeps ∧ Sys2Proof.Claim.entryFrees ∧ Sys2Proof.Claim.entryRetires ∧ Sys2Proof.Claim.sessionWrites

/-- SEAL_DONE, SCRUB_DONE and DEVELOPER_PAGE_FETCHED: a page sealed, its space freed, a page brought up. -/
def Obligations.PagesSealedAndFetched : Prop :=
  Sys2Proof.Claim.sealDone ∧ Sys2Proof.Claim.scrubFrees ∧ Sys2Proof.Claim.pageFetched ∧ Sys2Proof.Claim.pageUncorrectable

/-- STACK_LOST, LYSING_ACCESS_TIMEOUT, STACK_ANSWERS_AGAIN, REBUILD_ROW_DONE: a Lysing stack lost and rebuilt. -/
def Obligations.LysingStacks : Prop :=
  Sys2Proof.Claim.stackLostOk ∧ Sys2Proof.Claim.stackLostAgain ∧ Sys2Proof.Claim.lysingTries ∧ Sys2Proof.Claim.lysingThird ∧ Sys2Proof.Claim.rowRebuilt

/-- T2 stripes written, acknowledged and compacted; Flopiry stacks lost and worn. -/
def Obligations.FlopiryStripes : Prop :=
  Sys2Proof.Claim.t2Written ∧ Sys2Proof.Claim.t2Empty ∧ Sys2Proof.Claim.shareAcked ∧ Sys2Proof.Claim.compacts ∧ Sys2Proof.Claim.compactsNot ∧ Sys2Proof.Claim.flopiryLost ∧ Sys2Proof.Claim.wear

/-- Demotion passes, low stripes, granule pieces and the leases and commands of extents. -/
def Obligations.DemotionAndExtents : Prop :=
  Sys2Proof.Claim.passStarts ∧ Sys2Proof.Claim.idleDemoted ∧ Sys2Proof.Claim.pageDurable ∧ Sys2Proof.Claim.lowStripes ∧ Sys2Proof.Claim.pieces ∧ Sys2Proof.Claim.extentLapses ∧ Sys2Proof.Claim.poolLapses ∧ Sys2Proof.Claim.extentAdded ∧ Sys2Proof.Claim.extentRemoved

/-- MAP, UNMAP, PLACE, REBUILD and ATOMIC on granules. -/
def Obligations.GranuleCommands : Prop :=
  Sys2Proof.Claim.maps ∧ Sys2Proof.Claim.mapDenies ∧ Sys2Proof.Claim.unmaps ∧ Sys2Proof.Claim.placesPin ∧ Sys2Proof.Claim.rebuildNames ∧ Sys2Proof.Claim.atomicAdds

/-- Pool messages GRANT_REQ, GRANT, RENEW and FREE, and the pool timers. -/
def Obligations.PoolLending : Prop :=
  Sys2Proof.Claim.poolGrants ∧ Sys2Proof.Claim.poolRefuses ∧ Sys2Proof.Claim.poolAsked ∧ Sys2Proof.Claim.poolGranted ∧ Sys2Proof.Claim.poolGrantRefused ∧ Sys2Proof.Claim.poolRenewed ∧ Sys2Proof.Claim.poolFrees ∧ Sys2Proof.Claim.poolRetries ∧ Sys2Proof.Claim.poolRenewal

/-- Pool messages WRITE, READ, DATA and ACK: what is written reads back, a bad message is discarded. -/
def Obligations.PoolData : Prop :=
  Sys2Proof.Claim.poolWritten ∧ Sys2Proof.Claim.poolWriteRefused ∧ Sys2Proof.Claim.poolWriteDiscards ∧ Sys2Proof.Claim.poolReads ∧ Sys2Proof.Claim.poolAnswers ∧ Sys2Proof.Claim.poolLeaseOver

/-- The home answers every ownership request by Table 5-1. -/
def Obligations.OwnershipTable : Prop :=
  Sys2Proof.Claim.ownReads ∧ Sys2Proof.Claim.ownRenews ∧ Sys2Proof.Claim.ownOffers ∧ Sys2Proof.Claim.ownAccepts ∧ Sys2Proof.Claim.ownRecalls ∧ Sys2Proof.Claim.ownReleases ∧ Sys2Proof.Claim.ownStale ∧ Sys2Proof.Claim.ownClaims ∧ Sys2Proof.Claim.ownDiscards ∧ Sys2Proof.Claim.ownNoted

/-- Owner leases, renewals, replies, frozen records and staged holds. -/
def Obligations.OwnershipTimers : Prop :=
  Sys2Proof.Claim.leaseScan ∧ Sys2Proof.Claim.leaseKept ∧ Sys2Proof.Claim.renewTimer ∧ Sys2Proof.Claim.replyLate ∧ Sys2Proof.Claim.frozenEnds ∧ Sys2Proof.Claim.stagedHold

/-- MIGRATE, RECALL, CLAIM, WHERE and DISCARD, and a half move's end. -/
def Obligations.MoveCommands : Prop :=
  Sys2Proof.Claim.migrateHalf ∧ Sys2Proof.Claim.migrateOthers ∧ Sys2Proof.Claim.migrateRange ∧ Sys2Proof.Claim.moveEnds ∧ Sys2Proof.Claim.recalls ∧ Sys2Proof.Claim.claims ∧ Sys2Proof.Claim.claimOthers ∧ Sys2Proof.Claim.whereReads ∧ Sys2Proof.Claim.discards

/-- The MOVE messages: FIELDS, OBJECT, RESEND, REFUSE, GUEST, RELAY and RELAY_ACK. -/
def Obligations.MoveMessages : Prop :=
  Sys2Proof.Claim.moveFieldsStages ∧ Sys2Proof.Claim.moveObjects ∧ Sys2Proof.Claim.moveResends ∧ Sys2Proof.Claim.moveRefused ∧ Sys2Proof.Claim.moveGuests ∧ Sys2Proof.Claim.moveRelays ∧ Sys2Proof.Claim.relayAcked ∧ Sys2Proof.Claim.moveDiscards

/-- Lane enables, core sets and the Stop bath's writes. -/
def Obligations.LanesAndBath : Prop :=
  Sys2Proof.Claim.laneWrites ∧ Sys2Proof.Claim.bathWrites ∧ Sys2Proof.Claim.bathRefused ∧ Sys2Proof.Claim.bathLate ∧ Sys2Proof.Claim.coreSets

/-- ROUND_OPEN in the order of R137: admitted, begun, held, refused, discarded or abandoning. -/
def Obligations.RoundOpens : Prop :=
  Sys2Proof.Claim.openFirst ∧ Sys2Proof.Claim.openNext ∧ Sys2Proof.Claim.openHeld ∧ Sys2Proof.Claim.openRefused ∧ Sys2Proof.Claim.openBad ∧ Sys2Proof.Claim.openAbandons

/-- QKV, round timers, splits, SELECT and step commits. -/
def Obligations.RoundWork : Prop :=
  Sys2Proof.Claim.qkvStores ∧ Sys2Proof.Claim.qkvDrops ∧ Sys2Proof.Claim.roundExpires ∧ Sys2Proof.Claim.splitGood ∧ Sys2Proof.Claim.splitNone ∧ Sys2Proof.Claim.selectKeeps ∧ Sys2Proof.Claim.assistLate ∧ Sys2Proof.Claim.stepCommits

/-- Profile, curve, decode and grammar tables, text input and host assists. -/
def Obligations.TablesAndText : Prop :=
  Sys2Proof.Claim.profileWrites ∧ Sys2Proof.Claim.curveStores ∧ Sys2Proof.Claim.decodeTableStores ∧ Sys2Proof.Claim.grammarStores ∧ Sys2Proof.Claim.textMoreTakes ∧ Sys2Proof.Claim.assistPosts ∧ Sys2Proof.Claim.assistReplies ∧ Sys2Proof.Claim.holdWrites ∧ Sys2Proof.Claim.assistWrites

/-- GATHER, ADD and SET of peers, fills, evictions and sketch halving. -/
def Obligations.EmbeddingMessages : Prop :=
  Sys2Proof.Claim.gathers ∧ Sys2Proof.Claim.adds ∧ Sys2Proof.Claim.sets ∧ Sys2Proof.Claim.fillSwitches ∧ Sys2Proof.Claim.evictionSwitches ∧ Sys2Proof.Claim.sketchHalves

/-- The embedding commands of the host: control, gather, update, requantise, flush. -/
def Obligations.EmbeddingCommands : Prop :=
  Sys2Proof.Claim.embControls ∧ Sys2Proof.Claim.embGathers ∧ Sys2Proof.Claim.embUpdates ∧ Sys2Proof.Claim.embRequants ∧ Sys2Proof.Claim.embFlushes

/-- VS_QUERY, scans, VS_INSERT, VS_DELETE and the index entry's writes. -/
def Obligations.VectorSearch : Prop :=
  Sys2Proof.Claim.queries ∧ Sys2Proof.Claim.scanEnds ∧ Sys2Proof.Claim.inserts ∧ Sys2Proof.Claim.deletes ∧ Sys2Proof.Claim.indexControls

/-- Proof runs, known-answer runs, patterns and TEST. -/
def Obligations.ProofsAndKats : Prop :=
  Sys2Proof.Claim.proofAgrees ∧ Sys2Proof.Claim.proofNone ∧ Sys2Proof.Claim.katOff ∧ Sys2Proof.Claim.katOn ∧ Sys2Proof.Claim.katEnds ∧ Sys2Proof.Claim.patternWrites ∧ Sys2Proof.Claim.tests

/-- EXCLUDE, ADMIT, FORGO, COUNTER_CLEAR, the daily report and a quiet bath. -/
def Obligations.UnitsExcluded : Prop :=
  Sys2Proof.Claim.excludes ∧ Sys2Proof.Claim.admits ∧ Sys2Proof.Claim.forgoes ∧ Sys2Proof.Claim.dailyReports ∧ Sys2Proof.Claim.bathQuiets

/-- CKPT: the slot opened, zeroed, cut, or given up. -/
def Obligations.CheckpointCut : Prop :=
  Sys2Proof.Claim.ckptStarts ∧ Sys2Proof.Claim.ckptOpened ∧ Sys2Proof.Claim.ckptZeroes ∧ Sys2Proof.Claim.ckptCuts ∧ Sys2Proof.Claim.ckptWaits ∧ Sys2Proof.Claim.ckptTimesOut

/-- A checkpoint drained, described, committed or ended, and RESTORE. -/
def Obligations.CheckpointDrain : Prop :=
  Sys2Proof.Claim.drains ∧ Sys2Proof.Claim.sheets ∧ Sys2Proof.Claim.commits ∧ Sys2Proof.Claim.ckptAborts ∧ Sys2Proof.Claim.restores ∧ Sys2Proof.Claim.restoreEnds

/-- CAP, CAP_ACK, training timers, wavelengths, narrow links, silence and lasers. -/
def Obligations.LinkTraining : Prop :=
  Sys2Proof.Claim.capReceives ∧ Sys2Proof.Claim.capAckReceives ∧ Sys2Proof.Claim.trainTimers ∧ Sys2Proof.Claim.linkTrains ∧ Sys2Proof.Claim.waveLoses ∧ Sys2Proof.Claim.narrowed ∧ Sys2Proof.Claim.silences ∧ Sys2Proof.Claim.laserFails

/-- Flits, replays, messages consumed, forwarded and started, and HELLO. -/
def Obligations.LinkTraffic : Prop :=
  Sys2Proof.Claim.flits ∧ Sys2Proof.Claim.replays ∧ Sys2Proof.Claim.messages ∧ Sys2Proof.Claim.consumes ∧ Sys2Proof.Claim.forwards ∧ Sys2Proof.Claim.starts ∧ Sys2Proof.Claim.gates ∧ Sys2Proof.Claim.helloSends ∧ Sys2Proof.Claim.hellos

/-- Schedules written and marks cleared. -/
def Obligations.LinkSchedules : Prop :=
  Sys2Proof.Claim.scheduleWrites ∧ Sys2Proof.Claim.markClears

/-- Tail polls and writes, descriptor fetches, heads, MSI-X, ring creation and deletion. -/
def Obligations.Rings : Prop :=
  Sys2Proof.Claim.tailPolls ∧ Sys2Proof.Claim.fetches ∧ Sys2Proof.Claim.headUpdates ∧ Sys2Proof.Claim.msixTimes ∧ Sys2Proof.Claim.msixUnmasks ∧ Sys2Proof.Claim.ringCreates ∧ Sys2Proof.Claim.ringDeletes ∧ Sys2Proof.Claim.ringZeros ∧ Sys2Proof.Claim.tailWrites ∧ Sys2Proof.Claim.tailSnoops

/-- Function resets, PCIe link events, PERST, IDE and TDISP. -/
def Obligations.HostFunctions : Prop :=
  Sys2Proof.Claim.fnResets ∧ Sys2Proof.Claim.pcieDowns ∧ Sys2Proof.Claim.pcieUps ∧ Sys2Proof.Claim.persts ∧ Sys2Proof.Claim.ideFails ∧ Sys2Proof.Claim.ideKeys ∧ Sys2Proof.Claim.tdisps

/-- CXL accesses, snoop answers, writebacks and host leases. -/
def Obligations.CxlLines : Prop :=
  Sys2Proof.Claim.hostLeaseEnds ∧ Sys2Proof.Claim.cxlAccesses ∧ Sys2Proof.Claim.snoopAnswers ∧ Sys2Proof.Claim.writebacks ∧ Sys2Proof.Claim.renews

/-- Regions, windows, PUBLISH and the bridge. -/
def Obligations.RegionsAndWindows : Prop :=
  Sys2Proof.Claim.regionCreates ∧ Sys2Proof.Claim.regionEnds ∧ Sys2Proof.Claim.windowOpens ∧ Sys2Proof.Claim.windowCloses ∧ Sys2Proof.Claim.publishes ∧ Sys2Proof.Claim.publishConflicts ∧ Sys2Proof.Claim.bridges

/-- READ, WRITE, DESCRIBE and NEXT, and what a transaction leaves. -/
def Obligations.DictionaryRequests : Prop :=
  Sys2Proof.Claim.reads ∧ Sys2Proof.Claim.writes ∧ Sys2Proof.Claim.describes ∧ Sys2Proof.Claim.nexts ∧ Sys2Proof.Claim.dmaEnds ∧ Sys2Proof.Claim.pends ∧ Sys2Proof.Claim.expiries ∧ Sys2Proof.Claim.polls

/-- Frames, acknowledgements and link events of the field network. -/
def Obligations.FieldNetwork : Prop :=
  Sys2Proof.Claim.frames ∧ Sys2Proof.Claim.dictFrames ∧ Sys2Proof.Claim.eventAcks ∧ Sys2Proof.Claim.spdmFrames ∧ Sys2Proof.Claim.fnLinks

/-- Maintenance state, partitions, owner keys and bindings. -/
def Obligations.MaintenanceAndPartitions : Prop :=
  Sys2Proof.Claim.maintWrites ∧ Sys2Proof.Claim.maintCourse ∧ Sys2Proof.Claim.partWrites ∧ Sys2Proof.Claim.partDisabled ∧ Sys2Proof.Claim.ownerWrites ∧ Sys2Proof.Claim.bindings

/-- Link keys, key export and import, confidential mode and Safelight. -/
def Obligations.KeysAndConfidence : Prop :=
  Sys2Proof.Claim.linkKeys ∧ Sys2Proof.Claim.keyExports ∧ Sys2Proof.Claim.imports ∧ Sys2Proof.Claim.confidentials ∧ Sys2Proof.Claim.safelightRests ∧ Sys2Proof.Claim.safelights

/-- SPDM set-up, certificates, challenge and measurements. -/
def Obligations.SpdmRequests : Prop :=
  Sys2Proof.Claim.spdmSetups ∧ Sys2Proof.Claim.spdmCerts ∧ Sys2Proof.Claim.spdmChallenges ∧ Sys2Proof.Claim.spdmMeasures ∧ Sys2Proof.Claim.spdmSetCerts ∧ Sys2Proof.Claim.spdmChunks

/-- SPDM key exchange, finish, session requests, encapsulated requests and time-outs. -/
def Obligations.SpdmSessions : Prop :=
  Sys2Proof.Claim.spdmExchanges ∧ Sys2Proof.Claim.spdmFinishes ∧ Sys2Proof.Claim.spdmSessions ∧ Sys2Proof.Claim.spdmEncaps ∧ Sys2Proof.Claim.spdmTimes

/-- Host time samples, and maps emptied or invalid. -/
def Obligations.TimeMaps : Prop :=
  Sys2Proof.Claim.timeSamples ∧ Sys2Proof.Claim.mapsEnd

/-- The calendar set, distributed, slewed, kept and persisted. -/
def Obligations.DeviceCalendar : Prop :=
  Sys2Proof.Claim.calendarSets ∧ Sys2Proof.Claim.calendarTicks ∧ Sys2Proof.Claim.calendarSlews ∧ Sys2Proof.Claim.calendarKeeps

/-- Lease requests, grants and ends, and the lead passed between the halves. -/
def Obligations.LeasesAndLead : Prop :=
  Sys2Proof.Claim.leasesAsk ∧ Sys2Proof.Claim.leasesGranted ∧ Sys2Proof.Claim.leasesEnd ∧ Sys2Proof.Claim.grantsEnd ∧ Sys2Proof.Claim.leadsMove ∧ Sys2Proof.Claim.leadPasses ∧ Sys2Proof.Claim.leadMessages

/-- The reference clock lost and back, and the lifetime counters. -/
def Obligations.RefclkAndLifetimes : Prop :=
  Sys2Proof.Claim.refclks ∧ Sys2Proof.Claim.lifetimes ∧ Sys2Proof.Claim.islandSeconds

/-- Re-plans, stages, margin curves, slack and approvals. -/
def Obligations.MarginPlans : Prop :=
  Sys2Proof.Claim.replans ∧ Sys2Proof.Claim.replansOne ∧ Sys2Proof.Claim.stages ∧ Sys2Proof.Claim.marginWrites ∧ Sys2Proof.Claim.slacks ∧ Sys2Proof.Claim.approves

/-- Power-on, what a start-up keeps, the ROM's choice, start-up's end and the resets. -/
def Obligations.StartUpCourse : Prop :=
  Sys2Proof.Claim.powerOns ∧ Sys2Proof.Claim.startKeeps ∧ Sys2Proof.Claim.calendarKept ∧ Sys2Proof.Claim.romTries ∧ Sys2Proof.Claim.startupEnds ∧ Sys2Proof.Claim.slotsCome ∧ Sys2Proof.Claim.readyTimeouts ∧ Sys2Proof.Claim.resets ∧ Sys2Proof.Claim.halfStartsEnd ∧ Sys2Proof.Claim.heartbeats ∧ Sys2Proof.Claim.testModes ∧ Sys2Proof.Claim.floorsAlert

/-- Deliveries over the service port, and its I3C codes. -/
def Obligations.ServicePort : Prop :=
  Sys2Proof.Claim.serviceBegins ∧ Sys2Proof.Claim.serviceTakes ∧ Sys2Proof.Claim.servicesEnd ∧ Sys2Proof.Claim.serviceActs ∧ Sys2Proof.Claim.i3cTakes

/-- The feed, power samples, pacing and thermal duty. -/
def Obligations.FeedAndThermals : Prop :=
  Sys2Proof.Claim.feeds ∧ Sys2Proof.Claim.powers ∧ Sys2Proof.Claim.paces ∧ Sys2Proof.Claim.thermals ∧ Sys2Proof.Claim.islandHeats

/-- Every counter saturates at its maximum, sets SAT, raises event 0x8001 once, and holds until cleared. -/
def Obligations.CountersSaturate : Prop :=
  Sys2Proof.Claim.countersSaturate ∧ Sys2Proof.Claim.counterClears

/-- A request's slot is its serving half's lowest free one; none free refuses NO_SPACE. -/
def Obligations.SlotsOfAHalf : Prop :=
  Sys2Proof.Claim.slotsOfHalf

/-- A message is forwarded along X then Y, the shorter way, a tie positive; no usable link is unroutable. -/
def Obligations.DimensionOrder : Prop :=
  Sys2Proof.Claim.dimensionOrder ∧ Sys2Proof.Claim.routesByX

/-- A policer profile write is refused when it would leave an inconsistent profile. -/
def Obligations.PolicerProfiles : Prop :=
  Sys2Proof.Claim.policerWrites

/-- Raising an event changes the event state and its paths, and nothing else. -/
def Obligations.EventRaisingFrame : Prop :=
  Sys2Proof.Claim.raiseFrame

/-- Device memory reads what was last written to each byte, and no other byte changes. -/
def Obligations.MemoryReadsBack : Prop :=
  Sys2Proof.Claim.memoryReads

/-- Every memory operation keeps the canonical form, in which equal contents are equal data. -/
def Obligations.MemoryStaysCanonical : Prop :=
  Sys2Proof.Claim.memoryCanonical

/-- A Dictionary value written reads back, and no other entry's value changes. -/
def Obligations.DictionaryReadsBack : Prop :=
  Sys2Proof.Claim.entriesRead

/-- What the device holds right after its first power-on reset. -/
def Obligations.ResetState : Prop :=
  Sys2Proof.Claim.resetHolds

/-- step runs the command at the front of the queue; with none it idles (the model's choice, log 2). -/
def Obligations.StepRunsTheFront : Prop :=
  Sys2Proof.Claim.stepsRunTheFront

/-- No command changes the queue of the commands that wait (the model's queue, log 2). -/
def Obligations.QueueUntouched : Prop :=
  Sys2Proof.Claim.queueUntouched

/-- Every step keeps memory canonical, the mode legal and every counter within its maximum. -/
def Obligations.EveryStepKeeps : Prop :=
  Sys2Proof.Claim.stepsKeep

/-- Every form of every command completes: whatever the state, a well-formed command answers a next state (the model's only stop, on a unit that the device does not have, is log 4's). -/
def Obligations.CommandsComplete : Prop :=
  Sys2Proof.Claim.commandsComplete ∧ Sys2Proof.Claim.unitsStop
end

