-- ==== Sys2Proof/Laws/Ops.lean ====
section
/-!
SUPPORT. What the shared operations do, said once: taking a command, a write of a Dictionary entry, an address check, tables, memory, events and
counters.
-/

namespace Sys2Proof.Machine

theorem take_eq {s : State} {op fn sq : Nat} {d : Desc} {lc : Bool} {k : Cmd → Nat → State} {p : Nat}
    (h : Taken s op fn d p) : s.take op fn sq d lc k = k (s.cmdOf fn sq d lc) p := by
  obtain ⟨h1, h2, h3, h4, h5⟩ := h
  simp [State.take, h1, h2, h3, h4, h5]

theorem takeSessC_eq {s : State} {op fn sq : Nat} {d : Desc} {lc any remote hold : Bool} {k : Cmd → Nat → Nat → State} {p : Nat}
    (h : TakenSess s op fn d any remote p) :
    s.takeSessC op fn sq d lc any remote false hold k = k (s.cmdOf fn sq d lc) p (hIdx (dHnd d)) := by
  obtain ⟨h1, h2, h3, h4, h5, h6⟩ := h
  have h7 : ((s.ent (hIdx (dHnd d))).state == .expired && op != 0x08 && op != 0x0A) = false := by
    by_cases h : (s.ent (hIdx (dHnd d))).state = .expired
    · rcases h6 h with h | h <;> simp [h]
    · simp [h]
  simp only [State.takeSessC, take_eq h1, h2, h3, h4, h5, h7]
  simp

theorem takeSess_eq {s : State} {op fn sq : Nat} {d : Desc} {lc any remote : Bool} {k : Cmd → Nat → Nat → State} {p : Nat}
    (h : TakenSess s op fn d any remote p) :
    s.takeSess op fn sq d lc any remote k = k (s.cmdOf fn sq d lc) p (hIdx (dHnd d)) := by
  obtain ⟨h1, _, h3, _⟩ := h
  simp [State.takeSess, take_eq h1, h3]

theorem writeRow_eq {s s1 : State} {o : Origin} {idx sub : Nat} {v : List Byte} {own : State → Except (Nat × Nat) State}
    (h : Writable s o idx sub v) (ho : own s = .ok s1) : s.writeRow o idx sub v own = s1.answerW o idx sub v.length stOK 0 := by
  obtain ⟨h1, h2, h3, h4, h5⟩ := h
  simp only [State.writeRow, h1, h2, h3, h4, h5, ho]
  simp

theorem writeRow_err {s : State} {o : Origin} {idx sub st dt : Nat} {v : List Byte} {own : State → Except (Nat × Nat) State}
    (h1 : s.dark = false) (h2 : (s.boot.mode == 3) = false) (h3 : s.writeCheck o idx sub v = none) (ho : own s = .error (st, dt)) :
    s.writeRow o idx sub v own = s.answerW o idx sub v.length st dt := by
  simp only [State.writeRow, h1, h2, h3, ho]
  simp

theorem withAddr_ok {s : State} {c : Cmd} {p addr n : Nat} {k : State} (h : s.addrCheck p addr n = none) : s.withAddr c p addr n k = k := by
  simp only [State.withAddr, h]

theorem get_put_same {α : Type} (t : Tab α) (k : Nat) (v : α) : (t.put k v).get? k = some v := by
  induction t with
  | nil => simp [Tab.put, Tab.get?]
  | cons a t ih =>
    obtain ⟨k', v'⟩ := a
    simp only [Tab.put]
    split
    · simp [Tab.get?]
    · split
      · simp [Tab.get?]
      · rename_i h1 h2
        simp only [Tab.get?, ih]
        simp [Ne.symm h2]

theorem get_put_other {α : Type} (t : Tab α) (k j : Nat) (v : α) (h : j ≠ k) : (t.put k v).get? j = t.get? j := by
  induction t with
  | nil => simp [Tab.put, Tab.get?, h.symm]
  | cons a t ih =>
    obtain ⟨k', v'⟩ := a
    simp only [Tab.put]
    split
    · simp [Tab.get?, h.symm]
    · split
      · rename_i h2; subst h2; simp [Tab.get?, h.symm]
      · simp only [Tab.get?, ih]

theorem get_filter {α : Type} (t : Tab α) (p : Nat → Bool) (j : Nat) :
    Tab.get? (t.filter (fun c => p c.1)) j = if p j then t.get? j else none := by
  induction t with
  | nil => simp [Tab.get?]
  | cons a t ih =>
    obtain ⟨k', v'⟩ := a
    by_cases hk : k' = j
    · subst hk
      by_cases hp : p k' = true <;> simp [List.filter_cons, hp, Tab.get?, ih]
    · by_cases hp : p k' = true <;> simp [List.filter_cons, hp, Tab.get?, ih, hk]

theorem read_write_same (m : Mem) (a : Nat) (v : Byte) : (m.write a v).read a = v := by
  unfold Mem.write Mem.read
  split
  · rename_i h
    have := get_filter m (fun k => k != a) a
    simp only [Tab.del]; rw [this]; simp [h]
  · rw [get_put_same]; rfl

theorem read_write_other (m : Mem) (a b : Nat) (v : Byte) (h : b ≠ a) : (m.write a v).read b = m.read b := by
  unfold Mem.write Mem.read
  split
  · have := get_filter m (fun k => k != a) b
    simp only [Tab.del]; rw [this]; simp [h]
  · rw [get_put_other _ _ _ _ h]

theorem writeN_out (l : List Byte) : ∀ (m : Mem) (a b : Nat), (b < a ∨ a + l.length ≤ b) → (m.writeN a l).read b = m.read b := by
  induction l with
  | nil => intros; rfl
  | cons v t ih =>
    intro m a b h
    simp only [List.length_cons] at h
    simp only [Mem.writeN]
    rw [ih _ _ _ (by omega), read_write_other _ _ _ _ (by omega)]

theorem writeN_in (l : List Byte) : ∀ (m : Mem) (a j : Nat) (x : Byte), l[j]? = some x → (m.writeN a l).read (a + j) = x := by
  induction l with
  | nil => intro m a j x h; simp at h
  | cons v t ih =>
    intro m a j x h
    simp only [Mem.writeN]
    cases j with
    | zero =>
      simp at h; subst h
      show (Mem.writeN (m.write a v) (a + 1) t).read a = v
      rw [writeN_out _ _ _ _ (by omega), read_write_same]
    | succ j =>
      simp at h
      have := ih (m.write a v) (a + 1) j x h
      rw [show a + (j + 1) = a + 1 + j by omega]; exact this

theorem tab_rises {α : Type} (t : Tab α) : Tab.wf t = true ↔ t.Pairwise (fun a b => a.1 < b.1) := by
  induction t with
  | nil => simp [Tab.wf]
  | cons a t ih =>
    cases t with
    | nil => simp [Tab.wf]
    | cons b t =>
      simp only [Tab.wf, Bool.and_eq_true, decide_eq_true_eq, ih, List.pairwise_cons]
      constructor
      · rintro ⟨h, k⟩
        refine ⟨fun x hx => ?_, k⟩
        rcases List.mem_cons.mp hx with rfl | hx
        · exact h
        · exact Nat.lt_trans h (k.1 x hx)
      · rintro ⟨h, k⟩
        exact ⟨h b (by simp), k⟩

theorem raise0_log (s : State) (code part half : Nat) (ws : List Nat) :
    ∃ e ∈ (s.raise0 code part half ws).1.ev.log, e.seq = s.ev.seq ∧ e.code = code ∧ e.part = part ∧ e.half = half := by
  refine ⟨_, List.mem_cons_self, rfl, rfl, rfl, rfl⟩

theorem tellAll_log {e : EventRec} : ∀ (n : Nat) (q : List (Nat × List Nat)) (s : State), e ∈ s.ev.log → e ∈ (State.tellAll n q s).ev.log := by
  intro n
  induction n with
  | zero => intro q s h; exact h
  | succ n ih =>
    intro q s h
    cases q with
    | nil => exact h
    | cons a q => exact ih _ _ (List.mem_cons_of_mem _ h)

theorem raise_log (s : State) (code part half : Nat) (ws : List Nat) :
    ∃ e ∈ (s.raise code part half ws).ev.log, e.seq = s.ev.seq ∧ e.code = code ∧ e.part = part ∧ e.half = half := by
  obtain ⟨e, h, g⟩ := raise0_log s code part half ws
  exact ⟨e, tellAll_log _ _ _ h, g⟩

theorem tellAll_keeps {α : Type} (f : State → α) (h0 : ∀ s c ws, f (State.raise0 s c 0 0 ws).1 = f s)
    (h1 : ∀ s d, f (State.latchDrops s d) = f s) : ∀ (n : Nat) (q : List (Nat × List Nat)) (s : State), f (State.tellAll n q s) = f s := by
  intro n
  induction n with
  | zero => intro q s; rfl
  | succ n ih =>
    intro q s
    cases q with
    | nil => rfl
    | cons a q => exact (ih _ _).trans ((h1 _ _).trans (h0 _ _ _))

theorem raise_keeps {α : Type} (f : State → α) (h0 : ∀ s c p q ws, f (State.raise0 s c p q ws).1 = f s)
    (h1 : ∀ s d, f (State.latchDrops s d) = f s) (s : State) (code part half : Nat) (ws : List Nat) : f (s.raise code part half ws) = f s :=
  (tellAll_keeps f (fun s c ws => h0 s c 0 0 ws) h1 _ _ _).trans ((h1 _ _).trans (h0 _ _ _ _ _))

theorem firstFrom_some (p : Nat → Bool) : ∀ (n a k : Nat), firstFrom p n a = some k → a ≤ k ∧ k < a + n ∧ p k = true ∧ ∀ j, a ≤ j → j < k → p j = false := by
  intro n
  induction n with
  | zero => intro a k h; simp [firstFrom] at h
  | succ n ih =>
    intro a k h
    simp only [firstFrom] at h
    split at h
    · rename_i hp
      cases h
      exact ⟨Nat.le_refl _, by omega, hp, fun j h1 h2 => by omega⟩
    · rename_i hp
      obtain ⟨h1, h2, h3, h4⟩ := ih _ _ h
      refine ⟨by omega, by omega, h3, fun j hj hk => ?_⟩
      rcases Nat.lt_or_ge a j with h | h
      · exact h4 j h hk
      · have : j = a := by omega
        subst this; simpa using hp

theorem hop_eq (n a b : Nat) (ha : a < n) (hb : b < n) (h : a ≠ b) :
    hop n a b = if a < b then (if b - a ≤ n - (b - a) then (b - a, a + 1) else (n - (b - a), if a = 0 then n - 1 else a - 1))
      else (if b + n - a ≤ a - b then (b + n - a, if a + 1 = n then 0 else a + 1) else (a - b, a - 1)) := by
  have hn : n ≠ 0 := by omega
  have h1 : a % n = a := Nat.mod_eq_of_lt ha
  unfold hop
  simp only [hn, if_false, h1]
  by_cases hab : a < b
  · have h2 : (b + n - a) % n = b - a := by
      rw [show b + n - a = (b - a) + n by omega, Nat.add_mod_right, Nat.mod_eq_of_lt (by omega)]
    have h3 : (a + 1) % n = a + 1 := Nat.mod_eq_of_lt (by omega)
    have h4 : (a + n - 1) % n = if a = 0 then n - 1 else a - 1 := by
      split
      · rename_i h; subst h; rw [Nat.zero_add]; exact Nat.mod_eq_of_lt (by omega)
      · rw [show a + n - 1 = (a - 1) + n by omega, Nat.add_mod_right, Nat.mod_eq_of_lt (by omega)]
    simp only [h2, h3, h4, hab, if_true]
    rw [if_neg (by omega)]
  · have h2 : (b + n - a) % n = b + n - a := Nat.mod_eq_of_lt (by omega)
    have h3 : (a + 1) % n = if a + 1 = n then 0 else a + 1 := by
      split
      · rename_i h; rw [h, Nat.mod_self]
      · exact Nat.mod_eq_of_lt (by omega)
    have h4 : (a + n - 1) % n = a - 1 := by
      rw [show a + n - 1 = (a - 1) + n by omega, Nat.add_mod_right, Nat.mod_eq_of_lt (by omega)]
    have h5 : n - (b + n - a) = a - b := by omega
    simp only [h2, h3, h4, h5, hab, if_false]
    rw [if_neg (by omega)]

theorem hop_self (n a : Nat) (ha : a < n) : (hop n a a).1 = 0 := by
  unfold hop
  have h1 : a % n = a := Nat.mod_eq_of_lt ha
  have : (a + n - a) % n = 0 := by rw [show a + n - a = n by omega, Nat.mod_self]
  simp [h1, this]

theorem tab_put_mem {α : Type} (t : Tab α) (k : Nat) (v : α) : ∀ x ∈ t.put k v, x = (k, v) ∨ x ∈ t := by
  induction t with
  | nil => intro x hx; simp [Tab.put] at hx; exact Or.inl hx
  | cons a t ih =>
    intro x hx
    obtain ⟨k', v'⟩ := a
    simp only [Tab.put] at hx
    split at hx
    · rcases List.mem_cons.mp hx with h | h
      · exact Or.inl h
      · exact Or.inr h
    · split at hx
      · rcases List.mem_cons.mp hx with h | h
        · exact Or.inl h
        · exact Or.inr (List.mem_cons_of_mem _ h)
      · rcases List.mem_cons.mp hx with h | h
        · exact Or.inr (h ▸ List.mem_cons_self)
        · rcases ih x h with h | h
          · exact Or.inl h
          · exact Or.inr (List.mem_cons_of_mem _ h)

theorem tab_put_wf {α : Type} (t : Tab α) (k : Nat) (v : α) (h : Tab.wf t = true) : Tab.wf (t.put k v) = true := by
  rw [tab_rises] at *
  induction t with
  | nil => simp [Tab.put]
  | cons a t ih =>
    obtain ⟨k', v'⟩ := a
    obtain ⟨h1, h2⟩ := List.pairwise_cons.mp h
    simp only [Tab.put]
    split
    · rename_i hk
      refine List.pairwise_cons.mpr ⟨fun x hx => ?_, h⟩
      rcases List.mem_cons.mp hx with rfl | hx
      · exact hk
      · exact Nat.lt_trans hk (h1 x hx)
    · split
      · rename_i hk
        subst hk
        exact List.pairwise_cons.mpr ⟨fun x hx => h1 x hx, h2⟩
      · refine List.pairwise_cons.mpr ⟨fun x hx => ?_, ih h2⟩
        rcases tab_put_mem t k v x hx with rfl | hx
        · show k' < k; omega
        · exact h1 x hx

theorem mem_get {α : Type} (t : Tab α) (hw : Tab.wf t = true) (k : Nat) (v : α) : t.get? k = some v ↔ (k, v) ∈ t := by
  rw [tab_rises] at hw
  induction t with
  | nil => simp [Tab.get?]
  | cons a t ih =>
    obtain ⟨k', v'⟩ := a
    obtain ⟨h1, h2⟩ := List.pairwise_cons.mp hw
    simp only [Tab.get?, List.mem_cons, Prod.mk.injEq]
    split
    · rename_i hk; subst hk
      constructor
      · intro h; cases h; exact Or.inl ⟨rfl, rfl⟩
      · rintro (⟨_, rfl⟩ | h)
        · rfl
        · exact absurd (h1 _ h) (Nat.lt_irrefl _)
    · rename_i hk
      rw [ih h2]
      constructor
      · exact Or.inr
      · rintro (⟨rfl, _⟩ | h)
        · exact absurd rfl hk
        · exact h

theorem wf_iff (m : Mem) : m.wf = true ↔ Tab.wf m = true ∧ ∀ c ∈ m, c.2 ≠ Mem.blank := by
  unfold Mem.wf
  simp [Bool.and_eq_true, List.all_eq_true]

theorem wf_filter {m : Mem} {p : Host.Cell → Bool} (h : m.wf = true) : Mem.wf (m.filter p) = true := by
  rw [wf_iff] at *
  refine ⟨?_, fun c hc => h.2 c (List.mem_filter.mp hc).1⟩
  have := h.1
  rw [tab_rises] at *
  exact this.filter _

theorem wf_write {m : Mem} {a : Nat} {v : Byte} (h : m.wf = true) : (m.write a v).wf = true := by
  unfold Mem.write
  split
  · exact wf_filter h
  · rename_i hv
    rw [wf_iff] at *
    refine ⟨tab_put_wf m a v h.1, fun c hc => ?_⟩
    rcases tab_put_mem m a v c hc with rfl | hc
    · exact hv
    · exact h.2 c hc

theorem wf_writeN {m : Mem} {a : Nat} {b : List Byte} (h : m.wf = true) : (Mem.writeN m a b).wf = true := by
  induction b generalizing m a with
  | nil => exact h
  | cons v t ih => exact ih (wf_write h)

theorem mem_read {m : Mem} (h : m.wf = true) (c : Host.Cell) : c ∈ m ↔ c.2 ≠ Mem.blank ∧ m.read c.1 = c.2 := by
  have h' := (wf_iff m).mp h
  unfold Mem.read
  obtain ⟨k, v⟩ := c
  rw [← mem_get m h'.1]
  constructor
  · intro g
    exact ⟨h'.2 (k, v) ((mem_get m h'.1 k v).mp g), by simp [g]⟩
  · rintro ⟨g1, g2⟩
    simp only at g1 g2
    cases hq : Tab.get? m k with
    | none => rw [hq] at g2; exact absurd g2.symm g1
    | some w => rw [hq] at g2; simp at g2; rw [g2]

end Sys2Proof.Machine
end

