-- ==== Sys2Proof/Laws/State.lean ====
section
/-!
SUPPORT. What each plain update of the state leaves as it is, field by field.
-/

namespace Sys2Proof.Machine

@[simp] theorem State.emit_pending (s : State) (o : Out) : (s.emit o).pending = s.pending := rfl
@[simp] theorem State.emit_ns (s : State) (o : Out) : (s.emit o).ns = s.ns := rfl
@[simp] theorem State.emit_free (s : State) (o : Out) : (s.emit o).free = s.free := rfl
@[simp] theorem State.emit_ctr (s : State) (o : Out) : (s.emit o).ctr = s.ctr := rfl
@[simp] theorem State.emit_ev (s : State) (o : Out) : (s.emit o).ev = s.ev := rfl
@[simp] theorem State.emit_sess (s : State) (o : Out) : (s.emit o).sess = s.sess := rfl
@[simp] theorem State.emit_pages (s : State) (o : Out) : (s.emit o).pages = s.pages := rfl
@[simp] theorem State.emit_tiers (s : State) (o : Out) : (s.emit o).tiers = s.tiers := rfl
@[simp] theorem State.emit_own (s : State) (o : Out) : (s.emit o).own = s.own := rfl
@[simp] theorem State.emit_sched (s : State) (o : Out) : (s.emit o).sched = s.sched := rfl
@[simp] theorem State.emit_profs (s : State) (o : Out) : (s.emit o).profs = s.profs := rfl
@[simp] theorem State.emit_emb (s : State) (o : Out) : (s.emit o).emb = s.emb := rfl
@[simp] theorem State.emit_vec (s : State) (o : Out) : (s.emit o).vec = s.vec := rfl
@[simp] theorem State.emit_integ (s : State) (o : Out) : (s.emit o).integ = s.integ := rfl
@[simp] theorem State.emit_ckpt (s : State) (o : Out) : (s.emit o).ckpt = s.ckpt := rfl
@[simp] theorem State.emit_fab (s : State) (o : Out) : (s.emit o).fab = s.fab := rfl
@[simp] theorem State.emit_host (s : State) (o : Out) : (s.emit o).host = s.host := rfl
@[simp] theorem State.emit_sec (s : State) (o : Out) : (s.emit o).sec = s.sec := rfl
@[simp] theorem State.emit_dict (s : State) (o : Out) : (s.emit o).dict = s.dict := rfl
@[simp] theorem State.emit_boxes (s : State) (o : Out) : (s.emit o).boxes = s.boxes := rfl
@[simp] theorem State.emit_fnet (s : State) (o : Out) : (s.emit o).fnet = s.fnet := rfl
@[simp] theorem State.emit_maint (s : State) (o : Out) : (s.emit o).maint = s.maint := rfl
@[simp] theorem State.emit_clk (s : State) (o : Out) : (s.emit o).clk = s.clk := rfl
@[simp] theorem State.emit_boot (s : State) (o : Out) : (s.emit o).boot = s.boot := rfl
@[simp] theorem State.emit_power (s : State) (o : Out) : (s.emit o).power = s.power := rfl

@[simp] theorem State.at_pending (s : State) (t : Nat) : (s.at t).pending = s.pending := rfl
@[simp] theorem State.at_out (s : State) (t : Nat) : (s.at t).out = s.out := rfl
@[simp] theorem State.at_free (s : State) (t : Nat) : (s.at t).free = s.free := rfl
@[simp] theorem State.at_ctr (s : State) (t : Nat) : (s.at t).ctr = s.ctr := rfl
@[simp] theorem State.at_ev (s : State) (t : Nat) : (s.at t).ev = s.ev := rfl
@[simp] theorem State.at_sess (s : State) (t : Nat) : (s.at t).sess = s.sess := rfl
@[simp] theorem State.at_pages (s : State) (t : Nat) : (s.at t).pages = s.pages := rfl
@[simp] theorem State.at_tiers (s : State) (t : Nat) : (s.at t).tiers = s.tiers := rfl
@[simp] theorem State.at_own (s : State) (t : Nat) : (s.at t).own = s.own := rfl
@[simp] theorem State.at_sched (s : State) (t : Nat) : (s.at t).sched = s.sched := rfl
@[simp] theorem State.at_profs (s : State) (t : Nat) : (s.at t).profs = s.profs := rfl
@[simp] theorem State.at_emb (s : State) (t : Nat) : (s.at t).emb = s.emb := rfl
@[simp] theorem State.at_vec (s : State) (t : Nat) : (s.at t).vec = s.vec := rfl
@[simp] theorem State.at_integ (s : State) (t : Nat) : (s.at t).integ = s.integ := rfl
@[simp] theorem State.at_ckpt (s : State) (t : Nat) : (s.at t).ckpt = s.ckpt := rfl
@[simp] theorem State.at_fab (s : State) (t : Nat) : (s.at t).fab = s.fab := rfl
@[simp] theorem State.at_host (s : State) (t : Nat) : (s.at t).host = s.host := rfl
@[simp] theorem State.at_sec (s : State) (t : Nat) : (s.at t).sec = s.sec := rfl
@[simp] theorem State.at_dict (s : State) (t : Nat) : (s.at t).dict = s.dict := rfl
@[simp] theorem State.at_boxes (s : State) (t : Nat) : (s.at t).boxes = s.boxes := rfl
@[simp] theorem State.at_fnet (s : State) (t : Nat) : (s.at t).fnet = s.fnet := rfl
@[simp] theorem State.at_maint (s : State) (t : Nat) : (s.at t).maint = s.maint := rfl
@[simp] theorem State.at_clk (s : State) (t : Nat) : (s.at t).clk = s.clk := rfl
@[simp] theorem State.at_boot (s : State) (t : Nat) : (s.at t).boot = s.boot := rfl
@[simp] theorem State.at_power (s : State) (t : Nat) : (s.at t).power = s.power := rfl

@[simp] theorem State.dset_pending (s : State) (idx sub : Nat) (v : List Byte) : (s.dset idx sub v).pending = s.pending := rfl
@[simp] theorem State.dset_out (s : State) (idx sub : Nat) (v : List Byte) : (s.dset idx sub v).out = s.out := rfl
@[simp] theorem State.dset_ns (s : State) (idx sub : Nat) (v : List Byte) : (s.dset idx sub v).ns = s.ns := rfl
@[simp] theorem State.dset_free (s : State) (idx sub : Nat) (v : List Byte) : (s.dset idx sub v).free = s.free := rfl
@[simp] theorem State.dset_ctr (s : State) (idx sub : Nat) (v : List Byte) : (s.dset idx sub v).ctr = s.ctr := rfl
@[simp] theorem State.dset_ev (s : State) (idx sub : Nat) (v : List Byte) : (s.dset idx sub v).ev = s.ev := rfl
@[simp] theorem State.dset_sess (s : State) (idx sub : Nat) (v : List Byte) : (s.dset idx sub v).sess = s.sess := rfl
@[simp] theorem State.dset_pages (s : State) (idx sub : Nat) (v : List Byte) : (s.dset idx sub v).pages = s.pages := rfl
@[simp] theorem State.dset_tiers (s : State) (idx sub : Nat) (v : List Byte) : (s.dset idx sub v).tiers = s.tiers := rfl
@[simp] theorem State.dset_own (s : State) (idx sub : Nat) (v : List Byte) : (s.dset idx sub v).own = s.own := rfl
@[simp] theorem State.dset_sched (s : State) (idx sub : Nat) (v : List Byte) : (s.dset idx sub v).sched = s.sched := rfl
@[simp] theorem State.dset_profs (s : State) (idx sub : Nat) (v : List Byte) : (s.dset idx sub v).profs = s.profs := rfl
@[simp] theorem State.dset_emb (s : State) (idx sub : Nat) (v : List Byte) : (s.dset idx sub v).emb = s.emb := rfl
@[simp] theorem State.dset_vec (s : State) (idx sub : Nat) (v : List Byte) : (s.dset idx sub v).vec = s.vec := rfl
@[simp] theorem State.dset_integ (s : State) (idx sub : Nat) (v : List Byte) : (s.dset idx sub v).integ = s.integ := rfl
@[simp] theorem State.dset_ckpt (s : State) (idx sub : Nat) (v : List Byte) : (s.dset idx sub v).ckpt = s.ckpt := rfl
@[simp] theorem State.dset_fab (s : State) (idx sub : Nat) (v : List Byte) : (s.dset idx sub v).fab = s.fab := rfl
@[simp] theorem State.dset_host (s : State) (idx sub : Nat) (v : List Byte) : (s.dset idx sub v).host = s.host := rfl
@[simp] theorem State.dset_sec (s : State) (idx sub : Nat) (v : List Byte) : (s.dset idx sub v).sec = s.sec := rfl
@[simp] theorem State.dset_boxes (s : State) (idx sub : Nat) (v : List Byte) : (s.dset idx sub v).boxes = s.boxes := rfl
@[simp] theorem State.dset_fnet (s : State) (idx sub : Nat) (v : List Byte) : (s.dset idx sub v).fnet = s.fnet := rfl
@[simp] theorem State.dset_maint (s : State) (idx sub : Nat) (v : List Byte) : (s.dset idx sub v).maint = s.maint := rfl
@[simp] theorem State.dset_clk (s : State) (idx sub : Nat) (v : List Byte) : (s.dset idx sub v).clk = s.clk := rfl
@[simp] theorem State.dset_boot (s : State) (idx sub : Nat) (v : List Byte) : (s.dset idx sub v).boot = s.boot := rfl
@[simp] theorem State.dset_power (s : State) (idx sub : Nat) (v : List Byte) : (s.dset idx sub v).power = s.power := rfl

@[simp] theorem State.unlatch_pending (s : State) (code k : Nat) : (s.unlatch code k).pending = s.pending := rfl
@[simp] theorem State.unlatch_out (s : State) (code k : Nat) : (s.unlatch code k).out = s.out := rfl
@[simp] theorem State.unlatch_ns (s : State) (code k : Nat) : (s.unlatch code k).ns = s.ns := rfl
@[simp] theorem State.unlatch_free (s : State) (code k : Nat) : (s.unlatch code k).free = s.free := rfl
@[simp] theorem State.unlatch_ctr (s : State) (code k : Nat) : (s.unlatch code k).ctr = s.ctr := rfl
@[simp] theorem State.unlatch_sess (s : State) (code k : Nat) : (s.unlatch code k).sess = s.sess := rfl
@[simp] theorem State.unlatch_pages (s : State) (code k : Nat) : (s.unlatch code k).pages = s.pages := rfl
@[simp] theorem State.unlatch_tiers (s : State) (code k : Nat) : (s.unlatch code k).tiers = s.tiers := rfl
@[simp] theorem State.unlatch_own (s : State) (code k : Nat) : (s.unlatch code k).own = s.own := rfl
@[simp] theorem State.unlatch_sched (s : State) (code k : Nat) : (s.unlatch code k).sched = s.sched := rfl
@[simp] theorem State.unlatch_profs (s : State) (code k : Nat) : (s.unlatch code k).profs = s.profs := rfl
@[simp] theorem State.unlatch_emb (s : State) (code k : Nat) : (s.unlatch code k).emb = s.emb := rfl
@[simp] theorem State.unlatch_vec (s : State) (code k : Nat) : (s.unlatch code k).vec = s.vec := rfl
@[simp] theorem State.unlatch_integ (s : State) (code k : Nat) : (s.unlatch code k).integ = s.integ := rfl
@[simp] theorem State.unlatch_ckpt (s : State) (code k : Nat) : (s.unlatch code k).ckpt = s.ckpt := rfl
@[simp] theorem State.unlatch_fab (s : State) (code k : Nat) : (s.unlatch code k).fab = s.fab := rfl
@[simp] theorem State.unlatch_host (s : State) (code k : Nat) : (s.unlatch code k).host = s.host := rfl
@[simp] theorem State.unlatch_sec (s : State) (code k : Nat) : (s.unlatch code k).sec = s.sec := rfl
@[simp] theorem State.unlatch_dict (s : State) (code k : Nat) : (s.unlatch code k).dict = s.dict := rfl
@[simp] theorem State.unlatch_boxes (s : State) (code k : Nat) : (s.unlatch code k).boxes = s.boxes := rfl
@[simp] theorem State.unlatch_fnet (s : State) (code k : Nat) : (s.unlatch code k).fnet = s.fnet := rfl
@[simp] theorem State.unlatch_maint (s : State) (code k : Nat) : (s.unlatch code k).maint = s.maint := rfl
@[simp] theorem State.unlatch_clk (s : State) (code k : Nat) : (s.unlatch code k).clk = s.clk := rfl
@[simp] theorem State.unlatch_boot (s : State) (code k : Nat) : (s.unlatch code k).boot = s.boot := rfl
@[simp] theorem State.unlatch_power (s : State) (code k : Nat) : (s.unlatch code k).power = s.power := rfl

@[simp] theorem State.updEnt_pending (s : State) (i : Nat) (f : DirEntry → DirEntry) : (s.updEnt i f).pending = s.pending := rfl
@[simp] theorem State.updEnt_out (s : State) (i : Nat) (f : DirEntry → DirEntry) : (s.updEnt i f).out = s.out := rfl
@[simp] theorem State.updEnt_ns (s : State) (i : Nat) (f : DirEntry → DirEntry) : (s.updEnt i f).ns = s.ns := rfl
@[simp] theorem State.updEnt_free (s : State) (i : Nat) (f : DirEntry → DirEntry) : (s.updEnt i f).free = s.free := rfl
@[simp] theorem State.updEnt_ctr (s : State) (i : Nat) (f : DirEntry → DirEntry) : (s.updEnt i f).ctr = s.ctr := rfl
@[simp] theorem State.updEnt_ev (s : State) (i : Nat) (f : DirEntry → DirEntry) : (s.updEnt i f).ev = s.ev := rfl
@[simp] theorem State.updEnt_pages (s : State) (i : Nat) (f : DirEntry → DirEntry) : (s.updEnt i f).pages = s.pages := rfl
@[simp] theorem State.updEnt_tiers (s : State) (i : Nat) (f : DirEntry → DirEntry) : (s.updEnt i f).tiers = s.tiers := rfl
@[simp] theorem State.updEnt_own (s : State) (i : Nat) (f : DirEntry → DirEntry) : (s.updEnt i f).own = s.own := rfl
@[simp] theorem State.updEnt_sched (s : State) (i : Nat) (f : DirEntry → DirEntry) : (s.updEnt i f).sched = s.sched := rfl
@[simp] theorem State.updEnt_profs (s : State) (i : Nat) (f : DirEntry → DirEntry) : (s.updEnt i f).profs = s.profs := rfl
@[simp] theorem State.updEnt_emb (s : State) (i : Nat) (f : DirEntry → DirEntry) : (s.updEnt i f).emb = s.emb := rfl
@[simp] theorem State.updEnt_vec (s : State) (i : Nat) (f : DirEntry → DirEntry) : (s.updEnt i f).vec = s.vec := rfl
@[simp] theorem State.updEnt_integ (s : State) (i : Nat) (f : DirEntry → DirEntry) : (s.updEnt i f).integ = s.integ := rfl
@[simp] theorem State.updEnt_ckpt (s : State) (i : Nat) (f : DirEntry → DirEntry) : (s.updEnt i f).ckpt = s.ckpt := rfl
@[simp] theorem State.updEnt_fab (s : State) (i : Nat) (f : DirEntry → DirEntry) : (s.updEnt i f).fab = s.fab := rfl
@[simp] theorem State.updEnt_host (s : State) (i : Nat) (f : DirEntry → DirEntry) : (s.updEnt i f).host = s.host := rfl
@[simp] theorem State.updEnt_sec (s : State) (i : Nat) (f : DirEntry → DirEntry) : (s.updEnt i f).sec = s.sec := rfl
@[simp] theorem State.updEnt_dict (s : State) (i : Nat) (f : DirEntry → DirEntry) : (s.updEnt i f).dict = s.dict := rfl
@[simp] theorem State.updEnt_boxes (s : State) (i : Nat) (f : DirEntry → DirEntry) : (s.updEnt i f).boxes = s.boxes := rfl
@[simp] theorem State.updEnt_fnet (s : State) (i : Nat) (f : DirEntry → DirEntry) : (s.updEnt i f).fnet = s.fnet := rfl
@[simp] theorem State.updEnt_maint (s : State) (i : Nat) (f : DirEntry → DirEntry) : (s.updEnt i f).maint = s.maint := rfl
@[simp] theorem State.updEnt_clk (s : State) (i : Nat) (f : DirEntry → DirEntry) : (s.updEnt i f).clk = s.clk := rfl
@[simp] theorem State.updEnt_boot (s : State) (i : Nat) (f : DirEntry → DirEntry) : (s.updEnt i f).boot = s.boot := rfl
@[simp] theorem State.updEnt_power (s : State) (i : Nat) (f : DirEntry → DirEntry) : (s.updEnt i f).power = s.power := rfl

@[simp] theorem State.updReq_pending (s : State) (k : Nat) (f : Request → Request) : (s.updReq k f).pending = s.pending := rfl
@[simp] theorem State.updReq_out (s : State) (k : Nat) (f : Request → Request) : (s.updReq k f).out = s.out := rfl
@[simp] theorem State.updReq_ns (s : State) (k : Nat) (f : Request → Request) : (s.updReq k f).ns = s.ns := rfl
@[simp] theorem State.updReq_free (s : State) (k : Nat) (f : Request → Request) : (s.updReq k f).free = s.free := rfl
@[simp] theorem State.updReq_ctr (s : State) (k : Nat) (f : Request → Request) : (s.updReq k f).ctr = s.ctr := rfl
@[simp] theorem State.updReq_ev (s : State) (k : Nat) (f : Request → Request) : (s.updReq k f).ev = s.ev := rfl
@[simp] theorem State.updReq_pages (s : State) (k : Nat) (f : Request → Request) : (s.updReq k f).pages = s.pages := rfl
@[simp] theorem State.updReq_tiers (s : State) (k : Nat) (f : Request → Request) : (s.updReq k f).tiers = s.tiers := rfl
@[simp] theorem State.updReq_own (s : State) (k : Nat) (f : Request → Request) : (s.updReq k f).own = s.own := rfl
@[simp] theorem State.updReq_sched (s : State) (k : Nat) (f : Request → Request) : (s.updReq k f).sched = s.sched := rfl
@[simp] theorem State.updReq_profs (s : State) (k : Nat) (f : Request → Request) : (s.updReq k f).profs = s.profs := rfl
@[simp] theorem State.updReq_emb (s : State) (k : Nat) (f : Request → Request) : (s.updReq k f).emb = s.emb := rfl
@[simp] theorem State.updReq_vec (s : State) (k : Nat) (f : Request → Request) : (s.updReq k f).vec = s.vec := rfl
@[simp] theorem State.updReq_integ (s : State) (k : Nat) (f : Request → Request) : (s.updReq k f).integ = s.integ := rfl
@[simp] theorem State.updReq_ckpt (s : State) (k : Nat) (f : Request → Request) : (s.updReq k f).ckpt = s.ckpt := rfl
@[simp] theorem State.updReq_fab (s : State) (k : Nat) (f : Request → Request) : (s.updReq k f).fab = s.fab := rfl
@[simp] theorem State.updReq_host (s : State) (k : Nat) (f : Request → Request) : (s.updReq k f).host = s.host := rfl
@[simp] theorem State.updReq_sec (s : State) (k : Nat) (f : Request → Request) : (s.updReq k f).sec = s.sec := rfl
@[simp] theorem State.updReq_dict (s : State) (k : Nat) (f : Request → Request) : (s.updReq k f).dict = s.dict := rfl
@[simp] theorem State.updReq_boxes (s : State) (k : Nat) (f : Request → Request) : (s.updReq k f).boxes = s.boxes := rfl
@[simp] theorem State.updReq_fnet (s : State) (k : Nat) (f : Request → Request) : (s.updReq k f).fnet = s.fnet := rfl
@[simp] theorem State.updReq_maint (s : State) (k : Nat) (f : Request → Request) : (s.updReq k f).maint = s.maint := rfl
@[simp] theorem State.updReq_clk (s : State) (k : Nat) (f : Request → Request) : (s.updReq k f).clk = s.clk := rfl
@[simp] theorem State.updReq_boot (s : State) (k : Nat) (f : Request → Request) : (s.updReq k f).boot = s.boot := rfl
@[simp] theorem State.updReq_power (s : State) (k : Nat) (f : Request → Request) : (s.updReq k f).power = s.power := rfl

@[simp] theorem State.updRow_pending (s : State) (k : Nat) (f : BandRow → BandRow) : (s.updRow k f).pending = s.pending := rfl
@[simp] theorem State.updRow_out (s : State) (k : Nat) (f : BandRow → BandRow) : (s.updRow k f).out = s.out := rfl
@[simp] theorem State.updRow_ns (s : State) (k : Nat) (f : BandRow → BandRow) : (s.updRow k f).ns = s.ns := rfl
@[simp] theorem State.updRow_free (s : State) (k : Nat) (f : BandRow → BandRow) : (s.updRow k f).free = s.free := rfl
@[simp] theorem State.updRow_ctr (s : State) (k : Nat) (f : BandRow → BandRow) : (s.updRow k f).ctr = s.ctr := rfl
@[simp] theorem State.updRow_ev (s : State) (k : Nat) (f : BandRow → BandRow) : (s.updRow k f).ev = s.ev := rfl
@[simp] theorem State.updRow_sess (s : State) (k : Nat) (f : BandRow → BandRow) : (s.updRow k f).sess = s.sess := rfl
@[simp] theorem State.updRow_pages (s : State) (k : Nat) (f : BandRow → BandRow) : (s.updRow k f).pages = s.pages := rfl
@[simp] theorem State.updRow_own (s : State) (k : Nat) (f : BandRow → BandRow) : (s.updRow k f).own = s.own := rfl
@[simp] theorem State.updRow_sched (s : State) (k : Nat) (f : BandRow → BandRow) : (s.updRow k f).sched = s.sched := rfl
@[simp] theorem State.updRow_profs (s : State) (k : Nat) (f : BandRow → BandRow) : (s.updRow k f).profs = s.profs := rfl
@[simp] theorem State.updRow_emb (s : State) (k : Nat) (f : BandRow → BandRow) : (s.updRow k f).emb = s.emb := rfl
@[simp] theorem State.updRow_vec (s : State) (k : Nat) (f : BandRow → BandRow) : (s.updRow k f).vec = s.vec := rfl
@[simp] theorem State.updRow_integ (s : State) (k : Nat) (f : BandRow → BandRow) : (s.updRow k f).integ = s.integ := rfl
@[simp] theorem State.updRow_ckpt (s : State) (k : Nat) (f : BandRow → BandRow) : (s.updRow k f).ckpt = s.ckpt := rfl
@[simp] theorem State.updRow_fab (s : State) (k : Nat) (f : BandRow → BandRow) : (s.updRow k f).fab = s.fab := rfl
@[simp] theorem State.updRow_host (s : State) (k : Nat) (f : BandRow → BandRow) : (s.updRow k f).host = s.host := rfl
@[simp] theorem State.updRow_sec (s : State) (k : Nat) (f : BandRow → BandRow) : (s.updRow k f).sec = s.sec := rfl
@[simp] theorem State.updRow_dict (s : State) (k : Nat) (f : BandRow → BandRow) : (s.updRow k f).dict = s.dict := rfl
@[simp] theorem State.updRow_boxes (s : State) (k : Nat) (f : BandRow → BandRow) : (s.updRow k f).boxes = s.boxes := rfl
@[simp] theorem State.updRow_fnet (s : State) (k : Nat) (f : BandRow → BandRow) : (s.updRow k f).fnet = s.fnet := rfl
@[simp] theorem State.updRow_maint (s : State) (k : Nat) (f : BandRow → BandRow) : (s.updRow k f).maint = s.maint := rfl
@[simp] theorem State.updRow_clk (s : State) (k : Nat) (f : BandRow → BandRow) : (s.updRow k f).clk = s.clk := rfl
@[simp] theorem State.updRow_boot (s : State) (k : Nat) (f : BandRow → BandRow) : (s.updRow k f).boot = s.boot := rfl
@[simp] theorem State.updRow_power (s : State) (k : Nat) (f : BandRow → BandRow) : (s.updRow k f).power = s.power := rfl

@[simp] theorem State.setLink_pending (s : State) (k : Nat) (l : Link) : (s.setLink k l).pending = s.pending := rfl
@[simp] theorem State.setLink_out (s : State) (k : Nat) (l : Link) : (s.setLink k l).out = s.out := rfl
@[simp] theorem State.setLink_ns (s : State) (k : Nat) (l : Link) : (s.setLink k l).ns = s.ns := rfl
@[simp] theorem State.setLink_free (s : State) (k : Nat) (l : Link) : (s.setLink k l).free = s.free := rfl
@[simp] theorem State.setLink_ctr (s : State) (k : Nat) (l : Link) : (s.setLink k l).ctr = s.ctr := rfl
@[simp] theorem State.setLink_ev (s : State) (k : Nat) (l : Link) : (s.setLink k l).ev = s.ev := rfl
@[simp] theorem State.setLink_sess (s : State) (k : Nat) (l : Link) : (s.setLink k l).sess = s.sess := rfl
@[simp] theorem State.setLink_pages (s : State) (k : Nat) (l : Link) : (s.setLink k l).pages = s.pages := rfl
@[simp] theorem State.setLink_tiers (s : State) (k : Nat) (l : Link) : (s.setLink k l).tiers = s.tiers := rfl
@[simp] theorem State.setLink_own (s : State) (k : Nat) (l : Link) : (s.setLink k l).own = s.own := rfl
@[simp] theorem State.setLink_sched (s : State) (k : Nat) (l : Link) : (s.setLink k l).sched = s.sched := rfl
@[simp] theorem State.setLink_profs (s : State) (k : Nat) (l : Link) : (s.setLink k l).profs = s.profs := rfl
@[simp] theorem State.setLink_emb (s : State) (k : Nat) (l : Link) : (s.setLink k l).emb = s.emb := rfl
@[simp] theorem State.setLink_vec (s : State) (k : Nat) (l : Link) : (s.setLink k l).vec = s.vec := rfl
@[simp] theorem State.setLink_integ (s : State) (k : Nat) (l : Link) : (s.setLink k l).integ = s.integ := rfl
@[simp] theorem State.setLink_ckpt (s : State) (k : Nat) (l : Link) : (s.setLink k l).ckpt = s.ckpt := rfl
@[simp] theorem State.setLink_host (s : State) (k : Nat) (l : Link) : (s.setLink k l).host = s.host := rfl
@[simp] theorem State.setLink_sec (s : State) (k : Nat) (l : Link) : (s.setLink k l).sec = s.sec := rfl
@[simp] theorem State.setLink_dict (s : State) (k : Nat) (l : Link) : (s.setLink k l).dict = s.dict := rfl
@[simp] theorem State.setLink_boxes (s : State) (k : Nat) (l : Link) : (s.setLink k l).boxes = s.boxes := rfl
@[simp] theorem State.setLink_fnet (s : State) (k : Nat) (l : Link) : (s.setLink k l).fnet = s.fnet := rfl
@[simp] theorem State.setLink_maint (s : State) (k : Nat) (l : Link) : (s.setLink k l).maint = s.maint := rfl
@[simp] theorem State.setLink_clk (s : State) (k : Nat) (l : Link) : (s.setLink k l).clk = s.clk := rfl
@[simp] theorem State.setLink_boot (s : State) (k : Nat) (l : Link) : (s.setLink k l).boot = s.boot := rfl
@[simp] theorem State.setLink_power (s : State) (k : Nat) (l : Link) : (s.setLink k l).power = s.power := rfl

@[simp] theorem State.setLane_pending (s : State) (h n : Nat) (l : LaneHalf) : (s.setLane h n l).pending = s.pending := rfl
@[simp] theorem State.setLane_out (s : State) (h n : Nat) (l : LaneHalf) : (s.setLane h n l).out = s.out := rfl
@[simp] theorem State.setLane_ns (s : State) (h n : Nat) (l : LaneHalf) : (s.setLane h n l).ns = s.ns := rfl
@[simp] theorem State.setLane_free (s : State) (h n : Nat) (l : LaneHalf) : (s.setLane h n l).free = s.free := rfl
@[simp] theorem State.setLane_ctr (s : State) (h n : Nat) (l : LaneHalf) : (s.setLane h n l).ctr = s.ctr := rfl
@[simp] theorem State.setLane_ev (s : State) (h n : Nat) (l : LaneHalf) : (s.setLane h n l).ev = s.ev := rfl
@[simp] theorem State.setLane_sess (s : State) (h n : Nat) (l : LaneHalf) : (s.setLane h n l).sess = s.sess := rfl
@[simp] theorem State.setLane_pages (s : State) (h n : Nat) (l : LaneHalf) : (s.setLane h n l).pages = s.pages := rfl
@[simp] theorem State.setLane_tiers (s : State) (h n : Nat) (l : LaneHalf) : (s.setLane h n l).tiers = s.tiers := rfl
@[simp] theorem State.setLane_own (s : State) (h n : Nat) (l : LaneHalf) : (s.setLane h n l).own = s.own := rfl
@[simp] theorem State.setLane_profs (s : State) (h n : Nat) (l : LaneHalf) : (s.setLane h n l).profs = s.profs := rfl
@[simp] theorem State.setLane_emb (s : State) (h n : Nat) (l : LaneHalf) : (s.setLane h n l).emb = s.emb := rfl
@[simp] theorem State.setLane_vec (s : State) (h n : Nat) (l : LaneHalf) : (s.setLane h n l).vec = s.vec := rfl
@[simp] theorem State.setLane_integ (s : State) (h n : Nat) (l : LaneHalf) : (s.setLane h n l).integ = s.integ := rfl
@[simp] theorem State.setLane_ckpt (s : State) (h n : Nat) (l : LaneHalf) : (s.setLane h n l).ckpt = s.ckpt := rfl
@[simp] theorem State.setLane_fab (s : State) (h n : Nat) (l : LaneHalf) : (s.setLane h n l).fab = s.fab := rfl
@[simp] theorem State.setLane_host (s : State) (h n : Nat) (l : LaneHalf) : (s.setLane h n l).host = s.host := rfl
@[simp] theorem State.setLane_sec (s : State) (h n : Nat) (l : LaneHalf) : (s.setLane h n l).sec = s.sec := rfl
@[simp] theorem State.setLane_dict (s : State) (h n : Nat) (l : LaneHalf) : (s.setLane h n l).dict = s.dict := rfl
@[simp] theorem State.setLane_boxes (s : State) (h n : Nat) (l : LaneHalf) : (s.setLane h n l).boxes = s.boxes := rfl
@[simp] theorem State.setLane_fnet (s : State) (h n : Nat) (l : LaneHalf) : (s.setLane h n l).fnet = s.fnet := rfl
@[simp] theorem State.setLane_maint (s : State) (h n : Nat) (l : LaneHalf) : (s.setLane h n l).maint = s.maint := rfl
@[simp] theorem State.setLane_clk (s : State) (h n : Nat) (l : LaneHalf) : (s.setLane h n l).clk = s.clk := rfl
@[simp] theorem State.setLane_boot (s : State) (h n : Nat) (l : LaneHalf) : (s.setLane h n l).boot = s.boot := rfl
@[simp] theorem State.setLane_power (s : State) (h n : Nat) (l : LaneHalf) : (s.setLane h n l).power = s.power := rfl

@[simp] theorem State.updPort_pending (s : State) (p : Nat) (f : Port → Port) : (s.updPort p f).pending = s.pending := rfl
@[simp] theorem State.updPort_out (s : State) (p : Nat) (f : Port → Port) : (s.updPort p f).out = s.out := rfl
@[simp] theorem State.updPort_ns (s : State) (p : Nat) (f : Port → Port) : (s.updPort p f).ns = s.ns := rfl
@[simp] theorem State.updPort_free (s : State) (p : Nat) (f : Port → Port) : (s.updPort p f).free = s.free := rfl
@[simp] theorem State.updPort_ctr (s : State) (p : Nat) (f : Port → Port) : (s.updPort p f).ctr = s.ctr := rfl
@[simp] theorem State.updPort_ev (s : State) (p : Nat) (f : Port → Port) : (s.updPort p f).ev = s.ev := rfl
@[simp] theorem State.updPort_sess (s : State) (p : Nat) (f : Port → Port) : (s.updPort p f).sess = s.sess := rfl
@[simp] theorem State.updPort_pages (s : State) (p : Nat) (f : Port → Port) : (s.updPort p f).pages = s.pages := rfl
@[simp] theorem State.updPort_tiers (s : State) (p : Nat) (f : Port → Port) : (s.updPort p f).tiers = s.tiers := rfl
@[simp] theorem State.updPort_own (s : State) (p : Nat) (f : Port → Port) : (s.updPort p f).own = s.own := rfl
@[simp] theorem State.updPort_sched (s : State) (p : Nat) (f : Port → Port) : (s.updPort p f).sched = s.sched := rfl
@[simp] theorem State.updPort_profs (s : State) (p : Nat) (f : Port → Port) : (s.updPort p f).profs = s.profs := rfl
@[simp] theorem State.updPort_emb (s : State) (p : Nat) (f : Port → Port) : (s.updPort p f).emb = s.emb := rfl
@[simp] theorem State.updPort_vec (s : State) (p : Nat) (f : Port → Port) : (s.updPort p f).vec = s.vec := rfl
@[simp] theorem State.updPort_integ (s : State) (p : Nat) (f : Port → Port) : (s.updPort p f).integ = s.integ := rfl
@[simp] theorem State.updPort_ckpt (s : State) (p : Nat) (f : Port → Port) : (s.updPort p f).ckpt = s.ckpt := rfl
@[simp] theorem State.updPort_fab (s : State) (p : Nat) (f : Port → Port) : (s.updPort p f).fab = s.fab := rfl
@[simp] theorem State.updPort_sec (s : State) (p : Nat) (f : Port → Port) : (s.updPort p f).sec = s.sec := rfl
@[simp] theorem State.updPort_dict (s : State) (p : Nat) (f : Port → Port) : (s.updPort p f).dict = s.dict := rfl
@[simp] theorem State.updPort_boxes (s : State) (p : Nat) (f : Port → Port) : (s.updPort p f).boxes = s.boxes := rfl
@[simp] theorem State.updPort_fnet (s : State) (p : Nat) (f : Port → Port) : (s.updPort p f).fnet = s.fnet := rfl
@[simp] theorem State.updPort_maint (s : State) (p : Nat) (f : Port → Port) : (s.updPort p f).maint = s.maint := rfl
@[simp] theorem State.updPort_clk (s : State) (p : Nat) (f : Port → Port) : (s.updPort p f).clk = s.clk := rfl
@[simp] theorem State.updPort_boot (s : State) (p : Nat) (f : Port → Port) : (s.updPort p f).boot = s.boot := rfl
@[simp] theorem State.updPort_power (s : State) (p : Nat) (f : Port → Port) : (s.updPort p f).power = s.power := rfl

@[simp] theorem State.updRing_pending (s : State) (k : Nat) (f : Ring → Ring) : (s.updRing k f).pending = s.pending := rfl
@[simp] theorem State.updRing_out (s : State) (k : Nat) (f : Ring → Ring) : (s.updRing k f).out = s.out := rfl
@[simp] theorem State.updRing_ns (s : State) (k : Nat) (f : Ring → Ring) : (s.updRing k f).ns = s.ns := rfl
@[simp] theorem State.updRing_free (s : State) (k : Nat) (f : Ring → Ring) : (s.updRing k f).free = s.free := rfl
@[simp] theorem State.updRing_ctr (s : State) (k : Nat) (f : Ring → Ring) : (s.updRing k f).ctr = s.ctr := rfl
@[simp] theorem State.updRing_ev (s : State) (k : Nat) (f : Ring → Ring) : (s.updRing k f).ev = s.ev := rfl
@[simp] theorem State.updRing_sess (s : State) (k : Nat) (f : Ring → Ring) : (s.updRing k f).sess = s.sess := rfl
@[simp] theorem State.updRing_pages (s : State) (k : Nat) (f : Ring → Ring) : (s.updRing k f).pages = s.pages := rfl
@[simp] theorem State.updRing_tiers (s : State) (k : Nat) (f : Ring → Ring) : (s.updRing k f).tiers = s.tiers := rfl
@[simp] theorem State.updRing_own (s : State) (k : Nat) (f : Ring → Ring) : (s.updRing k f).own = s.own := rfl
@[simp] theorem State.updRing_sched (s : State) (k : Nat) (f : Ring → Ring) : (s.updRing k f).sched = s.sched := rfl
@[simp] theorem State.updRing_profs (s : State) (k : Nat) (f : Ring → Ring) : (s.updRing k f).profs = s.profs := rfl
@[simp] theorem State.updRing_emb (s : State) (k : Nat) (f : Ring → Ring) : (s.updRing k f).emb = s.emb := rfl
@[simp] theorem State.updRing_vec (s : State) (k : Nat) (f : Ring → Ring) : (s.updRing k f).vec = s.vec := rfl
@[simp] theorem State.updRing_integ (s : State) (k : Nat) (f : Ring → Ring) : (s.updRing k f).integ = s.integ := rfl
@[simp] theorem State.updRing_ckpt (s : State) (k : Nat) (f : Ring → Ring) : (s.updRing k f).ckpt = s.ckpt := rfl
@[simp] theorem State.updRing_fab (s : State) (k : Nat) (f : Ring → Ring) : (s.updRing k f).fab = s.fab := rfl
@[simp] theorem State.updRing_sec (s : State) (k : Nat) (f : Ring → Ring) : (s.updRing k f).sec = s.sec := rfl
@[simp] theorem State.updRing_dict (s : State) (k : Nat) (f : Ring → Ring) : (s.updRing k f).dict = s.dict := rfl
@[simp] theorem State.updRing_boxes (s : State) (k : Nat) (f : Ring → Ring) : (s.updRing k f).boxes = s.boxes := rfl
@[simp] theorem State.updRing_fnet (s : State) (k : Nat) (f : Ring → Ring) : (s.updRing k f).fnet = s.fnet := rfl
@[simp] theorem State.updRing_maint (s : State) (k : Nat) (f : Ring → Ring) : (s.updRing k f).maint = s.maint := rfl
@[simp] theorem State.updRing_clk (s : State) (k : Nat) (f : Ring → Ring) : (s.updRing k f).clk = s.clk := rfl
@[simp] theorem State.updRing_boot (s : State) (k : Nat) (f : Ring → Ring) : (s.updRing k f).boot = s.boot := rfl
@[simp] theorem State.updRing_power (s : State) (k : Nat) (f : Ring → Ring) : (s.updRing k f).power = s.power := rfl

@[simp] theorem State.setMaint_pending (s : State) (st w : Nat) : (s.setMaint st w).pending = s.pending := rfl
@[simp] theorem State.setMaint_out (s : State) (st w : Nat) : (s.setMaint st w).out = s.out := rfl
@[simp] theorem State.setMaint_ns (s : State) (st w : Nat) : (s.setMaint st w).ns = s.ns := rfl
@[simp] theorem State.setMaint_free (s : State) (st w : Nat) : (s.setMaint st w).free = s.free := rfl
@[simp] theorem State.setMaint_ctr (s : State) (st w : Nat) : (s.setMaint st w).ctr = s.ctr := rfl
@[simp] theorem State.setMaint_ev (s : State) (st w : Nat) : (s.setMaint st w).ev = s.ev := rfl
@[simp] theorem State.setMaint_sess (s : State) (st w : Nat) : (s.setMaint st w).sess = s.sess := rfl
@[simp] theorem State.setMaint_pages (s : State) (st w : Nat) : (s.setMaint st w).pages = s.pages := rfl
@[simp] theorem State.setMaint_tiers (s : State) (st w : Nat) : (s.setMaint st w).tiers = s.tiers := rfl
@[simp] theorem State.setMaint_own (s : State) (st w : Nat) : (s.setMaint st w).own = s.own := rfl
@[simp] theorem State.setMaint_sched (s : State) (st w : Nat) : (s.setMaint st w).sched = s.sched := rfl
@[simp] theorem State.setMaint_profs (s : State) (st w : Nat) : (s.setMaint st w).profs = s.profs := rfl
@[simp] theorem State.setMaint_emb (s : State) (st w : Nat) : (s.setMaint st w).emb = s.emb := rfl
@[simp] theorem State.setMaint_vec (s : State) (st w : Nat) : (s.setMaint st w).vec = s.vec := rfl
@[simp] theorem State.setMaint_integ (s : State) (st w : Nat) : (s.setMaint st w).integ = s.integ := rfl
@[simp] theorem State.setMaint_ckpt (s : State) (st w : Nat) : (s.setMaint st w).ckpt = s.ckpt := rfl
@[simp] theorem State.setMaint_fab (s : State) (st w : Nat) : (s.setMaint st w).fab = s.fab := rfl
@[simp] theorem State.setMaint_host (s : State) (st w : Nat) : (s.setMaint st w).host = s.host := rfl
@[simp] theorem State.setMaint_sec (s : State) (st w : Nat) : (s.setMaint st w).sec = s.sec := rfl
@[simp] theorem State.setMaint_dict (s : State) (st w : Nat) : (s.setMaint st w).dict = s.dict := rfl
@[simp] theorem State.setMaint_boxes (s : State) (st w : Nat) : (s.setMaint st w).boxes = s.boxes := rfl
@[simp] theorem State.setMaint_fnet (s : State) (st w : Nat) : (s.setMaint st w).fnet = s.fnet := rfl
@[simp] theorem State.setMaint_clk (s : State) (st w : Nat) : (s.setMaint st w).clk = s.clk := rfl
@[simp] theorem State.setMaint_boot (s : State) (st w : Nat) : (s.setMaint st w).boot = s.boot := rfl
@[simp] theorem State.setMaint_power (s : State) (st w : Nat) : (s.setMaint st w).power = s.power := rfl

@[simp] theorem State.sendFlit_pending (s : State) (k ft : Nat) (f : Option Flit) (rec : Nat) : (s.sendFlit k ft f rec).pending = s.pending := rfl
@[simp] theorem State.sendFlit_ns (s : State) (k ft : Nat) (f : Option Flit) (rec : Nat) : (s.sendFlit k ft f rec).ns = s.ns := rfl
@[simp] theorem State.sendFlit_free (s : State) (k ft : Nat) (f : Option Flit) (rec : Nat) : (s.sendFlit k ft f rec).free = s.free := rfl
@[simp] theorem State.sendFlit_ctr (s : State) (k ft : Nat) (f : Option Flit) (rec : Nat) : (s.sendFlit k ft f rec).ctr = s.ctr := rfl
@[simp] theorem State.sendFlit_ev (s : State) (k ft : Nat) (f : Option Flit) (rec : Nat) : (s.sendFlit k ft f rec).ev = s.ev := rfl
@[simp] theorem State.sendFlit_sess (s : State) (k ft : Nat) (f : Option Flit) (rec : Nat) : (s.sendFlit k ft f rec).sess = s.sess := rfl
@[simp] theorem State.sendFlit_pages (s : State) (k ft : Nat) (f : Option Flit) (rec : Nat) : (s.sendFlit k ft f rec).pages = s.pages := rfl
@[simp] theorem State.sendFlit_tiers (s : State) (k ft : Nat) (f : Option Flit) (rec : Nat) : (s.sendFlit k ft f rec).tiers = s.tiers := rfl
@[simp] theorem State.sendFlit_own (s : State) (k ft : Nat) (f : Option Flit) (rec : Nat) : (s.sendFlit k ft f rec).own = s.own := rfl
@[simp] theorem State.sendFlit_sched (s : State) (k ft : Nat) (f : Option Flit) (rec : Nat) : (s.sendFlit k ft f rec).sched = s.sched := rfl
@[simp] theorem State.sendFlit_profs (s : State) (k ft : Nat) (f : Option Flit) (rec : Nat) : (s.sendFlit k ft f rec).profs = s.profs := rfl
@[simp] theorem State.sendFlit_emb (s : State) (k ft : Nat) (f : Option Flit) (rec : Nat) : (s.sendFlit k ft f rec).emb = s.emb := rfl
@[simp] theorem State.sendFlit_vec (s : State) (k ft : Nat) (f : Option Flit) (rec : Nat) : (s.sendFlit k ft f rec).vec = s.vec := rfl
@[simp] theorem State.sendFlit_integ (s : State) (k ft : Nat) (f : Option Flit) (rec : Nat) : (s.sendFlit k ft f rec).integ = s.integ := rfl
@[simp] theorem State.sendFlit_ckpt (s : State) (k ft : Nat) (f : Option Flit) (rec : Nat) : (s.sendFlit k ft f rec).ckpt = s.ckpt := rfl
@[simp] theorem State.sendFlit_host (s : State) (k ft : Nat) (f : Option Flit) (rec : Nat) : (s.sendFlit k ft f rec).host = s.host := rfl
@[simp] theorem State.sendFlit_sec (s : State) (k ft : Nat) (f : Option Flit) (rec : Nat) : (s.sendFlit k ft f rec).sec = s.sec := rfl
@[simp] theorem State.sendFlit_dict (s : State) (k ft : Nat) (f : Option Flit) (rec : Nat) : (s.sendFlit k ft f rec).dict = s.dict := rfl
@[simp] theorem State.sendFlit_boxes (s : State) (k ft : Nat) (f : Option Flit) (rec : Nat) : (s.sendFlit k ft f rec).boxes = s.boxes := rfl
@[simp] theorem State.sendFlit_fnet (s : State) (k ft : Nat) (f : Option Flit) (rec : Nat) : (s.sendFlit k ft f rec).fnet = s.fnet := rfl
@[simp] theorem State.sendFlit_maint (s : State) (k ft : Nat) (f : Option Flit) (rec : Nat) : (s.sendFlit k ft f rec).maint = s.maint := rfl
@[simp] theorem State.sendFlit_clk (s : State) (k ft : Nat) (f : Option Flit) (rec : Nat) : (s.sendFlit k ft f rec).clk = s.clk := rfl
@[simp] theorem State.sendFlit_boot (s : State) (k ft : Nat) (f : Option Flit) (rec : Nat) : (s.sendFlit k ft f rec).boot = s.boot := rfl
@[simp] theorem State.sendFlit_power (s : State) (k ft : Nat) (f : Option Flit) (rec : Nat) : (s.sendFlit k ft f rec).power = s.power := rfl

theorem State.at_ns (s : State) (t : Nat) : (s.at t).ns = max s.ns t := rfl

theorem State.emit_out (s : State) (o : Out) : (s.emit o).out = o :: s.out := rfl

end Sys2Proof.Machine
end

