-- ==== Sys2Proof/Tests/Slice0.lean ====
section
/-!
SUPPORT. Tests. First the checks of WellFormed, each with a term it refuses, and the spec's own worked examples; then, for every clause of the statements
that has hypotheses, a state and operands that meet all of them (where what the device's own cryptography finds decides a clause, none can be shown: log 9).
-/

namespace Sys2Proof.Tests
set_option Elab.async false
set_option linter.unusedVariables false
open Sys2Proof.Machine Sys2Proof.Claim

/-- The device in mode NORMAL, with all of T1 scrubbed. -/
def norm : State := { State.reset with boot := { Boot.start with mode := 1 }, tiers := { Tiers.start with scrub := [] } }

/-- A descriptor of opcode `op` with handle `hnd` and the other bits `rest`. -/
def mk (op hnd rest : Nat) : Desc := BitVec.ofNat 512 (withPar (op + 2 ^ 8 + hnd * 2 ^ 64 + rest) 8 63 56)

/-- `n` at bit `lo`. -/
def at_ (n lo : Nat) : Nat := n * 2 ^ lo

/-- The handle of entry 0 of partition 0 under generation 1. -/
def h0 : Nat := mkHandle 0 0 1

/-- A directory entry of partition 0 in state `x`. -/
def entry (x : SessState) : DirEntry := { DirEntry.blank 1 0 with state := x, ttl := 60 }

/-- `norm` with entry 0 of the directory as given. -/
def withE (e : DirEntry) : State := { norm with sess := { Sess.start with dir := [(0, e)] } }

/-- `s` with value `v` at entry `idx`.`sub` of the Dictionary. -/
def setV (s : State) (idx sub : Nat) (v : List Byte) : State := { s with dict := { s.dict with vals := s.dict.vals.put (dkey idx sub) v } }

/-- A command as function 0's ring 0 sent it. -/
def cmd0 : Cmd := { fn := 0, cq := 0, tag := 0, handle := h0, gen := 0, lc := false }

/-- A profile of one layer with one head of 32 values. -/
def prof0 : Profile :=
  { latent := false, heads := 1, g := 1, dk := 32, dv := 32, kfmt := 0, vfmt := 0, kvin := 0, qfmt := 0, ofmt := 0, layers := 1
    maxCtx := 4096, scale := 0x3F800000, kdt := 0, vdt := 0, expCurve := 0, cap := 0, rcap := 0, tanhCurve := 0, rotMode := 0, rbase := 0
    rlen := 0, freqs := [], window := 0, wbits := 0, sinks := 0, alibi := false, slopes := [], sinkOn := false, sinkZ := [], chunk := 0
    tokenizer := 0xFFFF, endToks := [], vocab := 16, raw := [] }

/-- A request of entry 0 in stream slot 0. -/
def req0 : Request :=
  { idx := 0, cmd := cmd0, desc := 0#512, half := 0, part := 0, lane := 0, lc := false, order := 0, maxNew := 1, deadline := 0, ring := 0
    chunk := 1, tok := false, tokHost := false, detokHost := false, collecting := true, inBytes := 0, heldIn := [], pre := { s := 0, cur := [], out := [] }
    bufs := [], ids := [], replaced := 0, firstRep := none, started := false, todo := [], charge := 0, produced := 0
    params := SelParams.greedy, counts := [], countFull := false, countSats := [], grammar := 0xFFFF, stops := 0xFFFF, gcfg := none
    sinceG := [], sinceS := [], heldOut := [], outOff := 0, unrel := [], outFix := false, cut := false, discarded := 0, detok := []
    deferRun := false, missRun := false, relay := none }

/-- Entry 0 LIVE in stream slot 0, with its request. -/
def live0 : State :=
  let s := withE { entry .live with sv := true }
  { s with sess := { s.sess with slots := [(0, req0)] } }

/-- An output ring, or of another kind, `id` of function 0. -/
def ring0 (kind id : Nat) : Ring :=
  { fn := 0, kind, id, base := 0, hidx := 0, didx := 0, lgsz := 0, cq := 0, vector := 0, iv := false, lci := false, cthr := 1, tthr := 0
    hostIdx := 0, posted := 0, stopped := false, backlog := [], msg := 0, lost := false, coh := false }

/-- `s` with a ring. -/
def withRing (s : State) (r : Ring) : State := { s with host := { s.host with rings := s.host.rings.put (ringKey r.fn r.kind r.id) r } }

/-- `s` whose entry 0 has a page table of one block in T1. -/
def withTab (s : State) : State :=
  { s with pages := { s.pages with tables := [(0, { layers := [(0, { depth := 1, leaves := 1, ents := [] })], blocks := [{ kind := 0, layer := 0, n := 0, a := 0, b := 0 }], inT1 := true, low := 0, next := 0 })] } }

/-- A sealed page of entry 0 in T1. -/
def page0 : Page :=
  { origin := 0, layer := 0, pidx := 0, profile := 0, kfmt := 0, vfmt := 0, latent := false, bytes := 4096, st := .sealed, rows := []
    pchk := .good, a := 2 ^ 45, b := 0, low := 0, clen := 0, next := 0, lowChk := .good, part := 0, half := 0, rel := none }

/-- A page of entry 0 whose object in T2 is its only copy. -/
def lowPage : Page := { page0 with a := 0, low := 2 * 2 ^ 45, clen := 5 }

/-- `s` whose entry 0 has page `p`, page 0 of layer 0. -/
def withPg (s : State) (p : Page) : State :=
  { s with pages := { s.pages with
      pages := [(1, p)]
      tables := [(0, { layers := [(0, { depth := 1, leaves := 1, ents := [(0, .own 1)] })], blocks := [{ kind := 0, layer := 0, n := 0, a := 0, b := 0 }], inT1 := true, low := 0, next := 0 })] } }

/-- A granule in T1 that stands still. -/
def gran0 : Granule := { tier := 1, pin := false, loc := 0, mv := none, adds := [], accSec := 0, acc := 0, lastAcc := 0 }

/-- `s` with granule `g`. -/
def withG (s : State) (g : Nat) (x : Granule) : State := { s with tiers := { s.tiers with grans := s.tiers.grans.put g x } }

/-- The CRC with the register looked at after each byte, so that the kernel evaluates it byte by byte. -/
def crcGo : List Byte → Nat → Nat
  | [], c => c
  | b :: t, c => if crcByte 0x82F63B78 c b = 0 then crcGo t 0 else crcGo t (crcByte 0x82F63B78 c b)

theorem crcGo_eq : ∀ (l : List Byte) (c : Nat), crcGo l c = l.foldl (crcByte 0x82F63B78) c
  | [], c => rfl
  | b :: t, c => by
    rw [crcGo, List.foldl_cons]
    split
    · rename_i h; rw [h]; exact crcGo_eq t 0
    · exact crcGo_eq t _

theorem crc32c_go : crc32c = fun b => crcGo b 0xFFFFFFFF ^^^ 0xFFFFFFFF := by
  funext b; rw [crcGo_eq]; rfl


/-- `s` with the request of slot 0. -/
def withReq (s : State) : State := { s with sess := { s.sess with slots := [(0, req0)] } }

/-- A demotion to T2 with nothing left. -/
def demo0 : Demotion := { tier := 2, left := [], tabs := false, pass := false, parks := [] }

/-- A page whose only copy lies in T3, in extent 0, which was never leased. -/
def lapsedPage : Page := { page0 with a := 0, low := 3 * 2 ^ 45, clen := 5 }

/-- `s` with every Lysing stack of the West half lost. -/
def noT1 (s : State) : State :=
  { s with tiers := { s.tiers with lys := (List.range 16).map (fun k => (k, { cond := 2, tries := 0, fails := 0, answers := false })) } }

/-- `s` with the first 4 KiB block of its memory poisoned. -/
def poisonG (s : State) : State := { s with tiers := { s.tiers with poison := [0] } }

/-- `s` whose line 0 a host holds with ownership on port 1. -/
def withHeld (s : State) : State :=
  { s with host := { s.host with ports := [(1, { Port.blank with lines := [{ addr := 0, owned := true, snooped := false }] })] } }

/-- `s` with the bridge down. -/
def noBridge (s : State) : State := { s with boot := { s.boot with bridge := true } }

/-- A region of partition 0 over granule 0. -/
def reg0 : Region := { part := 0, gran := 0, count := 1, version := 0, time := 0, pub := false, pubfn := 0 }

/-- `s` with region 0. -/
def withReg (s : State) : State := { s with host := { s.host with regions := [(0, reg0)] } }

/-- Did it succeed? -/
def isOk {ε α : Type} : Except ε α → Bool
  | .ok _ => true
  | .error _ => false

/-- What it gave, `d` where it failed. -/
def okOf {ε α : Type} (e : Except ε α) (d : α) : α :=
  match e with
  | .ok a => a
  | .error _ => d

theorem ok_of {ε α : Type} {e : Except ε α} (d : α) (h : isOk e = true) : e = .ok (okOf e d) := by
  cases e with
  | ok a => rfl
  | error x => cases h

/-! ### WellFormed -/

theorem test_wf_fn : Instr.wellFormed (.quotaWrite (.mailbox 256) 0 1 []) = false := by decide

theorem test_wf_part : Instr.wellFormed (.quotaWrite (.mailbox 0) 64 1 []) = false := by decide

theorem test_wf_stack : Instr.wellFormed (.stackLost 0 16) = false := by decide

theorem test_wf_half : Instr.wellFormed (.stackLost 2 0) = false := by decide

theorem test_wf_band : Instr.wellFormed (.rebuildRowDone 0 0 768) = false := by decide

theorem test_wf_entry : Instr.wellFormed (.entryFree 4194304) = false := by decide

theorem test_wf_core : Instr.wellFormed (.splitFinish 256 0 0) = false := by decide

theorem test_wf_lane : Instr.wellFormed (.laneEnableWrite (.mailbox 0) 8 []) = false := by decide

theorem test_wf_vc : Instr.wellFormed (.wfqStart 0 8 0) = false := by decide

theorem test_wf_link : Instr.wellFormed (.linkRetryTimer 96) = false := by decide

theorem test_wf_port : Instr.wellFormed (.perst 4) = false := by decide

theorem test_wf_array : Instr.wellFormed (.laserSourceFail 8 0) = false := by decide

theorem test_wf_wave : Instr.wellFormed (.laserSourceFail 0 4) = false := by decide

theorem test_wf_island : Instr.wellFormed (.slackRead 100 0 0) = false := by decide

theorem test_wf_islandKind : Instr.wellFormed (.marginCurveWrite (.mailbox 0) 17 1 []) = false := by decide

theorem test_wf_ringKind : Instr.wellFormed (.ringHeadUpdate 0 0 1 0) = false := by decide

theorem test_wf_sq : Instr.wellFormed (.ringHeadUpdate 0 2 256 0) = false := by decide

theorem test_wf_textKind : Instr.wellFormed (.textTableWrite (.mailbox 0) 3 0 []) = false := by decide

theorem test_wf_vector : Instr.wellFormed (.msixVectorUnmask 0 2048) = false := by decide

theorem test_wf_table : Instr.wellFormed (.holdEpochWrite (.mailbox 0) 64 []) = false := by decide

theorem test_wf_smallId : Instr.wellFormed (.patternWrite (.mailbox 0) 16 []) = false := by decide

theorem test_wf_index : Instr.wellFormed (.counterClear (.mailbox 0) 65536 []) = false := by decide

theorem test_wf_crc : Instr.wellFormed (.gather 4 0 0 [] 4294967296) = false := by decide

theorem test_wf_origin : Instr.wellFormed (.patternWrite (.net 0 65536) 0 []) = false := by decide

theorem test_wf_via : Instr.wellFormed (.getVersion (.net (2 ^ 48)) none [] 0) = false := by decide

theorem test_wf_holds : Instr.wellFormed (.linkRetryTimer 95) = true := by decide

/-! ### The spec's worked examples -/

/-- No row of the opcode table has bits, so no word spells a command. -/
theorem test_no_words : decodeTableWord 16 0xFFFF = none := rfl

/-- 00_scope.md, one session handle: partition 3, directory index 69, generation 7. -/
theorem test_handle : mkHandle 3 69 7 = 0x0C00045000000007 ∧ hIdx 0x0C00045000000007 = 69 := by decide +kernel

/-- 03_kv_pages.md, page sizes: H 8, d 128, BF16 and FP8; H 32, d 128, FP8; latent, dk 576. -/
theorem test_pages : ({ prof0 with heads := 8, dk := 128, dv := 128 } : Profile).pageBytes = 66560
    ∧ ({ prof0 with heads := 8, dk := 128, dv := 128, kfmt := 2, vfmt := 2 } : Profile).pageBytes = 33792
    ∧ ({ prof0 with heads := 32, dk := 128, dv := 128, kfmt := 2, vfmt := 2 } : Profile).pageBytes = 134144
    ∧ ({ prof0 with latent := true, dk := 576, dv := 512 } : Profile).pageBytes = 19456 := by decide +kernel

/-- 04_tiers.md, decoding six BF16 keys. -/
theorem test_keys : decodeBlock 0 6 11 ((List.range 256).map (fun s => if s = 0x3F then 1 else if s = 0xBF then 2 else if s = 0x40 then 3 else if s = 0xC0 then 3 else 0))
    [0x2C#8, 0xE0#8] [0x80#8, 0x00#8, 0x80#8, 0x00#8, 0x40#8, 0x00#8]
    = some ([0x3F80, 0x3F00, 0xBF80, 0x4000, 0x3F40, 0xC000].flatMap (leBytes 2)) := by decide +kernel

/-- 10_embeddings.md, one UINT4 row: 0.5, -1.0, 2.0, 0.25. -/
theorem test_uint4 : requantRow 5 [] [0x3F000000, 0xBF800000, 0x40000000, 0x3E800000]
    = leBytes 4 0x3E4CCCCD ++ leBytes 4 0xBF800000 ++ [0x08#8, 0x6F#8] := by decide +kernel

/-- 08_text_grammar.md, repairing a damaged input. -/
theorem test_damaged : (decodeText true 0 [0x41#8, 0xF0#8, 0x9F#8, 0x98#8, 0xE1#8, 0x80#8, 0xC2#8, 0x42#8]).1.map (fun c => (c.cp, c.fix))
    = [(0x41, false), (0xFFFD, true), (0xFFFD, true), (0xFFFD, true), (0x42, false)] := by decide +kernel

/-! ### Sessions and requests -/

namespace W01

theorem wit_openMakes : ∃ s : State, ∃ fn : Nat, ∃ sq : Nat, ∃ d : Desc, ∃ p : Nat, ∃ h : Nat, ∃ i : Nat, ∃ pr : Profile, (Taken s 0x01 fn d p) ∧ (s.profs.get? (dFld d 159 154) = some pr) ∧ (s.ttlBad (dFld d 191 160) = false) ∧ (dFld d 153 152 < 3) ∧ (h = (if dFld d 153 152 < 2 then dFld d 153 152 else if s.entriesUsed 1 < s.entriesUsed 0 then 1 else 0)) ∧ ((s.boot.bridge && h == 1) = false) ∧ (s.openCount p < s.dval (0x2040 + p) 1) ∧ (s.freeIndex h = some i) ∧ (2 * cdiv pr.layers 128 ≤ s.roomT1 h) :=
  ⟨{ norm with profs := [(0, prof0)] }, 0, 0, mk 1 0 0, 0, 0, 0, prof0, by decide +kernel, by decide +kernel, by decide +kernel, by decide +kernel, by decide +kernel, by decide +kernel, by decide +kernel, by decide +kernel, by decide +kernel⟩

theorem wit_openAtQuota : ∃ s : State, ∃ fn : Nat, ∃ sq : Nat, ∃ d : Desc, ∃ p : Nat, ∃ pr : Profile, (Taken s 0x01 fn d p) ∧ (s.profs.get? (dFld d 159 154) = some pr) ∧ (s.ttlBad (dFld d 191 160) = false) ∧ (dFld d 153 152 < 2) ∧ ((s.boot.bridge && dFld d 153 152 == 1) = false) ∧ (s.dval (0x2040 + p) 1 ≤ s.openCount p) :=
  ⟨{ setV norm 0x2040 1 (leBytes 4 0) with profs := [(0, prof0)] }, 0, 0, mk 1 0 0, 0, prof0, by decide +kernel, by decide +kernel, by decide +kernel, by decide +kernel, by decide +kernel, by decide +kernel⟩

theorem wit_submitAttaches :
  (∃ s : State, ∃ fn : Nat, ∃ sq : Nat, ∃ d : Desc, ∃ input : Option (List Byte), ∃ t : Nat, ∃ p : Nat, ∃ k : Nat, ∃ ps : SelParams, ∃ b : List Byte, 
    let s1 := (s.at t).dmaFrom fn input
    
    let i := hIdx (dHnd d)
    
    let e := s1.ent i
    
    let q := s1.newRequest (s1.cmdOf fn sq d (dFlag d 24)) p i d ps
    (Submittable s1 fn d input p k ps b) ∧ (e.state = .idle ∨ (e.state = .developing ∧ e.sv = false) ∨ (e.state = .moving ∧ (e.sv = false ∨ s1.sess.slots.has e.slot = false))))
  ∧ (∃ s : State, ∃ fn : Nat, ∃ sq : Nat, ∃ d : Desc, ∃ input : Option (List Byte), ∃ t : Nat, ∃ p : Nat, ∃ k : Nat, ∃ ps : SelParams, ∃ b : List Byte, 
    let s1 := (s.at t).dmaFrom fn input
    
    let i := hIdx (dHnd d)
    
    let e := s1.ent i
    
    let q := s1.newRequest (s1.cmdOf fn sq d (dFlag d 24)) p i d ps
    (Submittable s1 fn d input p k ps b) ∧ (e.state = .parked) ∧ (s1.lapsedNeed i = none) ∧ (s1.noRoom e.part e.shalf (s1.revivalKib i) = none))
  ∧ (∃ s : State, ∃ fn : Nat, ∃ sq : Nat, ∃ d : Desc, ∃ input : Option (List Byte), ∃ t : Nat, ∃ p : Nat, ∃ k : Nat, ∃ ps : SelParams, ∃ b : List Byte, 
    let s1 := (s.at t).dmaFrom fn input
    
    let i := hIdx (dHnd d)
    
    let e := s1.ent i
    
    let q := s1.newRequest (s1.cmdOf fn sq d (dFlag d 24)) p i d ps
    (Submittable s1 fn d input p k ps b) ∧ (e.state = .live ∨ (e.state = .developing ∧ e.sv = true) ∨ (e.state = .moving ∧ e.sv = true ∧ s1.sess.slots.has e.slot = true))) :=
  ⟨⟨withRing { withE (entry .idle) with profs := [(0, prof0)] } (ring0 3 0), 0, 0, mk 2 h0 (at_ 1 25 + at_ 4 224 + at_ 4 192 + at_ 0xFFFF 432 + at_ 0xFFFF 416), some [1#8, 0#8, 0#8, 0#8], 0, 0, 0, SelParams.greedy, [1#8, 0#8, 0#8, 0#8], by decide +kernel, by decide +kernel⟩,
   ⟨withRing { withE (entry .parked) with profs := [(0, prof0)] } (ring0 3 0), 0, 0, mk 2 h0 (at_ 1 25 + at_ 4 224 + at_ 4 192 + at_ 0xFFFF 432 + at_ 0xFFFF 416), some [1#8, 0#8, 0#8, 0#8], 0, 0, 0, SelParams.greedy, [1#8, 0#8, 0#8, 0#8], by decide +kernel, by decide +kernel, by decide +kernel, by decide +kernel⟩,
   ⟨withRing { live0 with profs := [(0, prof0)] } (ring0 3 0), 0, 0, mk 2 h0 (at_ 1 25 + at_ 4 224 + at_ 4 192 + at_ 0xFFFF 432 + at_ 0xFFFF 416), some [1#8, 0#8, 0#8, 0#8], 0, 0, 1, SelParams.greedy, [1#8, 0#8, 0#8, 0#8], by decide +kernel, by decide +kernel⟩⟩

theorem wit_cancelLive : ∃ s : State, ∃ fn : Nat, ∃ sq : Nat, ∃ d : Desc, ∃ p : Nat, 
    let i := hIdx (dHnd d)
    (TakenSess s 0x03 fn d false false p) ∧ ((s.ent i).state = .live) ∧ (dFlag d 24 = false) ∧ ((s.ent i).sv = true) ∧ ((s.ent i).slot = dFld d 141 128) ∧ (s.sess.slots.has (s.ent i).slot = true) :=
  ⟨live0, 0, 0, mk 3 h0 0, 0, by decide +kernel, by decide +kernel, by decide +kernel, by decide +kernel, by decide +kernel, by decide +kernel⟩

theorem wit_cancelMisses : ∃ s : State, ∃ fn : Nat, ∃ sq : Nat, ∃ d : Desc, ∃ p : Nat, 
    let i := hIdx (dHnd d)
    (TakenSess s 0x03 fn d false false p) ∧ ((s.ent i).state ≠ .expired) ∧ (dFlag d 24 = false) ∧ (((s.ent i).sv = false ∨ (s.ent i).slot ≠ dFld d 141 128)) :=
  ⟨live0, 0, 0, mk 3 h0 (at_ 5 128), 0, by decide +kernel, by decide +kernel, by decide +kernel, by decide +kernel⟩

theorem wit_cancelEnds : ∃ s : State, ∃ fn : Nat, ∃ sq : Nat, ∃ d : Desc, ∃ p : Nat, 
    let i := hIdx (dHnd d)
    
    let e := s.ent i
    (TakenSess s 0x03 fn d false false p) ∧ (e.state ≠ .expired) ∧ (e.state ≠ .live) ∧ (dFlag d 24 = false) ∧ (e.sv = true) ∧ (e.slot = dFld d 141 128) ∧ (s.sess.slots.has e.slot = true) :=
  ⟨withReq (withE { entry .developing with sv := true }), 0, 0, mk 3 h0 0, 0, by decide +kernel, by decide +kernel, by decide +kernel, by decide +kernel, by decide +kernel, by decide +kernel, by decide +kernel⟩

theorem wit_cancelCloses :
  (∃ s : State, ∃ fn : Nat, ∃ sq : Nat, ∃ d : Desc, ∃ p : Nat, 
    let i := hIdx (dHnd d)
    
    let e := s.ent i
    (TakenSess s 0x03 fn d false false p) ∧ (dFlag d 24 = true) ∧ (e.state = .idle) ∧ (e.sv = false))
  ∧ (∃ s : State, ∃ fn : Nat, ∃ sq : Nat, ∃ d : Desc, ∃ p : Nat, 
    let i := hIdx (dHnd d)
    
    let e := s.ent i
    (TakenSess s 0x03 fn d false false p) ∧ (dFlag d 24 = true) ∧ (e.state = .live) ∧ (e.sv = true) ∧ (e.slot = dFld d 141 128) ∧ (s.sess.slots.has e.slot = true))
  ∧ (∃ s : State, ∃ fn : Nat, ∃ sq : Nat, ∃ d : Desc, ∃ p : Nat, 
    let i := hIdx (dHnd d)
    
    let e := s.ent i
    (TakenSess s 0x03 fn d false false p) ∧ (dFlag d 24 = true) ∧ (e.state = .moving)) :=
  ⟨⟨withE (entry .idle), 0, 0, mk 3 h0 (at_ 1 24), 0, by decide +kernel, by decide +kernel, by decide +kernel, by decide +kernel⟩,
   ⟨live0, 0, 0, mk 3 h0 (at_ 1 24), 0, by decide +kernel, by decide +kernel, by decide +kernel, by decide +kernel, by decide +kernel, by decide +kernel⟩,
   ⟨withE (entry .moving), 0, 0, mk 3 h0 (at_ 1 24), 0, by decide +kernel, by decide +kernel, by decide +kernel⟩⟩

theorem wit_pauseLive : ∃ s : State, ∃ fn : Nat, ∃ sq : Nat, ∃ d : Desc, ∃ p : Nat, 
    let i := hIdx (dHnd d)
    (TakenSess s 0x04 fn d false false p) ∧ ((s.ent i).state = .live) ∧ ((s.ent i).sv = true) ∧ (s.sess.slots.has (s.ent i).slot = true) :=
  ⟨live0, 0, 0, mk 4 h0 0, 0, by decide +kernel, by decide +kernel, by decide +kernel, by decide +kernel⟩

theorem wit_pauseOthers :
  (∃ s : State, ∃ fn : Nat, ∃ sq : Nat, ∃ d : Desc, ∃ p : Nat, 
    let i := hIdx (dHnd d)
    
    let e := s.ent i
    (TakenSess s 0x04 fn d false false p) ∧ (e.state ≠ .expired) ∧ (e.state ≠ .live) ∧ (e.sv = true) ∧ (s.sess.slots.has e.slot = true))
  ∧ (∃ s : State, ∃ fn : Nat, ∃ sq : Nat, ∃ d : Desc, ∃ p : Nat, 
    let i := hIdx (dHnd d)
    
    let e := s.ent i
    (TakenSess s 0x04 fn d false false p) ∧ (e.state ≠ .expired) ∧ (e.state ≠ .live) ∧ (e.sv = false)) :=
  ⟨⟨withReq (withE { entry .developing with sv := true }), 0, 0, mk 4 h0 0, 0, by decide +kernel, by decide +kernel, by decide +kernel, by decide +kernel, by decide +kernel⟩,
   ⟨withE (entry .idle), 0, 0, mk 4 h0 0, 0, by decide +kernel, by decide +kernel, by decide +kernel, by decide +kernel⟩⟩

theorem wit_parkIdle : ∃ s : State, ∃ fn : Nat, ∃ sq : Nat, ∃ d : Desc, ∃ p : Nat, ∃ x : Nat, 
    let i := hIdx (dHnd d)
    (TakenSess s 0x05 fn d true false p) ∧ (s.ttlBad (dFld d 191 160) = false) ∧ (dFld d 159 152 ≠ 1) ∧ (dFld d 159 152 ≤ 4) ∧ ((s.ent i).state = .idle) ∧ (s.parkTier i (dFld d 159 152) = some x) :=
  ⟨withE (entry .idle), 0, 0, mk 5 h0 0, 0, 1, by decide +kernel, by decide +kernel, by decide +kernel, by decide +kernel, by decide +kernel, by decide +kernel⟩

theorem wit_parkNoRoom : ∃ s : State, ∃ fn : Nat, ∃ sq : Nat, ∃ d : Desc, ∃ p : Nat, 
    let i := hIdx (dHnd d)
    (TakenSess s 0x05 fn d true false p) ∧ (s.ttlBad (dFld d 191 160) = false) ∧ (dFld d 159 152 ≠ 1) ∧ (dFld d 159 152 ≤ 4) ∧ ((s.ent i).state = .idle) ∧ (s.parkTier i (dFld d 159 152) = none) :=
  ⟨withTab (withE (entry .idle)), 0, 0, mk 5 h0 (at_ 4 152), 0, by decide +kernel, by decide +kernel, by decide +kernel, by decide +kernel, by decide +kernel, by decide +kernel⟩

theorem wit_parkOthers :
  (∃ s : State, ∃ fn : Nat, ∃ sq : Nat, ∃ d : Desc, ∃ p : Nat, ∃ x : Nat, 
    let i := hIdx (dHnd d)
    
    let e := s.ent i
    
    let t := dFld d 159 152
    
    let c := s.cmdOf fn sq d false
    
    let withTtl := fun (u : State) => if dFld d 191 160 = 0 then u else u.updEnt i (fun y => { y with ttl := dFld d 191 160 })
    (TakenSess s 0x05 fn d true false p) ∧ (s.ttlBad (dFld d 191 160) = false) ∧ (t ≠ 1) ∧ (t ≤ 4) ∧ (e.state = .parked) ∧ (s.tiers.demos.get? i = none) ∧ (s.parkTier i t = some x))
  ∧ (∃ s : State, ∃ fn : Nat, ∃ sq : Nat, ∃ d : Desc, ∃ p : Nat, ∃ x : Nat, 
    let i := hIdx (dHnd d)
    
    let e := s.ent i
    
    let t := dFld d 159 152
    
    let c := s.cmdOf fn sq d false
    
    let withTtl := fun (u : State) => if dFld d 191 160 = 0 then u else u.updEnt i (fun y => { y with ttl := dFld d 191 160 })
    (TakenSess s 0x05 fn d true false p) ∧ (s.ttlBad (dFld d 191 160) = false) ∧ (t ≠ 1) ∧ (t ≤ 4) ∧ ∃ m, (e.state = .parked) ∧ (s.tiers.demos.get? i = some m) ∧ ((t = 0 ∨ t = m.tier ∨ (s.parkTier i t).isSome = true)))
  ∧ (∃ s : State, ∃ fn : Nat, ∃ sq : Nat, ∃ d : Desc, ∃ p : Nat, ∃ x : Nat, 
    let i := hIdx (dHnd d)
    
    let e := s.ent i
    
    let t := dFld d 159 152
    
    let c := s.cmdOf fn sq d false
    
    let withTtl := fun (u : State) => if dFld d 191 160 = 0 then u else u.updEnt i (fun y => { y with ttl := dFld d 191 160 })
    (TakenSess s 0x05 fn d true false p) ∧ (s.ttlBad (dFld d 191 160) = false) ∧ (t ≠ 1) ∧ (t ≤ 4) ∧ (e.state = .developing) ∧ (s.parkTier i t = some x))
  ∧ (∃ s : State, ∃ fn : Nat, ∃ sq : Nat, ∃ d : Desc, ∃ p : Nat, ∃ x : Nat, 
    let i := hIdx (dHnd d)
    
    let e := s.ent i
    
    let t := dFld d 159 152
    
    let c := s.cmdOf fn sq d false
    
    let withTtl := fun (u : State) => if dFld d 191 160 = 0 then u else u.updEnt i (fun y => { y with ttl := dFld d 191 160 })
    (TakenSess s 0x05 fn d true false p) ∧ (s.ttlBad (dFld d 191 160) = false) ∧ (t ≠ 1) ∧ (t ≤ 4) ∧ ((e.state = .live ∨ e.state = .moving))) :=
  ⟨⟨withE (entry .parked), 0, 0, mk 5 h0 0, 0, 1, by decide +kernel, by decide +kernel, by decide +kernel, by decide +kernel, by decide +kernel, by decide +kernel, by decide +kernel⟩,
   ⟨{ withE (entry .parked) with tiers := { norm.tiers with demos := [(0, demo0)] } }, 0, 0, mk 5 h0 0, 0, 2, by decide +kernel, by decide +kernel, by decide +kernel, by decide +kernel, demo0, by decide +kernel, by decide +kernel, by decide +kernel⟩,
   ⟨withE (entry .developing), 0, 0, mk 5 h0 0, 0, 1, by decide +kernel, by decide +kernel, by decide +kernel, by decide +kernel, by decide +kernel, by decide +kernel⟩,
   ⟨live0, 0, 0, mk 5 h0 0, 0, 0, by decide +kernel, by decide +kernel, by decide +kernel, by decide +kernel, by decide +kernel⟩⟩

theorem wit_reviveParked : ∃ s : State, ∃ fn : Nat, ∃ sq : Nat, ∃ d : Desc, ∃ p : Nat, 
    let i := hIdx (dHnd d)
    (TakenSess s 0x06 fn d false false p) ∧ ((s.ent i).state = .parked) ∧ (s.lapsedNeed i = none) ∧ (s.noRoom (s.ent i).part (s.ent i).shalf (s.revivalKib i) = none) :=
  ⟨withE (entry .parked), 0, 0, mk 6 h0 0, 0, by decide +kernel, by decide +kernel, by decide +kernel, by decide +kernel⟩

theorem wit_reviveResident : ∃ s : State, ∃ fn : Nat, ∃ sq : Nat, ∃ d : Desc, ∃ p : Nat, 
    let i := hIdx (dHnd d)
    (TakenSess s 0x06 fn d false false p) ∧ (((s.ent i).state = .idle ∨ (s.ent i).state = .live)) :=
  ⟨withE (entry .idle), 0, 0, mk 6 h0 0, 0, by decide +kernel, by decide +kernel⟩

theorem wit_reviveOthers :
  (∃ s : State, ∃ fn : Nat, ∃ sq : Nat, ∃ d : Desc, ∃ p : Nat, 
    let i := hIdx (dHnd d)
    
    let e := s.ent i
    
    let c := s.cmdOf fn sq d false
    (TakenSess s 0x06 fn d false false p) ∧ (e.state = .parked) ∧ ((s.lapsedNeed i).isSome = true))
  ∧ (∃ s : State, ∃ fn : Nat, ∃ sq : Nat, ∃ d : Desc, ∃ p : Nat, 
    let i := hIdx (dHnd d)
    
    let e := s.ent i
    
    let c := s.cmdOf fn sq d false
    (TakenSess s 0x06 fn d false false p) ∧ ∃ quota, (e.state = .parked) ∧ (s.lapsedNeed i = none) ∧ (s.noRoom e.part e.shalf (s.revivalKib i) = some quota))
  ∧ (∃ s : State, ∃ fn : Nat, ∃ sq : Nat, ∃ d : Desc, ∃ p : Nat, 
    let i := hIdx (dHnd d)
    
    let e := s.ent i
    
    let c := s.cmdOf fn sq d false
    (TakenSess s 0x06 fn d false false p) ∧ (e.state = .developing))
  ∧ (∃ s : State, ∃ fn : Nat, ∃ sq : Nat, ∃ d : Desc, ∃ p : Nat, 
    let i := hIdx (dHnd d)
    
    let e := s.ent i
    
    let c := s.cmdOf fn sq d false
    (TakenSess s 0x06 fn d false false p) ∧ (e.state = .moving)) :=
  ⟨⟨withPg (withE (entry .parked)) lapsedPage, 0, 0, mk 6 h0 0, 0, by decide +kernel, by decide +kernel, by decide +kernel⟩,
   ⟨withPg (setV (setV (withE (entry .parked)) 0x2180 1 (leBytes 4 0)) 0x2180 2 (leBytes 4 0)) lowPage, 0, 0, mk 6 h0 0, 0, by decide +kernel, true, by decide +kernel, by decide +kernel, by decide +kernel⟩,
   ⟨withE (entry .developing), 0, 0, mk 6 h0 0, 0, by decide +kernel, by decide +kernel⟩,
   ⟨withE (entry .moving), 0, 0, mk 6 h0 0, 0, by decide +kernel, by decide +kernel⟩⟩

theorem wit_forkIdle : ∃ s : State, ∃ fn : Nat, ∃ sq : Nat, ∃ d : Desc, ∃ p : Nat, ∃ j : Nat, 
    let i := hIdx (dHnd d)
    
    let e := s.ent i
    
    let all := dFld d 191 160 == 0xFFFFFFFF
    
    let n := if all then e.count else dFld d 191 160
    (TakenSess s 0x07 fn d false false p) ∧ (s.ttlBad (dFld d 159 128) = false) ∧ ((e.state = .idle ∨ e.state = .parked)) ∧ (0 < dFld d 191 160) ∧ ((all = true ∨ dFld d 191 160 ≤ e.count)) ∧ (e.children < 65535) ∧ (s.openCount e.part < s.dval (0x2040 + e.part) 1) ∧ (s.freeIndex (idxHalf i) = some j) ∧ (s.forkKib i (cdiv n 16) ≤ s.roomT1 e.shalf) ∧ (s.sharesOn e.shalf + s.forkShares i (cdiv n 16) ≤ 16777216) :=
  ⟨{ withE (entry .idle) with profs := [(0, prof0)] }, 0, 0, mk 7 h0 (at_ 0xFFFFFFFF 160), 0, 1, by decide +kernel, by decide +kernel, by decide +kernel, by decide +kernel, by decide +kernel, by decide +kernel, by decide +kernel, by decide +kernel, by decide +kernel, by decide +kernel⟩

theorem wit_forkRefused :
  (∃ s : State, ∃ fn : Nat, ∃ sq : Nat, ∃ d : Desc, ∃ p : Nat, ∃ j : Nat, 
    let i := hIdx (dHnd d)
    
    let e := s.ent i
    
    let c := s.cmdOf fn sq d false
    
    let all := dFld d 191 160 == 0xFFFFFFFF
    
    let n := if all then e.count else dFld d 191 160
    (TakenSess s 0x07 fn d false false p) ∧ (s.ttlBad (dFld d 159 128) = false) ∧ (0 < dFld d 191 160) ∧ ((e.state = .live ∨ e.state = .developing ∨ e.state = .moving)))
  ∧ (∃ s : State, ∃ fn : Nat, ∃ sq : Nat, ∃ d : Desc, ∃ p : Nat, ∃ j : Nat, 
    let i := hIdx (dHnd d)
    
    let e := s.ent i
    
    let c := s.cmdOf fn sq d false
    
    let all := dFld d 191 160 == 0xFFFFFFFF
    
    let n := if all then e.count else dFld d 191 160
    (TakenSess s 0x07 fn d false false p) ∧ (s.ttlBad (dFld d 159 128) = false) ∧ (0 < dFld d 191 160) ∧ ((e.state = .idle ∨ e.state = .parked)) ∧ (all = false) ∧ (e.count < dFld d 191 160))
  ∧ (∃ s : State, ∃ fn : Nat, ∃ sq : Nat, ∃ d : Desc, ∃ p : Nat, ∃ j : Nat, 
    let i := hIdx (dHnd d)
    
    let e := s.ent i
    
    let c := s.cmdOf fn sq d false
    
    let all := dFld d 191 160 == 0xFFFFFFFF
    
    let n := if all then e.count else dFld d 191 160
    (TakenSess s 0x07 fn d false false p) ∧ (s.ttlBad (dFld d 159 128) = false) ∧ (0 < dFld d 191 160) ∧ ((e.state = .idle ∨ e.state = .parked)) ∧ ((all = true ∨ dFld d 191 160 ≤ e.count)) ∧ (65535 ≤ e.children))
  ∧ (∃ s : State, ∃ fn : Nat, ∃ sq : Nat, ∃ d : Desc, ∃ p : Nat, ∃ j : Nat, 
    let i := hIdx (dHnd d)
    
    let e := s.ent i
    
    let c := s.cmdOf fn sq d false
    
    let all := dFld d 191 160 == 0xFFFFFFFF
    
    let n := if all then e.count else dFld d 191 160
    (TakenSess s 0x07 fn d false false p) ∧ (s.ttlBad (dFld d 159 128) = false) ∧ (0 < dFld d 191 160) ∧ ((e.state = .idle ∨ e.state = .parked)) ∧ ((all = true ∨ dFld d 191 160 ≤ e.count)) ∧ (e.children < 65535) ∧ (s.openCount e.part < s.dval (0x2040 + e.part) 1) ∧ (s.freeIndex (idxHalf i) = some j) ∧ (s.sharesOn e.shalf + s.forkShares i (cdiv n 16) ≤ 16777216) ∧ (s.roomT1 e.shalf < s.forkKib i (cdiv n 16))) :=
  ⟨⟨live0, 0, 0, mk 7 h0 (at_ 0xFFFFFFFF 160), 0, 0, by decide +kernel, by decide +kernel, by decide +kernel, by decide +kernel⟩,
   ⟨withE (entry .idle), 0, 0, mk 7 h0 (at_ 5 160), 0, 0, by decide +kernel, by decide +kernel, by decide +kernel, by decide +kernel, by decide +kernel, by decide +kernel⟩,
   ⟨withE { entry .idle with children := 65535 }, 0, 0, mk 7 h0 (at_ 0xFFFFFFFF 160), 0, 0, by decide +kernel, by decide +kernel, by decide +kernel, by decide +kernel, by decide +kernel, by decide +kernel⟩,
   ⟨noT1 { withE (entry .idle) with profs := [(0, prof0)] }, 0, 0, mk 7 h0 (at_ 0xFFFFFFFF 160), 0, 1, by decide +kernel, by decide +kernel, by decide +kernel, by decide +kernel, by decide +kernel, by decide +kernel, by decide +kernel, by decide +kernel, by decide +kernel, by decide +kernel⟩⟩

theorem wit_closeNow : ∃ s : State, ∃ fn : Nat, ∃ sq : Nat, ∃ d : Desc, ∃ p : Nat, 
    let i := hIdx (dHnd d)
    (TakenSess s 0x08 fn d true false p) ∧ (((s.ent i).state = .idle ∨ (s.ent i).state = .parked)) :=
  ⟨withE (entry .idle), 0, 0, mk 8 h0 0, 0, by decide +kernel, by decide +kernel⟩

theorem wit_closeOthers :
  (∃ s : State, ∃ fn : Nat, ∃ sq : Nat, ∃ d : Desc, ∃ p : Nat, 
    let i := hIdx (dHnd d)
    
    let e := s.ent i
    
    let c := s.cmdOf fn sq d false
    (TakenSess s 0x08 fn d true false p) ∧ (e.state = .live))
  ∧ (∃ s : State, ∃ fn : Nat, ∃ sq : Nat, ∃ d : Desc, ∃ p : Nat, 
    let i := hIdx (dHnd d)
    
    let e := s.ent i
    
    let c := s.cmdOf fn sq d false
    (TakenSess s 0x08 fn d true false p) ∧ (e.state = .developing))
  ∧ (∃ s : State, ∃ fn : Nat, ∃ sq : Nat, ∃ d : Desc, ∃ p : Nat, 
    let i := hIdx (dHnd d)
    
    let e := s.ent i
    
    let c := s.cmdOf fn sq d false
    (TakenSess s 0x08 fn d true false p) ∧ (e.state = .expired))
  ∧ (∃ s : State, ∃ fn : Nat, ∃ sq : Nat, ∃ d : Desc, ∃ p : Nat, 
    let i := hIdx (dHnd d)
    
    let e := s.ent i
    
    let c := s.cmdOf fn sq d false
    (TakenSess s 0x08 fn d true false p) ∧ (e.state = .moving)) :=
  ⟨⟨live0, 0, 0, mk 8 h0 0, 0, by decide +kernel, by decide +kernel⟩,
   ⟨withE (entry .developing), 0, 0, mk 8 h0 0, 0, by decide +kernel, by decide +kernel⟩,
   ⟨withE (entry .expired), 0, 0, mk 8 h0 0, 0, by decide +kernel, by decide +kernel⟩,
   ⟨withE (entry .moving), 0, 0, mk 8 h0 0, 0, by decide +kernel, by decide +kernel⟩⟩

theorem wit_setTtlStores : ∃ s : State, ∃ fn : Nat, ∃ sq : Nat, ∃ d : Desc, ∃ p : Nat, 
    let i := hIdx (dHnd d)
    (TakenSess s 0x09 fn d true false p) ∧ (s.ttlBad (dFld d 191 160) = false) ∧ ((s.ent i).state ≠ .expired) ∧ ((s.ent i).state ≠ .moving) ∧ ((s.ent i).state ≠ .parked) :=
  ⟨withE (entry .idle), 0, 0, mk 9 h0 0, 0, by decide +kernel, by decide +kernel, by decide +kernel, by decide +kernel, by decide +kernel⟩

theorem wit_setTtlParked : ∃ s : State, ∃ fn : Nat, ∃ sq : Nat, ∃ d : Desc, ∃ p : Nat, 
    let i := hIdx (dHnd d)
    (TakenSess s 0x09 fn d true false p) ∧ (s.ttlBad (dFld d 191 160) = false) ∧ ((s.ent i).state = .parked) :=
  ⟨withE (entry .parked), 0, 0, mk 9 h0 0, 0, by decide +kernel, by decide +kernel, by decide +kernel⟩

theorem wit_setTtlMoving : ∃ s : State, ∃ fn : Nat, ∃ sq : Nat, ∃ d : Desc, ∃ p : Nat, (TakenSess s 0x09 fn d true false p) ∧ (s.ttlBad (dFld d 191 160) = false) ∧ ((s.ent (hIdx (dHnd d))).state = .moving) :=
  ⟨withE (entry .moving), 0, 0, mk 9 h0 0, 0, by decide +kernel, by decide +kernel, by decide +kernel⟩

theorem wit_expiredRefuses : ∃ s : State, ∃ fn : Nat, ∃ sq : Nat, ∃ d : Desc, ∃ p : Nat, ∃ i : Instr, ∃ op : Nat, ∃ any : Bool, (Taken s op fn d p) ∧ (s.boot.bridge = false) ∧ (s.handleCheck p (dHnd d) any false = none) ∧ ((s.ent (hIdx (dHnd d))).state = .expired) ∧ (s.inHold (s.ent (hIdx (dHnd d))).shalf = false) ∧ (s.inHold (idxHalf (hIdx (dHnd d))) = false) ∧ ((op = 5 ∨ op = 9 → s.ttlBad (dFld d 191 160) = false)) ∧ ((op = 5 → dFld d 159 152 ≠ 1 ∧ dFld d 159 152 ≤ 4)) ∧ ((op = 7 → s.ttlBad (dFld d 159 128) = false ∧ 0 < dFld d 191 160)) ∧ ((i, op, any) ∈ [(Instr.cancel fn sq d, 0x03, false), (Instr.pause fn sq d, 0x04, false), (Instr.park fn sq d, 0x05, true),
      (Instr.revive fn sq d, 0x06, false), (Instr.fork fn sq d, 0x07, false), (Instr.setTtl fn sq d, 0x09, true)]) :=
  ⟨withE (entry .expired), 0, 0, mk 3 h0 0, 0, .cancel 0 0 (mk 3 h0 0), 3, false, by decide +kernel, by decide +kernel, by decide +kernel, by decide +kernel, by decide +kernel, by decide +kernel, by decide +kernel, by decide +kernel, by decide +kernel, by decide +kernel⟩

theorem wit_queryReads : ∃ s : State, ∃ fn : Nat, ∃ sq : Nat, ∃ d : Desc, ∃ p : Nat, 
    let e := s.ent (hIdx (dHnd d))
    (TakenSess s 0x0A fn d true true p) :=
  ⟨withE (entry .parked), 0, 0, mk 0xA h0 0, 0, by decide +kernel⟩

theorem wit_handleDenied : ∃ s : State, ∃ fn : Nat, ∃ sq : Nat, ∃ d : Desc, ∃ p : Nat, ∃ aux : Nat, ∃ i : Instr, ∃ op : Nat, (Taken s op fn d p) ∧ (s.boot.bridge = false) ∧ (s.handleCheck p (dHnd d) false false = some (stDENIED, 0, aux)) ∧ ((i, op) ∈ [(Instr.cancel fn sq d, 0x03), (Instr.pause fn sq d, 0x04), (Instr.revive fn sq d, 0x06)]) :=
  ⟨withE (entry .idle), 0, 0, mk 3 (mkHandle 1 0 1) 0, 0, 0, .cancel 0 0 (mk 3 (mkHandle 1 0 1) 0), 3, by decide +kernel, by decide +kernel, by decide +kernel, by decide +kernel⟩

theorem wit_heldInStarting : ∃ s : State, ∃ fn : Nat, ∃ sq : Nat, ∃ d : Desc, ∃ p : Nat, ∃ i : Instr, (s.dark = false) ∧ (fn ∉ s.host.stops) ∧ (s.fnPart fn = some p) ∧ (s.boot.mode = 0) ∧ (i ∈ [Instr.openCmd fn sq d, .cancel fn sq d, .pause fn sq d, .park fn sq d, .revive fn sq d, .fork fn sq d, .close fn sq d,
      .setTtl fn sq d, .query fn sq d, .map fn sq d, .unmap fn sq d, .place fn sq d, .migrate fn sq d, .claim fn sq d]) :=
  ⟨State.reset, 0, 0, mk 3 0 0, 0, .cancel 0 0 (mk 3 0 0), by decide +kernel, by decide +kernel, by decide +kernel, by decide +kernel, by decide +kernel⟩

theorem wit_ttlExpires :
  (∃ s : State, ∃ i, ((s.ent i).copyBad = false) ∧ 
    let e := s.ent i
    (e.state = .parked) ∧ (e.ton = true) ∧ (e.ttl ≠ 0xFFFFFFFF) ∧ (e.expires ≤ s.nowMs (idxHalf i)) ∧ (s.split e.part 8 = false))
  ∧ (∃ s : State, ∃ i, ((s.ent i).copyBad = false) ∧ 
    let e := s.ent i
    (e.state = .parked) ∧ (e.ton = true) ∧ (e.ttl ≠ 0xFFFFFFFF) ∧ (e.expires ≤ s.nowMs (idxHalf i)) ∧ (s.split e.part 8 = true))
  ∧ (∃ s : State, ∃ i, ((s.ent i).copyBad = false) ∧ 
    let e := s.ent i
    (e.state ≠ .parked ∨ e.ton = false ∨ e.ttl = 0xFFFFFFFF ∨ s.nowMs (idxHalf i) < e.expires)) :=
  ⟨⟨withE { entry .parked with ton := true }, 0, by decide +kernel, by decide +kernel, by decide +kernel, by decide +kernel, by decide +kernel, by decide +kernel⟩,
   ⟨setV (withE { entry .parked with ton := true }) 0xA000 8 [1#8], 0, by decide +kernel, by decide +kernel, by decide +kernel, by decide +kernel, by decide +kernel, by decide +kernel⟩,
   ⟨withE (entry .idle), 0, by decide +kernel, by decide +kernel⟩⟩

theorem wit_ttlKeeps : ∃ s : State, ∃ half : Nat, ∃ first : Nat, ∃ last : Nat, ((∀ ie ∈ s.sess.dir, (s.ent ie.1).copyBad = false)) ∧ ((∀ ie ∈ s.sess.dir, (s.ent ie.1).state = .parked → s.nowMs (idxHalf ie.1) < (s.ent ie.1).expires)) :=
  ⟨withE { entry .parked with ton := true, expires := 5 }, 0, 0, 0, by decide +kernel, by decide +kernel⟩

theorem wit_entryFrees :
  (∃ s : State, ∃ i : Nat, ((s.ent i).state = .closed) ∧ ((s.ent i).retired = false) ∧ (s.pages.pages.any (fun p => p.2.rel == some i) = false) ∧ ((s.ent i).gen < 0xFFFFFFFFF))
  ∧ (∃ s : State, ∃ i : Nat, ((s.ent i).state ≠ .closed ∨ (s.ent i).retired = true ∨ s.pages.pages.any (fun p => p.2.rel == some i) = true)) :=
  ⟨⟨withE (entry .closed), 0, by decide +kernel, by decide +kernel, by decide +kernel, by decide +kernel⟩,
   ⟨withE (entry .idle), 0, by decide +kernel⟩⟩

theorem wit_entryRetires : ∃ s : State, ∃ i : Nat, ((s.ent i).state = .closed) ∧ ((s.ent i).retired = false) ∧ (s.pages.pages.any (fun p => p.2.rel == some i) = false) ∧ (0xFFFFFFFFF ≤ (s.ent i).gen) :=
  ⟨withE { entry .closed with gen := 0xFFFFFFFFF }, 0, by decide +kernel, by decide +kernel, by decide +kernel, by decide +kernel⟩

theorem wit_sessionWrites :
  (∃ s : State, ∃ o : Origin, ∃ p : Nat, ∃ sub : Nat, ∃ v : List Byte, (p < 64) ∧ (Writable s o (0xA000 + p) sub v))
  ∧ (∃ s : State, ∃ o : Origin, ∃ p : Nat, ∃ sub : Nat, ∃ v : List Byte, (p < 64) ∧ (Writable s o (0x2040 + p) sub v))
  ∧ (∃ s : State, ∃ o : Origin, ∃ p : Nat, ∃ sub : Nat, ∃ v : List Byte, (p < 64) ∧ (Writable s o (0x2180 + p) sub v)) :=
  ⟨⟨norm, (.mailbox 0), 0, 1, [1#8], by decide +kernel, by decide +kernel⟩,
   ⟨norm, (.mailbox 0), 0, 1, [1#8, 0#8, 0#8, 0#8], by decide +kernel, by decide +kernel⟩,
   ⟨norm, (.mailbox 0), 0, 1, leBytes 8 5, by decide +kernel, by decide +kernel⟩⟩

end W01

/-! ### Tiers -/

namespace W02

def scrub0 : Scrub := { loc := 0, kib := 64 }
def band0 : BandRow := { kind := 1, slotkib := 64, rstate := 0, slots := [0], members := [], lostRec := false }
def rb0 : Rebuild := { stack := 0, assisted := false, rows := [4, 5], done := 0, cmds := [] }
def stripe0 : Stripe := { live := 5, acked := [], objs := [{ unit := 0, kib := 5, kind := .page 1 }] }
def withT2 (s : State) (t : T2Half) : State := { s with tiers := { s.tiers with t2 := { s.tiers.t2 with w := t } } }
def withLys (s : State) (x : Stack) : State := { s with tiers := { s.tiers with lys := [(0, x)] } }
def lostStack : Stack := { Stack.blank with cond := 1 }
def demo1 : Demotion := { tier := 2, left := [1], tabs := false, pass := false, parks := [] }
def mv0 (n : Nat) : GranMove := { tier := 2, loc := 0, pieces := n, byCmd := false }
def ext0 : Extent := { fn := 0, addr := 0, len := 16, leased := true, allocs := [] }
def bor0 : Borrowed := { part := 0, holder := 4, ext := 0, kib := 64, lapsed := false, leaseEnd := 5, allocs := [] }
def emptyStripe : Stripe := { live := 0, acked := [], objs := [] }
/-- The West half with `n` stripes written. -/
def manyStripes (n : Nat) : T2Half := { T2Half.empty with stripes := List.replicate n (0, emptyStripe) }

theorem many_free (s : State) (n : Nat) (h : s.tiers.t2.w = manyStripes n) : s.t2Free 0 = t2Stripes - n := by
  simp [State.t2Free, Two.get, h, manyStripes, T2Half.empty, b2n]

theorem foldl_same (x : Nat × Stripe) (f : Option (Nat × Stripe) → Nat × Stripe → Option (Nat × Stripe)) (h : f (some x) x = some x) :
    ∀ n, (List.replicate n x).foldl f (some x) = some x
  | 0 => rfl
  | n + 1 => by rw [List.replicate_succ, List.foldl_cons, h]; exact foldl_same x f h n

theorem manyStripes_poorest (n : Nat) : (manyStripes (n + 1)).poorest = some (0, emptyStripe) :=
  foldl_same (0, emptyStripe) _ rfl n


theorem wit_sealDone :
  (∃ s : State, ∃ pid : Nat, ∃ p : Page, (s.pages.pages.get? pid = some p) ∧ 
    let fromB := p.a == 0 || s.stackLost p.a || s.parityLost p.a
    
    let keep := if fromB then p.b else p.a
    
    let other := if fromB then (if s.stackLost p.a then 0 else p.a) else p.b
    
    let s1 := (s.negCopy pid p.half p.bytes).updPage pid (fun q =>
      { q with st := .sealed, a := keep, b := 0, rel := none, pchk := q.rowsCheck 16
               rows := q.rows.mapV (fun _ r => { r with chkA := if r.chkA = .failed then r.chkB else r.chkA }) })
    
    let s2 := ((((s1.addMember keep).scrubT1 other).subCharge p.part p.half (openCharge (p.bytes / 1024))).addCharge
      p.part p.half (sealedCharge (p.bytes / 1024))).count 0x8210 2 1
    (p.st = .sealing) ∧ (p.rel = none))
  ∧ (∃ s : State, ∃ pid : Nat, ∃ p : Page, (s.pages.pages.get? pid = some p) ∧ 
    let fromB := p.a == 0 || s.stackLost p.a || s.parityLost p.a
    
    let keep := if fromB then p.b else p.a
    
    let other := if fromB then (if s.stackLost p.a then 0 else p.a) else p.b
    
    let s1 := (s.negCopy pid p.half p.bytes).updPage pid (fun q =>
      { q with st := .sealed, a := keep, b := 0, rel := none, pchk := q.rowsCheck 16
               rows := q.rows.mapV (fun _ r => { r with chkA := if r.chkA = .failed then r.chkB else r.chkA }) })
    
    let s2 := ((((s1.addMember keep).scrubT1 other).subCharge p.part p.half (openCharge (p.bytes / 1024))).addCharge
      p.part p.half (sealedCharge (p.bytes / 1024))).count 0x8210 2 1
    ∃ i, (p.st = .sealing) ∧ (p.rel = some i))
  ∧ (∃ s : State, ∃ pid : Nat, ∃ p : Page, (s.pages.pages.get? pid = some p) ∧ 
    let fromB := p.a == 0 || s.stackLost p.a || s.parityLost p.a
    
    let keep := if fromB then p.b else p.a
    
    let other := if fromB then (if s.stackLost p.a then 0 else p.a) else p.b
    
    let s1 := (s.negCopy pid p.half p.bytes).updPage pid (fun q =>
      { q with st := .sealed, a := keep, b := 0, rel := none, pchk := q.rowsCheck 16
               rows := q.rows.mapV (fun _ r => { r with chkA := if r.chkA = .failed then r.chkB else r.chkA }) })
    
    let s2 := ((((s1.addMember keep).scrubT1 other).subCharge p.part p.half (openCharge (p.bytes / 1024))).addCharge
      p.part p.half (sealedCharge (p.bytes / 1024))).count 0x8210 2 1
    (p.st ≠ .sealing)) :=
  ⟨⟨withPg (withE (entry .idle)) { page0 with st := .sealing }, 1, { page0 with st := .sealing }, by decide +kernel, by decide +kernel, by decide +kernel⟩,
   ⟨withPg (withE (entry .idle)) { page0 with st := .sealing, rel := some 0 }, 1, { page0 with st := .sealing, rel := some 0 }, by decide +kernel, 0, by decide +kernel, by decide +kernel⟩,
   ⟨withPg (withE (entry .idle)) page0, 1, page0, by decide +kernel, by decide +kernel⟩⟩

theorem wit_scrubFrees : ∃ s : State, ∃ h : Nat, ∃ st : Nat, ∃ x : Scrub, ∃ l : List Scrub, ∃ b : BandRow, (h < 2) ∧ (st < 16) ∧ (s.tiers.scrub.get? (16 * h + st) = some (x :: l)) ∧ (x.kib < 65536) ∧ (s.tiers.bands.get? (locKey x.loc) = some b) ∧ (b.rstate = 0) ∧ (b.lostRec = false) :=
  ⟨{ norm with tiers := { norm.tiers with scrub := [(0, [scrub0])], bands := [(0, band0)] } }, 0, 0, scrub0, [], band0, by decide +kernel, by decide +kernel, by decide +kernel, by decide +kernel, by decide +kernel, by decide +kernel, by decide +kernel⟩

theorem wit_stackLostOk : ∃ s : State, ∃ h : Nat, ∃ st : Nat, (h < 2) ∧ (st < 16) ∧ ((s.lys (16 * h + st)).cond = 0) :=
  ⟨norm, 1, 15, by decide +kernel, by decide +kernel, by decide +kernel⟩

theorem wit_stackLostAgain : ∃ s : State, ∃ h : Nat, ∃ st : Nat, (h < 2) ∧ (st < 16) ∧ ((s.lys (16 * h + st)).cond ≠ 0) :=
  ⟨withLys norm lostStack, 0, 0, by decide +kernel, by decide +kernel, by decide +kernel⟩

theorem wit_lysingTries :
  (∃ s : State, ∃ h : Nat, ∃ st : Nat, (h < 2) ∧ (st < 16) ∧ ((s.lys (16 * h + st)).tries < 2))
  ∧ (∃ s : State, ∃ h : Nat, ∃ st : Nat, (h < 2) ∧ (st < 16)) :=
  ⟨⟨norm, 1, 15, by decide +kernel, by decide +kernel, by decide +kernel⟩,
   ⟨norm, 0, 0, by decide +kernel, by decide +kernel⟩⟩

theorem wit_lysingThird : ∃ s : State, ∃ h : Nat, ∃ st : Nat, (h < 2) ∧ (st < 16) ∧ (2 ≤ (s.lys (16 * h + st)).tries) :=
  ⟨withLys norm { Stack.blank with tries := 2 }, 0, 0, by decide +kernel, by decide +kernel, by decide +kernel⟩

theorem wit_rowRebuilt : ∃ s : State, ∃ h : Nat, ∃ g : Nat, ∃ r : Nat, ∃ rb : Rebuild, (h < 2) ∧ (g < 2) ∧ (s.tiers.rebuilds.get? (2 * h + g) = some rb) ∧ (rb.assisted = false) ∧ (r ∈ rb.rows) ∧ ((rb.rows.filter (fun x => x != r)) ≠ []) ∧ (rb.cmds = []) ∧ ((s.row (rowKey h g r)).members = []) ∧ ((s.outPos h g).contains (r % 8) = false) :=
  ⟨{ norm with tiers := { norm.tiers with rebuilds := [(0, rb0)] } }, 0, 0, 4, rb0, by decide +kernel, by decide +kernel, by decide +kernel, by decide +kernel, by decide +kernel, by decide +kernel, by decide +kernel, by decide +kernel, by decide +kernel⟩

theorem wit_t2Written :
  (∃ s : State, ∃ h : Nat, (h < 2) ∧ ((s.tiers.t2.get h).fill ≠ 0) ∧ 
    let t := s.tiers.t2.get h
    
    let t1 : T2Half := { t with
      stripes := if t.buf = [] then t.stripes
        else t.stripes.put t.cur { live := (t.buf.map (·.kib)).foldl (· + ·) 0, acked := [], objs := t.buf }
      fill := 0, buf := [], last := t.cur }
    
    let s1 := s.setT2 h { t1 with cur := t1.freeFrom (t.cur + 1) }
    
    let s3 := ({ s1 with tiers := { s1.tiers with t2day := s1.tiers.t2day.upd h (· + 524288) } } : State).count 0x8300 3 128
    (s3.compactMark ≤ s3.t2Free h))
  ∧ (∃ s : State, ∃ h : Nat, (h < 2) ∧ ((s.tiers.t2.get h).fill ≠ 0) ∧ 
    let t := s.tiers.t2.get h
    
    let t1 : T2Half := { t with
      stripes := if t.buf = [] then t.stripes
        else t.stripes.put t.cur { live := (t.buf.map (·.kib)).foldl (· + ·) 0, acked := [], objs := t.buf }
      fill := 0, buf := [], last := t.cur }
    
    let s1 := s.setT2 h { t1 with cur := t1.freeFrom (t.cur + 1) }
    
    let s3 := ({ s1 with tiers := { s1.tiers with t2day := s1.tiers.t2day.upd h (· + 524288) } } : State).count 0x8300 3 128
    (s3.t2Free h < s3.compactMark) ∧ (s3.compactMark ≤ s.t2Free h + 1)) :=
  ⟨⟨withT2 norm { T2Half.empty with fill := 5, buf := stripe0.objs }, 0, by decide +kernel, by decide +kernel, by decide +kernel⟩,
   ⟨setV (withT2 norm { T2Half.empty with fill := 5, buf := stripe0.objs }) 0x3000 9 [0#8, 1#8], 0, by decide +kernel, by decide +kernel, by decide +kernel, by decide +kernel⟩⟩

theorem wit_t2Empty : ∃ s : State, ∃ h : Nat, (h < 2) ∧ ((s.tiers.t2.get h).fill = 0) :=
  ⟨norm, 1, by decide +kernel, by decide +kernel⟩

theorem wit_shareAcked :
  (∃ s : State, ∃ n : Nat, ∃ f : Nat, ∃ x : Stripe, (n < 2 * t2Stripes) ∧ (f < 16) ∧ 
    let h := n / t2Stripes
    ((s.tiers.t2.get h).stripes.get? (n % t2Stripes) = some x) ∧ (s.boot.bridge = false ∨ f / 8 = h))
  ∧ (∃ s : State, ∃ n : Nat, ∃ f : Nat, ∃ x : Stripe, (n < 2 * t2Stripes) ∧ (f < 16) ∧ 
    let h := n / t2Stripes
    ((s.tiers.t2.get h).stripes.get? (n % t2Stripes) = some x) ∧ (s.boot.bridge = true) ∧ (f / 8 ≠ h)) :=
  ⟨⟨withT2 norm { T2Half.empty with stripes := [(0, stripe0)] }, 0, 0, stripe0, by decide +kernel, by decide +kernel, by decide +kernel, by decide +kernel⟩,
   ⟨{ withT2 norm { T2Half.empty with stripes := [(0, stripe0)] } with boot := { Boot.start with mode := 1, bridge := true } }, 0, 15, stripe0, by decide +kernel, by decide +kernel, by decide +kernel, by decide +kernel, by decide +kernel⟩⟩

theorem wit_compacts :
  (∃ s : State, ∃ h : Nat, (h < 2) ∧ ((s.t2Free h < s.compactMark ∨ (s.tiers.compact.get h = true ∧ s.t2Free h ≤ 2 * s.compactMark))) ∧ 
    let s0 : State := { s with tiers := { s.tiers with compact := s.tiers.compact.set h true } }
    
    let s1 := if s.t2Free h < s.compactMark then s0.raiseOnce 0x300B h 0 h [h, s.t2Free h] else s0
    ∃ n : Nat, ∃ x : Stripe, ((s1.tiers.t2.get h).poorest = some (n, x)) ∧ 
    let s2 := (x.kinds.foldl (fun t k => t.t2Rewrite h k) s1).count 0x8300 7 1
    (s2.t2Free h ≤ 2 * s2.compactMark))
  ∧ (∃ s : State, ∃ h : Nat, (h < 2) ∧ ((s.t2Free h < s.compactMark ∨ (s.tiers.compact.get h = true ∧ s.t2Free h ≤ 2 * s.compactMark))) ∧ 
    let s0 : State := { s with tiers := { s.tiers with compact := s.tiers.compact.set h true } }
    
    let s1 := if s.t2Free h < s.compactMark then s0.raiseOnce 0x300B h 0 h [h, s.t2Free h] else s0
    ((s1.tiers.t2.get h).poorest = none)) :=
  ⟨⟨setV (withT2 norm { T2Half.empty with stripes := [(0, stripe0)] }) 0x3000 9 [0#8, 1#8], 0, by decide +kernel, by decide +kernel, 0, stripe0, by decide +kernel, by decide +kernel⟩,
   ⟨setV (withT2 norm { T2Half.empty with fill := 5 }) 0x3000 9 [0#8, 1#8], 0, by decide +kernel, by decide +kernel, by decide +kernel⟩⟩

theorem wit_compactsNot : ∃ s : State, ∃ h : Nat, (h < 2) ∧ (s.compactMark ≤ s.t2Free h) ∧ (s.tiers.compact.get h = false ∨ 2 * s.compactMark < s.t2Free h) :=
  ⟨norm, 1, by decide +kernel, by decide +kernel, by decide +kernel⟩

theorem wit_flopiryLost :
  (∃ s : State, ∃ f : Nat, (f < 16) ∧ ((s.flash f).cond = 0))
  ∧ (∃ s : State, ∃ f : Nat, (f < 16) ∧ ((s.flash f).cond ≠ 0)) :=
  ⟨⟨norm, 15, by decide +kernel, by decide +kernel⟩,
   ⟨{ norm with tiers := { norm.tiers with flash := [(3, { cond := 1, cycles := 0, worn80 := false, worn100 := false, admittedAt := [] })] } }, 3, by decide +kernel, by decide +kernel⟩⟩

theorem wit_wear : ∃ s : State, ∃ f : Nat, ∃ n : Nat, (f < 16) :=
  ⟨norm, 0, 2399, by decide +kernel⟩

theorem wit_passStarts :
  (∃ s : State, ∃ h : Nat, (h < 2) ∧ ((halfKib * s.dval 0x3000 3 / 256 ≤ s.freeT1 h ∨ (s.tiers.pass.get h).running = true)))
  ∧ (∃ s : State, ∃ h : Nat, (h < 2) ∧ (s.freeT1 h < halfKib * s.dval 0x3000 3 / 256) ∧ ((s.tiers.pass.get h).running = false)) :=
  ⟨⟨norm, 0, by decide +kernel, by decide +kernel⟩,
   ⟨{ norm with tiers := Tiers.start }, 0, by decide +kernel, by decide +kernel, by decide +kernel⟩⟩

theorem wit_idleDemoted :
  (∃ s : State, ∃ i : Nat, 
    let e := s.ent i
    
    let n := s.objKib (s.goingDown i 0 false) + (s.tableOf i).blocks.length
    (s.dval 0x3000 5 ≠ 0) ∧ (e.state = .idle) ∧ (e.owner = s.self) ∧ ∃ t : Nat, (s.policyTier e.shalf e.part n 2000000 [] = some t))
  ∧ (∃ s : State, ∃ i : Nat, 
    let e := s.ent i
    
    let n := s.objKib (s.goingDown i 0 false) + (s.tableOf i).blocks.length
    (s.dval 0x3000 5 ≠ 0) ∧ (e.state = .idle) ∧ (e.owner = s.self) ∧ (s.policyTier e.shalf e.part n 2000000 [] = none))
  ∧ (∃ s : State, ∃ i : Nat, 
    let e := s.ent i
    
    let n := s.objKib (s.goingDown i 0 false) + (s.tableOf i).blocks.length
    (s.dval 0x3000 5 = 0 ∨ e.state ≠ .idle ∨ e.owner ≠ s.self)) :=
  ⟨⟨setV (withE (entry .idle)) 0x3000 5 (leBytes 4 60000), 0, by decide +kernel, by decide +kernel, by decide +kernel, 2, by decide +kernel⟩,
   ⟨setV (setV (withTab (withE (entry .idle))) 0x3000 5 (leBytes 4 60000)) 0x3000 6 [4#8, 0#8], 0, by decide +kernel, by decide +kernel, by decide +kernel, by decide +kernel⟩,
   ⟨withE (entry .parked), 0, by decide +kernel⟩⟩

theorem wit_pageDurable :
  (∃ s0 : State, ∃ i : Nat, ∃ pid : Nat, ∃ t : Nat, ∃ d : Demotion, ∃ p : Page, 
    let s := s0.at t
    (pid ≠ 0) ∧ (s.tiers.gcmds.any (fun c => c.left.contains (pageCode pid)) = false) ∧ (s.tiers.demos.get? i = some d) ∧ (s.pages.pages.get? pid = some p) ∧ (pid ∈ d.left) ∧ (p.next ≠ 0) ∧ (s.durable p.next (.page pid) = true))
  ∧ (∃ s0 : State, ∃ i : Nat, ∃ pid : Nat, ∃ t : Nat, ∃ d : Demotion, ∃ p : Page, 
    let s := s0.at t
    (pid ≠ 0) ∧ (s.tiers.gcmds.any (fun c => c.left.contains (pageCode pid)) = false) ∧ (s.tiers.demos.get? i = some d) ∧ (s.pages.pages.get? pid = some p) ∧ (pid ∉ d.left ∨ p.next = 0 ∨ s.durable p.next (.page pid) = false)) :=
  ⟨⟨{ withPg (withE (entry .parked)) { page0 with next := 3 * 2 ^ 45, clen := 5 } with tiers := { norm.tiers with demos := [(0, demo1)] } }, 0, 1, 0, demo1, { page0 with next := 3 * 2 ^ 45, clen := 5 }, by decide +kernel, by decide +kernel, by decide +kernel, by decide +kernel, by decide +kernel, by decide +kernel, by decide +kernel⟩,
   ⟨{ withPg (withE (entry .parked)) page0 with tiers := { norm.tiers with demos := [(0, demo1)] } }, 0, 1, 0, demo1, page0, by decide +kernel, by decide +kernel, by decide +kernel, by decide +kernel, by decide +kernel⟩⟩

theorem wit_lowStripes :
  (∃ s : State, ∃ h : Nat, (h < 2) ∧ (t2Stripes / 16 < s.t2Free h))
  ∧ (∃ s : State, ∃ h : Nat, (h < 2) ∧ ∃ i : Nat, ∃ t : Nat, (s.t2Free h < t2Stripes / 32) ∧ 
    let s0 : State := { s with ev := { s.ev with latch := s.ev.latch.put (latchKey 0x13000 h) 1 } }
    
    let l := (s0.goingDown i 0 true).filter
      (fun pid => ((s0.pages.pages.get? pid).map (fun p => hdTier p.low == 2 && !p.inT1)).getD false)
    
    let tabs := !(s0.tableOf i).inT1 && hdTier (s0.tableOf i).low == 2
    (s0.inT2 h = some i) ∧ (s0.afterT2.find? (fun u => s0.hasRoom h (s0.ent i).part u (s0.objKib l + (s0.tableOf i).blocks.length) 2000000) = some t)) :=
  ⟨⟨norm, 0, by decide +kernel, by decide +kernel⟩,
   ⟨withT2 { withPg (withE (entry .parked)) lowPage with tiers := { norm.tiers with borrowed := [(0, bor0)] } } (manyStripes 33000000), 0, by decide +kernel, 0, 4, by (rw [many_free _ 33000000 rfl]; decide +kernel), by decide +kernel, by decide +kernel⟩⟩

theorem wit_pieces :
  (∃ s : State, ∃ g : Nat, ∃ x : Granule, ∃ m : GranMove, (s.gran g = some x) ∧ (x.mv = some m) ∧ (s.boot.bridge = true) ∧ (m.tier = 2 ∨ x.tier = 2))
  ∧ (∃ s : State, ∃ g : Nat, ∃ x : Granule, ∃ m : GranMove, (s.gran g = some x) ∧ (x.mv = some m) ∧ (s.boot.bridge = false ∨ m.tier ≠ 2 ∧ x.tier ≠ 2) ∧ (m.pieces < 31))
  ∧ (∃ s : State, ∃ g : Nat, ∃ x : Granule, ∃ m : GranMove, (s.gran g = some x) ∧ (x.mv = some m) ∧ (s.boot.bridge = false ∨ m.tier ≠ 2 ∧ x.tier ≠ 2) ∧ (31 ≤ m.pieces) ∧ (s.durable (m.tier * 2 ^ 45 + m.loc) (.granule g) = true))
  ∧ (∃ s : State, ∃ g : Nat, ∃ x : Granule, ∃ m : GranMove, (s.gran g = some x) ∧ (x.mv = some m) ∧ (s.boot.bridge = false ∨ m.tier ≠ 2 ∧ x.tier ≠ 2) ∧ (31 ≤ m.pieces) ∧ (s.durable (m.tier * 2 ^ 45 + m.loc) (.granule g) = false)) :=
  ⟨⟨{ withG norm 0 { gran0 with mv := some (mv0 30) } with boot := { Boot.start with mode := 1, bridge := true } }, 0, { gran0 with mv := some (mv0 30) }, mv0 30, by decide +kernel, by decide +kernel, by decide +kernel, by decide +kernel⟩,
   ⟨withG norm 0 { gran0 with mv := some (mv0 30) }, 0, { gran0 with mv := some (mv0 30) }, mv0 30, by decide +kernel, by decide +kernel, by decide +kernel, by decide +kernel⟩,
   ⟨withG norm 0 { gran0 with mv := some (mv0 31) }, 0, { gran0 with mv := some (mv0 31) }, mv0 31, by decide +kernel, by decide +kernel, by decide +kernel, by decide +kernel, by decide +kernel⟩,
   ⟨withG (withT2 norm { T2Half.empty with fill := 5, buf := [{ unit := 0, kib := 5, kind := .granule 0 }] }) 0 { gran0 with mv := some (mv0 31) }, 0, { gran0 with mv := some (mv0 31) }, mv0 31, by decide +kernel, by decide +kernel, by decide +kernel, by decide +kernel, by decide +kernel⟩⟩

theorem wit_extentLapses : ∃ s : State, ∃ p : Nat, ∃ id : Nat, ∃ x : Extent, (id < 128) ∧ (s.tiers.extents.get? (128 * p + id) = some x) ∧ (x.leased = true) :=
  ⟨{ norm with tiers := { norm.tiers with extents := [(0, ext0)] } }, 0, 0, ext0, by decide +kernel, by decide +kernel, by decide +kernel⟩

theorem wit_poolLapses : ∃ s : State, ∃ peer : Nat, ∃ ext : Nat, ∃ b : Borrowed, (s.tiers.borrowed.get? (poolKey peer ext) = some b) :=
  ⟨{ norm with tiers := { norm.tiers with borrowed := [(poolKey 4 0, bor0)] } }, 4, 0, bor0, by decide +kernel⟩

theorem wit_extentAdded :
  (∃ s : State, ∃ fn : Nat, ∃ sq : Nat, ∃ d : Desc, ∃ p : Nat, (Taken s 0x20 fn d p) ∧ 
    let id := dFld d 230 224
    
    let key := 128 * p + id
    
    let c := s.cmdOf fn sq d false
    (dFld d 191 128 % 2 ^ 21 = 0) ∧ (0 < dFld d 223 192) ∧ (dFld d 223 192 ≤ 131072) ∧ (s.tiers.extents.get? key = none) ∧ (dFlag d 24 = false))
  ∧ (∃ s : State, ∃ fn : Nat, ∃ sq : Nat, ∃ d : Desc, ∃ p : Nat, (Taken s 0x20 fn d p) ∧ 
    let id := dFld d 230 224
    
    let key := 128 * p + id
    
    let c := s.cmdOf fn sq d false
    (dFld d 191 128 % 2 ^ 21 = 0) ∧ (0 < dFld d 223 192) ∧ (dFld d 223 192 ≤ 131072) ∧ (s.tiers.extents.get? key = none) ∧ (dFlag d 24 = true))
  ∧ (∃ s : State, ∃ fn : Nat, ∃ sq : Nat, ∃ d : Desc, ∃ p : Nat, (Taken s 0x20 fn d p) ∧ 
    let id := dFld d 230 224
    
    let key := 128 * p + id
    
    let c := s.cmdOf fn sq d false
    (dFld d 191 128 % 2 ^ 21 = 0) ∧ (0 < dFld d 223 192) ∧ (dFld d 223 192 ≤ 131072) ∧ ∃ x, (s.tiers.extents.get? key = some x) ∧ (dFlag d 24 = true) ∧ (x.len = dFld d 223 192))
  ∧ (∃ s : State, ∃ fn : Nat, ∃ sq : Nat, ∃ d : Desc, ∃ p : Nat, (Taken s 0x20 fn d p) ∧ 
    let id := dFld d 230 224
    
    let key := 128 * p + id
    
    let c := s.cmdOf fn sq d false
    (dFld d 191 128 % 2 ^ 21 = 0) ∧ (0 < dFld d 223 192) ∧ (dFld d 223 192 ≤ 131072) ∧ ∃ x, (s.tiers.extents.get? key = some x) ∧ (dFlag d 24 = false)) :=
  ⟨⟨norm, 0, 0, mk 0x20 0 (at_ 16 192 + at_ 127 224), 0, by decide +kernel, by decide +kernel, by decide +kernel, by decide +kernel, by decide +kernel, by decide +kernel⟩,
   ⟨norm, 0, 0, mk 0x20 0 (at_ 16 192 + at_ 1 24), 0, by decide +kernel, by decide +kernel, by decide +kernel, by decide +kernel, by decide +kernel, by decide +kernel⟩,
   ⟨{ norm with tiers := { norm.tiers with extents := [(0, ext0)] } }, 0, 0, mk 0x20 0 (at_ 16 192 + at_ 1 24), 0, by decide +kernel, by decide +kernel, by decide +kernel, by decide +kernel, ext0, by decide +kernel, by decide +kernel, by decide +kernel⟩,
   ⟨{ norm with tiers := { norm.tiers with extents := [(0, ext0)] } }, 0, 0, mk 0x20 0 (at_ 16 192), 0, by decide +kernel, by decide +kernel, by decide +kernel, by decide +kernel, ext0, by decide +kernel, by decide +kernel⟩⟩

theorem wit_extentRemoved :
  (∃ s : State, ∃ fn : Nat, ∃ sq : Nat, ∃ d : Desc, ∃ p : Nat, ∃ x : Extent, (Taken s 0x21 fn d p) ∧ 
    let id := dFld d 134 128
    
    let c := s.cmdOf fn sq d false
    (s.tiers.extents.get? (128 * p + id) = some x) ∧ (x.allocs = []))
  ∧ (∃ s : State, ∃ fn : Nat, ∃ sq : Nat, ∃ d : Desc, ∃ p : Nat, ∃ x : Extent, (Taken s 0x21 fn d p) ∧ 
    let id := dFld d 134 128
    
    let c := s.cmdOf fn sq d false
    (s.tiers.extents.get? (128 * p + id) = some x) ∧ (x.allocs ≠ []) ∧ (dFlag d 24 = false))
  ∧ (∃ s : State, ∃ fn : Nat, ∃ sq : Nat, ∃ d : Desc, ∃ p : Nat, ∃ x : Extent, (Taken s 0x21 fn d p) ∧ 
    let id := dFld d 134 128
    
    let c := s.cmdOf fn sq d false
    (s.tiers.extents.get? (128 * p + id) = some x) ∧ (x.allocs ≠ []) ∧ (dFlag d 24 = true) ∧ (x.leased = true))
  ∧ (∃ s : State, ∃ fn : Nat, ∃ sq : Nat, ∃ d : Desc, ∃ p : Nat, ∃ x : Extent, (Taken s 0x21 fn d p) ∧ 
    let id := dFld d 134 128
    
    let c := s.cmdOf fn sq d false
    (s.tiers.extents.get? (128 * p + id) = some x) ∧ (x.allocs ≠ []) ∧ (dFlag d 24 = true) ∧ (x.leased = false)) :=
  ⟨⟨{ norm with tiers := { norm.tiers with extents := [(0, ext0)] } }, 0, 0, mk 0x21 0 0, 0, ext0, by decide +kernel, by decide +kernel, by decide +kernel⟩,
   ⟨{ norm with tiers := { norm.tiers with extents := [(0, { ext0 with allocs := [(0, 1)] })] } }, 0, 0, mk 0x21 0 0, 0, { ext0 with allocs := [(0, 1)] }, by decide +kernel, by decide +kernel, by decide +kernel, by decide +kernel⟩,
   ⟨{ norm with tiers := { norm.tiers with extents := [(0, { ext0 with allocs := [(0, 1)] })] } }, 0, 0, mk 0x21 0 (at_ 1 24), 0, { ext0 with allocs := [(0, 1)] }, by decide +kernel, by decide +kernel, by decide +kernel, by decide +kernel, by decide +kernel⟩,
   ⟨{ norm with tiers := { norm.tiers with extents := [(0, { ext0 with leased := false, allocs := [(0, 1)] })] } }, 0, 0, mk 0x21 0 (at_ 1 24), 0, { ext0 with leased := false, allocs := [(0, 1)] }, by decide +kernel, by decide +kernel, by decide +kernel, by decide +kernel, by decide +kernel⟩⟩

theorem wit_maps : ∃ s : State, ∃ fn : Nat, ∃ sq : Nat, ∃ d : Desc, ∃ p : Nat, (Taken s 0x22 fn d p) ∧ (granFields d true = true) ∧ ((∀ g ∈ granList d, s.partOn (granPart g) = true ∧ granPart g = p ∧ g < 2 ^ 35 ∧ s.mapDenied g (dFlag d 24) = false ∧ s.gran g = none)) :=
  ⟨norm, 0, 0, mk 0x22 0 (at_ 2 192), 0, by decide +kernel, by decide +kernel, by decide +kernel⟩

theorem wit_mapDenies : ∃ s : State, ∃ fn : Nat, ∃ sq : Nat, ∃ d : Desc, ∃ p : Nat, (Taken s 0x22 fn d p) ∧ (granFields d true = true) ∧ (p ≠ 0) ∧ ((∃ g ∈ granList d, granPart g ≠ p)) :=
  ⟨setV norm 0x7080 2 [1#8], 1, 0, mk 0x22 0 (at_ 2 192), 1, by decide +kernel, by decide +kernel, by decide +kernel, by decide +kernel⟩

theorem wit_unmaps : ∃ s : State, ∃ fn : Nat, ∃ sq : Nat, ∃ d : Desc, ∃ p : Nat, (Taken s 0x23 fn d p) ∧ (granFields d false = true) ∧ (s.addrCheck p (dFld d 183 128) (dFld d 223 192 * 2097152) = none) ∧ ((∀ g ∈ granList d, s.mapDenied g false = false)) :=
  ⟨withG norm 0 gran0, 0, 0, mk 0x23 0 (at_ 1 192), 0, by decide +kernel, by decide +kernel, by decide +kernel, by decide +kernel⟩

theorem wit_placesPin :
  (∃ s : State, ∃ fn : Nat, ∃ sq : Nat, ∃ d : Desc, ∃ p : Nat, (Taken s 0x24 fn d p) ∧ (granFields d true = true) ∧ (s.addrCheck p (dFld d 183 128) (dFld d 223 192 * 2097152) = none) ∧ 
    let c := s.cmdOf fn sq d false
    
    let t := dFld d 226 224
    
    let away := fun (g : Nat) =>
      match s.gran g with
      | some x => s.lapsed (granPart g) x.handle
      | none => false
    
    let s1 := (granList d).foldl (fun u g => u.updGran g (fun x => { x with pin := dFlag d 24 })) s
    ((granList d).any (fun g => s.placeDenied g t (dFlag d 24)) = true))
  ∧ (∃ s : State, ∃ fn : Nat, ∃ sq : Nat, ∃ d : Desc, ∃ p : Nat, (Taken s 0x24 fn d p) ∧ (granFields d true = true) ∧ (s.addrCheck p (dFld d 183 128) (dFld d 223 192 * 2097152) = none) ∧ 
    let c := s.cmdOf fn sq d false
    
    let t := dFld d 226 224
    
    let away := fun (g : Nat) =>
      match s.gran g with
      | some x => s.lapsed (granPart g) x.handle
      | none => false
    
    let s1 := (granList d).foldl (fun u g => u.updGran g (fun x => { x with pin := dFlag d 24 })) s
    ((granList d).any (fun g => s.placeDenied g t (dFlag d 24)) = false) ∧ ∃ g : Nat, ∃ x : Granule, ((granList d).find? away = some g) ∧ (s.gran g = some x))
  ∧ (∃ s : State, ∃ fn : Nat, ∃ sq : Nat, ∃ d : Desc, ∃ p : Nat, (Taken s 0x24 fn d p) ∧ (granFields d true = true) ∧ (s.addrCheck p (dFld d 183 128) (dFld d 223 192 * 2097152) = none) ∧ 
    let c := s.cmdOf fn sq d false
    
    let t := dFld d 226 224
    
    let away := fun (g : Nat) =>
      match s.gran g with
      | some x => s.lapsed (granPart g) x.handle
      | none => false
    
    let s1 := (granList d).foldl (fun u g => u.updGran g (fun x => { x with pin := dFlag d 24 })) s
    ((granList d).any (fun g => s.placeDenied g t (dFlag d 24)) = false) ∧ ((granList d).find? away = none) ∧ (t = 0))
  ∧ (∃ s : State, ∃ fn : Nat, ∃ sq : Nat, ∃ d : Desc, ∃ p : Nat, (Taken s 0x24 fn d p) ∧ (granFields d true = true) ∧ (s.addrCheck p (dFld d 183 128) (dFld d 223 192 * 2097152) = none) ∧ 
    let c := s.cmdOf fn sq d false
    
    let t := dFld d 226 224
    
    let away := fun (g : Nat) =>
      match s.gran g with
      | some x => s.lapsed (granPart g) x.handle
      | none => false
    
    let s1 := (granList d).foldl (fun u g => u.updGran g (fun x => { x with pin := dFlag d 24 })) s
    ((granList d).any (fun g => s.placeDenied g t (dFlag d 24)) = false) ∧ ((granList d).find? away = none) ∧ (t ≠ 0) ∧ 
    let r := s1.moveAll t (granList d) []
    (r.2.1 = []))
  ∧ (∃ s : State, ∃ fn : Nat, ∃ sq : Nat, ∃ d : Desc, ∃ p : Nat, (Taken s 0x24 fn d p) ∧ (granFields d true = true) ∧ (s.addrCheck p (dFld d 183 128) (dFld d 223 192 * 2097152) = none) ∧ 
    let c := s.cmdOf fn sq d false
    
    let t := dFld d 226 224
    
    let away := fun (g : Nat) =>
      match s.gran g with
      | some x => s.lapsed (granPart g) x.handle
      | none => false
    
    let s1 := (granList d).foldl (fun u g => u.updGran g (fun x => { x with pin := dFlag d 24 })) s
    ((granList d).any (fun g => s.placeDenied g t (dFlag d 24)) = false) ∧ ((granList d).find? away = none) ∧ (t ≠ 0) ∧ 
    let r := s1.moveAll t (granList d) []
    (r.2.1 ≠ [])) :=
  ⟨⟨withReg (withG norm 0 gran0), 0, 0, mk 0x24 0 (at_ 1 192 + at_ 2 224), 0, by decide +kernel, by decide +kernel, by decide +kernel, by decide +kernel⟩,
   ⟨withG norm 0 { gran0 with tier := 3, loc := 0 }, 0, 0, mk 0x24 0 (at_ 1 192), 0, by decide +kernel, by decide +kernel, by decide +kernel, by decide +kernel, 0, { gran0 with tier := 3, loc := 0 }, by decide +kernel, by decide +kernel⟩,
   ⟨withG norm 0 gran0, 0, 0, mk 0x24 0 (at_ 1 192), 0, by decide +kernel, by decide +kernel, by decide +kernel, by decide +kernel, by decide +kernel, by decide +kernel⟩,
   ⟨withG norm 0 gran0, 0, 0, mk 0x24 0 (at_ 1 192 + at_ 1 224), 0, by decide +kernel, by decide +kernel, by decide +kernel, by decide +kernel, by decide +kernel, by decide +kernel, by decide +kernel⟩,
   ⟨withG norm 0 gran0, 0, 0, mk 0x24 0 (at_ 1 192 + at_ 2 224), 0, by decide +kernel, by decide +kernel, by decide +kernel, by decide +kernel, by decide +kernel, by decide +kernel, by decide +kernel⟩⟩

theorem wit_rebuildNames :
  (∃ s : State, ∃ fn : Nat, ∃ sq : Nat, ∃ d : Desc, ∃ p : Nat, (Taken s 0x25 fn d p) ∧ 
    let c := s.cmdOf fn sq d false
    
    let a := dFld d 139 130
    
    let b := dFld d 149 140
    
    let k := 2 * dFld d 128 128 + dFld d 129 129
    (4 ≤ a) ∧ (b ≤ 767) ∧ (a ≤ b) ∧ ∃ r : Rebuild, (p = 0) ∧ (s.tiers.rebuilds.get? k = some r) ∧ 
    let rows := r.rows.filter (fun x => decide (a ≤ x) && decide (x ≤ b))
    (rows ≠ []))
  ∧ (∃ s : State, ∃ fn : Nat, ∃ sq : Nat, ∃ d : Desc, ∃ p : Nat, (Taken s 0x25 fn d p) ∧ 
    let c := s.cmdOf fn sq d false
    
    let a := dFld d 139 130
    
    let b := dFld d 149 140
    
    let k := 2 * dFld d 128 128 + dFld d 129 129
    (4 ≤ a) ∧ (b ≤ 767) ∧ (a ≤ b) ∧ ∃ r : Rebuild, (p = 0) ∧ (s.tiers.rebuilds.get? k = some r) ∧ 
    let rows := r.rows.filter (fun x => decide (a ≤ x) && decide (x ≤ b))
    (rows = []))
  ∧ (∃ s : State, ∃ fn : Nat, ∃ sq : Nat, ∃ d : Desc, ∃ p : Nat, (Taken s 0x25 fn d p) ∧ 
    let c := s.cmdOf fn sq d false
    
    let a := dFld d 139 130
    
    let b := dFld d 149 140
    
    let k := 2 * dFld d 128 128 + dFld d 129 129
    (4 ≤ a) ∧ (b ≤ 767) ∧ (a ≤ b) ∧ (p = 0) ∧ (s.tiers.rebuilds.get? k = none))
  ∧ (∃ s : State, ∃ fn : Nat, ∃ sq : Nat, ∃ d : Desc, ∃ p : Nat, (Taken s 0x25 fn d p) ∧ 
    let c := s.cmdOf fn sq d false
    
    let a := dFld d 139 130
    
    let b := dFld d 149 140
    
    let k := 2 * dFld d 128 128 + dFld d 129 129
    (4 ≤ a) ∧ (b ≤ 767) ∧ (a ≤ b) ∧ (p ≠ 0))
  ∧ (∃ s : State, ∃ fn : Nat, ∃ sq : Nat, ∃ d : Desc, ∃ p : Nat, (Taken s 0x25 fn d p) ∧ 
    let c := s.cmdOf fn sq d false
    
    let a := dFld d 139 130
    
    let b := dFld d 149 140
    
    let k := 2 * dFld d 128 128 + dFld d 129 129
    (a < 4 ∨ 767 < b ∨ b < a)) :=
  ⟨⟨{ norm with tiers := { norm.tiers with rebuilds := [(0, rb0)] } }, 0, 0, mk 0x25 0 (at_ 4 130 + at_ 767 140), 0, by decide +kernel, by decide +kernel, by decide +kernel, by decide +kernel, rb0, by decide +kernel, by decide +kernel, by decide +kernel⟩,
   ⟨{ norm with tiers := { norm.tiers with rebuilds := [(0, rb0)] } }, 0, 0, mk 0x25 0 (at_ 6 130 + at_ 767 140), 0, by decide +kernel, by decide +kernel, by decide +kernel, by decide +kernel, rb0, by decide +kernel, by decide +kernel, by decide +kernel⟩,
   ⟨norm, 0, 0, mk 0x25 0 (at_ 4 130 + at_ 767 140), 0, by decide +kernel, by decide +kernel, by decide +kernel, by decide +kernel, by decide +kernel, by decide +kernel⟩,
   ⟨setV norm 0x7080 2 [1#8], 1, 0, mk 0x25 0 (at_ 4 130 + at_ 767 140), 1, by decide +kernel, by decide +kernel, by decide +kernel, by decide +kernel, by decide +kernel⟩,
   ⟨norm, 0, 0, mk 0x25 0 (at_ 3 130 + at_ 767 140), 0, by decide +kernel, by decide +kernel⟩⟩

theorem wit_atomicAdds :
  (∃ s : State, ∃ fn : Nat, ∃ sq : Nat, ∃ d : Desc, ∃ p : Nat, ∃ x : Granule, 
    let addr := dFld d 183 128
    
    let op := dFld d 258 256
    
    let w := atomicWidth op
    
    let g := granOf addr
    
    let c := s.cmdOf fn sq d false
    
    let s0 := s.access addr w
    (Taken s 0x26 fn d p) ∧ (op ≤ 3) ∧ (addr % w = 0) ∧ (s.addrCheck p addr w = none) ∧ (s0.gran g = some x) ∧ (s0.lapsed (granPart g) x.handle = false) ∧ (x.tier = 1) ∧ (x.mv = none) ∧ (s0.stackLost x.handle = false) ∧ (s0.holders 4 (addr / 64) true = []) ∧ (s0.poisoned addr w = false))
  ∧ (∃ s : State, ∃ fn : Nat, ∃ sq : Nat, ∃ d : Desc, ∃ p : Nat, ∃ x : Granule, 
    let addr := dFld d 183 128
    
    let op := dFld d 258 256
    
    let w := atomicWidth op
    
    let g := granOf addr
    
    let c := s.cmdOf fn sq d false
    
    let s0 := s.access addr w
    (Taken s 0x26 fn d p) ∧ (op ≤ 3) ∧ (addr % w = 0) ∧ (s.addrCheck p addr w = none) ∧ (s0.gran g = some x) ∧ (s0.lapsed (granPart g) x.handle = false) ∧ (x.tier = 1) ∧ (x.mv = none) ∧ (s0.stackLost x.handle = false) ∧ (s0.holders 4 (addr / 64) true = []) ∧ (s0.poisoned addr w = true))
  ∧ (∃ s : State, ∃ fn : Nat, ∃ sq : Nat, ∃ d : Desc, ∃ p : Nat, ∃ x : Granule, 
    let addr := dFld d 183 128
    
    let op := dFld d 258 256
    
    let w := atomicWidth op
    
    let g := granOf addr
    
    let c := s.cmdOf fn sq d false
    
    let s0 := s.access addr w
    (Taken s 0x26 fn d p) ∧ (op ≤ 3) ∧ (addr % w = 0) ∧ (s.addrCheck p addr w = none) ∧ (s0.gran g = some x) ∧ (s0.lapsed (granPart g) x.handle = false) ∧ (x.tier = 1) ∧ (x.mv = none) ∧ (s0.stackLost x.handle = false) ∧ (s0.holders 4 (addr / 64) true ≠ []))
  ∧ (∃ s : State, ∃ fn : Nat, ∃ sq : Nat, ∃ d : Desc, ∃ p : Nat, ∃ x : Granule, 
    let addr := dFld d 183 128
    
    let op := dFld d 258 256
    
    let w := atomicWidth op
    
    let g := granOf addr
    
    let c := s.cmdOf fn sq d false
    
    let s0 := s.access addr w
    (Taken s 0x26 fn d p) ∧ (op ≤ 3) ∧ (addr % w = 0) ∧ (s.addrCheck p addr w = none) ∧ (s0.gran g = some x) ∧ (s0.lapsed (granPart g) x.handle = false) ∧ (x.tier ≠ 1 ∨ x.mv ≠ none ∨ s0.stackLost x.handle = true)) :=
  ⟨⟨withG norm 0 gran0, 0, 0, mk 0x26 0 0, 0, { gran0 with acc := 1 }, by decide +kernel, by decide +kernel, by decide +kernel, by decide +kernel, by decide +kernel, by decide +kernel, by decide +kernel, by decide +kernel, by decide +kernel, by decide +kernel, by decide +kernel⟩,
   ⟨poisonG (withG norm 0 gran0), 0, 0, mk 0x26 0 0, 0, { gran0 with acc := 1 }, by decide +kernel, by decide +kernel, by decide +kernel, by decide +kernel, by decide +kernel, by decide +kernel, by decide +kernel, by decide +kernel, by decide +kernel, by decide +kernel, by decide +kernel⟩,
   ⟨withHeld (withG norm 0 gran0), 0, 0, mk 0x26 0 0, 0, { gran0 with acc := 1 }, by decide +kernel, by decide +kernel, by decide +kernel, by decide +kernel, by decide +kernel, by decide +kernel, by decide +kernel, by decide +kernel, by decide +kernel, by decide +kernel⟩,
   ⟨withG norm 0 { gran0 with mv := some (mv0 3) }, 0, 0, mk 0x26 0 0, 0, { gran0 with mv := some (mv0 3), acc := 1 }, by decide +kernel, by decide +kernel, by decide +kernel, by decide +kernel, by decide +kernel, by decide +kernel, by decide +kernel⟩⟩

theorem wit_pageFetched : ∃ s : State, ∃ i : Nat, ∃ pid : Nat, ∃ l : Nat, ∃ pidx : Nat, ∃ v : DevRun, ∃ p : Page, (s.own.dev.get? i = some v) ∧ ((s.missing i).find? (fun m => m.2.2 == pid) = some (l, pidx, pid)) ∧ (s.pages.pages.get? pid = some p) ∧ (pid ≠ 0) ∧ ((s.tableOf i).inT1 = true) ∧ ((s.boot.bridge = true → hdTier p.low ≠ 2)) ∧ (s.lapsed p.part p.low = false) ∧ (p.lowChk = .good) ∧ (s.t2Lost p.low p.clen = false) :=
  ⟨{ withPg (withE (entry .parked)) lowPage with own := { Own.start with dev := [(0, { window := 1, reserve := 0, revives := [] })] } }, 0, 1, 0, 0, { window := 1, reserve := 0, revives := [] }, lowPage, by decide +kernel, by decide +kernel, by decide +kernel, by decide +kernel, by decide +kernel, by decide +kernel, by decide +kernel, by decide +kernel, by decide +kernel⟩

theorem wit_pageUncorrectable : ∃ s : State, ∃ i : Nat, ∃ pid : Nat, ∃ l : Nat, ∃ pidx : Nat, ∃ v : DevRun, ∃ p : Page, (s.own.dev.get? i = some v) ∧ ((s.missing i).find? (fun m => m.2.2 == pid) = some (l, pidx, pid)) ∧ (s.pages.pages.get? pid = some p) ∧ (pid ≠ 0) ∧ ((s.tableOf i).inT1 = true) ∧ ((s.boot.bridge = true → hdTier p.low ≠ 2)) ∧ (s.lapsed p.part p.low = false) ∧ (p.lowChk ≠ .failed) :=
  ⟨{ withPg (withE (entry .parked)) lowPage with own := { Own.start with dev := [(0, { window := 1, reserve := 0, revives := [] })] } }, 0, 1, 0, 0, { window := 1, reserve := 0, revives := [] }, lowPage, by decide +kernel, by decide +kernel, by decide +kernel, by decide +kernel, by decide +kernel, by decide +kernel, by decide +kernel, by decide +kernel⟩

end W02

/-! ### Granules and the pool -/

namespace W03

def pool (op ext kib n st lease : Nat) : BitVec 256 := BitVec.ofNat 256 (poolHeader op ext kib n st lease)
def lent0 : Lent := { borrower := 4, part := 0, kib := 64, leaseEnd := 5, data := [(2, [7#8])], bad := [] }
def lends (g : Lent) : State := { norm with tiers := { norm.tiers with lent := [(poolKey 4 0, g)] } }
def ask0 (op : Nat) : PoolReq := { seq := 1, op, part := 0, holder := 4, ext := 0, kib := 0, len := 64, obj := none, data := [] }
def asks (op : Nat) : State := { norm with tiers := { norm.tiers with poolReqs := [ask0 op] } }
def kib0 : List Byte := List.replicate 1024 0#8
def bor0 : Borrowed := { part := 0, holder := 4, ext := 0, kib := 64, lapsed := false, leaseEnd := 5, allocs := [] }

theorem wit_poolGrants : ∃ s : State, ∃ src : Nat, ∃ part : Nat, ∃ hdr : BitVec 256, (poolOk hdr 1 = true) ∧ (s.liveGrant src part (bits hdr 247 241) = none) ∧ (0 < bits hdr 208 177) ∧ (s.lentKib + bits hdr 208 177 ≤ s.dval 0x3040 1 * 2 ^ 20) :=
  ⟨setV norm 0x3040 1 (leBytes 4 1), 4, 0, pool 1 0 0 64 0 0, by decide +kernel, by decide +kernel, by decide +kernel, by decide +kernel⟩

theorem wit_poolRefuses : ∃ s : State, ∃ src : Nat, ∃ part : Nat, ∃ hdr : BitVec 256, (poolOk hdr 1 = true) ∧ (s.liveGrant src part (bits hdr 247 241) = none) ∧ (s.dval 0x3040 1 * 2 ^ 20 < s.lentKib + bits hdr 208 177) :=
  ⟨setV norm 0x3040 1 (leBytes 4 1), 4, 0, pool 1 0 0 (2 ^ 20 + 1) 0 0, by decide +kernel, by decide +kernel, by decide +kernel⟩

theorem wit_poolGranted : ∃ s : State, ∃ src : Nat, ∃ part : Nat, ∃ hdr : BitVec 256, (poolOk hdr 2 = true) ∧ (bits hdr 176 173 = 0) ∧ ((s.tiers.poolReqs.any (fun r => r.holder == src && r.ext == bits hdr 247 241 && r.op == 1)) = true) ∧ (s.tiers.borrowed.get? (poolKey src (bits hdr 247 241)) = none) :=
  ⟨asks 1, 4, 0, pool 2 0 0 64 0 60000, by decide +kernel, by decide +kernel, by decide +kernel, by decide +kernel⟩

theorem wit_poolRenewed : ∃ s : State, ∃ src : Nat, ∃ part : Nat, ∃ hdr : BitVec 256, ∃ g : Lent, (poolOk hdr 3 = true) ∧ (s.liveGrant src part (bits hdr 247 241) = some g) :=
  ⟨lends lent0, 4, 0, pool 3 0 0 0 0 0, lent0, by decide +kernel, by decide +kernel⟩

theorem wit_poolWritten : ∃ s : State, ∃ s1 : State, ∃ src : Nat, ∃ part : Nat, ∃ crc : Nat, ∃ x : Nat, ∃ hdr : BitVec 256, ∃ data : List Byte, ∃ g : Lent, 
    let ext := bits hdr 247 241
    
    let kib := bits hdr 240 209
    
    let n := bits hdr 208 177
    (poolOk hdr 4 = true) ∧ (data.length = 1024 * n) ∧ (verify data crc ≠ .failed) ∧ (s.liveGrant src part ext = some g) ∧ (0 < n) ∧ (kib + n ≤ g.kib) ∧ (((s.t2Drop 0 (.pool src ext kib)).t2Drop 1 (.pool src ext kib)).t2Put (if s.t2Free 1 ≤ s.t2Free 0 then 0 else 1) n
      (.pool src ext kib) = (s1, x)) ∧ (x ≠ 0) :=
  ⟨lends lent0, ((((lends lent0).t2Drop 0 (.pool 4 0 0)).t2Drop 1 (.pool 4 0 0)).t2Put 0 1 (.pool 4 0 0)).1, 4, 0, crc32c kib0, ((((lends lent0).t2Drop 0 (.pool 4 0 0)).t2Drop 1 (.pool 4 0 0)).t2Put 0 1 (.pool 4 0 0)).2, pool 4 0 0 1 0 0, kib0, lent0, by decide +kernel, by decide +kernel, by simp [verify], by decide +kernel, by decide +kernel, by decide +kernel, by decide +kernel, by decide +kernel⟩

theorem wit_poolWriteDiscards : ∃ s : State, ∃ src : Nat, ∃ part : Nat, ∃ crc : Nat, ∃ hdr : BitVec 256, ∃ data : List Byte, (verify data crc = .failed) :=
  ⟨norm, 0, 0, 1, 0#256, [1#8, 2#8], by decide +kernel⟩

theorem wit_poolReads :
  (∃ s : State, ∃ src : Nat, ∃ part : Nat, ∃ hdr : BitVec 256, 
    let ext := bits hdr 247 241
    
    let kib := bits hdr 240 209
    
    let n := bits hdr 208 177
    (poolOk hdr 5 = true) ∧ ∃ g : Lent, (s.liveGrant src part ext = some g) ∧ (0 < n) ∧ (kib + n ≤ g.kib))
  ∧ (∃ s : State, ∃ src : Nat, ∃ part : Nat, ∃ hdr : BitVec 256, 
    let ext := bits hdr 247 241
    
    let kib := bits hdr 240 209
    
    let n := bits hdr 208 177
    (poolOk hdr 5 = true) ∧ ∃ g : Lent, (s.liveGrant src part ext = some g) ∧ (g.kib < kib + n))
  ∧ (∃ s : State, ∃ src : Nat, ∃ part : Nat, ∃ hdr : BitVec 256, 
    let ext := bits hdr 247 241
    
    let kib := bits hdr 240 209
    
    let n := bits hdr 208 177
    (poolOk hdr 5 = true) ∧ (s.liveGrant src part ext = none)) :=
  ⟨⟨lends lent0, 4, 0, pool 5 0 2 1 0 0, by decide +kernel, lent0, by decide +kernel, by decide +kernel, by decide +kernel⟩,
   ⟨lends lent0, 4, 0, pool 5 0 64 1 0 0, by decide +kernel, lent0, by decide +kernel, by decide +kernel⟩,
   ⟨norm, 4, 0, pool 5 0 2 1 0 0, by decide +kernel, by decide +kernel⟩⟩

theorem wit_poolAnswers :
  (∃ s : State, ∃ src : Nat, ∃ part : Nat, ∃ crc : Nat, ∃ hdr : BitVec 256, ∃ data : List Byte, (bits hdr 176 173 = 0) ∧ (poolOk hdr 6 = true) ∧ (data.length = 1024 * bits hdr 208 177) ∧ (verify data crc ≠ .failed))
  ∧ (∃ s : State, ∃ src : Nat, ∃ part : Nat, ∃ crc : Nat, ∃ hdr : BitVec 256, ∃ data : List Byte, (bits hdr 176 173 = 0) ∧ (poolOk hdr 7 = true)) :=
  ⟨⟨asks 5, 4, 0, crc32c kib0, pool 6 0 0 1 0 0, kib0, by decide +kernel, by decide +kernel, by decide +kernel, by simp [verify]⟩,
   ⟨asks 4, 4, 0, 0, pool 7 0 0 0 0 0, [], by decide +kernel, by decide +kernel⟩⟩

theorem wit_poolFrees : ∃ s : State, ∃ src : Nat, ∃ part : Nat, ∃ hdr : BitVec 256, ∃ g : Lent, (poolOk hdr 8 = true) ∧ (s.tiers.lent.get? (poolKey src (bits hdr 247 241)) = some g) ∧ (g.part = part) :=
  ⟨lends lent0, 4, 0, pool 8 0 0 0 0 0, lent0, by decide +kernel, by decide +kernel, by decide +kernel⟩

theorem wit_poolRetries : ∃ s : State, ∃ q : Nat, ∃ r : PoolReq, (s.tiers.poolReqs.find? (fun x => x.seq == q) = some r) :=
  ⟨asks 1, 1, ask0 1, by decide +kernel⟩

theorem wit_poolRenewal : ∃ s : State, ∃ part : Nat, ∃ holder : Nat, ∃ ext : Nat, ∃ b : Borrowed, (s.tiers.borrowed.get? (poolKey holder ext) = some b) ∧ (b.lapsed = false) ∧ (b.part = part) :=
  ⟨{ norm with tiers := { norm.tiers with borrowed := [(poolKey 4 0, bor0)] } }, 0, 4, 0, bor0, by decide +kernel, by decide +kernel, by decide +kernel⟩

theorem wit_poolAsked :
  (∃ s : State, ∃ src : Nat, ∃ part : Nat, ∃ hdr : BitVec 256, ∃ g : Lent, (poolOk hdr 1 = true) ∧ (s.liveGrant src part (bits hdr 247 241) = some g))
  ∧ (∃ s : State, ∃ src : Nat, ∃ part : Nat, ∃ hdr : BitVec 256, (poolOk hdr 3 = true) ∧ (s.liveGrant src part (bits hdr 247 241) = none)) :=
  ⟨⟨lends lent0, 4, 0, pool 1 0 0 64 0 0, lent0, by decide +kernel, by decide +kernel⟩,
   ⟨norm, 4, 0, pool 3 0 0 0 0 0, by decide +kernel, by decide +kernel⟩⟩

theorem wit_poolGrantRefused :
  (∃ s : State, ∃ src : Nat, ∃ part : Nat, ∃ hdr : BitVec 256, (poolOk hdr 2 = true) ∧ (bits hdr 176 173 ≠ 0) ∧ 
    let asked := s.tiers.poolReqs.any (fun r => r.holder == src && r.ext == bits hdr 247 241 && r.op == 1)
    
    let s1 := s.poolAnswered src (bits hdr 247 241) [1, 3] none
    (asked = true))
  ∧ (∃ s : State, ∃ src : Nat, ∃ part : Nat, ∃ hdr : BitVec 256, (poolOk hdr 2 = true) ∧ (bits hdr 176 173 ≠ 0) ∧ 
    let asked := s.tiers.poolReqs.any (fun r => r.holder == src && r.ext == bits hdr 247 241 && r.op == 1)
    
    let s1 := s.poolAnswered src (bits hdr 247 241) [1, 3] none
    (asked = false)) :=
  ⟨⟨asks 1, 4, 0, pool 2 0 0 0 1 0, by decide +kernel, by decide +kernel, by decide +kernel⟩,
   ⟨norm, 4, 0, pool 2 0 0 0 2 0, by decide +kernel, by decide +kernel, by decide +kernel⟩⟩

theorem wit_poolWriteRefused :
  (∃ s : State, ∃ src : Nat, ∃ part : Nat, ∃ crc : Nat, ∃ hdr : BitVec 256, ∃ data : List Byte, 
    let ext := bits hdr 247 241
    
    let kib := bits hdr 240 209
    
    let n := bits hdr 208 177
    (poolOk hdr 4 = true) ∧ (data.length = 1024 * n) ∧ (verify data crc ≠ .failed) ∧ (s.liveGrant src part ext = none))
  ∧ (∃ s : State, ∃ src : Nat, ∃ part : Nat, ∃ crc : Nat, ∃ hdr : BitVec 256, ∃ data : List Byte, 
    let ext := bits hdr 247 241
    
    let kib := bits hdr 240 209
    
    let n := bits hdr 208 177
    (poolOk hdr 4 = true) ∧ (data.length = 1024 * n) ∧ (verify data crc ≠ .failed) ∧ ∃ g : Lent, (s.liveGrant src part ext = some g) ∧ ((g.kib < kib + n ∨ n = 0))) :=
  ⟨⟨norm, 4, 0, crc32c [], pool 4 0 0 0 0 0, [], by decide +kernel, by decide +kernel, by simp [verify], by decide +kernel⟩,
   ⟨lends lent0, 4, 0, crc32c [], pool 4 0 0 0 0 0, [], by decide +kernel, by decide +kernel, by simp [verify], lent0, by decide +kernel, by decide +kernel⟩⟩

theorem wit_poolLeaseOver :
  (∃ s : State, ∃ src : Nat, ∃ part : Nat, ∃ crc : Nat, ∃ hdr : BitVec 256, ∃ data : List Byte, 
    let ext := bits hdr 247 241
    (poolOk hdr 6 = true) ∧ (bits hdr 176 173 = 2))
  ∧ (∃ s : State, ∃ src : Nat, ∃ part : Nat, ∃ crc : Nat, ∃ hdr : BitVec 256, ∃ data : List Byte, 
    let ext := bits hdr 247 241
    (poolOk hdr 7 = true) ∧ (bits hdr 176 173 = 2))
  ∧ (∃ s : State, ∃ src : Nat, ∃ part : Nat, ∃ crc : Nat, ∃ hdr : BitVec 256, ∃ data : List Byte, 
    let ext := bits hdr 247 241
    ∃ g : Lent, (poolOk hdr 8 = true) ∧ (s.tiers.lent.get? (poolKey src ext) = some g) ∧ (g.part ≠ part)) :=
  ⟨⟨norm, 4, 0, 0, pool 6 0 0 0 2 0, [], by decide +kernel, by decide +kernel⟩,
   ⟨norm, 4, 0, 0, pool 7 0 0 0 2 0, [], by decide +kernel, by decide +kernel⟩,
   ⟨lends lent0, 4, 1, 0, pool 8 0 0 0 0 0, [], lent0, by decide +kernel, by decide +kernel, by decide +kernel⟩⟩

end W03

/-! ### Ownership and moves -/

namespace W04

def own (m : OwnMsg) : BitVec 256 := BitVec.ofNat 256 m.word
def ask (op : Nat) : OwnMsg :=
  { op, result := 0, seq := 1, sender := 4, gidx := 0, drop := false, clm := false, handle := h0, epoch := 3, offered := false
    shalf := 0, thalf := 0, owner := 4, target := 4, ggen := 0, lease := 0 }
def rec0 : DirEntry := { entry .idle with owner := 4, target := 8, epoch := 3, olease := 60 }
def offered0 : DirEntry := { rec0 with offered := true }
def moveRun0 : MoveRun :=
  { cmd := cmd0, half := false, target := 4, before := .idle, ttlLeft := 60, offerEpoch := 3, offered := true, fails := [], guest := 0
    started := true, after := false, reason := 0, slot := none }
def moving0 (r : MoveRun) : State :=
  { withPg (withE (entry .moving)) page0 with own := { Own.start with moves := [(0, r)] }, profs := [(0, prof0)] }
def staged0 : StagedCopy :=
  { source := 4, srcHandle := 7, offerEpoch := 3, ttlLeft := 60, before := .idle, expect := 1, got := 0, complete := false, doneAt := 0
    lapsed := false, asks := [], old := none }
def staging (x : StagedCopy) (now : Nat) : State :=
  { withE { entry .moving with count := 16 } with
    own := { Own.start with staged := [(0, x)], links := [(0, { kind := 0, peer := 4, handle := 7 })] }, profs := [(0, prof0)]
    pages := { Pages.start with tables := [(0, { layers := [(0, { depth := 0, leaves := 0, ents := [] })], blocks := [{ kind := 0, layer := 0, n := 0, a := 0, b := 0 }], inT1 := true, low := 0, next := 0 })]
                                resv := [(0, (0, 1000))] }
    clk := { Clocks.start with cal := { Clocks.start.cal with copy := { w := now, e := now } } } }
def lapsed0 : State := { withE rec0 with own := { Own.start with lapsed := [0] } }
def mh (op l q ps rseq : Nat) : BitVec 256 := BitVec.ofNat 256 (moveHeader h0 h0 op l q ps 0 rseq)
def ownReq0 : OwnReq := { waits := false, idx := 0, op := 1, seq := 1, peer := 4, handle := h0, hdr := 0, timeouts := 0, cmd := none, goal := 0 }
def relay0 : Relay := { seq := 1, peer := 4, handle := 7, guest := h0, part := 0, body := .comp (Completion.of cmd0 0 0 0) false }
def fields0 : List Byte := leBytes 64 { entry .idle with ptroot := 2 ^ 45 + 4 * 65536 }.word ++ leBytes 8 60
def fwd0 : State := { withE (entry .moving) with own := { Own.start with fwd := [(h0, (cmd0, 0))], taken := [(h0, 2)] } }
def goodPage : Page := { page0 with rows := (List.range 16).map (fun i => (i, { k := List.replicate 64 0#8, v := List.replicate 64 0#8, sums := [0], chkA := .good, chkB := .good })) }
def tiny : Profile := { prof0 with dk := 1, dv := 1 }
def tinyPage : Page :=
  { page0 with st := .open_, bytes := 1024, rows := [(0, { k := [0#8, 0#8], v := [0#8, 0#8], sums := [0], chkA := .good, chkB := .good })] }
def tinyEnt : DirEntry := { entry .moving with count := 1 }
def tinyStage : State :=
  { staging staged0 0 with profs := [(0, tiny)], sess := { Sess.start with dir := [(0, tinyEnt)] } }
def tinyGot : Page := { tinyPage with a := 0, clen := 2 }
/-- The object of a page of one row of zeros. -/
def tinyObj : List Byte :=
  [196#8, 203#8, 52#8, 33#8, 0#8, 0#8, 0#8, 0#8, 0#8, 0#8, 0#8, 0#8, 0#8, 0#8, 0#8, 0#8, 0#8, 0#8, 0#8, 0#8, 0#8, 0#8, 0#8, 0#8,
    0#8, 0#8, 0#8, 0#8, 0#8, 0#8, 0#8, 0#8, 0#8, 0#8, 0#8, 0#8, 0#8, 0#8, 0#8, 0#8, 0#8, 0#8, 0#8, 0#8, 16#8, 64#8, 0#8, 0#8, 0#8,
    0#8, 0#8, 0#8, 0#8, 2#8, 0#8, 32#8, 0#8, 32#8, 0#8, 0#8, 0#8, 1#8, 67#8, 75#8, 32#8, 0#8, 0#8, 0#8, 0#8, 0#8, 0#8, 0#8, 0#8,
    0#8, 0#8, 0#8, 0#8, 0#8, 0#8, 0#8, 0#8, 0#8, 0#8, 0#8, 0#8, 0#8, 0#8, 0#8, 0#8, 0#8, 0#8, 0#8, 0#8, 0#8, 0#8, 0#8, 0#8, 0#8,
    0#8, 0#8, 0#8, 0#8, 0#8, 0#8, 0#8, 0#8, 0#8, 86#8, 75#8, 1#8, 0#8, 0#8, 0#8, 0#8, 0#8, 0#8, 0#8, 0#8, 0#8, 0#8, 0#8, 0#8, 0#8,
    0#8, 0#8, 0#8, 0#8, 0#8, 138#8, 178#8, 40#8, 140#8] ++ List.replicate 1916 0#8
def bytes0 : List Byte := leBytes 32 ((Completion.of cmd0 0 0 0).word 0)

theorem wit_ownReads : ∃ s : State, ∃ src : Nat, ∃ part : Nat, ∃ hdr : BitVec 256, (HomeAsked s 1 src part hdr) :=
  ⟨withE rec0, 4, 0, own (ask 1), by decide +kernel⟩

theorem wit_ownRenews : ∃ s : State, ∃ src : Nat, ∃ part : Nat, ∃ hdr : BitVec 256, (HomeAsked s 2 src part hdr) ∧ 
    let m := OwnMsg.parse hdr
    
    let i := hIdx m.handle
    ((s.ent i).offered = false) ∧ (m.epoch = (s.ent i).epoch) ∧ (m.sender = (s.ent i).owner) :=
  ⟨withE rec0, 4, 0, own (ask 2), by decide +kernel, by decide +kernel, by decide +kernel, by decide +kernel⟩

theorem wit_ownOffers : ∃ s : State, ∃ src : Nat, ∃ part : Nat, ∃ hdr : BitVec 256, (HomeAsked s 3 src part hdr) ∧ 
    let m := OwnMsg.parse hdr
    
    let i := hIdx m.handle
    ((s.ent i).offered = false) ∧ (m.epoch = (s.ent i).epoch) ∧ (m.sender = (s.ent i).owner) ∧ ((s.ent i).epoch ≤ 0xFFFFFFFD) :=
  ⟨withE rec0, 4, 0, own (ask 3), by decide +kernel, by decide +kernel, by decide +kernel, by decide +kernel, by decide +kernel⟩

theorem wit_ownAccepts : ∃ s : State, ∃ src : Nat, ∃ part : Nat, ∃ hdr : BitVec 256, (HomeAsked s 4 src part hdr) ∧ 
    let m := OwnMsg.parse hdr
    
    let i := hIdx m.handle
    
    let e := s.ent i
    (e.offered = true) ∧ (m.epoch = e.epoch) ∧ (m.sender = e.target) ∧ (e.epoch < 0xFFFFFFFF) :=
  ⟨withE offered0, 8, 0, own { ask 4 with sender := 8 }, by decide +kernel, by decide +kernel, by decide +kernel, by decide +kernel, by decide +kernel⟩

theorem wit_ownRecalls : ∃ s : State, ∃ src : Nat, ∃ part : Nat, ∃ hdr : BitVec 256, (HomeAsked s 5 src part hdr) ∧ 
    let m := OwnMsg.parse hdr
    
    let i := hIdx m.handle
    
    let e := s.ent i
    (e.offered = true) ∧ (m.epoch = e.epoch) ∧ (m.sender = e.owner) ∧ (e.epoch < 0xFFFFFFFF) :=
  ⟨withE offered0, 4, 0, own (ask 5), by decide +kernel, by decide +kernel, by decide +kernel, by decide +kernel, by decide +kernel⟩

theorem wit_ownReleases : ∃ s : State, ∃ src : Nat, ∃ part : Nat, ∃ hdr : BitVec 256, (HomeAsked s 7 src part hdr) ∧ 
    let m := OwnMsg.parse hdr
    
    let i := hIdx m.handle
    ((s.ent i).offered = false) ∧ (m.epoch = (s.ent i).epoch) ∧ (m.sender = (s.ent i).owner) ∧ ((s.ent i).epoch < 0xFFFFFFFF) :=
  ⟨withE rec0, 4, 0, own (ask 7), by decide +kernel, by decide +kernel, by decide +kernel, by decide +kernel, by decide +kernel⟩

theorem wit_ownStale :
  (∃ s : State, ∃ src : Nat, ∃ part : Nat, ∃ hdr : BitVec 256, 
    let m := OwnMsg.parse hdr
    
    let i := hIdx m.handle
    ((s.ent i).offered = false) ∧ ((m.epoch ≠ (s.ent i).epoch ∨ m.sender ≠ (s.ent i).owner)) ∧ (HomeAsked s 2 src part hdr))
  ∧ (∃ s : State, ∃ src : Nat, ∃ part : Nat, ∃ hdr : BitVec 256, 
    let m := OwnMsg.parse hdr
    
    let i := hIdx m.handle
    ((s.ent i).offered = false) ∧ ((m.epoch ≠ (s.ent i).epoch ∨ m.sender ≠ (s.ent i).owner)) ∧ (HomeAsked s 3 src part hdr))
  ∧ (∃ s : State, ∃ src : Nat, ∃ part : Nat, ∃ hdr : BitVec 256, 
    let m := OwnMsg.parse hdr
    
    let i := hIdx m.handle
    ((s.ent i).offered = false) ∧ ((m.epoch ≠ (s.ent i).epoch ∨ m.sender ≠ (s.ent i).owner)) ∧ (HomeAsked s 7 src part hdr)) :=
  ⟨⟨withE rec0, 4, 0, own { ask 2 with epoch := 2 }, by decide +kernel, by decide +kernel, by decide +kernel⟩,
   ⟨withE rec0, 4, 0, own { ask 3 with epoch := 2 }, by decide +kernel, by decide +kernel, by decide +kernel⟩,
   ⟨withE rec0, 4, 0, own { ask 7 with epoch := 2 }, by decide +kernel, by decide +kernel, by decide +kernel⟩⟩

theorem wit_ownClaims : ∃ s : State, ∃ src : Nat, ∃ hdr : BitVec 256, 
    let m := OwnMsg.parse hdr
    
    let i := hIdx m.handle
    
    let e := s.ent i
    (ownOk hdr 6 = true) ∧ (m.op = 6) ∧ (s.answered src m = none) ∧ (m.result = 0) ∧ (m.lease = 0) ∧ (m.clm = true) ∧ (m.drop = false) ∧ (e.state ≠ .free) ∧ (e.state ≠ .closed) ∧ (e.gen = hGen m.handle) ∧ (e.part = hPart m.handle) ∧ (s.guestOf i = none) ∧ (s.frozen i = false) ∧ (e.offered = false) ∧ (s.own.lapsed.contains i = true) ∧ (m.epoch = e.epoch) ∧ (e.epoch < 0xFFFFFFFF) ∧ (m.sender ≠ s.self) :=
  ⟨lapsed0, 4, own { ask 6 with clm := true }, by decide +kernel, by decide +kernel, by decide +kernel, by decide +kernel, by decide +kernel, by decide +kernel, by decide +kernel, by decide +kernel, by decide +kernel, by decide +kernel, by decide +kernel, by decide +kernel, by decide +kernel, by decide +kernel, by decide +kernel, by decide +kernel, by decide +kernel, by decide +kernel⟩

theorem wit_ownDiscards : ∃ s : State, ∃ src : Nat, ∃ part : Nat, ∃ hdr : BitVec 256, ∃ n : Nat, ∃ i : Instr, (ownOk hdr n = false) ∧ ((n, i) ∈ [(1, Instr.ownRead src part hdr), (2, .ownRenew src part hdr), (3, .ownOffer src part hdr), (4, .ownAccept src part hdr),
      (5, .ownRecall src part hdr), (6, .ownClaim src part hdr), (7, .ownRelease src part hdr), (8, .ownNote src part hdr)]) :=
  ⟨norm, 4, 0, 0#256, 1, .ownRead 4 0 0#256, by decide +kernel, by decide +kernel⟩

theorem wit_ownNoted : ∃ s : State, ∃ src : Nat, ∃ part : Nat, ∃ i : Nat, ∃ hdr : BitVec 256, ∃ l : LinkRec, 
    let m := OwnMsg.parse hdr
    (ownOk hdr 8 = true) ∧ (s.own.links = [(i, l)]) ∧ (l.kind = 0) ∧ (l.peer = src) ∧ (l.handle = m.handle) ∧ ((s.ent i).part = part) ∧ (s.own.moves.get? i = none) ∧ (s.own.staged.get? i = none) ∧ (m.owner ≠ s.self) ∧ ((s.ent i).epoch ≤ m.epoch) :=
  ⟨{ withE (entry .idle) with own := { Own.start with links := [(0, { kind := 0, peer := 4, handle := h0 })] } }, 4, 0, 0, own (ask 8), { kind := 0, peer := 4, handle := h0 }, by decide +kernel, by decide +kernel, by decide +kernel, by decide +kernel, by decide +kernel, by decide +kernel, by decide +kernel, by decide +kernel, by decide +kernel, by decide +kernel⟩

theorem wit_leaseScan :
  (∃ s : State, ∃ i : Nat, ∃ e : DirEntry, (s.sess.dir = [(i, e)]) ∧ (s.guestOf i = none) ∧ (e.state ≠ .free) ∧ (e.state ≠ .closed) ∧ (e.owner ≠ s.self) ∧ (e.offered = false) ∧ (s.frozen i = false) ∧ (e.olease ≤ s.nowMs (idxHalf i)) ∧ (i ∉ s.own.lapsed))
  ∧ (∃ s : State, ∃ i : Nat, ∃ e : DirEntry, (s.sess.dir = [(i, e)]) ∧ (s.guestOf i = none) ∧ (e.state ≠ .free) ∧ (e.state ≠ .closed) ∧ (e.owner ≠ s.self) ∧ (e.offered = false) ∧ (s.frozen i = false) ∧ (e.olease ≤ s.nowMs (idxHalf i)) ∧ (i ∈ s.own.lapsed)) :=
  ⟨⟨withE { rec0 with olease := 0 }, 0, { rec0 with olease := 0 }, by decide +kernel, by decide +kernel, by decide +kernel, by decide +kernel, by decide +kernel, by decide +kernel, by decide +kernel, by decide +kernel, by decide +kernel⟩,
   ⟨{ withE { rec0 with olease := 0 } with own := { Own.start with lapsed := [0] } }, 0, { rec0 with olease := 0 }, by decide +kernel, by decide +kernel, by decide +kernel, by decide +kernel, by decide +kernel, by decide +kernel, by decide +kernel, by decide +kernel, by decide +kernel⟩⟩

theorem wit_leaseKept : ∃ s : State, ∃ i : Nat, ∃ e : DirEntry, (s.sess.dir = [(i, e)]) ∧ (s.guestOf i = none) ∧ (e.state ≠ .free) ∧ (e.state ≠ .closed) ∧ (e.owner = s.self) ∧ (e.offered = false) :=
  ⟨withE (entry .idle), 0, entry .idle, by decide +kernel, by decide +kernel, by decide +kernel, by decide +kernel, by decide +kernel, by decide +kernel⟩

theorem wit_renewTimer : ∃ s : State, ∃ i : Nat, ∃ l : LinkRec, (s.guestOf i = some l) ∧ (s.own.staged.has i = false) :=
  ⟨{ withE (entry .idle) with own := { Own.start with links := [(0, { kind := 0, peer := 4, handle := h0 })] } }, 0, { kind := 0, peer := 4, handle := h0 }, by decide +kernel, by decide +kernel⟩

theorem wit_replyLate : ∃ s : State, ∃ i : Nat, ∃ r : OwnReq, (s.own.reqs = [r]) ∧ (r.idx = i) ∧ (r.waits = false) ∧ (r.op = 1) :=
  ⟨{ withE rec0 with own := { Own.start with reqs := [ownReq0] } }, 0, ownReq0, by decide +kernel, by decide +kernel, by decide +kernel, by decide +kernel⟩

theorem wit_stagedHold :
  (∃ s : State, ∃ i : Nat, ∃ x : StagedCopy, (s.own.staged.get? i = some x) ∧ (x.complete = true) ∧ (s.nowMs (idxHalf i) < x.doneAt + s.dval 0x3100 9))
  ∧ (∃ s : State, ∃ i : Nat, ∃ x : StagedCopy, (s.own.staged.get? i = some x) ∧ (x.complete = true) ∧ (x.doneAt + s.dval 0x3100 9 ≤ s.nowMs (idxHalf i)) ∧ (x.lapsed = true))
  ∧ (∃ s : State, ∃ i : Nat, ∃ x : StagedCopy, (s.own.staged.get? i = some x) ∧ (x.complete = true) ∧ (x.doneAt + s.dval 0x3100 9 ≤ s.nowMs (idxHalf i)) ∧ (x.lapsed = false)) :=
  ⟨⟨staging { staged0 with complete := true } 0, 0, { staged0 with complete := true }, by decide +kernel, by decide +kernel, by decide +kernel⟩,
   ⟨staging { staged0 with complete := true, lapsed := true } 10000000, 0, { staged0 with complete := true, lapsed := true }, by decide +kernel, by decide +kernel, by decide +kernel, by decide +kernel⟩,
   ⟨staging { staged0 with complete := true } 10000000, 0, { staged0 with complete := true }, by decide +kernel, by decide +kernel, by decide +kernel, by decide +kernel⟩⟩

theorem wit_migrateHalf : ∃ s : State, ∃ r : State, ∃ x : State, ∃ fn : Nat, ∃ sq : Nat, ∃ d : Desc, ∃ p : Nat, ∃ k : Option Nat, 
    let i := hIdx (dHnd d)
    
    let e := s.ent i
    
    let rq : OwnMsg := { s.ownReq i 3 with target := s.self, thalf := otherHalf e.shalf, offered := true }
    (TakenSess s 0x10 fn d true false p) ∧ (s.maint.st ≠ 1) ∧ (s.maint.st ≠ 2) ∧ (dFlag d 24 = true) ∧ (e.state = .idle) ∧ (s.guestOf i = none) ∧ (s.homeDoes i s.self e.part rq = (r, 0)) ∧ (r.reserveHalf i (otherHalf e.shalf) = .ok (x, k)) :=
  ⟨withE (entry .idle), ((withE (entry .idle)).homeDoes 0 0 0 { (withE (entry .idle)).ownReq 0 3 with target := 0, thalf := 1, offered := true }).1, (match ((withE (entry .idle)).homeDoes 0 0 0 { (withE (entry .idle)).ownReq 0 3 with target := 0, thalf := 1, offered := true }).1.reserveHalf 0 1 with | .ok a => a.1 | .error a => a), 0, 0, mk 0x10 h0 (2 ^ 24), 0, none, by decide +kernel, by decide +kernel, by decide +kernel, by decide +kernel, by decide +kernel, by decide +kernel, by decide +kernel, by decide +kernel⟩

theorem wit_migrateRange : ∃ s : State, ∃ fn : Nat, ∃ sq : Nat, ∃ d : Desc, ∃ p : Nat, (Taken s 0x10 fn d p) ∧ (dFlag d 24 = false) ∧ (s.epKind (dFld d 133 128) ≠ 1) :=
  ⟨norm, 0, 0, mk 0x10 0 (at_ 63 128), 0, by decide +kernel, by decide +kernel, by decide +kernel⟩

theorem wit_migrateOthers :
  (∃ s : State, ∃ fn : Nat, ∃ sq : Nat, ∃ d : Desc, ∃ p : Nat, 
    let i := hIdx (dHnd d)
    
    let e := s.ent i
    
    let m : MoveRun :=
      { cmd := s.cmdOf fn sq d false, half := dFlag d 24, target := dFld d 133 128, before := e.state, ttlLeft := 0, offerEpoch := 0
        offered := false, fails := [], guest := 0, started := false, after := dFlag d 25, reason := 0, slot := none }
    (TakenSess s 0x10 fn d true false p) ∧ (s.maint.st ≠ 1) ∧ (s.maint.st ≠ 2) ∧ ((dFlag d 24 = true ∨ (dFld d 133 128 ≠ s.self ∧ s.epKind (dFld d 133 128) = 1))) ∧ (e.state = .idle ∨ e.state = .parked))
  ∧ (∃ s : State, ∃ fn : Nat, ∃ sq : Nat, ∃ d : Desc, ∃ p : Nat, 
    let i := hIdx (dHnd d)
    
    let e := s.ent i
    
    let m : MoveRun :=
      { cmd := s.cmdOf fn sq d false, half := dFlag d 24, target := dFld d 133 128, before := e.state, ttlLeft := 0, offerEpoch := 0
        offered := false, fails := [], guest := 0, started := false, after := dFlag d 25, reason := 0, slot := none }
    (TakenSess s 0x10 fn d true false p) ∧ (s.maint.st ≠ 1) ∧ (s.maint.st ≠ 2) ∧ ((dFlag d 24 = true ∨ (dFld d 133 128 ≠ s.self ∧ s.epKind (dFld d 133 128) = 1))) ∧ (e.state = .live) ∧ (s.own.moves.has i = false) ∧ (dFlag d 25 = true))
  ∧ (∃ s : State, ∃ fn : Nat, ∃ sq : Nat, ∃ d : Desc, ∃ p : Nat, 
    let i := hIdx (dHnd d)
    
    let e := s.ent i
    
    let m : MoveRun :=
      { cmd := s.cmdOf fn sq d false, half := dFlag d 24, target := dFld d 133 128, before := e.state, ttlLeft := 0, offerEpoch := 0
        offered := false, fails := [], guest := 0, started := false, after := dFlag d 25, reason := 0, slot := none }
    (TakenSess s 0x10 fn d true false p) ∧ (s.maint.st ≠ 1) ∧ (s.maint.st ≠ 2) ∧ ((dFlag d 24 = true ∨ (dFld d 133 128 ≠ s.self ∧ s.epKind (dFld d 133 128) = 1))) ∧ ((e.state = .live ∧ s.own.moves.has i = true) ∨ e.state = .developing ∨ e.state = .moving)) :=
  ⟨⟨withE (entry .idle), 0, 0, mk 0x10 h0 (2 ^ 24), 0, by decide +kernel, by decide +kernel, by decide +kernel, by decide +kernel, by decide +kernel⟩,
   ⟨live0, 0, 0, mk 0x10 h0 (2 ^ 24 + 2 ^ 25), 0, by decide +kernel, by decide +kernel, by decide +kernel, by decide +kernel, by decide +kernel, by decide +kernel, by decide +kernel⟩,
   ⟨withE (entry .moving), 0, 0, mk 0x10 h0 (2 ^ 24), 0, by decide +kernel, by decide +kernel, by decide +kernel, by decide +kernel, by decide +kernel⟩⟩

theorem wit_moveEnds : ∃ s : State, ∃ i : Nat, ∃ hdr : BitVec 256, ∃ r : MoveRun, (s.own.moves.get? i = some r) ∧ (r.half = true) ∧ (r.offered = true) ∧ (s.boot.bridge = false) ∧ (s.inHold (idxHalf i) = false) ∧ (s.inHold r.target = false) ∧ (s.guestOf i = none) :=
  ⟨moving0 { moveRun0 with half := true, target := 1 }, 0, 0#256, { moveRun0 with half := true, target := 1 }, by decide +kernel, by decide +kernel, by decide +kernel, by decide +kernel, by decide +kernel, by decide +kernel, by decide +kernel⟩

theorem wit_recalls :
  (∃ s : State, ∃ fn : Nat, ∃ sq : Nat, ∃ d : Desc, ∃ p : Nat, 
    let i := hIdx (dHnd d)
    
    let c := s.cmdOf fn sq d false
    (TakenSess s 0x11 fn d true false p) ∧ ((s.ent i).state ≠ .expired) ∧ (s.own.moves.get? i = none))
  ∧ (∃ s : State, ∃ fn : Nat, ∃ sq : Nat, ∃ d : Desc, ∃ p : Nat, 
    let i := hIdx (dHnd d)
    
    let c := s.cmdOf fn sq d false
    (TakenSess s 0x11 fn d true false p) ∧ ((s.ent i).state ≠ .expired) ∧ ∃ r : MoveRun, (s.own.moves.get? i = some r) ∧ (r.started = false)) :=
  ⟨⟨withE (entry .idle), 0, 0, mk 0x11 h0 0, 0, by decide +kernel, by decide +kernel, by decide +kernel⟩,
   ⟨moving0 { moveRun0 with started := false }, 0, 0, mk 0x11 h0 0, 0, by decide +kernel, by decide +kernel, { moveRun0 with started := false }, by decide +kernel, by decide +kernel⟩⟩

theorem wit_claims :
  (∃ s : State, ∃ fn : Nat, ∃ sq : Nat, ∃ d : Desc, ∃ p : Nat, 
    let i := hIdx (dHnd d)
    
    let e := s.ent i
    
    let c := s.cmdOf fn sq d false
    (TakenSess s 0x12 fn d true (dFlag d 24) p) ∧ (p = 0) ∧ (dFlag d 24 = true) ∧ (e.state ≠ .expired) ∧ (dFld d 165 160 = s.self) ∧ (s.guestOf i = none) ∧ (s.frozen i = false) ∧ (e.offered = false) ∧ (s.own.lapsed.contains i = true) ∧ (dFld d 159 128 = e.epoch) ∧ (e.epoch < 0xFFFFFFFF))
  ∧ (∃ s : State, ∃ fn : Nat, ∃ sq : Nat, ∃ d : Desc, ∃ p : Nat, 
    let i := hIdx (dHnd d)
    
    let e := s.ent i
    
    let c := s.cmdOf fn sq d false
    (TakenSess s 0x12 fn d true (dFlag d 24) p) ∧ (p ≠ 0)) :=
  ⟨⟨lapsed0, 0, 0, mk 0x12 h0 (2 ^ 24 + at_ 3 128), 0, by decide +kernel, by decide +kernel, by decide +kernel, by decide +kernel, by decide +kernel, by decide +kernel, by decide +kernel, by decide +kernel, by decide +kernel, by decide +kernel, by decide +kernel⟩,
   ⟨setV (setV { norm with sess := { Sess.start with dir := [(0, { entry .idle with part := 1 })] } } 0x7080 2 [1#8]) 0x7041 1 [1#8], 1, 0, mk 0x12 (mkHandle 1 0 1) 0, 1, by decide +kernel, by decide +kernel⟩⟩

theorem wit_claimOthers :
  (∃ s : State, ∃ fn : Nat, ∃ sq : Nat, ∃ d : Desc, 
    let i := hIdx (dHnd d)
    
    let c := s.cmdOf fn sq d false
    (TakenSess s 0x12 fn d true false 0) ∧ (dFlag d 24 = false) ∧ ((s.ent i).state ≠ .expired) ∧ ∃ l, (s.guestOf i = some l) ∧ ((∀ x, s.own.staged.get? i = some x → x.complete = true)))
  ∧ (∃ s : State, ∃ fn : Nat, ∃ sq : Nat, ∃ d : Desc, 
    let i := hIdx (dHnd d)
    
    let c := s.cmdOf fn sq d false
    (TakenSess s 0x12 fn d true false 0) ∧ (dFlag d 24 = false) ∧ ((s.ent i).state ≠ .expired) ∧ (s.guestOf i = none) ∧ (s.own.staged.get? i = none) ∧ ((s.ent i).owner = s.self) ∧ (dFld d 165 160 = s.self))
  ∧ (∃ s : State, ∃ fn : Nat, ∃ sq : Nat, ∃ d : Desc, 
    let i := hIdx (dHnd d)
    
    let c := s.cmdOf fn sq d false
    (TakenSess s 0x12 fn d true false 0) ∧ (dFlag d 24 = false) ∧ ((s.ent i).state ≠ .expired) ∧ ∃ x, (s.own.staged.get? i = some x) ∧ (x.complete = false)) :=
  ⟨⟨staging { staged0 with complete := true } 0, 0, 0, mk 0x12 h0 0, by decide +kernel, by decide +kernel, by decide +kernel, { kind := 0, peer := 4, handle := 7 }, by decide +kernel, by (intro x hx; have h : (staging { staged0 with complete := true } 0).own.staged.get? (hIdx (dHnd (mk 0x12 h0 0))) = some { staged0 with complete := true } := (by decide +kernel); rw [h] at hx; cases hx; rfl)⟩,
   ⟨withE (entry .idle), 0, 0, mk 0x12 h0 0, by decide +kernel, by decide +kernel, by decide +kernel, by decide +kernel, by decide +kernel, by decide +kernel, by decide +kernel⟩,
   ⟨staging staged0 0, 0, 0, mk 0x12 h0 0, by decide +kernel, by decide +kernel, by decide +kernel, staged0, by decide +kernel, by decide +kernel⟩⟩

theorem wit_whereReads : ∃ s : State, ∃ fn : Nat, ∃ sq : Nat, ∃ d : Desc, ∃ p : Nat, 
    let i := hIdx (dHnd d)
    
    let e := s.ent i
    
    let c := s.cmdOf fn sq d false
    (TakenSess s 0x13 fn d true true p) ∧ (e.state ≠ .expired) :=
  ⟨withE rec0, 0, 0, mk 0x13 h0 0, 0, by decide +kernel, by decide +kernel⟩

theorem wit_discards :
  (∃ s : State, ∃ fn : Nat, ∃ sq : Nat, ∃ d : Desc, 
    let i := hIdx (dHnd d)
    
    let c := s.cmdOf fn sq d false
    (TakenSess s 0x14 fn d true false 0) ∧ ((s.ent i).state ≠ .expired) ∧ (s.own.staged.has i = true) ∧ (s.guestOf i = none) ∧ ((s.ent i).owner = s.self))
  ∧ (∃ s : State, ∃ fn : Nat, ∃ sq : Nat, ∃ d : Desc, 
    let i := hIdx (dHnd d)
    
    let c := s.cmdOf fn sq d false
    (TakenSess s 0x14 fn d true false 0) ∧ ((s.ent i).state ≠ .expired) ∧ ∃ l, (s.own.staged.has i = true) ∧ (s.guestOf i = some l))
  ∧ (∃ s : State, ∃ fn : Nat, ∃ sq : Nat, ∃ d : Desc, 
    let i := hIdx (dHnd d)
    
    let c := s.cmdOf fn sq d false
    (TakenSess s 0x14 fn d true false 0) ∧ ((s.ent i).state ≠ .expired) ∧ (s.own.staged.has i = false)) :=
  ⟨⟨{ withE (entry .moving) with own := { Own.start with staged := [(0, staged0)] } }, 0, 0, mk 0x14 h0 0, by decide +kernel, by decide +kernel, by decide +kernel, by decide +kernel, by decide +kernel⟩,
   ⟨staging staged0 0, 0, 0, mk 0x14 h0 0, by decide +kernel, by decide +kernel, { kind := 0, peer := 4, handle := 7 }, by decide +kernel, by decide +kernel⟩,
   ⟨withE (entry .idle), 0, 0, mk 0x14 h0 0, by decide +kernel, by decide +kernel, by decide +kernel⟩⟩

theorem wit_moveFieldsStages : ∃ s : State, ∃ src : Nat, ∃ part : Nat, ∃ crc : Nat, ∃ i : Nat, ∃ k : Nat, ∃ hdr : BitVec 256, ∃ data : List Byte, ∃ pr : Profile, 
    let h := bits hdr 255 192
    
    let e := DirEntry.ofWord (leAt data 0 64)
    
    let hf := s.homeFor 2
    
    let kib := arrivalKib pr e.count
    (moveOk hdr 1 = true) ∧ (data.length = 72) ∧ (verify data crc ≠ .failed) ∧ (entryWordOk (leAt data 0 64) = true) ∧ (hPart h = part) ∧ ((s.own.staged.find? (fun x => x.2.source == src && x.2.srcHandle == h)) = none) ∧ (s.homeTarget src h = none) ∧ (s.profs.get? e.profile = some pr) ∧ (s.freeIndex hf = some i) ∧ (s.noRoom part hf kib = none) ∧ ((if e.sv then s.takeSlot part hf else .ok 0) = .ok k) :=
  ⟨{ norm with profs := [(0, prof0)] }, 4, 0, crc32c fields0, 0, 0, mh 1 0 0 0 0, fields0, prof0, by decide +kernel, by decide +kernel, by simp [verify], by decide +kernel, by decide +kernel, by decide +kernel, by decide +kernel, by decide +kernel, by decide +kernel, by decide +kernel, by decide +kernel⟩

set_option maxRecDepth 20000 in
theorem wit_moveObjects :
  (∃ s : State, ∃ src : Nat, ∃ part : Nat, ∃ crc : Nat, ∃ hdr : BitVec 256, ∃ data : List Byte, ∃ x : StagedCopy, ∃ pr : Profile, 
    let i := hIdx (bits hdr 191 128)
    
    let l := bits hdr 119 112
    
    let q := bits hdr 111 92
    
    let cnt := (s.ent i).count
    
    let asked := x.asks.getD (2 ^ 20 * l + q) 0
    (moveOk hdr 2 = true) ∧ ((bits hdr 91 90 = 1 ∨ bits hdr 91 90 = 2)) ∧ (s.own.staged.get? i = some x) ∧ (s.profOf i = some pr) ∧ (s.names i (bits hdr 191 128) part = true) ∧ (x.source = src) ∧ (x.complete = false) ∧ (l < pr.layers) ∧ (q < cdiv cnt 16) ∧ (s.pidAt i l q = none) ∧ (verify data crc = .failed) ∧ (asked < 3))
  ∧ (∃ s : State, ∃ src : Nat, ∃ part : Nat, ∃ crc : Nat, ∃ hdr : BitVec 256, ∃ data : List Byte, ∃ x : StagedCopy, ∃ pr : Profile, 
    let i := hIdx (bits hdr 191 128)
    
    let l := bits hdr 119 112
    
    let q := bits hdr 111 92
    
    let cnt := (s.ent i).count
    
    let asked := x.asks.getD (2 ^ 20 * l + q) 0
    (moveOk hdr 2 = true) ∧ ((bits hdr 91 90 = 1 ∨ bits hdr 91 90 = 2)) ∧ (s.own.staged.get? i = some x) ∧ (s.profOf i = some pr) ∧ (s.names i (bits hdr 191 128) part = true) ∧ (x.source = src) ∧ (x.complete = false) ∧ (l < pr.layers) ∧ (q < cdiv cnt 16) ∧ (s.pidAt i l q = none) ∧ (verify data crc = .failed) ∧ (3 ≤ asked))
  ∧ (∃ s : State, ∃ src : Nat, ∃ part : Nat, ∃ crc : Nat, ∃ hdr : BitVec 256, ∃ data : List Byte, ∃ x : StagedCopy, ∃ pr : Profile, 
    let i := hIdx (bits hdr 191 128)
    
    let l := bits hdr 119 112
    
    let q := bits hdr 111 92
    
    let cnt := (s.ent i).count
    
    let asked := x.asks.getD (2 ^ 20 * l + q) 0
    (moveOk hdr 2 = true) ∧ ((bits hdr 91 90 = 1 ∨ bits hdr 91 90 = 2)) ∧ (s.own.staged.get? i = some x) ∧ (s.profOf i = some pr) ∧ (s.names i (bits hdr 191 128) part = true) ∧ (x.source = src) ∧ (x.complete = false) ∧ (l < pr.layers) ∧ (q < cdiv cnt 16) ∧ (s.pidAt i l q = none) ∧ ∃ p : Page, ∃ s1 : State, (verify data crc ≠ .failed) ∧ (objectPage pr (s.ent i) data l q (bits hdr 91 90) (if q + 1 = cdiv cnt 16 ∧ cnt % 16 ≠ 0 then cnt % 16 else 16) = some p) ∧ (s.stagePage i l q p data = some s1)) :=
  ⟨⟨staging staged0 0, 4, 0, 1, mh 2 0 0 2 0, [1#8], staged0, prof0, by decide +kernel, by decide +kernel, by decide +kernel, by decide +kernel, by decide +kernel, by decide +kernel, by decide +kernel, by decide +kernel, by decide +kernel, by decide +kernel, by decide +kernel, by decide +kernel⟩,
   ⟨staging { staged0 with asks := [(0, 3)] } 0, 4, 0, 1, mh 2 0 0 2 0, [1#8], { staged0 with asks := [(0, 3)] }, prof0, by decide +kernel, by decide +kernel, by decide +kernel, by decide +kernel, by decide +kernel, by decide +kernel, by decide +kernel, by decide +kernel, by decide +kernel, by decide +kernel, by decide +kernel, by decide +kernel⟩,
   ⟨tinyStage, 4, 0, crc32c tinyObj, mh 2 0 0 1 0, tinyObj, staged0, tiny, by decide +kernel, by decide +kernel, by decide +kernel, by decide +kernel, by decide +kernel, by decide +kernel, by decide +kernel, by decide +kernel, by decide +kernel, by decide +kernel, tinyGot, (tinyStage.stagePage 0 0 0 tinyGot tinyObj).getD norm, by simp [verify], by (simp only [objectPage, decodeObject, pageOf, rowAt, verify, crc32c_go]; decide +kernel), by decide +kernel⟩⟩

theorem wit_moveResends :
  (∃ s : State, ∃ src : Nat, ∃ part : Nat, ∃ hdr : BitVec 256, ∃ r : MoveRun, (MoveAsked s 3 src part hdr r) ∧ 
    let i := hIdx (bits hdr 255 192)
    
    let k := 2 ^ 20 * bits hdr 119 112 + bits hdr 111 92
    
    let r1 : MoveRun := { r with fails := r.fails.put k (r.fails.getD k 0 + 1) }
    (r.fails.getD k 0 < 2))
  ∧ (∃ s : State, ∃ src : Nat, ∃ part : Nat, ∃ hdr : BitVec 256, ∃ r : MoveRun, (MoveAsked s 3 src part hdr r) ∧ 
    let i := hIdx (bits hdr 255 192)
    
    let k := 2 ^ 20 * bits hdr 119 112 + bits hdr 111 92
    
    let r1 : MoveRun := { r with fails := r.fails.put k (r.fails.getD k 0 + 1) }
    (2 ≤ r.fails.getD k 0)) :=
  ⟨⟨moving0 moveRun0, 4, 0, mh 3 0 0 0 0, moveRun0, by decide +kernel, by decide +kernel⟩,
   ⟨moving0 { moveRun0 with fails := [(0, 3)] }, 4, 0, mh 3 0 0 0 0, { moveRun0 with fails := [(0, 3)] }, by decide +kernel, by decide +kernel⟩⟩

theorem wit_moveRefused : ∃ s : State, ∃ src : Nat, ∃ part : Nat, ∃ hdr : BitVec 256, ∃ r : MoveRun, (MoveAsked s 4 src part hdr r) :=
  ⟨moving0 moveRun0, 4, 0, mh 4 0 0 0 0, moveRun0, by decide +kernel⟩

theorem wit_moveGuests : ∃ s : State, ∃ src : Nat, ∃ part : Nat, ∃ hdr : BitVec 256, ∃ r : MoveRun, (MoveAsked s 5 src part hdr r) ∧ (r.guest = 0) :=
  ⟨moving0 moveRun0, 4, 0, mh 5 0 0 0 0, moveRun0, by decide +kernel, by decide +kernel⟩

theorem wit_moveRelays :
  (∃ s : State, ∃ src : Nat, ∃ part : Nat, ∃ crc : Nat, ∃ ring : Nat, ∃ hdr : BitVec 256, ∃ data : List Byte, ∃ c : Cmd, 
    let h := bits hdr 255 192
    
    let q := bits hdr 85 54
    (moveOk hdr 6 = true) ∧ (verify data crc ≠ .failed) ∧ (relayOk data = true) ∧ (data.length = 32) ∧ (s.own.fwd.get? h = some (c, ring)) ∧ (hPart h = part) ∧ (q = s.own.taken.getD h 0 + 1))
  ∧ (∃ s : State, ∃ src : Nat, ∃ part : Nat, ∃ crc : Nat, ∃ ring : Nat, ∃ hdr : BitVec 256, ∃ data : List Byte, ∃ c : Cmd, 
    let h := bits hdr 255 192
    
    let q := bits hdr 85 54
    (moveOk hdr 6 = true) ∧ (verify data crc ≠ .failed) ∧ (relayOk data = true) ∧ (data.length = 32) ∧ (s.own.fwd.get? h = some (c, ring)) ∧ (hPart h = part) ∧ (q ≤ s.own.taken.getD h 0)) :=
  ⟨⟨fwd0, 4, 0, crc32c bytes0, 0, mh 6 0 0 0 3, bytes0, cmd0, by decide +kernel, by simp [verify], by decide +kernel, by decide +kernel, by decide +kernel, by decide +kernel, by decide +kernel⟩,
   ⟨fwd0, 4, 0, crc32c bytes0, 0, mh 6 0 0 0 2, bytes0, cmd0, by decide +kernel, by simp [verify], by decide +kernel, by decide +kernel, by decide +kernel, by decide +kernel, by decide +kernel⟩⟩

theorem wit_relayAcked :
  (∃ s : State, ∃ src : Nat, ∃ part : Nat, ∃ hdr : BitVec 256, (moveOk hdr 7 = true))
  ∧ (∃ s : State, ∃ src : Nat, ∃ part : Nat, ∃ hdr : BitVec 256, ∃ h : Nat, ∃ q : Nat, ∃ r : Relay, (s.own.relays.find? (fun r => r.peer == src && r.handle == h && r.seq == q) = some r)) :=
  ⟨⟨norm, 4, 0, mh 7 0 0 0 1, by decide +kernel⟩,
   ⟨{ norm with own := { Own.start with relays := [relay0] } }, 4, 0, 0#256, 7, 1, relay0, by decide +kernel⟩⟩

theorem wit_moveDiscards : ∃ s : State, ∃ src : Nat, ∃ part : Nat, ∃ crc : Nat, ∃ hdr : BitVec 256, ∃ data : List Byte, ∃ n : Nat, ∃ i : Instr, (moveOk hdr n = false) ∧ ((n, i) ∈ [(1, Instr.moveFields src part hdr data crc), (2, .moveObject src part hdr data crc), (3, .moveResend src part hdr),
      (4, .moveRefuse src part hdr), (5, .moveGuest src part hdr), (6, .moveRelay src part hdr data crc), (7, .moveRelayAck src part hdr)]) :=
  ⟨norm, 4, 0, 0, 0#256, [], 7, .moveRelayAck 4 0 0#256, by decide +kernel, by decide +kernel⟩

end W04

/-! ### Rounds -/

namespace W05

def inReq0 : InReq :=
  { slot := 0, idx := 0, pos := 0, ntok := 1, sel := true, lc := false, part := 0, ids := [0], mark := .data, arrived := false
    outSent := false, sender := 0, q := [], splits := [], token := none, dead := false, reserve := 0, grown := 0, opened := []
    inputDone := true, maskHost := false, selHost := false }
def step0 : Step :=
  { seq := 5, t0 := 0, layer := 0, selPhase := false, roundOpen := true, nout := 0, nmark := 0, reqs := [inReq0], opener := 4, ab := false
    restored := false }
def prof1 : Profile := { prof0 with layers := 2, dk := 1, dv := 1 }
def prof2 : Profile := { prof0 with layers := 2 }
/-- Lane 0 enabled with profile 0 for peer 4, on West as given. -/
def lane0 (l : LaneHalf) : State :=
  let s := setV (setV (setV live0 0x2210 1 [1#8]) 0x2210 3 (leBytes 8 16)) 0x2210 2 [0#8]
  { s with profs := [(0, prof2)], sched := { Sched.start with lanes := [(0, l)] } }
def inStep (st : Step) : State := lane0 { LaneHalf.blank with step := some st, timer := true }
def open_ (seq layer kind prof n : Nat) : BitVec 256 :=
  BitVec.ofNat 256 (withPar (at_ seq 192 + at_ layer 184 + at_ kind 182 + at_ prof 173 + at_ n 179) 4 3 0)
def qkv0 (drop : Nat) : BitVec 128 := BitVec.ofNat 128 (withPar (at_ 5 64 + at_ 1 30 + at_ drop 29) 2 1 0)
def qkvData : List Byte := List.replicate 192 0#8
def selStep : Step := { step0 with selPhase := true, layer := 1, roundOpen := false }
def sel0 : BitVec 192 := BitVec.ofNat 192 (withPar (at_ 5 128 + at_ 0 110 + at_ 2 106 + at_ 1 105 + at_ 2 63) 3 2 0)
def selData : List Byte := leBytes 4 0x3F800000 ++ leBytes 4 0
def exch0 : Exch := { xid := 1, func := 3, part := 0, half := 0, slot := 0, handle := h0, seq := 5, n := 0, kc := 0, payload := [], sent := true, ref := 0 }
def bath0 (l : Nat) (q c : Bool) : Bath := { level := l, mask := 0xFF, quiet := q, ckpt := c, held := [] }
def bathed (b : Bath) : State := { norm with sched := { Sched.start with bath := b } }
def reqS (m : SplitState) : InReq := { inReq0 with ntok := 0, arrived := true, splits := [(0, m)] }
def split0 : State :=
  let s := inStep { step0 with reqs := [reqS (.running 0)] }
  { s with profs := [(0, prof1)], sched := { s.sched with cores := [(0, { Core.blank with run := some (.split 0 0 0 0 0) })] } }
def confid : State := setV (setV (setV norm 0x7000 2 [1#8]) 0x7041 1 [1#8]) 0x2241 1 (leBytes 8 1)
def op1 : SpdmSess := { via := .doe 0, open_ := true, principal := 1, asked := false, chain := [], last := 0, keyGen := 0 }

theorem wit_laneWrites :
  (∃ s : State, ∃ o : Origin, ∃ n : Nat, ∃ v : List Byte, (n < 8) ∧ (Writable s o (0x2210 + n) 1 v) ∧ (leNat v = 1) ∧ (s.laneF n 1 ≠ 1) ∧ (s.laneF n 3 ≠ 0) ∧ ((s.laneProf n).isSome = true))
  ∧ (∃ s : State, ∃ o : Origin, ∃ n : Nat, ∃ v : List Byte, (n < 8) ∧ (Writable s o (0x2210 + n) 1 v) ∧ (leNat v ≠ 1) ∧ (s.laneF n 1 ≠ 0))
  ∧ (∃ s : State, ∃ o : Origin, ∃ n : Nat, ∃ v : List Byte, (n < 8) ∧ (Checked s o (0x2210 + n) 1 v) ∧ (leNat v = 1) ∧ (s.laneF n 1 ≠ 1) ∧ ((s.laneF n 3 = 0 ∨ s.laneProf n = none))) :=
  ⟨⟨{ setV norm 0x2210 3 (leBytes 8 16) with profs := [(0, prof2)] }, (.mailbox 0), 0, [1#8], by decide +kernel, by decide +kernel, by decide +kernel, by decide +kernel, by decide +kernel, by decide +kernel⟩,
   ⟨lane0 LaneHalf.blank, (.mailbox 0), 0, [0#8], by decide +kernel, by decide +kernel, by decide +kernel, by decide +kernel⟩,
   ⟨norm, (.mailbox 0), 0, [1#8], by decide +kernel, by decide +kernel, by decide +kernel, by decide +kernel, by decide +kernel⟩⟩

theorem wit_openFirst : ∃ s : State, ∃ h : Nat, ∃ src : Nat, ∃ n : Nat, ∃ t : Nat, ∃ hdr : BitVec 256, (h < 2) ∧ 
    let x := hdr.toNat
    
    let s1 := (s.at t).unlatch 0x2046 (256 * n + 1)
    (OpenTaken (s.at t) h src n hdr) ∧ (s1.laneF n 1 = 1) ∧ (bitsN x 178 173 = s1.laneF n 2) ∧ (bitsN x 183 182 = 0) ∧ (bitsN x 191 184 = 0) ∧ (s1.stepOf h n = none) ∧ (s1.lanesHeld h = false) ∧ ((∀ y, (s1.laneH h n).last = some y → y < bitsN x 255 192)) :=
  ⟨lane0 LaneHalf.blank, 0, 4, 0, 0, open_ 5 0 0 0 0, by decide +kernel, by decide +kernel, by decide +kernel, by decide +kernel, by decide +kernel, by decide +kernel, by decide +kernel, by decide +kernel, by (intro y hy; cases hy)⟩

theorem wit_openNext : ∃ s : State, ∃ h : Nat, ∃ src : Nat, ∃ n : Nat, ∃ t : Nat, ∃ hdr : BitVec 256, ∃ st : Step, (h < 2) ∧ 
    let x := hdr.toNat
    
    let s1 := (s.at t).unlatch 0x2046 (256 * n + 1)
    (OpenTaken (s.at t) h src n hdr) ∧ (s1.laneF n 1 = 1) ∧ (bitsN x 178 173 = s1.laneF n 2) ∧ (bitsN x 183 182 = 0) ∧ ((s1.laneH h n).step = some st) ∧ (bitsN x 255 192 = st.seq) ∧ (bitsN x 191 184 = st.layer + 1) ∧ (st.layer + 1 < s1.laneLayers n) ∧ (st.selPhase = false) ∧ (st.roundOpen = false) ∧ ((s1.laneH h n).held = none) ∧ (s1.roundHeld n = false) :=
  ⟨inStep { step0 with roundOpen := false }, 0, 4, 0, 0, open_ 5 1 0 0 0, { step0 with roundOpen := false }, by decide +kernel, by decide +kernel, by decide +kernel, by decide +kernel, by decide +kernel, by decide +kernel, by decide +kernel, by decide +kernel, by decide +kernel, by decide +kernel, by decide +kernel, by decide +kernel, by decide +kernel⟩

theorem wit_openHeld : ∃ s : State, ∃ h : Nat, ∃ src : Nat, ∃ n : Nat, ∃ t : Nat, ∃ hdr : BitVec 256, ∃ st : Step, (h < 2) ∧ 
    let x := hdr.toNat
    
    let s1 := (s.at t).unlatch 0x2046 (256 * n + 1)
    (OpenTaken (s.at t) h src n hdr) ∧ (s1.laneF n 1 = 1) ∧ (bitsN x 178 173 = s1.laneF n 2) ∧ (bitsN x 183 182 = 0) ∧ ((s1.laneH h n).step = some st) ∧ (bitsN x 255 192 = st.seq) ∧ (bitsN x 191 184 = st.layer + 1) ∧ (st.layer + 1 < s1.laneLayers n) ∧ (st.selPhase = false) ∧ (st.roundOpen = true) ∧ ((s1.laneH h n).held = none) :=
  ⟨inStep step0, 0, 4, 0, 0, open_ 5 1 0 0 0, step0, by decide +kernel, by decide +kernel, by decide +kernel, by decide +kernel, by decide +kernel, by decide +kernel, by decide +kernel, by decide +kernel, by decide +kernel, by decide +kernel, by decide +kernel, by decide +kernel⟩

theorem wit_openRefused : ∃ s : State, ∃ h : Nat, ∃ src : Nat, ∃ n : Nat, ∃ t : Nat, ∃ hdr : BitVec 256, (h < 2) ∧ 
    let x := hdr.toNat
    
    let s1 := (s.at t).unlatch 0x2046 (256 * n + 1)
    (OpenTaken (s.at t) h src n hdr) ∧ (s1.laneF n 1 = 1) ∧ (bitsN x 178 173 ≠ s1.laneF n 2) :=
  ⟨lane0 LaneHalf.blank, 0, 4, 0, 0, open_ 5 0 0 1 0, by decide +kernel, by decide +kernel, by decide +kernel, by decide +kernel⟩

theorem wit_openBad : ∃ s : State, ∃ h : Nat, ∃ src : Nat, ∃ t : Nat, ∃ hdr : BitVec 256, (h < 2) ∧ (openOk hdr = false) :=
  ⟨norm, 0, 4, 0, 1#256, by decide +kernel, by decide +kernel⟩

theorem wit_openAbandons : ∃ s : State, ∃ h : Nat, ∃ src : Nat, ∃ n : Nat, ∃ t : Nat, ∃ hdr : BitVec 256, ∃ st : Step, (h < 2) ∧ 
    let x := hdr.toNat
    
    let s1 := (s.at t).unlatch 0x2046 (256 * n + 1)
    (OpenTaken (s.at t) h src n hdr) ∧ (s1.laneF n 1 = 1) ∧ (bitsN x 178 173 = s1.laneF n 2) ∧ (bitsN x 183 182 = 2) ∧ ((s1.laneH h n).step = some st) ∧ (bitsN x 255 192 = st.seq) :=
  ⟨inStep step0, 0, 4, 0, 0, open_ 5 0 2 0 0, step0, by decide +kernel, by decide +kernel, by decide +kernel, by decide +kernel, by decide +kernel, by decide +kernel, by decide +kernel⟩

theorem wit_qkvStores : ∃ s : State, ∃ link : Nat, ∃ src : Nat, ∃ n : Nat, ∃ t : Nat, ∃ crc : Nat, ∃ hdr : BitVec 128, ∃ data : List Byte, ∃ st : Step, ∃ r : InReq, ∃ p : Profile, 
    let x := hdr.toNat
    
    let k := bitsN x 55 42
    
    let h := k / 8192
    
    let s0 := s.at t
    
    let z := p.qkvBytes r.ntok
    
    let qb := data.take z.1
    
    let kb := slice data z.1 z.2.1
    
    let vb := slice data (z.1 + z.2.1) z.2.2
    (link < 96) ∧ (n < 8) ∧ (linkHalf link = h) ∧ (QkvTaken s0 h src n k hdr st r p) ∧ (bitN x 29 = false) ∧ (data.length = z.1 + z.2.1 + z.2.2) ∧ (verify data crc = .good) ∧ (allFinite p.qfmt qb = true) ∧ (allFinite p.kvin kb = true) ∧ (allFinite p.kvin vb = true) :=
  ⟨inStep step0, 0, 4, 0, 0, crc32c qkvData, qkv0 0, qkvData, step0, inReq0, prof2, by decide +kernel, by decide +kernel, by decide +kernel, by decide +kernel, by decide +kernel, by decide +kernel, by simp [verify], by decide +kernel, by decide +kernel, by decide +kernel⟩

theorem wit_qkvDrops : ∃ s : State, ∃ link : Nat, ∃ src : Nat, ∃ n : Nat, ∃ t : Nat, ∃ crc : Nat, ∃ hdr : BitVec 128, ∃ st : Step, ∃ r : InReq, ∃ p : Profile, 
    let x := hdr.toNat
    
    let k := bitsN x 55 42
    
    let h := k / 8192
    
    let s0 := s.at t
    (link < 96) ∧ (n < 8) ∧ (linkHalf link = h) ∧ (QkvTaken s0 h src n k hdr st r p) ∧ (bitN x 29 = true) :=
  ⟨inStep step0, 0, 4, 0, 0, 0, qkv0 1, step0, inReq0, prof2, by decide +kernel, by decide +kernel, by decide +kernel, by decide +kernel, by decide +kernel⟩

theorem wit_roundExpires :
  (∃ s : State, ∃ h : Nat, ∃ n : Nat, ∃ t : Nat, ∃ st : Step, (h < 2) ∧ (n < 8) ∧ 
    let s0 := s.at t
    
    let l := s0.laneH h n
    (l.step = some st) ∧ (l.timer = true) ∧ (s0.timerHeld h n = false) ∧ (st.roundOpen = true))
  ∧ (∃ s : State, ∃ h : Nat, ∃ n : Nat, ∃ t : Nat, ∃ st : Step, (h < 2) ∧ (n < 8) ∧ 
    let s0 := s.at t
    
    let l := s0.laneH h n
    (l.step = some st) ∧ (l.timer = true) ∧ (s0.timerHeld h n = false) ∧ (st.roundOpen = false))
  ∧ (∃ s : State, ∃ h : Nat, ∃ n : Nat, ∃ t : Nat, ∃ st : Step, (h < 2) ∧ (n < 8) ∧ 
    let s0 := s.at t
    
    let l := s0.laneH h n
    (l.step = some st) ∧ (l.timer = false ∨ s0.timerHeld h n = true)) :=
  ⟨⟨inStep step0, 0, 0, 0, step0, by decide +kernel, by decide +kernel, by decide +kernel, by decide +kernel, by decide +kernel, by decide +kernel⟩,
   ⟨inStep { step0 with roundOpen := false }, 0, 0, 0, { step0 with roundOpen := false }, by decide +kernel, by decide +kernel, by decide +kernel, by decide +kernel, by decide +kernel, by decide +kernel⟩,
   ⟨lane0 { LaneHalf.blank with step := some step0 }, 0, 0, 0, step0, by decide +kernel, by decide +kernel, by decide +kernel, by decide +kernel⟩⟩

theorem wit_splitGood : ∃ s : State, ∃ s1 : State, ∃ c : Nat, ∃ t : Nat, ∃ h : Nat, ∃ n : Nat, ∃ k : Nat, ∃ layer : Nat, ∃ j : Nat, ∃ st : Step, ∃ r : InReq, ∃ p : Profile, ∃ v : Nat × Nat, 
    let s0 := s.at t
    
    let w : SplitWork := { idx := r.idx, layer, j, pos := r.pos, ntok := r.ntok }
    (c < 256) ∧ ((s0.core c).run = some (.split h n k layer j)) ∧ (s0.stepOf h n = some st) ∧ (s0.laneProf n = some p) ∧ (st.req k = some r) ∧ (r.mark = .data) ∧ (st.layer = layer) ∧ (r.splits.get? j = some (.running c)) ∧ (s0.readSplit p w = (s1, none)) ∧ 
    let s2 := (s1.oddCodes p w).count 0x8230 1 1
    
    let runs := s2.runSplit p w r.q 0
    (s2.judge p w runs 0 = (v.1, v.2, 0)) :=
  ⟨split0, (split0.readSplit prof1 { idx := 0, layer := 0, j := 0, pos := 0, ntok := 0 }).1, 0, 0, 0, 0, 0, 0, 0, { step0 with reqs := [reqS (.running 0)] }, reqS (.running 0), prof1, (0, 0), by decide +kernel, by decide +kernel, by decide +kernel, by decide +kernel, by decide +kernel, by decide +kernel, by decide +kernel, by decide +kernel, by decide +kernel, by decide +kernel⟩

theorem wit_splitNone : ∃ s : State, ∃ c : Nat, ∃ t : Nat, ∃ x : Nat, (c < 256) ∧ (((s.at t).core c).run = none) :=
  ⟨norm, 255, 0, 0, by decide +kernel, by decide +kernel⟩

theorem wit_selectKeeps : ∃ s : State, ∃ link : Nat, ∃ src : Nat, ∃ n : Nat, ∃ crc : Nat, ∃ hdr : BitVec 192, ∃ data : List Byte, ∃ st : Step, ∃ r : InReq, ∃ p : Profile, 
    let x := hdr.toNat
    
    let k := bitsN x 127 114
    
    let h := k / 8192
    
    let full := bitN x 105
    
    let m := bitsN x 83 63
    
    let a := shardOf full (bitsN x 104 84) m data
    (link < 96) ∧ (n < 8) ∧ (linkHalf link = h) ∧ (s.stepOf h n = some st) ∧ (s.laneProf n = some p) ∧ (st.req k = some r) ∧ (parOk x 3 2 0 = true) ∧ (bitsN x 62 3 = 0) ∧ (s.inMask n src = true) ∧ (data.length = (if full then 4 * m else 8 + 8 * m)) ∧ (verify data crc = .good) ∧ (bitsN x 191 128 = st.seq) ∧ (st.selPhase = true) ∧ (r.sel = true) ∧ (r.mark = .data) ∧ (r.dead = false) ∧ (r.token = none) ∧ (0 < m) ∧ ((full = true → bitsN x 104 84 + m ≤ p.vocab)) ∧ (s.sess.selIn.get? k = none) ∧ (bitsN x 113 110 ≤ bitsN x 109 106) ∧ (0 < bitsN x 109 106) ∧ (a.bad full p.vocab = false) :=
  ⟨inStep selStep, 0, 4, 0, crc32c selData, sel0, selData, selStep, inReq0, prof2, by decide +kernel, by decide +kernel, by decide +kernel, by decide +kernel, by decide +kernel, by decide +kernel, by decide +kernel, by decide +kernel, by decide +kernel, by decide +kernel, by decide +kernel, by decide +kernel, by decide +kernel, by decide +kernel, by decide +kernel, by decide +kernel, by decide +kernel, by decide +kernel, by decide +kernel, by decide +kernel, by decide +kernel, by decide +kernel, by decide +kernel⟩

theorem wit_assistLate : ∃ s : State, ∃ h : Nat, ∃ n : Nat, ∃ st : Step, ∃ r : InReq, (h < 2) ∧ (n < 8) ∧ (s.stepOf h n = some st) ∧ (st.reqs.filter (fun a => !st.fixed (s.laneLayers n) a) = [r]) ∧ ((s.sess.exs.any (fun x => x.slot == r.slot && (x.func == 3 || x.func == 4))) = true) :=
  ⟨{ inStep selStep with sess := { live0.sess with exs := [exch0] } }, 0, 0, selStep, inReq0, by decide +kernel, by decide +kernel, by decide +kernel, by decide +kernel, by decide +kernel⟩

theorem wit_stepCommits :
  (∃ s : State, ∃ h : Nat, ∃ n : Nat, ∃ t : Nat, (h < 2) ∧ (n < 8) ∧ ((s.at t).stepReady h n = true) ∧ ((s.at t).roundHeld n = false))
  ∧ (∃ s : State, ∃ h : Nat, ∃ n : Nat, ∃ t : Nat, (h < 2) ∧ (n < 8) ∧ ((s.at t).stepReady h n = false ∨ (s.at t).roundHeld n = true)) :=
  ⟨⟨inStep { selStep with reqs := [{ inReq0 with token := some 3 }] }, 0, 0, 0, by decide +kernel, by decide +kernel, by decide +kernel, by decide +kernel⟩,
   ⟨inStep step0, 0, 0, 0, by decide +kernel, by decide +kernel, by decide +kernel⟩⟩

theorem wit_bathWrites :
  (∃ s : State, ∃ o : Origin, ∃ v : List Byte, 
    let b := s.sched.bath
    
    let s1 := s.dset 0x2200 3 v
    (Writable s o 0x2200 3 v) ∧ (s.dval 0x2200 4 ≠ 0) ∧ (b.ckpt = false) ∧ (s.maint.st ≠ 1) ∧ (s.maint.st ≠ 2) ∧ (b.level = 0) ∧ ((leNat v = 1 ∨ leNat v = 2)))
  ∧ (∃ s : State, ∃ o : Origin, ∃ v : List Byte, 
    let b := s.sched.bath
    
    let s1 := s.dset 0x2200 3 v
    (Writable s o 0x2200 3 v) ∧ (s.dval 0x2200 4 ≠ 0) ∧ (b.ckpt = false) ∧ (s.maint.st ≠ 1) ∧ (s.maint.st ≠ 2) ∧ (b.level = 1) ∧ (leNat v = 2))
  ∧ (∃ s : State, ∃ o : Origin, ∃ v : List Byte, 
    let b := s.sched.bath
    
    let s1 := s.dset 0x2200 3 v
    (Writable s o 0x2200 3 v) ∧ (s.dval 0x2200 4 ≠ 0) ∧ (b.ckpt = false) ∧ (s.maint.st ≠ 1) ∧ (s.maint.st ≠ 2) ∧ (b.level = 2) ∧ (leNat v = 1))
  ∧ (∃ s : State, ∃ o : Origin, ∃ v : List Byte, 
    let b := s.sched.bath
    
    let s1 := s.dset 0x2200 3 v
    (Writable s o 0x2200 3 v) ∧ (s.dval 0x2200 4 ≠ 0) ∧ (b.ckpt = false) ∧ (s.maint.st ≠ 1) ∧ (s.maint.st ≠ 2) ∧ (b.level ≠ 0) ∧ (leNat v = 0)) :=
  ⟨⟨norm, (.mailbox 0), [2#8], by decide +kernel, by decide +kernel, by decide +kernel, by decide +kernel, by decide +kernel, by decide +kernel, by decide +kernel⟩,
   ⟨bathed (bath0 1 false false), (.mailbox 0), [2#8], by decide +kernel, by decide +kernel, by decide +kernel, by decide +kernel, by decide +kernel, by decide +kernel, by decide +kernel⟩,
   ⟨bathed (bath0 2 true false), (.mailbox 0), [1#8], by decide +kernel, by decide +kernel, by decide +kernel, by decide +kernel, by decide +kernel, by decide +kernel, by decide +kernel⟩,
   ⟨bathed (bath0 1 true false), (.mailbox 0), [0#8], by decide +kernel, by decide +kernel, by decide +kernel, by decide +kernel, by decide +kernel, by decide +kernel, by decide +kernel⟩⟩

theorem wit_bathRefused : ∃ s : State, ∃ o : Origin, ∃ v : List Byte, (Checked s o 0x2200 3 v) ∧ ((s.dval 0x2200 4 = 0 ∨ s.sched.bath.ckpt = true)) :=
  ⟨bathed (bath0 2 true true), (.mailbox 0), [0#8], by decide +kernel, by decide +kernel⟩

theorem wit_bathLate :
  (∃ s : State, (s.sched.bath.level ≠ 0) ∧ (s.sched.bath.quiet = false))
  ∧ (∃ s : State, (s.sched.bath.quiet = true)) :=
  ⟨⟨bathed (bath0 2 false false), by decide +kernel, by decide +kernel⟩,
   ⟨bathed (bath0 2 true false), by decide +kernel⟩⟩

theorem wit_coreSets :
  (∃ s : State, ∃ o : Origin, ∃ p : Nat, ∃ sub : Nat, ∃ v : List Byte, (p < 64) ∧ 
    let s1 := s.dset (0x2240 + p) sub v
    (Writable s o (0x2240 + p) sub v) ∧ ((s1.confidential && s1.coresShared) = false))
  ∧ (∃ s : State, ∃ o : Origin, ∃ p : Nat, ∃ sub : Nat, ∃ v : List Byte, (p < 64) ∧ 
    let s1 := s.dset (0x2240 + p) sub v
    (Checked s o (0x2240 + p) sub v) ∧ ((s1.confidential && s1.coresShared) = true)) :=
  ⟨⟨norm, (.mailbox 0), 1, 1, leBytes 8 1, by decide +kernel, by decide +kernel, by decide +kernel⟩,
   ⟨{ confid with sec := { Sec.start with sess := [(1, op1)] } }, (.session 1), 0, 1, leBytes 8 1, by decide +kernel, by decide +kernel, by decide +kernel⟩⟩

end W05

/-! ### Text, selection, embeddings and vectors -/

namespace W06

def vals (s : State) (idx : Nat) : List (Nat × Nat) → State
  | [] => s
  | (k, v) :: t => vals (setV s idx k (leBytes 8 v)) idx t
def stage0 : State :=
  vals norm 0x2340 [(3, 1), (4, 1), (5, 16), (6, 16), (0xC, 1), (0xD, 16), (0xE, 0x3F800000), (0x40, 1), (0x41, 0xFF), (0x50, 16)]
def gram0 : List Byte :=
  let h := at_ 0x4741 240 + at_ 1 232 + at_ 1 216 + at_ 1 207
  let b := List.replicate 260 0#8 ++ [1#8, 0#8, 0#8, 0#8, 0#8, 0#8, 0#8, 0#8]
  leBytes 32 (h + crc32c (leBytes 32 h ++ b)) ++ b
def exch1 (sent : Bool) : Exch :=
  { xid := 2, func := 1, part := 0, half := 0, slot := 0, handle := h0, seq := 5, n := 0, kc := 0, payload := [65#8], sent, ref := 0 }
def waits (x : Exch) : State :=
  { live0 with profs := [(0, prof0)], sess := { live0.sess with exs := [x], bufs := [{ cmd := cmd0, part := 0, addr := 0, len := 4096 }] } }
def reply0 : List Byte := leBytes 4 3
/-- Table 0 of four rows of two FP32 values in granule 0, with the tags given. -/
def table0 (fmt : Nat) (tags : Tab EmbTag) : State :=
  let s := vals (vals norm 0x5240 [(2, 0), (3, 4), (4, 2), (5, fmt), (7, 0), (8, 8), (9, 1024), (0xA, 1), (0xB, 0), (0xC, 16), (0xD, 16), (0xE, 1), (0x11, 0)])
    0x2210 [(1, 1)]
  { s with tiers := { norm.tiers with grans := [(0, { gran0 with pin := true })] }, emb := { Emb.start with tabs := [(0, { home := 0, tags, sketch := [] })] }
           sched := { Sched.start with lanes := [(0, { LaneHalf.blank with last := some 4 })] } }
def two : State :=
  let s := vals (table0 0 []) 0x5241 [(2, 2048), (3, 4), (4, 2), (5, 3), (0xA, 1), (0x11, 0)]
  { s with emb := { s.emb with tabs := [(0, { home := 0, tags := [], sketch := [] }), (1, { home := 0, tags := [], sketch := [] })] } }
def embHdr (seq kind n : Nat) : BitVec 192 := BitVec.ofNat 192 (withPar (at_ seq 128 + at_ 9 96 + at_ kind 92 + at_ n 70) 3 2 0)
def addRec0 : List Byte := leBytes 4 1 ++ leBytes 8 0
def setRec0 : List Byte := leBytes 4 1 ++ leBytes 4 0 ++ leBytes 8 0
def tag0 (st : Nat) : EmbTag := { row := 1, st, dirty := false, next := none }
def vd0 : VDesc := { base := 0, metric := 0, vfmt := 0, d := 16, nlist := 1, cap := 16 }
def item0 : VItem := { id := 7, attr := 0, num := 0, ins := 1, del := noEpoch, ok := true }
def ix0 : VIndex := { home := 0, epoch := 1, unloading := false }
/-- Index 0 of one list of sixteen slots in granule 0, with one item. -/
def index0 (loaded : Bool) : State :=
  let s := vals norm 0x5340 [(2, 0), (3, 0), (4, 0), (5, 16), (6, 1), (7, 16), (8, noEpoch), (0xC, 0)]
  { s with tiers := { norm.tiers with grans := [(0, { gran0 with pin := true })]
                                      mem := (Mem.writeN (Mem.writeN (Mem.writeN [] 0 (vd0.header 1)) 64 (listBytes 1 1)) 192 item0.bytes) }
           vec := { Vec.start with idx := if loaded then [(0, ix0)] else [] } }
def q0 : VQuery :=
  { cmd := cmd0, index := 0, desc := 0#512, half := 0, part := 0, q := List.replicate 16 0, qe := 1, ranking := [0], probed := 1, left := [1]
    found := [], hostMode := false, xid := none }
def scan0 : State :=
  let s := index0 true
  { s with vec := { s.vec with queries := [(1, q0)], tasks := [(1, { query := 1, list := 0, first := 0 })] }
           sched := { Sched.start with cores := [(0, { Core.blank with run := some (.scan 1) })] } }
def zeros64 : List Byte := List.replicate 64 0#8
def vrec0 : List Byte := List.replicate 96 0#8
def del0 (l : Nat) : List Byte := leBytes 8 7 ++ leBytes 4 l ++ leBytes 4 0

theorem wit_profileWrites :
  (∃ s : State, ∃ o : Origin, ∃ p : Nat, ∃ v : List Byte, (p < 64) ∧ (Writable s o (0x2340 + p) 1 v) ∧ (leNat v = 1) ∧ (s.profInUse p = false) ∧ (s.loadFault p = none))
  ∧ (∃ s : State, ∃ o : Origin, ∃ p : Nat, ∃ v : List Byte, (p < 64) ∧ ∃ k : Nat, (Checked s o (0x2340 + p) 1 v) ∧ (leNat v = 1) ∧ (s.profInUse p = false) ∧ (s.loadFault p = some k) ∧ (Checked (s.raise 0x2051 0 0 [p, k]) o (0x2340 + p) 1 v) ∧ ((s.raise 0x2051 0 0 [p, k]).profileWrite p v = .error (stTABLE, 0)))
  ∧ (∃ s : State, ∃ o : Origin, ∃ p : Nat, ∃ v : List Byte, (p < 64) ∧ (Checked s o (0x2340 + p) 1 v) ∧ (leNat v = 1) ∧ (s.profInUse p = true))
  ∧ (∃ s : State, ∃ o : Origin, ∃ p : Nat, ∃ v : List Byte, (p < 64) ∧ (Writable s o (0x2340 + p) 1 v) ∧ (leNat v = 2) ∧ (s.profInUse p = false)) :=
  ⟨⟨stage0, (.mailbox 0), 0, [1#8], by decide +kernel, by decide +kernel, by decide +kernel, by decide +kernel, by decide +kernel⟩,
   ⟨norm, (.mailbox 0), 0, [1#8], by decide +kernel, 80, by decide +kernel, by decide +kernel, by decide +kernel, by decide +kernel, by decide +kernel, by decide +kernel⟩,
   ⟨withE (entry .idle), (.mailbox 0), 0, [1#8], by decide +kernel, by decide +kernel, by decide +kernel, by decide +kernel⟩,
   ⟨norm, (.mailbox 0), 0, [2#8], by decide +kernel, by decide +kernel, by decide +kernel, by decide +kernel⟩⟩

theorem wit_curveStores : ∃ s : State, ∃ o : Origin, ∃ id : Nat, ∃ v : List Byte, (id < 16) ∧ (Writable s o 0x2390 (1 + id) v) ∧ (s.curveNamed id = false) ∧ ((v.isEmpty = true ∨ curveOk v = true)) :=
  ⟨norm, (.mailbox 0), 15, [], by decide +kernel, by decide +kernel, by decide +kernel, by decide +kernel⟩

theorem wit_decodeTableStores : ∃ s : State, ∃ o : Origin, ∃ id : Nat, ∃ v : List Byte, (id < 16) ∧ (Writable s o 0x2380 (1 + id) v) ∧ (s.tabNamed id = false) ∧ ((v.isEmpty = true ∨ tabOk 512 v = true)) :=
  ⟨norm, (.mailbox 0), 15, [], by decide +kernel, by decide +kernel, by decide +kernel, by decide +kernel⟩

theorem wit_grammarStores : ∃ s : State, ∃ o : Origin, ∃ id : Nat, ∃ v : List Byte, (id < 64) ∧ (Writable s o (0x5040 + id) 1 v) ∧ (s.dbytes (0x5040 + id) 1 = []) ∧ (s.naming 1 id = 0) ∧ (v ≠ []) ∧ (grammarCheck v = none) :=
  ⟨norm, (.mailbox 0), 0, gram0, by decide +kernel, by decide +kernel, by decide +kernel, by decide +kernel, by decide +kernel, by (simp only [grammarCheck, gram0, crc32c_go]; decide +kernel)⟩

theorem wit_textMoreTakes :
  (∃ s : State, ∃ fn : Nat, ∃ sq : Nat, ∃ d : Desc, ∃ input : Option (List Byte), ∃ p : Nat, 
    let s1 := s.dmaFrom fn input
    
    let c := s1.cmdOf fn sq d false
    
    let i := hIdx (dHnd d)
    
    let n := dFld d 223 192
    (TakenSess s1 0x30 fn d false false p) ∧ ((s1.ent i).state ≠ .expired) ∧ (0 < n) ∧ (n ≤ 16777216) ∧ ∃ k : Nat, ∃ r : Request, ∃ b : List Byte, (s1.collecting i = some (k, r)) ∧ (s1.sess.exs.any (fun x => x.slot == k && x.func == 1) = false) ∧ (r.inBytes + n ≤ s1.dval 0x5000 3) ∧ (r.tok = false) ∧ (r.tokHost = false) ∧ (input = some b))
  ∧ (∃ s : State, ∃ fn : Nat, ∃ sq : Nat, ∃ d : Desc, ∃ input : Option (List Byte), ∃ p : Nat, 
    let s1 := s.dmaFrom fn input
    
    let c := s1.cmdOf fn sq d false
    
    let i := hIdx (dHnd d)
    
    let n := dFld d 223 192
    (TakenSess s1 0x30 fn d false false p) ∧ ((s1.ent i).state ≠ .expired) ∧ (0 < n) ∧ (n ≤ 16777216) ∧ (s1.collecting i = none)) :=
  ⟨⟨live0, 0, 0, mk 0x30 h0 (at_ 4 192), some reply0, 0, by decide +kernel, by decide +kernel, by decide +kernel, by decide +kernel, 0, req0, reply0, by decide +kernel, by decide +kernel, by decide +kernel, by decide +kernel, by decide +kernel, by decide +kernel⟩,
   ⟨withE (entry .idle), 0, 0, mk 0x30 h0 (at_ 4 192), none, 0, by decide +kernel, by decide +kernel, by decide +kernel, by decide +kernel, by decide +kernel⟩⟩

theorem wit_assistPosts : ∃ s : State, ∃ fn : Nat, ∃ sq : Nat, ∃ d : Desc, ∃ p : Nat, (Taken s 0x31 fn d p) ∧ (dFld d 191 128 % 64 = 0) ∧ (64 ≤ dFld d 223 192) ∧ (dFld d 223 192 ≤ 16777216) :=
  ⟨norm, 0, 0, mk 0x31 0 (at_ 64 192), 0, by decide +kernel, by decide +kernel, by decide +kernel, by decide +kernel⟩

theorem wit_assistReplies :
  (∃ s : State, ∃ fn : Nat, ∃ sq : Nat, ∃ d : Desc, ∃ reply : Option (List Byte), ∃ p : Nat, 
    let s1 := s.dmaFrom fn reply
    
    let c := s1.cmdOf fn sq d false
    
    let found := s1.sess.exs.find? (fun x => x.xid == dFld d 255 224 && x.handle == dHnd d && x.part == p && x.sent)
    ((dHnd d = 0 ∧ Taken s1 0x32 fn d p ∨ dHnd d ≠ 0 ∧ TakenSess s1 0x32 fn d false false p)) ∧ (found = none))
  ∧ (∃ s : State, ∃ fn : Nat, ∃ sq : Nat, ∃ d : Desc, ∃ reply : Option (List Byte), ∃ p : Nat, 
    let s1 := s.dmaFrom fn reply
    
    let c := s1.cmdOf fn sq d false
    
    let found := s1.sess.exs.find? (fun x => x.xid == dFld d 255 224 && x.handle == dHnd d && x.part == p && x.sent)
    ((dHnd d = 0 ∧ Taken s1 0x32 fn d p ∨ dHnd d ≠ 0 ∧ TakenSess s1 0x32 fn d false false p)) ∧ ∃ x : Exch, ∃ b0 : List Byte, (found = some x) ∧ (s1.replyShort x (dFld d 223 192) = false) ∧ (reply = some b0) ∧ 
    let b := fitBytes (dFld d 223 192) b0
    (crc32c b = dFld d 287 256) ∧ (s1.replyRange x b = false)) :=
  ⟨⟨norm, 0, 0, mk 0x32 0 0, none, 0, by decide +kernel, by decide +kernel⟩,
   ⟨waits (exch1 true), 0, 0, mk 0x32 h0 (at_ 4 192 + at_ 2 224 + at_ (crc32c reply0) 256), some reply0, 0, by decide +kernel, exch1 true, reply0, by decide +kernel, by decide +kernel, by decide +kernel, by decide +kernel, by decide +kernel⟩⟩

theorem wit_gathers :
  (∃ s : State, ∃ src : Nat, ∃ part : Nat, ∃ t : Nat, ∃ crc : Nat, ∃ hdr : BitVec 192, ∃ data : List Byte, 
    let tag := bits hdr 127 96
    
    let n := bits hdr 85 70
    
    let idx := recIdx n 4 data
    
    let r := s.gatherRows t idx 0 Gathered.none_
    (EmbTaken s src part t hdr data crc 1 4 0xC) ∧ (n ≤ s.rowsMax t) ∧ (idx.any (s.readWaits t) = false) ∧ (idx.findIdx? (fun i => decide (s.embF t 3 ≤ i)) = none) ∧ (r.2.failed = none) ∧ (r.2.poison = none))
  ∧ (∃ s : State, ∃ src : Nat, ∃ part : Nat, ∃ t : Nat, ∃ crc : Nat, ∃ hdr : BitVec 192, ∃ data : List Byte, 
    let tag := bits hdr 127 96
    
    let n := bits hdr 85 70
    
    let idx := recIdx n 4 data
    
    let r := s.gatherRows t idx 0 Gathered.none_
    (EmbTaken s src part t hdr data crc 1 4 0xC) ∧ (n ≤ s.rowsMax t) ∧ (idx.any (s.readWaits t) = false) ∧ ∃ k : Nat, (idx.findIdx? (fun i => decide (s.embF t 3 ≤ i)) = some k)) :=
  ⟨⟨table0 0 [], 4, 0, 0, crc32c (leBytes 4 3), embHdr 0 1 1, leBytes 4 3, by decide +kernel, by decide +kernel, by decide +kernel, by decide +kernel, by decide +kernel, by decide +kernel⟩,
   ⟨table0 0 [], 4, 0, 0, crc32c (leBytes 4 4), embHdr 0 1 1, leBytes 4 4, by decide +kernel, by decide +kernel, by decide +kernel, 0, by decide +kernel⟩⟩

theorem wit_adds : ∃ s : State, ∃ src : Nat, ∃ part : Nat, ∃ t : Nat, ∃ crc : Nat, ∃ hdr : BitVec 192, ∃ data : List Byte, 
    let r := s.embAdd t (bits hdr 85 70) (bit hdr 65) data
    (EmbTaken s src part t hdr data crc 3 (s.addRec t (bit hdr 65)) 0xD) :=
  ⟨table0 0 [], 4, 0, 0, crc32c addRec0, embHdr 0 3 1, addRec0, by decide +kernel⟩

theorem wit_sets :
  (∃ s : State, ∃ src : Nat, ∃ part : Nat, ∃ t : Nat, ∃ crc : Nat, ∃ hdr : BitVec 192, ∃ data : List Byte, 
    let tag := bits hdr 127 96
    
    let seq := bits hdr 191 128
    
    let last := s.lastSeq (s.embHome t) (s.embF t 0xB)
    
    let r := s.embSet t (bits hdr 85 70) seq src data
    (EmbTaken s src part t hdr data crc 4 (s.setRec t) 0xD) ∧ (s.embWr t = true) ∧ (s.embLane t = true) ∧ ∃ m, (last = some m) ∧ (seq ≤ m))
  ∧ (∃ s : State, ∃ src : Nat, ∃ part : Nat, ∃ t : Nat, ∃ crc : Nat, ∃ hdr : BitVec 192, ∃ data : List Byte, 
    let tag := bits hdr 127 96
    
    let seq := bits hdr 191 128
    
    let last := s.lastSeq (s.embHome t) (s.embF t 0xB)
    
    let r := s.embSet t (bits hdr 85 70) seq src data
    (EmbTaken s src part t hdr data crc 4 (s.setRec t) 0xD) ∧ (s.embWr t = true) ∧ (s.embLane t = true) ∧ ((∀ m, last = some m → m < seq)) ∧ (r.2.1 = 0)) :=
  ⟨⟨table0 0 [], 4, 0, 0, crc32c setRec0, embHdr 4 4 1, setRec0, by decide +kernel, by decide +kernel, by decide +kernel, 4, by decide +kernel, by decide +kernel⟩,
   ⟨table0 0 [], 4, 0, 0, crc32c setRec0, embHdr 5 4 1, setRec0, by decide +kernel, by decide +kernel, by decide +kernel, by decide +kernel, by decide +kernel⟩⟩

theorem wit_fillSwitches : ∃ s : State, ∃ t : Nat, ∃ i : Nat, ∃ k : Nat, ∃ g : EmbTag, (t < 64) ∧ (s.embSlot t i = some (k, g)) ∧ (g.st = 1) ∧ (s.unreadable (s.tailAt t i) (s.embStride t) = false) ∧ ((s.boot.bridge && s.tailInT2 t i) = false) :=
  ⟨table0 0 [(1, tag0 1)], 0, 1, 1, tag0 1, by decide +kernel, by decide +kernel, by decide +kernel, by decide +kernel, by decide +kernel⟩

theorem wit_evictionSwitches : ∃ s : State, ∃ t : Nat, ∃ i : Nat, ∃ k : Nat, ∃ g : EmbTag, (t < 64) ∧ (s.embSlot t i = some (k, g)) ∧ (g.st = 3) ∧ (g.next = none) ∧ 
    let s1 := if g.dirty then (s.copyRow (s.slotAt t k) (s.tailAt t i) (s.embStride t)).count 0x8520 4 1 else s
    
    let s2 := s1.clearTag t k
    (s2.wholeT1 (s2.tailAt t i) (s2.embStride t) = false) :=
  ⟨{ table0 0 [(1, tag0 3)] with tiers := { norm.tiers with grans := [(0, { gran0 with tier := 3, pin := true })] } }, 0, 1, 1, tag0 3, by decide +kernel, by decide +kernel, by decide +kernel, by decide +kernel, by decide +kernel⟩

theorem wit_sketchHalves : ∃ s : State, ∃ h : Nat, (h < 2) :=
  ⟨norm, 1, by decide +kernel⟩

theorem wit_embControls :
  (∃ s : State, ∃ o : Origin, ∃ t : Nat, ∃ v : List Byte, (t < 64) ∧ (Writable s o (0x5240 + t) 1 v) ∧ (leNat v = 1) ∧ (s.embLoaded t = false) ∧ (s.embLoadCheck t = none))
  ∧ (∃ s : State, ∃ o : Origin, ∃ t : Nat, ∃ v : List Byte, (t < 64) ∧ (Writable s o (0x5240 + t) 1 v) ∧ (leNat v ≠ 1) ∧ (s.embLoaded t = true)) :=
  ⟨⟨{ table0 0 [] with emb := Emb.start }, (.mailbox 0), 0, [1#8], by decide +kernel, by decide +kernel, by decide +kernel, by decide +kernel, by decide +kernel⟩,
   ⟨table0 0 [], (.mailbox 0), 0, [2#8], by decide +kernel, by decide +kernel, by decide +kernel, by decide +kernel⟩⟩

theorem wit_embGathers :
  (∃ s : State, ∃ fn : Nat, ∃ sq : Nat, ∃ d : Desc, ∃ b : List Byte, ∃ p : Nat, ∃ t : Nat, 
    let s1 := s.dmaFrom fn (some b)
    
    let c := s1.cmdOf fn sq d false
    
    let n := dFld d 284 272
    
    let idx := recIdx n 4 b
    
    let r := s1.gatherRows t idx 0 Gathered.none_
    (EmbCmd s1 0x40 fn d p t) ∧ (embBadN d = false) ∧ ∃ k : Nat, (idx.findIdx? (fun i => decide (s1.embF t 3 ≤ i)) = some k))
  ∧ (∃ s : State, ∃ fn : Nat, ∃ sq : Nat, ∃ d : Desc, ∃ b : List Byte, ∃ p : Nat, ∃ t : Nat, 
    let s1 := s.dmaFrom fn (some b)
    
    let c := s1.cmdOf fn sq d false
    
    let n := dFld d 284 272
    
    let idx := recIdx n 4 b
    
    let r := s1.gatherRows t idx 0 Gathered.none_
    (EmbCmd s1 0x40 fn d p t) ∧ (embBadN d = false) ∧ (idx.findIdx? (fun i => decide (s1.embF t 3 ≤ i)) = none) ∧ (idx.findIdx? (fun i => (s1.embSlot t i).isNone && (granSpan (s1.tailAt t i) (s1.embStride t)).any (fun g =>
      ((s1.gran g).map (fun x => s1.lapsed (granPart g) x.handle)).getD false)) = none) ∧ (idx.any (s1.readWaits t) = false) ∧ (r.2.failed = none) ∧ (r.2.poison = none)) :=
  ⟨⟨table0 0 [], 0, 0, mk 0x40 0 (at_ 1 272), leBytes 4 4, 0, 0, by decide +kernel, by decide +kernel, 0, by decide +kernel⟩,
   ⟨table0 0 [], 0, 0, mk 0x40 0 (at_ 1 272), leBytes 4 3, 0, 0, by decide +kernel, by decide +kernel, by decide +kernel, by decide +kernel, by decide +kernel, by decide +kernel, by decide +kernel⟩⟩

theorem wit_embUpdates :
  (∃ s : State, ∃ fn : Nat, ∃ sq : Nat, ∃ d : Desc, ∃ b : List Byte, ∃ p : Nat, ∃ t : Nat, 
    let s1 := s.dmaFrom fn (some b)
    
    let c := s1.cmdOf fn sq d false
    
    let n := dFld d 284 272
    (embBadN d = false) ∧ (EmbCmd s1 0x41 fn d p t))
  ∧ (∃ s : State, ∃ fn : Nat, ∃ sq : Nat, ∃ d : Desc, ∃ b : List Byte, ∃ p : Nat, ∃ t : Nat, 
    let s1 := s.dmaFrom fn (some b)
    
    let c := s1.cmdOf fn sq d false
    
    let n := dFld d 284 272
    (embBadN d = false) ∧ (EmbCmd s1 0x42 fn d p t) ∧ (s1.embWr t = true) ∧ (s1.embLane t = true)) :=
  ⟨⟨table0 0 [], 0, 0, mk 0x41 0 (at_ 1 272), addRec0, 0, 0, by decide +kernel, by decide +kernel⟩,
   ⟨table0 0 [], 0, 0, mk 0x42 0 (at_ 1 272), setRec0, 0, 0, by decide +kernel, by decide +kernel, by decide +kernel, by decide +kernel⟩⟩

theorem wit_embRequants : ∃ s : State, ∃ fn : Nat, ∃ sq : Nat, ∃ d : Desc, ∃ p : Nat, 
    let first := dFld d 319 288
    
    let n := dFld d 351 320
    
    let dst := dFld d 357 352
    
    let src := dFld d 261 256
    (Taken s 0x43 fn d p) ∧ (n ≠ 0) ∧ (s.embLoaded src = true) ∧ (s.embLoaded dst = true) ∧ (s.embF src 0x11 = p) ∧ (s.embF dst 0x11 = p) ∧ (s.embWr dst = true) ∧ (s.embF src 5 ≤ 2) ∧ (3 ≤ s.embF dst 5) ∧ (s.embF src 3 = s.embF dst 3) ∧ (s.embF src 4 = s.embF dst 4) ∧ (first + n ≤ s.embF src 3) ∧ (s.dval (0xA000 + p) 6 ≠ 1) ∧ ((s.boot.bridge && (s.embHome src == 1 || s.embHome dst == 1 || ((List.range n).map (· + first)).any (s.readWaits src))) = false) :=
  ⟨two, 0, 0, mk 0x43 0 (at_ 0 288 + at_ 4 320 + at_ 1 352), 0, by decide +kernel, by decide +kernel, by decide +kernel, by decide +kernel, by decide +kernel, by decide +kernel, by decide +kernel, by decide +kernel, by decide +kernel, by decide +kernel, by decide +kernel, by decide +kernel, by decide +kernel, by decide +kernel⟩

theorem wit_embFlushes : ∃ s : State, ∃ fn : Nat, ∃ sq : Nat, ∃ d : Desc, ∃ p : Nat, ∃ t : Nat, (EmbCmd s 0x44 fn d p t) :=
  ⟨table0 0 [], 0, 0, mk 0x44 0 0, 0, 0, by decide +kernel⟩

theorem wit_queries : ∃ s : State, ∃ fn : Nat, ∃ sq : Nat, ∃ d : Desc, ∃ b : List Byte, ∃ p : Nat, ∃ e : Nat, ∃ y : VIndex, 
    let s1 := s.dmaFrom fn (some b)
    
    let i := dFld d 485 480
    
    let x := s1.vdesc i
    
    let v := elems 4 x.d b
    
    let qv := if x.metric = 1 then vecNorm v else v
    (VecCmd s1 0x50 fn d p i y) ∧ (dFld d 191 128 % 8 = 0) ∧ (dFld d 255 192 % 8 = 0) ∧ (dFlag d 26 = false) ∧ (dFld d 511 496 + 1 ≤ x.nlist) ∧ (s1.queryEpoch i y (dFld d 479 448) = some e) ∧ (v.any (fun e => !ffinite e) = false) ∧ ((x.metric = 1 → vecSq v % 2 ^ 31 ≠ 0)) ∧ (s1.poisoned x.base (vecCent x.nlist + 4 * x.d * x.nlist) = false) :=
  ⟨index0 true, 0, 0, mk 0x50 0 0, zeros64, 0, 1, ix0, by decide +kernel, by decide +kernel, by decide +kernel, by decide +kernel, by decide +kernel, by decide +kernel, by decide +kernel, by decide +kernel, by decide +kernel⟩

theorem wit_scanEnds :
  (∃ s : State, ∃ core : Nat, ∃ task : Nat, (core < 256) ∧ ((s.core core).run ≠ some (.scan task)))
  ∧ (∃ s : State, ∃ core : Nat, ∃ task : Nat, (core < 256) ∧ ∃ t : VTask, ∃ q : VQuery, ∃ ms : List VMatch, ((s.core core).run = some (.scan task)) ∧ (s.vec.tasks.get? task = some t) ∧ (s.vec.queries.get? t.query = some q) ∧ 
    let x := s.vdesc q.index
    
    let ps := (List.range (min 1024 ((s.listRec x t.list).1 - t.first))).map (· + t.first)
    (s.scanSlots q x t.list ps [] = .ok ms)) :=
  ⟨⟨norm, 255, 0, by decide +kernel, by decide +kernel⟩,
   ⟨scan0, 0, 1, by decide +kernel, { query := 1, list := 0, first := 0 }, q0, (match scan0.scanSlots q0 vd0 0 [0] [] with | .ok m => m | .error _ => []), by decide +kernel, by decide +kernel, by decide +kernel, by decide +kernel⟩⟩

theorem wit_inserts : ∃ s : State, ∃ fn : Nat, ∃ sq : Nat, ∃ d : Desc, ∃ b : List Byte, ∃ p : Nat, ∃ y : VIndex, ∃ places : List (Nat × Nat), 
    let s1 := s.dmaFrom fn (some b)
    
    let c := s1.cmdOf fn sq d false
    
    let i := dFld d 261 256
    
    let n := dFld d 284 272
    
    let x := s1.vdesc i
    
    let rs := (List.range n).map (s1.vecRecord x b)
    (VecCmd s1 0x51 fn d p i y) ∧ (0 < n) ∧ (n ≤ 4096) ∧ (dFld d 191 128 % 8 = 0) ∧ (dFld d 255 192 % 8 = 0) ∧ (y.epoch + 1 ≠ noEpoch) ∧ (s1.poisoned x.base (x.headBytes b n) = false) ∧ (rs.any (·.isNone) = false) ∧ (s1.placeRecs x (s1.oldestEpoch i y) (rs.filterMap id) 0 [] = .ok places) :=
  ⟨index0 true, 0, 0, mk 0x51 0 (at_ 1 272), vrec0, 0, ix0, [(0, 1)], by decide +kernel, by decide +kernel, by decide +kernel, by decide +kernel, by decide +kernel, by decide +kernel, by decide +kernel, by decide +kernel, by decide +kernel⟩

theorem wit_deletes :
  (∃ s : State, ∃ fn : Nat, ∃ sq : Nat, ∃ d : Desc, ∃ b : List Byte, ∃ p : Nat, ∃ y : VIndex, 
    let s1 := s.dmaFrom fn (some b)
    
    let c := s1.cmdOf fn sq d false
    
    let i := dFld d 261 256
    
    let n := dFld d 284 272
    
    let x := s1.vdesc i
    
    let rs := (List.range n).map (fun k => (leAt b (16 * k) 8, leAt b (16 * k + 8) 4, leAt b (16 * k + 12) 4))
    (VecCmd s1 0x52 fn d p i y) ∧ (0 < n) ∧ (n ≤ 4096) ∧ (dFld d 191 128 % 8 = 0) ∧ (y.epoch + 1 ≠ noEpoch) ∧ (s1.poisoned x.base (vecCent x.nlist) = false) ∧ (s1.firstBad x rs 0 [] = none))
  ∧ (∃ s : State, ∃ fn : Nat, ∃ sq : Nat, ∃ d : Desc, ∃ b : List Byte, ∃ p : Nat, ∃ y : VIndex, 
    let s1 := s.dmaFrom fn (some b)
    
    let c := s1.cmdOf fn sq d false
    
    let i := dFld d 261 256
    
    let n := dFld d 284 272
    
    let x := s1.vdesc i
    
    let rs := (List.range n).map (fun k => (leAt b (16 * k) 8, leAt b (16 * k + 8) 4, leAt b (16 * k + 12) 4))
    (VecCmd s1 0x52 fn d p i y) ∧ (0 < n) ∧ (n ≤ 4096) ∧ (dFld d 191 128 % 8 = 0) ∧ (y.epoch + 1 ≠ noEpoch) ∧ (s1.poisoned x.base (vecCent x.nlist) = false) ∧ ∃ k : Nat, (s1.firstBad x rs 0 [] = some (k, 1))) :=
  ⟨⟨index0 true, 0, 0, mk 0x52 0 (at_ 1 272), del0 0, 0, ix0, by decide +kernel, by decide +kernel, by decide +kernel, by decide +kernel, by decide +kernel, by decide +kernel, by decide +kernel⟩,
   ⟨index0 true, 0, 0, mk 0x52 0 (at_ 1 272), del0 1, 0, ix0, by decide +kernel, by decide +kernel, by decide +kernel, by decide +kernel, by decide +kernel, by decide +kernel, 0, by decide +kernel⟩⟩

theorem wit_indexControls :
  (∃ s : State, ∃ o : Origin, ∃ i : Nat, ∃ v : List Byte, (i < 64) ∧ (Writable s o (0x5340 + i) 1 v) ∧ (leNat v = 1) ∧ (s.vec.idx.has i = false) ∧ (s.vecLoadCheck i = none))
  ∧ (∃ s : State, ∃ o : Origin, ∃ i : Nat, ∃ v : List Byte, (i < 64) ∧ (Writable s o (0x5340 + i) 1 v) ∧ (leNat v ≠ 1) ∧ (s.vec.idx.has i = true)) :=
  ⟨⟨index0 false, (.mailbox 0), 0, [1#8], by decide +kernel, by decide +kernel, by decide +kernel, by decide +kernel, by decide +kernel⟩,
   ⟨index0 true, (.mailbox 0), 0, [2#8], by decide +kernel, by decide +kernel, by decide +kernel, by decide +kernel⟩⟩

theorem wit_holdWrites :
  (∃ s : State, ∃ o : Origin, ∃ i : Nat, ∃ v : List Byte, ∃ y : VIndex, (i < 64) ∧ (s.vec.idx.get? i = some y) ∧ (Writable s o (0x5340 + i) 8 v) ∧ ((leNat v = noEpoch ∨ s.vecF i 8 = noEpoch ∧ leNat v = y.epoch
      ∨ s.vecF i 8 ≠ noEpoch ∧ s.vecF i 8 ≤ leNat v ∧ leNat v ≤ y.epoch)))
  ∧ (∃ s : State, ∃ o : Origin, ∃ i : Nat, ∃ v : List Byte, ∃ y : VIndex, (i < 64) ∧ (s.vec.idx.get? i = some y) ∧ (Checked s o (0x5340 + i) 8 v) ∧ (leNat v ≠ noEpoch) ∧ (s.vecF i 8 ≠ noEpoch) ∧ (leNat v < s.vecF i 8)) :=
  ⟨⟨index0 true, (.mailbox 0), 0, leBytes 4 1, ix0, by decide +kernel, by decide +kernel, by decide +kernel, by decide +kernel⟩,
   ⟨setV (index0 true) 0x5340 8 (leBytes 4 1), (.mailbox 0), 0, leBytes 4 0, ix0, by decide +kernel, by decide +kernel, by decide +kernel, by decide +kernel, by decide +kernel, by decide +kernel⟩⟩

theorem wit_assistWrites :
  (∃ s : State, ∃ xid : Nat, 
    let found := s.sess.exs.find? (fun x => x.xid == xid && !x.sent)
    (found = none))
  ∧ (∃ s : State, ∃ xid : Nat, 
    let found := s.sess.exs.find? (fun x => x.xid == xid && !x.sent)
    ∃ x : Exch, ∃ b : AssistBuf, ∃ t : List AssistBuf, (found = some x) ∧ (s.sess.bufs = b :: t) ∧ (b.part = x.part) ∧ (64 + x.payload.length ≤ b.len)) :=
  ⟨⟨norm, 0, by decide +kernel⟩,
   ⟨waits (exch1 false), 2, exch1 false, { cmd := cmd0, part := 0, addr := 0, len := 4096 }, [], by decide +kernel, by decide +kernel, by decide +kernel, by decide +kernel⟩⟩

end W06

/-! ### Integrity and checkpoints -/

namespace W07

def proof0 (orig : List Partial) : Proof :=
  { half := 0, lane := 0, slot := 0, layer := 0, j := 0, part := 0, core := 1, orig, run := 2, rcore := 0, rep := [], repOk := true, page := 0
    discard := false, idx := 0, pos := 0, ntok := 0, q := [] }
def proving (r : Work) : State :=
  { live0 with profs := [(0, prof0)], integ := { Integ.start with proofs := [(1, proof0 [])] }
               sched := { Sched.start with cores := [(0, { Core.blank with run := some r })] } }
def bath7 (l m : Nat) (q c : Bool) : State := { norm with sched := { Sched.start with bath := { level := l, mask := m, quiet := q, ckpt := c, held := [] } } }
def slot7 : State :=
  let s := setV (setV norm 0x3200 1 (leBytes 8 0)) 0x3200 2 (leBytes 8 1)
  { s with tiers := { norm.tiers with grans := [(0, { gran0 with tier := 2, pin := true })] } }
def img0 : Image := norm.capture 1 1
def run0 (ph : Nat) : CkptRun :=
  { phase := ph, cmd := some cmd0, target := 1, double := false, second := false, seq := 1, zeroed := true, img := none
    drained := { w := true, e := true }, todo := [], buf := { w := 0, e := 0 }, full := { w := false, e := false } }
def runs (r : CkptRun) : State := { slot7 with ckpt := { norm.ckpt with run := some r } }
def maint7 (sl : Tab Image) : State := { norm with maint := { norm.maint with st := 2 }, ckpt := { norm.ckpt with slots := sl } }
def restoring (x : Image) : State := { slot7 with maint := { norm.maint with st := 2 }, ckpt := { norm.ckpt with slots := [(1, x)], restore := some (some cmd0, 1, false) } }
def badImg : Image := { img0 with segs := [{ kind := 1, half := 0, part := 77, len := 1, nrec := 1 }] }

theorem wit_proofAgrees : ∃ s : State, ∃ s1 : State, ∃ c : Nat, ∃ id : Nat, ∃ n : Nat, ∃ pr : Proof, ∃ p : Profile, 
    let w : SplitWork := { idx := pr.idx, layer := pr.layer, j := pr.j, pos := pr.pos, ntok := pr.ntok }
    (c < 256) ∧ ((s.core c).run = some (.proof id n)) ∧ (s.integ.proofs.get? id = some pr) ∧ (s.profOf pr.idx = some p) ∧ (pr.run = 2) ∧ (s.readSplit p w = (s1, none)) ∧ 
    let s2 := s1.oddCodes p w
    
    let runs := s2.runSplit p w pr.q 0
    
    let v := s2.judge p w runs 0
    (runs.map (·.part) = pr.orig) :=
  ⟨proving (.proof 1 0), proving (.proof 1 0), 0, 1, 0, proof0 [], prof0, by decide +kernel, by decide +kernel, by decide +kernel, by decide +kernel, by decide +kernel, by decide +kernel, by decide +kernel⟩

theorem wit_proofNone : ∃ s : State, ∃ c : Nat, ∃ x : Nat, (c < 256) ∧ ((s.core c).run = none) :=
  ⟨norm, 255, 0, by decide +kernel, by decide +kernel⟩

theorem wit_katOff : ∃ s : State, ∃ h : Nat, (h < 2) ∧ 
    let s2 := (halfCores h).foldl State.dropAuto (s.count 0x8600 0xE (s.integ.kat.get h).length)
    (s2.dval 0x6000 2 ≠ 1) :=
  ⟨setV norm 0x6000 2 [0#8], 1, by decide +kernel, by decide +kernel⟩

theorem wit_katOn : ∃ s : State, ∃ h : Nat, (h < 2) ∧ 
    let s2 := (halfCores h).foldl State.dropAuto (s.count 0x8600 0xE (s.integ.kat.get h).length)
    (s2.dval 0x6000 2 = 1) ∧ (s2.patterns.filter (fun n => n != 0 && !s2.expValid (PatHead.read (s2.pattern n)).curve) = []) :=
  ⟨setV norm 0x6000 2 [1#8], 1, by decide +kernel, by decide +kernel, by decide +kernel⟩

theorem wit_katEnds : ∃ s : State, ∃ c : Nat, ∃ n : Nat, ∃ x : Nat, ∃ byTest : Bool, (c < 256) ∧ ((s.core c).run = some (.kat n byTest)) ∧ ((n = 0 ∨ (s.pattern n).isEmpty = false ∧ s.expValid (PatHead.read (s.pattern n)).curve = true)) :=
  ⟨proving (.kat 0 true), 0, 0, 0, true, by decide +kernel, by decide +kernel, by decide +kernel⟩

theorem wit_patternWrites :
  (∃ s : State, ∃ o : Origin, ∃ id : Nat, ∃ v : List Byte, (id < 16) ∧ (Writable s o 0x6040 (1 + id) v) ∧ ((v.isEmpty = true ∨ s.patternOk v = true)))
  ∧ (∃ s : State, ∃ o : Origin, ∃ id : Nat, ∃ v : List Byte, (id < 16) ∧ (Checked s o 0x6040 (1 + id) v) ∧ (v.isEmpty = false) ∧ (s.patternOk v = false)) :=
  ⟨⟨norm, (.mailbox 0), 15, [], by decide +kernel, by decide +kernel, by decide +kernel⟩,
   ⟨norm, (.mailbox 0), 15, [1#8], by decide +kernel, by decide +kernel, by decide +kernel, by decide +kernel⟩⟩

theorem wit_excludes :
  (∃ s : State, ∃ fn : Nat, ∃ sq : Nat, ∃ d : Desc, 
    let c := s.cmdOf fn sq d false
    
    let k := dFld d 131 128
    
    let u := dFld d 139 132
    
    let others := ((List.range 16).filter (fun f => f != u && (s.flash f).cond != 0)).length
    (Taken s 0x60 fn d 0) ∧ (unitOk k u = true) ∧ (s.unitOut k u = false) ∧ ((k = 3 → others < 2)))
  ∧ (∃ s : State, ∃ fn : Nat, ∃ sq : Nat, ∃ d : Desc, 
    let c := s.cmdOf fn sq d false
    
    let k := dFld d 131 128
    
    let u := dFld d 139 132
    
    let others := ((List.range 16).filter (fun f => f != u && (s.flash f).cond != 0)).length
    (Taken s 0x60 fn d 0) ∧ (unitOk k u = true) ∧ (s.unitOut k u = true))
  ∧ (∃ s : State, ∃ fn : Nat, ∃ sq : Nat, ∃ d : Desc, 
    let c := s.cmdOf fn sq d false
    
    let k := dFld d 131 128
    
    let u := dFld d 139 132
    
    let others := ((List.range 16).filter (fun f => f != u && (s.flash f).cond != 0)).length
    (Taken s 0x60 fn d 0) ∧ (unitOk k u = true) ∧ (s.unitOut k u = false) ∧ (k = 3) ∧ (2 ≤ others)) :=
  ⟨⟨norm, 0, 0, mk 0x60 0 (at_ 0 128 + at_ 255 132), by decide +kernel, by decide +kernel, by decide +kernel, by decide +kernel⟩,
   ⟨{ norm with sched := { Sched.start with cores := [(255, { Core.blank with excluded := true })] } }, 0, 0, mk 0x60 0 (at_ 0 128 + at_ 255 132), by decide +kernel, by decide +kernel, by decide +kernel⟩,
   ⟨{ norm with tiers := { norm.tiers with flash := [(0, { Flash.blank with cond := 2 }), (1, { Flash.blank with cond := 2 })] } }, 0, 0, mk 0x60 0 (at_ 3 128 + at_ 15 132), by decide +kernel, by decide +kernel, by decide +kernel, by decide +kernel, by decide +kernel⟩⟩

theorem wit_admits : ∃ s : State, ∃ fn : Nat, ∃ sq : Nat, ∃ d : Desc, 
    let k := dFld d 131 128
    
    let u := dFld d 139 132
    (Taken s 0x61 fn d 0) ∧ (unitOk k u = true) ∧ (s.admitDenied k u = false) ∧ (s.inService k u = false) :=
  ⟨{ norm with sched := { Sched.start with cores := [(255, { Core.blank with excluded := true })] } }, 0, 0, mk 0x61 0 (at_ 255 132), by decide +kernel, by decide +kernel, by decide +kernel, by decide +kernel⟩

theorem wit_tests : ∃ s : State, ∃ fn : Nat, ∃ sq : Nat, ∃ d : Desc, 
    let k := dFld d 135 128
    
    let n := dFld d 139 136
    (Taken s 0x62 fn d 0) ∧ ((n = 0 ∨ (s.pattern n).isEmpty = false)) :=
  ⟨norm, 0, 0, mk 0x62 0 (at_ 255 128), by decide +kernel, by decide +kernel⟩

theorem wit_forgoes :
  (∃ s : State, ∃ fn : Nat, ∃ sq : Nat, ∃ d : Desc, ∃ p : Nat, ∃ pid : Nat, ∃ g : Page, 
    let i := hIdx (dHnd d)
    
    let c := s.cmdOf fn sq d false
    (TakenSess s 0x63 fn d true false p) ∧ (s.pidAt i (dFld d 135 128) (dFld d 155 136) = some pid) ∧ (s.pages.pages.get? pid = some g) ∧ (g.inT1 = false) ∧ (g.lowChk = .failed))
  ∧ (∃ s : State, ∃ fn : Nat, ∃ sq : Nat, ∃ d : Desc, ∃ p : Nat, ∃ pid : Nat, ∃ g : Page, 
    let i := hIdx (dHnd d)
    
    let c := s.cmdOf fn sq d false
    (TakenSess s 0x63 fn d true false p) ∧ (s.pidAt i (dFld d 135 128) (dFld d 155 136) = some pid) ∧ (s.pages.pages.get? pid = some g) ∧ ((g.inT1 = true ∨ g.lowChk ≠ .failed))) :=
  ⟨⟨withPg (withE (entry .idle)) { lowPage with lowChk := .failed }, 0, 0, mk 0x63 h0 0, 0, 1, { lowPage with lowChk := .failed }, by decide +kernel, by decide +kernel, by decide +kernel, by decide +kernel, by decide +kernel⟩,
   ⟨withPg (withE (entry .idle)) page0, 0, 0, mk 0x63 h0 0, 0, 1, page0, by decide +kernel, by decide +kernel, by decide +kernel, by decide +kernel⟩⟩

theorem wit_counterClears : ∃ s : State, ∃ o : Origin, ∃ idx : Nat, ∃ v : List Byte, (Writable s o idx 0xF1 v) :=
  ⟨norm, (.mailbox 0), 0x8600, leBytes 8 1, by decide +kernel⟩

theorem wit_dailyReports :
  (∃ s : State, ∃ h : Nat, (h < 2) ∧ 
    let s0 := s.dayRoll
    
    let s1 : State := { s0 with tiers := { s0.tiers with t2rep := s0.tiers.t2rep.set h (s0.tiers.t2day.get h) } }
    ((s0.boot.bridge = false ∨ s0.clk.lead.half = some h)) ∧ (s1.withinBudget = true))
  ∧ (∃ s : State, ∃ h : Nat, (h < 2) ∧ 
    let s0 := s.dayRoll
    
    let s1 : State := { s0 with tiers := { s0.tiers with t2rep := s0.tiers.t2rep.set h (s0.tiers.t2day.get h) } }
    ((s0.boot.bridge = false ∨ s0.clk.lead.half = some h)) ∧ (s1.withinBudget = false)) :=
  ⟨⟨norm, 1, by decide +kernel, by decide +kernel, by decide +kernel⟩,
   ⟨setV norm 0x3000 7 [0#8], 0, by decide +kernel, by decide +kernel, by decide +kernel⟩⟩

theorem wit_bathQuiets :
  (∃ s : State, 
    let b := s.sched.bath
    (b.level ≠ 0) ∧ (b.quiet = false) ∧ (s.bathRests = true) ∧ (b.mask ≠ 0xFF))
  ∧ (∃ s : State, 
    let b := s.sched.bath
    ((b.level = 0 ∨ b.quiet = true))) :=
  ⟨⟨bath7 1 1 false false, by decide +kernel, by decide +kernel, by decide +kernel, by decide +kernel⟩,
   ⟨norm, by decide +kernel⟩⟩

theorem wit_ckptStarts :
  (∃ s : State, ∃ fn : Nat, ∃ sq : Nat, ∃ d : Desc, ∃ p : Nat, (Taken s 0x70 fn d p) ∧ 
    let c := s.cmdOf fn sq d false
    ∃ s1, (p = 0) ∧ (s.startCkpt (some c) (dFlag d 24) = .ok s1))
  ∧ (∃ s : State, ∃ fn : Nat, ∃ sq : Nat, ∃ d : Desc, ∃ p : Nat, (Taken s 0x70 fn d p) ∧ 
    let c := s.cmdOf fn sq d false
    ∃ st, ∃ dt, (p = 0) ∧ (s.startCkpt (some c) (dFlag d 24) = .error (st, dt)))
  ∧ (∃ s : State, ∃ fn : Nat, ∃ sq : Nat, ∃ d : Desc, ∃ p : Nat, (Taken s 0x70 fn d p) ∧ 
    let c := s.cmdOf fn sq d false
    (p ≠ 0)) :=
  ⟨⟨slot7, 0, 0, mk 0x70 0 0, 0, by decide +kernel, okOf (slot7.startCkpt (some (slot7.cmdOf 0 0 (mk 0x70 0 0) false)) (dFlag (mk 0x70 0 0) 24)) slot7, by decide +kernel, by exact ok_of _ (by decide +kernel)⟩,
   ⟨norm, 0, 0, mk 0x70 0 0, 0, by decide +kernel, stBAD, dRANGE, by decide +kernel, by decide +kernel⟩,
   ⟨setV norm 0x7080 2 [1#8], 1, 0, mk 0x70 0 0, 1, by decide +kernel, by decide +kernel⟩⟩

theorem wit_ckptOpened : ∃ s : State, ∃ s1 : State, ∃ cmd : Option Cmd, ∃ double : Bool, (s.startCkpt cmd double = .ok s1) :=
  ⟨slot7, okOf (slot7.startCkpt (some cmd0) false) slot7, some cmd0, false, by exact ok_of _ (by decide +kernel)⟩

theorem wit_ckptZeroes : ∃ s : State, ∃ r : CkptRun, (s.ckpt.run = some r) ∧ (r.zeroed = false) ∧ (r.img = none) ∧ ((r.double = true ∨ s.noBuffers = false)) ∧ (s.sched.bath.level = 0) :=
  ⟨runs { run0 1 with zeroed := false }, { run0 1 with zeroed := false }, by decide +kernel, by decide +kernel, by decide +kernel, by decide +kernel, by decide +kernel⟩

theorem wit_ckptCuts : ∃ s : State, ∃ r : CkptRun, (s.ckpt.run = some r) ∧ (r.phase = 1) ∧ (r.zeroed = true) ∧ (s.sched.bath.quiet = true) ∧ (s.boot.bridge = false) ∧ (r.double = false) :=
  ⟨{ runs (run0 1) with sched := (bath7 1 0xFF true true).sched }, run0 1, by decide +kernel, by decide +kernel, by decide +kernel, by decide +kernel, by decide +kernel, by decide +kernel⟩

theorem wit_ckptWaits : ∃ s : State, (s.sched.bath.quiet = false) :=
  ⟨norm, by decide +kernel⟩

theorem wit_ckptTimesOut :
  (∃ s : State, ∃ r : CkptRun, (s.ckpt.run = some r) ∧ (r.phase = 1) ∧ (r.zeroed = true) ∧ (s.sched.bath.quiet = false))
  ∧ (∃ s : State, ∃ r : CkptRun, (s.ckpt.run = some r) ∧ (r.phase = 1) ∧ (r.zeroed = true) ∧ (s.sched.bath.quiet = true)) :=
  ⟨⟨{ runs (run0 1) with sched := (bath7 1 0xFF false true).sched }, run0 1, by decide +kernel, by decide +kernel, by decide +kernel, by decide +kernel⟩,
   ⟨{ runs (run0 1) with sched := (bath7 1 0xFF true true).sched }, run0 1, by decide +kernel, by decide +kernel, by decide +kernel, by decide +kernel⟩⟩

theorem wit_drains : ∃ s : State, ∃ h : Nat, ∃ r : CkptRun, ∃ x : Image, (h < 2) ∧ (s.ckptCheck = s) ∧ (s.ckpt.run = some r) ∧ (r.img = some x) ∧ (r.phase = 2) ∧ (r.zeroed = true) ∧ (s.boot.bridge = false) ∧ (r.drained.get (1 - h) = true) ∧ (x.bytes ≤ 2097152 * s.slotLen (r.target - 1)) :=
  ⟨runs { run0 2 with img := some img0 }, 1, { run0 2 with img := some img0 }, img0, by decide +kernel, by rfl, by rfl, by rfl, by decide +kernel, by decide +kernel, by decide +kernel, by decide +kernel, by decide +kernel⟩

theorem wit_sheets : ∃ s : State, ∃ r : CkptRun, ∃ x : Image, (s.ckptCheck = s) ∧ (s.ckpt.run = some r) ∧ (r.img = some x) ∧ (r.phase = 3) :=
  ⟨runs { run0 3 with img := some img0 }, { run0 3 with img := some img0 }, img0, by rfl, by rfl, by rfl, by decide +kernel⟩

theorem wit_commits : ∃ s : State, ∃ r : CkptRun, ∃ x : Image, ∃ c : Cmd, (s.ckptCheck = s) ∧ (s.ckpt.run = some r) ∧ (r.img = some x) ∧ (r.phase = 4) ∧ (r.double = false) ∧ (r.cmd = some c) ∧ (s.sched.bath.ckpt = false) ∧ 
    let y : Image := { x with seq := r.seq, base := s.slotBase (r.target - 1) }
    
    let s2 := ((State.count { s with ckpt := { s.ckpt with slots := s.ckpt.slots.put r.target y } } 0x8320 1 1).countUnits 0x8320 5 4096 y.bytes).raise
      0x3020 0 0 ([r.target] ++ w2 r.seq)
    (s2.sched.bath.ckpt = false) :=
  ⟨runs { run0 4 with img := some img0 }, { run0 4 with img := some img0 }, img0, cmd0, by rfl, by rfl, by rfl, by decide +kernel, by decide +kernel, by decide +kernel, by decide +kernel, by decide +kernel⟩

theorem wit_ckptAborts :
  (∃ s : State, ∃ fn : Nat, ∃ sq : Nat, ∃ d : Desc, (Taken s 0x71 fn d 0) ∧ 
    let c := s.cmdOf fn sq d false
    (s.ckpt.run.isSome = true))
  ∧ (∃ s : State, ∃ fn : Nat, ∃ sq : Nat, ∃ d : Desc, (Taken s 0x71 fn d 0) ∧ 
    let c := s.cmdOf fn sq d false
    (s.ckpt.run = none)) :=
  ⟨⟨runs (run0 1), 0, 0, mk 0x71 0 0, by decide +kernel, by decide +kernel⟩,
   ⟨norm, 0, 0, mk 0x71 0 0, by decide +kernel, by decide +kernel⟩⟩

theorem wit_restores :
  (∃ s : State, ∃ fn : Nat, ∃ sq : Nat, ∃ d : Desc, (Taken s 0x72 fn d 0) ∧ 
    let c := s.cmdOf fn sq d false
    
    let n := dFld d 129 128
    (n ≤ 2) ∧ ∃ k, ∃ x, (s.inMaint = true) ∧ (s.ckpt.run = none) ∧ (s.ckpt.restore = none) ∧ (s.selected n = some (k, x)) ∧ (x.step = 0xB0))
  ∧ (∃ s : State, ∃ fn : Nat, ∃ sq : Nat, ∃ d : Desc, (Taken s 0x72 fn d 0) ∧ 
    let c := s.cmdOf fn sq d false
    
    let n := dFld d 129 128
    (n ≤ 2) ∧ (s.inMaint = false))
  ∧ (∃ s : State, ∃ fn : Nat, ∃ sq : Nat, ∃ d : Desc, (Taken s 0x72 fn d 0) ∧ 
    let c := s.cmdOf fn sq d false
    
    let n := dFld d 129 128
    (n ≤ 2) ∧ (s.inMaint = true) ∧ (s.ckpt.run = none) ∧ (s.ckpt.restore = none) ∧ (s.selected n = none)) :=
  ⟨⟨maint7 [(1, img0)], 0, 0, mk 0x72 0 (at_ 1 128), by decide +kernel, by decide +kernel, 1, img0, by decide +kernel, by decide +kernel, by decide +kernel, by decide +kernel, by decide +kernel⟩,
   ⟨norm, 0, 0, mk 0x72 0 0, by decide +kernel, by decide +kernel, by decide +kernel⟩,
   ⟨maint7 [], 0, 0, mk 0x72 0 (at_ 2 128), by decide +kernel, by decide +kernel, by decide +kernel, by decide +kernel, by decide +kernel, by decide +kernel⟩⟩

theorem wit_restoreEnds :
  (∃ s : State, ∃ c : Cmd, ∃ k : Nat, ∃ resume : Bool, ∃ x : Image, 
    let s0 : State := { s with ckpt := { s.ckpt with restore := none } }
    (s.ckpt.restore = some (some c, k, resume)) ∧ (s.ckpt.slots.get? k = some x) ∧ ∃ s1, (s0.loadImage k x resume = .ok s1))
  ∧ (∃ s : State, ∃ c : Cmd, ∃ k : Nat, ∃ resume : Bool, ∃ x : Image, 
    let s0 : State := { s with ckpt := { s.ckpt with restore := none } }
    (s.ckpt.restore = some (some c, k, resume)) ∧ (s.ckpt.slots.get? k = some x) ∧ ∃ g, ∃ st, (s0.loadImage k x resume = .error (g, st))) :=
  ⟨⟨restoring img0, cmd0, 1, false, img0, by rfl, by rfl, okOf (({ restoring img0 with ckpt := { (restoring img0).ckpt with restore := none } } : State).loadImage 1 img0 false) norm, by exact ok_of _ (by decide +kernel)⟩,
   ⟨restoring badImg, cmd0, 1, false, badImg, by rfl, by rfl, 0, stDENIED, by decide +kernel⟩⟩

end W07

/-! ### Links and the fabric -/

namespace W08

def lk (l : Link) : State := { norm with fab := { norm.fab with links := [(0, l)] } }
def upLink : Link := { Link.blank with st := 2, used := 15, peer := 5, peerKind := 0 }
def cap5 : BitVec 256 := BitVec.ofNat 256 (State.capRecord { norm with boot := { norm.boot with bslot := 1 } } 0 1)
def ack5 : BitVec 256 := BitVec.ofNat 256 (State.capRecord { norm with boot := { norm.boot with bslot := 1 } } 0 2)
def flit1 : Flit := { seq := 0, vc := 0, som := true, eom := true, abt := false, payload := [] }
def nakFlit : BitVec 2048 := BitVec.ofNat 2048 (flitWord 2 none 0 0 0 0)
def crc64Go : List Byte → Nat → Nat
  | [], c => c
  | b :: t, c => if crc64Byte c b = 0 then crc64Go t 0 else crc64Go t (crc64Byte c b)

theorem crc64Go_eq : ∀ (l : List Byte) (c : Nat), crc64Go l c = l.foldl crc64Byte c
  | [], c => rfl
  | b :: t, c => by
    rw [crc64Go, List.foldl_cons]
    split
    · rename_i h; rw [h]; exact crc64Go_eq t 0
    · exact crc64Go_eq t _

theorem crc64_go : crc64 = fun b => crc64Go b 0 := by
  funext b; rw [crc64Go_eq]; rfl
def hello0 (d : Nat) : BitVec 128 := BitVec.ofNat 128 (withPar (d * 2 ^ 88 + 2 ^ 120) 2 1 0)
def msg0 (dst : Nat) : Msg := { dst, src := 5, part := 0, mtype := 0x30, vc := 0, enc := false, hops := 0, ctr := 1, body := List.replicate 16 0#8 }
def hdr0 (dst : Nat) : BitVec 256 := BitVec.ofNat 256 (msg0 dst).header
def pol0 : State := [(1, 1000000, 5), (2, 65536, 4), (3, 1000000, 5), (4, 65536, 4)].foldl (fun s x => setV s 0x4190 x.1 (leBytes x.2.2 x.2.1)) norm
def sched0 : List Byte := leBytes 16 (0x5447 * 2 ^ 112 + 2 ^ 104 + 2 ^ 96) ++ leBytes 4 (255 + 1000 * 256)
def gated0 : State := setV (setV (lk upLink) 0x41B0 0x11 [0#8]) 0x41A0 1 sched0

theorem wit_capReceives :
  (∃ s : State, ∃ k : Nat, ∃ r : BitVec 256, (k < 96) ∧ ((s.link k).st = 1) ∧ (bits r 255 248 = 1) ∧ (capBad s.self r = true))
  ∧ (∃ s : State, ∃ k : Nat, ∃ r : BitVec 256, (k < 96) ∧ ((s.link k).st = 1) ∧ (bits r 255 248 = 1) ∧ (capBad s.self r = false) ∧ (capValid r = true))
  ∧ (∃ s : State, ∃ k : Nat, ∃ r : BitVec 256, (k < 96) ∧ ((s.link k).st ≠ 1)) :=
  ⟨⟨lk { Link.blank with st := 1 }, 0, BitVec.ofNat 256 (2 ^ 248), by decide +kernel, by decide +kernel, by decide +kernel, by decide +kernel⟩,
   ⟨lk { Link.blank with st := 1 }, 0, cap5, by decide +kernel, by decide +kernel, by decide +kernel, by decide +kernel, by decide +kernel⟩,
   ⟨norm, 0, 0#256, by decide +kernel, by decide +kernel⟩⟩

theorem wit_capAckReceives : ∃ s : State, ∃ k : Nat, ∃ r : BitVec 256, (k < 96) ∧ ((s.link k).st = 1) ∧ (bits r 255 248 = 2) ∧ (capBad s.self r = false) ∧ (capValid r = true) :=
  ⟨lk { Link.blank with st := 1 }, 0, ack5, by decide +kernel, by decide +kernel, by decide +kernel, by decide +kernel, by decide +kernel⟩

theorem wit_trainTimers : ∃ s : State, ∃ k : Nat, (k < 96) ∧ ((s.link k).st = 1) :=
  ⟨lk { Link.blank with st := 1 }, 0, by decide +kernel, by decide +kernel⟩

theorem wit_linkTrains :
  (∃ s : State, ∃ k : Nat, (k < 96) ∧ ((s.link k).st = 0))
  ∧ (∃ s : State, ∃ k : Nat, (k < 96) ∧ ((s.link k).st ≠ 0)) :=
  ⟨⟨norm, 95, by decide +kernel, by decide +kernel⟩,
   ⟨lk upLink, 0, by decide +kernel, by decide +kernel⟩⟩

theorem wit_waveLoses :
  (∃ s : State, ∃ k : Nat, ∃ w : Nat, (k < 96) ∧ (w < 4) ∧ 
    let l := s.link k
    
    let lost := Nat.lor l.lost (2 ^ w)
    (l.st = 2) ∧ (widthOf (15 - lost) ≠ 0))
  ∧ (∃ s : State, ∃ k : Nat, ∃ w : Nat, (k < 96) ∧ (w < 4) ∧ 
    let l := s.link k
    
    let lost := Nat.lor l.lost (2 ^ w)
    (l.st = 2) ∧ (widthOf (15 - lost) = 0))
  ∧ (∃ s : State, ∃ k : Nat, ∃ w : Nat, (k < 96) ∧ (w < 4) ∧ 
    let l := s.link k
    
    let lost := Nat.lor l.lost (2 ^ w)
    (l.st = 3) ∧ (bitN l.used w = true))
  ∧ (∃ s : State, ∃ k : Nat, ∃ w : Nat, (k < 96) ∧ (w < 4) ∧ 
    let l := s.link k
    
    let lost := Nat.lor l.lost (2 ^ w)
    (l.st = 3) ∧ (bitN l.used w = false)) :=
  ⟨⟨lk upLink, 0, 3, by decide +kernel, by decide +kernel, by decide +kernel, by decide +kernel⟩,
   ⟨lk { upLink with lost := 5 }, 0, 3, by decide +kernel, by decide +kernel, by decide +kernel, by decide +kernel⟩,
   ⟨lk { upLink with st := 3, used := 3, lost := 12 }, 0, 0, by decide +kernel, by decide +kernel, by decide +kernel, by decide +kernel⟩,
   ⟨lk { upLink with st := 3, used := 3, lost := 12 }, 0, 3, by decide +kernel, by decide +kernel, by decide +kernel, by decide +kernel⟩⟩

theorem wit_narrowed : ∃ s : State, ∃ k : Nat, (k < 96) :=
  ⟨norm, 95, by decide +kernel⟩

theorem wit_silences : ∃ s : State, ∃ k : Nat, (k < 96) ∧ ((s.link k).inService = true) :=
  ⟨lk upLink, 0, by decide +kernel, by decide +kernel⟩

theorem wit_laserFails : ∃ s : State, ∃ port : Nat, ∃ wave : Nat, (port < 8) ∧ (wave < 4) ∧ (s.fab.lasers.contains (4 * port + wave) = false) :=
  ⟨norm, 7, 3, by decide +kernel, by decide +kernel, by decide +kernel⟩

theorem wit_flits :
  (∃ s : State, ∃ k : Nat, ∃ f : BitVec 2048, (k < 96) ∧ 
    let l := s.link k
    
    let s1 := s.setLink k (l.takeReturn (bits f 17 6) (bits f 1983 1981) (bits f 1979 1968))
    (l.carries = true) ∧ (flitGood f = false))
  ∧ (∃ s : State, ∃ k : Nat, ∃ f : BitVec 2048, (k < 96) ∧ 
    let l := s.link k
    
    let s1 := s.setLink k (l.takeReturn (bits f 17 6) (bits f 1983 1981) (bits f 1979 1968))
    (l.carries = true) ∧ (flitGood f = true) ∧ (bit f 1980 = false) ∧ (bits f 31 30 = 0) ∧ (bits f 29 18 = (l.last + 1) % 4096))
  ∧ (∃ s : State, ∃ k : Nat, ∃ f : BitVec 2048, (k < 96) ∧ 
    let l := s.link k
    
    let s1 := s.setLink k (l.takeReturn (bits f 17 6) (bits f 1983 1981) (bits f 1979 1968))
    (l.carries = true) ∧ (flitGood f = true) ∧ (bit f 1980 = false) ∧ (bits f 31 30 = 0) ∧ (bits f 29 18 ≠ (l.last + 1) % 4096))
  ∧ (∃ s : State, ∃ k : Nat, ∃ f : BitVec 2048, (k < 96) ∧ 
    let l := s.link k
    
    let s1 := s.setLink k (l.takeReturn (bits f 17 6) (bits f 1983 1981) (bits f 1979 1968))
    (l.carries = true) ∧ (flitGood f = true) ∧ (bit f 1980 = false) ∧ (bits f 31 30 = 2))
  ∧ (∃ s : State, ∃ k : Nat, ∃ f : BitVec 2048, (k < 96) ∧ 
    let l := s.link k
    
    let s1 := s.setLink k (l.takeReturn (bits f 17 6) (bits f 1983 1981) (bits f 1979 1968))
    (l.carries = false ∨ (flitGood f = true ∧ bit f 1980 = true))) :=
  ⟨⟨lk upLink, 0, 1#2048, by decide +kernel, by decide +kernel, by (simp only [flitGood, crc64_go]; decide +kernel)⟩,
   ⟨lk upLink, 0, 0#2048, by decide +kernel, by decide +kernel, by (simp only [flitGood, crc64_go]; decide +kernel), by decide +kernel, by decide +kernel, by decide +kernel⟩,
   ⟨lk { upLink with last := 5 }, 0, 0#2048, by decide +kernel, by decide +kernel, by (simp only [flitGood, crc64_go]; decide +kernel), by decide +kernel, by decide +kernel, by decide +kernel⟩,
   ⟨lk upLink, 0, nakFlit, by decide +kernel, by decide +kernel, by (simp only [flitGood, crc64_go]; decide +kernel), by decide +kernel, by decide +kernel⟩,
   ⟨norm, 0, 0#2048, by decide +kernel, by decide +kernel⟩⟩

theorem wit_replays :
  (∃ s : State, ∃ k : Nat, (k < 96) ∧ 
    let l := s.link k
    (l.replay ≠ []) ∧ (l.carries = true) ∧ ((l.st = 4 ∨ l.replays + 1 < l.replayMax)))
  ∧ (∃ s : State, ∃ k : Nat, (k < 96) ∧ 
    let l := s.link k
    (l.replay ≠ []) ∧ (l.carries = true) ∧ (l.st ≠ 4) ∧ (l.replayMax ≤ l.replays + 1))
  ∧ (∃ s : State, ∃ k : Nat, (k < 96) ∧ 
    let l := s.link k
    (l.replay = [])) :=
  ⟨⟨lk { upLink with replay := [flit1] }, 0, by decide +kernel, by decide +kernel, by decide +kernel, by exact .inr (by decide +kernel)⟩,
   ⟨lk { upLink with replay := [flit1], replays := 7 }, 0, by decide +kernel, by decide +kernel, by decide +kernel, by decide +kernel, by decide +kernel⟩,
   ⟨norm, 0, by decide +kernel, by decide +kernel⟩⟩

theorem wit_messages :
  (∃ s : State, ∃ k : Nat, ∃ t : Nat, ∃ hdr : BitVec 256, ∃ body : List Byte, (k < 96) ∧ 
    let m := Msg.parse hdr body
    
    let s0 := s.at t
    (msgOk hdr m false = false))
  ∧ (∃ s : State, ∃ k : Nat, ∃ t : Nat, ∃ hdr : BitVec 256, ∃ body : List Byte, (k < 96) ∧ 
    let m := Msg.parse hdr body
    
    let s0 := s.at t
    (msgOk hdr m false = true) ∧ ((s0.link k).peerKind = 0) ∧ (m.dst = s0.self)) :=
  ⟨⟨lk upLink, 0, 0, 0#256, [], by decide +kernel, by decide +kernel⟩,
   ⟨lk upLink, 0, 0, hdr0 0, List.replicate 16 0#8, by decide +kernel, by decide +kernel, by decide +kernel, by decide +kernel⟩⟩

theorem wit_consumes : ∃ s : State, ∃ k : Nat, ∃ m : Msg, (s.partOn m.part = true) ∧ (s.sec.linkKeys.get? m.part = none) ∧ (s.confidential = false) ∧ (m.enc = false) :=
  ⟨norm, 0, msg0 0, by decide +kernel, by decide +kernel, by decide +kernel, by decide +kernel⟩

theorem wit_forwards :
  (∃ s : State, ∃ k : Nat, ∃ t : Nat, ∃ hdr : BitVec 256, ∃ body : List Byte, (k < 96) ∧ 
    let m := Msg.parse hdr body
    
    let s0 := s.at t
    (msgOk hdr m false = true) ∧ ((s0.link k).peerKind = 0) ∧ (m.dst ≠ s0.self) ∧ ((s0.link k).mismatch = false))
  ∧ (∃ s : State, ∃ k : Nat, ∃ t : Nat, ∃ hdr : BitVec 256, ∃ body : List Byte, (k < 96) ∧ 
    let m := Msg.parse hdr body
    
    let s0 := s.at t
    (msgOk hdr m false = true) ∧ ((s0.link k).peerKind = 0) ∧ (m.dst ≠ s0.self) ∧ ((s0.link k).mismatch = true) ∧ (m.src ≠ (s0.link k).peer)) :=
  ⟨⟨lk upLink, 0, 0, hdr0 9, List.replicate 16 0#8, by decide +kernel, by decide +kernel, by decide +kernel, by decide +kernel, by decide +kernel⟩,
   ⟨lk { upLink with mismatch := true, peer := 6 }, 0, 0, hdr0 9, List.replicate 16 0#8, by decide +kernel, by decide +kernel, by decide +kernel, by decide +kernel, by decide +kernel, by decide +kernel⟩⟩

theorem wit_starts : ∃ s : State, ∃ k : Nat, ∃ v : Nat, ∃ t : Nat, (k < 96) ∧ (v < 8) :=
  ⟨norm, 95, 7, 0, by decide +kernel, by decide +kernel⟩

theorem wit_gates : ∃ s : State, ∃ k : Nat, ∃ t : Nat, ∃ es : List (Nat × Nat), (k < 96) ∧ (s.schedule k = some es) ∧ (es ≠ []) :=
  ⟨gated0, 0, 0, [(1000, 255)], by decide +kernel, by decide +kernel, by decide +kernel⟩

theorem wit_helloSends :
  (∃ s : State, ∃ k : Nat, (k < 96) ∧ ((s.link k).inService = true) ∧ ((s.link k).peerKind = 0) ∧ 
    let m : Msg := { dst := (s.link k).peer, src := s.self, part := 0, mtype := 0x30, vc := 0, enc := false, hops := 0, ctr := 0, body := s.helloBody }
    ∃ m1 : Msg, ∃ fab : Fabric, (s.seal m = some (m1, fab)))
  ∧ (∃ s : State, ∃ k : Nat, (k < 96) ∧ ((s.link k).inService = true) ∧ ((s.link k).peerKind = 0) ∧ 
    let m : Msg := { dst := (s.link k).peer, src := s.self, part := 0, mtype := 0x30, vc := 0, enc := false, hops := 0, ctr := 0, body := s.helloBody }
    (s.seal m = none)) :=
  ⟨⟨lk upLink, 0, by decide +kernel, by decide +kernel, by decide +kernel, { dst := ((lk upLink).link 0).peer, src := (lk upLink).self, part := 0, mtype := 48, vc := 0, enc := false, hops := 0, ctr := 0, body := (lk upLink).helloBody }, (lk upLink).fab, by rfl⟩,
   ⟨(lk upLink).dsetN 0x7000 2 1, 0, by decide +kernel, by decide +kernel, by decide +kernel, by decide +kernel⟩⟩

theorem wit_hellos :
  (∃ s : State, ∃ k : Nat, ∃ hdr : BitVec 128, (k < 96) ∧ (parOk hdr.toNat 2 1 0 = true) ∧ (zeroBits hdr 69 2 = true) ∧ (bits hdr 127 120 = 1) ∧ ((s.link k).peerKind = 0) ∧ ((s.link k).inService = true) ∧ (bits hdr 119 88 = s.mapDigest))
  ∧ (∃ s : State, ∃ k : Nat, ∃ hdr : BitVec 128, (k < 96) ∧ (parOk hdr.toNat 2 1 0 = true) ∧ (zeroBits hdr 69 2 = true) ∧ (bits hdr 127 120 = 1) ∧ ((s.link k).peerKind = 0) ∧ ((s.link k).inService = true) ∧ (bits hdr 119 88 ≠ s.mapDigest) ∧ ((s.link k).mismatch = false))
  ∧ (∃ s : State, ∃ k : Nat, ∃ hdr : BitVec 128, (k < 96) ∧ (parOk hdr.toNat 2 1 0 = true) ∧ (zeroBits hdr 69 2 = true) ∧ (bits hdr 127 120 = 1) ∧ ((s.link k).peerKind = 0) ∧ ((s.link k).inService = true) ∧ (bits hdr 119 88 ≠ s.mapDigest) ∧ ((s.link k).mismatch = true)) :=
  ⟨⟨lk upLink, 0, hello0 norm.mapDigest, by decide +kernel, by decide +kernel, by decide +kernel, by decide +kernel, by decide +kernel, by decide +kernel, by decide +kernel⟩,
   ⟨lk upLink, 0, hello0 (norm.mapDigest ^^^ 1), by decide +kernel, by decide +kernel, by decide +kernel, by decide +kernel, by decide +kernel, by decide +kernel, by decide +kernel, by decide +kernel⟩,
   ⟨lk { upLink with mismatch := true }, 0, hello0 (norm.mapDigest ^^^ 1), by decide +kernel, by decide +kernel, by decide +kernel, by decide +kernel, by decide +kernel, by decide +kernel, by decide +kernel, by decide +kernel⟩⟩

theorem wit_policerWrites :
  (∃ s : State, ∃ o : Origin, ∃ id : Nat, ∃ sub : Nat, ∃ v : List Byte, (id < 16) ∧ 
    let s1 := s.dset (0x4190 + id) sub v
    
    let p := s1.policer id
    
    let bad := p.pir < p.cir ∨ 4800000000000 < p.pir ∨ p.cir < 1000000 ∨ p.cbs < 65536 ∨ p.pbs < 65536
    (Writable s o (0x4190 + id) sub v) ∧ (¬ bad))
  ∧ (∃ s : State, ∃ o : Origin, ∃ id : Nat, ∃ sub : Nat, ∃ v : List Byte, (id < 16) ∧ 
    let s1 := s.dset (0x4190 + id) sub v
    
    let p := s1.policer id
    
    let bad := p.pir < p.cir ∨ 4800000000000 < p.pir ∨ p.cir < 1000000 ∨ p.cbs < 65536 ∨ p.pbs < 65536
    (Checked s o (0x4190 + id) sub v) ∧ (bad)) :=
  ⟨⟨pol0, (.mailbox 0), 0, 2, leBytes 4 65537, by decide +kernel, by decide +kernel, by decide +kernel⟩,
   ⟨pol0, (.mailbox 0), 0, 2, leBytes 4 1, by decide +kernel, by decide +kernel, by decide +kernel⟩⟩

theorem wit_scheduleWrites :
  (∃ s : State, ∃ o : Origin, ∃ id : Nat, ∃ v : List Byte, (id < 16) ∧ 
    let named := (List.range 96).any (fun k => s.dval (0x41B0 + k / 4) (0x11 + k % 4) == id)
    (Writable s o 0x41A0 (1 + id) v) ∧ (named = false) ∧ (scheduleOk v = true))
  ∧ (∃ s : State, ∃ o : Origin, ∃ id : Nat, ∃ v : List Byte, (id < 16) ∧ 
    let named := (List.range 96).any (fun k => s.dval (0x41B0 + k / 4) (0x11 + k % 4) == id)
    (Checked s o 0x41A0 (1 + id) v) ∧ (named = true)) :=
  ⟨⟨norm, (.mailbox 0), 15, [], by decide +kernel, by decide +kernel, by decide +kernel, by decide +kernel⟩,
   ⟨setV norm 0x41B0 0x11 [3#8], (.mailbox 0), 3, [], by decide +kernel, by decide +kernel, by decide +kernel⟩⟩

theorem wit_markClears : ∃ s : State, ∃ o : Origin, ∃ idx : Nat, ∃ v : List Byte, (Writable s o idx (markRange idx).1 v) :=
  ⟨norm, (.mailbox 0), 0x410F, [1#8], by decide +kernel⟩

end W08

/-! ### Rings and CXL.mem -/

namespace W09

def cq1 : Ring := ring0 2 1
def host9 (p : Port) : State := withG { norm with host := { norm.host with ports := [(0, p)] } } 0 { gran0 with pin := true }
def win0 : Window := { reg := false, region := 0, gran := 0, count := 1, hoff := 0, ro := false, fn := 0, part := 0, closing := false, closer := none, recalled := 0 }
def portC : Port := { Port.blank with link := 2, windows := [(0, win0)] }
def cohR : Ring := { ring0 1 1 with coh := true, hidx := 8 }
def line0 : Line := { addr := 0, owned := true, snooped := false }
def pub0 (e : Nat) : PubWait := { cmd := cmd0, region := 0, gran := 1, expect := e, active := false }
def zeros9 : State :=
  let put := fun (s : State) (x : Nat × Nat) => { s with dict := { s.dict with vals := s.dict.vals.put (fkey 1 0x1180 x.1) (leBytes 8 x.2) } }
  [(1, 4096), (3, 64), (5, 8192), (7, 128), (4, 192)].foldl put (setV norm 0x7080 2 [0#8])
def doe9 (fn : Nat) : State := { norm with sec := { norm.sec with sess := [(1, { via := .doe fn, open_ := true, principal := 0, asked := false, chain := [], last := 0, keyGen := 0 })] } }
def tdi9 (n : Nat) : State := { doe9 0 with host := { norm.host with tdi := [(63, n)] } }

theorem wit_tailPolls :
  (∃ s : State, ∃ port : Nat, ∃ fn : Nat, ∃ id : Nat, ∃ tail : Nat, (port < 4) ∧ ∃ r : Ring, (s.ring (ringKey fn 1 id) = some r) ∧ (r.coh = false) ∧ (fn / 64 = port))
  ∧ (∃ s : State, ∃ port : Nat, ∃ fn : Nat, ∃ id : Nat, ∃ tail : Nat, (port < 4) ∧ (s.ring (ringKey fn 1 id) = none)) :=
  ⟨⟨withRing norm (ring0 1 1), 0, 0, 1, 0, by decide +kernel, ring0 1 1, by decide +kernel, by decide +kernel, by decide +kernel⟩,
   ⟨norm, 3, 255, 0, 0, by decide +kernel, by decide +kernel⟩⟩

theorem wit_fetches :
  (∃ s : State, ∃ k : Nat, ∃ r : Ring, 
    let n := (r.hostIdx + 2 ^ 32 - r.posted) % 2 ^ 32
    (s.ring k = some r) ∧ (r.kind = 1) ∧ (r.stopped = false) ∧ (n ≠ 0) ∧ (s.host.stops.contains r.fn = false) ∧ (16 * 2 ^ r.lgsz < n))
  ∧ (∃ s : State, ∃ k : Nat, ∃ r : Ring, 
    let n := (r.hostIdx + 2 ^ 32 - r.posted) % 2 ^ 32
    (s.ring k = some r) ∧ (r.kind = 1) ∧ (r.stopped = false) ∧ (n ≠ 0) ∧ (s.host.stops.contains r.fn = false) ∧ (n ≤ 16 * 2 ^ r.lgsz) ∧ (s.ring (ringKey r.fn 2 r.cq) = none) ∧ (r.didx = 0)) :=
  ⟨⟨withRing norm { ring0 1 1 with hostIdx := 17 }, ringKey 0 1 1, { ring0 1 1 with hostIdx := 17 }, by decide +kernel, by decide +kernel, by decide +kernel, by decide +kernel, by decide +kernel, by decide +kernel⟩,
   ⟨withRing norm { ring0 1 1 with hostIdx := 16 }, ringKey 0 1 1, { ring0 1 1 with hostIdx := 16 }, by decide +kernel, by decide +kernel, by decide +kernel, by decide +kernel, by decide +kernel, by decide +kernel, by decide +kernel, by decide +kernel⟩⟩

theorem wit_headUpdates : ∃ s : State, ∃ fn : Nat, ∃ kind : Nat, ∃ id : Nat, ∃ head : Nat, ∃ r : Ring, (2 ≤ kind) ∧ (kind ≤ 4) ∧ (s.ring (ringKey fn kind id) = some r) ∧ (r.kind = kind) :=
  ⟨withRing norm (ring0 4 1), 0, 4, 1, 0, ring0 4 1, by decide +kernel, by decide +kernel, by decide +kernel, by decide +kernel⟩

theorem wit_msixTimes :
  (∃ s : State, ∃ fn : Nat, ∃ kind : Nat, ∃ id : Nat, ∃ r : Ring, (s.ring (ringKey fn kind id) = some r) ∧ (2 ≤ kind) ∧ (r.iv = true) ∧ (r.msg ≠ 0))
  ∧ (∃ s : State, ∃ fn : Nat, ∃ kind : Nat, ∃ id : Nat, ∃ r : Ring, (s.ring (ringKey fn kind id) = some r) ∧ (2 ≤ kind) ∧ (r.iv = true) ∧ (r.msg = 0)) :=
  ⟨⟨withRing norm { ring0 2 1 with iv := true, msg := 3 }, 0, 2, 1, { ring0 2 1 with iv := true, msg := 3 }, by decide +kernel, by decide +kernel, by decide +kernel, by decide +kernel⟩,
   ⟨withRing norm { ring0 2 1 with iv := true }, 0, 2, 1, { ring0 2 1 with iv := true }, by decide +kernel, by decide +kernel, by decide +kernel, by decide +kernel⟩⟩

theorem wit_msixUnmasks :
  (∃ s : State, ∃ fn : Nat, ∃ v : Nat, (fn < 256) ∧ (v < 2048) ∧ (s.host.unmasked.contains (fn * 2048 + v) = false) ∧ 
    let s1 : State := { s with host := { s.host with unmasked := (fn * 2048 + v) :: s.host.unmasked,
                                                     pendingV := s.host.pendingV.filter (fun x => x != fn * 2048 + v) } }
    (s.host.pendingV.contains (fn * 2048 + v) = true))
  ∧ (∃ s : State, ∃ fn : Nat, ∃ v : Nat, (fn < 256) ∧ (v < 2048) ∧ (s.host.unmasked.contains (fn * 2048 + v) = false) ∧ 
    let s1 : State := { s with host := { s.host with unmasked := (fn * 2048 + v) :: s.host.unmasked,
                                                     pendingV := s.host.pendingV.filter (fun x => x != fn * 2048 + v) } }
    (s.host.pendingV.contains (fn * 2048 + v) = false)) :=
  ⟨⟨{ norm with host := { norm.host with pendingV := [255 * 2048 + 2047] } }, 255, 2047, by decide +kernel, by decide +kernel, by decide +kernel, by decide +kernel⟩,
   ⟨norm, 255, 2047, by decide +kernel, by decide +kernel, by decide +kernel, by decide +kernel⟩⟩

theorem wit_ringCreates :
  (∃ s : State, ∃ fn : Nat, ∃ sq : Nat, ∃ d : Desc, ∃ p : Nat, (Taken s 0x80 fn d p) ∧ 
    let c := s.cmdOf fn sq d false
    
    let r := s.descRing c.fn d
    (r.id ≠ 0) ∧ (r.kind ≠ 0) ∧ (r.kind ≤ 4) ∧ (r.lgsz ≤ 12) ∧ ((r.iv = true → r.cthr ≠ 0)) ∧ (s.ringFault p r = false))
  ∧ (∃ s : State, ∃ fn : Nat, ∃ sq : Nat, ∃ d : Desc, ∃ p : Nat, (Taken s 0x80 fn d p) ∧ 
    let c := s.cmdOf fn sq d false
    
    let r := s.descRing c.fn d
    (r.id ≠ 0) ∧ (r.kind ≠ 0) ∧ (r.kind ≤ 4) ∧ (r.lgsz ≤ 12) ∧ ((r.iv = true → r.cthr ≠ 0)) ∧ (s.ringFault p r = true)) :=
  ⟨⟨norm, 0, 0, mk 0x80 0 (at_ 1 320 + at_ 2 328 + at_ 4096 128 + at_ 64 192 + at_ 128 256 + at_ 1 355 + at_ 1 357), 0, by decide +kernel, by decide +kernel, by decide +kernel, by decide +kernel, by decide +kernel, by decide +kernel, by decide +kernel⟩,
   ⟨norm, 0, 0, mk 0x80 0 (at_ 1 320 + at_ 2 328 + at_ 64 192 + at_ 128 256 + at_ 1 355 + at_ 1 357), 0, by decide +kernel, by decide +kernel, by decide +kernel, by decide +kernel, by decide +kernel, by decide +kernel, by decide +kernel⟩⟩

theorem wit_ringDeletes :
  (∃ s : State, ∃ fn : Nat, ∃ sq : Nat, ∃ d : Desc, ∃ p : Nat, (Taken s 0x81 fn d p) ∧ 
    let c := s.cmdOf fn sq d false
    
    let id := dFld d 135 128
    
    let kind := dFld d 139 136
    (id ≠ 0) ∧ (kind ≠ 0) ∧ (kind ≤ 4) ∧ ((s.ring (ringKey c.fn kind id)).isSome = true) ∧ ((kind ≠ 2 ∨ (s.sqsOf c.fn id) = [])))
  ∧ (∃ s : State, ∃ fn : Nat, ∃ sq : Nat, ∃ d : Desc, ∃ p : Nat, (Taken s 0x81 fn d p) ∧ 
    let c := s.cmdOf fn sq d false
    
    let id := dFld d 135 128
    
    let kind := dFld d 139 136
    (id ≠ 0) ∧ (kind ≠ 0) ∧ (kind ≤ 4) ∧ ((s.ring (ringKey c.fn kind id)).isSome = true) ∧ (kind = 2) ∧ (s.sqsOf c.fn id ≠ [])) :=
  ⟨⟨withRing norm (ring0 2 1), 0, 0, mk 0x81 0 (at_ 1 128 + at_ 2 136), 0, by decide +kernel, by decide +kernel, by decide +kernel, by decide +kernel, by decide +kernel, by decide +kernel⟩,
   ⟨withRing (withRing norm (ring0 2 1)) { ring0 1 1 with cq := 1 }, 0, 0, mk 0x81 0 (at_ 1 128 + at_ 2 136), 0, by decide +kernel, by decide +kernel, by decide +kernel, by decide +kernel, by decide +kernel, by decide +kernel, by decide +kernel⟩⟩

theorem wit_ringZeros :
  (∃ s : State, ∃ fn : Nat, ∃ p : Nat, ∃ v : List Byte, (Writable s (.mailbox fn) 0x1180 9 v) ∧ (s.fnPart fn = some p) ∧ (leNat v = 1) ∧ (s.ringFault p (s.ringZero fn 2) = false) ∧ ((s.addRing (s.ringZero fn 2) (s.ringStart fn 2 0)).ringFault p (s.ringZero fn 1) = false))
  ∧ (∃ s : State, ∃ fn : Nat, ∃ p : Nat, ∃ v : List Byte, (Writable s (.mailbox fn) 0x1180 9 v) ∧ (s.fnPart fn = some p) ∧ (leNat v ≠ 1) ∧ ((s.sqsOf fn 0).any (fun k => k != ringKey fn 1 0) = false)) :=
  ⟨⟨zeros9, 1, 0, [1#8], by decide +kernel, by decide +kernel, by decide +kernel, by decide +kernel, by decide +kernel⟩,
   ⟨zeros9, 1, 0, [0#8], by decide +kernel, by decide +kernel, by decide +kernel, by decide +kernel⟩⟩

theorem wit_fnResets : ∃ s : State, ∃ fn : Nat, ∃ cause : Nat, (fn < 256) :=
  ⟨norm, 255, 4, by decide +kernel⟩

theorem wit_pcieDowns :
  (∃ s : State, ∃ p : Nat, (p < 4) ∧ ((s.port p).link = 0))
  ∧ (∃ s : State, ∃ p : Nat, (p < 4) ∧ ((s.port p).link ≠ 0)) :=
  ⟨⟨norm, 3, by decide +kernel, by decide +kernel⟩,
   ⟨host9 portC, 0, by decide +kernel, by decide +kernel⟩⟩

theorem wit_pcieUps :
  (∃ s : State, ∃ p : Nat, ∃ lanes : Nat, ∃ rate : Nat, ∃ cxl : Bool, (p < 4) ∧ (s.portFormed p = true) ∧ ((s.port p).perst = false) ∧ (s.boot.mode ≠ 3) ∧ (s.dark = false))
  ∧ (∃ s : State, ∃ p : Nat, ∃ lanes : Nat, ∃ rate : Nat, ∃ cxl : Bool, (p < 4) ∧ ((s.port p).perst = true)) :=
  ⟨⟨norm, 0, 16, 5, false, by decide +kernel, by decide +kernel, by decide +kernel, by decide +kernel, by decide +kernel⟩,
   ⟨host9 { Port.blank with perst := true }, 0, 0, 0, false, by decide +kernel, by decide +kernel⟩⟩

theorem wit_persts : ∃ s : State, ∃ p : Nat, (p < 4) ∧ (s.portFormed p = true) :=
  ⟨norm, 0, by decide +kernel, by decide +kernel⟩

theorem wit_ideFails : ∃ s : State, ∃ p : Nat, ∃ x : Nat, ∃ fn : Nat, (p < 4) ∧ (x < 256) :=
  ⟨norm, 3, 255, 0, by decide +kernel, by decide +kernel⟩

theorem wit_ideKeys :
  (∃ s : State, ∃ p : Nat, ∃ x : Nat, ∃ sid : Nat, (p < 4) ∧ 
    let rest := s.host.ideStreams.filter (fun y => y != 256 * p + x)
    (s.doeSession sid (fun fn => fn == 64 * p) = true) ∧ (x ≤ 5))
  ∧ (∃ s : State, ∃ p : Nat, ∃ x : Nat, ∃ sid : Nat, (p < 4) ∧ 
    let rest := s.host.ideStreams.filter (fun y => y != 256 * p + x)
    (s.doeSession sid (fun fn => fn == 64 * p) = false)) :=
  ⟨⟨doe9 0, 0, 5, 1, by decide +kernel, by decide +kernel, by decide +kernel⟩,
   ⟨norm, 0, 0, 0, by decide +kernel, by decide +kernel⟩⟩

theorem wit_tdisps :
  (∃ s : State, ∃ fn : Nat, ∃ sid : Nat, (fn < 256) ∧ (fn % 64 ≠ 0) ∧ (s.doeSession sid (fun f => f / 64 == fn / 64) = true) ∧ (s.host.tdi.getD fn 0 = 0))
  ∧ (∃ s : State, ∃ fn : Nat, ∃ sid : Nat, (fn < 256) ∧ (fn % 64 ≠ 0) ∧ (s.doeSession sid (fun f => f / 64 == fn / 64) = true) ∧ (s.host.tdi.getD fn 0 = 1))
  ∧ (∃ s : State, ∃ fn : Nat, ∃ sid : Nat, (fn < 256) ∧ (fn % 64 ≠ 0) ∧ (s.doeSession sid (fun f => f / 64 == fn / 64) = true) ∧ (s.host.tdi.getD fn 0 ≠ 0))
  ∧ (∃ s : State, ∃ fn : Nat, ∃ sid : Nat, (fn < 256) ∧ (fn % 64 ≠ 0) ∧ (s.doeSession sid (fun f => f / 64 == fn / 64) = true) ∧ (s.host.tdi.getD fn 0 ≠ 1)) :=
  ⟨⟨tdi9 0, 63, 1, by decide +kernel, by decide +kernel, by decide +kernel, by decide +kernel⟩,
   ⟨tdi9 1, 63, 1, by decide +kernel, by decide +kernel, by decide +kernel, by decide +kernel⟩,
   ⟨tdi9 2, 63, 1, by decide +kernel, by decide +kernel, by decide +kernel, by decide +kernel⟩,
   ⟨tdi9 2, 63, 1, by decide +kernel, by decide +kernel, by decide +kernel, by decide +kernel⟩⟩

theorem wit_tailWrites : ∃ s : State, ∃ p : Nat, ∃ fn : Nat, ∃ id : Nat, ∃ tail : Nat, ∃ hoff : Nat, ∃ owned : Bool, ∃ r : Ring, ∃ w : Window, (p < 4) ∧ (s.ring (ringKey fn 1 id) = some r) ∧ (s.windowOn p r.hidx = some (w, hoff)) ∧ (r.coh = true) ∧ (fn / 64 = p) ∧ ((s.port p).link = 2) :=
  ⟨withRing (host9 portC) cohR, 0, 0, 1, 0, 8, false, cohR, win0, by decide +kernel, by decide +kernel, by decide +kernel, by decide +kernel, by decide +kernel, by decide +kernel⟩

theorem wit_tailSnoops :
  (∃ s : State, ∃ p : Nat, ∃ fn : Nat, ∃ id : Nat, ∃ r : Ring, (p < 4) ∧ (s.ring (ringKey fn 1 id) = some r) ∧ (r.coh = true) ∧ (fn / 64 = p) ∧ 
    let owned := (s.port p).lines.any (fun x => x.addr == r.hidx / 64 && x.owned)
    (owned = true))
  ∧ (∃ s : State, ∃ p : Nat, ∃ fn : Nat, ∃ id : Nat, ∃ r : Ring, (p < 4) ∧ (s.ring (ringKey fn 1 id) = some r) ∧ (r.coh = true) ∧ (fn / 64 = p) ∧ 
    let owned := (s.port p).lines.any (fun x => x.addr == r.hidx / 64 && x.owned)
    (owned = false)) :=
  ⟨⟨withRing (host9 { portC with lines := [line0] }) cohR, 0, 0, 1, cohR, by decide +kernel, by decide +kernel, by decide +kernel, by decide +kernel, by decide +kernel⟩,
   ⟨withRing (host9 portC) cohR, 0, 0, 1, cohR, by decide +kernel, by decide +kernel, by decide +kernel, by decide +kernel, by decide +kernel⟩⟩

theorem wit_hostLeaseEnds :
  (∃ s : State, ∃ p : Nat, (p < 4) ∧ 
    let s1 := (s.updPort p (fun q => { q with lease := false })).raise 0x1003 0 0 [p]
    ((s.port p).lease = true))
  ∧ (∃ s : State, ∃ p : Nat, (p < 4) ∧ 
    let s1 := (s.updPort p (fun q => { q with lease := false })).raise 0x1003 0 0 [p]
    ((s.port p).lease = false)) :=
  ⟨⟨host9 { portC with lease := true }, 0, by decide +kernel, by decide +kernel⟩,
   ⟨norm, 3, by decide +kernel, by decide +kernel⟩⟩

theorem wit_cxlAccesses :
  (∃ s : State, ∃ p : Nat, ∃ hoff : Nat, ∃ mask : Nat, ∃ excl : Bool, ∃ data : Option (List Byte), (p < 4) ∧ 
    let a : Access := { port := p, hoff, excl, data, mask }
    ((s.port p).link ≠ 2))
  ∧ (∃ s : State, ∃ p : Nat, ∃ hoff : Nat, ∃ mask : Nat, ∃ excl : Bool, ∃ data : Option (List Byte), (p < 4) ∧ 
    let a : Access := { port := p, hoff, excl, data, mask }
    ((s.port p).link = 2) ∧ (s.windowAt p hoff = none))
  ∧ (∃ s : State, ∃ p : Nat, ∃ hoff : Nat, ∃ mask : Nat, ∃ excl : Bool, ∃ data : Option (List Byte), (p < 4) ∧ 
    let a : Access := { port := p, hoff, excl, data, mask }
    ∃ w : Window, ∃ addr : Nat, ∃ b : List Byte, ((s.port p).link = 2) ∧ (s.windowAt p hoff = some (w, addr)) ∧ (data = some b) ∧ (w.closing = false) ∧ (s.granHeld (addr / 2097152) = false) ∧ ((s.gran (addr / 2097152)).isNone = false) ∧ (s.unsealed p w.part = false) ∧ (w.ro = false) ∧ (s.protectedGran (addr / 2097152) = false) ∧ (s.lineBusy (addr / 64) = false) ∧ (s.boot.bridge = false) ∧ (s.holders p (addr / 64) true = [])) :=
  ⟨⟨norm, 3, 0, 0, false, none, by decide +kernel, by decide +kernel⟩,
   ⟨host9 portC, 0, 2 ^ 40, 0, false, none, by decide +kernel, by decide +kernel, by decide +kernel⟩,
   ⟨host9 portC, 0, 64, 0, false, some (List.replicate 64 7#8), by decide +kernel, win0, 64, List.replicate 64 7#8, by decide +kernel, by decide +kernel, by decide +kernel, by decide +kernel, by decide +kernel, by decide +kernel, by decide +kernel, by decide +kernel, by decide +kernel, by decide +kernel, by decide +kernel, by decide +kernel⟩⟩

theorem wit_snoopAnswers :
  (∃ s : State, ∃ p : Nat, ∃ line : Nat, ∃ b : List Byte, (p < 4) ∧ ∃ x : Line, ((s.port p).lines.find? (fun x => x.addr == line) = some x) ∧ (x.owned = true))
  ∧ (∃ s : State, ∃ p : Nat, ∃ line : Nat, ∃ b : List Byte, (p < 4) ∧ ((s.port p).lines.find? (fun x => x.addr == line) = none)) :=
  ⟨⟨host9 { portC with lines := [line0] }, 0, 0, [], by decide +kernel, line0, by decide +kernel, by decide +kernel⟩,
   ⟨norm, 3, 1, [], by decide +kernel, by decide +kernel⟩⟩

theorem wit_writebacks :
  (∃ s : State, ∃ p : Nat, ∃ line : Nat, ∃ b : List Byte, (p < 4) ∧ 
    let owned := (s.port p).lines.any (fun x => x.addr == line && x.owned)
    (owned = true))
  ∧ (∃ s : State, ∃ p : Nat, ∃ line : Nat, ∃ b : List Byte, (p < 4) ∧ 
    let owned := (s.port p).lines.any (fun x => x.addr == line && x.owned)
    (owned = false)) :=
  ⟨⟨host9 { portC with lines := [line0] }, 0, 0, [], by decide +kernel, by decide +kernel⟩,
   ⟨norm, 3, 1, [], by decide +kernel, by decide +kernel⟩⟩

theorem wit_renews : ∃ s : State, ∃ fn : Nat, ∃ sq : Nat, ∃ d : Desc, ∃ p : Nat, (Taken s 0x82 fn d p) :=
  ⟨norm, 0, 0, mk 0x82 0 0, 0, by decide +kernel⟩

theorem wit_regionCreates :
  (∃ s : State, ∃ fn : Nat, ∃ sq : Nat, ∃ d : Desc, ∃ p : Nat, (Taken s 0x83 fn d p) ∧ 
    let c := s.cmdOf fn sq d false
    
    let r := dFld d 231 224
    
    let g := dFld d 183 149
    
    let n := dFld d 223 192
    (dFld d 148 128 = 0) ∧ (n ≠ 0) ∧ (s.addrCheck p (dFld d 183 128) (n * 2097152) = none) ∧ (s.windowable p g n = true) ∧ (s.inRegion g n = false) ∧ 
    let x : Region := { part := p, gran := g, count := n, version := 0, time := 0, pub := false, pubfn := 0 }
    (s.host.regions.has r = false))
  ∧ (∃ s : State, ∃ fn : Nat, ∃ sq : Nat, ∃ d : Desc, ∃ p : Nat, (Taken s 0x83 fn d p) ∧ 
    let c := s.cmdOf fn sq d false
    
    let r := dFld d 231 224
    
    let g := dFld d 183 149
    
    let n := dFld d 223 192
    (dFld d 148 128 = 0) ∧ (n ≠ 0) ∧ (s.addrCheck p (dFld d 183 128) (n * 2097152) = none) ∧ (s.windowable p g n = true) ∧ (s.inRegion g n = false) ∧ 
    let x : Region := { part := p, gran := g, count := n, version := 0, time := 0, pub := false, pubfn := 0 }
    (s.host.regions.has r = true)) :=
  ⟨⟨withG norm 0 { gran0 with pin := true }, 0, 0, mk 0x83 0 (at_ 1 192 + at_ 5 224), 0, by decide +kernel, by decide +kernel, by decide +kernel, by decide +kernel, by decide +kernel, by decide +kernel, by decide +kernel⟩,
   ⟨withReg (withG norm 1 { gran0 with pin := true }), 0, 0, mk 0x83 0 (at_ 2097152 128 + at_ 1 192 + at_ 0 224), 0, by decide +kernel, by decide +kernel, by decide +kernel, by decide +kernel, by decide +kernel, by decide +kernel, by decide +kernel⟩⟩

theorem wit_regionEnds :
  (∃ s : State, ∃ fn : Nat, ∃ sq : Nat, ∃ d : Desc, ∃ p : Nat, 
    let c := s.cmdOf fn sq d false
    
    let r := dFld d 231 224
    ∃ x : Region, (Taken s 0x84 fn d p) ∧ (s.host.regions.get? r = some x) ∧ (x.part = p) ∧ (s.regionPorts r = 0) ∧ (s.host.pubs.any (fun y => y.region == r) = false))
  ∧ (∃ s : State, ∃ fn : Nat, ∃ sq : Nat, ∃ d : Desc, ∃ p : Nat, 
    let c := s.cmdOf fn sq d false
    
    let r := dFld d 231 224
    ∃ x : Region, (Taken s 0x88 fn d p) ∧ (s.host.regions.get? r = some x) ∧ (x.part = p) ∧ (dFld d 319 256 % 64 = 0))
  ∧ (∃ s : State, ∃ fn : Nat, ∃ sq : Nat, ∃ d : Desc, ∃ p : Nat, 
    let c := s.cmdOf fn sq d false
    
    let r := dFld d 231 224
    (Taken s 0x84 fn d p) ∧ (s.host.regions.get? r = none)) :=
  ⟨⟨withReg (withG norm 1 { gran0 with pin := true }), 0, 0, mk 0x84 0 0, 0, reg0, by decide +kernel, by decide +kernel, by decide +kernel, by decide +kernel, by decide +kernel⟩,
   ⟨withReg (withG norm 1 { gran0 with pin := true }), 0, 0, mk 0x88 0 (at_ 64 256), 0, reg0, by decide +kernel, by decide +kernel, by decide +kernel, by decide +kernel⟩,
   ⟨norm, 0, 0, mk 0x84 0 0, 0, by decide +kernel, by decide +kernel⟩⟩

theorem wit_windowOpens :
  (∃ s : State, ∃ fn : Nat, ∃ sq : Nat, ∃ d : Desc, ∃ p : Nat, (Taken s 0x85 fn d p) ∧ 
    let c := s.cmdOf fn sq d false
    
    let w := dFld d 239 232
    
    let hoff := dFld d 287 256
    
    let port := c.fn / 64
    
    let n := dFld d 223 192
    
    let win : Window := { reg := false, region := 0, gran := dFld d 183 149, count := n, hoff, ro := dFlag d 25, fn := c.fn,
                          part := p, closing := false, closer := none, recalled := 0 }
    
    let denied := (s.addrCheck p (dFld d 183 149 * 2097152) (n * 2097152)).any (fun f => f.1 == stDENIED)
    (dFlag d 24 = false) ∧ (n ≠ 0) ∧ (dFld d 148 128 = 0) ∧ (hoff < 8388608) ∧ (denied = true))
  ∧ (∃ s : State, ∃ fn : Nat, ∃ sq : Nat, ∃ d : Desc, ∃ p : Nat, (Taken s 0x85 fn d p) ∧ 
    let c := s.cmdOf fn sq d false
    
    let w := dFld d 239 232
    
    let hoff := dFld d 287 256
    
    let port := c.fn / 64
    
    let n := dFld d 223 192
    
    let win : Window := { reg := false, region := 0, gran := dFld d 183 149, count := n, hoff, ro := dFlag d 25, fn := c.fn,
                          part := p, closing := false, closer := none, recalled := 0 }
    
    let denied := (s.addrCheck p (dFld d 183 149 * 2097152) (n * 2097152)).any (fun f => f.1 == stDENIED)
    (dFlag d 24 = false) ∧ (n ≠ 0) ∧ (dFld d 148 128 = 0) ∧ (hoff < 8388608) ∧ (denied = false) ∧ (hoff + n ≤ 8388608) ∧ (s.windowable p (dFld d 183 149) n = true) ∧ ((s.port port).windows.any (fun x => decide (x.2.hoff < hoff + n) && decide (hoff < x.2.hoff + (s.winRange x.2).2)) = false) ∧ ((s.port port).link = 2) ∧ ((s.port port).windows.has w = false) ∧ (s.unsealed port p = false)) :=
  ⟨⟨norm, 0, 0, mk 0x85 0 (at_ (2 ^ 50) 128 + at_ 1 192), 0, by decide +kernel, by decide +kernel, by decide +kernel, by decide +kernel, by decide +kernel, by decide +kernel⟩,
   ⟨host9 { portC with windows := [] }, 0, 0, mk 0x85 0 (at_ 1 192 + at_ 3 232), 0, by decide +kernel, by decide +kernel, by decide +kernel, by decide +kernel, by decide +kernel, by decide +kernel, by decide +kernel, by decide +kernel, by decide +kernel, by decide +kernel, by decide +kernel, by decide +kernel⟩⟩

theorem wit_windowCloses :
  (∃ s : State, ∃ fn : Nat, ∃ sq : Nat, ∃ d : Desc, ∃ p : Nat, ∃ w : Window, (Taken s 0x86 fn d p) ∧ 
    let c := s.cmdOf fn sq d false
    
    let k := dFld d 239 232
    ((s.port (c.fn / 64)).windows.get? k = some w) ∧ (w.part = p) ∧ (w.closing = false))
  ∧ (∃ s : State, ∃ fn : Nat, ∃ sq : Nat, ∃ d : Desc, ∃ p : Nat, ∃ w : Window, (Taken s 0x86 fn d p) ∧ 
    let c := s.cmdOf fn sq d false
    
    let k := dFld d 239 232
    ((s.port (c.fn / 64)).windows.get? k = some w) ∧ (w.part = p) ∧ (w.closing = true)) :=
  ⟨⟨host9 portC, 0, 0, mk 0x86 0 0, 0, win0, by decide +kernel, by decide +kernel, by decide +kernel, by decide +kernel⟩,
   ⟨host9 { portC with windows := [(0, { win0 with closing := true })] }, 0, 0, mk 0x86 0 0, 0, { win0 with closing := true }, by decide +kernel, by decide +kernel, by decide +kernel, by decide +kernel⟩⟩

theorem wit_publishes : ∃ s : State, ∃ fn : Nat, ∃ sq : Nat, ∃ d : Desc, ∃ p : Nat, ∃ x : Region, (Taken s 0x87 fn d p) ∧ 
    let c := s.cmdOf fn sq d false
    
    let r := dFld d 231 224
    (s.host.regions.get? r = some x) ∧ (x.part = p) ∧ (dFld d 148 128 = 0) ∧ (dFld d 319 256 ≠ 2 ^ 64 - 1) :=
  ⟨withReg (withG norm 1 { gran0 with pin := true }), 0, 0, mk 0x87 0 (at_ 2097152 128), 0, reg0, by decide +kernel, by decide +kernel, by decide +kernel, by decide +kernel, by decide +kernel⟩

theorem wit_publishConflicts : ∃ s : State, ∃ x : PubWait, ∃ r : Region, (s.host.regions.get? x.region = some r) ∧ (x.active = false) ∧ ((s.addrCheck r.part (x.gran * 2097152) (r.count * 2097152)).any (fun f => f.1 == stDENIED) = false) ∧ (s.windowable r.part x.gran r.count = true) ∧ (s.inRegion x.gran r.count = false) ∧ (x.expect ≠ 2 ^ 64 - 1) ∧ (x.expect ≠ r.version) :=
  ⟨withReg (withG norm 1 { gran0 with pin := true }), pub0 7, reg0, by decide +kernel, by decide +kernel, by decide +kernel, by decide +kernel, by decide +kernel, by decide +kernel, by decide +kernel⟩

end W09

/-! ### The Dictionary, the field network, maintenance and partitions -/

namespace W10

def rq (op idx sub offset total len flags : Nat) : BitVec 256 :=
  BitVec.ofNat 256 (withPar (flags * 2 ^ 78 + len * 2 ^ 112 + total * 2 ^ 128 + offset * 2 ^ 160 + 2 ^ 192 + sub * 2 ^ 200 + idx * 2 ^ 208 + 2 ^ 240 + op * 2 ^ 248) 4 7 0)
def op10 : State := { norm with sec := { norm.sec with memKeys := [(0, 0)], sess := [(1, { via := .doe 0, open_ := true, principal := 1, asked := false, chain := [], last := 0, keyGen := 0 })] } }
def up10 : State := { norm with fnet := { norm.fnet with link := 1 } }
def fh (t : Nat) : BitVec 128 := BitVec.ofNat 128 (fnHeader t 0 1 0 0 0)
def maint10 (n : Nat) : State := { norm with maint := { norm.maint with st := n } }
def inReq10 : InReq :=
  { slot := 0, idx := 0, pos := 0, ntok := 1, sel := true, lc := false, part := 0, ids := [0], mark := .data, arrived := false
    outSent := false, sender := 0, q := [], splits := [], token := none, dead := false, reserve := 0, grown := 0, opened := []
    inputDone := true, maskHost := false, selHost := false }
def step10 : Step :=
  { seq := 5, t0 := 0, layer := 0, selPhase := false, roundOpen := true, nout := 0, nmark := 0, reqs := [inReq10], opener := 4, ab := false
    restored := false }
def fly10 (s : State) : State := { s with sched := { Sched.start with lanes := [(0, { LaneHalf.blank with step := some step10 })] } }
def dma10 : DmaRead := { fn := 0, id := 1, len := 2, o := .mailbox 0, pdu := (rq 2 0x1100 2 0 2 2 3).toNat }
def withDma : State := { norm with host := { norm.host with dma := [dma10] } }
def part5 (s : State) (on : Bool) : State := setV (setV s (0x7040 + 63) 1 [if on then 1#8 else 0#8]) (0x7040 + 63) 2 [7#8]
theorem nofn : (part5 op10 true).hasFunction 63 = false := by decide +kernel
theorem dis_ok : isOk ((part5 op10 true).disablePart 63) = true := by
  have h1 : (part5 op10 true).partOn 63 = true := by decide +kernel
  have h2 : (part5 op10 true).holdsObjects 63 = false := by decide +kernel
  rw [State.disablePart, if_neg (by decide), if_neg (by rw [h1]; decide), if_neg (by rw [h2, nofn]; decide)]
  rfl
def kept10 : KeptRsp := { mac := 9, fseq := 1, pdu := 5, value := [] }
def gen384 : List Byte := (leBytes 96 (0xaa87ca22be8b05378eb1c71ef320ad746e1d3b628ba79b9859f741e082542a385502f25dbf55296c3a545e3872760ab7 * 2 ^ 384 + 0x3617de4a96262c6f5d9e98bf9292dc29f8f41dbd289a147ce9da3113b5f0b8c00a60b1ce1d7e819d7a431d7c90ea0e5f)).reverse

theorem wit_reads :
  (∃ s : State, ∃ o : Origin, ∃ pdu : BitVec 256, ∃ t : Nat, ∃ idx : Nat, ∃ sub : Nat, 
    let u := s.at t
    ∃ d : Nat, (u.served = true) ∧ (requestFault o pdu 1 = some d))
  ∧ (∃ s : State, ∃ o : Origin, ∃ pdu : BitVec 256, ∃ t : Nat, ∃ idx : Nat, ∃ sub : Nat, 
    let u := s.at t
    (Request u o pdu 1 idx sub) ∧ (u.mayRead o idx sub = false))
  ∧ (∃ s : State, ∃ o : Origin, ∃ pdu : BitVec 256, ∃ t : Nat, ∃ idx : Nat, ∃ sub : Nat, 
    let u := s.at t
    (Request u o pdu 1 idx sub) ∧ (u.mayRead o idx sub = true) ∧ (u.unreachable o idx sub false = false) ∧ (bits pdu 191 160 = 0))
  ∧ (∃ s : State, ∃ o : Origin, ∃ pdu : BitVec 256, ∃ t : Nat, ∃ idx : Nat, ∃ sub : Nat, 
    let u := s.at t
    (Request u o pdu 1 idx sub) ∧ (u.mayRead o idx sub = true) ∧ (u.unreachable o idx sub false = false) ∧ (bits pdu 191 160 ≠ 0) ∧ ∃ x : Snap, (u.snapOf o (dkey idx sub) = some x))
  ∧ (∃ s : State, ∃ o : Origin, ∃ pdu : BitVec 256, ∃ t : Nat, ∃ idx : Nat, ∃ sub : Nat, 
    let u := s.at t
    (Request u o pdu 1 idx sub) ∧ (u.mayRead o idx sub = true) ∧ (u.unreachable o idx sub false = false) ∧ (bits pdu 191 160 ≠ 0) ∧ (u.snapOf o (dkey idx sub) = none)) :=
  ⟨⟨norm, (.mailbox 0), 0#256 ||| (2#256 <<< 240), 0, 0, 0, dPARITY, by decide +kernel, by decide +kernel⟩,
   ⟨norm, .mailbox 1, rq 1 0x1100 2 0 8 0 0, 0, 0x1100, 2, by decide +kernel, by decide +kernel⟩,
   ⟨norm, (.mailbox 0), rq 1 0x1100 2 0 8 0 0, 0, 0x1100, 2, by decide +kernel, by decide +kernel, by decide +kernel, by decide +kernel⟩,
   ⟨{ norm with dict := { norm.dict with snaps := [{ o := .mailbox 0, key := dkey 0x1100 2, value := [1#8, 2#8], last := 0 }] } }, (.mailbox 0), rq 1 0x1100 2 1 8 0 0, 0, 0x1100, 2, by decide +kernel, by decide +kernel, by decide +kernel, by decide +kernel, { o := .mailbox 0, key := dkey 0x1100 2, value := [1#8, 2#8], last := 0 }, by decide +kernel⟩,
   ⟨norm, (.mailbox 0), rq 1 0x1100 2 1 8 0 0, 0, 0x1100, 2, by decide +kernel, by decide +kernel, by decide +kernel, by decide +kernel, by decide +kernel⟩⟩

theorem wit_writes :
  (∃ s : State, ∃ o : Origin, ∃ pdu : BitVec 256, ∃ d : List Byte, ∃ t : Nat, ∃ idx : Nat, ∃ sub : Nat, 
    let u := (s.at t).inFlight o pdu
    (s.served = true) ∧ (Request u o pdu 2 idx sub) ∧ (bit pdu 78 = false) ∧ (d.length = bits pdu 127 112) ∧ (d.length ≤ pathLimit o) ∧ (bits pdu 191 160 = 0) ∧ (bit pdu 79 = true) ∧ (d.length = bits pdu 159 128))
  ∧ (∃ s : State, ∃ o : Origin, ∃ pdu : BitVec 256, ∃ d : List Byte, ∃ t : Nat, ∃ idx : Nat, ∃ sub : Nat, 
    let u := (s.at t).inFlight o pdu
    (s.served = true) ∧ (Request u o pdu 2 idx sub) ∧ (bit pdu 78 = false) ∧ (d.length = bits pdu 127 112) ∧ (d.length ≤ pathLimit o) ∧ (bits pdu 191 160 ≠ 0) ∧ (u.stagedOf o = none) ∧ ((bit pdu 79 = true ∨ u.boot.bridge = false ∨ u.byHost o = false)))
  ∧ (∃ s : State, ∃ o : Origin, ∃ pdu : BitVec 256, ∃ d : List Byte, ∃ t : Nat, ∃ idx : Nat, ∃ sub : Nat, 
    let u := (s.at t).inFlight o pdu
    (s.served = true) ∧ (Request u o pdu 2 idx sub) ∧ (bit pdu 78 = false) ∧ (d.length = bits pdu 127 112) ∧ (d.length ≤ pathLimit o) ∧ (bit pdu 79 = false) ∧ (u.boot.bridge = true) ∧ (u.byHost o = true)) :=
  ⟨⟨norm, (.mailbox 0), rq 2 0x1100 2 0 4 4 2, leBytes 4 1000, 0, 0x1100, 2, by decide +kernel, by decide +kernel, by decide +kernel, by decide +kernel, by decide +kernel, by decide +kernel, by decide +kernel, by decide +kernel⟩,
   ⟨norm, (.mailbox 0), rq 2 0x1100 2 2 4 2 2, leBytes 2 1, 0, 0x1100, 2, by decide +kernel, by decide +kernel, by decide +kernel, by decide +kernel, by decide +kernel, by decide +kernel, by decide +kernel, by exact .inl (by decide +kernel)⟩,
   ⟨{ norm with boot := { norm.boot with bridge := true } }, (.mailbox 0), rq 2 0x1100 2 0 4 2 0, leBytes 2 1, 0, 0x1100, 2, by decide +kernel, by decide +kernel, by decide +kernel, by decide +kernel, by decide +kernel, by decide +kernel, by decide +kernel, by decide +kernel⟩⟩

theorem wit_describes : ∃ s : State, ∃ o : Origin, ∃ pdu : BitVec 256, ∃ t : Nat, ∃ idx : Nat, ∃ sub : Nat, 
    let u := s.at t
    (Request u o pdu 3 idx sub) ∧ (u.mayRead o idx sub = true) ∧ (u.unreachable o idx sub false = false) :=
  ⟨norm, (.mailbox 0), rq 3 0x1100 2 0 0 0 0, 0, 0x1100, 2, by decide +kernel, by decide +kernel, by decide +kernel⟩

theorem wit_nexts :
  (∃ s : State, ∃ o : Origin, ∃ pdu : BitVec 256, ∃ t : Nat, ∃ idx : Nat, ∃ sub : Nat, 
    let u := s.at t
    (Request u o pdu 4 idx sub) ∧ (((u.whoOf o).bm = true ∨ (u.whoOf o).part.isSome = true)) ∧ ∃ i : Nat, ∃ j : Nat, (nextEntry idx sub = some (i, j)) ∧ (u.unreachable o i j false = false) ∧ (u.mayRead o i j = true))
  ∧ (∃ s : State, ∃ o : Origin, ∃ pdu : BitVec 256, ∃ t : Nat, ∃ idx : Nat, ∃ sub : Nat, 
    let u := s.at t
    (Request u o pdu 4 idx sub) ∧ (((u.whoOf o).bm = true ∨ (u.whoOf o).part.isSome = true)) ∧ (nextEntry idx sub = none)) :=
  ⟨⟨norm, (.mailbox 0), rq 4 0x1100 2 0 0 0 0, 0, 0x1100, 2, by decide +kernel, by decide +kernel, 0x1100, 3, by decide +kernel, by decide +kernel, by decide +kernel⟩,
   ⟨norm, (.mailbox 0), rq 4 0xFFFF 0xFF 0 0 0 0, 0, 0xFFFF, 0xFF, by decide +kernel, by decide +kernel, by decide +kernel⟩⟩

theorem wit_dmaEnds :
  (∃ s : State, ∃ fn : Nat, ∃ id : Nat, ∃ b : List Byte, 
    let found := s.host.dma.find? (fun r => r.fn == fn && r.id == id)
    
    let s1 : State := { s with host := { s.host with dma := s.host.dma.filter (fun x => !(x.fn == fn && x.id == id)) } }
    ∃ r : DmaRead, (found = some r) ∧ 
    let pdu : BitVec 256 := BitVec.ofNat 256 r.pdu
    (b.length = r.len))
  ∧ (∃ s : State, ∃ fn : Nat, ∃ id : Nat, ∃ b : List Byte, 
    let found := s.host.dma.find? (fun r => r.fn == fn && r.id == id)
    
    let s1 : State := { s with host := { s.host with dma := s.host.dma.filter (fun x => !(x.fn == fn && x.id == id)) } }
    ∃ r : DmaRead, (found = some r))
  ∧ (∃ s : State, ∃ fn : Nat, ∃ id : Nat, ∃ b : List Byte, 
    let found := s.host.dma.find? (fun r => r.fn == fn && r.id == id)
    
    let s1 : State := { s with host := { s.host with dma := s.host.dma.filter (fun x => !(x.fn == fn && x.id == id)) } }
    (found = none)) :=
  ⟨⟨withDma, 0, 1, [1#8, 2#8], dma10, by decide +kernel, by decide +kernel⟩,
   ⟨withDma, 0, 1, [], dma10, by decide +kernel⟩,
   ⟨norm, 0, 1, [], by decide +kernel⟩⟩

theorem wit_pends :
  (∃ s : State, ∃ sid : Nat, (s.served = true) ∧ ∃ q : Nat, (s.dict.pend.find? (fun p => p.1 = Origin.session sid) = some (.session sid, q)))
  ∧ (∃ s : State, ∃ sid : Nat, (s.served = true) ∧ (s.dict.pend.find? (fun p => p.1 = Origin.session sid) = none)) :=
  ⟨⟨{ norm with dict := { norm.dict with pend := [(.session 1, 7)] } }, 1, by decide +kernel, 7, by decide +kernel⟩,
   ⟨norm, 1, by decide +kernel, by decide +kernel⟩⟩

theorem wit_polls :
  (∃ s : State, ∃ fn : Nat, ∃ mreq : BitVec 64, ∃ req : List Byte, (fn < 256) ∧ (s.served = true) ∧ 
    let b := s.boxes.getD fn Mailbox.zero
    (b.busy = false) ∧ (bits mreq 15 0 ≠ b.rseq))
  ∧ (∃ s : State, ∃ fn : Nat, ∃ mreq : BitVec 64, ∃ req : List Byte, (fn < 256) ∧ (s.served = true) ∧ 
    let b := s.boxes.getD fn Mailbox.zero
    ((b.busy = true ∨ bits mreq 15 0 = b.rseq))) :=
  ⟨⟨norm, 255, 1#64, [], by decide +kernel, by decide +kernel, by decide +kernel, by decide +kernel⟩,
   ⟨norm, 255, 0#64, [], by decide +kernel, by decide +kernel, by decide +kernel⟩⟩

theorem wit_frames :
  (∃ s : State, ∃ dst : Nat, ∃ src : Nat, ∃ et : Nat, ∃ hdr : BitVec 128, ∃ b : List Byte, (s.served = true) ∧ (s.fnet.link ≠ 0) ∧ (et = 0x88B5) ∧ ((dst = s.mac ∨ dst = macAll)) ∧ (headerBad hdr b = false))
  ∧ (∃ s : State, ∃ dst : Nat, ∃ src : Nat, ∃ et : Nat, ∃ hdr : BitVec 128, ∃ b : List Byte, (s.served = true) ∧ (s.fnet.link ≠ 0) ∧ (et = 0x88B5) ∧ ((dst = s.mac ∨ dst = macAll)) ∧ (headerBad hdr b = true))
  ∧ (∃ s : State, ∃ dst : Nat, ∃ src : Nat, ∃ et : Nat, ∃ hdr : BitVec 128, ∃ b : List Byte, (s.served = true) ∧ (s.fnet.link ≠ 0) ∧ (et ≠ 0x88B5)) :=
  ⟨⟨up10, macAll, 0, 0x88B5, fh 1, [], by decide +kernel, by decide +kernel, by decide +kernel, by decide +kernel, by decide +kernel⟩,
   ⟨up10, macAll, 0, 0x88B5, 0#128, [], by decide +kernel, by decide +kernel, by decide +kernel, by decide +kernel, by decide +kernel⟩,
   ⟨up10, 0, 0, 0x0800, 0#128, [], by decide +kernel, by decide +kernel, by decide +kernel⟩⟩

theorem wit_dictFrames :
  (∃ s : State, ∃ src : Nat, ∃ hdr : BitVec 128, ∃ b : List Byte, (s.served = true) ∧ (s.fnet.link ≠ 0) ∧ (headerBad hdr b = false) ∧ (bits hdr 119 112 = 1) ∧ 
    let fseq := bits hdr 95 80
    
    let pdu : BitVec 256 := BitVec.ofNat 256 (leAt b 0 32)
    
    let kept := s.fnet.kept.find? (fun r => r.mac == src && r.fseq == fseq)
    ∃ r : KeptRsp, (kept = some r))
  ∧ (∃ s : State, ∃ src : Nat, ∃ hdr : BitVec 128, ∃ b : List Byte, (s.served = true) ∧ (s.fnet.link ≠ 0) ∧ (headerBad hdr b = false) ∧ (bits hdr 119 112 = 1) ∧ 
    let fseq := bits hdr 95 80
    
    let pdu : BitVec 256 := BitVec.ofNat 256 (leAt b 0 32)
    
    let kept := s.fnet.kept.find? (fun r => r.mac == src && r.fseq == fseq)
    (kept = none) ∧ (s.dict.pend.any (fun p => p.1 = Origin.net src fseq) = false) ∧ (s.foreign src = false))
  ∧ (∃ s : State, ∃ src : Nat, ∃ hdr : BitVec 128, ∃ b : List Byte, (s.served = true) ∧ (s.fnet.link ≠ 0) ∧ (headerBad hdr b = false) ∧ (bits hdr 119 112 = 1) ∧ 
    let fseq := bits hdr 95 80
    
    let pdu : BitVec 256 := BitVec.ofNat 256 (leAt b 0 32)
    
    let kept := s.fnet.kept.find? (fun r => r.mac == src && r.fseq == fseq)
    (kept = none) ∧ (s.dict.pend.any (fun p => p.1 = Origin.net src fseq) = false) ∧ (s.foreign src = true)) :=
  ⟨⟨{ up10 with fnet := { up10.fnet with kept := [kept10] } }, 9, fh 1, [], by decide +kernel, by decide +kernel, by decide +kernel, by decide +kernel, kept10, by decide +kernel⟩,
   ⟨up10, 9, fh 1, [], by decide +kernel, by decide +kernel, by decide +kernel, by decide +kernel, by decide +kernel, by decide +kernel, by decide +kernel⟩,
   ⟨setV up10 0x1000 7 (leBytes 8 5), 9, fh 1, [], by decide +kernel, by decide +kernel, by decide +kernel, by decide +kernel, by decide +kernel, by decide +kernel, by decide +kernel⟩⟩

theorem wit_eventAcks :
  (∃ s : State, ∃ src : Nat, ∃ hdr : BitVec 128, (s.dark = false) ∧ (headerAloneBad hdr = false) ∧ (bits hdr 119 112 = 4))
  ∧ (∃ s : State, ∃ src : Nat, ∃ hdr : BitVec 128, (s.dark = false) ∧ (s.fnet.link ≠ 0))
  ∧ (∃ s : State, ∃ src : Nat, ∃ hdr : BitVec 128, (s.dark = false) ∧ (s.fnet.link = 0)) :=
  ⟨⟨norm, 0, fh 4, by decide +kernel, by decide +kernel, by decide +kernel⟩,
   ⟨up10, 0, 0#128, by decide +kernel, by decide +kernel⟩,
   ⟨norm, 0, 0#128, by decide +kernel, by decide +kernel⟩⟩

theorem wit_spdmFrames :
  (∃ s : State, ∃ src : Nat, ∃ hdr : BitVec 128, ∃ b : List Byte, (s.served = true) ∧ (s.fnet.link ≠ 0) ∧ (headerBad hdr b = false) ∧ (bits hdr 119 112 = 5) ∧ (s.foreign src = false))
  ∧ (∃ s : State, ∃ src : Nat, ∃ hdr : BitVec 128, ∃ b : List Byte, (s.served = true) ∧ (s.fnet.link ≠ 0) ∧ (headerBad hdr b = false) ∧ (bits hdr 119 112 = 5) ∧ (s.foreign src = true)) :=
  ⟨⟨up10, 9, fh 5, [], by decide +kernel, by decide +kernel, by decide +kernel, by decide +kernel, by decide +kernel⟩,
   ⟨setV up10 0x1000 7 (leBytes 8 5), 9, fh 5, [], by decide +kernel, by decide +kernel, by decide +kernel, by decide +kernel, by decide +kernel⟩⟩

theorem wit_fnLinks :
  (∃ s : State, ∃ src : Nat, ∃ hdr : BitVec 128, ∃ plca : Bool, (s.served = true) ∧ (s.fnet.link ≠ 0) ∧ (headerAloneBad hdr = false) ∧ (bits hdr 119 112 = 7))
  ∧ (∃ s : State, ∃ src : Nat, ∃ hdr : BitVec 128, ∃ plca : Bool, (s.served = true)) :=
  ⟨⟨up10, 0, fh 7, false, by decide +kernel, by decide +kernel, by decide +kernel, by decide +kernel⟩,
   ⟨norm, 0, 0#128, false, by decide +kernel⟩⟩

theorem wit_maintWrites :
  (∃ s : State, ∃ o : Origin, ∃ v : List Byte, (Writable s o 0xF000 1 v) ∧ (s.maint.st = 0) ∧ (leNat v = 1))
  ∧ (∃ s : State, ∃ o : Origin, ∃ v : List Byte, (Writable s o 0xF000 1 v) ∧ (s.maint.st = 1) ∧ (leNat v = 0))
  ∧ (∃ s : State, ∃ o : Origin, ∃ v : List Byte, (Writable s o 0xF000 1 v) ∧ (s.maint.st = 2) ∧ (leNat v = 0) ∧ (s.ckptState = 0))
  ∧ (∃ s : State, ∃ o : Origin, ∃ v : List Byte, (Checked s o 0xF000 1 v) ∧ (s.maint.st = 2) ∧ (leNat v = 0) ∧ (s.ckptState ≠ 0)) :=
  ⟨⟨norm, (.mailbox 0), [1#8], by decide +kernel, by decide +kernel, by decide +kernel⟩,
   ⟨maint10 1, (.mailbox 0), [0#8], by decide +kernel, by decide +kernel, by decide +kernel⟩,
   ⟨maint10 2, (.mailbox 0), [0#8], by decide +kernel, by decide +kernel, by decide +kernel, by decide +kernel⟩,
   ⟨{ maint10 2 with ckpt := { norm.ckpt with restore := some (none, 1, false) } }, (.mailbox 0), [0#8], by decide +kernel, by decide +kernel, by decide +kernel, by decide +kernel⟩⟩

theorem wit_maintCourse :
  (∃ s : State, (s.maint.st = 1) ∧ (s.flyingLanes = 0))
  ∧ (∃ s : State, (s.flyingLanes ≠ 0))
  ∧ (∃ s : State, (s.maint.st = 1) ∧ (s.flyingLanes ≠ 0))
  ∧ (∃ s : State, (s.maint.st = 3)) :=
  ⟨⟨maint10 1, by decide +kernel, by decide +kernel⟩,
   ⟨fly10 norm, by decide +kernel⟩,
   ⟨fly10 (maint10 1), by decide +kernel, by decide +kernel⟩,
   ⟨maint10 3, by decide +kernel⟩⟩

theorem wit_partWrites :
  (∃ s : State, ∃ o : Origin, ∃ p : Nat, ∃ v : List Byte, (p < 64) ∧ (Writable s o (0x7040 + p) 1 v) ∧ (leNat v = 1) ∧ (s.partOn p = false) ∧ ((s.dbytes (0x7040 + p) 2).isEmpty = false) ∧ (s.sec.entropyBad = false) ∧ 
    let s1 := s.dsetN (0x7040 + p) 1 1
    ((s1.confidential && s1.coresShared) = false))
  ∧ (∃ s : State, ∃ o : Origin, ∃ p : Nat, ∃ v : List Byte, (p < 64) ∧ (Checked s o (0x7040 + p) 1 v) ∧ (leNat v = 1) ∧ (s.partOn p = false) ∧ ((s.dbytes (0x7040 + p) 2).isEmpty = true))
  ∧ (∃ s : State, ∃ o : Origin, ∃ p : Nat, ∃ v : List Byte, (p < 64) ∧ (Checked s o (0x7040 + p) 1 v) ∧ (leNat v = 2) ∧ (p ≠ 0) ∧ (s.partOn p = true) ∧ (s.holdsObjects p = true))
  ∧ (∃ s : State, ∃ o : Origin, ∃ p : Nat, ∃ v : List Byte, (p < 64) ∧ ∃ s1 : State, (Writable s o (0x7040 + p) 1 v) ∧ (leNat v = 2) ∧ (p ≠ 0) ∧ (s.partOn p = true) ∧ (s.holdsObjects p = false) ∧ (s.hasFunction p = false) ∧ (s.disablePart p = .ok s1)) :=
  ⟨⟨part5 op10 false, .session 1, 63, [1#8], by decide +kernel, by decide +kernel, by decide +kernel, by decide +kernel, by decide +kernel, by decide +kernel, by decide +kernel⟩,
   ⟨op10, .session 1, 63, [1#8], by decide +kernel, by decide +kernel, by decide +kernel, by decide +kernel, by decide +kernel⟩,
   ⟨{ part5 op10 true with sess := { norm.sess with dir := [(0, { entry .idle with part := 63 })] } }, .session 1, 63, [2#8], by decide +kernel, by decide +kernel, by decide +kernel, by decide +kernel, by decide +kernel, by decide +kernel⟩,
   ⟨part5 op10 true, .session 1, 63, [2#8], by decide +kernel, okOf ((part5 op10 true).disablePart 63) norm, by decide +kernel, by decide +kernel, by decide +kernel, by decide +kernel, by decide +kernel, by exact nofn, by exact ok_of _ dis_ok⟩⟩

theorem wit_partDisabled : ∃ s : State, ∃ s1 : State, ∃ p : Nat, (p ≠ 0) ∧ (s.partOn p = true) ∧ (s.disablePart p = .ok s1) :=
  ⟨part5 op10 true, okOf ((part5 op10 true).disablePart 63) norm, 63, by decide +kernel, by decide +kernel, by exact ok_of _ dis_ok⟩

theorem wit_ownerWrites :
  (∃ s : State, ∃ o : Origin, ∃ p : Nat, ∃ v : List Byte, (p < 64) ∧ (Writable s o (0x7040 + p) 2 v) ∧ ((p = 0 ∨ s.partOn p = false)) ∧ ((List.range 64).any (fun q => q != p && s.dbytes (0x7040 + q) 2 == v) = false))
  ∧ (∃ s : State, ∃ o : Origin, ∃ p : Nat, ∃ v : List Byte, (p < 64) ∧ (Checked s o (0x7040 + p) 2 v) ∧ (p ≠ 0) ∧ (s.partOn p = true)) :=
  ⟨⟨op10, .session 1, 63, List.replicate 96 1#8, by decide +kernel, by decide +kernel, by decide +kernel, by decide +kernel⟩,
   ⟨part5 op10 true, .session 1, 63, List.replicate 96 1#8, by decide +kernel, by decide +kernel, by decide +kernel, by decide +kernel⟩⟩

theorem wit_bindings : ∃ s : State, ∃ o : Origin, ∃ port : Nat, ∃ f : Nat, ∃ v : List Byte, (port < 4) ∧ (f < 64) ∧ (f ≠ 0) ∧ (leNat v < 64) ∧ (s.partOn (leNat v) = true) ∧ (s.host.tdi.getD (64 * port + f) 0 = 0) ∧ (Writable s o (0x7080 + port) (1 + f) v) :=
  ⟨op10, .session 1, 3, 63, [0#8], by decide +kernel, by decide +kernel, by decide +kernel, by decide +kernel, by decide +kernel, by decide +kernel, by decide +kernel⟩

theorem wit_linkKeys : ∃ s : State, ∃ o : Origin, ∃ p : Nat, ∃ v : List Byte, (p < 64) ∧ (Writable s o (0x7040 + p) 4 v) :=
  ⟨op10, .session 1, 0, List.replicate 32 1#8, by decide +kernel, by decide +kernel⟩

theorem wit_exports :
  (∃ s : State, ∃ o : Origin, ∃ p : Nat, ∃ v : List Byte, (p < 64) ∧ (Writable s o (0x7040 + p) 7 v) ∧ (s.dval (0x7040 + p) 6 ≠ 0) ∧ (s.sec.memKeys.has p = true) ∧ (s.sec.entropyBad = false) ∧ (onP384 v = true))
  ∧ (∃ s : State, ∃ o : Origin, ∃ p : Nat, ∃ v : List Byte, (p < 64) ∧ (Checked s o (0x7040 + p) 7 v) ∧ (s.dval (0x7040 + p) 6 = 0)) :=
  ⟨⟨setV op10 0x7040 6 [1#8], .session 1, 0, gen384, by decide +kernel, by decide +kernel, by decide +kernel, by decide +kernel, by decide +kernel, by decide +kernel⟩,
   ⟨op10, .session 1, 0, gen384, by decide +kernel, by decide +kernel, by decide +kernel⟩⟩

theorem wit_confidentials :
  (∃ s : State, ∃ o : Origin, ∃ v : List Byte, (Writable s o 0x7000 2 v) ∧ (s.inMaint = true) ∧ (leNat v ≠ s.dval 0x7000 2) ∧ ((leNat v = 1 → s.coresShared = false)) ∧ ((leNat v = 0 → (List.range 64).any (fun p => decide (0 < p) && s.partOn p) = false)))
  ∧ (∃ s : State, ∃ o : Origin, ∃ v : List Byte, (Checked s o 0x7000 2 v) ∧ (s.inMaint = false)) :=
  ⟨⟨{ op10 with maint := { norm.maint with st := 2 } }, .session 1, [1#8], by decide +kernel, by decide +kernel, by decide +kernel, by decide +kernel, by decide +kernel⟩,
   ⟨op10, .session 1, [1#8], by decide +kernel, by decide +kernel⟩⟩

theorem wit_safelightRests : ∃ s : State, (s.ctr.rest = []) :=
  ⟨norm, by decide +kernel⟩

end W10

/-! ### SPDM -/

namespace W11

def conn11 (n : Nat) : State :=
  { setV norm 0x7010 2 [1#8] with sec := { norm.sec with chainKey := norm.attestKey, conns := [{ SpdmConn.blank (.doe 0) with stage := n }] } }
def big11 (n : Nat) : State :=
  { norm with sec := { norm.sec with conns := [{ SpdmConn.blank (.doe 0) with stage := 3, chunkOut := List.replicate n 1#8, outHandle := 5 }] } }
def sess11 (b : Bool) : SpdmSess := { via := .doe 0, open_ := b, principal := 1, asked := true, chain := [1#8], last := 0, keyGen := 0 }
def in11 (b : Bool) : State := { norm with sec := { norm.sec with sess := [(1, sess11 b)] } }
def req11 (code p1 p2 n : Nat) : List Byte := leBytes 4 (0x13 + code * 256 + p1 * 65536 + p2 * 16777216) ++ List.replicate n 255#8
def full11 (n : Nat) : State := { conn11 n with sec := { (conn11 n).sec with sess := (List.range 4).map (fun k => (k + 1, sess11 true)) } }
def bad11 : State := { conn11 3 with sec := { (conn11 3).sec with entropyBad := true } }

theorem wit_spdmSetups :
  (∃ s : State, ∃ via : Via, ∃ msg : List Byte, ∃ t : Nat, 
    let u := heard (s.at t) via msg
    (Plain (s.at t) via msg 0x84 0))
  ∧ (∃ s : State, ∃ via : Via, ∃ msg : List Byte, ∃ t : Nat, 
    let u := heard (s.at t) via msg
    (Plain (s.at t) via msg 0xE1 1))
  ∧ (∃ s : State, ∃ via : Via, ∃ msg : List Byte, ∃ t : Nat, 
    let u := heard (s.at t) via msg
    (Plain (s.at t) via msg 0xE3 2) ∧ (bitN (leAt msg 8 4) 7 = true) ∧ (bitN (leAt msg 12 4) 1 = true))
  ∧ (∃ s : State, ∃ via : Via, ∃ msg : List Byte, ∃ t : Nat, 
    let u := heard (s.at t) via msg
    (Plain (s.at t) via msg 0xE1 0) ∧ ((s.conn via).stage = 0)) :=
  ⟨⟨conn11 3, .doe 0, leBytes 4 0x8410, 0, by decide +kernel⟩,
   ⟨conn11 1, .doe 0, req11 0xE1 0 0 0, 0, by decide +kernel⟩,
   ⟨conn11 2, .doe 0, req11 0xE3 0 0 12, 0, by decide +kernel, by decide +kernel, by decide +kernel⟩,
   ⟨conn11 0, .doe 0, req11 0xE1 0 0 0, 0, by decide +kernel, by decide +kernel⟩⟩

theorem wit_spdmCerts :
  (∃ s : State, ∃ via : Via, ∃ msg : List Byte, ∃ t : Nat, 
    let u := heard (s.at t) via msg
    (Plain (s.at t) via msg 0x81 3))
  ∧ (∃ s : State, ∃ via : Via, ∃ msg : List Byte, ∃ t : Nat, 
    let u := heard (s.at t) via msg
    (Plain (s.at t) via msg 0x82 3) ∧ 
    let c := u.chainOf (msgB msg 2 % 16)
    
    let off := leAt msg 4 2
    (off < c.length)) :=
  ⟨⟨conn11 3, .doe 0, req11 0x81 0 0 0, 0, by decide +kernel⟩,
   ⟨conn11 3, .doe 0, leBytes 8 (0x8213 + 65536), 0, by decide +kernel, by exact (by rw [if_pos (beq_self_eq_true _)]; decide : 0 < (if norm.attestKey == norm.attestKey then [1#8] else ([] : List Byte)).length)⟩⟩

theorem wit_spdmChallenges :
  (∃ s : State, ∃ via : Via, ∃ msg : List Byte, ∃ t : Nat, 
    let u := heard (s.at t) via msg
    
    let k := msgB msg 2
    (Plain (s.at t) via msg 0x83 3) ∧ ((u.chainOf k).isEmpty = false) ∧ (36 ≤ msg.length) ∧ (u.sec.entropyBad = true))
  ∧ (∃ s : State, ∃ via : Via, ∃ msg : List Byte, ∃ t : Nat, 
    let u := heard (s.at t) via msg
    
    let k := msgB msg 2
    (Plain (s.at t) via msg 0x83 3) ∧ ((u.chainOf k).isEmpty = false) ∧ (36 ≤ msg.length) ∧ (u.sec.entropyBad = false) ∧ (msgB msg 3 = 0)) :=
  ⟨⟨bad11, .doe 0, req11 0x83 1 0 32, 0, by decide +kernel, by exact (by rw [if_pos (beq_self_eq_true _)]; rfl : (if norm.attestKey == norm.attestKey then [1#8] else ([] : List Byte)).isEmpty = false), by decide +kernel, by decide +kernel⟩,
   ⟨conn11 3, .doe 0, req11 0x83 1 0 32, 0, by decide +kernel, by exact (by rw [if_pos (beq_self_eq_true _)]; rfl : (if norm.attestKey == norm.attestKey then [1#8] else ([] : List Byte)).isEmpty = false), by decide +kernel, by decide +kernel, by decide +kernel⟩⟩

theorem wit_spdmMeasures :
  (∃ s : State, ∃ via : Via, ∃ msg : List Byte, ∃ t : Nat, 
    let u := heard (s.at t) via msg
    
    let n := msgB msg 3
    (Plain (s.at t) via msg 0xE0 3) ∧ (n ≠ 0) ∧ (n ≠ 0xFF) ∧ ∃ x : List Byte, (u.measure n = some x) ∧ (u.sec.entropyBad = false) ∧ (bitN (msgB msg 2) 0 = false))
  ∧ (∃ s : State, ∃ via : Via, ∃ msg : List Byte, ∃ t : Nat, 
    let u := heard (s.at t) via msg
    
    let n := msgB msg 3
    (Plain (s.at t) via msg 0xE0 3) ∧ (n ≠ 0) ∧ (n ≠ 0xFF) ∧ (u.measure n = none)) :=
  ⟨⟨conn11 3, .doe 0, req11 0xE0 0 5 0, 0, by decide +kernel, by decide +kernel, by decide +kernel, sha384 (conn11 3).meas5, by rfl, by decide +kernel, by decide +kernel⟩,
   ⟨conn11 3, .doe 0, req11 0xE0 0 15 0, 0, by decide +kernel, by decide +kernel, by decide +kernel, by decide +kernel⟩⟩

theorem wit_spdmExchanges :
  (∃ s : State, ∃ via : Via, ∃ msg : List Byte, ∃ t : Nat, 
    let u := heard (s.at t) via msg
    (Plain (s.at t) via msg 0xE4 3) ∧ ((u.chainOf (msgB msg 3)).isEmpty = false) ∧ (136 ≤ msg.length) ∧ (u.spdmFull via = true))
  ∧ (∃ s : State, ∃ via : Via, ∃ msg : List Byte, ∃ t : Nat, 
    let u := heard (s.at t) via msg
    (Plain (s.at t) via msg 0xE4 3) ∧ ((u.chainOf (msgB msg 3)).isEmpty = false) ∧ (136 ≤ msg.length) ∧ (u.spdmFull via = false) ∧ (u.sec.entropyBad = false)) :=
  ⟨⟨full11 3, .doe 0, req11 0xE4 0 1 132, 0, by decide +kernel, by exact (by rw [if_pos (beq_self_eq_true _)]; rfl : (if norm.attestKey == norm.attestKey then [1#8] else ([] : List Byte)).isEmpty = false), by decide +kernel, by decide +kernel⟩,
   ⟨conn11 3, .doe 0, req11 0xE4 0 1 132, 0, by decide +kernel, by exact (by rw [if_pos (beq_self_eq_true _)]; rfl : (if norm.attestKey == norm.attestKey then [1#8] else ([] : List Byte)).isEmpty = false), by decide +kernel, by decide +kernel, by decide +kernel⟩⟩

theorem wit_spdmFinishes : ∃ s : State, ∃ via : Via, ∃ n : Nat, ∃ x : SpdmSess, ∃ msg : List Byte, ∃ t : Nat, 
    let u := fresh (s.at t) n x
    
    let good := Config.cryptoOk 4 (leBytes 4 n) msg && (x.chain.isEmpty || (bitN (msgB msg 2) 0 && Config.cryptoOk 5 x.chain msg))
    (Inside (s.at t) via n x msg 0xE5 true) ∧ (good = false) :=
  ⟨in11 false, .doe 0, 1, sess11 false, req11 0xE5 0 0 0, 0, by decide +kernel, by exact Bool.and_false _⟩

theorem wit_spdmSessions :
  (∃ s : State, ∃ via : Via, ∃ n : Nat, ∃ x : SpdmSess, ∃ msg : List Byte, ∃ t : Nat, 
    let u := fresh (s.at t) n x
    (Inside (s.at t) via n x msg 0xE8 false))
  ∧ (∃ s : State, ∃ via : Via, ∃ n : Nat, ∃ x : SpdmSess, ∃ msg : List Byte, ∃ t : Nat, 
    let u := fresh (s.at t) n x
    (Inside (s.at t) via n x msg 0xE9 false) ∧ ((msgB msg 2 = 1 ∨ msgB msg 2 = 2)))
  ∧ (∃ s : State, ∃ via : Via, ∃ n : Nat, ∃ x : SpdmSess, ∃ msg : List Byte, ∃ t : Nat, 
    let u := fresh (s.at t) n x
    (Inside (s.at t) via n x msg 0xEC false))
  ∧ (∃ s : State, ∃ via : Via, ∃ n : Nat, ∃ x : SpdmSess, ∃ msg : List Byte, ∃ t : Nat, 
    let u := fresh (s.at t) n x
    (Plain (s.at t) via msg 0xE8 0)) :=
  ⟨⟨in11 true, .doe 0, 1, sess11 true, req11 0xE8 0 0 0, 0, by decide +kernel⟩,
   ⟨in11 true, .doe 0, 1, sess11 true, req11 0xE9 1 0 0, 0, by decide +kernel, by decide +kernel⟩,
   ⟨in11 true, .doe 0, 1, sess11 true, req11 0xEC 0 0 0, 0, by decide +kernel⟩,
   ⟨conn11 3, .doe 0, 0, sess11 true, req11 0xE8 0 0 0, 0, by decide +kernel⟩⟩

theorem wit_spdmSetCerts : ∃ s : State, ∃ via : Via, ∃ n : Nat, ∃ x : SpdmSess, ∃ msg : List Byte, ∃ t : Nat, 
    let u := fresh (s.at t) n x
    (Inside (s.at t) via n x msg 0xEE false) ∧ (x.principal = 1) ∧ (msgB msg 2 % 16 = 1) ∧ ((u.setChain1 (msg.drop 4)).2 = true) :=
  ⟨in11 true, .doe 0, 1, sess11 true, req11 0xEE 1 0 0, 0, by decide +kernel, by decide +kernel, by decide +kernel, by decide +kernel⟩

theorem wit_spdmEncaps :
  (∃ s : State, ∃ via : Via, ∃ n : Nat, ∃ x : SpdmSess, ∃ msg : List Byte, ∃ t : Nat, 
    let u := fresh (s.at t) n x
    (x.asked = true) ∧ (Inside (s.at t) via n x msg 0xEA true))
  ∧ (∃ s : State, ∃ via : Via, ∃ n : Nat, ∃ x : SpdmSess, ∃ msg : List Byte, ∃ t : Nat, 
    let u := fresh (s.at t) n x
    (x.asked = true) ∧ (Inside (s.at t) via n x msg 0xEB true) ∧ (msgB msg 5 = 0x7F)) :=
  ⟨⟨in11 false, .doe 0, 1, sess11 false, req11 0xEA 0 0 0, 0, by decide +kernel, by decide +kernel⟩,
   ⟨in11 false, .doe 0, 1, sess11 false, leBytes 8 (0xEB13 + 0x7F * 2 ^ 40), 0, by decide +kernel, by decide +kernel, by decide +kernel⟩⟩

theorem wit_spdmChunks :
  (∃ s : State, ∃ via : Via, ∃ msg : List Byte, ∃ t : Nat, 
    let u := heard (s.at t) via msg
    
    let c := u.conn via
    
    let b := slice msg 16 (leAt msg 8 4)
    (Plain (s.at t) via msg 0x85 3) ∧ (leAt msg 4 2 = 0) ∧ (b.length ≤ 65536) ∧ (bitN (msgB msg 2) 0 = false))
  ∧ (∃ s : State, ∃ via : Via, ∃ msg : List Byte, ∃ t : Nat, 
    let u := heard (s.at t) via msg
    
    let c := u.conn via
    
    let b := slice msg 16 (leAt msg 8 4)
    (Plain (s.at t) via msg 0x86 3) ∧ (c.chunkOut = []))
  ∧ (∃ s : State, ∃ via : Via, ∃ msg : List Byte, ∃ t : Nat, 
    let u := heard (s.at t) via msg
    
    let c := u.conn via
    
    let b := slice msg 16 (leAt msg 8 4)
    (Plain (s.at t) via msg 0x86 3) ∧ (c.chunkOut ≠ []) ∧ (msgB msg 3 = c.outHandle) ∧ (leAt msg 4 2 = 0) ∧ (c.outNext = 0) ∧ (4080 < c.chunkOut.length)) :=
  ⟨⟨conn11 3, .doe 0, leBytes 20 (0x8513 + 5 * 2 ^ 24 + 4 * 2 ^ 64), 0, by decide +kernel, by decide +kernel, by decide +kernel, by decide +kernel⟩,
   ⟨conn11 3, .doe 0, req11 0x86 0 0 0, 0, by decide +kernel, by decide +kernel⟩,
   ⟨big11 4081, .doe 0, leBytes 8 (0x8613 + 5 * 2 ^ 24), 0, by decide +kernel, by decide +kernel, by decide +kernel, by decide +kernel, by decide +kernel, by decide +kernel⟩⟩

end W11

/-! ### Clocks and margins -/

namespace W12

def withClk (f : Clocks → Clocks) : State := { norm with clk := f norm.clk }
def map12 (h s : Nat) (v : Bool) : State := withClk (fun c => { c with maps := [(6, { h, s, e := 0, have_ := true, valid := v })] })
def cal12 (c : Calendar → Calendar) : State := withClk (fun x => { x with cal := c x.cal })
def cal0 (slew : Int) (frac : Nat) : Calendar := { st := 2, now := 5, slew, frac, saved := 0, copy := { w := 0, e := 0 }, age := { w := 10, e := 10 }, free := { w := false, e := false } }
def hl0 : HalfLease := { hold := false, sentAt := 0, ends := 0, epoch := 5, lead := true, rotRuns := true, stalled := false }
def ls12 (w e : HalfLease) (half moving : Option Nat) : State :=
  withClk (fun c => { c with lease := { w, e }, lead := { half, epoch := 5, moving } })
def isl0 (volt plan vp seq : Nat) (low : Bool) : Island :=
  { slack := 1000, ring := 0, temp := 0, volt, plan, vp, seq, active := 0, stress := 0, frac := 0, hottest := 0, duty := 100, low }
def mg (s : State) : State := setV (setV (setV s 0x9060 2 (leBytes 2 500)) 0x9060 3 (leBytes 2 1000)) 0x9060 1 (leBytes 12 (2 ^ 96 - 1) ++ [1#8, 0#8, 0#8, 0#8] ++ leBytes 8 (1000 * 2 ^ 16 + 650 * 2 ^ 32 + 500 * 2 ^ 48))
def is12 (i : Nat) (x : Island) : State := withClk (fun c => { c with islands := [(i, x)] })

theorem wit_timeSamples :
  (∃ s : State, ∃ o : Origin, ∃ p : Nat, ∃ t : Nat, ∃ v : List Byte, (p < 4) ∧ 
    let u := s.at t
    
    let h := leNat v
    
    let m := fun (k : Nat) => u.timeMap p k
    
    let rate := fun (k : Nat) => rateOf (m k).h (m k).s h u.ns
    
    let later := fun (k : Nat) => (m k).have_ = true ∧ (m k).s + 100000000 ≤ u.ns
    
    let n := fun (k : Nat) =>
      if (m k).have_ = false then ({ h := h, s := u.ns, e := 0, have_ := true, valid := true } : TimeMap)
      else if (m k).s + 100000000 ≤ u.ns then { h := h, s := u.ns, e := clampRate (rate k), have_ := true, valid := true }
      else { h := h, s := u.ns, e := (m k).e, have_ := true, valid := true }
    
    let s1 : State := { u with clk := { u.clk with maps := (u.clk.maps.put (2 * p) (n 0)).put (2 * p + 1) (n 1) } }
    
    let s2 := (((s1.count 0x8900 2 1).unlatch 0x9005 (2 * p)).unlatch 0x9005 (2 * p + 1)).mapTold
    (Writable u o (0x9020 + p) 1 v) ∧ ((∀ k, k < 2 → (m k).have_ = true → (m k).h < h)) ∧ ((∀ k, k < 2 → later k → clampRate (rate k) = rate k)))
  ∧ (∃ s : State, ∃ o : Origin, ∃ p : Nat, ∃ t : Nat, ∃ v : List Byte, (p < 4) ∧ 
    let u := s.at t
    
    let h := leNat v
    
    let m := fun (k : Nat) => u.timeMap p k
    
    let rate := fun (k : Nat) => rateOf (m k).h (m k).s h u.ns
    
    let later := fun (k : Nat) => (m k).have_ = true ∧ (m k).s + 100000000 ≤ u.ns
    
    let n := fun (k : Nat) =>
      if (m k).have_ = false then ({ h := h, s := u.ns, e := 0, have_ := true, valid := true } : TimeMap)
      else if (m k).s + 100000000 ≤ u.ns then { h := h, s := u.ns, e := clampRate (rate k), have_ := true, valid := true }
      else { h := h, s := u.ns, e := (m k).e, have_ := true, valid := true }
    
    let s1 : State := { u with clk := { u.clk with maps := (u.clk.maps.put (2 * p) (n 0)).put (2 * p + 1) (n 1) } }
    
    let s2 := (((s1.count 0x8900 2 1).unlatch 0x9005 (2 * p)).unlatch 0x9005 (2 * p + 1)).mapTold
    (Writable u o (0x9020 + p) 1 v) ∧ ((∀ k, k < 2 → (m k).have_ = true → (m k).h < h)) ∧ ((∃ k, k < 2 ∧ later k ∧ clampRate (rate k) ≠ rate k)))
  ∧ (∃ s : State, ∃ o : Origin, ∃ p : Nat, ∃ t : Nat, ∃ v : List Byte, (p < 4) ∧ 
    let u := s.at t
    
    let h := leNat v
    
    let m := fun (k : Nat) => u.timeMap p k
    
    let rate := fun (k : Nat) => rateOf (m k).h (m k).s h u.ns
    
    let later := fun (k : Nat) => (m k).have_ = true ∧ (m k).s + 100000000 ≤ u.ns
    
    let n := fun (k : Nat) =>
      if (m k).have_ = false then ({ h := h, s := u.ns, e := 0, have_ := true, valid := true } : TimeMap)
      else if (m k).s + 100000000 ≤ u.ns then { h := h, s := u.ns, e := clampRate (rate k), have_ := true, valid := true }
      else { h := h, s := u.ns, e := (m k).e, have_ := true, valid := true }
    
    let s1 : State := { u with clk := { u.clk with maps := (u.clk.maps.put (2 * p) (n 0)).put (2 * p + 1) (n 1) } }
    
    let s2 := (((s1.count 0x8900 2 1).unlatch 0x9005 (2 * p)).unlatch 0x9005 (2 * p + 1)).mapTold
    (Checked u o (0x9020 + p) 1 v) ∧ ((∃ k, k < 2 ∧ (m k).have_ = true ∧ h ≤ (m k).h))) :=
  ⟨⟨norm, .mailbox 192, 3, 0, leBytes 8 9, by decide +kernel, by decide +kernel, by decide +kernel, by decide +kernel⟩,
   ⟨map12 0 0 true, .mailbox 192, 3, 250000000, leBytes 8 900000000, by decide +kernel, by decide +kernel, by decide +kernel, by exact ⟨0, by decide +kernel⟩⟩,
   ⟨map12 9 0 true, .mailbox 192, 3, 0, leBytes 8 9, by decide +kernel, by decide +kernel, by exact ⟨0, by decide +kernel⟩⟩⟩

theorem wit_mapsEnd :
  (∃ s : State, ∃ p : Nat, ∃ h : Nat, (p < 4) ∧ (h < 2) ∧ ∃ o : Origin, ∃ v : List Byte, (Writable s o (0x9020 + p) 7 v))
  ∧ (∃ s : State, ∃ p : Nat, ∃ h : Nat, (p < 4) ∧ (h < 2) ∧ ((s.timeMap p h).have_ = true) ∧ ((s.timeMap p h).valid = true))
  ∧ (∃ s : State, ∃ p : Nat, ∃ h : Nat, (p < 4) ∧ (h < 2) ∧ ((s.timeMap p h).have_ = false ∨ (s.timeMap p h).valid = false)) :=
  ⟨⟨norm, 3, 1, by decide +kernel, by decide +kernel, .mailbox 0, [1#8], by decide +kernel⟩,
   ⟨map12 0 0 true, 3, 0, by decide +kernel, by decide +kernel, by decide +kernel, by decide +kernel⟩,
   ⟨norm, 3, 1, by decide +kernel, by decide +kernel, by decide +kernel⟩⟩

theorem wit_calendarSets :
  (∃ s : State, ∃ o : Origin, ∃ v : List Byte, 
    let n := leNat v
    
    let d : Int := (n : Int) - s.clk.cal.now
    
    let lim : Int := s.dval 0x9010 3
    (Writable s o 0x9010 1 v) ∧ (s.clk.cal.st ≠ 2))
  ∧ (∃ s : State, ∃ o : Origin, ∃ v : List Byte, 
    let n := leNat v
    
    let d : Int := (n : Int) - s.clk.cal.now
    
    let lim : Int := s.dval 0x9010 3
    (Writable s o 0x9010 1 v) ∧ (s.clk.cal.st = 2) ∧ (-lim ≤ d) ∧ (d ≤ lim))
  ∧ (∃ s : State, ∃ o : Origin, ∃ v : List Byte, 
    let n := leNat v
    
    let d : Int := (n : Int) - s.clk.cal.now
    
    let lim : Int := s.dval 0x9010 3
    (Writable s o 0x9010 1 v) ∧ (s.clk.cal.st = 2) ∧ (-lim ≤ lim) ∧ (lim < d))
  ∧ (∃ s : State, ∃ o : Origin, ∃ v : List Byte, 
    let n := leNat v
    
    let d : Int := (n : Int) - s.clk.cal.now
    
    let lim : Int := s.dval 0x9010 3
    (Checked s o 0x9010 1 v) ∧ (s.clk.cal.st = 2) ∧ (d < -lim) ∧ (-lim ≤ lim) ∧ (s.inMaint = false)) :=
  ⟨⟨norm, (.mailbox 0), leBytes 8 9, by decide +kernel, by decide +kernel⟩,
   ⟨cal12 (fun _ => cal0 0 0), (.mailbox 0), leBytes 8 4, by decide +kernel, by decide +kernel, by decide +kernel, by decide +kernel⟩,
   ⟨cal12 (fun _ => cal0 0 0), (.mailbox 0), leBytes 8 (2 ^ 40), by decide +kernel, by decide +kernel, by decide +kernel, by decide +kernel⟩,
   ⟨cal12 (fun _ => { cal0 0 0 with now := 2 ^ 40 }), (.mailbox 0), leBytes 8 1000, by decide +kernel, by decide +kernel, by decide +kernel, by decide +kernel, by decide +kernel⟩⟩

theorem wit_calendarTicks : ∃ s : State, (s.clk.cal.slew = 0) ∧ (s.boot.bridge = false) :=
  ⟨norm, by decide +kernel, by decide +kernel⟩

theorem wit_calendarSlews :
  (∃ c : Calendar, ∃ ppm : Nat, (c.slew = 0))
  ∧ (∃ c : Calendar, ∃ ppm : Nat, (c.slew ≠ 0) ∧ (c.frac + ppm < 1000000))
  ∧ (∃ c : Calendar, ∃ ppm : Nat, (0 < c.slew) ∧ (1000000 ≤ c.frac + ppm))
  ∧ (∃ c : Calendar, ∃ ppm : Nat, (c.slew < 0) ∧ (1000000 ≤ c.frac + ppm)) :=
  ⟨⟨cal0 0 0, 0, by decide +kernel⟩,
   ⟨cal0 1 0, 5, by decide +kernel, by decide +kernel⟩,
   ⟨cal0 1 999999, 5, by decide +kernel, by decide +kernel⟩,
   ⟨cal0 (-1) 999999, 5, by decide +kernel, by decide +kernel⟩⟩

theorem wit_calendarKeeps :
  (∃ s : State, ∃ h : Nat, (h < 2) ∧ (s.clk.cal.free.get h = false) ∧ (10 ≤ s.clk.cal.age.get h))
  ∧ (∃ s : State, ∃ h : Nat, (h < 2) ∧ (s.clk.cal.free.get h = true ∨ s.clk.cal.age.get h < 10))
  ∧ (∃ s : State, ∃ h : Nat, (h < 2)) :=
  ⟨⟨cal12 (fun _ => cal0 0 0), 1, by decide +kernel, by decide +kernel, by decide +kernel⟩,
   ⟨cal12 (fun _ => { cal0 0 0 with free := { w := false, e := true } }), 1, by decide +kernel, by decide +kernel⟩,
   ⟨norm, 1, by decide +kernel⟩⟩

theorem wit_leasesAsk :
  (∃ s : State, ∃ h : Nat, ∃ t : Nat, (h < 2) ∧ 
    let u := (s.at t).updLease h (fun l => { l with sentAt := (s.at t).ns })
    
    let v := u.emit (.inner 0 h 0)
    ((v.clk.lease.get h).stalled = false) ∧ ((h = 0 ∨ v.boot.bridge = false)) ∧ (v.clk.lead.half.isNone = false))
  ∧ (∃ s : State, ∃ h : Nat, ∃ t : Nat, (h < 2) ∧ 
    let u := (s.at t).updLease h (fun l => { l with sentAt := (s.at t).ns })
    
    let v := u.emit (.inner 0 h 0)
    ((v.clk.lease.get h).stalled = false) ∧ ((h = 0 ∨ v.boot.bridge = false)) ∧ (v.clk.lead.half.isNone = true))
  ∧ (∃ s : State, ∃ h : Nat, ∃ t : Nat, (h < 2) ∧ 
    let u := (s.at t).updLease h (fun l => { l with sentAt := (s.at t).ns })
    
    let v := u.emit (.inner 0 h 0)
    ((v.clk.lease.get h).stalled = true)) :=
  ⟨⟨ls12 hl0 hl0 (some 0) none, 1, 7, by decide +kernel, by decide +kernel, by decide +kernel, by decide +kernel⟩,
   ⟨ls12 hl0 hl0 none none, 1, 0, by decide +kernel, by decide +kernel, by decide +kernel, by decide +kernel⟩,
   ⟨ls12 hl0 { hl0 with stalled := true } none none, 1, 0, by decide +kernel, by decide +kernel⟩⟩

theorem wit_leasesGranted :
  (∃ s : State, ∃ h : Nat, ∃ epoch : Nat, ∃ t : Nat, ∃ lead : Bool, (h < 2) ∧ (epoch < 2 ^ 32) ∧ 
    let u := s.at t
    
    let l := u.clk.lease.get h
    
    let s1 := u.updLease h (fun x => { x with hold := false, ends := x.sentAt + 10000000, epoch := epoch, lead := lead })
    ((lead = false ∨ l.lead = true ∨ l.epoch = 0 ∨ epoch ≤ l.epoch)) ∧ (l.hold = false))
  ∧ (∃ s : State, ∃ h : Nat, ∃ epoch : Nat, ∃ t : Nat, ∃ lead : Bool, (h < 2) ∧ (epoch < 2 ^ 32) ∧ 
    let u := s.at t
    
    let l := u.clk.lease.get h
    
    let s1 := u.updLease h (fun x => { x with hold := false, ends := x.sentAt + 10000000, epoch := epoch, lead := lead })
    ((lead = false ∨ l.lead = true ∨ l.epoch = 0 ∨ epoch ≤ l.epoch)) ∧ (l.hold = true)) :=
  ⟨⟨ls12 hl0 hl0 (some 0) none, 1, 2 ^ 32 - 1, 0, true, by decide +kernel, by decide +kernel, by decide +kernel, by decide +kernel⟩,
   ⟨ls12 { hl0 with hold := true } hl0 none none, 0, 6, 0, false, by decide +kernel, by decide +kernel, by decide +kernel, by decide +kernel⟩⟩

theorem wit_leasesEnd :
  (∃ s : State, ∃ h : Nat, (h < 2) ∧ ((s.clk.lease.get h).hold = false))
  ∧ (∃ s : State, ∃ h : Nat, (h < 2) ∧ ((s.clk.lease.get h).hold = true)) :=
  ⟨⟨ls12 hl0 hl0 (some 0) none, 1, by decide +kernel, by decide +kernel⟩,
   ⟨ls12 { hl0 with hold := true } hl0 none none, 0, by decide +kernel, by decide +kernel⟩⟩

theorem wit_grantsEnd :
  (∃ s : State, ∃ h : Nat, (h < 2) ∧ 
    let s1 := s.updLease h (fun l => { l with rotRuns := false })
    (s1.clk.lead.half ≠ some h))
  ∧ (∃ s : State, ∃ h : Nat, (h < 2) ∧ 
    let s1 := s.updLease h (fun l => { l with rotRuns := false })
    (s1.clk.lead.half = some h) ∧ ((s1.clk.lease.get (otherHalf h)).rotRuns = true))
  ∧ (∃ s : State, ∃ h : Nat, (h < 2) ∧ 
    let s1 := s.updLease h (fun l => { l with rotRuns := false })
    (s1.clk.lead.half = some h) ∧ ((s1.clk.lease.get (otherHalf h)).rotRuns = false)) :=
  ⟨⟨ls12 hl0 hl0 (some 0) none, 1, by decide +kernel, by decide +kernel⟩,
   ⟨ls12 hl0 hl0 (some 0) none, 0, by decide +kernel, by decide +kernel, by decide +kernel⟩,
   ⟨ls12 hl0 { hl0 with rotRuns := false } (some 0) none, 0, by decide +kernel, by decide +kernel, by decide +kernel⟩⟩

theorem wit_leadsMove :
  (∃ s : State, ∃ o : Origin, ∃ v : List Byte, 
    let h := leNat v
    (Writable s o 0x9000 6 v) ∧ (s.clk.lead.half = some h))
  ∧ (∃ s : State, ∃ o : Origin, ∃ v : List Byte, 
    let h := leNat v
    (Writable s o 0x9000 6 v) ∧ ∃ p : Nat, (s.clk.lead.half = some p) ∧ (p ≠ h) ∧ ((s.clk.lease.get h).rotRuns = true))
  ∧ (∃ s : State, ∃ o : Origin, ∃ v : List Byte, 
    let h := leNat v
    (Checked s o 0x9000 6 v) ∧ (s.clk.lead.half ≠ some h) ∧ ((s.clk.lease.get h).rotRuns = false))
  ∧ (∃ s : State, ∃ o : Origin, ∃ v : List Byte, 
    let h := leNat v
    (s.clk.lead.moving = none))
  ∧ (∃ s : State, ∃ o : Origin, ∃ v : List Byte, 
    let h := leNat v
    ∃ k : Nat, (s.clk.lead.moving = some k) ∧ ((s.clk.lease.get k).rotRuns = true)) :=
  ⟨⟨ls12 hl0 hl0 (some 0) none, (.mailbox 0), [0#8], by decide +kernel, by decide +kernel⟩,
   ⟨ls12 hl0 hl0 (some 0) none, (.mailbox 0), [1#8], by decide +kernel, 0, by decide +kernel, by decide +kernel, by decide +kernel⟩,
   ⟨ls12 hl0 { hl0 with rotRuns := false } (some 0) none, (.mailbox 0), [1#8], by decide +kernel, by decide +kernel, by decide +kernel⟩,
   ⟨norm, (.mailbox 0), [], by decide +kernel⟩,
   ⟨ls12 hl0 hl0 (some 0) (some 1), (.mailbox 0), [], 1, by decide +kernel, by decide +kernel⟩⟩

theorem wit_leadMessages :
  (∃ s : State, ∃ h : Nat, ∃ e : Nat, (h < 2) ∧ 
    let l := s.clk.lease.get h
    (e < l.epoch))
  ∧ (∃ s : State, ∃ h : Nat, ∃ e : Nat, (h < 2) ∧ 
    let l := s.clk.lease.get h
    (l.epoch < e) ∧ (l.hold = false))
  ∧ (∃ s : State, ∃ h : Nat, ∃ e : Nat, (h < 2) ∧ 
    let l := s.clk.lease.get h
    (l.epoch = e)) :=
  ⟨⟨ls12 hl0 hl0 (some 0) none, 1, 4, by decide +kernel, by decide +kernel⟩,
   ⟨ls12 hl0 hl0 (some 0) none, 1, 6, by decide +kernel, by decide +kernel, by decide +kernel⟩,
   ⟨ls12 hl0 hl0 (some 0) none, 1, 5, by decide +kernel, by decide +kernel⟩⟩

theorem wit_refclks :
  (∃ s : State, (s.boot.mode ≠ 0) ∧ (s.boot.refLost = false))
  ∧ (∃ s : State, (s.boot.mode ≠ 0) ∧ (s.boot.refLost = true)) :=
  ⟨⟨norm, by decide +kernel, by decide +kernel⟩,
   ⟨{ norm with boot := { norm.boot with refLost := true } }, by decide +kernel, by decide +kernel⟩⟩

theorem wit_replans : ∃ s : State, ∃ o : Origin, ∃ v : List Byte, 
    let all := (List.range 100).foldl (fun t i => t.replan i) s
    (Writable s o 0x9040 2 v) :=
  ⟨norm, (.mailbox 0), [1#8], by decide +kernel⟩

theorem wit_replansOne :
  (∃ s : State, ∃ i : Nat, ∃ vp : Nat, ∃ x : Island, 
    let u := s.count 0x8900 6 1
    
    let k := islandKind i
    
    let seq := (u.clk.planSeq + 1) % 2 ^ 32
    
    let ok : Prop := u.dval (0x9050 + k) 2 ≤ vp ∧ vp ≤ u.dval (0x9050 + k) 3 ∧ (vp - x.volt) + (x.volt - vp) ≤ u.dval (0x9050 + k) 4
    (u.island i = x) ∧ (planVolt (u.curveAt k).1 (u.curveAt k).2 x.volt (u.dval (0x9050 + k) 5) x.slack = vp) ∧ (vp = x.volt))
  ∧ (∃ s : State, ∃ i : Nat, ∃ vp : Nat, ∃ x : Island, 
    let u := s.count 0x8900 6 1
    
    let k := islandKind i
    
    let seq := (u.clk.planSeq + 1) % 2 ^ 32
    
    let ok : Prop := u.dval (0x9050 + k) 2 ≤ vp ∧ vp ≤ u.dval (0x9050 + k) 3 ∧ (vp - x.volt) + (x.volt - vp) ≤ u.dval (0x9050 + k) 4
    (u.island i = x) ∧ (planVolt (u.curveAt k).1 (u.curveAt k).2 x.volt (u.dval (0x9050 + k) 5) x.slack = vp) ∧ (vp ≠ x.volt) ∧ (ok))
  ∧ (∃ s : State, ∃ i : Nat, ∃ vp : Nat, ∃ x : Island, 
    let u := s.count 0x8900 6 1
    
    let k := islandKind i
    
    let seq := (u.clk.planSeq + 1) % 2 ^ 32
    
    let ok : Prop := u.dval (0x9050 + k) 2 ≤ vp ∧ vp ≤ u.dval (0x9050 + k) 3 ∧ (vp - x.volt) + (x.volt - vp) ≤ u.dval (0x9050 + k) 4
    (u.island i = x) ∧ (planVolt (u.curveAt k).1 (u.curveAt k).2 x.volt (u.dval (0x9050 + k) 5) x.slack = vp) ∧ (vp ≠ x.volt) ∧ (¬ ok)) :=
  ⟨⟨mg (is12 99 { isl0 650 0 0 0 false with slack := 800 }), 99, 650, { isl0 650 0 0 0 false with slack := 800 }, by decide +kernel, by decide +kernel, by decide +kernel⟩,
   ⟨mg (is12 99 (isl0 640 0 0 0 false)), 99, 650, isl0 640 0 0 0 false, by decide +kernel, by decide +kernel, by decide +kernel, by decide +kernel⟩,
   ⟨mg (is12 99 (isl0 600 0 0 0 false)), 99, 650, isl0 600 0 0 0 false, by decide +kernel, by decide +kernel, by decide +kernel, by decide +kernel⟩⟩

theorem wit_stages :
  (∃ x : Island, (x.volt ≠ x.vp) ∧ 
    let y := x.stage
    (x.volt < x.vp))
  ∧ (∃ x : Island, (x.volt ≠ x.vp) ∧ 
    let y := x.stage
    (x.vp < x.volt))
  ∧ (∃ x : Island, (x.volt ≠ x.vp) ∧ 
    let y := x.stage
    (y.volt = x.vp))
  ∧ (∃ x : Island, (x.volt ≠ x.vp) ∧ 
    let y := x.stage
    (y.volt ≠ x.vp)) :=
  ⟨⟨isl0 700 1 715 1 false, by decide +kernel, by decide +kernel⟩,
   ⟨isl0 700 1 685 1 false, by decide +kernel, by decide +kernel⟩,
   ⟨isl0 700 1 705 1 false, by decide +kernel, by decide +kernel⟩,
   ⟨isl0 700 1 715 1 false, by decide +kernel, by decide +kernel⟩⟩

theorem wit_marginWrites :
  (∃ s : State, ∃ o : Origin, ∃ k : Nat, ∃ sub : Nat, ∃ v : List Byte, (k < 17) ∧ (Writable s o (0x9050 + k) sub v) ∧ (s.marginRule k sub v = none) ∧ (sub = 5))
  ∧ (∃ s : State, ∃ o : Origin, ∃ k : Nat, ∃ sub : Nat, ∃ v : List Byte, (k < 17) ∧ (Writable s o (0x9050 + k) sub v) ∧ (s.marginRule k sub v = none) ∧ (sub ≠ 5))
  ∧ (∃ s : State, ∃ o : Origin, ∃ k : Nat, ∃ sub : Nat, ∃ v : List Byte, (k < 17) ∧ (Checked s o (0x9050 + k) 1 v) ∧ (marginCurveOk k v = false))
  ∧ (∃ s : State, ∃ o : Origin, ∃ k : Nat, ∃ sub : Nat, ∃ v : List Byte, (k < 17) ∧ (Checked s o (0x9050 + k) 2 v) ∧ (s.dval (0x9050 + k) 3 < leNat v))
  ∧ (∃ s : State, ∃ o : Origin, ∃ k : Nat, ∃ sub : Nat, ∃ v : List Byte, (17 ≤ k)) :=
  ⟨⟨norm, (.mailbox 0), 16, 5, leBytes 2 500, by decide +kernel, by decide +kernel, by decide +kernel, by decide +kernel⟩,
   ⟨mg norm, (.mailbox 0), 16, 2, leBytes 2 600, by decide +kernel, by decide +kernel, by decide +kernel, by decide +kernel⟩,
   ⟨norm, (.mailbox 0), 16, 0, [1#8], by decide +kernel, by decide +kernel, by decide +kernel⟩,
   ⟨mg norm, (.mailbox 0), 16, 0, leBytes 2 1100, by decide +kernel, by decide +kernel, by decide +kernel⟩,
   ⟨norm, (.mailbox 0), 17, 0, [], by decide +kernel⟩⟩

theorem wit_slacks :
  (∃ s : State, ∃ i : Nat, ∃ slack : Nat, ∃ ring : Nat, (i < 100) ∧ (slack < 65536) ∧ (ring < 2 ^ 32) ∧ 
    let x := s.island i
    
    let s1 := fun (low : Bool) => s.setIsland i { x with slack := slack, ring := ring, low := low }
    (s.dval 0x9040 3 ≤ slack))
  ∧ (∃ s : State, ∃ i : Nat, ∃ slack : Nat, ∃ ring : Nat, (i < 100) ∧ (slack < 65536) ∧ (ring < 2 ^ 32) ∧ 
    let x := s.island i
    
    let s1 := fun (low : Bool) => s.setIsland i { x with slack := slack, ring := ring, low := low }
    (slack < s.dval 0x9040 3) ∧ (x.low = true))
  ∧ (∃ s : State, ∃ i : Nat, ∃ slack : Nat, ∃ ring : Nat, (i < 100) ∧ (slack < 65536) ∧ (ring < 2 ^ 32) ∧ 
    let x := s.island i
    
    let s1 := fun (low : Bool) => s.setIsland i { x with slack := slack, ring := ring, low := low }
    (slack < s.dval 0x9040 3) ∧ (x.low = false) ∧ (x.plan ≠ 1))
  ∧ (∃ s : State, ∃ i : Nat, ∃ slack : Nat, ∃ ring : Nat, (i < 100) ∧ (slack < 65536) ∧ (ring < 2 ^ 32) ∧ 
    let x := s.island i
    
    let s1 := fun (low : Bool) => s.setIsland i { x with slack := slack, ring := ring, low := low }
    (slack < s.dval 0x9040 3) ∧ (x.low = false) ∧ (x.plan = 1) ∧ (x.volt < x.vp)) :=
  ⟨⟨norm, 99, 65535, 0, by decide +kernel, by decide +kernel, by decide +kernel, by decide +kernel⟩,
   ⟨is12 99 (isl0 700 1 715 1 true), 99, 0, 0, by decide +kernel, by decide +kernel, by decide +kernel, by decide +kernel, by decide +kernel⟩,
   ⟨is12 99 (isl0 700 0 0 0 false), 99, 0, 0, by decide +kernel, by decide +kernel, by decide +kernel, by decide +kernel, by decide +kernel, by decide +kernel⟩,
   ⟨is12 99 (isl0 700 1 715 1 false), 99, 0, 0, by decide +kernel, by decide +kernel, by decide +kernel, by decide +kernel, by decide +kernel, by decide +kernel, by decide +kernel⟩⟩

theorem wit_approves :
  (∃ s : State, ∃ o : Origin, ∃ i : Nat, ∃ v : List Byte, (i < 100) ∧ 
    let x := s.island i
    (Writable s o (0x9080 + i) 9 v) ∧ (x.plan = 2) ∧ (leNat v = x.seq))
  ∧ (∃ s : State, ∃ o : Origin, ∃ i : Nat, ∃ v : List Byte, (i < 100) ∧ 
    let x := s.island i
    (Writable s o (0x9080 + i) 9 v) ∧ (x.plan = 2) ∧ (leNat v = 0) ∧ (x.seq ≠ 0))
  ∧ (∃ s : State, ∃ o : Origin, ∃ i : Nat, ∃ v : List Byte, (i < 100) ∧ 
    let x := s.island i
    (Checked s o (0x9080 + i) 9 v) ∧ (x.plan ≠ 2) ∧ (x.plan ≠ 3)) :=
  ⟨⟨is12 99 (isl0 700 2 715 8 false), (.mailbox 0), 99, leBytes 4 8, by decide +kernel, by decide +kernel, by decide +kernel, by decide +kernel⟩,
   ⟨is12 99 (isl0 700 2 715 8 false), (.mailbox 0), 99, leBytes 4 0, by decide +kernel, by decide +kernel, by decide +kernel, by decide +kernel, by decide +kernel⟩,
   ⟨is12 99 (isl0 700 1 715 8 false), (.mailbox 0), 99, leBytes 4 8, by decide +kernel, by decide +kernel, by decide +kernel, by decide +kernel⟩⟩

end W12

/-! ### Start-up and the feed -/

namespace W13

def bt (f : Boot → Boot) : State := { norm with boot := f norm.boot }
def start13 (use : Nat) : State := bt (fun b => { b with mode := 0, use })
def svc13 (st recv blen last : Nat) (bytes : List Byte) : State :=
  bt (fun b => { b with slots := { b.slots with w := { st := 1, bseq := 1, bytes } }, serv := { b.serv with slot := 0, st, recv, blen, lastLen := last } })
def bund13 : List Byte := leBytes 1025 0x10000040000000000000000000000000000000000000000040100494d000000000000000000000000000000000000000000000000000000000000000000000000000000000000000000000000000000000000000000000000000000000000000000000000000000000000000000000000000000000000000000000000000000000000000000000000000000000000000000000000000000000000000000000000000000000000000000000000000000000000000000000000000000000000000000000000000000000000000000000000000000000000000000000000000000000000000000000000000000000000000000000000000000000000000000000001000003c000000000000000000000000000000000000000030100494d0000000000000000000000000000000000000000000000000000000000000000000000000000000000000000000000000000000000000000000000000000000000000000000000000000000000000000000000000000000000000000000000000000000000000000000000000000000000000000000000000000000000000000000000000000000000000000000000000000000000000000000000000000000000000000000000000000000000000000000000000000000000000000000000000000000000000000000000000000000000000000000000000000000000000000000000010000038000000000000000000000000000000000000000020100494d16c55272000004010000000000000000000000000000000000000000000000000000000000000000000000000000000000000000000000000000000000000000000000000000000000000000000000000000000000000000000000000000000000000000000000000000000000000000000000000000000000b0030100004642
def pw13 (n x below : Nat) : State := { norm with power := { norm.power with samples := List.replicate n x, below } }
def isl13 (t : Int) : Island :=
  { slack := 1000, ring := 0, temp := t, volt := 700, plan := 0, vp := 0, seq := 0, active := 0, stress := 0, frac := 0, hottest := 0, duty := 100, low := false }
def is13 (t : Int) : State := { norm with clk := { norm.clk with islands := (List.range 100).map (fun k => (k, isl13 t)) } }
def half13 : State := bt (fun b => { b with halfStart := { b.halfStart with e := true } })
def mt13 (s : State) : State := { s with maint := { s.maint with st := 2 } }
def cal13 (st : Nat) : Calendar := { st, now := 5, slew := 0, frac := 0, saved := 0, copy := { w := 0, e := 0 }, age := { w := 10, e := 10 }, free := { w := false, e := false } }

theorem wit_powerOns :
  (∃ s : State, ∃ straps : Nat, ∃ ref : Bool, (s.boot.shut = false ∨ s.boot.off = true))
  ∧ (∃ s : State, ∃ straps : Nat, ∃ ref : Bool, (s.boot.shut = true) ∧ (s.boot.off = false)) :=
  ⟨⟨norm, 31, false, by decide +kernel⟩,
   ⟨bt (fun b => { b with shut := true }), 0, false, by decide +kernel, by decide +kernel⟩⟩

theorem wit_startKeeps : ∃ s : State, ∃ warm : Bool, ∃ last : Nat, 
    let f := s.fresh warm last
    ∃ g : Nat, ∃ a : Granule, ((g, a) ∈ f.tiers.grans) :=
  ⟨{ norm with tiers := { norm.tiers with grans := [(0, { gran0 with pin := true })] }, boot := { norm.boot with anchors := { norm.boot.anchors with w := [{ first := 0, count := 1, tier := 2, loc := 7, ext := 0, len := 0, addr := 0 }] } } }, false, 1, 0, { gran0 with tier := 2, pin := true, loc := 7 }, by decide +kernel⟩

theorem wit_calendarKept :
  (∃ c : Calendar, (c.st ≠ 0))
  ∧ (∃ c : Calendar, (c.st = 0)) :=
  ⟨⟨cal13 2, by decide +kernel⟩,
   ⟨cal13 0, by decide +kernel⟩⟩

theorem wit_romTries : ∃ b : Boot, ∃ fl : List Nat, ∃ k : Nat, ∃ t : List Nat, ∃ r : Nat, (bundleFault fl (b.slots.get k).bytes = some r) :=
  ⟨norm.boot, [0, 0, 0], 0, [1], 1, by with_unfolding_all decide⟩

theorem wit_startupEnds :
  (∃ s : State, (s.boot.mode = 0) ∧ (s.boot.refLost = false) ∧ (s.dark = false) ∧ (s.boot.use ≠ 2))
  ∧ (∃ s : State, (s.boot.mode = 0) ∧ (s.boot.refLost = false) ∧ (s.dark = false) ∧ (s.boot.use = 2) ∧ (s.rom.boot.mode = 3))
  ∧ (∃ s : State, (s.boot.mode ≠ 0 ∨ s.boot.refLost = true ∨ s.dark = true)) :=
  ⟨⟨start13 0, by decide +kernel, by decide +kernel, by decide +kernel, by decide +kernel⟩,
   ⟨start13 2, by decide +kernel, by decide +kernel, by decide +kernel, by decide +kernel, by decide +kernel⟩,
   ⟨norm, by decide +kernel⟩⟩

theorem wit_slotsCome :
  (∃ b : Boot, ∃ k : Nat, (k < 2))
  ∧ (∃ b : Boot, ∃ k : Nat, (k < 2) ∧ ((b.slots.get (1 - k)).st = 3))
  ∧ (∃ b : Boot, ∃ k : Nat, (k < 2) ∧ ((b.slots.get (1 - k)).st ≠ 3)) :=
  ⟨⟨norm.boot, 1, by decide +kernel⟩,
   ⟨{ norm.boot with slots := { norm.boot.slots with w := { FwSlot.empty with st := 3 } } }, 1, by decide +kernel, by decide +kernel⟩,
   ⟨norm.boot, 1, by decide +kernel, by decide +kernel⟩⟩

theorem wit_readyTimeouts :
  (∃ s : State, (s.boot.mode = 0) ∧ (s.boot.use ≠ 2) ∧ (s.dark = false))
  ∧ (∃ s : State, (s.boot.mode ≠ 0 ∨ s.boot.use = 2 ∨ s.dark = true)) :=
  ⟨⟨start13 1, by decide +kernel, by decide +kernel, by decide +kernel⟩,
   ⟨norm, by decide +kernel⟩⟩

theorem wit_resets :
  (∃ s : State, ∃ o : Origin, ∃ v : List Byte, (Checked s o 0xF001 1 v) ∧ 
    let n := leNat v
    (n = 1) ∧ (s.unreachable o 0xF001 1 true = false))
  ∧ (∃ s : State, ∃ o : Origin, ∃ v : List Byte, (Checked s o 0xF001 1 v) ∧ 
    let n := leNat v
    (n ≠ 1) ∧ (s.halfBusy (n - 2) = false) ∧ (s.unreachable o 0xF001 1 true = false))
  ∧ (∃ s : State, ∃ o : Origin, ∃ v : List Byte, (Checked s o 0xF001 1 v) ∧ 
    let n := leNat v
    (n ≠ 1) ∧ (s.halfBusy (n - 2) = true))
  ∧ (∃ s : State, ∃ o : Origin, ∃ v : List Byte, (Checked s o 0xF001 1 v) ∧ 
    let n := leNat v
    (n = 1) ∧ (s.unreachable o 0xF001 1 true = true)) :=
  ⟨⟨setV norm 0xF001 2 [1#8], (.mailbox 0), [1#8], by decide +kernel, by decide +kernel, by decide +kernel⟩,
   ⟨setV norm 0xF001 2 [1#8], (.mailbox 0), [3#8], by decide +kernel, by decide +kernel, by decide +kernel, by decide +kernel⟩,
   ⟨half13, (.mailbox 0), [2#8], by decide +kernel, by decide +kernel, by decide +kernel⟩,
   ⟨noBridge norm, (.mailbox 0), [1#8], by decide +kernel, by decide +kernel, by decide +kernel⟩⟩

theorem wit_halfStartsEnd :
  (∃ s : State, ∃ h : Nat, (h < 2) ∧ (s.boot.halfStart.get h = true))
  ∧ (∃ s : State, ∃ h : Nat, (h < 2) ∧ (s.boot.halfStart.get h = false)) :=
  ⟨⟨half13, 1, by decide +kernel, by decide +kernel⟩,
   ⟨half13, 0, by decide +kernel, by decide +kernel⟩⟩

theorem wit_heartbeats :
  (∃ s : State, ∃ h : Nat, (h < 2) ∧ ((s.clk.lease.get h).stalled = false))
  ∧ (∃ s : State, ∃ h : Nat, (h < 2) ∧ ((s.clk.lease.get h).stalled = true)) :=
  ⟨⟨norm, 1, by decide +kernel, by decide +kernel⟩,
   ⟨{ norm with clk := { norm.clk with lease := { norm.clk.lease with e := { norm.clk.lease.e with stalled := true } } } }, 1, by decide +kernel, by decide +kernel⟩⟩

theorem wit_testModes :
  (∃ s : State, ∃ o : Origin, ∃ v : List Byte, (Writable s o 0xF000 8 v) ∧ (s.boot.mode = 1) ∧ (leNat v = 2) ∧ (s.testReady = true))
  ∧ (∃ s : State, ∃ o : Origin, ∃ v : List Byte, (Checked s o 0xF000 8 v) ∧ (s.boot.mode = 1) ∧ (leNat v = 2) ∧ (s.testReady = false))
  ∧ (∃ s : State, ∃ o : Origin, ∃ v : List Byte, (Writable s o 0xF000 8 v) ∧ (s.boot.mode = 2) ∧ (leNat v = 1)) :=
  ⟨⟨mt13 norm, (.mailbox 0), [2#8], by decide +kernel, by decide +kernel, by decide +kernel, by decide +kernel⟩,
   ⟨mt13 live0, (.mailbox 0), [2#8], by decide +kernel, by decide +kernel, by decide +kernel, by decide +kernel⟩,
   ⟨mt13 (bt (fun b => { b with mode := 2 })), (.mailbox 0), [1#8], by decide +kernel, by decide +kernel, by decide +kernel⟩⟩

theorem wit_floorsAlert :
  (∃ s : State, ∃ o : Origin, ∃ v : List Byte, (Writable s o 0xF002 0xC v))
  ∧ (∃ s : State, ∃ o : Origin, ∃ v : List Byte, (Writable s o 0xF000 0xA v)) :=
  ⟨⟨norm, (.mailbox 0), [1#8], by decide +kernel⟩,
   ⟨norm, (.mailbox 0), [1#8], by decide +kernel⟩⟩

theorem wit_serviceBegins :
  (∃ s : State, ∃ b : List Byte, ∃ d : List Byte, (FrameTaken s 1 0 b d) ∧ (s.dval 0xF002 0x10 ≠ 0) ∧ (s.boot.serv.st ≠ 1) ∧ (leAt d 0 4 ≤ 3670016))
  ∧ (∃ s : State, ∃ b : List Byte, ∃ d : List Byte, (FrameTaken s 1 0 b d) ∧ (s.dval 0xF002 0x10 = 0))
  ∧ (∃ s : State, ∃ b : List Byte, ∃ d : List Byte, (FrameTaken s 1 0 b d) ∧ (s.dval 0xF002 0x10 ≠ 0) ∧ (s.boot.serv.st = 1))
  ∧ (∃ s : State, ∃ b : List Byte, ∃ d : List Byte, (FrameTaken s 1 0 b d) ∧ (s.dval 0xF002 0x10 ≠ 0) ∧ (s.boot.serv.st ≠ 1) ∧ (3670016 < leAt d 0 4))
  ∧ (∃ s : State, ∃ b : List Byte, ∃ d : List Byte, (s.dark = false) ∧ (12 ≤ b.length) ∧ (b.length ≤ 1036) ∧ (crc32c (b.take (b.length - 4)) ≠ leAt b (b.length - 4) 4)) :=
  ⟨⟨norm, leBytes 20 0x31cd8e7000000009000000640100000000800000, leBytes 8 0x900000064, by (simp only [FrameTaken, crc32c_go]; decide +kernel), by decide +kernel, by decide +kernel, by decide +kernel⟩,
   ⟨setV norm 0xF002 0x10 [0#8], leBytes 20 0x31cd8e7000000009000000640100000000800000, leBytes 8 0x900000064, by (simp only [FrameTaken, crc32c_go]; decide +kernel), by decide +kernel⟩,
   ⟨svc13 1 0 100 0 [], leBytes 20 0x31cd8e7000000009000000640100000000800000, leBytes 8 0x900000064, by (simp only [FrameTaken, crc32c_go]; decide +kernel), by decide +kernel, by decide +kernel⟩,
   ⟨norm, leBytes 20 0xd46f81600000000900ffffff0100000000800000, leBytes 8 0x900ffffff, by (simp only [FrameTaken, crc32c_go]; decide +kernel), by decide +kernel, by decide +kernel, by decide +kernel⟩,
   ⟨norm, leBytes 12 1, [], by decide +kernel, by decide +kernel, by decide +kernel, by (simp only [crc32c_go]; decide +kernel)⟩⟩

theorem wit_serviceTakes :
  (∃ s : State, ∃ off : Nat, ∃ b : List Byte, ∃ d : List Byte, (FrameTaken s 2 off b d) ∧ 
    let v := s.boot.serv
    
    let x := s.boot.slots.get v.slot
    (v.st = 1) ∧ (off = v.recv) ∧ (v.recv + d.length ≤ v.blen))
  ∧ (∃ s : State, ∃ off : Nat, ∃ b : List Byte, ∃ d : List Byte, (FrameTaken s 2 off b d) ∧ 
    let v := s.boot.serv
    
    let x := s.boot.slots.get v.slot
    (v.st = 1) ∧ (0 < v.lastLen) ∧ (d.length = v.lastLen) ∧ (off + v.lastLen = v.recv) ∧ (slice x.bytes off v.lastLen = d))
  ∧ (∃ s : State, ∃ off : Nat, ∃ b : List Byte, ∃ d : List Byte, (FrameTaken s 2 off b d) ∧ 
    let v := s.boot.serv
    
    let x := s.boot.slots.get v.slot
    (v.st = 1) ∧ (off ≠ v.recv) ∧ (off + v.lastLen ≠ v.recv))
  ∧ (∃ s : State, ∃ off : Nat, ∃ b : List Byte, ∃ d : List Byte, (FrameTaken s 2 off b d) ∧ 
    let v := s.boot.serv
    
    let x := s.boot.slots.get v.slot
    (v.st ≠ 1)) :=
  ⟨⟨svc13 1 5 8 0 [], 5, leBytes 15 0x116654cc6362610200000500300000, leBytes 3 0x636261, by (simp only [FrameTaken, crc32c_go]; decide +kernel), by decide +kernel, by decide +kernel, by decide +kernel⟩,
   ⟨svc13 1 3 8 3 (leBytes 3 0x636261), 0, leBytes 15 0xdc85bdd56362610200000000300000, leBytes 3 0x636261, by (simp only [FrameTaken, crc32c_go]; decide +kernel), by decide +kernel, by decide +kernel, by decide +kernel, by decide +kernel, by decide +kernel⟩,
   ⟨svc13 1 5 8 0 [], 7, leBytes 15 0xc1600d5c6362610200000700300000, leBytes 3 0x636261, by (simp only [FrameTaken, crc32c_go]; decide +kernel), by decide +kernel, by decide +kernel, by decide +kernel⟩,
   ⟨norm, 0, leBytes 15 0xdc85bdd56362610200000000300000, leBytes 3 0x636261, by (simp only [FrameTaken, crc32c_go]; decide +kernel), by decide +kernel⟩⟩

theorem wit_servicesEnd :
  (∃ s : State, ∃ b : List Byte, ∃ d : List Byte, 
    let v := s.boot.serv
    
    let x := s.boot.slots.get v.slot
    
    let ended := fun (r : Nat) =>
      let s1 : State := { s with boot := { s.boot with slots := s.boot.slots.set v.slot FwSlot.empty, serv := { v with st := 0, result := r } } }
      (s1.count 0x8F00 5 1).raise 0xF005 0 0 [v.slot, r]
    (FrameTaken s 3 0 b d) ∧ (v.st = 1) ∧ (v.recv = v.blen) ∧ (bundleShape x.bytes = true))
  ∧ (∃ s : State, ∃ b : List Byte, ∃ d : List Byte, 
    let v := s.boot.serv
    
    let x := s.boot.slots.get v.slot
    
    let ended := fun (r : Nat) =>
      let s1 : State := { s with boot := { s.boot with slots := s.boot.slots.set v.slot FwSlot.empty, serv := { v with st := 0, result := r } } }
      (s1.count 0x8F00 5 1).raise 0xF005 0 0 [v.slot, r]
    (FrameTaken s 3 0 b d) ∧ (v.st = 1) ∧ (v.recv ≠ v.blen))
  ∧ (∃ s : State, ∃ b : List Byte, ∃ d : List Byte, 
    let v := s.boot.serv
    
    let x := s.boot.slots.get v.slot
    
    let ended := fun (r : Nat) =>
      let s1 : State := { s with boot := { s.boot with slots := s.boot.slots.set v.slot FwSlot.empty, serv := { v with st := 0, result := r } } }
      (s1.count 0x8F00 5 1).raise 0xF005 0 0 [v.slot, r]
    (FrameTaken s 3 0 b d) ∧ (v.st ≠ 1))
  ∧ (∃ s : State, ∃ b : List Byte, ∃ d : List Byte, 
    let v := s.boot.serv
    
    let x := s.boot.slots.get v.slot
    
    let ended := fun (r : Nat) =>
      let s1 : State := { s with boot := { s.boot with slots := s.boot.slots.set v.slot FwSlot.empty, serv := { v with st := 0, result := r } } }
      (s1.count 0x8F00 5 1).raise 0xF005 0 0 [v.slot, r]
    (FrameTaken s 4 0 b d) ∧ (v.st = 1))
  ∧ (∃ s : State, ∃ b : List Byte, ∃ d : List Byte, 
    let v := s.boot.serv
    
    let x := s.boot.slots.get v.slot
    
    let ended := fun (r : Nat) =>
      let s1 : State := { s with boot := { s.boot with slots := s.boot.slots.set v.slot FwSlot.empty, serv := { v with st := 0, result := r } } }
      (s1.count 0x8F00 5 1).raise 0xF005 0 0 [v.slot, r]
    (FrameTaken s 4 0 b d) ∧ (v.st ≠ 1))
  ∧ (∃ s : State, ∃ b : List Byte, ∃ d : List Byte, 
    let v := s.boot.serv
    
    let x := s.boot.slots.get v.slot
    
    let ended := fun (r : Nat) =>
      let s1 : State := { s with boot := { s.boot with slots := s.boot.slots.set v.slot FwSlot.empty, serv := { v with st := 0, result := r } } }
      (s1.count 0x8F00 5 1).raise 0xF005 0 0 [v.slot, r]
    (v.st = 1))
  ∧ (∃ s : State, ∃ b : List Byte, ∃ d : List Byte, 
    let v := s.boot.serv
    
    let x := s.boot.slots.get v.slot
    
    let ended := fun (r : Nat) =>
      let s1 : State := { s with boot := { s.boot with slots := s.boot.slots.set v.slot FwSlot.empty, serv := { v with st := 0, result := r } } }
      (s1.count 0x8F00 5 1).raise 0xF005 0 0 [v.slot, r]
    (v.st ≠ 1)) :=
  ⟨⟨svc13 1 1025 1025 1 bund13, leBytes 12 0x9f78417e0300000000000000, [], by (simp only [FrameTaken, crc32c_go]; decide +kernel), by decide +kernel, by decide +kernel, by (simp only [bundleShape, crc32c_go]; decide +kernel)⟩,
   ⟨svc13 1 5 8 0 [], leBytes 12 0x9f78417e0300000000000000, [], by (simp only [FrameTaken, crc32c_go]; decide +kernel), by decide +kernel, by decide +kernel⟩,
   ⟨norm, leBytes 12 0x9f78417e0300000000000000, [], by (simp only [FrameTaken, crc32c_go]; decide +kernel), by decide +kernel⟩,
   ⟨svc13 1 5 8 0 [], leBytes 12 0x4bb225950400000000000000, [], by (simp only [FrameTaken, crc32c_go]; decide +kernel), by decide +kernel⟩,
   ⟨norm, leBytes 12 0x4bb225950400000000000000, [], by (simp only [FrameTaken, crc32c_go]; decide +kernel), by decide +kernel⟩,
   ⟨svc13 1 5 8 0 [], [], [], by decide +kernel⟩,
   ⟨norm, [], [], by decide +kernel⟩⟩

theorem wit_serviceActs :
  (∃ s : State, ∃ b : List Byte, ∃ d : List Byte, (FrameTaken s 5 0 b d) ∧ (s.dval 0xF001 2 = 1 ∨ s.boot.mode = 3))
  ∧ (∃ s : State, ∃ b : List Byte, ∃ d : List Byte, (FrameTaken s 5 0 b d) ∧ (s.dval 0xF001 2 ≠ 1) ∧ (s.boot.mode ≠ 3))
  ∧ (∃ s : State, ∃ b : List Byte, ∃ d : List Byte, (s.dark = false))
  ∧ (∃ s : State, ∃ b : List Byte, ∃ d : List Byte, (s.dark = true)) :=
  ⟨⟨setV norm 0xF001 2 [1#8], leBytes 12 0xb9d9a6960500000000000000, [], by (simp only [FrameTaken, crc32c_go]; decide +kernel), by decide +kernel⟩,
   ⟨setV norm 0xF001 2 [0#8], leBytes 12 0xb9d9a6960500000000000000, [], by (simp only [FrameTaken, crc32c_go]; decide +kernel), by decide +kernel, by decide +kernel⟩,
   ⟨norm, [], [], by decide +kernel⟩,
   ⟨bt (fun b => { b with off := true }), [], [], by decide +kernel⟩⟩

theorem wit_i3cTakes :
  (∃ s : State, ∃ d : List Byte, (s.dark = false) ∧ 
    let v := s.boot.serv
    
    let w := fun (x : Service) => ({ s with boot := { s.boot with serv := x } } : State)
    (v.dyn = false))
  ∧ (∃ s : State, ∃ d : List Byte, (s.dark = false) ∧ 
    let v := s.boot.serv
    
    let w := fun (x : Service) => ({ s with boot := { s.boot with serv := x } } : State)
    (v.dyn = true))
  ∧ (∃ s : State, ∃ d : List Byte, (s.dark = false)) :=
  ⟨⟨norm, [], by decide +kernel, by decide +kernel⟩,
   ⟨bt (fun b => { b with serv := { b.serv with dyn := true } }), [], by decide +kernel, by decide +kernel⟩,
   ⟨norm, [], by decide +kernel⟩⟩

theorem wit_feeds :
  (∃ s : State, ∃ mv : Nat, (mv < 37000))
  ∧ (∃ s : State, ∃ mv : Nat, (37000 ≤ mv))
  ∧ (∃ s : State, ∃ mv : Nat, (s.boot.off = false))
  ∧ (∃ s : State, ∃ mv : Nat, (s.boot.off = true)) :=
  ⟨⟨norm, 36999, by decide +kernel⟩,
   ⟨norm, 37000, by decide +kernel⟩,
   ⟨norm, 0, by decide +kernel⟩,
   ⟨bt (fun b => { b with off := true }), 0, by decide +kernel⟩⟩

theorem wit_powers :
  (∃ s : State, ∃ w : Nat, ∃ mv : Nat, (s.dark = false) ∧ 
    let l := (w :: s.power.samples).take 100
    
    let sum := 1000 * l.foldl (· + ·) 0
    
    let lim := 100 * min 2600000 (60 * mv)
    (l.length < 100))
  ∧ (∃ s : State, ∃ w : Nat, ∃ mv : Nat, (s.dark = false) ∧ 
    let l := (w :: s.power.samples).take 100
    
    let sum := 1000 * l.foldl (· + ·) 0
    
    let lim := 100 * min 2600000 (60 * mv)
    (100 ≤ l.length) ∧ (lim < sum))
  ∧ (∃ s : State, ∃ w : Nat, ∃ mv : Nat, (s.dark = false) ∧ 
    let l := (w :: s.power.samples).take 100
    
    let sum := 1000 * l.foldl (· + ·) 0
    
    let lim := 100 * min 2600000 (60 * mv)
    (100 ≤ l.length) ∧ (sum + 5000000 < lim) ∧ (s.power.below = 99))
  ∧ (∃ s : State, ∃ w : Nat, ∃ mv : Nat, (s.dark = false) ∧ 
    let l := (w :: s.power.samples).take 100
    
    let sum := 1000 * l.foldl (· + ·) 0
    
    let lim := 100 * min 2600000 (60 * mv)
    (100 ≤ l.length) ∧ (sum + 5000000 < lim) ∧ (s.power.below < 99))
  ∧ (∃ s : State, ∃ w : Nat, ∃ mv : Nat, (s.dark = false) ∧ 
    let l := (w :: s.power.samples).take 100
    
    let sum := 1000 * l.foldl (· + ·) 0
    
    let lim := 100 * min 2600000 (60 * mv)
    (100 ≤ l.length) ∧ (sum ≤ lim) ∧ (lim ≤ sum + 5000000)) :=
  ⟨⟨norm, 100, 48000, by decide +kernel, by decide +kernel⟩,
   ⟨pw13 99 3000 0, 3000, 48000, by decide +kernel, by decide +kernel, by decide +kernel⟩,
   ⟨pw13 99 1 99, 1, 48000, by decide +kernel, by decide +kernel, by decide +kernel, by decide +kernel⟩,
   ⟨pw13 99 1 98, 1, 48000, by decide +kernel, by decide +kernel, by decide +kernel, by decide +kernel⟩,
   ⟨pw13 99 2600 5, 2600, 48000, by decide +kernel, by decide +kernel, by decide +kernel, by decide +kernel⟩⟩

theorem wit_paces :
  (∃ d : Nat, ∃ t : List Nat, (t.all (fun x => decide (100 ≤ x)) = true))
  ∧ (∃ d : Nat, ∃ t : List Nat, (t.any (fun x => decide (x < 100)) = true)) :=
  ⟨⟨50, [100], by decide +kernel⟩,
   ⟨50, [25], by decide +kernel⟩⟩

theorem wit_thermals :
  (∃ s : State, ∃ temps : List Int, (s.dark = false) ∧ 
    let hot := (List.range 100).any (fun i => decide (12500 ≤ (s.island i).temp) && decide (12500 ≤ (temps[i]?).getD 0))
    
    let s1 := (List.range 100).foldl (fun t i =>
      match temps[i]? with
      | some x => t.setIsland i ((t.island i).heat i x)
      | none => t) s
    (hot = false))
  ∧ (∃ s : State, ∃ temps : List Int, (s.dark = false) ∧ 
    let hot := (List.range 100).any (fun i => decide (12500 ≤ (s.island i).temp) && decide (12500 ≤ (temps[i]?).getD 0))
    
    let s1 := (List.range 100).foldl (fun t i =>
      match temps[i]? with
      | some x => t.setIsland i ((t.island i).heat i x)
      | none => t) s
    (hot = true)) :=
  ⟨⟨norm, List.replicate 100 12499, by decide +kernel, by decide +kernel⟩,
   ⟨is13 12500, List.replicate 100 12500, by decide +kernel, by decide +kernel⟩⟩

theorem wit_islandHeats :
  (∃ i : Nat, ∃ x : Island, ∃ t : Int, (kindPaced (islandKind i) = false))
  ∧ (∃ i : Nat, ∃ x : Island, ∃ t : Int, (kindPaced (islandKind i) = true) ∧ (11000 ≤ t))
  ∧ (∃ i : Nat, ∃ x : Island, ∃ t : Int, (kindPaced (islandKind i) = true) ∧ (10500 ≤ t) ∧ (t < 11000))
  ∧ (∃ i : Nat, ∃ x : Island, ∃ t : Int, (kindPaced (islandKind i) = true) ∧ (10000 ≤ t) ∧ (t < 10500))
  ∧ (∃ i : Nat, ∃ x : Island, ∃ t : Int, (kindPaced (islandKind i) = true) ∧ (t < 10000)) :=
  ⟨⟨99, isl13 0, 0, by decide +kernel⟩,
   ⟨0, isl13 0, 11000, by decide +kernel, by decide +kernel⟩,
   ⟨0, isl13 0, 10999, by decide +kernel, by decide +kernel, by decide +kernel⟩,
   ⟨0, isl13 0, 10499, by decide +kernel, by decide +kernel, by decide +kernel⟩,
   ⟨0, isl13 0, 9999, by decide +kernel, by decide +kernel⟩⟩

end W13

/-! ### The whole machine -/

namespace W20

def sat20 : State := { norm with ctr := { norm.ctr with val := [(dkey 0x8110 5, ctrMax)], sat := [dkey 0x8110 5] } }
def near20 : State := { norm with ctr := { norm.ctr with val := [(dkey 0x8110 5, ctrMax - 1)] } }
/-- Every slot of the West half held for a session of partition 1. -/
def fullW : State :=
  let s := withRing { withE (entry .idle) with profs := [(0, prof0)] } (ring0 3 0)
  { s with sess := { s.sess with dir := [(0, entry .idle), (5, { entry .closed with part := 1 })], held := [(5, List.range 8192)] } }
def sub20 : Desc := mk 2 h0 (at_ 1 25 + at_ 4 224 + at_ 4 192 + at_ 0xFFFF 432 + at_ 0xFFFF 416)
def mem20 : Mem := Mem.write [] 5 7#8
def map20 (ls : Tab Link) : State :=
  let s := setV (setV (setV (setV norm 0x4100 1 [2#8]) 0x4100 2 [4#8]) 0x4100 3 [4#8]) (0x4110 + 8) 1 [1#8]
  { s with fab := { s.fab with mapOk := true, links := ls } }
def link20 : Link := { Link.blank with st := 2, used := 15, peer := 4, peerKind := 0 }
def msg20 : Msg := { dst := 8, src := 5, part := 0, mtype := 0x30, vc := 0, enc := false, hops := 0, ctr := 1, body := [] }

theorem none_first (p : Nat → Bool) : ∀ n a, (∀ k, a ≤ k → k < a + n → p k = false) → firstFrom p n a = none
  | 0, _, _ => rfl
  | n + 1, a, h => by
    rw [firstFrom, if_neg (by simp [h a (Nat.le_refl _) (by omega)])]
    exact none_first p n (a + 1) (fun k h1 h2 => h k (by omega) (by omega))

theorem full_none (s : State) (h : s.sess.held = [(5, List.range 8192)]) : s.freeSlot 0 = none := by
  refine none_first _ _ _ (fun k _ hk => ?_)
  have : k < 8192 := by omega
  simp [State.slotBusy, State.slotHeld, h, this]

theorem wit_countersSaturate : (∃ (s : State) (k n : Nat), 0 < n ∧ s.ctr.val.getD k 0 + n < ctrMax)
    ∧ (∃ (s : State) (k n : Nat), 0 < n ∧ ctrMax ≤ s.ctr.val.getD k 0 + n ∧ k ∉ s.ctr.sat)
    ∧ ∃ (s : State) (k n : Nat), 0 < n ∧ s.ctr.val.getD k 0 = ctrMax ∧ k ∈ s.ctr.sat :=
  ⟨⟨norm, 0, 1, by decide +kernel⟩, ⟨near20, dkey 0x8110 5, 1, by decide +kernel⟩, sat20, dkey 0x8110 5, 1, by decide +kernel⟩

theorem wit_slotsOfHalf : (∃ s : State, ∃ p h k : Nat, s.takeSlot p h = .ok k)
  ∧ ∃ (s : State) (fn sq : Nat) (d : Desc) (input : Option (List Byte)) (t p : Nat) (ps : SelParams) (b : List Byte),
    let s1 := (s.at t).dmaFrom fn input
    let i := hIdx (dHnd d)
    let h := (s1.ent i).shalf
    TakenSess s1 0x02 fn d false false p ∧ s1.submitBad fn d = false ∧ ((s1.ent i).state = .idle ∨ (s1.ent i).state = .parked) ∧
    s1.laneF (dFld d 399 392) 2 = (s1.ent i).profile ∧
    s1.textFault p i d = none ∧ s1.readParams p (dFld d 375 320) = .ok ps ∧ 0 < dFld d 255 224 ∧
    dFld d 255 224 ≤ s1.dval 0x5000 3 ∧ (s1.splitAt p h (dFld d 399 392) 1 && !dFlag d 25) = false ∧ input = some b ∧
    s1.slotsIn p h < s1.dval (0x2040 + p) 2 ∧ s1.freeSlot h = none :=
  ⟨⟨norm, 0, 1, 8192, by decide +kernel⟩,
   ⟨fullW, 0, 0, sub20, some [1#8, 0#8, 0#8, 0#8], 0, 0, SelParams.greedy, [1#8, 0#8, 0#8, 0#8], by decide +kernel, by decide +kernel, by decide +kernel,
    by decide +kernel, by decide +kernel, by decide +kernel, by decide +kernel, by decide +kernel, by decide +kernel, rfl, by decide +kernel, full_none _ rfl⟩⟩

theorem wit_memoryReads : (∃ a b : Nat, b ≠ a) ∧ (∃ (l : List Byte) (j : Nat) (x : Byte), l[j]? = some x)
    ∧ (∃ a b n : Nat, a ≤ b ∧ b < a + n) ∧ ∃ a b n : Nat, b < a ∨ a + n ≤ b :=
  ⟨⟨0, 1, by decide⟩, ⟨[7#8], 0, 7#8, rfl⟩, ⟨5, 5, 1, by decide⟩, 5, 6, 1, by decide⟩

theorem wit_memoryCanonical : ∃ m : Mem, m ≠ [] ∧ m.wf = true ∧ ∃ u : Mem, u.wf = true ∧ u ≠ m :=
  ⟨mem20, by decide +kernel, by decide +kernel, [], by decide +kernel, by decide +kernel⟩

theorem wit_entriesRead : ∃ sub sub' : Nat, sub < 256 ∧ sub' < 256 ∧ sub' ≠ sub := ⟨255, 0, by decide⟩

theorem wit_dimensionOrder : ∃ n a b : Nat, a < n ∧ b < n ∧ a ≠ b := ⟨16, 15, 0, by decide⟩

theorem wit_routesByX : ∃ (m : Msg), m.dst % 4 = 0 ∧ (∃ s : State, s.fab.mapOk = true ∧ s.epKind m.dst = 1 ∧ s.boot.bslot < s.dval 0x4100 2 * s.dval 0x4100 3
      ∧ m.dst / 4 < s.dval 0x4100 2 * s.dval 0x4100 3 ∧ s.boot.bslot ≠ m.dst / 4 ∧ s.boot.bslot % s.dval 0x4100 2 ≠ m.dst / 4 % s.dval 0x4100 2
      ∧ s.linksTo (4 * ((hop (s.dval 0x4100 2) (s.boot.bslot % s.dval 0x4100 2) (m.dst / 4 % s.dval 0x4100 2)).2 + s.dval 0x4100 2 * (s.boot.bslot / s.dval 0x4100 2)))
        m.src m.dst ≠ [])
    ∧ ∃ s : State, s.fab.mapOk = true ∧ s.epKind m.dst = 1 ∧ s.boot.bslot < s.dval 0x4100 2 * s.dval 0x4100 3
      ∧ m.dst / 4 < s.dval 0x4100 2 * s.dval 0x4100 3 ∧ s.boot.bslot ≠ m.dst / 4 ∧ s.boot.bslot % s.dval 0x4100 2 ≠ m.dst / 4 % s.dval 0x4100 2
      ∧ s.linksTo (4 * ((hop (s.dval 0x4100 2) (s.boot.bslot % s.dval 0x4100 2) (m.dst / 4 % s.dval 0x4100 2)).2 + s.dval 0x4100 2 * (s.boot.bslot / s.dval 0x4100 2)))
        m.src m.dst = [] :=
  ⟨msg20, by decide +kernel, ⟨map20 [(0, link20)], by decide +kernel⟩, map20 [], by decide +kernel⟩

theorem wit_queueUntouched : ∃ (c : Instr) (s u : State), exec c s = .next u := ⟨.feedOvervoltage, norm, _, rfl⟩

theorem wit_commandsComplete : ∃ c : Instr, c.wellFormed = true := ⟨.feedOvervoltage, by decide +kernel⟩

theorem wit_unitsStop : ∃ (c : Instr) (s : State) (f : Fault), exec c s = .fault f := ⟨.linkRetryTimer 96, norm, _, rfl⟩

theorem wit_stepsKeep : ∃ (s u : State), s.kept ∧ step s = .next u ∧ s.pending ≠ [] :=
  ⟨{ norm with pending := [.feedOvervoltage] }, _, by decide +kernel, rfl, by decide⟩

end W20

end Sys2Proof.Tests
end

section
/-!
The queue's front, counters and link traffic: what `step`, `State.count` and the link rows of `exec` answer.
-/

namespace Sys2Proof.Machine

/-! ### The front of the queue -/

/-- Settles O57: `step` matches on the queue, so both parts hold by its definition. -/
theorem stepRunsTheFront : Obligations.StepRunsTheFront :=
  fun _ _ _ => ⟨rfl, rfl⟩

/-! ### Counters -/

theorem getD_put_same {α : Type} (t : Tab α) (k : Nat) (v d : α) : (t.put k v).getD k d = v := by
  simp [Tab.getD, get_put_same]

theorem getD_put_other {α : Type} (t : Tab α) {k j : Nat} (v d : α) (h : j ≠ k) :
    (t.put k v).getD j d = t.getD j d := by
  simp [Tab.getD, get_put_other _ _ _ _ h]

theorem Counters.add_below {c : Counters} {k n : Nat} (hn : 0 < n) (h : c.val.getD k 0 + n < ctrMax) :
    c.add k n = { c with val := c.val.put k (c.val.getD k 0 + n) } := by
  simp [Counters.add, hn.ne', h]

theorem Counters.add_reaches {c : Counters} {k n : Nat} (hn : 0 < n) (h : ctrMax ≤ c.val.getD k 0 + n) :
    c.add k n = { c with val := c.val.put k ctrMax, sat := if c.sat.contains k then c.sat else k :: c.sat } := by
  simp [Counters.add, hn.ne', h.not_gt]

theorem State.count_of_sat_eq {s : State} {idx sub n : Nat} (h : (s.ctr.add (dkey idx sub) n).sat = s.ctr.sat) :
    s.count idx sub n = { s with ctr := s.ctr.add (dkey idx sub) n } := by
  simp [State.count, h]

theorem Counters.add_val_same (c : Counters) {k n : Nat} (hn : 0 < n) :
    (c.add k n).val.getD k 0 = min (c.val.getD k 0 + n) ctrMax := by
  rcases Nat.lt_or_ge (c.val.getD k 0 + n) ctrMax with h | h
  · rw [Counters.add_below hn h, getD_put_same, Nat.min_eq_left h.le]
  · rw [Counters.add_reaches hn h, getD_put_same, Nat.min_eq_right h]

theorem Counters.add_val_other (c : Counters) {k j n : Nat} (hn : 0 < n) (hj : j ≠ k) :
    (c.add k n).val.getD j 0 = c.val.getD j 0 := by
  rcases Nat.lt_or_ge (c.val.getD k 0 + n) ctrMax with h | h
  · rw [Counters.add_below hn h, getD_put_other _ _ _ hj]
  · rw [Counters.add_reaches hn h, getD_put_other _ _ _ hj]

/-- Settles O48: a count below the maximum and a count of a saturated counter leave the SAT bits as they are, so `count` raises
nothing; a count that reaches the maximum adds one SAT bit, and `count` raises 0x8001 for it. -/
theorem countersSaturate : Obligations.CountersSaturate := by
  refine ⟨fun s idx sub n hn => ⟨fun h => ?_, fun h hk => ?_, fun h hk => ?_, s.ctr.add_val_same hn,
    fun j hj => s.ctr.add_val_other hn hj⟩, fun s o idx v hw => ?_⟩
  · rw [State.count_of_sat_eq] <;> rw [Counters.add_below hn h]
  · simp [State.count, Counters.add_reaches hn h, hk]
  · have hc := Counters.add_reaches (c := s.ctr) (k := dkey idx sub) hn (by omega)
    rw [if_pos (List.contains_iff_mem.mpr hk)] at hc
    rw [State.count_of_sat_eq] <;> rw [hc]
  · exact congrArg Host.Outcome.next (writeRow_eq hw rfl)

/-! ### Links -/

theorem withLink_lt {k : Nat} (hk : k < 96) (s : State) : withLink k s = .next s := if_pos hk

theorem State.flitIn_idle {s : State} {k : Nat} {f : BitVec 2048} (h : (s.link k).carries = false) : s.flitIn k f = s := by
  simp [State.flitIn, h]

theorem State.flitIn_bad {s : State} {k : Nat} {f : BitVec 2048} (h : (s.link k).carries = true) (hf : flitGood f = false) :
    s.flitIn k f = (s.count (0x8420 + k) 3 1).sendNak k := by
  simp [State.flitIn, h, hf]

theorem State.flitIn_rsvd {s : State} {k : Nat} {f : BitVec 2048} (hf : flitGood f = true) (hr : bit f 1980 = true) :
    s.flitIn k f = s := by
  simp [State.flitIn, hf, hr]

theorem State.flitIn_good {s : State} {k : Nat} {f : BitVec 2048} (h : (s.link k).carries = true) (hf : flitGood f = true)
    (hr : bit f 1980 = false) :
    let l := s.link k
    let s1 := s.setLink k (l.takeReturn (bits f 17 6) (bits f 1983 1981) (bits f 1979 1968))
    s.flitIn k f = (List.range 8).foldl (fun t v => t.pumpVc k v)
      (if bits f 31 30 = 0 then
        if bits f 29 18 = (l.last + 1) % 4096 then
          (s1.setLink k ((s1.link k).takeData f (l.peerKind == 1 && (s.fab.spill.get (linkHalf k)).high && spillVc (bits f 5 3)))).count
            (0x8420 + k) 2 1
        else s1.sendNak k
      else if bits f 31 30 = 2 then s1.replayFrom k
      else s1) := by
  simp only [State.flitIn, h, hf, hr]
  rfl

theorem flits_holds : Claim.flits := by
  intro s k f hk
  have hrow : exec (.flitReceive k f) s = .next (s.flitIn k f) := withLink_lt hk _
  have hnak : exec (.nakReceive k f) s = .next (s.flitIn k f) := withLink_lt hk _
  refine ⟨fun h hf => ?_, fun h hf hr hd hs => ?_, fun h hf hr hd hs => ?_, fun h hf hr hd => ?_, fun h => ?_⟩
  · rw [hrow, State.flitIn_bad h hf]
  · rw [hrow, State.flitIn_good h hf hr, if_pos hd, if_pos hs]
  · rw [hrow, State.flitIn_good h hf hr, if_pos hd, if_neg hs]
  · rw [hnak, State.flitIn_good h hf hr, if_neg (by omega), if_pos hd]
  · have hs : s.flitIn k f = s := h.elim State.flitIn_idle fun g => State.flitIn_rsvd g.1 g.2
    rw [hrow, hnak, hs]
    exact ⟨rfl, rfl⟩

theorem replays_holds : Claim.replays := by
  intro s k hk
  have hrow : exec (.replayTimer k) s = .next (s.replayFrom k) := withLink_lt hk _
  simp only [hrow, State.replayFrom]
  refine ⟨fun hr hc hm => ?_, fun hr hc h4 hm => ?_, fun hr => ?_⟩
  · rw [if_neg (by simp [hr, hc]), if_neg (by omega)]
  · rw [if_neg (by simp [hr, hc]), if_pos ⟨h4, hm⟩]
  · rw [if_pos (by simp [hr])]

theorem messages_holds : Claim.messages := by
  intro s k t hdr body hk
  have hrow : exec (.messageReceive k hdr body false t) s = .next ((s.at t).arrive k hdr body false) := withLink_lt hk _
  simp only [hrow, State.arrive]
  refine ⟨fun hm => ?_, fun hm hp hd => ?_⟩
  · simp [hm]
  · simp [hm, hp, hd]

theorem forwards_holds : Claim.forwards := by
  intro s k t hdr body hk m s0 hm hp hd
  have hrow : exec (.cutThroughForward k hdr body false t) s = .next (s0.arrive k hdr body false) := withLink_lt hk _
  simp only [hrow, State.arrive]
  refine ⟨fun h => ?_, fun h hs => ?_⟩ <;> simp_all [m]

theorem starts_holds : Claim.starts := by
  intro s k v t hk hv
  have hspill : exec (.spillDeparture k v) s = .next ((s.startVc k (v % 8)).pumpVc k (v % 8)) := withLink_lt hk _
  have hstart : exec (.wfqStart k v t) s = .next ((s.at t).startVc k (v % 8)) := withLink_lt hk _
  rw [hspill, hstart, Nat.mod_eq_of_lt hv]
  exact ⟨rfl, rfl⟩

theorem gates_holds : Claim.gates := by
  intro s k t es hk hs he
  refine (withLink_lt hk _).trans ?_
  simp only [hs, Option.map_some, Option.getD_some, Nat.max_eq_left (List.length_pos_iff.mpr he)]

theorem helloSends_holds : Claim.helloSends := by
  intro s k hk hs hp
  have hrow : exec (.helloTimer k) s = .next (s.hello k) :=
    (withLink_lt hk _).trans (congrArg _ (if_pos ⟨hs, hp⟩))
  simp only [hrow, State.hello, State.sendOn]
  refine ⟨fun m1 fab h => ?_, fun h => ?_⟩ <;> rw [h]

theorem hellos_holds : Claim.hellos := by
  intro s k hdr hk hpar hz hop hp hs
  refine ⟨fun h => ?_, fun h hm => ?_, fun h hm => ?_⟩ <;> refine (withLink_lt hk _).trans (congrArg _ ?_)
  · simp [hpar, hz, hop, hp, hs, h]
  · simp [hpar, hz, hop, hp, hs, h, hm]
  · simp [hpar, hz, hop, hp, hs, h, hm]

/-! ### A message consumed is listed -/

/-- What was sent stays listed while an event is raised. -/
theorem raise0_out_mem {s : State} {x : Out} (h : x ∈ s.out) (code part half : Nat) (ws : List Nat) :
    x ∈ (s.raise0 code part half ws).1.out :=
  List.mem_append_right _ h

theorem tellAll_out_mem {x : Out} : ∀ (n : Nat) (q : List (Nat × List Nat)) (s : State), x ∈ s.out → x ∈ (State.tellAll n q s).out
  | 0, _, _, h => h
  | _ + 1, [], _, h => h
  | n + 1, (code, ws) :: _, _, h => tellAll_out_mem n _ _ (raise0_out_mem h code 0 0 ws)

theorem raise_out_mem {s : State} {x : Out} (h : x ∈ s.out) (code part half : Nat) (ws : List Nat) :
    x ∈ (s.raise code part half ws).out :=
  tellAll_out_mem _ _ _ (raise0_out_mem h code part half ws)

theorem satTell_out_mem {s : State} {x : Out} (n : Nat) (h : x ∈ s.out) : x ∈ (s.satTell n).out :=
  List.foldlRecOn (motive := fun t : State => x ∈ t.out) _ _ h fun _ ht k _ => raise_out_mem ht 0x8001 0 0 [k]

theorem consumes_holds : Claim.consumes := by
  intro s k m hp hk hc he
  unfold State.consume
  simp only [hp, hk, hc, he]
  exact satTell_out_mem _ List.mem_cons_self

/-- Settles O28: each row of the link events, run on its own case. -/
theorem linkTraffic : Obligations.LinkTraffic :=
  ⟨flits_holds, replays_holds, messages_holds, consumes_holds, forwards_holds, starts_holds, gates_holds, helloSends_holds,
    hellos_holds⟩

end Sys2Proof.Machine
end

section
/-!
What every command keeps. `Keeps σ s` says that `s` has the queue of `σ` and meets the invariant of a run where `σ` does; each operation of the
model has one lemma, which takes the states that the operation is given to the state that it leaves.
-/

namespace Sys2Proof.Machine

/-- `s` follows `σ`: the queue of waiting commands is that of `σ`, and the invariant of a run holds of `s` where it holds of `σ`. -/
structure Keeps (σ s : State) : Prop where
  queue : s.pending = σ.pending
  kept : σ.kept → s.kept

/-- An operation that may find nothing: what it finds follows `σ`. -/
def KeepsIn (σ : State) (o : Option State) : Prop := ∀ u, o = some u → Keeps σ u

/-- An operation that may refuse: what it accepts follows `σ`. -/
def KeepsOk (σ : State) {ε : Type} (e : Except ε State) : Prop := ∀ u, e = .ok u → Keeps σ u

/-- A command's answer: a state that follows `σ`, or the stop on a unit that the device does not have, where `ok` fails. -/
inductive Runs (σ : State) (ok : Prop) : Host.Outcome State Fault Refusal → Prop
  | next {u : State} (h : Keeps σ u) : Runs σ ok (.next u)
  | stop {unit : String} {n : Nat} (h : ¬ ok) : Runs σ ok (.fault (.noSuchUnit unit n))

variable {σ s t u : State}

theorem Keeps.refl : Keeps s s := ⟨rfl, id⟩

/-- A state made from `s` by new fields: the queue the same, and memory, mode and counters good where those of `s` are. -/
theorem Keeps.frame (hs : Keeps σ s) (hq : u.pending = s.pending := by exact rfl)
    (hm : s.tiers.mem.wf = true → u.tiers.mem.wf = true := by exact fun h => h)
    (hb : s.boot.mode ≤ 3 → u.boot.mode ≤ 3 := by exact fun h => h)
    (hc : s.ctr.within → u.ctr.within := by exact fun h => h) : Keeps σ u where
  queue := hq.trans hs.queue
  kept h := let ⟨h1, h2, h3⟩ := hs.kept h; ⟨hm h1, hb h2, hc h3⟩

theorem Keeps.ite {c : Prop} [Decidable c] (ht : Keeps σ t) (hu : Keeps σ u) : Keeps σ (if c then t else u) := by
  split <;> assumption

theorem Keeps.fst {α : Type} {a : α} (hs : Keeps σ s) : Keeps σ (s, a).1 := hs

theorem Keeps.snd {α : Type} {a : α} (hs : Keeps σ s) : Keeps σ (a, s).2 := hs

theorem Keeps.ite_fst {α : Type} {c : Prop} [Decidable c] {a b : State × α} (ha : Keeps σ a.1) (hb : Keeps σ b.1) :
    Keeps σ (if c then a else b).1 := by
  split <;> assumption

theorem Keeps.foldl {α : Type} (hs : Keeps σ s) {l : List α} {f : State → α → State} (hf : ∀ u a, Keeps σ u → Keeps σ (f u a)) :
    Keeps σ (l.foldl f s) :=
  List.foldlRecOn (motive := fun u => Keeps σ u) l f hs fun u hu a _ => hf u a hu

theorem Keeps.foldl_fst {α β : Type} {x : State × β} (hx : Keeps σ x.1) {l : List α} {f : State × β → α → State × β}
    (hf : ∀ y a, Keeps σ y.1 → Keeps σ (f y a).1) : Keeps σ (l.foldl f x).1 :=
  List.foldlRecOn (motive := fun y : State × β => Keeps σ y.1) l f hx fun y hy a _ => hf y a hy

theorem Keeps.getD_map {α : Type} (hs : Keeps σ s) {o : Option α} {f : α → State} (hf : ∀ a, Keeps σ (f a)) :
    Keeps σ ((o.map f).getD s) := by
  cases o with
  | none => exact hs
  | some a => exact hf a

theorem Keeps.getD (hs : Keeps σ s) {o : Option State} (ho : KeepsIn σ o) : Keeps σ (o.getD s) := by
  cases o with
  | none => exact hs
  | some a => exact ho a rfl

theorem KeepsIn.none : KeepsIn σ none := fun _ h => nomatch h

theorem KeepsIn.some (hs : Keeps σ s) : KeepsIn σ (some s) := fun _ h => Option.some.inj h ▸ hs

theorem KeepsIn.ite {c : Prop} [Decidable c] {a b : Option State} (ha : KeepsIn σ a) (hb : KeepsIn σ b) :
    KeepsIn σ (if c then a else b) := by
  split <;> assumption

theorem KeepsIn.bind {α : Type} {o : Option α} {f : α → Option State} (hf : ∀ a, o = .some a → KeepsIn σ (f a)) :
    KeepsIn σ (o.bind f) := by
  cases o with
  | none => exact .none
  | some a => exact hf a rfl

theorem KeepsIn.map {o : Option State} (ho : KeepsIn σ o) {f : State → State} (hf : ∀ u, Keeps σ u → Keeps σ (f u)) :
    KeepsIn σ (o.map f) := by
  cases o with
  | none => exact .none
  | some a => exact .some (hf a (ho a rfl))

theorem KeepsIn.findSome {α : Type} {f : α → Option State} {l : List α} (hf : ∀ a, KeepsIn σ (f a)) :
    KeepsIn σ (l.findSome? f) := by
  intro u h
  obtain ⟨a, _, ha⟩ := List.exists_of_findSome?_eq_some h
  exact hf a u ha

theorem KeepsOk.error {ε : Type} {x : ε} : KeepsOk σ (.error x) := fun _ h => nomatch h

theorem KeepsOk.ok {ε : Type} (hs : Keeps σ s) : KeepsOk σ (.ok s : Except ε State) := fun _ h => Except.ok.inj h ▸ hs

theorem KeepsOk.ite {ε : Type} {c : Prop} [Decidable c] {a b : Except ε State} (ha : KeepsOk σ a) (hb : KeepsOk σ b) :
    KeepsOk σ (if c then a else b) := by
  split <;> assumption

theorem Runs.ite {ok c : Prop} [Decidable c] {a b : Host.Outcome State Fault Refusal} (ha : Runs σ ok a) (hb : Runs σ ok b) :
    Runs σ ok (if c then a else b) := by
  split <;> assumption

/-- A row that stops outside the units that `c` names. -/
theorem Runs.within {c : Prop} [Decidable c] {unit : String} {n : Nat} (hs : Keeps σ s) :
    Runs σ c (if c then .next s else .fault (.noSuchUnit unit n)) := by
  split
  · exact .next hs
  · exact .stop ‹_›

/-- A row that stops on the units that `c` names. -/
theorem Runs.beyond {c : Prop} [Decidable c] {unit : String} {n : Nat} (hs : Keeps σ s) :
    Runs σ (¬ c) (if c then .fault (.noSuchUnit unit n) else .next s) := by
  split
  · exact .stop (not_not_intro ‹_›)
  · exact .next hs

theorem Runs.mono {ok ok' : Prop} {a : Host.Outcome State Fault Refusal} (ha : Runs σ ok a) (h : ok' → ok) : Runs σ ok' a := by
  cases ha with
  | next hu => exact .next hu
  | stop hn => exact .stop (hn ∘ h)

/-! ### Counters stay within their maximum -/

theorem Counters.within.put {c d : Counters} (hc : c.within) {k v : Nat} (hv : v ≤ ctrMax) (hd : d.val = c.val.put k v) : d.within := by
  intro x hx
  rw [hd] at hx
  rcases tab_put_mem _ _ _ x hx with rfl | h
  · exact hv
  · exact hc x h

theorem Counters.within.add {c : Counters} (hc : c.within) (k n : Nat) : (c.add k n).within := by
  rcases Nat.eq_zero_or_pos n with rfl | hn
  · exact hc
  · rcases Nat.lt_or_ge (c.val.getD k 0 + n) ctrMax with h | h
    · exact Counters.add_below hn h ▸ hc.put h.le rfl
    · exact Counters.add_reaches hn h ▸ hc.put le_rfl rfl

theorem Counters.within.addUnits {c : Counters} (hc : c.within) (k unit n : Nat) : (c.addUnits k unit n).within :=
  hc.add k _

theorem Counters.within.addAll {c : Counters} (hc : c.within) (l : List (Nat × Nat)) : (c.addAll l).within :=
  List.foldlRecOn (motive := Counters.within) l _ hc fun _ hd p _ => hd.add p.1 p.2

theorem Counters.within.safe {c : Counters} (hc : c.within) (p sub n : Nat) : (c.safe p sub n).within := hc

theorem Counters.within.clear {c : Counters} (hc : c.within) (idx m : Nat) : (c.clear idx m).within :=
  fun x hx => hc x (List.mem_filter.mp hx).1

/-- The ROM leaves the mode, or sets RECOVERY. -/
theorem Boot.tryAll_mode {b : Boot} {fl l : List Nat} (h : b.mode ≤ 3) : (b.tryAll fl l).mode ≤ 3 := by
  induction l generalizing b with
  | nil => exact le_rfl
  | cons k l ih =>
    unfold Boot.tryAll
    split
    · exact h
    · exact ih h

end Sys2Proof.Machine
end

section
/-! What the operations of Machine/Ops leave follows the state that they are given. -/

namespace Sys2Proof.Machine
set_option Elab.async false

variable {σ s t u : State}

theorem Keeps.emit (hs : Keeps σ s) {o} : Keeps σ (s.emit o) := hs.frame

theorem Keeps.dset (hs : Keeps σ s) {idx sub b} : Keeps σ (s.dset idx sub b) := hs.frame

theorem Keeps.dsetN (hs : Keeps σ s) {idx sub n} : Keeps σ (s.dsetN idx sub n) := hs.dset

theorem Keeps.deliver (hs : Keeps σ s) {e net rings} : Keeps σ (s.deliver e net rings).1 :=
  hs.frame (hc := fun h => h.addAll _)

theorem Keeps.raise0 (hs : Keeps σ s) {code part half ws} : Keeps σ (s.raise0 code part half ws).1 := hs.frame.deliver

theorem Keeps.latchDrops (hs : Keeps σ s) {drops} : Keeps σ (s.latchDrops drops) := hs.frame

theorem Keeps.tellAll (hs : Keeps σ s) {n q} : Keeps σ (State.tellAll n q s) := by
  induction n generalizing s q with
  | zero => exact hs
  | succ n ih =>
    match q with
    | [] => exact hs
    | _ :: _ => exact ih hs.raise0.latchDrops

theorem Keeps.raise (hs : Keeps σ s) {code part half ws} : Keeps σ (s.raise code part half ws) := hs.raise0.latchDrops.tellAll

theorem Keeps.deliverOwed (hs : Keeps σ s) : Keeps σ s.deliverOwed := hs.frame.foldl (fun _ _ hu => hu.deliver.latchDrops.tellAll)

theorem Keeps.raiseOnce (hs : Keeps σ s) {code k part half ws} : Keeps σ (s.raiseOnce code k part half ws) :=
  .ite hs hs.frame.raise

theorem Keeps.unlatch (hs : Keeps σ s) {code k} : Keeps σ (s.unlatch code k) := hs.frame

theorem Keeps.raiseSec (hs : Keeps σ s) {code k part half ws} : Keeps σ (s.raiseSec code k part half ws) := by
  unfold State.raiseSec
  split
  · exact .ite hs hs.frame.raise
  · exact hs.frame.raise

theorem Keeps.count (hs : Keeps σ s) {idx sub n} : Keeps σ (s.count idx sub n) := by
  have hc : Keeps σ { s with ctr := s.ctr.add (dkey idx sub) n } := hs.frame (hc := fun h => h.add _ _)
  exact .ite hc.raise hc

theorem Keeps.countUnits (hs : Keeps σ s) {idx sub unit n} : Keeps σ (s.countUnits idx sub unit n) := by
  have hc : Keeps σ { s with ctr := s.ctr.addUnits (dkey idx sub) unit n } := hs.frame (hc := fun h => h.addUnits _ _ _)
  exact .ite hc.raise hc

theorem Keeps.satTell (hs : Keeps σ s) {n} : Keeps σ (s.satTell n) := hs.foldl (fun _ _ hu => hu.raise)

theorem Keeps.post (hs : Keeps σ s) {k x} : Keeps σ (s.post k x) :=
  (hs.frame (hc := fun h => h.addAll _)).satTell

theorem Keeps.dmaTo (hs : Keeps σ s) {fn gen addr b} : Keeps σ (s.dmaTo fn gen addr b) :=
  .ite hs (.ite hs.frame (hs.frame (hc := fun h => h.addUnits _ _ _)).satTell)

theorem Keeps.dmaFrom (hs : Keeps σ s) {fn b} : Keeps σ (s.dmaFrom fn b) := by
  unfold State.dmaFrom
  split
  · exact hs
  · exact .ite hs (hs.frame (hc := fun h => h.addUnits _ _ _)).satTell

theorem Keeps.send (hs : Keeps σ s) {c x} : Keeps σ (s.send c x) := .ite hs.post hs

theorem Keeps.done (hs : Keeps σ s) {c st dt aux} : Keeps σ (s.done c st dt aux) := hs.send

theorem Keeps.setEnt (hs : Keeps σ s) {i e} : Keeps σ (s.setEnt i e) := hs.frame

theorem Keeps.updEnt (hs : Keeps σ s) {i f} : Keeps σ (s.updEnt i f) := hs.setEnt

theorem Keeps.doneSess (hs : Keeps σ s) {c i st dt aux} : Keeps σ (s.doneSess c i st dt aux) := hs.send

theorem Keeps.countRefusal (hs : Keeps σ s) {st} : Keeps σ (s.countRefusal st) := .ite hs.count hs

theorem Keeps.refuseA (hs : Keeps σ s) {c st dt aux} : Keeps σ (s.refuseA c st dt aux) := hs.countRefusal.send

theorem Keeps.refuse (hs : Keeps σ s) {c st dt} : Keeps σ (s.refuse c st dt) := hs.refuseA

theorem Keeps.refuseX (hs : Keeps σ s) {c st dt} : Keeps σ (s.refuseX c st dt) := (Keeps.ite hs.count hs).refuse

theorem Keeps.take (hs : Keeps σ s) {k : Cmd → Nat → State} (hk : ∀ a b, Keeps σ (k a b)) {op fn sq d lc} : Keeps σ
    (s.take op fn sq d lc k) := by
  unfold State.take
  extract_lets +onlyGivenNames c
  refine .ite hs ?_
  split
  · exact hs.refuse
  · refine .ite hs.refuse ?_
    split
    · exact hs.refuse
    · exact hk _ _

theorem Keeps.park (hs : Keeps σ s) {c i} : Keeps σ (s.park c i) := hs.frame

theorem Keeps.tastePoison (hs : Keeps σ s) {c p h} : Keeps σ (s.tastePoison c p h) := hs.count.raise

theorem Keeps.takeSess (hs : Keeps σ s) {k : Cmd → Nat → Nat → State} (hk : ∀ a b c, Keeps σ
    (k a b c)) {op fn sq d lc any remote} : Keeps σ (s.takeSess op fn sq d lc any remote k) := by
  unfold State.takeSess
  refine hs.take (fun _ _ => ?_)
  split
  · exact (Keeps.ite hs.count hs).refuseA
  · exact hk _ _ _

theorem Keeps.emitMsg (hs : Keeps σ s) {m} : Keeps σ (s.emitMsg m) := hs.emit

theorem Keeps.at (hs : Keeps σ s) {t} : Keeps σ (s.at t) := hs.frame

end Sys2Proof.Machine
end

section
/-! What the operations of Machine/DictOps leave follows the state that they are given. -/

namespace Sys2Proof.Machine
set_option Elab.async false

variable {σ s t u : State}

theorem Keeps.respond (hs : Keeps σ s) {o pdu value} : Keeps σ (s.respond o pdu value) := by
  unfold State.respond
  extract_lets +onlyGivenNames _ d
  split
  · exact hs.frame
  · exact hs.frame.count
  · exact hs.frame

theorem Keeps.answerW (hs : Keeps σ s) {o idx sub len st dt} : Keeps σ (s.answerW o idx sub len st dt) :=
  (Keeps.ite hs.count.count hs.count).respond

theorem Keeps.writeRow (hs : Keeps σ s) {own : State → Except (Nat × Nat) State} (hown : ∀ u, Keeps σ u → KeepsOk σ
    (own u)) {o idx sub v} : Keeps σ (s.writeRow o idx sub v own) := by
  unfold State.writeRow
  refine .ite hs ?_
  split
  · exact hs.answerW
  · split
    · exact hs.answerW
    · exact .ite hs.answerW (.ite hs.answerW (((hown _ hs) _ ‹_›).answerW))

end Sys2Proof.Machine
end

section
/-! What the operations of Machine/Links leave follows the state that they are given. -/

namespace Sys2Proof.Machine
set_option Elab.async false

variable {σ s t u : State}

theorem Keeps.setLink (hs : Keeps σ s) {k l} : Keeps σ (s.setLink k l) := hs.frame

theorem Keeps.sendFlit (hs : Keeps σ s) {k ftype f rec} : Keeps σ (s.sendFlit k ftype f rec) := hs.setLink.emit

theorem Keeps.unspill (hs : Keeps σ s) {h n} : Keeps σ (s.unspill h n) := hs.frame

theorem Keeps.trainLink (hs : Keeps σ s) {k} : Keeps σ (s.trainLink k) := hs.unspill.setLink.count.sendFlit

theorem Keeps.linkDown (hs : Keeps σ s) {k cause} : Keeps σ (s.linkDown k cause) := hs.unspill.setLink.raise

theorem Keeps.checkMap (hs : Keeps σ s) : Keeps σ s.checkMap := by
  unfold State.checkMap
  split
  · exact hs.frame
  · exact hs.frame.raise

theorem Keeps.pumpVc (hs : Keeps σ s) {k v} : Keeps σ (s.pumpVc k v) := by
  unfold State.pumpVc
  extract_lets +onlyGivenNames l o r s0 s1
  have hs0 : Keeps σ s0 := hs.setLink.foldl (fun _ _ hu => hu.sendFlit)
  clear_value s0
  exact .ite hs0.count.unspill hs0.count

theorem Keeps.mark (hs : Keeps σ s) {idx sub n} : Keeps σ (s.mark idx sub n) := .ite hs.dsetN hs

theorem Keeps.startVc (hs : Keeps σ s) {k v} : Keeps σ (s.startVc k v) := by
  unfold State.startVc
  extract_lets +onlyGivenNames l o
  refine .ite hs ?_
  extract_lets +onlyGivenNames hold ok
  split
  · exact hs
  · extract_lets +onlyGivenNames long o1 n s1 s2 s3
    have hs1 : Keeps σ s1 := hs.setLink
    clear_value s1
    have hs2 : Keeps σ s2 := (hs1.frame (hc := fun h => ((h.addUnits _ _ _).safe _ _ _).add _ _)).satTell
    clear_value s2
    exact (Keeps.ite hs2.mark hs2).pumpVc

theorem Keeps.enqueueQ (hs : Keeps σ s) {k q} : Keeps σ (s.enqueueQ k q) := hs.setLink.startVc

theorem Keeps.enqueue (hs : Keeps σ s) {k m} : Keeps σ (s.enqueue k m) := hs.enqueueQ

theorem Keeps.noRoute (hs : Keeps σ s) {m cause} : Keeps σ (s.noRoute m cause) := hs.count.count.raiseOnce

theorem Keeps.sendOn (hs : Keeps σ s) {k m} : Keeps σ (s.sendOn k m) := by
  unfold State.sendOn
  split
  · exact hs
  · exact hs.frame.enqueue

theorem Keeps.unroutable (hs : Keeps σ s) {m cause} : Keeps σ (s.unroutable m cause) := by
  unfold State.unroutable
  extract_lets +onlyGivenNames s1
  have hs1 : Keeps σ s1 := hs.noRoute
  clear_value s1
  refine .ite hs1 ?_
  extract_lets +onlyGivenNames u
  split
  · exact hs1
  · extract_lets +onlyGivenNames s2
    split
    · exact hs1.frame.enqueue
    · exact hs1.frame.noRoute

theorem Keeps.sendMsg (hs : Keeps σ s) {dst part mtype vc body} : Keeps σ (s.sendMsg dst part mtype vc body) := by
  unfold State.sendMsg
  extract_lets +onlyGivenNames m
  refine .ite hs.emit ?_
  split
  · exact .ite hs.raiseOnce hs
  · extract_lets +onlyGivenNames s1
    split
    · exact hs.frame.enqueue.unlatch
    · exact hs.frame.unroutable

theorem Keeps.policeStage (hs : Keeps σ s) {pr key b inp} : Keeps σ (s.policeStage pr key b inp).1 := by
  unfold State.policeStage
  refine .ite_fst ?_ ?_
  · exact .fst hs
  · exact .fst hs.frame

theorem Keeps.police (hs : Keeps σ s) {k m} : Keeps σ (s.police k m).1 := by
  unfold State.police
  extract_lets +onlyGivenNames b q pa pb a r
  have hr : Keeps σ r.1 := by
    unfold r
    refine .ite_fst ?_ ?_
    · exact hs.policeStage
    · exact hs.policeStage.policeStage
  clear_value r
  refine .ite_fst ?_ ?_
  · exact .fst hs.unlatch
  · extract_lets +onlyGivenNames s1
    refine .ite_fst ?_ ?_
    · exact .fst hr.count.count.raiseOnce
    · exact .fst hr.count.unlatch

theorem Keeps.forward (hs : Keeps σ s) {at_ m cut} : Keeps σ (s.forward at_ m cut) := by
  unfold State.forward
  split
  · exact hs.unroutable
  · refine .ite hs.frame ?_
    extract_lets +onlyGivenNames h sp now
    refine .ite ?_ ?_
    · extract_lets +onlyGivenNames s1
      have hs1 : Keeps σ s1 := hs.count.raiseOnce
      clear_value s1
      exact hs1.frame.unroutable
    · extract_lets +onlyGivenNames sp1 _ s1 s2 s3 s4
      have hs2 : Keeps σ s2 := .ite hs.frame.raise hs.frame
      clear_value s2
      exact (Keeps.ite hs2 hs2.count.mark).count.countUnits.enqueueQ.unlatch

theorem Keeps.discard (hs : Keeps σ s) {kind lane sender half} : Keeps σ (s.discard kind lane sender half) := hs.count.raiseOnce

theorem Keeps.consume (hs : Keeps σ s) {k m} : Keeps σ (s.consume k m) := by
  unfold State.consume
  extract_lets +onlyGivenNames bad good
  have hgood : ∀ u m, Keeps σ u → Keeps σ (good u m) := by
    intro u m hu
    have hu1 : Keeps σ (u.unlatch 0x4005 (64 * m.part + m.src)) := hu.unlatch
    exact (hu1.frame (hc := fun h => (h.addUnits _ _ _).safe _ _ _)).satTell
  have hbad : Keeps σ bad := hs.count.raiseOnce
  clear_value good bad
  refine .ite hs.discard ?_
  split
  · exact .ite hs.count.raiseOnce (.ite hbad (hgood _ _ hs))
  · refine .ite hbad ?_
    extract_lets +onlyGivenNames id
    split
    · exact hbad
    · exact hgood _ _ hs.frame

theorem Keeps.arrive (hs : Keeps σ s) {k hdr body abt} : Keeps σ (s.arrive k hdr body abt) := by
  unfold State.arrive
  extract_lets +onlyGivenNames m cut
  refine .ite hs.discard ?_
  extract_lets +onlyGivenNames r
  have hr : Keeps σ r.1 := by
    unfold r
    refine .ite_fst ?_ ?_
    · exact hs.police
    · exact .fst hs
  clear_value r
  exact .ite hr (.ite hr.consume (.ite hr.unroutable hr.forward))

theorem Keeps.forwardWaiting (hs : Keeps σ s) : Keeps σ s.forwardWaiting := hs.frame.foldl (fun _ _ hu => hu.forward)

theorem Keeps.hello (hs : Keeps σ s) {k} : Keeps σ (s.hello k) := hs.sendOn

theorem Keeps.trained (hs : Keeps σ s) {k} : Keeps σ (s.trained k) := by
  unfold State.trained
  extract_lets +onlyGivenNames l
  split
  · exact hs
  · refine .ite hs ?_
    extract_lets +onlyGivenNames both w
    refine .ite hs.setLink ?_
    extract_lets +onlyGivenNames vout vin l1 s1 s2
    have hs1 : Keeps σ s1 := hs.setLink.raise
    clear_value s1
    have hs2 : Keeps σ s2 := .ite hs1 hs1.raise
    clear_value s2
    exact .ite hs2.hello hs2

theorem Keeps.withLink (hs : Keeps σ s) {k} : Runs σ (k < 96) (withLink k s) := .within hs

theorem Keeps.execCap (hs : Keeps σ s) {k r} : Runs σ (k < 96) (execCap k r s) :=
  (Keeps.ite hs (.ite hs.setLink.raise (.ite hs hs.setLink.sendFlit.trained))).withLink

theorem Keeps.execCapAck (hs : Keeps σ s) {k r} : Runs σ (k < 96) (execCapAck k r s) := (Keeps.ite hs hs.setLink.trained).withLink

theorem Keeps.execCapSendTimer (hs : Keeps σ s) {k} : Runs σ (k < 96) (execCapSendTimer k s) :=
  (Keeps.ite hs.sendFlit hs).withLink

theorem Keeps.execTrainingTimeout (hs : Keeps σ s) {k} : Runs σ (k < 96) (execTrainingTimeout k s) :=
  (Keeps.ite hs.setLink hs).withLink

theorem Keeps.execLinkRetryTimer (hs : Keeps σ s) {k} : Runs σ (k < 96) (execLinkRetryTimer k s) :=
  (Keeps.ite hs.trainLink hs).withLink

theorem Keeps.execSignalDetect (hs : Keeps σ s) {k} : Runs σ (k < 96) (execSignalDetect k s) :=
  (Keeps.ite hs.trainLink hs).withLink

theorem Keeps.loseWave (hs : Keeps σ s) {k wave} : Keeps σ (s.loseWave k wave) :=
  .ite (.ite hs.linkDown hs.setLink.raise) (.ite (.ite hs.linkDown hs.setLink) hs)

theorem Keeps.execWavelengthLoss (hs : Keeps σ s) {k wave} : Runs σ (k < 96) (execWavelengthLoss k wave s) := hs.loseWave.withLink

theorem Keeps.execNarrowingRetrainDone (hs : Keeps σ s) {k} : Runs σ (k < 96) (execNarrowingRetrainDone k s) :=
  (hs.setLink.foldl (fun _ _ hu => hu.pumpVc)).withLink

theorem Keeps.execLinkSilence (hs : Keeps σ s) {k} : Runs σ (k < 96) (execLinkSilence k s) := (Keeps.ite hs.linkDown hs).withLink

theorem Keeps.execLaserSourceFail (hs : Keeps σ s) {port wave} : Runs σ (port < 8 ∧ wave < 4) (execLaserSourceFail port wave s) :=
  .within (hs.frame.raise.foldl (fun _ _ hu => hu.loseWave))

theorem Keeps.excludeLink (hs : Keeps σ s) {k} : Keeps σ (s.excludeLink k) := hs.setLink

theorem Keeps.readmitLink (hs : Keeps σ s) {k} : Keeps σ (s.readmitLink k) := .ite hs.trainLink hs

theorem Keeps.replayFrom (hs : Keeps σ s) {k} : Keeps σ (s.replayFrom k) :=
  .ite hs (.ite hs.count.linkDown (hs.setLink.count.foldl (fun _ _ hu => hu.sendFlit)))

theorem Keeps.sendNak (hs : Keeps σ s) {k} : Keeps σ (s.sendNak k) := .ite hs hs.setLink.sendFlit

theorem Keeps.flitIn (hs : Keeps σ s) {k f} : Keeps σ (s.flitIn k f) := by
  unfold State.flitIn
  extract_lets +onlyGivenNames l
  refine .ite hs (.ite hs.count.sendNak (.ite hs ?_))
  extract_lets +onlyGivenNames s1 s2
  have hs2 : Keeps σ s2 := .ite (.ite hs.setLink.setLink.count hs.setLink.sendNak) (.ite hs.setLink.replayFrom hs.setLink)
  clear_value s2
  exact hs2.foldl (fun _ _ hu => hu.pumpVc)

theorem Keeps.execFlitReceive (hs : Keeps σ s) {k f} : Runs σ (k < 96) (execFlitReceive k f s) := hs.flitIn.withLink

theorem Keeps.execNakReceive (hs : Keeps σ s) {k f} : Runs σ (k < 96) (execNakReceive k f s) := hs.flitIn.withLink

theorem Keeps.execReplayTimer (hs : Keeps σ s) {k} : Runs σ (k < 96) (execReplayTimer k s) := hs.replayFrom.withLink

theorem Keeps.execMessageReceive (hs : Keeps σ s) {k hdr body abt t} : Runs σ (k < 96) (execMessageReceive k hdr body abt t s) :=
  hs.at.arrive.withLink

theorem Keeps.execCutThroughForward (hs : Keeps σ s) {k hdr body abt t} : Runs σ (k < 96) (execCutThroughForward k hdr body abt t s) :=
  hs.at.arrive.withLink

theorem Keeps.execSpillDeparture (hs : Keeps σ s) {k v} : Runs σ (k < 96) (execSpillDeparture k v s) := hs.startVc.pumpVc.withLink

theorem Keeps.execWfqStart (hs : Keeps σ s) {k v t} : Runs σ (k < 96) (execWfqStart k v t s) := hs.at.startVc.withLink

theorem Keeps.execTimeGateEntry (hs : Keeps σ s) {k t} : Runs σ (k < 96) (execTimeGateEntry k t s) :=
  (hs.at.setLink.foldl (fun _ _ hu => hu.startVc)).withLink

theorem Keeps.execHelloTimer (hs : Keeps σ s) {k} : Runs σ (k < 96) (execHelloTimer k s) := (Keeps.ite hs.hello hs).withLink

theorem Keeps.execHello (hs : Keeps σ s) {k hdr} : Runs σ (k < 96) (execHello k hdr s) :=
  (Keeps.ite hs (.ite hs.setLink (.ite hs hs.setLink.raise))).withLink

theorem Keeps.policerWrite (hs : Keeps σ s) {id sub v} : KeepsOk σ (s.policerWrite id sub v) := by
  unfold State.policerWrite
  extract_lets +onlyGivenNames s1 p
  have hs1 : Keeps σ s1 := hs.dset
  clear_value s1
  exact .ite .error (.ok hs1.frame)

theorem Keeps.execPolicerProfileWrite (hs : Keeps σ s) {o id sub v} {ok} : Runs σ ok (execPolicerProfileWrite o id sub v s) :=
  .next (hs.writeRow (fun _ hu => hu.policerWrite))

theorem Keeps.scheduleWrite (hs : Keeps σ s) {id v} : KeepsOk σ (s.scheduleWrite id v) := .ite .error (.ite .error (.ok hs.dset))

theorem Keeps.execScheduleWrite (hs : Keeps σ s) {o id v} {ok} : Runs σ ok (execScheduleWrite o id v s) :=
  .next (hs.writeRow (fun _ hu => hu.scheduleWrite))

theorem Keeps.clearMarks (hs : Keeps σ s) {idx} : Keeps σ (s.clearMarks idx) := hs.frame

theorem Keeps.execMarkClear (hs : Keeps σ s) {o idx v} {ok} : Runs σ ok (execMarkClear o idx v s) :=
  .next (hs.writeRow (fun _ hu => .ok hu.clearMarks))

end Sys2Proof.Machine
end

section
/-! What the operations of Machine/Pool leave follows the state that they are given. -/

namespace Sys2Proof.Machine
set_option Elab.async false

variable {σ s t u : State}

theorem Keeps.updRow (hs : Keeps σ s) {k f} : Keeps σ (s.updRow k f) := hs.frame

theorem Keeps.lowMark (hs : Keeps σ s) {old h} : Keeps σ (s.lowMark old h) := .ite hs.raise hs

theorem Keeps.allocT1 (hs : Keeps σ s) {h st kind kib} : Keeps σ (s.allocT1 h st kind kib).1 := by
  unfold State.allocT1
  split
  · exact .fst hs
  · exact .fst hs.updRow.lowMark

theorem Keeps.allocPair (hs : Keeps σ s) {h st kind kib} : Keeps σ (s.allocPair h st kind kib).1 := .fst hs.allocT1.allocT1

theorem Keeps.scrubT1 (hs : Keeps σ s) {x} : Keeps σ (s.scrubT1 x) := .ite hs hs.frame

theorem Keeps.addMember (hs : Keeps σ s) {x} : Keeps σ (s.addMember x) := .ite hs hs.updRow

theorem Keeps.scrubDone (hs : Keeps σ s) {k} : Keeps σ (s.scrubDone k) := by
  unfold State.scrubDone
  split
  · exact hs
  · extract_lets +onlyGivenNames _ s1 _ _ _ s2
    have hs1 : Keeps σ s1 := hs.frame
    clear_value s1
    have hs2 : Keeps σ s2 := .ite hs1 (.ite hs1.frame hs1.frame)
    clear_value s2
    exact hs2.countUnits

theorem Keeps.setCharge (hs : Keeps σ s) {p h n} : Keeps σ (s.setCharge p h n) := hs.frame

theorem Keeps.addCharge (hs : Keeps σ s) {p h n} : Keeps σ (s.addCharge p h n) := hs.setCharge

theorem Keeps.subCharge (hs : Keeps σ s) {p h n} : Keeps σ (s.subCharge p h n) := hs.setCharge

theorem Keeps.negCopy (hs : Keeps σ s) {pid h bytes} : Keeps σ (s.negCopy pid h bytes) := by
  unfold State.negCopy
  split
  · exact hs
  · exact .ite hs ((Keeps.ite hs.frame.raise hs.frame).count.count)

theorem Keeps.setTable (hs : Keeps σ s) {i t} : Keeps σ (s.setTable i t) := hs.frame

theorem Keeps.updPage (hs : Keeps σ s) {pid f} : Keeps σ (s.updPage pid f) := hs.frame

theorem Keeps.addBlock (hs : Keeps σ s) {i l kn} : Keeps σ (s.addBlock i l kn) := hs.allocPair.setTable

theorem Keeps.addBlocks (hs : Keeps σ s) {i l bs} : Keeps σ (s.addBlocks i l bs) := hs.foldl (fun _ _ hu => hu.addBlock)

theorem Keeps.reach (hs : Keeps σ s) {i l p} : Keeps σ (s.reach i l p).1 := .fst hs.addBlocks.setTable

theorem Keeps.setRef (hs : Keeps σ s) {i l p r} : Keeps σ (s.setRef i l p r) := hs.setTable

theorem Keeps.delRef (hs : Keeps σ s) {i l p} : Keeps σ (s.delRef i l p) := hs.setTable

theorem Keeps.newTable (hs : Keeps σ s) {i layers} : Keeps σ (s.newTable i layers) := hs.setTable.addBlocks.addCharge

theorem Keeps.setRoot (hs : Keeps σ s) {i} : Keeps σ (s.setRoot i) := by
  unfold State.setRoot
  exact hs.updEnt

theorem Keeps.newPage (hs : Keeps σ s) {i l p pr} : Keeps σ (s.newPage i l p pr).1 := by
  unfold State.newPage
  extract_lets +onlyGivenNames e r pid pg _ _ s1
  have hr : Keeps σ r.1 := hs.allocPair
  clear_value r
  have hs1 : Keeps σ s1 := hr.frame
  clear_value s1
  exact .fst hs1.setRef.count

theorem Keeps.freePage (hs : Keeps σ s) {low : Nat → State → Page → State} (hlow : ∀ a u c, Keeps σ u → Keeps σ
    (low a u c)) {pid by_ paid} : Keeps σ (s.freePage pid by_ paid low) := by
  unfold State.freePage
  split
  · exact hs
  · refine .ite hs.updPage ?_
    extract_lets +onlyGivenNames s1 k s2 s3
    have hs1 : Keeps σ s1 := hs.negCopy.scrubT1.scrubT1
    clear_value s1
    have hs2 : Keeps σ s2 := .ite hs1.subCharge hs1
    clear_value s2
    have hs3 : Keeps σ s3 := .ite (hlow _ _ _ hs2) hs2
    clear_value s3
    exact hs3.frame.count

theorem Keeps.freeShare (hs : Keeps σ s) {rid r} : Keeps σ (s.freeShare rid r) := by
  unfold State.freeShare
  extract_lets +onlyGivenNames _ s1
  have hs1 : Keeps σ s1 := hs.frame
  clear_value s1
  split
  · exact hs1
  · exact .ite hs1.frame.scrubT1.scrubT1.subCharge hs1.frame

theorem Keeps.dropRef (hs : Keeps σ s) {low : Nat → State → Page → State} (hlow : ∀ a u c, Keeps σ u → Keeps σ
    (low a u c)) {r by_ paid} : Keeps σ (s.dropRef r by_ paid low) := by
  unfold State.dropRef
  split
  · exact hs.freePage (fun _ _ _ hu => hlow _ _ _ hu)
  · split
    · exact hs
    · exact .ite (hs.freeShare.freePage (fun _ _ _ hu => hlow _ _ _ hu)) hs.frame

theorem Keeps.unitFault (hs : Keeps σ s) {kind u} : Keeps σ (s.unitFault kind u) := .ite hs.frame.raise hs.frame

theorem Keeps.repaired (hs : Keeps σ s) {part x} : Keeps σ (s.repaired part x) := hs.count.raiseSec.unitFault

theorem Keeps.uncorrectable (hs : Keeps σ s) {part x} : Keeps σ (s.uncorrectable part x) := hs.count.raise

theorem Keeps.t1Read (hs : Keeps σ s) {x} : Keeps σ (s.t1Read x) := .ite hs.count hs

theorem Keeps.readRowOf (hs : Keeps σ s) {pid t r p} : Keeps σ (s.readRowOf pid t r p).1 := by
  unfold State.readRowOf
  extract_lets +onlyGivenNames noA noB put
  split
  · exact .fst hs
  · exact .fst hs
  · exact .fst hs.updPage.repaired
  · exact .fst hs.updPage.repaired
  · exact .fst hs.updPage.uncorrectable

theorem Keeps.readPage {s0 : State} (hs0 : Keeps σ s0) {pid need} : Keeps σ (s0.readPage pid need).1 := by
  unfold State.readPage
  split
  · exact .fst hs0
  · split
    · extract_lets +onlyGivenNames s
      split
      · exact .fst hs0.t1Read
      · exact .fst hs0.t1Read
      · refine .ite_fst ?_ ?_
        · exact .fst hs0.t1Read.updPage.repaired
        · exact .fst hs0.t1Read.updPage.uncorrectable
    · exact (Keeps.fst hs0).foldl_fst (fun _ _ hu => .fst hu.readRowOf)

theorem Keeps.copyRows (hs : Keeps σ s) {pid n} : Keeps σ (s.copyRows pid n).1 := by
  unfold State.copyRows
  extract_lets +onlyGivenNames r
  split
  · exact .fst hs.readPage
  · exact .fst hs.readPage

theorem Keeps.appendRow (hs : Keeps σ s) {i l pos cnt pr row} : Keeps σ (s.appendRow i l pos cnt pr row).1 := by
  unfold State.appendRow
  extract_lets +onlyGivenNames p w
  split
  · exact .fst hs.reach.newPage.negCopy.updPage
  · exact .fst hs.negCopy.updPage
  · split
    · exact .fst hs
    · refine .ite_fst ?_ ?_
      · exact .fst hs.negCopy.updPage
      · exact .fst ((hs.copyRows.newPage.updPage.dropRef (fun _ _ _ hu => hu)).count.negCopy.updPage)

theorem Keeps.settlePages (hs : Keeps σ s) {low : Nat → State → Page → State} (hlow : ∀ a u c, Keeps σ u → Keeps σ
    (low a u c)) {i cnt fresh} : Keeps σ (s.settlePages i cnt fresh low) := by
  unfold State.settlePages
  refine hs.foldl (fun _ _ hu => .ite ((hu.dropRef (fun _ _ _ hv => hlow _ _ _ hv)).delRef) ?_)
  split
  · exact hu
  · exact .ite hu.updPage hu

theorem Keeps.sealPage (hs : Keeps σ s) {low : Nat → State → Page → State} (hlow : ∀ a u c, Keeps σ u → Keeps σ
    (low a u c)) {pid} : Keeps σ (s.sealPage pid low) := by
  unfold State.sealPage
  split
  · exact hs
  · refine .ite hs ?_
    extract_lets +onlyGivenNames fromB keep other k s1 s2 s3
    have hs2 : Keeps σ s2 := hs.negCopy.updPage.addMember.scrubT1.subCharge.addCharge
    clear_value s2
    split
    · exact hs2.count.freePage (fun _ _ _ hu => hlow _ _ _ hu)
    · exact hs2.count

theorem Keeps.shareLayer (hs : Keeps σ s) {i l n ps blk} : Keeps σ (s.shareLayer i l n ps blk) := by
  induction ps generalizing s n blk with
  | nil => exact hs
  | cons a ps ih =>
    unfold State.shareLayer
    extract_lets +onlyGivenNames fresh e r id _ _ s1 b rid _ s2
    have hr : Keeps σ r.1 := hs.allocPair
    have hs1 : Keeps σ s1 := .ite hr.frame.addCharge hs
    clear_value s1
    have hs2 : Keeps σ s2 := hs1.frame
    exact ih hs2.setRef

theorem Keeps.sharePages (hs : Keeps σ s) {i c n} : Keeps σ (s.sharePages i c n) := by
  unfold State.sharePages
  extract_lets +onlyGivenNames s1 olds _ s2 s3
  have hs1 : Keeps σ s1 := hs.foldl (fun _ _ hu => hu.shareLayer)
  clear_value s1
  have hs3 : Keeps σ s3 := hs1.frame.foldl (fun _ _ hu => .ite hu (hu.reach.addCharge.foldl (fun _ _ hv => .ite hv.setRef hv)))
  clear_value s3
  exact hs3.setRoot

theorem Keeps.scrubBlocks (hs : Keeps σ s) {t} : Keeps σ (s.scrubBlocks t) := hs.foldl (fun _ _ hu => hu.scrubT1.scrubT1)

theorem Keeps.dropSession (hs : Keeps σ s) {low : Nat → State → Page → State} (hlow : ∀ a u c, Keeps σ u → Keeps σ
    (low a u c)) {i} : Keeps σ (s.dropSession i low) := by
  unfold State.dropSession
  extract_lets +onlyGivenNames t s1 s2 s3
  have hs1 : Keeps σ s1 := hs.foldl (fun _ _ hu => hu.dropRef (fun _ _ _ hv => hlow _ _ _ hv))
  clear_value s1
  have hs3 : Keeps σ s3 := .ite hs1.scrubBlocks.subCharge hs1.scrubBlocks
  clear_value s3
  exact hs3.frame

theorem Keeps.execT1QuotaWrite (hs : Keeps σ s) {o p sub v} {ok} : Runs σ ok (execT1QuotaWrite o p sub v s) :=
  .next (hs.writeRow (fun _ hu => .ok hu.dset))

end Sys2Proof.Machine
end

section
/-! What the operations of Machine/Tiers leave follows the state that they are given. -/

namespace Sys2Proof.Machine
set_option Elab.async false

variable {σ s t u : State}

theorem Keeps.setT2 (hs : Keeps σ s) {h t} : Keeps σ (s.setT2 h t) := hs.frame

theorem Keeps.t2Write (hs : Keeps σ s) {h} : Keeps σ (s.t2Write h) := by
  unfold State.t2Write
  extract_lets +onlyGivenNames t
  refine .ite hs ?_
  extract_lets +onlyGivenNames t1 s1 _ s2 s3
  have hs1 : Keeps σ s1 := hs.setT2
  have hs2 : Keeps σ s2 := hs1.frame
  have hs3 : Keeps σ s3 := hs2.count
  exact .ite hs3.raiseOnce hs3

theorem Keeps.t2Pieces (hs : Keeps σ s) {h kind n kib} : Keeps σ (s.t2Pieces h kind n kib) := by
  induction n generalizing s kib with
  | zero => exact hs
  | succ n ih => exact .ite hs (ih (.ite hs.setT2.t2Write hs.setT2))

theorem Keeps.t2Put (hs : Keeps σ s) {h kib kind} : Keeps σ (s.t2Put h kib kind).1 := by
  unfold State.t2Put
  extract_lets +onlyGivenNames t at_
  refine .ite_fst ?_ ?_
  · exact .fst hs.t2Pieces
  · extract_lets +onlyGivenNames s1
    split
    · exact .fst hs.t2Write
    · exact .fst hs.t2Write.setT2.t2Pieces

theorem Keeps.t2Drop (hs : Keeps σ s) {h kind} : Keeps σ (s.t2Drop h kind) := hs.setT2

theorem Keeps.poolAsk (hs : Keeps σ s) {op part holder ext kib len obj data} : Keeps σ (s.poolAsk op part holder ext kib len obj data) := by
  unfold State.poolAsk
  extract_lets +onlyGivenNames s1
  have hs1 : Keeps σ s1 := hs.sendMsg
  clear_value s1
  exact hs1.frame

theorem Keeps.putLow (hs : Keeps σ s) {h p t kib skip kind data} : Keeps σ (s.putLow h p t kib skip kind data).1 := by
  unfold State.putLow
  refine .ite_fst ?_ ?_
  · exact hs.t2Put
  · refine .ite_fst ?_ ?_
    · split
      · exact .fst hs
      · exact .fst hs.frame.dmaTo
    · refine .ite_fst ?_ ?_
      · split
        · exact .fst hs
        · exact .fst hs.frame.poolAsk
      · exact .fst hs

theorem Keeps.dropLow (hs : Keeps σ s) {p x kind} : Keeps σ (s.dropLow p x kind) :=
  .ite hs.t2Drop (.ite hs.frame (.ite hs.frame hs))

theorem Keeps.dropPageLow (hs : Keeps σ s) {pid p} : Keeps σ (dropPageLow pid s p) := hs.dropLow.dropLow

theorem Keeps.dropPageRef (hs : Keeps σ s) {r by_} : Keeps σ (s.dropPageRef r by_) := by
  unfold State.dropPageRef
  split
  · exact hs.dropRef (fun _ _ _ hu => hu.dropPageLow)
  · exact hs

theorem Keeps.lapseEvent (hs : Keeps σ s) {p h x} : Keeps σ (s.lapseEvent p h x) := hs.raiseOnce

theorem Keeps.toState (hs : Keeps σ s) {i x} : Keeps σ (s.toState i x) := by
  unfold State.toState
  extract_lets +onlyGivenNames s1
  have hs1 : Keeps σ s1 := hs.updEnt
  clear_value s1
  exact .ite hs1.frame hs1.frame

theorem Keeps.startTtl (hs : Keeps σ s) {i} : Keeps σ (s.startTtl i) := hs.updEnt

theorem Keeps.stopTtl (hs : Keeps σ s) {i} : Keeps σ (s.stopTtl i) := hs.updEnt

theorem Keeps.setRes (hs : Keeps σ s) {i} : Keeps σ (s.setRes i) := by
  unfold State.setRes
  exact hs.updEnt

theorem Keeps.dropDev (hs : Keeps σ s) {i} : Keeps σ (s.dropDev i) := hs.frame

theorem Keeps.putTables (hs : Keeps σ s) {i t skip} : Keeps σ (s.putTables i t skip).1 := by
  unfold State.putTables
  extract_lets +onlyGivenNames pt
  refine .ite_fst ?_ ?_
  · exact .fst hs
  · extract_lets +onlyGivenNames e r
    refine .ite_fst ?_ ?_
    · exact .fst hs.putLow
    · exact .fst hs.putLow.setTable

theorem Keeps.tablesLowered (hs : Keeps σ s) {i} : Keeps σ (s.tablesLowered i) := by
  unfold State.tablesLowered
  extract_lets +onlyGivenNames pt e
  refine .ite hs ?_
  extract_lets +onlyGivenNames s1 s2
  have hs1 : Keeps σ s1 := .ite hs.dropLow hs
  clear_value s1
  exact (Keeps.ite hs1.scrubBlocks.subCharge hs1).setTable.setRoot

theorem Keeps.putPage (hs : Keeps σ s) {i pid t skip} : Keeps σ (s.putPage i pid t skip).1 := by
  unfold State.putPage
  split
  · exact .fst hs
  · refine .ite_fst ?_ ?_
    · exact .fst hs
    · refine .ite_fst ?_ ?_
      · exact .fst hs
      · extract_lets +onlyGivenNames rd b kib r
        have hrd : Keeps σ rd.1 := by
          unfold rd
          refine .ite_fst ?_ ?_
          · exact hs.readPage
          · exact .fst hs
        clear_value rd
        refine .ite_fst ?_ ?_
        · exact .fst hrd.putLow
        · exact .fst hrd.putLow.updPage

theorem Keeps.putPages (hs : Keeps σ s) {i t skip l} : Keeps σ (s.putPages i t skip l).1 := by
  induction l generalizing s with
  | nil => exact hs
  | cons pid l ih => exact .ite_fst (ih hs.putPage) hs.putPage

theorem Keeps.pageLowered (hs : Keeps σ s) {pid} : Keeps σ (s.pageLowered pid) := by
  unfold State.pageLowered
  split
  · exact hs
  · refine .ite hs ?_
    extract_lets +onlyGivenNames k s1 s2 s3 s4
    have hs2 : Keeps σ s2 := (Keeps.ite hs.dropLow hs).negCopy.scrubT1.scrubT1
    clear_value s2
    have hs3 : Keeps σ s3 := .ite hs2.subCharge hs2
    clear_value s3
    exact .ite hs3.updPage.count.countUnits.countUnits hs3.updPage

theorem Keeps.dropNext (hs : Keeps σ s) {pid keep} : Keeps σ (s.dropNext pid keep) := by
  unfold State.dropNext
  split
  · exact hs
  · exact .ite hs (.ite hs.updPage hs.dropLow.updPage)

theorem Keeps.dropNextTables (hs : Keeps σ s) {i} : Keeps σ (s.dropNextTables i) := .ite hs hs.dropLow.setTable

theorem Keeps.leavePass (hs : Keeps σ s) {h i gran} : Keeps σ (s.leavePass h i gran) := hs.frame

theorem Keeps.stopDemotion (hs : Keeps σ s) {i st aux keep} : Keeps σ (s.stopDemotion i st aux keep) := by
  unfold State.stopDemotion
  split
  · exact hs
  · extract_lets +onlyGivenNames s0 _ s1
    have hs0 : Keeps σ s0 := (hs.foldl (fun _ _ hu => hu.dropNext)).dropNextTables
    clear_value s0
    exact (hs0.frame.leavePass.foldl (fun _ _ hu => hu.doneSess)).setRes

theorem Keeps.demoPut (hs : Keeps σ s) {i} : Keeps σ (s.demoPut i) := by
  unfold State.demoPut
  split
  · exact hs
  · extract_lets +onlyGivenNames r _ r1
    have hr1 : Keeps σ r1.1 := by
      unfold r1
      refine .ite_fst ?_ ?_
      · exact .fst hs.putPages.putTables
      · exact hs.putPages
    clear_value r1
    exact .ite hr1.raise.stopDemotion hr1

theorem Keeps.endDemotion (hs : Keeps σ s) {i n} : Keeps σ (s.endDemotion i n) := by
  induction n generalizing s with
  | zero => exact hs
  | succ n ih =>
    unfold State.endDemotion
    split
    · exact hs
    · refine .ite hs ?_
      extract_lets +onlyGivenNames s1 now rest _ s2
      have hs1 : Keeps σ s1 := hs.setRes.leavePass
      clear_value s1
      have hs2 : Keeps σ s2 := hs1.frame.foldl (fun _ _ hu => hu.doneSess)
      clear_value rest s2
      split
      · exact hs2
      · exact ih hs2.frame.demoPut

theorem Keeps.startDemotion (hs : Keeps σ s) {i t all pass parks} : Keeps σ (s.startDemotion i t all pass parks) := by
  unfold State.startDemotion
  extract_lets +onlyGivenNames s1 d _ s2
  have hs1 : Keeps σ s1 := hs.dropDev.toState.startTtl
  clear_value s1
  exact hs1.frame.demoPut.endDemotion

theorem Keeps.demoDurable (hs : Keeps σ s) {i pid} : Keeps σ (s.demoDurable i pid) := by
  unfold State.demoDurable
  split
  · exact hs
  · extract_lets +onlyGivenNames go
    refine .ite (.ite hs hs.tablesLowered.frame.setRes.endDemotion) ?_
    split
    · exact hs
    · exact .ite hs ((Keeps.ite hs.pageLowered hs.dropNext).frame.setRes.endDemotion)

theorem Keeps.demosGo (hs : Keeps σ s) : Keeps σ s.demosGo := hs.foldl (fun _ _ hu => hu.demoPut)

theorem Keeps.raiseTables (hs : Keeps σ s) {i} : Keeps σ (s.raiseTables i) :=
  .ite hs ((hs.setTable.foldl (fun _ _ hu => hu.addBlock)).addCharge.setRoot)

theorem Keeps.updGran (hs : Keeps σ s) {g f} : Keeps σ (s.updGran g f) := hs.frame

theorem Keeps.withAddr (hs : Keeps σ s) {k : State} (hk : Keeps σ k) {c p addr n} : Keeps σ (s.withAddr c p addr n k) := by
  unfold State.withAddr
  split
  · exact hs.refuseX
  · exact hk

theorem Keeps.touch (hs : Keeps σ s) {g} : Keeps σ (s.touch g) := hs.updGran

theorem Keeps.spoil (hs : Keeps σ s) {gs} : Keeps σ (s.spoil gs) := .ite hs hs.frame

theorem Keeps.memWrite (hs : Keeps σ s) {addr b} : Keeps σ (s.memWrite addr b) := by
  unfold State.memWrite
  extract_lets +onlyGivenNames s1
  have hs1 : Keeps σ s1 := (hs.foldl (fun _ _ hu => hu.negCopy)).spoil
  clear_value s1
  exact hs1.frame (hm := wf_writeN)

theorem Keeps.poisonBlock (hs : Keeps σ s) {addr} : Keeps σ (s.poisonBlock addr) := .ite hs hs.frame

theorem Keeps.placeGran (hs : Keeps σ s) {g t skip} : Keeps σ (s.placeGran g t skip).1 := by
  unfold State.placeGran
  refine .ite_fst ?_ ?_
  · extract_lets +onlyGivenNames h st r r1
    have hr1 : Keeps σ r1.1 := by
      unfold r1
      refine .ite_fst ?_ ?_
      · exact hs.allocT1.allocT1
      · exact hs.allocT1
    clear_value r1
    exact .fst hr1.addMember
  · exact hs.putLow

theorem Keeps.dropGran (hs : Keeps σ s) {g x} : Keeps σ (s.dropGran g x) := .ite hs.scrubT1 hs.dropLow

theorem Keeps.startGranMove (hs : Keeps σ s) {g t skip byCmd} : Keeps σ (s.startGranMove g t skip byCmd).1 := by
  unfold State.startGranMove
  split
  · exact .fst hs
  · refine .ite_fst ?_ ?_
    · exact .fst hs
    · extract_lets +onlyGivenNames r
      refine .ite_fst ?_ ?_
      · exact .fst hs.placeGran
      · exact .fst hs.placeGran.updGran

theorem Keeps.atomicAdd (hs : Keeps σ s) {addr op v} : Keeps σ (s.atomicAdd addr op v) :=
  (Keeps.ite hs.memWrite.poisonBlock hs.memWrite).count

theorem Keeps.granDone (hs : Keeps σ s) {g atom} : Keeps σ (s.granDone g atom) := by
  unfold State.granDone
  extract_lets +onlyGivenNames cs fin _ s1
  refine hs.frame.foldl (fun _ _ hu => ?_)
  extract_lets +onlyGivenNames _ t1
  have ht1 : Keeps σ t1 := .ite hu.frame hu
  clear_value t1
  exact .ite ((Keeps.ite ht1.tastePoison ht1).done) ht1.done

theorem Keeps.keepImages (hs : Keeps σ s) : Keeps σ s.keepImages := hs.frame

theorem Keeps.reanchor {s0 : State} (hs0 : Keeps σ s0) : Keeps σ s0.reanchor := by
  unfold State.reanchor
  extract_lets +onlyGivenNames s mk a b _ s1 s2
  have hs2 : Keeps σ s2 := .ite hs0.keepImages.frame.raise hs0.keepImages.frame
  clear_value s2
  exact .ite hs2.raise hs2

theorem Keeps.applyAdds (hs : Keeps σ s) {g} : Keeps σ (s.applyAdds g) := by
  unfold State.applyAdds
  split
  · exact hs
  · exact .ite hs ((hs.updGran.foldl (fun _ _ hu => hu.atomicAdd)).granDone)

theorem Keeps.pushUp (hs : Keeps σ s) {g} : Keeps σ (s.pushUp g) := by
  unfold State.pushUp
  split
  · exact hs
  · exact .ite hs hs.startGranMove

theorem Keeps.switchGran (hs : Keeps σ s) {g x m} : Keeps σ (s.switchGran g x m) := by
  unfold State.switchGran
  extract_lets +onlyGivenNames s1 s2
  have hs1 : Keeps σ s1 := hs.negCopy.updGran
  clear_value s1
  have hs2 : Keeps σ s2 := hs1.dropGran.applyAdds.granDone
  clear_value s2
  exact hs2.leavePass.leavePass.reanchor.pushUp

theorem Keeps.pieceMoved (hs : Keeps σ s) {g} : Keeps σ (s.pieceMoved g) := by
  unfold State.pieceMoved
  split
  · exact hs
  · split
    · exact hs
    · exact .ite hs (.ite hs.updGran (.ite hs hs.switchGran))

theorem Keeps.hotGran (hs : Keeps σ s) {g} : Keeps σ (s.hotGran g) := by
  unfold State.hotGran
  split
  · exact hs
  · exact .ite hs.startGranMove hs

theorem Keeps.access (hs : Keeps σ s) {addr n} : Keeps σ (s.access addr n) := hs.foldl (fun _ _ hu => hu.touch.hotGran)

theorem Keeps.updLys (hs : Keeps σ s) {k f} : Keeps σ (s.updLys k f) := hs.frame

theorem Keeps.remake (hs : Keeps σ s) {x kind kib} : Keeps σ (s.remake x kind kib).1 := by
  unfold State.remake
  refine .ite_fst ?_ ?_
  · exact hs.allocT1
  · exact .fst hs

theorem Keeps.remirror (hs : Keeps σ s) : Keeps σ s.remirror := by
  unfold State.remirror
  extract_lets +onlyGivenNames s1 s2
  have hs1 : Keeps σ s1 := hs.foldl (fun _ _ hu => .ite hu hu.remake.remake.updPage)
  clear_value s1
  have hs2 : Keeps σ s2 := by
    unfold s2
    refine hs1.foldl (fun _ _ hu => .ite hu ?_)
    extract_lets +onlyGivenNames r
    have hr : Keeps σ r.1 := (Keeps.fst hu).foldl_fst (fun _ _ hv => .fst hv.remake.remake)
    clear_value r
    exact hr.setTable.setRoot
  clear_value s2
  refine hs2.foldl (fun _ _ hu => ?_)
  extract_lets +onlyGivenNames a b src
  have hb : Keeps σ b.1 := hu.remake.remake
  clear_value b
  exact hb.frame

theorem Keeps.loseSlot (hs : Keeps σ s) {x h g r m} : Keeps σ (s.loseSlot x h g r m) := by
  unfold State.loseSlot
  split
  · exact .ite hs hs.updPage.count.raise
  · exact .ite hs ((hs.foldl (fun _ _ hu => hu.poisonBlock)).raise)
  · exact hs

theorem Keeps.secondLoss (hs : Keeps σ s) {h g} : Keeps σ (s.secondLoss h g) :=
  .ite hs (hs.foldl (fun _ _ hu => .ite (hu.foldl (fun _ _ hv => hv.loseSlot)) hu))

theorem Keeps.openLost (hs : Keeps σ s) : Keeps σ s.openLost := hs.foldl (fun _ _ hu => .ite hu.updPage.count.raise hu)

theorem Keeps.markRow (hs : Keeps σ s) {h g} : Keeps σ (s.markRow h g) := by
  unfold State.markRow
  split
  · exact hs
  · exact hs.updRow

theorem Keeps.startRebuild (hs : Keeps σ s) {h g st assisted} : Keeps σ (s.startRebuild h g st assisted) := hs.frame.markRow

theorem Keeps.degrade (hs : Keeps σ s) {h g} : Keeps σ (s.degrade h g) := hs.foldl (fun _ _ hu => hu.updRow)

theorem Keeps.loseStack (hs : Keeps σ s) {h st} : Keeps σ (s.loseStack h st) := by
  unfold State.loseStack
  extract_lets +onlyGivenNames k g
  refine .ite hs.updLys ?_
  extract_lets +onlyGivenNames s1 s3 assisted s4
  have hs3 : Keeps σ s3 := hs.updLys.raise.degrade.openLost.secondLoss.remirror
  clear_value s3
  exact .ite hs3.startRebuild.raise hs3.startRebuild

theorem Keeps.moveSlot (hs : Keeps σ s) {x h st} : Keeps σ (s.moveSlot x h st).1 := by
  unfold State.moveSlot
  extract_lets +onlyGivenNames free
  split
  · exact .fst hs
  · split
    · exact .fst hs
    · extract_lets +onlyGivenNames r
      have hr : Keeps σ r.1 := by
        unfold r
        refine .ite_fst ?_ ?_
        · exact hs.negCopy.allocT1
        · exact .fst hs
      clear_value r
      refine .ite_fst ?_ ?_
      · exact .fst hs
      · exact .fst hr.t1Read.addMember.scrubT1.updPage.count
  · extract_lets +onlyGivenNames r
    have hr : Keeps σ r.1 := by
      unfold r
      refine .ite_fst ?_ ?_
      · exact hs.allocT1
      · exact .fst hs
    clear_value r
    refine .ite_fst ?_ ?_
    · exact .fst hs
    · exact .fst hr.t1Read.addMember.scrubT1.updGran.applyAdds

theorem Keeps.moveMembers (hs : Keeps σ s) {h g r kib ms} : Keeps σ (s.moveMembers h g r kib ms).1 :=
  (Keeps.fst hs).foldl_fst (fun _ _ hu => .fst hu.moveSlot)

theorem Keeps.settleSystem (hs : Keeps σ s) {h g} : Keeps σ (s.settleSystem h g) := hs.foldl (fun _ _ hu => .ite hu hu.updRow)

theorem Keeps.rebuildRow (hs : Keeps σ s) {h g r} : Keeps σ (s.rebuildRow h g r) := by
  unfold State.rebuildRow
  split
  · exact hs
  · refine .ite hs ?_
    extract_lets +onlyGivenNames out b par mv rb0
    have hmv : Keeps σ mv.1 := hs.moveMembers
    clear_value mv
    refine .ite hmv.frame ?_
    extract_lets +onlyGivenNames s2 rb1 fin rb2 _ s3
    have hs2 : Keeps σ s2 := hmv.updRow
    clear_value s2
    have hs3 : Keeps σ s3 := hs2.frame.foldl (fun _ _ hu => hu.done)
    clear_value s3
    exact .ite hs3.frame.settleSystem.raise hs3.markRow

theorem Keeps.execSealDone (hs : Keeps σ s) {pid} {ok} : Runs σ ok (execSealDone pid s) :=
  .next ((hs.sealPage (fun _ _ _ hu => hu)).demosGo)

theorem Keeps.execScrubDone (hs : Keeps σ s) {half stack} : Runs σ (half < 2 ∧ stack < 16) (execScrubDone half stack s) :=
  .within (hs.scrubDone.foldl (fun _ _ hu => hu.pushUp))

end Sys2Proof.Machine
end

section
/-! What the operations of Machine/Tracker leave follows the state that they are given. -/

namespace Sys2Proof.Machine
set_option Elab.async false

variable {σ s t u : State}

theorem Keeps.updPort (hs : Keeps σ s) {p f} : Keeps σ (s.updPort p f) := hs.frame

theorem Keeps.snoopLine (hs : Keeps σ s) {l p} : Keeps σ (s.snoopLine l p) := .ite hs hs.updPort.count.emit

theorem Keeps.devWrite (hs : Keeps σ s) {addr b} : Keeps σ (s.devWrite addr b) := by
  unfold State.devWrite
  extract_lets +onlyGivenNames s1
  have hs1 : Keeps σ s1 := hs.foldl (fun _ _ hu => hu.foldl (fun _ _ hv => hv.snoopLine))
  clear_value s1
  exact hs1.memWrite

theorem Keeps.atomicNow (hs : Keeps σ s) {c p addr op v} : Keeps σ (s.atomicNow c p addr op v) :=
  (Keeps.ite hs.atomicAdd.tastePoison hs.atomicAdd).done

theorem Keeps.atomicLine (hs : Keeps σ s) {c p addr op v} : Keeps σ (s.atomicLine c p addr op v) := by
  unfold State.atomicLine
  extract_lets +onlyGivenNames holders
  refine .ite hs.atomicNow ?_
  extract_lets +onlyGivenNames w s1
  have hs1 : Keeps σ s1 := hs.foldl (fun _ _ hu => hu.snoopLine)
  clear_value s1
  exact hs1.frame

theorem Keeps.atomsAgain (hs : Keeps σ s) : Keeps σ s.atomsAgain := hs.frame.foldl (fun _ _ hu => hu.atomicLine)

end Sys2Proof.Machine
end

section
/-! What the operations of Machine/TierCmds leave follows the state that they are given. -/

namespace Sys2Proof.Machine
set_option Elab.async false

variable {σ s t u : State}

theorem Keeps.extentAdd (hs : Keeps σ s) {c p d} : Keeps σ (s.extentAdd c p d) := by
  unfold State.extentAdd
  extract_lets +onlyGivenNames addr len id key
  refine .ite hs.refuse ?_
  split
  · exact .ite hs.refuse (.ite hs.refuse hs.frame.unlatch.done)
  · exact .ite hs.refuse hs.frame.done

theorem Keeps.execExtentAdd (hs : Keeps σ s) {fn sq d} {ok} : Runs σ ok (execExtentAdd fn sq d s) :=
  .next (hs.take (fun _ _ => hs.extentAdd))

theorem Keeps.moveEach {α : Type} (hs : Keeps σ s) {put : State → α → State × Bool}
    (hput : ∀ u a, Keeps σ u → Keeps σ (put u a).1) {l} : Keeps σ (moveEach put l s).1 := by
  induction l generalizing s with
  | nil => exact hs
  | cons a l ih => exact .ite_fst (ih (hput _ _ hs)) (hput _ _ hs)

theorem Keeps.evacuate (hs : Keeps σ s) {c p id} : Keeps σ (s.evacuate c p id) := by
  unfold State.evacuate
  extract_lets +onlyGivenNames key pgs grs tbs r1 r2 r3
  have hr1 : Keeps σ r1.1 := by
    unfold r1
    refine hs.moveEach (fun _ _ hu => ?_)
    split
    · exact .fst hu
    · exact hu.putTables
  clear_value r1
  have hr2 : Keeps σ r2.1 := by
    unfold r2
    refine .ite_fst ?_ ?_
    · exact hr1
    · refine hr1.moveEach (fun _ _ hu => ?_)
      split
      · exact .fst hu
      · split
        · exact .fst hu
        · exact .fst hu.putPage
  clear_value r2
  have hr3 : Keeps σ r3.1 := by
    unfold r3
    refine .ite_fst ?_ ?_
    · exact hr2
    · refine hr2.moveEach (fun _ _ hu => ?_)
      split
      · exact .fst hu
      · exact hu.startGranMove
  clear_value r3
  refine .ite ?_ (.ite (hr3.frame).done hr3.frame)
  extract_lets +onlyGivenNames s1
  have hs1 : Keeps σ s1 := (hr3.foldl (fun _ _ hu => hu.dropNextTables)).foldl (fun _ _ hu => hu.dropNext)
  clear_value s1
  exact hs1.raise.refuse

theorem Keeps.evacDurable (hs : Keeps σ s) {i pid} : Keeps σ (s.evacDurable i pid) := by
  unfold State.evacDurable
  extract_lets +onlyGivenNames code
  refine .ite (.ite hs (.ite hs.dropNextTables.granDone hs.tablesLowered.granDone)) ?_
  split
  · exact hs.granDone
  · exact .ite hs (.ite hs.pageLowered.granDone (.ite hs.dropNext.granDone hs.dropLow.updPage.granDone))

theorem Keeps.evacTidy (hs : Keeps σ s) : Keeps σ s.evacTidy :=
  hs.foldl (fun _ _ hu => .ite hu (hu.foldl (fun _ _ hv => .ite (.ite hv hv.dropNextTables.granDone) (.ite
      (.ite hv hv.dropNext.granDone) hv))))

theorem Keeps.extentRemove (hs : Keeps σ s) {c p d} : Keeps σ (s.extentRemove c p d) := by
  unfold State.extentRemove
  extract_lets +onlyGivenNames id key
  split
  · exact hs.refuse
  · exact .ite hs.frame.done (.ite hs.refuse (.ite hs.lapseEvent.refuse hs.evacuate))

theorem Keeps.execExtentRemove (hs : Keeps σ s) {fn sq d} {ok} : Runs σ ok (execExtentRemove fn sq d s) :=
  .next (hs.take (fun _ _ => hs.extentRemove))

theorem Keeps.mapOne (hs : Keeps σ s) {g t pin} : KeepsIn σ (s.mapOne g t pin) :=
  .findSome (fun _ => .ite .none (.some (hs.placeGran.frame (hm := wf_filter))))

theorem Keeps.mapAll (hs : Keeps σ s) {t pin l n} : Keeps σ (s.mapAll t pin l n).1 := by
  induction l generalizing s n with
  | nil => exact hs
  | cons g l ih =>
    unfold State.mapAll
    split
    · exact hs
    · exact ih (hs.mapOne _ ‹_›)

theorem Keeps.granEnd (hs : Keeps σ s) {c n all} : Keeps σ (s.granEnd c n all) := hs.reanchor.done

theorem Keeps.mapCmd (hs : Keeps σ s) {c p d} : Keeps σ (s.mapCmd c p d) :=
  .ite hs.refuse (.ite hs.refuseX (.ite hs.refuse (.ite hs.refuse (.ite hs.refuse hs.mapAll.granEnd))))

theorem Keeps.execMap (hs : Keeps σ s) {fn sq d} {ok} : Runs σ ok (execMap fn sq d s) := .next (hs.take (fun _ _ => hs.mapCmd))

theorem Keeps.unmapOne (hs : Keeps σ s) {g} : Keeps σ (s.unmapOne g) := by
  unfold State.unmapOne
  split
  · exact hs
  · extract_lets +onlyGivenNames s1 s2
    have hs1 : Keeps σ s1 := hs.negCopy.dropGran
    clear_value s1
    have hs2 : Keeps σ s2 := by
      unfold s2
      split
      · exact hs1.dropGran
      · exact hs1
    clear_value s2
    exact (hs2.frame (hm := wf_filter)).granDone.granDone

theorem Keeps.unmapCmd (hs : Keeps σ s) {c p d} : Keeps σ (s.unmapCmd c p d) :=
  .ite hs.refuse (hs.withAddr (.ite hs.refuse ((hs.foldl (fun _ _ hu => hu.unmapOne)).granEnd)))

theorem Keeps.execUnmap (hs : Keeps σ s) {fn sq d} {ok} : Runs σ ok (execUnmap fn sq d s) :=
  .next (hs.take (fun _ _ => hs.unmapCmd))

theorem Keeps.moveAll (hs : Keeps σ s) {t l m} : Keeps σ (s.moveAll t l m).1 := by
  induction l generalizing s m with
  | nil => exact hs
  | cons g l ih => exact .ite_fst (ih hs) (.ite_fst (ih hs.startGranMove) hs.startGranMove)

theorem Keeps.placeAll (hs : Keeps σ s) {c t pin gs} : Keeps σ (s.placeAll c t pin gs) := by
  unfold State.placeAll
  refine .ite hs.refuse ?_
  split
  · exact hs.lapseEvent.refuse
  · extract_lets +onlyGivenNames s1
    have hs1 : Keeps σ s1 := hs.foldl (fun _ _ hu => hu.updGran)
    clear_value s1
    refine .ite hs1.granEnd ?_
    extract_lets +onlyGivenNames r
    have hr : Keeps σ r.1 := hs1.moveAll
    clear_value r
    exact .ite hr.granEnd hr.frame

theorem Keeps.placeCmd (hs : Keeps σ s) {c p d} : Keeps σ (s.placeCmd c p d) := .ite hs.refuse (hs.withAddr hs.placeAll)

theorem Keeps.execPlace (hs : Keeps σ s) {fn sq d} {ok} : Runs σ ok (execPlace fn sq d s) :=
  .next (hs.take (fun _ _ => hs.placeCmd))

theorem Keeps.execGranulePieceMoved (hs : Keeps σ s) {g} {ok} : Runs σ ok (execGranulePieceMoved g s) := .next hs.pieceMoved

theorem Keeps.atomicAt (hs : Keeps σ s) {c p g addr op v} : Keeps σ (s.atomicAt c p g addr op v) := by
  unfold State.atomicAt
  split
  · exact hs
  · refine .ite hs.lapseEvent.refuse (.ite hs.atomicLine ?_)
    extract_lets +onlyGivenNames s1
    have hs1 : Keeps σ s1 := hs.updGran
    clear_value s1
    exact hs1.frame.pushUp

theorem Keeps.atomicCmd (hs : Keeps σ s) {c p d} : Keeps σ (s.atomicCmd c p d) := .ite hs.refuse (hs.withAddr hs.access.atomicAt)

theorem Keeps.execAtomic (hs : Keeps σ s) {fn sq d} {ok} : Runs σ ok (execAtomic fn sq d s) :=
  .next (hs.take (fun _ _ => hs.atomicCmd))

theorem Keeps.execStackLost (hs : Keeps σ s) {half stack} : Runs σ (half < 2 ∧ stack < 16) (execStackLost half stack s) :=
  .within hs.loseStack

theorem Keeps.execLysingAccessTimeout (hs : Keeps σ s) {half stack} : Runs σ (half < 2 ∧ stack < 16)
    (execLysingAccessTimeout half stack s) :=
  .within (.ite hs.loseStack hs.updLys)

theorem Keeps.execStackAnswersAgain (hs : Keeps σ s) {half stack} : Runs σ (half < 2 ∧ stack < 16) (execStackAnswersAgain half stack s) :=
  .within hs.updLys

theorem Keeps.execRebuildRowDone (hs : Keeps σ s) {half group row} {ok} : Runs σ ok (execRebuildRowDone half group row s) :=
  .next hs.rebuildRow

theorem Keeps.rebuildCmd (hs : Keeps σ s) {c p d} : Keeps σ (s.rebuildCmd c p d) := by
  unfold State.rebuildCmd
  extract_lets +onlyGivenNames h g a b
  refine .ite hs.refuse (.ite hs.refuseX ?_)
  split
  · exact hs.done
  · exact .ite hs.done hs.frame

theorem Keeps.execRebuild (hs : Keeps σ s) {fn sq d} {ok} : Runs σ ok (execRebuild fn sq d s) :=
  .next (hs.take (fun _ _ => hs.rebuildCmd))

theorem Keeps.execT2BufferWrite (hs : Keeps σ s) {half} {ok} : Runs σ ok (execT2BufferWrite half s) := .next hs.t2Write

theorem Keeps.shareAck (hs : Keeps σ s) {stripe stack} : Keeps σ (s.shareAck stripe stack) := by
  unfold State.shareAck
  extract_lets +onlyGivenNames h t n
  split
  · exact hs
  · exact .ite hs hs.setT2

theorem Keeps.execT2ShareAck (hs : Keeps σ s) {stripe stack} {ok} : Runs σ ok (execT2ShareAck stripe stack s) := .next hs.shareAck

theorem Keeps.rehome (hs : Keeps σ s) {k x} : Keeps σ (s.rehome k x) := by
  unfold State.rehome
  split
  · exact hs.updPage
  · exact hs.setTable.setRoot
  · exact hs.updGran
  · exact hs

theorem Keeps.t2Rewrite (hs : Keeps σ s) {h k} : Keeps σ (s.t2Rewrite h k) := .ite hs hs.t2Drop.t2Put.rehome

theorem Keeps.compact (hs : Keeps σ s) {h} : Keeps σ (s.compact h) := by
  unfold State.compact
  extract_lets +onlyGivenNames low
  refine .ite hs ?_
  extract_lets +onlyGivenNames _ s0 s1
  have hs1 : Keeps σ s1 := .ite hs.frame.raiseOnce hs.frame
  clear_value s1
  split
  · exact hs1
  · extract_lets +onlyGivenNames s2
    have hs2 : Keeps σ s2 := (hs1.foldl (fun _ _ hu => hu.t2Rewrite)).count
    clear_value s2
    exact .ite hs2.frame.unlatch hs2

theorem Keeps.execT2Compaction (hs : Keeps σ s) {half} {ok} : Runs σ ok (execT2Compaction half s) := .next hs.compact

theorem Keeps.flashLost (hs : Keeps σ s) {stack} : Keeps σ (s.flashLost stack) := .ite hs hs.frame.raise

theorem Keeps.execWearRead (hs : Keeps σ s) {stack cycles} : Runs σ (¬ (16 ≤ stack)) (execWearRead stack cycles s) := by
  unfold Machine.execWearRead
  split
  · exact .stop (not_not_intro ‹_›)
  · extract_lets +onlyGivenNames x at80 at100 y _ s1 s2
    have hs1 : Keeps σ s1 := hs.frame
    clear_value s1
    have hs2 : Keeps σ s2 := .ite hs1.raise hs1
    exact .next (.ite hs2.raise hs2)

theorem Keeps.policyDemote (hs : Keeps σ s) {i pass told} : Keeps σ (s.policyDemote i pass told).1 := by
  unfold State.policyDemote
  extract_lets +onlyGivenNames e l
  split
  · exact .fst (.ite hs hs.raise)
  · exact .fst hs.startDemotion

theorem Keeps.passSessions (hs : Keeps σ s) {hi l n told} : Keeps σ (s.passSessions hi l n told).1 := by
  induction l generalizing s n told with
  | nil => exact hs
  | cons i l ih => exact .ite_fst hs (ih hs.policyDemote)

theorem Keeps.passGrans (hs : Keeps σ s) {h hi l n told} : Keeps σ (s.passGrans h hi l n told) := by
  induction l generalizing s n told with
  | nil => exact hs
  | cons g l ih =>
    unfold State.passGrans
    refine .ite hs ?_
    split
    · exact ih (.ite hs hs.raise)
    · exact .ite (ih hs.startGranMove.frame) (ih hs.startGranMove)

theorem Keeps.passStart (hs : Keeps σ s) {h} : Keeps σ (s.passStart h) := .ite hs hs.passSessions.passGrans

theorem Keeps.execDemotionPassStart (hs : Keeps σ s) {half} {ok} : Runs σ ok (execDemotionPassStart half s) := .next hs.passStart

theorem Keeps.execIdleDemotion (hs : Keeps σ s) {idx} {ok} : Runs σ ok (execIdleDemotion idx s) := .next (.ite hs hs.policyDemote)

theorem Keeps.demotedPage (hs : Keeps σ s) {i pid} : Keeps σ (s.demotedPage i pid) := .ite hs.evacDurable hs.demoDurable

theorem Keeps.execDemotionPageDurable (hs : Keeps σ s) {idx pid t} {ok} : Runs σ ok (execDemotionPageDurable idx pid t s) :=
  .next hs.at.demotedPage

theorem Keeps.lowStripes (hs : Keeps σ s) {h} : Keeps σ (s.lowStripes h) := by
  unfold State.lowStripes
  extract_lets +onlyGivenNames n on
  refine .ite hs.unlatch ?_
  extract_lets +onlyGivenNames _ s0
  have hs0 : Keeps σ s0 := hs.frame
  clear_value s0
  split
  · exact hs0
  · extract_lets +onlyGivenNames e l tabs
    split
    · exact hs0
    · exact hs0.frame.demoPut

theorem Keeps.execT2LowStripesMove (hs : Keeps σ s) {half} {ok} : Runs σ ok (execT2LowStripesMove half s) := .next hs.lowStripes

theorem Keeps.poolReply (hs : Keeps σ s) {dst part op ext kib nkib st lease data} : Keeps σ
    (s.poolReply dst part op ext kib nkib st lease data) :=
  hs.sendMsg

theorem Keeps.freeLent (hs : Keeps σ s) {src ext} : Keeps σ (s.freeLent src ext) := hs.frame

theorem Keeps.poolGrantReq (hs : Keeps σ s) {src part hdr} : Keeps σ (s.poolGrantReq src part hdr) := by
  unfold State.poolGrantReq
  extract_lets +onlyGivenNames ext n
  refine .ite hs.discard ?_
  split
  · exact hs.poolReply
  · exact .ite hs.poolReply hs.frame.poolReply

theorem Keeps.execPoolGrantReq (hs : Keeps σ s) {src part hdr} {ok} : Runs σ ok (execPoolGrantReq src part hdr s) :=
  .next hs.poolGrantReq

theorem Keeps.poolRenew (hs : Keeps σ s) {src part hdr} : Keeps σ (s.poolRenew src part hdr) := by
  unfold State.poolRenew
  extract_lets +onlyGivenNames ext
  refine .ite hs.discard ?_
  split
  · exact hs.poolReply
  · exact hs.frame.poolReply

theorem Keeps.execPoolRenew (hs : Keeps σ s) {src part hdr} {ok} : Runs σ ok (execPoolRenew src part hdr s) := .next hs.poolRenew

theorem Keeps.poolAnswered (hs : Keeps σ s) {holder ext ops kib} : Keeps σ (s.poolAnswered holder ext ops kib) := hs.frame

theorem Keeps.borrowLapse (hs : Keeps σ s) {holder ext} : Keeps σ (s.borrowLapse holder ext) := by
  unfold State.borrowLapse
  split
  · exact hs
  · exact .ite hs.frame hs.frame.lapseEvent

theorem Keeps.poolGrant (hs : Keeps σ s) {src part hdr} : Keeps σ (s.poolGrant src part hdr) := by
  unfold State.poolGrant
  extract_lets +onlyGivenNames ext
  refine .ite hs.discard ?_
  extract_lets +onlyGivenNames asked s1
  have hs1 : Keeps σ s1 := hs.poolAnswered
  clear_value s1
  exact .ite (.ite hs1 hs1.borrowLapse) (.ite hs1.frame.unlatch hs1)

theorem Keeps.execPoolGrant (hs : Keeps σ s) {src part hdr} {ok} : Runs σ ok (execPoolGrant src part hdr s) := .next hs.poolGrant

theorem Keeps.poolWrite (hs : Keeps σ s) {src part hdr data poison} : Keeps σ (s.poolWrite src part hdr data poison) := by
  unfold State.poolWrite
  extract_lets +onlyGivenNames ext kib n
  refine .ite hs.discard ?_
  split
  · exact hs.poolReply
  · refine .ite hs.poolReply ?_
    extract_lets +onlyGivenNames h r
    have hr : Keeps σ r.1 := hs.t2Drop.t2Drop.t2Put
    clear_value r
    exact .ite hs.poolReply (hr.frame).poolReply

theorem Keeps.execPoolWrite (hs : Keeps σ s) {src part hdr data crc} {ok} : Runs σ ok (execPoolWrite src part hdr data crc s) :=
  .next (.ite hs.discard hs.poolWrite)

theorem Keeps.poolRead (hs : Keeps σ s) {src part hdr} : Keeps σ (s.poolRead src part hdr) := by
  unfold State.poolRead
  extract_lets +onlyGivenNames ext kib n
  refine .ite hs.discard ?_
  split
  · exact hs.poolReply
  · exact .ite hs.poolReply (.ite hs.poolReply hs.poolReply)

theorem Keeps.execPoolRead (hs : Keeps σ s) {src part hdr} {ok} : Runs σ ok (execPoolRead src part hdr s) := .next hs.poolRead

theorem Keeps.execPoolData (hs : Keeps σ s) {src _part hdr data crc} {ok} : Runs σ ok (execPoolData src _part hdr data crc s) :=
  .next (.ite hs.discard (.ite hs.poolAnswered.borrowLapse hs.poolAnswered))

theorem Keeps.execPoolAck (hs : Keeps σ s) {src _part hdr} {ok} : Runs σ ok (execPoolAck src _part hdr s) :=
  .next (.ite hs.discard (.ite hs.poolAnswered.borrowLapse hs.poolAnswered))

theorem Keeps.execPoolFree (hs : Keeps σ s) {src part hdr} {ok} : Runs σ ok (execPoolFree src part hdr s) :=
  .next (.ite hs.discard ((Keeps.ite hs.freeLent hs).poolReply))

theorem Keeps.execPoolRetryTimer (hs : Keeps σ s) {seq late} {ok} : Runs σ ok (execPoolRetryTimer seq late s) := by
  unfold Machine.execPoolRetryTimer
  refine .next ?_
  split
  · exact hs
  · exact .ite hs.frame.borrowLapse hs.sendMsg

theorem Keeps.execPoolLeaseRenewal (hs : Keeps σ s) {part holder ext} {ok} : Runs σ ok (execPoolLeaseRenewal part holder ext s) := by
  unfold Machine.execPoolLeaseRenewal
  refine .next ?_
  split
  · exact hs
  · exact .ite hs hs.poolAsk

end Sys2Proof.Machine
end

section
/-! What the operations of Machine/Slots leave follows the state that they are given. -/

namespace Sys2Proof.Machine
set_option Elab.async false

variable {σ s t u : State}

theorem Keeps.relatch (hs : Keeps σ s) {p} : Keeps σ (s.relatch p) := by
  unfold State.relatch
  extract_lets +onlyGivenNames f s1 g
  have hs1 : Keeps σ s1 := .ite ((Keeps.ite ((Keeps.ite hs.unlatch hs).unlatch) (.ite hs.unlatch hs)).unlatch) (.ite
      ((Keeps.ite hs.unlatch hs).unlatch) (.ite hs.unlatch hs))
  clear_value s1
  exact .ite ((Keeps.ite hs1.unlatch hs1).unlatch) (.ite hs1.unlatch hs1)

theorem Keeps.quotaReached (hs : Keeps σ s) {p sub h} : Keeps σ (s.quotaReached p sub h) := hs.raiseOnce

/-- The state that a refusal of a slot comes with. -/
theorem Keeps.takeSlot (hs : Keeps σ s) {p h x} (hx : s.takeSlot p h = .error x) : Keeps σ x.1 := by
  unfold State.takeSlot at hx
  split at hx
  · exact Except.error.inj hx ▸ hs.quotaReached
  · split at hx
    · exact Except.error.inj hx ▸ hs.raiseOnce
    · cases hx

end Sys2Proof.Machine
end

section
/-! What the operations of Machine/OwnCore leave follows the state that they are given. -/

namespace Sys2Proof.Machine
set_option Elab.async false

variable {σ s t u : State}

theorem Keeps.sendOwn (hs : Keeps σ s) {dst p m} : Keeps σ (s.sendOwn dst p m) := hs.sendMsg

theorem Keeps.writeRec (hs : Keeps σ s) {i f} : Keeps σ (s.writeRec i f) := hs.updEnt

theorem Keeps.note (hs : Keeps σ s) {i dst} : Keeps σ (s.note i dst) := .ite hs hs.sendOwn

theorem Keeps.notes (hs : Keeps σ s) {i prev tgt} : Keeps σ (s.notes i prev tgt) := .ite hs.note hs.note.note

theorem Keeps.leaseEnds (hs : Keeps σ s) {i} : Keeps σ (s.leaseEnds i) :=
  .ite hs (.ite hs (.ite (.ite hs hs.writeRec.notes.count.raise) (.ite hs hs.frame.raise)))

theorem Keeps.scanRec (hs : Keeps σ s) {i} : Keeps σ (s.scanRec i) := .ite hs.updEnt hs.leaseEnds

theorem Keeps.setRecHalf (hs : Keeps σ s) {i h} : Keeps σ (s.setRecHalf i h) := by
  unfold State.setRecHalf
  split
  · exact .ite hs.frame hs.updEnt
  · exact hs.updEnt

theorem Keeps.setRemote (hs : Keeps σ s) {i owner h} : Keeps σ (s.setRemote i owner h) := hs.frame

theorem Keeps.unlapse (hs : Keeps σ s) {i} : Keeps σ (s.unlapse i) := hs.frame

theorem Keeps.recalled (hs : Keeps σ s) {i} : Keeps σ (s.recalled i) := hs.count.raise

theorem Keeps.homeDoes {s0 : State} (hs0 : Keeps σ s0) {i src sp m} : Keeps σ (s0.homeDoes i src sp m).1 := by
  unfold State.homeDoes
  extract_lets +onlyGivenNames s e now match_ lapsed
  refine .ite_fst ?_ ?_
  · exact .fst hs0.leaseEnds
  · refine .ite_fst ?_ ?_
    · refine .ite_fst ?_ ?_
      · exact .fst hs0.leaseEnds.updEnt.setRecHalf.setRemote
      · refine .ite_fst ?_ ?_
        · exact .fst hs0.leaseEnds
        · refine .ite_fst ?_ ?_
          · exact .fst hs0.leaseEnds.updEnt
          · refine .ite_fst ?_ ?_
            · exact .fst hs0.leaseEnds
            · exact .fst hs0.leaseEnds
    · refine .ite_fst ?_ ?_
      · split
        · refine .ite_fst ?_ ?_
          · exact .fst hs0.leaseEnds.updEnt
          · exact .fst hs0.leaseEnds
        · refine .ite_fst ?_ ?_
          · refine .ite_fst ?_ ?_
            · exact .fst hs0.leaseEnds
            · exact .fst hs0.leaseEnds.writeRec.setRecHalf.unlapse.setRemote.notes
          · exact .fst hs0.leaseEnds
        · refine .ite_fst ?_ ?_
          · refine .ite_fst ?_ ?_
            · exact .fst hs0.leaseEnds
            · exact .fst hs0.leaseEnds.writeRec.notes.recalled
          · exact .fst hs0.leaseEnds
        · exact .fst hs0.leaseEnds
        · exact .fst hs0.leaseEnds
      · split
        · refine .ite_fst ?_ ?_
          · exact .fst hs0.leaseEnds.updEnt.unlapse
          · exact .fst hs0.leaseEnds
        · refine .ite_fst ?_ ?_
          · refine .ite_fst ?_ ?_
            · exact .fst hs0.leaseEnds
            · exact .fst hs0.leaseEnds.writeRec.unlapse
          · exact .fst hs0.leaseEnds
        · refine .ite_fst ?_ ?_
          · exact .fst hs0.leaseEnds
          · exact .fst hs0.leaseEnds
        · refine .ite_fst ?_ ?_
          · exact .fst hs0.leaseEnds
          · refine .ite_fst ?_ ?_
            · refine .ite_fst ?_ ?_
              · exact .fst hs0.leaseEnds
              · exact .fst hs0.leaseEnds.writeRec.setRecHalf.unlapse.setRemote.notes.count
            · exact .fst hs0.leaseEnds
        · refine .ite_fst ?_ ?_
          · refine .ite_fst ?_ ?_
            · exact .fst hs0.leaseEnds
            · exact .fst hs0.leaseEnds.writeRec.unlapse
          · exact .fst hs0.leaseEnds
        · exact .fst hs0.leaseEnds

theorem Keeps.ownAsk (hs : Keeps σ s) {i peer p m cmd goal} : Keeps σ (s.ownAsk i peer p m cmd goal) := by
  unfold State.ownAsk
  extract_lets +onlyGivenNames m1 waits s1
  have hs1 : Keeps σ s1 := .ite hs hs.sendOwn
  clear_value s1
  exact hs1.frame

theorem Keeps.sendMove (hs : Keeps σ s) {dst p hdr data} : Keeps σ (s.sendMove dst p hdr data) := hs.sendMsg

theorem Keeps.sendFields (hs : Keeps σ s) {i m} : Keeps σ (s.sendFields i m) := hs.sendMove

theorem Keeps.refields (hs : Keeps σ s) {i} : Keeps σ (s.refields i) := by
  unfold State.refields
  split
  · exact .ite hs.sendFields hs
  · exact hs

/-- A reservation follows `σ`, be it refused or made. -/
theorem Keeps.reserveHalf (hs : Keeps σ s) {i h} :
    (∀ u, s.reserveHalf i h = .error u → Keeps σ u) ∧ ∀ x, s.reserveHalf i h = .ok x → Keeps σ x.1 := by
  unfold State.reserveHalf
  extract_lets +onlyGivenNames e kib
  split
  · exact ⟨fun _ hu => Except.error.inj hu ▸ hs, fun _ hx => nomatch hx⟩
  · extract_lets +onlyGivenNames _ s1
    have hs1 : Keeps σ s1 := hs.frame
    clear_value s1
    split
    · split
      · exact ⟨fun _ hu => Except.error.inj hu ▸ hs.takeSlot ‹_›, fun _ hx => nomatch hx⟩
      · exact ⟨fun _ hu => (nomatch hu), fun _ hx => Except.ok.inj hx ▸ hs1⟩
    · exact ⟨fun _ hu => (nomatch hu), fun _ hx => Except.ok.inj hx ▸ hs1⟩

theorem Keeps.enterMoving (hs : Keeps σ s) {i m} : Keeps σ (s.enterMoving i m) := by
  unfold State.enterMoving
  extract_lets +onlyGivenNames s1
  have hs1 : Keeps σ s1 := hs.stopDemotion.dropDev.toState.stopTtl
  clear_value s1
  exact hs1.frame

theorem Keeps.noMove (hs : Keeps σ s) {i c st dt aux} : Keeps σ (s.noMove i c st dt aux) := hs.frame.countRefusal.doneSess

theorem Keeps.startMove (hs : Keeps σ s) {i m} : Keeps σ (s.startMove i m) := by
  unfold State.startMove
  refine .ite hs.frame ?_
  extract_lets +onlyGivenNames e tgt th m1 rq
  refine .ite hs.enterMoving.ownAsk ?_
  extract_lets +onlyGivenNames r
  have hr : Keeps σ r.1 := hs.homeDoes
  clear_value r
  refine .ite hr.noMove (.ite hr.noMove (.ite ?_ hr.enterMoving.sendFields))
  split
  · exact (hr.reserveHalf.1 _ ‹_›).homeDoes.noMove
  · exact (hr.reserveHalf.2 _ ‹_›).enterMoving

theorem Keeps.startWaitingMove (hs : Keeps σ s) {i} : Keeps σ (s.startWaitingMove i) := by
  unfold State.startWaitingMove
  split
  · exact .ite hs hs.startMove
  · exact hs

end Sys2Proof.Machine
end

section
/-! What the operations of Machine/SessOps leave follows the state that they are given. -/

namespace Sys2Proof.Machine
set_option Elab.async false

variable {σ s t u : State}

theorem Keeps.takeSessC (hs : Keeps σ s) {k : Cmd → Nat → Nat → State} (hk : ∀ a b c, Keeps σ
    (k a b c)) {op fn sq d lc any remote bad hold} : Keeps σ (s.takeSessC op fn sq d lc any remote bad hold k) := by
  unfold State.takeSessC
  refine hs.take (fun _ _ => ?_)
  extract_lets +onlyGivenNames i
  refine .ite hs.refuse (.ite hs.refuse ?_)
  split
  · exact (Keeps.ite hs.count hs).refuseA
  · exact .ite hs.refuse (.ite hs.refuse (.ite hs.refuse (hk _ _ _)))

theorem Keeps.busy (hs : Keeps σ s) {c} : Keeps σ (s.busy c) := hs.refuse

theorem Keeps.crossing (hs : Keeps σ s) {src dst fail} : Keeps σ (s.crossing src dst fail).1 := by
  unfold State.crossing
  refine .ite_fst ?_ ?_
  · exact .fst hs
  · extract_lets +onlyGivenNames s1
    refine .ite_fst ?_ ?_
    · exact .fst hs.count.raise
    · exact .fst hs.count

theorem Keeps.poisonPage (hs : Keeps σ s) {pid} : Keeps σ (s.poisonPage pid) := hs.updPage

theorem Keeps.blockLost (hs : Keeps σ s) {m} : Keeps σ (s.blockLost m) := by
  unfold State.blockLost
  cases m with
  | entry i => exact hs.updEnt
  | table i pages => exact hs.foldl (fun _ _ hu => hu.poisonPage)
  | share rid => exact hs.getD_map (fun _ => hs.poisonPage)
  | link i => exact hs.updEnt
  | band k => exact hs.updRow

theorem Keeps.mirrorRead (hs : Keeps σ s) {h m loc fail} : Keeps σ (s.mirrorRead h m loc fail) :=
  .ite hs (.ite hs.count.raise hs.count.raise.blockLost)

theorem Keeps.entryRead (hs : Keeps σ s) {i} : Keeps σ (s.entryRead i) := .ite hs.mirrorRead.updEnt hs

theorem Keeps.leaveParent (hs : Keeps σ s) {i} : Keeps σ (s.leaveParent i) := .ite hs.frame.updEnt hs.frame

theorem Keeps.dropAll (hs : Keeps σ s) {i} : Keeps σ (s.dropAll i) :=
  ((Keeps.ite hs hs.dropLow).dropNextTables.dropSession (fun _ _ _ hu => hu.dropPageLow)).evacTidy

theorem Keeps.closeEntry (hs : Keeps σ s) {i lx tell} : Keeps σ (s.closeEntry i lx tell) := by
  unfold State.closeEntry
  extract_lets +onlyGivenNames e s0 s1 s2 _ _ s3
  have hs0 : Keeps σ s0 := by
    unfold s0
    split
    · exact .ite hs.ownAsk hs
    · exact hs
  clear_value s0
  have hs2 : Keeps σ s2 := hs0.stopDemotion.dropDev.dropAll.leaveParent.toState.updEnt
  clear_value s2
  exact hs2.frame.unlapse.relatch

theorem Keeps.freeEntry (hs : Keeps σ s) {i} : Keeps σ (s.freeEntry i) := .ite hs (.ite hs.frame.setEnt.raise hs.frame.setEnt)

theorem Keeps.execEntryFree (hs : Keeps σ s) {idx} {ok} : Runs σ ok (execEntryFree idx s) := .next hs.freeEntry

end Sys2Proof.Machine
end

section
/-! What the operations of Machine/Requests leave follows the state that they are given. -/

namespace Sys2Proof.Machine
set_option Elab.async false

variable {σ s t u : State}

theorem Keeps.relayRec (hs : Keeps σ s) {i to_ r x} : Keeps σ (s.relayRec i to_ r x) := by
  unfold State.relayRec
  extract_lets +onlyGivenNames n s1
  have hs1 : Keeps σ s1 := hs.sendMove
  clear_value s1
  exact hs1.frame

theorem Keeps.postOut (hs : Keeps σ s) {r o} : Keeps σ (s.postOut r o) := by
  unfold State.postOut
  split
  · exact hs.relayRec
  · exact .ite hs.post hs

theorem Keeps.postReq (hs : Keeps σ s) {r x} : Keeps σ (s.postReq r x) := by
  unfold State.postReq
  split
  · exact hs.relayRec
  · exact hs.send

theorem Keeps.putReq (hs : Keeps σ s) {k r} : Keeps σ (s.putReq k r) := hs.frame

theorem Keeps.updReq (hs : Keeps σ s) {k f} : Keeps σ (s.updReq k f) := hs.frame

theorem Keeps.outFixes (hs : Keeps σ s) {k n} : Keeps σ (s.outFixes k n) := by
  unfold State.outFixes
  refine .ite hs ?_
  extract_lets +onlyGivenNames s1
  split
  · exact hs.count
  · exact .ite hs.count hs.count.updReq.raise

theorem Keeps.putText (hs : Keeps σ s) {k id b n fin} : Keeps σ (s.putText k id b n fin) := by
  unfold State.putText
  split
  · exact hs
  · exact (Keeps.ite hs.count.count hs).putReq.outFixes.foldl (fun _ _ hu => hu.postOut)

theorem Keeps.flushText (hs : Keeps σ s) {k} : Keeps σ (s.flushText k) := by
  unfold State.flushText
  split
  · exact hs
  · exact .ite hs.putReq (hs.putReq.outFixes.foldl (fun _ _ hu => hu.postOut))

theorem Keeps.noBuffer (hs : Keeps σ s) {p h func} : Keeps σ (s.noBuffer p h func) := hs.raiseOnce

theorem Keeps.newExch (hs : Keeps σ s) {func part half slot handle seq n kc payload ref} : Keeps σ
    (s.newExch func part half slot handle seq n kc payload ref).1 :=
  .fst (.ite hs.frame hs.frame.noBuffer)

theorem Keeps.writeExch (hs : Keeps σ s) {x l} : Keeps σ (s.writeExch x l) := by
  induction l generalizing s with
  | nil => exact hs.noBuffer
  | cons b l ih =>
    unfold State.writeExch
    refine .ite (ih hs) ?_
    extract_lets +onlyGivenNames _ s1 need
    have hs1 : Keeps σ s1 := hs.frame
    clear_value s1
    refine .ite (ih hs1.send) ?_
    extract_lets +onlyGivenNames _ y s2 s3 exs
    have hs3 : Keeps σ s3 := hs1.dmaTo.send.count.count.count
    clear_value s3
    exact hs3.frame

theorem Keeps.execAssistExchange (hs : Keeps σ s) {xid} {ok} : Runs σ ok (execAssistExchange xid s) := by
  unfold Machine.execAssistExchange
  refine .next ?_
  split
  · exact hs
  · exact hs.writeExch

theorem Keeps.endExchs (hs : Keeps σ s) {k funcs} : Keeps σ (s.endExchs k funcs) := hs.frame

theorem Keeps.assistPostCmd (hs : Keeps σ s) {c p d} : Keeps σ (s.assistPostCmd c p d) := .ite hs.refuse hs.frame.unlatch

theorem Keeps.execAssistPost (hs : Keeps σ s) {fn sq d} {ok} : Runs σ ok (execAssistPost fn sq d s) :=
  .next (hs.take (fun _ _ => hs.assistPostCmd))

theorem Keeps.detokDrain (hs : Keeps σ s) {k all n} : Keeps σ (s.detokDrain k all n) := by
  induction n generalizing s with
  | zero => exact hs
  | succ n ih =>
    unfold State.detokDrain
    split
    · exact hs
    · split
      · exact hs
      · split
        · exact .ite (ih hs.updReq.putText) hs
        · exact ih hs.updReq.putText

theorem Keeps.afterEnd (hs : Keeps σ s) {i} : Keeps σ (s.afterEnd i) := by
  unfold State.afterEnd
  extract_lets +onlyGivenNames e
  refine .ite hs (.ite ?_ hs.updEnt.toState.startWaitingMove)
  extract_lets +onlyGivenNames cs s1 s2
  have hs1 : Keeps σ s1 := by
    unfold s1
    split
    · exact hs.doneSess
    · exact hs
  clear_value s1
  exact hs1.closeEntry.count.foldl (fun _ _ hu => hu.doneSess)

theorem Keeps.endReq (hs : Keeps σ s) {k st dt aux} : Keeps σ (s.endReq k st dt aux) := by
  unfold State.endReq
  split
  · exact hs
  · extract_lets +onlyGivenNames s1 r e s2 s3 s4 _ s5 s6
    have hs1 : Keeps σ s1 := hs.detokDrain.flushText
    clear_value s1
    have hs4 : Keeps σ s4 := (Keeps.ite hs1.postReq.count hs1.postReq).subCharge.endExchs
    clear_value s4
    exact (Keeps.ite hs4.frame.refields hs4.frame.updEnt).afterEnd.relatch

theorem Keeps.endReqTok (hs : Keeps σ s) {k id seq st dt} : Keeps σ (s.endReqTok k id seq st dt) := by
  unfold State.endReqTok
  split
  · exact hs
  · exact .ite hs.newExch.updReq.endReq hs.putText.endReq

theorem Keeps.textOut (hs : Keeps σ s) {k id seq} : Keeps σ (s.textOut k id seq) := by
  unfold State.textOut
  split
  · exact hs
  · exact .ite hs.newExch.updReq hs.putText

theorem Keeps.promptReady {s0 : State} (hs0 : Keeps σ s0) {k} : Keeps σ (s0.promptReady k) := by
  unfold State.promptReady
  split
  · exact hs0
  · extract_lets +onlyGivenNames s e prompt n kib maxCtx
    refine .ite hs0.count.endReq ?_
    split
    · exact hs0.count.endReq
    · exact hs0.count.addCharge.updReq.postOut

theorem Keeps.takeInput (hs : Keeps σ s) {k addr len b last} : Keeps σ (s.takeInput k addr len b last) := by
  unfold State.takeInput
  split
  · exact hs
  · refine .ite (.ite hs.updReq.promptReady (.ite hs.updReq.endReq hs.updReq)) (.ite (.ite hs.updReq.newExch hs.updReq) ?_)
    split
    · exact hs
    · extract_lets +onlyGivenNames q s0 s1
      have hs0 : Keeps σ s0 := hs.putReq.countUnits.count
      clear_value s0
      have hs1 : Keeps σ s1 := .ite hs0.raise hs0
      clear_value s1
      exact .ite hs1.promptReady hs1

theorem Keeps.textMoreCmd (hs : Keeps σ s) {c i d input} : Keeps σ (s.textMoreCmd c i d input) := by
  unfold State.textMoreCmd
  extract_lets +onlyGivenNames len more
  split
  · exact hs.refuse
  · extract_lets +onlyGivenNames hostWait
    refine .ite hs.refuse (.ite hs.refuse ?_)
    split
    · exact hs.refuse
    · exact hs.doneSess.takeInput

theorem Keeps.execTextMore (hs : Keeps σ s) {fn sq d input} {ok} : Runs σ ok (execTextMore fn sq d input s) := by
  unfold Machine.execTextMore
  extract_lets +onlyGivenNames len s1
  refine .next (hs.dmaFrom.takeSessC (fun _ _ _ => ?_))
  split
  · exact hs.dmaFrom.refuse
  · exact hs.dmaFrom.textMoreCmd

theorem Keeps.textTable (hs : Keeps σ s) {o kind id v} : KeepsOk σ (s.textTable o kind id v) := by
  unfold State.textTable
  extract_lets +onlyGivenNames idx w old
  refine .ite .error (.ite .error (.ite .error (.ite (.ok (.ite hs.dset hs.dset.dset)) ?_)))
  split
  · exact .error
  · exact .ok (.ite hs.dset hs.dset.dset)

theorem Keeps.textTableRow (hs : Keeps σ s) {o kind id v} : Keeps σ (s.textTableRow o kind id v) :=
  (Keeps.ite hs.count.raise hs).writeRow (fun _ hu => hu.textTable)

theorem Keeps.execTextTableWrite (hs : Keeps σ s) {o kind id v} {ok} : Runs σ ok (execTextTableWrite o kind id v s) :=
  .next hs.textTableRow

end Sys2Proof.Machine
end

section
/-! What the operations of Machine/Developer leave follows the state that they are given. -/

namespace Sys2Proof.Machine
set_option Elab.async false

variable {σ s t u : State}

theorem Keeps.dropLower (hs : Keeps σ s) {i} : Keeps σ (s.dropLower i) := by
  unfold State.dropLower
  extract_lets +onlyGivenNames s1 t
  have hs1 : Keeps σ s1 := by
    unfold s1
    refine hs.foldl (fun _ _ hu => ?_)
    split
    · exact hu
    · split
      · exact hu
      · exact .ite hu.dropLow.updPage hu
  clear_value s1
  exact (Keeps.ite hs1.dropLow.setTable hs1).evacTidy

theorem Keeps.dropCopies (hs : Keeps σ s) {i} : Keeps σ (s.dropCopies i) := by
  unfold State.dropCopies
  extract_lets +onlyGivenNames s1 t
  have hs1 : Keeps σ s1 := by
    unfold s1
    refine hs.foldl (fun _ _ hu => ?_)
    split
    · exact hu
    · split
      · exact hu
      · exact .ite hu (.ite hu.negCopy.scrubT1.scrubT1.subCharge.updPage hu.dropLow.updPage)
  clear_value s1
  exact .ite hs1 hs1.scrubBlocks.subCharge.setTable.setRoot

theorem Keeps.endRevives (hs : Keeps σ s) {i st aux} : Keeps σ (s.endRevives i st aux) := by
  unfold State.endRevives
  split
  · exact hs
  · exact hs.frame.foldl (fun _ _ hu => hu.doneSess)

theorem Keeps.developed (hs : Keeps σ s) {i} : Keeps σ (s.developed i) := by
  unfold State.developed
  split
  · exact hs.setRes
  · extract_lets +onlyGivenNames d1 _ s0 n s1 _ s2
    have hs0 : Keeps σ s0 := hs.frame.setRes
    clear_value s0
    have hs2 : Keeps σ s2 := .ite hs0.count.dropLower.toState.endRevives (.ite hs0.count hs0.count.dropLower)
    clear_value s2
    exact .ite hs2.dropDev hs2

theorem Keeps.startDev (hs : Keeps σ s) {i kib w revives} : Keeps σ (s.startDev i kib w revives) := by
  unfold State.startDev
  extract_lets +onlyGivenNames s1
  have hs1 : Keeps σ s1 := hs.stopDemotion.toState.stopTtl.count
  clear_value s1
  exact hs1.frame.developed

theorem Keeps.startDevOpen (hs : Keeps σ s) {i kib} : Keeps σ (s.startDevOpen i kib) := hs.frame.developed

theorem Keeps.endAttached (hs : Keeps σ s) {i st dt} : Keeps σ (s.endAttached i st dt) := .ite hs.endReq hs

theorem Keeps.backToParked (hs : Keeps σ s) {i st} : Keeps σ (s.backToParked i st) :=
  hs.endAttached.endRevives.dropDev.dropCopies.toState.startTtl.setRes

theorem Keeps.unobtainable (hs : Keeps σ s) {i st} : Keeps σ (s.unobtainable i st) := .ite hs.backToParked hs

theorem Keeps.placePage (hs : Keeps σ s) {i l pidx pid p poison} : Keeps σ (s.placePage i l pidx pid p poison) := by
  unfold State.placePage
  extract_lets +onlyGivenNames h k st _ r
  have hr : Keeps σ r.1 := by
    unfold r
    refine .ite_fst ?_ ?_
    · exact hs.allocPair
    · exact .fst hs.allocT1.addMember
  clear_value r
  refine .ite hs ?_
  extract_lets +onlyGivenNames s1 s2
  have hs2 : Keeps σ s2 := hr.negCopy.updPage.addCharge
  clear_value s2
  exact hs2.frame

theorem Keeps.sharersDeveloped (hs : Keeps σ s) {i pid} : Keeps σ (s.sharersDeveloped i pid) :=
  hs.foldl (fun _ _ hu => hu.developed)

theorem Keeps.tablesFetched (hs : Keeps σ s) {i reachable chk} : Keeps σ (s.tablesFetched i reachable chk) := by
  unfold State.tablesFetched
  extract_lets +onlyGivenNames t e
  split
  · exact hs
  · exact .ite hs (.ite hs.lapseEvent.unobtainable (.ite hs.count.raise.unobtainable hs.raiseTables.developed))

theorem Keeps.pageFetched (hs : Keeps σ s) {i pid reachable chk} : Keeps σ (s.pageFetched i pid reachable chk) := by
  unfold State.pageFetched
  refine .ite hs.tablesFetched ?_
  split
  · split
    · exact hs
    · exact .ite hs (.ite hs (.ite hs.lapseEvent.unobtainable (.ite ((Keeps.ite hs.updPage hs.updPage.count.raise.raise).unobtainable)
          hs.placePage.count.countUnits.countUnits.developed.sharersDeveloped)))
  · exact hs

theorem Keeps.execDeveloperPageFetched (hs : Keeps σ s) {idx pid reachable chk} {ok} : Runs σ ok
    (execDeveloperPageFetched idx pid reachable chk s) :=
  .next hs.pageFetched

theorem Keeps.lapsedDevs (hs : Keeps σ s) : Keeps σ s.lapsedDevs := hs.foldl (fun _ _ hu => .ite hu.unobtainable hu)

theorem Keeps.lapseExtent (hs : Keeps σ s) {p id} : Keeps σ (s.lapseExtent p id) := by
  unfold State.lapseExtent
  split
  · exact hs
  · exact (Keeps.ite hs.frame hs.frame.lapseEvent).lapsedDevs

end Sys2Proof.Machine
end

section
/-! What the operations of Machine/Cores leave follows the state that they are given. -/

namespace Sys2Proof.Machine
set_option Elab.async false

variable {σ s t u : State}

theorem Keeps.setCore (hs : Keeps σ s) {c x} : Keeps σ (s.setCore c x) := hs.frame

theorem Keeps.setQueue (hs : Keeps σ s) {h p cls l} : Keeps σ (s.setQueue h p cls l) := hs.frame

theorem Keeps.withdraw (hs : Keeps σ s) {h lane slot} : Keeps σ (s.withdraw h lane slot) := hs.frame

theorem Keeps.startWork (hs : Keeps σ s) {c p t w renew} : Keeps σ (s.startWork c p t w renew) := by
  unfold State.startWork
  extract_lets +onlyGivenNames x shared change fresh away s1 s2
  have hs2 : Keeps σ s2 := .ite hs.setCore.count hs.setCore
  clear_value s2
  split
  · exact hs2.count
  · exact hs2.count
  · exact hs2

theorem Keeps.noteSplit (hs : Keeps σ s) {w x} : Keeps σ (s.noteSplit w x) := by
  unfold State.noteSplit
  split
  · exact hs.frame
  · exact hs

theorem Keeps.placeWork (hs : Keeps σ s) {h p cls t w cores} : Keeps σ (s.placeWork h p cls t w cores) := by
  unfold State.placeWork
  split
  · exact hs.startWork.noteSplit
  · exact hs.setQueue.noteSplit

theorem Keeps.nextWork (hs : Keeps σ s) {c t} : Keeps σ (s.nextWork c t) := by
  unfold State.nextWork
  extract_lets +onlyGivenNames x s0
  split
  · exact hs.setCore.setQueue.startWork.noteSplit
  · exact hs.setCore.setCore

theorem Keeps.kick (hs : Keeps σ s) {h t} : Keeps σ (s.kick h t) := hs.foldl (fun _ _ hu => .ite hu.nextWork hu)

theorem Keeps.coreFault (hs : Keeps σ s) {c} : Keeps σ (s.coreFault c) := .ite hs.frame.raise hs.frame

theorem Keeps.countCore (hs : Keeps σ s) {kind c} : Keeps σ (s.countCore kind c) := hs.count

end Sys2Proof.Machine
end

section
/-! What the operations of Machine/Embedding leave follows the state that they are given. -/

namespace Sys2Proof.Machine
set_option Elab.async false

variable {σ s t u : State}

theorem Keeps.copyRow (hs : Keeps σ s) {src dst n} : Keeps σ (s.copyRow src dst n) :=
  .ite (hs.devWrite.foldl (fun _ _ hu => hu.poisonBlock)) hs.devWrite

theorem Keeps.updEmb (hs : Keeps σ s) {t f} : Keeps σ (s.updEmb t f) := hs.frame

theorem Keeps.setTag (hs : Keeps σ s) {t k g} : Keeps σ (s.setTag t k g) := hs.updEmb

theorem Keeps.clearTag (hs : Keeps σ s) {t k} : Keeps σ (s.clearTag t k) := hs.updEmb

theorem Keeps.startFill (hs : Keeps σ s) {t i forced} : Keeps σ (s.startFill t i forced) := by
  unfold State.startFill
  extract_lets +onlyGivenNames coming
  refine .ite hs ?_
  split
  · exact hs
  · exact hs.setTag.count
  · exact hs.setTag.count

theorem Keeps.applyAt (hs : Keeps σ s) {u a} : Keeps σ (s.applyAt u a) :=
  .ite hs.access.devWrite.count ((hs.access.devWrite.foldl (fun _ _ hu => hu.poisonBlock)).count.count)

theorem Keeps.holdUpd (hs : Keeps σ s) {u} : KeepsIn σ (s.holdUpd u) := .ite .none (.some hs.frame)

theorem Keeps.embUpd (hs : Keeps σ s) {u} : KeepsIn σ (s.embUpd u) := by
  unfold State.embUpd
  split
  · exact .ite (.some hs.applyAt.setTag) hs.holdUpd
  · exact .ite (.some hs.applyAt) (.map hs.holdUpd fun _ hu => hu.startFill)

theorem Keeps.sideFull (hs : Keeps σ s) {t port} : Keeps σ (s.sideFull t port) := .ite hs hs.frame.raise

theorem Keeps.sideFree (hs : Keeps σ s) {ports} : Keeps σ (s.sideFree ports) := hs.frame

theorem Keeps.dropHeld (hs : Keeps σ s) {t i} : Keeps σ (s.dropHeld t i) := .ite hs hs.frame.sideFree

theorem Keeps.retryHeld (hs : Keeps σ s) {t} : Keeps σ (s.retryHeld t) := hs.foldl (fun _ _ hu => .ite hu hu.startFill)

theorem Keeps.fillSwitch (hs : Keeps σ s) {t i} : Keeps σ (s.fillSwitch t i) := by
  unfold State.fillSwitch
  split
  · exact hs
  · exact .ite hs (.ite hs (.ite ((hs.uncorrectable.clearTag.dropHeld.foldl (fun _ _ hu => hu.getD hu.embUpd)).retryHeld)
        ((hs.copyRow.dropHeld.setTag.foldl (fun _ _ hu => hu.applyAt)).retryHeld)))

theorem Keeps.execFillSwitch (hs : Keeps σ s) {table row} {ok} : Runs σ ok (execFillSwitch table row s) := .next hs.fillSwitch

theorem Keeps.evictionSwitch (hs : Keeps σ s) {t i} : Keeps σ (s.evictionSwitch t i) := by
  unfold State.evictionSwitch
  split
  · exact hs
  · refine .ite hs ?_
    extract_lets +onlyGivenNames s1 s2 us s3
    have hs1 : Keeps σ s1 := .ite hs.copyRow.count hs
    clear_value s1
    have hs2 : Keeps σ s2 := by
      unfold s2
      split
      · exact hs1.setTag
      · exact hs1.clearTag
    clear_value s2
    have hs3 : Keeps σ s3 := .ite (hs2.dropHeld.foldl (fun _ _ hu => hu.applyAt)) hs2
    clear_value s3
    exact hs3.retryHeld

theorem Keeps.execEvictionSwitch (hs : Keeps σ s) {table row} {ok} : Runs σ ok (execEvictionSwitch table row s) :=
  .next hs.evictionSwitch

theorem Keeps.sketchHalving (hs : Keeps σ s) {h} : Keeps σ (s.sketchHalving h) := hs.frame

theorem Keeps.execSketchHalving (hs : Keeps σ s) {half} {ok} : Runs σ ok (execSketchHalving half s) := .next hs.sketchHalving

theorem Keeps.decodeRow (hs : Keeps σ s) {t i} : Keeps σ (s.decodeRow t i).1 := by
  unfold State.decodeRow
  extract_lets +onlyGivenNames n x s1
  have hs1 : Keeps σ s1 := hs.access.count
  clear_value s1
  exact .fst (.ite hs1.raiseOnce hs1)

theorem Keeps.gatherRow (hs : Keeps σ s) {t i} : Keeps σ (s.gatherRow t i).1 := by
  unfold State.gatherRow
  extract_lets +onlyGivenNames n x s1 s2
  have hx : Keeps σ x.1 := hs.updEmb.decodeRow
  clear_value x
  have hs2 : Keeps σ s2 := by
    unfold s2
    split
    · exact hx.count.count
    · exact .ite hx.count.startFill hx.count
  clear_value s2
  exact .fst hs2

theorem Keeps.gatherRows (hs : Keeps σ s) {t l k g} : Keeps σ (s.gatherRows t l k g).1 := by
  induction l generalizing s k g with
  | nil => exact hs
  | cons i l ih => exact ih hs.gatherRow

theorem Keeps.addAll (hs : Keeps σ s) {t df w b l u} (hu : s.addAll t df w b l = .inl u) : Keeps σ u := by
  induction l generalizing s with
  | nil => exact Sum.inl.inj hu ▸ hs
  | cons k l ih =>
    simp only [State.addAll] at hu
    split at hu
    · exact ih (hs.embUpd _ ‹_›) hu
    · cases hu

theorem Keeps.embAdd (hs : Keeps σ s) {t n df b} : Keeps σ (s.embAdd t n df b).1 := by
  unfold State.embAdd
  refine .ite_fst hs ?_
  split
  · exact hs
  · split
    · exact hs.addAll ‹_›
    · exact hs.sideFull

theorem Keeps.embSet (hs : Keeps σ s) {t n seq sender b} : Keeps σ (s.embSet t n seq sender b).1 := by
  unfold State.embSet
  extract_lets +onlyGivenNames w h
  split
  · exact .fst hs
  · extract_lets +onlyGivenNames buf cap
    refine .ite_fst ?_ ?_
    · exact .fst hs
    · exact .fst hs.frame

theorem Keeps.applySets (hs : Keeps σ s) {h l} : Keeps σ (s.applySets h l) := by
  unfold State.applySets
  refine hs.foldl (fun _ _ hu => ?_)
  extract_lets +onlyGivenNames u
  split
  · exact (hu.embUpd _ ‹_›).frame
  · exact hu

theorem Keeps.commitSets (hs : Keeps σ s) {h lane seq} : Keeps σ (s.commitSets h lane seq) := hs.applySets

theorem Keeps.embAnswer (hs : Keeps σ s) {dst part kind table tag n st first data poison} : Keeps σ
    (s.embAnswer dst part kind table tag n st first data poison) :=
  hs.sendMsg

theorem Keeps.embMsg (hs : Keeps σ s) {k : State → Nat → Nat → State} (hk : ∀ u b c, Keeps σ u → Keeps σ
    (k u b c)) {src part hdr data crc kind w msub} : Keeps σ (s.embMsg src part hdr data crc kind w msub k) :=
  .ite hs.count (.ite hs.embAnswer (.ite hs.embAnswer (hk _ _ _ hs)))

theorem Keeps.gatherMsg (hs : Keeps σ s) {src part hdr data crc} : Keeps σ (s.gatherMsg src part hdr data crc) := by
  unfold State.gatherMsg
  refine hs.embMsg (fun _ _ _ hu => ?_)
  extract_lets +onlyGivenNames tag idx
  refine .ite hu.embAnswer ?_
  split
  · exact hu.embAnswer
  · refine .ite hu.embAnswer (.ite hu.park ?_)
    extract_lets +onlyGivenNames r
    split
    · exact hu.gatherRows.embAnswer
    · exact hu.gatherRows.embAnswer
    · exact hu.gatherRows.embAnswer

theorem Keeps.execGather (hs : Keeps σ s) {src part hdr data crc} {ok} : Runs σ ok (execGather src part hdr data crc s) :=
  .next hs.gatherMsg

theorem Keeps.addMsg (hs : Keeps σ s) {src part hdr data crc} : Keeps σ (s.addMsg src part hdr data crc) := by
  unfold State.addMsg
  exact hs.embMsg (fun _ _ _ hu => .ite hu.embAnswer hu.embAdd.embAnswer)

theorem Keeps.execAdd (hs : Keeps σ s) {src part hdr data crc} {ok} : Runs σ ok (execAdd src part hdr data crc s) :=
  .next hs.addMsg

theorem Keeps.setMsg (hs : Keeps σ s) {src part hdr data crc} : Keeps σ (s.setMsg src part hdr data crc) := by
  unfold State.setMsg
  extract_lets +onlyGivenNames t
  refine hs.embMsg (fun u _ _ hu => ?_)
  extract_lets +onlyGivenNames tag seq
  refine .ite hu.embAnswer (.ite hu.embAnswer (.ite hu.embAnswer ?_))
  extract_lets +onlyGivenNames last
  clear_value last
  split
  · exact .ite hu.raiseOnce.embAnswer (Keeps.ite hu.embSet.unlatch hu.embSet).embAnswer
  · exact (Keeps.ite hu.embSet.unlatch hu.embSet).embAnswer

theorem Keeps.execSet (hs : Keeps σ s) {src part hdr data crc} {ok} : Runs σ ok (execSet src part hdr data crc s) :=
  .next hs.setMsg

theorem Keeps.inputRows (hs : Keeps σ s) {t dst seq ids n} : Keeps σ (s.inputRows t dst seq ids n) := by
  induction n generalizing s ids with
  | zero => exact hs
  | succ n ih => exact .ite hs (ih hs.gatherRows.sendMsg)

theorem Keeps.inputFor (hs : Keeps σ s) {t h dst seq ids} : Keeps σ (s.inputFor t h dst seq ids) := .ite hs.frame hs.inputRows

theorem Keeps.inputsBack (hs : Keeps σ s) : Keeps σ s.inputsBack := hs.frame.foldl (fun _ _ hu => .ite hu.inputFor hu)

theorem Keeps.embDone (hs : Keeps σ s) {c st first n} : Keeps σ (s.embDone c st first n) :=
  .ite hs.done ((Keeps.ite hs.tastePoison hs).countRefusal.done)

theorem Keeps.embTake (hs : Keeps σ s) {k : Nat → State} (hk : ∀ a, Keeps σ (k a)) {c p d bad i} : Keeps σ (s.embTake c p d bad i k) :=
  .ite hs.refuse (.ite hs.refuseX (.ite hs.embDone (.ite hs.park (hk _))))

theorem Keeps.embGatherCmd (hs : Keeps σ s) {c p sq d input} : Keeps σ (s.embGatherCmd c p sq d input) := by
  unfold State.embGatherCmd
  refine hs.embTake (fun _ => ?_)
  split
  · exact hs.refuse
  · extract_lets +onlyGivenNames n idx
    split
    · exact hs.embDone
    · split
      · exact hs.lapseEvent.done
      · refine .ite hs.park ?_
        extract_lets +onlyGivenNames r
        split
        · exact hs.gatherRows.embDone
        · exact hs.gatherRows.embDone
        · exact hs.gatherRows.dmaTo.embDone

theorem Keeps.execEmbGather (hs : Keeps σ s) {fn sq d input} {ok} : Runs σ ok (execEmbGather fn sq d input s) :=
  .next (hs.dmaFrom.take (fun _ _ => hs.dmaFrom.embGatherCmd))

theorem Keeps.embAddCmd (hs : Keeps σ s) {c p sq d input} : Keeps σ (s.embAddCmd c p sq d input) := by
  unfold State.embAddCmd
  refine hs.embTake (fun _ => ?_)
  split
  · exact hs.refuse
  · exact hs.embAdd.embDone

theorem Keeps.execEmbAdd (hs : Keeps σ s) {fn sq d input} {ok} : Runs σ ok (execEmbAdd fn sq d input s) :=
  .next (hs.dmaFrom.take (fun _ _ => hs.dmaFrom.embAddCmd))

theorem Keeps.embSetCmd (hs : Keeps σ s) {c p sq d input} : Keeps σ (s.embSetCmd c p sq d input) := by
  unfold State.embSetCmd
  refine hs.embTake (fun _ => ?_)
  split
  · exact hs.refuse
  · exact .ite hs.embDone (.ite hs.embDone hs.embSet.embDone)

theorem Keeps.execEmbSet (hs : Keeps σ s) {fn sq d input} {ok} : Runs σ ok (execEmbSet fn sq d input s) :=
  .next (hs.dmaFrom.take (fun _ _ => hs.dmaFrom.embSetCmd))

theorem Keeps.setNow (hs : Keeps σ s) {t i b} : KeepsIn σ (s.setNow t i b) := hs.embUpd

theorem Keeps.readRow (hs : Keeps σ s) {t i} : Keeps σ (s.readRow t i).1 := by
  unfold State.readRow
  extract_lets +onlyGivenNames n
  refine .ite_fst ?_ ?_
  · exact .fst hs
  · refine .ite_fst ?_ ?_
    · exact .fst hs
    · exact .fst hs.decodeRow

theorem Keeps.readRows (hs : Keeps σ s) {t l k} : Keeps σ (s.readRows t l k).1 := by
  induction l generalizing s k with
  | nil => exact hs
  | cons i l ih => exact .ite_fst hs.readRow (ih hs.readRow)

theorem Keeps.requantRows (hs : Keeps σ s) {src dst l k} : Keeps σ (s.requantRows src dst l k).1 := by
  induction l generalizing s k with
  | nil => exact hs
  | cons i l ih =>
    unfold State.requantRows
    refine .ite_fst hs.readRow ?_
    split
    · exact ih (hs.readRow.setNow _ ‹_›)
    · exact hs.readRow

theorem Keeps.requantAll (hs : Keeps σ s) {src dst l} : Keeps σ (s.requantAll src dst l).1 := by
  unfold State.requantAll
  extract_lets +onlyGivenNames r
  refine .ite_fst ?_ ?_
  · exact .fst hs.sideFull
  · exact hs.requantRows

theorem Keeps.requantExch (hs : Keeps σ s) {p dst first all n} : Keeps σ (s.requantExch p dst first all n).1 := by
  induction n generalizing s first all with
  | zero => exact hs
  | succ n ih => exact .ite_fst hs (ih hs.newExch)

theorem Keeps.requantCmd (hs : Keeps σ s) {c p sq d} : Keeps σ (s.requantCmd c p sq d) := by
  unfold State.requantCmd
  extract_lets +onlyGivenNames first count dst l src
  refine .ite hs.refuse (.ite hs.refuse (.ite hs.refuse (.ite hs.park (.ite ?_ hs.requantAll.embDone))))
  extract_lets +onlyGivenNames x
  refine .ite hs.readRows.embDone ?_
  extract_lets +onlyGivenNames r src
  have hr : Keeps σ r.1 := hs.readRows.requantExch
  clear_value r
  exact hr.frame

theorem Keeps.execEmbRequant (hs : Keeps σ s) {fn sq d} {ok} : Runs σ ok (execEmbRequant fn sq d s) :=
  .next (hs.take (fun _ _ => hs.requantCmd))

theorem Keeps.settle (hs : Keeps σ s) {t all n} : Keeps σ (s.settle t all n) := by
  induction n generalizing s with
  | zero => exact hs
  | succ n ih =>
    unfold State.settle
    split
    · exact hs
    · split
      · exact hs
      · exact ih (.ite hs.fillSwitch hs.evictionSwitch)

theorem Keeps.writeBack (hs : Keeps σ s) {t} : Keeps σ (s.writeBack t).1 := .fst (hs.foldl (fun _ _ hu => hu.copyRow.setTag))

theorem Keeps.embFlushCmd (hs : Keeps σ s) {c p sq d} : Keeps σ (s.embFlushCmd c p sq d) :=
  hs.embTake (fun _ => hs.settle.writeBack.done)

theorem Keeps.execEmbFlush (hs : Keeps σ s) {fn sq d} {ok} : Runs σ ok (execEmbFlush fn sq d s) :=
  .next (hs.take (fun _ _ => hs.embFlushCmd))

theorem Keeps.embLoadIt (hs : Keeps σ s) {t} : Keeps σ (s.embLoadIt t) := hs.frame.unlatch.unlatch

theorem Keeps.applyHere (hs : Keeps σ s) {u} : Keeps σ (s.applyHere u) := by
  unfold State.applyHere
  split
  · exact hs.applyAt.setTag
  · exact hs.applyAt

theorem Keeps.embUnloadIt (hs : Keeps σ s) {t} : Keeps σ (s.embUnloadIt t) := by
  unfold State.embUnloadIt
  extract_lets +onlyGivenNames h s1 s2 left sets _ s3 s4 s5 s6
  have hs2 : Keeps σ s2 := hs.applySets.settle
  clear_value s2
  have hs6 : Keeps σ s6 := ((hs2.frame.foldl (fun _ _ hu => hu.applyAt)).foldl (fun _ _ hu => hu.applyHere)).writeBack
  clear_value s6
  exact hs6.frame.sideFree.unlatch

theorem Keeps.embControl (hs : Keeps σ s) {t v} : KeepsOk σ (s.embControl t v) :=
  .ite (.ite (.ok hs) (.ite .error (.ok hs.embLoadIt.dsetN))) (.ite (.ok hs.embUnloadIt.dsetN) (.ok hs))

theorem Keeps.embControlRow (hs : Keeps σ s) {o t v} : Keeps σ (s.embControlRow o t v) :=
  (Keeps.ite hs.raise hs).writeRow (fun _ hu => hu.embControl)

theorem Keeps.execEmbTableLoad (hs : Keeps σ s) {o id v} {ok} : Runs σ ok (execEmbTableLoad o id v s) := .next hs.embControlRow

theorem Keeps.execEmbTableUnload (hs : Keeps σ s) {o id v} {ok} : Runs σ ok (execEmbTableUnload o id v s) :=
  .next hs.embControlRow

theorem Keeps.embReload (hs : Keeps σ s) : Keeps σ s.embReload := by
  unfold State.embReload
  refine hs.foldl (fun _ _ hu => .ite ?_ hu)
  split
  · exact hu.embLoadIt
  · exact hu.dsetN.raise

end Sys2Proof.Machine
end

section
/-! What the operations of Machine/Rounds leave follows the state that they are given. -/

namespace Sys2Proof.Machine
set_option Elab.async false

variable {σ s t u : State}

theorem Keeps.setLane (hs : Keeps σ s) {h n l} : Keeps σ (s.setLane h n l) := hs.frame

theorem Keeps.updStep (hs : Keeps σ s) {h n f} : Keeps σ (s.updStep h n f) := hs.setLane

theorem Keeps.toPeers (hs : Keeps σ s) {n mtype body} : Keeps σ (s.toPeers n mtype body) :=
  hs.foldl (fun _ _ hu => .ite hu.sendMsg hu)

theorem Keeps.sendClose (hs : Keeps σ s) {h n seq layer kind nout nmark code} : Keeps σ (s.sendClose h n seq layer kind nout nmark code) :=
  hs.toPeers

theorem Keeps.sendOutput (hs : Keeps σ s) {st r mark data} : Keeps σ (s.sendOutput st r mark data) := hs.sendMsg

theorem Keeps.sendRoster (hs : Keeps σ s) {h n st} : Keeps σ (s.sendRoster h n st) := hs.toPeers

theorem Keeps.missEvent (hs : Keeps σ s) {k l} : Keeps σ (s.missEvent k l) := by
  unfold State.missEvent
  split
  · exact hs
  · exact .ite hs.count hs.count.updReq.raise

theorem Keeps.markSent (hs : Keeps σ s) {h n k data} : Keeps σ (s.markSent h n k data) := hs.updStep

theorem Keeps.sendMark (hs : Keeps σ s) {h n k} : Keeps σ (s.sendMark h n k) := by
  unfold State.sendMark
  split
  · exact hs
  · split
    · exact hs
    · exact .ite hs.sendOutput.markSent hs

theorem Keeps.fixMark (hs : Keeps σ s) {h n k m} : Keeps σ (s.fixMark h n k m) := by
  unfold State.fixMark
  split
  · exact hs
  · refine .ite hs ?_
    extract_lets +onlyGivenNames s1 _ s2
    have hs1 : Keeps σ s1 := hs.withdraw.updStep
    clear_value s1
    exact hs1.frame.endExchs.sendMark

theorem Keeps.dropOut (hs : Keeps σ s) {h n k} : Keeps σ (s.dropOut h n k) := hs.count.fixMark

theorem Keeps.beginRound (hs : Keeps σ s) {h n} : Keeps σ (s.beginRound h n) := by
  unfold State.beginRound
  split
  · exact hs
  · exact .ite hs.updStep (hs.updStep.foldl (fun _ _ hu => .ite hu.missEvent.fixMark hu.sendMark))

theorem Keeps.closeRound (hs : Keeps σ s) {h n} : Keeps σ (s.closeRound h n) := by
  unfold State.closeRound
  split
  · exact hs
  · exact hs.count.sendClose.setLane

theorem Keeps.tryClose (hs : Keeps σ s) {h n} : Keeps σ (s.tryClose h n) := by
  unfold State.tryClose
  split
  · exact .ite hs.closeRound hs
  · exact hs

end Sys2Proof.Machine
end

section
/-! What the operations of Machine/Commit leave follows the state that they are given. -/

namespace Sys2Proof.Machine
set_option Elab.async false

variable {σ s t u : State}

theorem Keeps.countCommit (hs : Keeps σ s) {k q ids} : Keeps σ (s.countCommit k q ids) := by
  unfold State.countCommit
  extract_lets +onlyGivenNames r s1 s2 s3
  have hs3 : Keeps σ s3 := .ite hs.updReq.count.raise hs.updReq.count
  clear_value s3
  exact .ite hs3.raise hs3

theorem Keeps.commitTokens (hs : Keeps σ s) {r q} : Keeps σ (s.commitTokens r q) := hs.updEnt.updReq.countCommit.count.count

theorem Keeps.settleReq (hs : Keeps σ s) {r o} : Keeps σ (s.settleReq r o) := by
  unfold State.settleReq
  split
  · exact hs
  · exact ((Keeps.ite hs.commitTokens hs).settlePages (fun _ _ _ hu => hu.dropPageLow)).addCharge

theorem Keeps.sendEnd (hs : Keeps σ s) {h n st ab outs} : Keeps σ (s.sendEnd h n st ab outs) := hs.toPeers

theorem Keeps.deferReq (hs : Keeps σ s) {k seq} : Keeps σ (s.deferReq k seq) := by
  unfold State.deferReq
  split
  · exact hs
  · exact .ite hs hs.count.updReq.postReq

theorem Keeps.reportReq (hs : Keeps σ s) {seq r o} : Keeps σ (s.reportReq seq r o) := by
  unfold State.reportReq
  split
  · exact hs
  · extract_lets +onlyGivenNames tok
    clear_value tok
    refine .ite hs.deferReq (.ite ?_ ?_)
    · split
      · exact hs.textOut
      · exact hs
    · extract_lets +onlyGivenNames s1
      have hs1 : Keeps σ s1 := .ite hs.count.raise hs
      clear_value s1
      split
      · exact hs1.endReqTok
      · exact hs1.endReq

theorem Keeps.refuseOpen (hs : Keeps σ s) {h n seq layer kind code} : Keeps σ (s.refuseOpen h n seq layer kind code) :=
  hs.sendClose.count.raiseOnce

theorem Keeps.dropHeldOpen (hs : Keeps σ s) {h n} : Keeps σ (s.dropHeldOpen h n) := by
  unfold State.dropHeldOpen
  extract_lets +onlyGivenNames l
  split
  · exact hs
  · exact hs.setLane.refuseOpen

theorem Keeps.boundaryReq (hs : Keeps σ s) {seq k} : Keeps σ (s.boundaryReq seq k) := by
  unfold State.boundaryReq
  split
  · exact hs
  · extract_lets +onlyGivenNames e
    refine .ite hs.endReq (.ite hs.endReq ?_)
    split
    · exact .ite hs.deferReq hs
    · exact hs

theorem Keeps.boundaryMoves (hs : Keeps σ s) {h n} : Keeps σ (s.boundaryMoves h n) := by
  unfold State.boundaryMoves
  refine hs.foldl (fun _ _ hu => ?_)
  split
  · exact hu
  · split
    · exact .ite hu.startWaitingMove hu
    · exact hu

theorem Keeps.modesNow (hs : Keeps σ s) {h n} : Keeps σ (s.modesNow h n) := hs.frame

theorem Keeps.commitStep (hs : Keeps σ s) {h n ab} : Keeps σ (s.commitStep h n ab) := by
  unfold State.commitStep
  split
  · exact hs
  · extract_lets +onlyGivenNames outs inStep s1 l l1 s2 s3 _ _ s3b s4 s5 s6 s7
    have hs3 : Keeps σ s3 := (hs.foldl (fun _ _ hu => hu.settleReq)).modesNow.setLane.foldl (fun _ _ hu => hu.withdraw.endExchs)
    clear_value s3
    exact ((hs3.frame.count.count.commitSets.sendEnd.foldl (fun _ _ hu => hu.reportReq)).foldl
        (fun _ _ hu => hu.boundaryReq)).boundaryMoves.dropHeldOpen

theorem Keeps.execStepCommit (hs : Keeps σ s) {half lane t} {ok} : Runs σ ok (execStepCommit half lane t s) :=
  .next (.ite hs.at.commitStep hs.at)

end Sys2Proof.Machine
end

section
/-! What the operations of Machine/Opens leave follows the state that they are given. -/

namespace Sys2Proof.Machine
set_option Elab.async false

variable {σ s t u : State}

theorem Keeps.mapTold (hs : Keeps σ s) : Keeps σ s.mapTold := hs.frame

theorem Keeps.coreSetsTold (hs : Keeps σ s) : Keeps σ s.coreSetsTold := hs.frame

theorem Keeps.tryAdmit (hs : Keeps σ s) {h n src t k left} : Keeps σ (s.tryAdmit h n src t k left).1 := by
  unfold State.tryAdmit
  split
  · exact .fst hs
  · extract_lets +onlyGivenNames port
    refine .ite_fst ?_ ?_
    · exact .fst hs.raiseOnce
    · extract_lets +onlyGivenNames s
      refine .ite_fst ?_ ?_
      · exact .fst hs.mapTold.endReq
      · refine .ite_fst ?_ ?_
        · exact .fst hs.mapTold.raiseOnce
        · extract_lets +onlyGivenNames s fits
          refine .ite_fst ?_ ?_
          · exact .fst hs.mapTold.coreSetsTold
          · split
            · exact .fst hs.mapTold.coreSetsTold
            · extract_lets +onlyGivenNames e l resident ok
              refine .ite_fst ?_ ?_
              · exact .fst (.ite hs.mapTold.coreSetsTold.count hs.mapTold.coreSetsTold)
              · extract_lets +onlyGivenNames need
                split
                · exact .fst ((Keeps.ite hs.mapTold.coreSetsTold.count hs.mapTold.coreSetsTold.count.raiseOnce).endReq)
                · exact .fst hs.mapTold.coreSetsTold.unlatch.updStep

theorem Keeps.startRound (hs : Keeps σ s) {h n src t layer sel} : Keeps σ (s.startRound h n src t layer sel) :=
  hs.setLane.unlatch.beginRound.tryClose

theorem Keeps.admitHeld (hs : Keeps σ s) {h n t} : Keeps σ (s.admitHeld h n t) := by
  unfold State.admitHeld
  extract_lets +onlyGivenNames l
  split
  · exact .ite hs hs.setLane.startRound
  · exact hs

theorem Keeps.advanceRound (hs : Keeps σ s) {h n t} : Keeps σ (s.advanceRound h n t) := hs.tryClose.admitHeld

theorem Keeps.rosterRows (hs : Keeps σ s) {h n src} : Keeps σ (s.rosterRows h n src) := by
  unfold State.rosterRows
  split
  · exact .ite hs hs.inputFor
  · exact hs

theorem Keeps.admitStep (hs : Keeps σ s) {h n src t seq maxreq maxtok} : Keeps σ (s.admitStep h n src t seq maxreq maxtok) := by
  unfold State.admitStep
  extract_lets +onlyGivenNames l st s1 m k r s2
  have hr : Keeps σ r.1 := (Keeps.fst hs.setLane).foldl_fst (fun _ _ hu => hu.tryAdmit)
  clear_value r
  have hs2 : Keeps σ s2 := by
    unfold s2
    split
    · exact hr.sendRoster
    · exact hr
  clear_value s2
  exact hs2.rosterRows.startRound

theorem Keeps.takeOpen (hs : Keeps σ s) {h src hdr t} : Keeps σ (s.takeOpen h src hdr t) := by
  unfold State.takeOpen
  extract_lets +onlyGivenNames seq layer kind n no l
  refine .ite hs.refuseOpen (.ite hs.refuseOpen (.ite hs.refuseOpen ?_))
  split
  · exact .ite hs.refuseOpen (.ite hs.refuseOpen (.ite hs.refuseOpen hs.admitStep))
  · exact .ite hs.refuseOpen (.ite hs.commitStep (.ite hs.refuseOpen (.ite hs.refuseOpen (.ite hs.setLane hs.startRound))))

theorem Keeps.openArrives (hs : Keeps σ s) {h src hdr t} : Keeps σ (s.openArrives h src hdr t) := by
  unfold State.openArrives
  extract_lets +onlyGivenNames x n close
  refine .ite (.ite hs.discard hs.discard.sendClose) (.ite (.ite hs.discard hs.discard.sendClose) (.ite hs.discard ?_))
  extract_lets +onlyGivenNames s1
  have hs1 : Keeps σ s1 := hs.unlatch
  clear_value s1
  exact .ite hs1.frame hs1.takeOpen

theorem Keeps.execRoundOpen (hs : Keeps σ s) {half src hdr t} {ok} : Runs σ ok (execRoundOpen half src hdr t s) :=
  .next hs.at.openArrives

theorem Keeps.execRoundOpenAbandon (hs : Keeps σ s) {half src hdr t} {ok} : Runs σ ok (execRoundOpenAbandon half src hdr t s) :=
  .next hs.at.openArrives

theorem Keeps.restTimer (hs : Keeps σ s) {h n} : Keeps σ (s.restTimer h n) := by
  unfold State.restTimer
  split
  · exact hs
  · exact .ite hs.setLane hs

theorem Keeps.settleRound (hs : Keeps σ s) {h n} : Keeps σ (s.settleRound h n) := hs.restTimer.tryClose

theorem Keeps.roundExpiry (hs : Keeps σ s) {h n t} : Keeps σ (s.roundExpiry h n t) := by
  unfold State.roundExpiry
  extract_lets +onlyGivenNames l
  split
  · exact hs
  · exact .ite hs (.ite ((hs.setLane.foldl (fun _ _ hu => hu.dropOut)).advanceRound) hs.commitStep.raise)

theorem Keeps.execRoundTimerExpiry (hs : Keeps σ s) {half lane t} {ok} : Runs σ ok (execRoundTimerExpiry half lane t s) :=
  .next hs.at.roundExpiry

theorem Keeps.assistExpiry (hs : Keeps σ s) {h n} : Keeps σ (s.assistExpiry h n) := by
  unfold State.assistExpiry
  split
  · exact hs
  · exact .ite hs ((hs.foldl (fun _ _ hu => hu.fixMark)).settleRound)

theorem Keeps.execHostAssistWaitExpiry (hs : Keeps σ s) {half lane} {ok} : Runs σ ok (execHostAssistWaitExpiry half lane s) :=
  .next hs.assistExpiry

theorem Keeps.setBath (hs : Keeps σ s) {lv m ckpt} : Keeps σ (s.setBath lv m ckpt) := hs.frame

theorem Keeps.releaseOpens (hs : Keeps σ s) {ok} : Keeps σ (s.releaseOpens ok) :=
  (hs.frame.foldl (fun _ _ hu => hu.admitHeld)).foldl (fun _ _ hu => hu.takeOpen)

theorem Keeps.endBath (hs : Keeps σ s) : Keeps σ s.endBath := by
  unfold State.endBath
  extract_lets +onlyGivenNames _ _ s1
  have hs1 : Keeps σ s1 := hs.frame
  exact hs1.releaseOpens

theorem Keeps.bathToStep (hs : Keeps σ s) : Keeps σ s.bathToStep := hs.frame.releaseOpens

theorem Keeps.bathWrite (hs : Keeps σ s) {v} : KeepsOk σ (s.bathWrite v) := by
  unfold State.bathWrite
  extract_lets +onlyGivenNames x b
  refine .ite .error ?_
  extract_lets +onlyGivenNames s1
  have hs1 : Keeps σ s1 := hs.dset
  clear_value s1
  exact .ite (.ok (.ite hs1 hs1.endBath)) (.ite (.ok hs1.setBath) (.ite (.ok hs1) (.ite (.ok hs1.bathToStep) (.ok hs1.frame))))

theorem Keeps.execStopBathStart (hs : Keeps σ s) {o v} {ok} : Runs σ ok (execStopBathStart o v s) :=
  .next (hs.writeRow (fun _ hu => hu.bathWrite))

theorem Keeps.execStopBathLevelChange (hs : Keeps σ s) {o v} {ok} : Runs σ ok (execStopBathLevelChange o v s) :=
  .next (hs.writeRow (fun _ hu => hu.bathWrite))

theorem Keeps.execStopBathEnd (hs : Keeps σ s) {o v} {ok} : Runs σ ok (execStopBathEnd o v s) :=
  .next (hs.writeRow (fun _ hu => hu.bathWrite))

theorem Keeps.execStopBathLate (hs : Keeps σ s) {ok} : Runs σ ok (execStopBathLate s) := .next (.ite hs hs.raise)

theorem Keeps.startLane (hs : Keeps σ s) {n} : Keeps σ (s.startLane n) := by
  unfold State.startLane
  extract_lets +onlyGivenNames reset s1
  have hreset : ∀ u h, Keeps σ u → Keeps σ (reset u h) := by
    intro u h hu
    unfold reset
    extract_lets +onlyGivenNames l
    split
    · exact hu.setLane
    · exact hu.setLane
  have hs1 : Keeps σ s1 := hreset _ _ (hreset _ _ hs)
  clear_value s1
  refine hs1.foldl (fun _ _ hu => ?_)
  split
  · exact hu
  · exact .ite hu hu.endReq

theorem Keeps.stopLane (hs : Keeps σ s) {n} : Keeps σ (s.stopLane n) :=
  .ite ((Keeps.ite hs.setLane hs).setLane) (.ite hs.setLane hs)

theorem Keeps.laneWrite (hs : Keeps σ s) {n v} : KeepsOk σ (s.laneWrite n v) :=
  .ite (.ite (.ok hs) (.ite .error (.ok hs.dset.startLane))) (.ite (.ok hs) (.ok hs.dset.stopLane))

theorem Keeps.execLaneEnableWrite (hs : Keeps σ s) {o lane v} {ok} : Runs σ ok (execLaneEnableWrite o lane v s) :=
  .next (hs.writeRow (fun _ hu => hu.laneWrite))

theorem Keeps.coreSetWrite (hs : Keeps σ s) {p sub v} : KeepsOk σ (s.coreSetWrite p sub v) :=
  .ite .error (.ok hs.dset.coreSetsTold.kick.kick)

theorem Keeps.execCoreSetWrite (hs : Keeps σ s) {o p sub v} {ok} : Runs σ ok (execCoreSetWrite o p sub v s) :=
  .next (hs.writeRow (fun _ hu => hu.coreSetWrite))

end Sys2Proof.Machine
end

section
/-! What the operations of Machine/Splits leave follows the state that they are given. -/

namespace Sys2Proof.Machine
set_option Elab.async false

variable {σ s t u : State}

theorem Keeps.readSplit (hs : Keeps σ s) {p w} : Keeps σ (s.readSplit p w).1 := by
  unfold State.readSplit
  refine (Keeps.fst hs).foldl_fst (fun _ _ hu => ?_)
  split
  · exact hu
  · exact .fst hu.readPage

theorem Keeps.oddCodes (hs : Keeps σ s) {p w} : Keeps σ (s.oddCodes p w) := by
  unfold State.oddCodes
  refine hs.foldl (fun _ _ hu => ?_)
  split
  · exact hu
  · split
    · exact hu
    · exact .ite hu hu.count.raiseOnce

theorem Keeps.countRun (hs : Keeps σ s) {runs v} : Keeps σ (s.countRun runs v) := hs.count.count.count.count

theorem Keeps.setSplit (hs : Keeps σ s) {h n k j x} : Keeps σ (s.setSplit h n k j x) := hs.updStep

theorem Keeps.finishRequest (hs : Keeps σ s) {h n k t} : Keeps σ (s.finishRequest h n k t) := by
  unfold State.finishRequest
  split
  · split
    · exact hs
    · split
      · exact hs
      · exact .ite hs hs.count.count.sendOutput.markSent.advanceRound
  · exact hs

theorem Keeps.markRequest (hs : Keeps σ s) {h n k t m} : Keeps σ (s.markRequest h n k t m) := hs.fixMark.restTimer.advanceRound

theorem Keeps.consumePoison (hs : Keeps σ s) {h n k t idx layer g} : Keeps σ (s.consumePoison h n k t idx layer g) :=
  hs.count.raise.markRequest

theorem Keeps.noAgreement (hs : Keeps σ s) {h n k t idx cores dead} : Keeps σ (s.noAgreement h n k t idx cores dead) := by
  unfold State.noAgreement
  extract_lets +onlyGivenNames s1
  have hs1 : Keeps σ s1 := hs.count.raise
  clear_value s1
  exact .ite hs1 hs1.markRequest

theorem Keeps.placeProof (hs : Keeps σ s) {id x t} : Keeps σ (s.placeProof id x t) := by
  unfold State.placeProof
  split
  · exact hs.frame.noAgreement
  · exact hs.frame.placeWork

theorem Keeps.openProof (hs : Keeps σ s) {h n k t c r w parts} : Keeps σ (s.openProof h n k t c r w parts) := by
  unfold State.openProof
  extract_lets +onlyGivenNames used
  refine .ite hs.noAgreement ?_
  extract_lets +onlyGivenNames s1 id x _ s2
  have hs1 : Keeps σ s1 := hs.raise.count.countCore
  clear_value s1
  exact hs1.frame.setSplit.placeProof

theorem Keeps.checkerFault (hs : Keeps σ s) {x cause} : Keeps σ (s.checkerFault x cause) := by
  unfold State.checkerFault
  extract_lets +onlyGivenNames s1
  have hs1 : Keeps σ s1 := hs.count.raise
  clear_value s1
  exact .ite hs1.countCore.coreFault hs1

theorem Keeps.engineFault (hs : Keeps σ s) {x c} : Keeps σ (s.engineFault x c) := hs.count.raise.countCore.coreFault

theorem Keeps.decideProof (hs : Keeps σ s) {id x t parts} : Keeps σ (s.decideProof id x t parts) :=
  .ite hs.frame hs.frame.setSplit.finishRequest

theorem Keeps.proofRun (hs : Keeps σ s) {id x c t parts ok} : Keeps σ (s.proofRun id x c t parts ok) :=
  .ite (.ite hs.checkerFault.decideProof (.ite hs.engineFault.decideProof hs.count.placeProof))
      (.ite hs.engineFault.checkerFault.decideProof (.ite hs.engineFault.checkerFault.decideProof hs.frame.noAgreement))

theorem Keeps.proofEnds (hs : Keeps σ s) {c t x} : Keeps σ (s.proofEnds c t x) := by
  unfold State.proofEnds
  split
  · split
    · exact hs.nextWork
    · extract_lets +onlyGivenNames w
      split
      · exact hs.frame.nextWork
      · extract_lets +onlyGivenNames rd
        have hrd : Keeps σ rd.1 := hs.readSplit
        clear_value rd
        split
        · extract_lets +onlyGivenNames _ _ s1
          have hs1 : Keeps σ s1 := hrd.frame
          clear_value s1
          exact (Keeps.ite hs1 hs1.consumePoison).nextWork
        · exact hrd.oddCodes.countRun.proofRun.nextWork
  · exact hs

theorem Keeps.execProofRunFinish (hs : Keeps σ s) {core x} : Runs σ (¬ (256 ≤ core)) (execProofRunFinish core x s) :=
  .beyond hs.proofEnds

theorem Keeps.splitEnds (hs : Keeps σ s) {c t x} : Keeps σ (s.splitEnds c t x) := by
  unfold State.splitEnds
  split
  · extract_lets +onlyGivenNames s0
    have hs0 : Keeps σ s0 := by
      unfold s0
      split
      · split
        · exact hs
        · refine .ite hs ?_
          extract_lets +onlyGivenNames w rd
          split
          · exact hs.readSplit.consumePoison
          · extract_lets +onlyGivenNames s1 runs v s2
            have hs1 : Keeps σ s1 := hs.readSplit.oddCodes.count
            clear_value s1
            exact .ite hs1.countRun.openProof hs1.countRun.setSplit.finishRequest
      · exact hs
    clear_value s0
    exact hs0.nextWork
  · exact hs

theorem Keeps.execSplitFinish (hs : Keeps σ s) {core t x} : Runs σ (¬ (256 ≤ core)) (execSplitFinish core t x s) :=
  .beyond hs.at.splitEnds

theorem Keeps.storeRows (hs : Keeps σ s) {h n r p layer kb vb} : Keeps σ (s.storeRows h n r p layer kb vb) := by
  unfold State.storeRows
  extract_lets +onlyGivenNames kt vt
  refine hs.foldl (fun _ _ hu => ?_)
  extract_lets +onlyGivenNames ks vs row u a s1
  split
  · exact hu.count.appendRow.updStep.unlatch
  · exact hu.count.appendRow.updStep

theorem Keeps.placeSplits (hs : Keeps σ s) {h n t r p layer} : Keeps σ (s.placeSplits h n t r p layer) :=
  hs.foldl (fun _ _ hu => .ite hu.setSplit hu.placeWork)

theorem Keeps.qkvArrives (hs : Keeps σ s) {h src n hdr data crc t} : Keeps σ (s.qkvArrives h src n hdr data crc t) := by
  unfold State.qkvArrives
  extract_lets +onlyGivenNames drop layer k dropBit
  split
  · split
    · exact hs.discard
    · extract_lets +onlyGivenNames z len chk
      refine .ite hs.discard (.ite hs.discard (.ite hs.discard (.ite hs.discard ?_)))
      extract_lets +onlyGivenNames s1 out
      have hs1 : Keeps σ s1 := hs.unlatch.updStep
      clear_value s1
      exact .ite hs1.dropOut.restTimer.advanceRound (.ite hs1.markRequest (.ite hs1.count.raiseOnce.dropOut.restTimer.advanceRound
          hs1.unlatch.storeRows.updStep.placeSplits.restTimer))
  · exact hs.discard

theorem Keeps.crossBridge (hs : Keeps σ s) {k : State → State} (hk : ∀ u, Keeps σ u → Keeps σ (k u)) {link h bytes c} : Keeps σ
    (s.crossBridge link h bytes c k) :=
  .ite (hk _ hs) (.ite hs.frame (hk _ hs.count.countUnits))

theorem Keeps.execQkv (hs : Keeps σ s) {link src lane hdr data crc t} : Runs σ (link < 96) (execQkv link src lane hdr data crc t s) :=
  (hs.at.crossBridge (fun _ hu => hu.qkvArrives)).withLink

end Sys2Proof.Machine
end

section
/-! What the operations of Machine/Selection leave follows the state that they are given. -/

namespace Sys2Proof.Machine
set_option Elab.async false

variable {σ s t u : State}

theorem Keeps.updInReq (hs : Keeps σ s) {h n k f} : Keeps σ (s.updInReq h n k f) := hs.updStep

theorem Keeps.putSel (hs : Keeps σ s) {k x} : Keeps σ (s.putSel k x) := hs.frame

theorem Keeps.pickToken (hs : Keeps σ s) {h n k id} : Keeps σ (s.pickToken h n k id) := hs.updInReq.settleRound

theorem Keeps.selectNow (hs : Keeps σ s) {h n k q r p rho l} : Keeps σ (s.selectNow h n k q r p rho l) := by
  unfold State.selectNow
  extract_lets +onlyGivenNames greedy fresh u _ s1
  have hs1 : Keeps σ s1 := .ite hs.frame hs
  clear_value s1
  split
  · exact hs1.pickToken
  · exact hs1

theorem Keeps.trip (hs : Keeps σ s) {h n k q x seq} : Keeps σ (s.trip h n k q x seq) :=
  (hs.foldl (fun _ _ hu => hu.sendMsg)).count.postReq.putSel.setLane

theorem Keeps.afterMask (hs : Keeps σ s) {h n k l} : Keeps σ (s.afterMask h n k l) := by
  unfold State.afterMask
  split
  · exact .ite (.ite hs.putSel.updInReq.settleRound hs.putSel.trip) (.ite hs.putSel.updReq.newExch.settleRound hs.putSel.selectNow)
  · exact hs

theorem Keeps.maskList (hs : Keeps σ s) {h n k l} : Keeps σ (s.maskList h n k l) := by
  unfold State.maskList
  split
  · refine .ite hs.afterMask (.ite hs.updReq.newExch.settleRound ?_)
    extract_lets +onlyGivenNames b
    split
    · exact hs.afterMask
    · exact .ite hs.afterMask hs.count.afterMask
  · exact hs

theorem Keeps.inconsistent (hs : Keeps σ s) {h n k} : Keeps σ (s.inconsistent h n k) := hs.count.raise.dropOut.settleRound

theorem Keeps.selComplete (hs : Keeps σ s) {h n k x p} : Keeps σ (s.selComplete h n k x p) :=
  .ite hs.inconsistent hs.putSel.maskList

theorem Keeps.selArrives (hs : Keeps σ s) {h src n hdr data crc} : Keeps σ (s.selArrives h src n hdr data crc) := by
  unfold State.selArrives
  extract_lets +onlyGivenNames drop k shard nshard full base m
  have hdrop : Keeps σ drop := hs.discard
  split
  · split
    · exact hdrop
    · extract_lets +onlyGivenNames chk x0 a
      refine .ite hdrop (.ite hdrop (.ite hdrop (.ite hdrop (.ite hdrop ?_))))
      extract_lets +onlyGivenNames s1
      have hs1 : Keeps σ s1 := hs.unlatch
      clear_value x0 s1
      refine .ite hs1.fixMark.settleRound ?_
      split
      · exact .ite hs1.inconsistent (.ite hs1.putSel.selComplete hs1.putSel)
      · exact .ite hs1.putSel.selComplete hs1.putSel
  · exact hdrop

theorem Keeps.execSelect (hs : Keeps σ s) {link src lane hdr data crc} : Runs σ (link < 96) (execSelect link src lane hdr data crc s) :=
  (hs.crossBridge (fun _ hu => hu.selArrives)).withLink

theorem Keeps.bridgeBack (hs : Keeps σ s) : Keeps σ s.bridgeBack := by
  unfold State.bridgeBack
  extract_lets +onlyGivenNames l _ s1
  refine hs.frame.foldl (fun _ _ hu => ?_)
  extract_lets +onlyGivenNames u1
  have hu1 : Keeps σ u1 := hu.count.countUnits
  clear_value u1
  exact .ite hu1.selArrives hu1.qkvArrives

end Sys2Proof.Machine
end

section
/-! What the operations of Machine/Profiles leave follows the state that they are given. -/

namespace Sys2Proof.Machine
set_option Elab.async false

variable {σ s t u : State}

theorem Keeps.install (hs : Keeps σ s) {p} : Keeps σ (s.install p) := hs.frame.count

theorem Keeps.profileWrite (hs : Keeps σ s) {p v} : KeepsOk σ (s.profileWrite p v) := by
  unfold State.profileWrite
  extract_lets +onlyGivenNames x
  refine .ite .error (.ite .error (.ite (.ok ?_) (.ite .error (.ok hs.dset.install))))
  extract_lets +onlyGivenNames src
  have hsrc : Keeps σ src := hs.dset
  clear_value src
  exact hsrc.frame

theorem Keeps.profileRow (hs : Keeps σ s) {o p v} : Keeps σ (s.profileRow o p v) :=
  (Keeps.ite hs.raise hs).writeRow (fun _ hu => hu.profileWrite)

theorem Keeps.execProfileLoad (hs : Keeps σ s) {o p v} {ok} : Runs σ ok (execProfileLoad o p v s) := .next hs.profileRow

theorem Keeps.execProfileUnload (hs : Keeps σ s) {o p v} {ok} : Runs σ ok (execProfileUnload o p v s) := .next hs.profileRow

theorem Keeps.reloadProfiles (hs : Keeps σ s) : Keeps σ s.reloadProfiles := by
  unfold State.reloadProfiles
  refine hs.frame.foldl (fun _ _ hu => .ite hu ?_)
  split
  · exact hu.install
  · exact hu.raise

theorem Keeps.curveWrite (hs : Keeps σ s) {id v} : KeepsOk σ (s.curveWrite id v) := .ite .error (.ite .error (.ok hs.dset))

theorem Keeps.execCurveWrite (hs : Keeps σ s) {o id v} {ok} : Runs σ ok (execCurveWrite o id v s) :=
  .next (hs.writeRow (fun _ hu => hu.curveWrite))

theorem Keeps.tabWrite (hs : Keeps σ s) {t v} : KeepsOk σ (s.tabWrite t v) := .ite .error (.ite .error (.ok hs.dset))

theorem Keeps.execDecodeTableWrite (hs : Keeps σ s) {o id v} {ok} : Runs σ ok (execDecodeTableWrite o id v s) :=
  .next (hs.writeRow (fun _ hu => hu.tabWrite))

end Sys2Proof.Machine
end

section
/-! What the operations of Machine/Sessions leave follows the state that they are given. -/

namespace Sys2Proof.Machine
set_option Elab.async false

variable {σ s t u : State}

theorem Keeps.makeSession (hs : Keeps σ s) {i p profile ttl shalf} : Keeps σ (s.makeSession i p profile ttl shalf) :=
  hs.setEnt.toState.newTable.setRoot.count

theorem Keeps.openSess (hs : Keeps σ s) {c p d} : Keeps σ (s.openSess c p d) := by
  unfold State.openSess
  extract_lets +onlyGivenNames ttl profile home
  split
  · exact hs.refuse
  · refine .ite hs.refuse ?_
    extract_lets +onlyGivenNames h
    refine .ite hs.refuse (.ite hs.quotaReached.refuse ?_)
    split
    · exact hs.raise.refuse
    · exact .ite hs.refuse hs.makeSession.setRes.doneSess

theorem Keeps.execOpen (hs : Keeps σ s) {fn sq d} {ok} : Runs σ ok (execOpen fn sq d s) :=
  .next (hs.take (fun _ _ => hs.openSess))

theorem Keeps.attach (hs : Keeps σ s) {i k kib q d input} : Keeps σ (s.attach i k kib q d input) := by
  unfold State.attach
  extract_lets +onlyGivenNames e kept _ s1 s2 s3
  have hs2 : Keeps σ s2 := hs.frame.updEnt.count
  clear_value s2
  have hs3 : Keeps σ s3 := by
    unfold s3
    split
    · exact hs2.toState
    · exact hs2.startDev
    · exact hs2.refields
  clear_value s3
  exact hs3.takeInput

theorem Keeps.submitTake (hs : Keeps σ s) {c p i d ps input} : Keeps σ (s.submitTake c p i d ps input) := by
  unfold State.submitTake
  split
  · exact (hs.takeSlot ‹_›).refuse
  · refine .ite hs.attach (.ite hs.refuse ?_)
    dsimp only
    split
    · exact hs.refuse
    · exact hs.attach

theorem Keeps.submitOn (hs : Keeps σ s) {c p i d input} : Keeps σ (s.submitOn c p i d input) := by
  unfold State.submitOn
  extract_lets +onlyGivenNames len hostTok
  refine .ite hs.refuse ?_
  split
  · exact hs.refuseX
  · split
    · exact (Keeps.ite hs.tastePoison hs).refuseX
    · refine .ite hs.refuse ?_
      split
      · exact hs.refuse
      · exact hs.submitTake

theorem Keeps.submitCmd (hs : Keeps σ s) {fn sq d input} : Keeps σ (s.submitCmd fn sq d input) := by
  unfold State.submitCmd
  refine hs.takeSessC (fun _ _ _ => ?_)
  extract_lets +onlyGivenNames e
  split
  · exact hs.refuse
  · exact hs.busy
  · exact .ite hs.busy hs.submitOn
  · exact .ite hs.busy hs.submitOn
  · exact hs.submitOn

theorem Keeps.execSubmit (hs : Keeps σ s) {fn sq d input t} {ok} : Runs σ ok (execSubmit fn sq d input t s) :=
  .next hs.at.dmaFrom.submitCmd

theorem Keeps.atBoundary (hs : Keeps σ s) {i} : Keeps σ (s.atBoundary i) := by
  unfold State.atBoundary
  extract_lets +onlyGivenNames k
  split
  · exact hs
  · split
    · exact hs.boundaryReq
    · exact .ite hs.fixMark.restTimer.advanceRound hs

theorem Keeps.endNow (hs : Keeps σ s) {i st dt} : Keeps σ (s.endNow i st dt) := hs.endReq

theorem Keeps.closeSess (hs : Keeps σ s) {i cs} : Keeps σ (s.closeSess i cs) := by
  unfold State.closeSess
  extract_lets +onlyGivenNames now
  split
  · extract_lets +onlyGivenNames s1 _ s2
    have hs1 : Keeps σ s1 := hs.updEnt
    clear_value s1
    exact hs1.frame.atBoundary
  · exact hs.closeEntry.count.foldl (fun _ _ hu => hu.doneSess)
  · exact hs.endAttached.endRevives.closeEntry.count.foldl (fun _ _ hu => hu.doneSess)
  · exact hs.closeEntry.count.foldl (fun _ _ hu => hu.doneSess)

theorem Keeps.cancelCmd (hs : Keeps σ s) {c i d} : Keeps σ (s.cancelCmd c i d) := by
  unfold State.cancelCmd
  extract_lets +onlyGivenNames e cl hit
  refine .ite hs.refuse (.ite hs.busy ?_)
  extract_lets +onlyGivenNames s0 s1 s2
  have hs0 : Keeps σ s0 := .ite hs.stopDemotion hs
  clear_value s0
  have hs2 : Keeps σ s2 := .ite hs0.doneSess (.ite (.ite hs0.doneSess hs0.doneSess.updEnt.atBoundary) hs0.doneSess.endNow)
  clear_value s2
  exact .ite hs2.closeSess hs2

theorem Keeps.execCancel (hs : Keeps σ s) {fn sq d} {ok} : Runs σ ok (execCancel fn sq d s) :=
  .next (hs.takeSessC (fun _ _ _ => hs.cancelCmd))

theorem Keeps.pauseCmd (hs : Keeps σ s) {c i} : Keeps σ (s.pauseCmd c i) :=
  .ite hs.refuse (.ite hs.doneSess (.ite hs.doneSess.updEnt.atBoundary hs.doneSess.endNow))

theorem Keeps.execPause (hs : Keeps σ s) {fn sq d} {ok} : Runs σ ok (execPause fn sq d s) :=
  .next (hs.takeSessC (fun _ _ _ => hs.pauseCmd))

theorem Keeps.execClose (hs : Keeps σ s) {fn sq d} {ok} : Runs σ ok (execClose fn sq d s) :=
  .next (hs.takeSessC (fun _ _ _ => .ite hs.busy hs.closeSess))

theorem Keeps.parkCmd (hs : Keeps σ s) {c i d} : Keeps σ (s.parkCmd c i d) := by
  unfold State.parkCmd
  extract_lets +onlyGivenNames e t ttl setTtl go
  have hset : ∀ u, Keeps σ u → Keeps σ (setTtl u) := fun _ hu => .ite hu hu.updEnt
  clear_value setTtl
  have hgo : ∀ u all, Keeps σ u → Keeps σ (go u all) := by
    intro u all hu
    unfold go
    split
    · exact hu.raise.refuse
    · exact (hset _ hu).startDemotion
  clear_value go e
  split
  · exact hgo _ _ hs
  · split
    · refine .ite hs.raise.refuse ?_
      extract_lets +onlyGivenNames s1
      have hs1 : Keeps σ s1 := (hset _ hs).startTtl
      clear_value s1
      exact hs1.frame
    · exact hgo _ _ hs
  · split
    · exact hs.raise.refuse
    · extract_lets +onlyGivenNames s1
      have hs1 : Keeps σ s1 := hs.endAttached.endRevives.dropDev.dropCopies
      clear_value s1
      exact (hset _ hs1).startDemotion
  · exact hs.refuse
  · exact hs.busy

theorem Keeps.execPark (hs : Keeps σ s) {fn sq d} {ok} : Runs σ ok (execPark fn sq d s) :=
  .next (hs.takeSessC (fun _ _ _ => hs.parkCmd))

theorem Keeps.reviveCmd (hs : Keeps σ s) {c i w} : Keeps σ (s.reviveCmd c i w) := by
  unfold State.reviveCmd
  extract_lets +onlyGivenNames e
  split
  · exact hs.doneSess
  · exact hs.doneSess
  · refine .ite hs.refuse ?_
    extract_lets +onlyGivenNames kib
    split
    · exact hs.refuse
    · exact hs.startDev
  · exact hs.frame
  · exact hs.refuse
  · exact hs.busy

theorem Keeps.execRevive (hs : Keeps σ s) {fn sq d} {ok} : Runs σ ok (execRevive fn sq d s) :=
  .next (hs.takeSessC (fun _ _ _ => hs.reviveCmd))

theorem Keeps.forkOn (hs : Keeps σ s) {c i d} : Keeps σ (s.forkOn c i d) := by
  unfold State.forkOn
  extract_lets +onlyGivenNames e pre ttl all cnt n h
  refine .ite hs.refuse (.ite hs.refuse (.ite hs.quotaReached.refuse ?_))
  split
  · exact hs.raise.refuse
  · refine .ite hs.raise.refuse (.ite hs.refuse ?_)
    extract_lets +onlyGivenNames s1 s2 _ s3 s4 s5
    have hs2 : Keeps σ s2 := hs.makeSession.updEnt.updEnt
    clear_value s2
    exact (Keeps.ite hs2.frame.sharePages.toState.startTtl hs2.frame.sharePages).setRes.doneSess

theorem Keeps.execFork (hs : Keeps σ s) {fn sq d} {ok} : Runs σ ok (execFork fn sq d s) := by
  unfold Machine.execFork
  refine .next (hs.takeSessC (fun _ _ _ => ?_))
  split
  · exact hs.forkOn
  · exact hs.forkOn
  · exact hs.refuse
  · exact hs.busy

theorem Keeps.setTtlCmd (hs : Keeps σ s) {c i ttl} : Keeps σ (s.setTtlCmd c i ttl) := by
  unfold State.setTtlCmd
  extract_lets +onlyGivenNames e
  split
  · exact hs.refuse
  · exact hs.busy
  · exact (Keeps.ite hs.updEnt.startTtl hs.updEnt).doneSess

theorem Keeps.execSetTtl (hs : Keeps σ s) {fn sq d} {ok} : Runs σ ok (execSetTtl fn sq d s) :=
  .next (hs.takeSessC (fun _ _ _ => hs.setTtlCmd))

theorem Keeps.queryCmd (hs : Keeps σ s) {c p i} : Keeps σ (s.queryCmd c p i) := hs.doneSess

theorem Keeps.execQuery (hs : Keeps σ s) {fn sq d} {ok} : Runs σ ok (execQuery fn sq d s) :=
  .next (hs.takeSessC (fun _ _ _ => hs.queryCmd))

theorem Keeps.ttlVisit {s0 : State} (hs0 : Keeps σ s0) {i} : Keeps σ (s0.ttlVisit i) :=
  .ite hs0.entryRead (.ite hs0.entryRead.count.stopDemotion.toState.stopTtl.raise hs0.entryRead.count.closeEntry)

theorem Keeps.execTtlScan (hs : Keeps σ s) {half first last} {ok} : Runs σ ok (execTtlScan half first last s) :=
  .next (hs.foldl (fun _ _ hu => hu.ttlVisit))

theorem Keeps.keepModes (hs : Keeps σ s) {p} : Keeps σ (s.keepModes p) := hs.frame

theorem Keeps.modeWrite (hs : Keeps σ s) {p sub v} : KeepsOk σ (s.modeWrite p sub v) := .ok ((Keeps.ite hs.keepModes hs).dset)

theorem Keeps.execFunctionSplitWrite (hs : Keeps σ s) {o p sub v} {ok} : Runs σ ok (execFunctionSplitWrite o p sub v s) :=
  .next (hs.writeRow (fun _ hu => hu.modeWrite))

theorem Keeps.execQuotaWrite (hs : Keeps σ s) {o p sub v} {ok} : Runs σ ok (execQuotaWrite o p sub v s) :=
  .next (hs.writeRow (fun _ hu => .ok hu.dset.relatch))

end Sys2Proof.Machine
end

section
/-! What the operations of Machine/Moves leave follows the state that they are given. -/

namespace Sys2Proof.Machine
set_option Elab.async false

variable {σ s t u : State}

theorem Keeps.devAgain (hs : Keeps σ s) {i} : Keeps σ (s.devAgain i) := .ite hs hs.startDevOpen

theorem Keeps.fromMoving (hs : Keeps σ s) {i before ttlLeft} : Keeps σ (s.fromMoving i before ttlLeft) := by
  unfold State.fromMoving
  extract_lets +onlyGivenNames e park
  refine .ite (.ite ?_ hs.toState.devAgain) (.ite hs.updEnt.toState.updEnt hs.updEnt.toState.devAgain)
  extract_lets +onlyGivenNames s1
  have hs1 : Keeps σ s1 := hs.toState.updEnt
  clear_value s1
  refine .ite hs1.endReq ?_
  extract_lets +onlyGivenNames kib
  split
  · exact hs1.endReq
  · exact hs1.startDev

theorem Keeps.leaveMoving (hs : Keeps σ s) {i before ttlLeft} : Keeps σ (s.leaveMoving i before ttlLeft) :=
  hs.frame.fromMoving.relatch

theorem Keeps.copyTo (hs : Keeps σ s) {h st p} : Keeps σ (s.copyTo h st p).1 := by
  unfold State.copyTo
  refine .ite_fst ?_ ?_
  · exact .fst hs.allocT1.addMember
  · exact hs.allocPair

theorem Keeps.movePage (hs : Keeps σ s) {i h l pidx r} : Keeps σ (s.movePage i h l pidx r) := by
  unfold State.movePage
  split
  · exact hs
  · split
    · exact hs
    · extract_lets +onlyGivenNames st
      split
      · exact .ite hs.updPage hs.copyTo.negCopy.scrubT1.scrubT1.subCharge.addCharge.updPage
      · extract_lets +onlyGivenNames id c low q _ _ s1 s2
        have hc : Keeps σ c.1 := by
          unfold c
          refine .ite_fst ?_ ?_
          · exact hs.copyTo
          · exact .fst hs
        clear_value c
        have hlow : Keeps σ low.1 := by
          unfold low
          refine .ite_fst ?_ ?_
          · exact .fst hc
          · exact hc.putLow
        clear_value low
        have hs1 : Keeps σ s1 := hlow.frame
        clear_value s1
        exact ((Keeps.ite hs1.addCharge hs1).dropRef (fun _ _ _ hu => hu.dropPageLow)).setRef

theorem Keeps.movePages (hs : Keeps σ s) {i old h} : Keeps σ (s.movePages i old h) := by
  unfold State.movePages
  extract_lets +onlyGivenNames s1 t n p s2 s3
  have hs1 : Keeps σ s1 := hs.foldl (fun _ _ hu => hu.movePage)
  clear_value s1
  exact ((Keeps.ite hs1.scrubBlocks.subCharge hs1.dropLow).setTable.foldl (fun _ _ hu => hu.addBlock)).addCharge.setRoot

theorem Keeps.moveReqTo (hs : Keeps σ s) {i k j h} : Keeps σ (s.moveReqTo i k j h) := by
  unfold State.moveReqTo
  split
  · exact hs
  · exact hs.frame.subCharge.addCharge.updEnt

theorem Keeps.halfMoved (hs : Keeps σ s) {i m epoch} : Keeps σ (s.halfMoved i m epoch) := by
  unfold State.halfMoved
  extract_lets +onlyGivenNames e h _ _ s0 s1 s2 s3 s4
  have hs0 : Keeps σ s0 := hs.frame
  have hs2 : Keeps σ s2 := hs0.updEnt.movePages.leaveParent.updEnt
  clear_value s2
  have hs3 : Keeps σ s3 := by
    refine .ite ?_ hs2
    split
    · exact hs2.moveReqTo
    · split
      · exact hs2.moveReqTo
      · exact (hs2.takeSlot ‹_›).endReq
  exact hs3.leaveMoving.setRes.count.doneSess

theorem Keeps.deviceMoved (hs : Keeps σ s) {i m} : Keeps σ (s.deviceMoved i m) := by
  unfold State.deviceMoved
  extract_lets +onlyGivenNames e newH _ x _ _ s0 s1 _ s2
  have hs1 : Keeps σ s1 := by
    unfold s1
    split
    · exact hs.frame
    · extract_lets +onlyGivenNames u
      have hu : Keeps σ u := hs.frame.subCharge.endExchs
      clear_value u
      exact hu.frame
  clear_value s1
  have hs2 : Keeps σ s2 := .ite hs1.dropAll.leaveParent.updEnt.toState hs1.closeEntry
  clear_value s2
  exact hs2.relatch.count.send

theorem Keeps.moveFails (hs : Keeps σ s) {i m epoch} : Keeps σ (s.moveFails i m epoch) :=
  (Keeps.ite hs.frame hs.frame.updEnt).leaveMoving.doneSess

theorem Keeps.becomeOwner (hs : Keeps σ s) {i x epoch} : Keeps σ (s.becomeOwner i x epoch) := by
  unfold State.becomeOwner
  extract_lets +onlyGivenNames _ _ s0 s1 e
  have hs1 : Keeps σ s1 := hs.frame.updEnt
  clear_value s1
  exact .ite hs1.frame.leaveMoving.setRes.takeInput hs1.leaveMoving.setRes

theorem Keeps.endsNotOwner (hs : Keeps σ s) {i owner} : Keeps σ (s.endsNotOwner i owner) := by
  unfold State.endsNotOwner
  extract_lets +onlyGivenNames e _ s1 s2
  have hs1 : Keeps σ s1 := by
    unfold s1
    split
    · exact hs.frame.doneSess
    · exact hs
  clear_value s1
  exact (Keeps.ite hs1.endReq hs1).endRevives

theorem Keeps.yields (hs : Keeps σ s) {i owner} : Keeps σ (s.yields i owner) := by
  unfold State.yields
  extract_lets +onlyGivenNames s1
  split
  · exact hs.endsNotOwner.closeEntry
  · extract_lets +onlyGivenNames s2
    have hs2 : Keeps σ s2 := hs.endsNotOwner.dropAll.setEnt
    clear_value s2
    exact hs2.frame.relatch

theorem Keeps.homeYields (hs : Keeps σ s) {i owner} : Keeps σ (s.homeYields i owner) := by
  unfold State.homeYields
  extract_lets +onlyGivenNames s1 e
  have hs1 : Keeps σ s1 := hs.endsNotOwner.stopDemotion.dropDev
  clear_value s1
  exact .ite hs1 hs1.frame.toState.stopTtl

theorem Keeps.offerTaken (hs : Keeps σ s) {i r epoch} : Keeps σ (s.offerTaken i r epoch) := by
  unfold State.offerTaken
  extract_lets +onlyGivenNames r1 u _ s1
  have hu : Keeps σ u := hs.updEnt
  have hs1 : Keeps σ s1 := hu.frame
  refine .ite hs1.sendFields ?_
  clear_value s1
  split
  · extract_lets +onlyGivenNames _ u1
    have hu1 : Keeps σ u1 := (hs1.reserveHalf.1 _ ‹_›).frame
    exact hu1.ownAsk
  · exact (hs1.reserveHalf.2 _ ‹_›).frame

theorem Keeps.offerRead (hs : Keeps σ s) {i r m} : Keeps σ (s.offerRead i r m) :=
  .ite hs.offerTaken (.ite hs (.ite hs.frame.moveFails hs.frame.moveFails.yields))

theorem Keeps.recordSays (hs : Keeps σ s) {i m noted} : Keeps σ (s.recordSays i m noted) := by
  unfold State.recordSays
  split
  · exact .ite hs (.ite hs.offerRead (.ite hs (.ite hs.halfMoved (.ite hs.deviceMoved (.ite hs.moveFails hs.moveFails.yields)))))
  · exact .ite hs (.ite (.ite hs.becomeOwner hs) (.ite hs.yields hs.frame.endsNotOwner))
  · exact .ite hs.yields hs

theorem Keeps.settleHome (hs : Keeps σ s) {i} : Keeps σ (s.settleHome i) := .ite hs.recordSays hs

theorem Keeps.homeTakes (hs : Keeps σ s) {i src sp m} : Keeps σ (s.homeTakes i src sp m).1 :=
  .fst (.ite hs.homeDoes.homeYields hs.homeDoes)

theorem Keeps.withdrawOffer (hs : Keeps σ s) {i reason cmd} : Keeps σ (s.withdrawOffer i reason cmd) :=
  .ite hs.frame.homeDoes.settleHome hs.frame.ownAsk

theorem Keeps.askOwner (hs : Keeps σ s) {i peer epoch clm cmd} : Keeps σ (s.askOwner i peer epoch clm cmd) :=
  .ite hs.ownAsk (.ite hs.frame hs.homeDoes.settleHome)

theorem Keeps.ownRequest (hs : Keeps σ s) {src part m} : Keeps σ (s.ownRequest src part m) := by
  unfold State.ownRequest
  extract_lets +onlyGivenNames i e none_ claim
  refine .ite hs.sendOwn (.ite hs.sendOwn ?_)
  split
  · exact hs.sendOwn
  · refine .ite hs.frame ?_
    extract_lets +onlyGivenNames r s1
    have hs1 : Keeps σ s1 := .ite hs.homeTakes hs.homeTakes.sendOwn
    clear_value s1
    exact .ite hs1.closeEntry hs1.settleHome

theorem Keeps.offerReply (hs : Keeps σ s) {i m} : Keeps σ (s.offerReply i m) := by
  unfold State.offerReply
  split
  · exact hs
  · refine .ite hs (.ite hs.offerTaken (.ite hs.offerRead ?_))
    extract_lets +onlyGivenNames st _ s1 s2
    have hs2 : Keeps σ s2 := hs.frame.leaveMoving.countRefusal.doneSess
    clear_value s2
    exact .ite hs2.recordSays hs2

theorem Keeps.notOffered (hs : Keeps σ s) {i} : Keeps σ (s.notOffered i) := by
  unfold State.notOffered
  split
  · exact .ite hs.frame.leaveMoving.doneSess hs
  · exact hs

theorem Keeps.claimed (hs : Keeps σ s) {i m} : Keeps σ (s.claimed i m) := .ite hs.updEnt hs

theorem Keeps.goalRead (hs : Keeps σ s) {i goal want c m peer} : Keeps σ (s.goalRead i goal want c m peer) :=
  .ite (.ite ((Keeps.ite hs.recordSays hs).busy) hs.doneSess.yields) (.ite hs.refuse (.ite hs.refuse (.ite hs.busy hs.askOwner)))

theorem Keeps.ownReply (hs : Keeps σ s) {r m} : Keeps σ (s.ownReply r m) := by
  unfold State.ownReply
  extract_lets +onlyGivenNames i _ s0
  split
  · split
    · exact .ite hs.frame.recordSays hs.frame
    · exact hs.frame.goalRead
  · exact .ite hs.frame.raise (.ite hs.frame.recordSays hs.frame)
  · exact hs.frame.offerReply
  · exact .ite hs.frame.recordSays.askOwner hs.frame.recordSays
  · extract_lets +onlyGivenNames s1 was s2
    have hs1 : Keeps σ s1 := .ite hs.frame.recordSays hs.frame
    clear_value s1
    have hs2 : Keeps σ s2 := .ite hs1.notOffered hs1
    clear_value s2
    split
    · exact .ite hs2.refuse hs2.doneSess
    · exact hs2
  · extract_lets +onlyGivenNames s1
    have hs1 : Keeps σ s1 := .ite hs.frame.recordSays.claimed hs.frame
    clear_value s1
    split
    · exact .ite hs1.doneSess hs1.refuse
    · exact hs1
  · exact hs.frame

theorem Keeps.learnHome (hs : Keeps σ s) {r src m} : Keeps σ (s.learnHome r src m) := .ite hs hs.frame

theorem Keeps.ownArrives (hs : Keeps σ s) {op src part hdr} : Keeps σ (s.ownArrives op src part hdr) := by
  unfold State.ownArrives
  refine .ite hs.discard ?_
  extract_lets +onlyGivenNames m
  split
  · exact hs.learnHome.ownReply
  · exact .ite hs.discard hs.ownRequest

theorem Keeps.execOwnRead (hs : Keeps σ s) {src part hdr} {ok} : Runs σ ok (execOwnRead src part hdr s) := .next hs.ownArrives

theorem Keeps.execOwnRenew (hs : Keeps σ s) {src part hdr} {ok} : Runs σ ok (execOwnRenew src part hdr s) := .next hs.ownArrives

theorem Keeps.execOwnOffer (hs : Keeps σ s) {src part hdr} {ok} : Runs σ ok (execOwnOffer src part hdr s) := .next hs.ownArrives

theorem Keeps.execOwnAccept (hs : Keeps σ s) {src part hdr} {ok} : Runs σ ok (execOwnAccept src part hdr s) := .next hs.ownArrives

theorem Keeps.execOwnRecall (hs : Keeps σ s) {src part hdr} {ok} : Runs σ ok (execOwnRecall src part hdr s) := .next hs.ownArrives

theorem Keeps.execOwnClaim (hs : Keeps σ s) {src part hdr} {ok} : Runs σ ok (execOwnClaim src part hdr s) := .next hs.ownArrives

theorem Keeps.execOwnRelease (hs : Keeps σ s) {src part hdr} {ok} : Runs σ ok (execOwnRelease src part hdr s) :=
  .next hs.ownArrives

theorem Keeps.execOwnNote (hs : Keeps σ s) {src part hdr} {ok} : Runs σ ok (execOwnNote src part hdr s) := by
  unfold Machine.execOwnNote
  refine .next (.ite hs.discard ?_)
  extract_lets +onlyGivenNames m
  split
  · exact hs.recordSays
  · exact hs

theorem Keeps.execOwnLeaseScan (hs : Keeps σ s) {half} {ok} : Runs σ ok (execOwnLeaseScan half s) :=
  .next (hs.foldl (fun _ _ hu => hu.scanRec.settleHome))

theorem Keeps.execOwnRenewTimer (hs : Keeps σ s) {idx} {ok} : Runs σ ok (execOwnRenewTimer idx s) := by
  unfold Machine.execOwnRenewTimer
  refine .next ?_
  split
  · exact .ite hs hs.frame.ownAsk
  · exact .ite hs.homeDoes hs

theorem Keeps.replyTimeout (hs : Keeps σ s) {i} : Keeps σ (s.replyTimeout i) := by
  unfold State.replyTimeout
  split
  · exact hs
  · extract_lets +onlyGivenNames g _ s0 p _ s1 n _ u _ s2 s3
    have hs0 : Keeps σ s0 := hs.frame
    clear_value s0
    have hs1 : Keeps σ s1 := hs0.ownAsk
    clear_value s1
    have hu : Keeps σ u := hs1.ownAsk
    clear_value u
    have hs2 : Keeps σ s2 := .ite hs1.frame hu.frame
    clear_value s2
    have hs3 : Keeps σ s3 := hs2.count
    exact .ite hs3.raise hs3

theorem Keeps.execOwnReplyTimeout (hs : Keeps σ s) {idx} {ok} : Runs σ ok (execOwnReplyTimeout idx s) := .next hs.replyTimeout

theorem Keeps.execFrozenEnd (hs : Keeps σ s) {ok} : Runs σ ok (execFrozenEnd s) := .next hs.frame

theorem Keeps.execStagedHoldExpiry (hs : Keeps σ s) {idx} {ok} : Runs σ ok (execStagedHoldExpiry idx s) := by
  unfold Machine.execStagedHoldExpiry
  refine .next ?_
  split
  · exact hs
  · exact .ite hs (.ite hs.yields (.ite hs.settleHome hs.ownAsk))

theorem Keeps.afterHold (hs : Keeps σ s) : Keeps σ s.afterHold := by
  unfold State.afterHold
  extract_lets +onlyGivenNames s1 held _ s2 s3
  have hs1 : Keeps σ s1 := by
    unfold s1
    refine hs.foldl (fun _ _ hu => .ite ?_ hu)
    extract_lets +onlyGivenNames u
    have hu : Keeps σ u := hu.sendOwn
    clear_value u
    exact hu.frame
  clear_value s1
  exact (hs1.frame.foldl (fun _ _ hu => hu.ownRequest)).foldl (fun _ _ hu => .ite hu.startWaitingMove hu)

theorem Keeps.sendObject (hs : Keeps σ s) {i r l pidx} : Keeps σ (s.sendObject i r l pidx) := by
  unfold State.sendObject
  split
  · exact hs.sendMove
  · exact hs

theorem Keeps.execMoveGuest (hs : Keeps σ s) {src part hdr} {ok} : Runs σ ok (execMoveGuest src part hdr s) := by
  unfold Machine.execMoveGuest
  extract_lets +onlyGivenNames i
  refine .next (.ite hs.discard ?_)
  split
  · exact hs
  · exact .ite hs (hs.frame.foldl (fun _ _ hu => hu.sendObject))

theorem Keeps.execMoveRefuse (hs : Keeps σ s) {src part hdr} {ok} : Runs σ ok (execMoveRefuse src part hdr s) := by
  unfold Machine.execMoveRefuse
  extract_lets +onlyGivenNames i
  refine .next (.ite hs.discard ?_)
  split
  · exact hs
  · exact .ite hs hs.withdrawOffer

theorem Keeps.execMoveResend (hs : Keeps σ s) {src part hdr} {ok} : Runs σ ok (execMoveResend src part hdr s) := by
  unfold Machine.execMoveResend
  extract_lets +onlyGivenNames i l x
  refine .next (.ite hs.discard ?_)
  split
  · exact hs
  · exact .ite hs (.ite hs.withdrawOffer hs.frame.sendObject)

theorem Keeps.stagedDone (hs : Keeps σ s) {i} : Keeps σ (s.stagedDone i) := by
  unfold State.stagedDone
  split
  · exact hs
  · exact .ite hs hs.frame.setRoot.askOwner

theorem Keeps.stageSession (hs : Keeps σ s) {src part h e ttlLeft} : Keeps σ (s.stageSession src part h e ttlLeft) := by
  unfold State.stageSession
  extract_lets +onlyGivenNames refuse home hf
  have hrefuse : ∀ u st, Keeps σ u → Keeps σ (refuse u st) := fun _ _ hu => hu.sendMove
  clear_value refuse
  split
  · extract_lets +onlyGivenNames kib
    refine .ite (hrefuse _ _ hs) ?_
    split
    · rename_i x hx
      split at hx
      · exact hrefuse _ _ (hs.takeSlot hx)
      · cases hx
    · extract_lets +onlyGivenNames old _ e0 e1 x s1 _ _ s2
      have hs1 : Keeps σ s1 := hs.setEnt.newTable
      clear_value s1
      have hs2 : Keeps σ s2 := hs1.frame
      exact hs2.sendMove.stagedDone
  · exact hrefuse _ _ hs

theorem Keeps.fieldsAgain (hs : Keeps σ s) {i x sv} : Keeps σ (s.fieldsAgain i x sv) := by
  unfold State.fieldsAgain
  extract_lets +onlyGivenNames e answer
  have hanswer : ∀ u, Keeps σ u → Keeps σ (answer u) := fun _ hu => hu.sendMove
  clear_value answer
  refine .ite (hanswer _ hs) (.ite (hanswer _ hs.updEnt.relatch) ?_)
  split
  · exact (hs.takeSlot ‹_›).sendMove
  · exact hanswer _ hs.updEnt

theorem Keeps.execMoveFields (hs : Keeps σ s) {src part hdr data crc} {ok} : Runs σ ok (execMoveFields src part hdr data crc s) := by
  unfold Machine.execMoveFields
  extract_lets +onlyGivenNames h e
  refine .next (.ite hs.discard ?_)
  split
  · exact .ite hs.fieldsAgain hs.yields.stageSession
  · exact hs.stageSession

theorem Keeps.stagePage (hs : Keeps σ s) {i l pidx p b} : KeepsIn σ (s.stagePage i l pidx p b) := by
  unfold State.stagePage
  extract_lets +onlyGivenNames e h g s0 id put
  refine .ite ?_ ?_
  · extract_lets +onlyGivenNames c
    have hc : Keeps σ c.1 := hs.reach.addCharge.copyTo
    clear_value c
    exact .ite .none (.some ((Keeps.ite hc.frame.addCharge hc.frame).setRef))
  · split
    · exact .none
    · extract_lets +onlyGivenNames c
      have hc : Keeps σ c.1 := hs.reach.addCharge.putLow
      clear_value c
      exact .ite .none (.some ((Keeps.ite hc.frame.addCharge hc.frame).setRef))

theorem Keeps.execMoveObject (hs : Keeps σ s) {src part hdr data crc} {ok} : Runs σ ok (execMoveObject src part hdr data crc s) := by
  unfold Machine.execMoveObject
  extract_lets +onlyGivenNames i l pidx ps
  refine .next (.ite hs.discard ?_)
  split
  · extract_lets +onlyGivenNames e cnt
    refine .ite hs ?_
    extract_lets +onlyGivenNames asked x1 _ again n
    split
    · exact .ite hs hs.frame.sendMove
    · split
      · exact hs.sendMove
      · exact (hs.stagePage _ ‹_›).frame.stagedDone
  · exact hs

theorem Keeps.execMoveEnds (hs : Keeps σ s) {idx hdr} {ok} : Runs σ ok (execMoveEnds idx hdr s) := by
  unfold Machine.execMoveEnds
  refine .next ?_
  split
  · exact .ite hs (.ite hs.homeDoes.settleHome hs.askOwner)
  · exact .ite hs.settleHome (.ite hs.recordSays hs)

theorem Keeps.execMoveRelay (hs : Keeps σ s) {src part hdr data crc} {ok} : Runs σ ok (execMoveRelay src part hdr data crc s) := by
  unfold Machine.execMoveRelay
  extract_lets +onlyGivenNames h q
  refine .next (.ite hs.discard ?_)
  split
  · exact hs
  · extract_lets +onlyGivenNames last ack
    refine .ite hs (.ite hs.sendMove ?_)
    extract_lets +onlyGivenNames _ s1 s2
    have hs2 : Keeps σ s2 := .ite hs.frame.send (.ite hs.frame.post hs.frame)
    clear_value s2
    exact hs2.sendMove

theorem Keeps.execMoveRelayAck (hs : Keeps σ s) {src _part hdr} {ok} : Runs σ ok (execMoveRelayAck src _part hdr s) :=
  .next (.ite hs.discard hs.frame)

theorem Keeps.execRelayResendTimer (hs : Keeps σ s) {peer handle rseq} {ok} : Runs σ ok (execRelayResendTimer peer handle rseq s) := by
  unfold Machine.execRelayResendTimer
  refine .next ?_
  split
  · exact hs
  · exact hs.sendMove

theorem Keeps.migrateCmd (hs : Keeps σ s) {c i d} : Keeps σ (s.migrateCmd c i d) := by
  unfold State.migrateCmd
  extract_lets +onlyGivenNames e half after m keep
  split
  · exact hs.startMove
  · exact hs.startMove
  · refine .ite hs.busy (.ite hs.frame (.ite hs.frame.updEnt.atBoundary ?_))
    split
    · exact .ite hs.frame hs.startMove
    · exact hs.startMove
  · exact hs.refuse
  · exact hs.busy

theorem Keeps.execMigrate (hs : Keeps σ s) {fn sq d} {ok} : Runs σ ok (execMigrate fn sq d s) :=
  .next (hs.takeSessC (fun _ _ _ => .ite hs.refuse hs.migrateCmd))

theorem Keeps.execRecall (hs : Keeps σ s) {fn sq d} {ok} : Runs σ ok (execRecall fn sq d s) := by
  unfold Machine.execRecall
  refine .next (hs.takeSessC (fun _ _ _ => .ite hs.refuse ?_))
  split
  · exact hs.doneSess
  · exact .ite hs.frame.doneSess.doneSess (.ite hs.withdrawOffer.doneSess hs.withdrawOffer)

theorem Keeps.claimDrop {s0 : State} (hs0 : Keeps σ s0) {c i epoch} : Keeps σ (s0.claimDrop c i epoch) :=
  .ite hs0.leaseEnds.refuse (.ite hs0.leaseEnds.refuse (.ite hs0.leaseEnds.refuse (.ite hs0.leaseEnds.refuse
      hs0.leaseEnds.writeRec.notes.unlapse.count.doneSess.closeEntry)))

theorem Keeps.claimHome (hs : Keeps σ s) {c i epoch} : Keeps σ (s.claimHome c i epoch) :=
  .ite hs.homeDoes.refuse hs.homeDoes.settleHome.doneSess

theorem Keeps.claimCmd (hs : Keeps σ s) {c p i d} : Keeps σ (s.claimCmd c p i d) :=
  .ite hs.refuseX (.ite hs.refuse (.ite (.ite hs.refuse hs.claimDrop) (.ite hs.refuse (.ite hs.claimHome hs.ownAsk))))

theorem Keeps.execClaim (hs : Keeps σ s) {fn sq d} {ok} : Runs σ ok (execClaim fn sq d s) :=
  .next (hs.takeSessC (fun _ _ _ => hs.claimCmd))

theorem Keeps.execWhere (hs : Keeps σ s) {fn sq d} {ok} : Runs σ ok (execWhere fn sq d s) :=
  .next (hs.takeSessC (fun _ _ _ => .ite hs.refuse hs.send))

theorem Keeps.execDiscard (hs : Keeps σ s) {fn sq d} {ok} : Runs σ ok (execDiscard fn sq d s) :=
  .next (hs.takeSessC (fun _ _ _ => .ite hs.refuseX (.ite hs.refuse (.ite hs.busy (.ite hs.goalRead hs.ownAsk)))))

end Sys2Proof.Machine
end

section
/-! What the operations of Machine/Vector leave follows the state that they are given. -/

namespace Sys2Proof.Machine
set_option Elab.async false

variable {σ s t u : State}

theorem Keeps.vecLoadIt (hs : Keeps σ s) {i} : Keeps σ (s.vecLoadIt i) := hs.frame.dsetN

theorem Keeps.vecSettle (hs : Keeps σ s) {i} : Keeps σ (s.vecSettle i) := by
  unfold State.vecSettle
  split
  · exact hs
  · exact .ite hs hs.frame.unlatch

theorem Keeps.vecUnloadIt (hs : Keeps σ s) {i} : Keeps σ (s.vecUnloadIt i) := hs.frame.dsetN.vecSettle

theorem Keeps.vecControl (hs : Keeps σ s) {i v} : KeepsOk σ (s.vecControl i v) := by
  unfold State.vecControl
  extract_lets +onlyGivenNames loaded
  refine .ite (.ite (.ite .error (.ok hs)) ?_) (.ite (.ok hs.vecUnloadIt) (.ok hs))
  split
  · exact .error
  · exact .ok hs.vecLoadIt

theorem Keeps.vecControlRow (hs : Keeps σ s) {o i v} : Keeps σ (s.vecControlRow o i v) :=
  (Keeps.ite hs.raise hs).writeRow (fun _ hu => hu.vecControl)

theorem Keeps.execIndexLoad (hs : Keeps σ s) {o id v} {ok} : Runs σ ok (execIndexLoad o id v s) := .next hs.vecControlRow

theorem Keeps.execIndexUnload (hs : Keeps σ s) {o id v} {ok} : Runs σ ok (execIndexUnload o id v s) := .next hs.vecControlRow

theorem Keeps.vecReload (hs : Keeps σ s) : Keeps σ s.vecReload := by
  unfold State.vecReload
  refine hs.foldl (fun _ _ hu => .ite ?_ hu)
  split
  · exact hu.vecLoadIt
  · exact hu.dsetN.raise

theorem Keeps.holdEpoch (hs : Keeps σ s) {i v} : KeepsOk σ (s.holdEpoch i v) := .ite (.ok hs.dset) .error

theorem Keeps.execHoldEpochWrite (hs : Keeps σ s) {o id v} {ok} : Runs σ ok (execHoldEpochWrite o id v s) :=
  .next (hs.writeRow (fun _ hu => hu.holdEpoch))

theorem Keeps.vecTake (hs : Keeps σ s) {k : Cmd → Nat → VIndex → State} (hk : ∀ a b c, Keeps σ
    (k a b c)) {op fn sq d lc bad i w} : Keeps σ (s.vecTake op fn sq d lc bad i w k) := by
  unfold State.vecTake
  refine hs.take (fun _ _ => .ite hs.refuse (.ite hs.refuseX ?_))
  split
  · exact hs.refuse
  · exact .ite hs.refuse (.ite hs.park (hk _ _ _))

theorem Keeps.vecAgain (hs : Keeps σ s) {k : VIndex → State} (hk : ∀ a, Keeps σ (k a)) {i} : Keeps σ (s.vecAgain i k) := by
  unfold State.vecAgain
  split
  · exact (hk _).vecSettle
  · exact hs

theorem Keeps.vecPoisoned (hs : Keeps σ s) {c p h} : Keeps σ (s.vecPoisoned c p h) := hs.tastePoison.refuse

theorem Keeps.writeItem (hs : Keeps σ s) {x e r p} : Keeps σ (s.writeItem x e r p) := hs.devWrite.devWrite.count

theorem Keeps.publish (hs : Keeps σ s) {i x e} : Keeps σ (s.publish i x e) := by
  unfold State.publish
  extract_lets +onlyGivenNames s1
  have hs1 : Keeps σ s1 := hs.devWrite
  clear_value s1
  exact hs1.frame

theorem Keeps.exhausted (hs : Keeps σ s) {c p i} : Keeps σ (s.exhausted c p i) := hs.raise.refuse

theorem Keeps.insertCmd (hs : Keeps σ s) {c p i y d input} : Keeps σ (s.insertCmd c p i y d input) := by
  unfold State.insertCmd
  extract_lets +onlyGivenNames x n e
  split
  · exact hs.refuse
  · refine .ite hs.exhausted (.ite hs.vecPoisoned ?_)
    extract_lets +onlyGivenNames rs
    refine .ite hs.refuse ?_
    extract_lets +onlyGivenNames recs
    split
    · exact hs.raiseOnce.done
    · exact hs.vecPoisoned
    · exact hs.refuse
    · exact (hs.foldl (fun _ _ hu => hu.writeItem)).publish.count.unlatch.dmaTo.done

theorem Keeps.execVsInsert (hs : Keeps σ s) {fn sq d input} {ok} : Runs σ ok (execVsInsert fn sq d input s) :=
  .next (hs.dmaFrom.vecTake (fun _ _ _ => hs.dmaFrom.insertCmd))

theorem Keeps.deleteItem (hs : Keeps σ s) {x e r} : Keeps σ (s.deleteItem x e r) := hs.devWrite.devWrite

theorem Keeps.deleteCmd (hs : Keeps σ s) {c p i y d input} : Keeps σ (s.deleteCmd c p i y d input) := by
  unfold State.deleteCmd
  extract_lets +onlyGivenNames x n e
  split
  · exact hs.refuse
  · refine .ite hs.exhausted (.ite hs.vecPoisoned ?_)
    extract_lets +onlyGivenNames rs
    split
    · exact hs.count.done
    · exact hs.vecPoisoned
    · exact hs.refuse
    · exact (hs.foldl (fun _ _ hu => hu.deleteItem)).publish.count.done

theorem Keeps.execVsDelete (hs : Keeps σ s) {fn sq d input} {ok} : Runs σ ok (execVsDelete fn sq d input s) :=
  .next (hs.dmaFrom.vecTake (fun _ _ _ => hs.dmaFrom.deleteCmd))

theorem Keeps.dropQuery (hs : Keeps σ s) {n q} : Keeps σ (s.dropQuery n q) := hs.frame.vecSettle

theorem Keeps.giveResults (hs : Keeps σ s) {n q ms} : Keeps σ (s.giveResults n q ms) := hs.dmaTo.count.done.dropQuery

theorem Keeps.rankQuery (hs : Keeps σ s) {n q} : Keeps σ (s.rankQuery n q) := by
  unfold State.rankQuery
  refine .ite hs.giveResults (.ite hs.done.dropQuery ?_)
  extract_lets +onlyGivenNames x src
  have hx : Keeps σ x.1 := hs.newExch
  clear_value x
  exact hx.frame

theorem Keeps.probe (hs : Keeps σ s) {n q m} : Keeps σ (s.probe n q m).1 := by
  unfold State.probe
  extract_lets +onlyGivenNames x ls r q1
  have hr : Keeps σ r.1 := by
    unfold r
    refine (Keeps.fst hs).foldl_fst (fun _ _ hu => hu.foldl_fst (fun _ _ hv => ?_))
    extract_lets +onlyGivenNames id t _ _ s1
    have hs1 : Keeps σ s1 := hv.frame
    clear_value s1
    exact .fst hs1.placeWork
  clear_value r
  exact .fst hr.count

theorem Keeps.probed (hs : Keeps σ s) {n f q} : Keeps σ (s.probed n f q) := by
  induction f generalizing s q with
  | zero => exact hs.rankQuery
  | succ f ih => exact .ite hs.frame (.ite (ih hs.probe.count) hs.rankQuery)

theorem Keeps.vsQueryCmd (hs : Keeps σ s) {c p i y d input} : Keeps σ (s.vsQueryCmd c p i y d input) := by
  unfold State.vsQueryCmd
  extract_lets +onlyGivenNames x
  refine .ite hs.refuse ?_
  split
  · exact hs.refuse
  · exact hs.refuse
  · exact .ite hs.refuse (.ite hs.vecPoisoned hs.frame.probe.probed)

theorem Keeps.execVsQuery (hs : Keeps σ s) {fn sq d input} {ok} : Runs σ ok (execVsQuery fn sq d input s) :=
  .next (hs.dmaFrom.vecTake (fun _ _ _ => hs.dmaFrom.vsQueryCmd))

theorem Keeps.scanDone (hs : Keeps σ s) {task} : Keeps σ (s.scanDone task) := by
  unfold State.scanDone
  split
  · exact hs
  · split
    · exact hs
    · extract_lets +onlyGivenNames x ps _ s0
      split
      · exact (Keeps.ite hs.frame.tastePoison hs.frame).refuse.dropQuery
      · exact hs.frame.count.probed

theorem Keeps.execScanTaskFinish (hs : Keeps σ s) {core task} : Runs σ (¬ (256 ≤ core)) (execScanTaskFinish core task s) :=
  .beyond (.ite hs.scanDone.nextWork hs)

theorem Keeps.vecReply (hs : Keeps σ s) {n idx} : Keeps σ (s.vecReply n idx) := by
  unfold State.vecReply
  split
  · exact hs
  · exact hs.giveResults

end Sys2Proof.Machine
end

section
/-! What the operations of Machine/Integrity leave follows the state that they are given. -/

namespace Sys2Proof.Machine
set_option Elab.async false

variable {σ s t u : State}

theorem Keeps.patternWrite (hs : Keeps σ s) {id v} : KeepsOk σ (s.patternWrite id v) := .ite .error (.ok hs.dset)

theorem Keeps.execPatternWrite (hs : Keeps σ s) {o id v} {ok} : Runs σ ok (execPatternWrite o id v s) :=
  .next (hs.writeRow (fun _ hu => hu.patternWrite))

theorem Keeps.katVerdict (hs : Keeps σ s) {c n r} : Keeps σ (s.katVerdict c n r) := by
  unfold State.katVerdict
  split
  · exact hs.frame.count
  · exact hs.frame.count.countCore.raise

theorem Keeps.endTest (hs : Keeps σ s) {x st dt aux} : Keeps σ (s.endTest x st dt aux) := hs.frame.done

theorem Keeps.katLeaves (hs : Keeps σ s) {c n byTest r st dt} : Keeps σ (s.katLeaves c n byTest r st dt) := by
  unfold State.katLeaves
  refine .ite ?_ hs.frame
  split
  · exact hs
  · split
    · exact hs.endTest
    · exact (Keeps.ite hs hs.dmaTo).endTest

theorem Keeps.katEnds (hs : Keeps σ s) {c x} : Keeps σ (s.katEnds c x) := by
  unfold State.katEnds
  split
  · extract_lets +onlyGivenNames b cv _ s1
    have hs1 : Keeps σ s1 := .ite hs.katLeaves (.ite hs.raise.katLeaves hs.katVerdict.katLeaves)
    clear_value s1
    exact hs1.nextWork
  · exact hs

theorem Keeps.execKatRunFinish (hs : Keeps σ s) {core x} : Runs σ (¬ (256 ≤ core)) (execKatRunFinish core x s) :=
  .beyond hs.katEnds

theorem Keeps.kickTest (hs : Keeps σ s) {c} : Keeps σ (s.kickTest c) := .ite hs.setCore hs

theorem Keeps.dropAuto (hs : Keeps σ s) {c} : Keeps σ (s.dropAuto c) := by
  unfold State.dropAuto
  extract_lets +onlyGivenNames x
  split
  · exact hs.setCore
  · exact hs

theorem Keeps.katStart (hs : Keeps σ s) {h} : Keeps σ (s.katStart h) := by
  unfold State.katStart
  extract_lets +onlyGivenNames s1 s2 on skip runs _ s3 s4
  have hs2 : Keeps σ s2 := hs.count.foldl (fun _ _ hu => hu.dropAuto)
  clear_value s2
  have hs4 : Keeps σ s4 := .ite (hs2.frame.foldl (fun _ _ hu => hu.raise)) hs2.frame
  clear_value s4
  exact hs4.foldl (fun _ _ hu => hu.kickTest)

theorem Keeps.execKatPeriod (hs : Keeps σ s) {half} {ok} : Runs σ ok (execKatPeriod half s) := .next hs.katStart

theorem Keeps.testCmd (hs : Keeps σ s) {c p d} : Keeps σ (s.testCmd c p d) := .ite hs.refuse (.ite hs.refuseX hs.frame.kickTest)

theorem Keeps.execTest (hs : Keeps σ s) {fn sq d} {ok} : Runs σ ok (execTest fn sq d s) := .next (hs.take (fun _ _ => hs.testCmd))

theorem Keeps.excludeLys (hs : Keeps σ s) {u} : Keeps σ (s.excludeLys u) := by
  unfold State.excludeLys
  extract_lets +onlyGivenNames was s1
  refine .ite hs.updLys ?_
  extract_lets +onlyGivenNames h g assisted s2
  have hs2 : Keeps σ s2 := hs.updLys.remirror.startRebuild
  clear_value s2
  exact .ite hs2.raise hs2

theorem Keeps.admitLys (hs : Keeps σ s) {u} : Keeps σ (s.admitLys u) := by
  unfold State.admitLys
  extract_lets +onlyGivenNames h g s1 own
  have hs1 : Keeps σ s1 := hs.updLys
  clear_value s1
  exact hs1.frame

theorem Keeps.excludeUnit (hs : Keeps σ s) {kind unit} : Keeps σ (s.excludeUnit kind unit) := by
  unfold State.excludeUnit
  split
  · exact hs.setCore
  · exact hs.excludeLink
  · exact hs.excludeLys
  · exact hs.frame

theorem Keeps.admitUnit (hs : Keeps σ s) {kind unit} : Keeps σ (s.admitUnit kind unit) := by
  unfold State.admitUnit
  split
  · exact hs.setCore.coreSetsTold.kick.kickTest
  · exact hs.readmitLink
  · exact hs.admitLys
  · exact hs.frame

theorem Keeps.excludeCmd (hs : Keeps σ s) {c p d} : Keeps σ (s.excludeCmd c p d) :=
  .ite hs.refuse (.ite hs.refuseX (.ite hs.done (.ite hs.refuse hs.excludeUnit.count.raise.done)))

theorem Keeps.execExclude (hs : Keeps σ s) {fn sq d} {ok} : Runs σ ok (execExclude fn sq d s) :=
  .next (hs.take (fun _ _ => hs.excludeCmd))

theorem Keeps.admitCmd (hs : Keeps σ s) {c p d} : Keeps σ (s.admitCmd c p d) :=
  .ite hs.refuse (.ite hs.refuseX (.ite hs.refuse (.ite ((Keeps.ite hs.readmitLink hs).done) hs.admitUnit.count.raise.done)))

theorem Keeps.execAdmit (hs : Keeps σ s) {fn sq d} {ok} : Runs σ ok (execAdmit fn sq d s) :=
  .next (hs.take (fun _ _ => hs.admitCmd))

theorem Keeps.forgoPage (hs : Keeps σ s) {c i l pidx pid g} : Keeps σ (s.forgoPage c i l pidx pid g) := by
  unfold State.forgoPage
  extract_lets +onlyGivenNames h
  split
  · exact hs.refuse
  · exact .ite hs.placePage.updPage.developed.doneSess hs.refuse

theorem Keeps.forgoCmd (hs : Keeps σ s) {c i d} : Keeps σ (s.forgoCmd c i d) := by
  unfold State.forgoCmd
  extract_lets +onlyGivenNames l x
  split
  · exact hs.refuse
  · split
    · exact hs.refuse
    · exact .ite hs.refuse hs.forgoPage

theorem Keeps.execForgo (hs : Keeps σ s) {fn sq d} {ok} : Runs σ ok (execForgo fn sq d s) :=
  .next (hs.takeSessC (fun _ _ _ => hs.forgoCmd))

theorem Keeps.execCounterClear (hs : Keeps σ s) {o idx v} {ok} : Runs σ ok (execCounterClear o idx v s) :=
  .next (hs.writeRow (fun _ hu => .ok (hu.frame (hc := fun h => h.clear _ _))))

theorem Keeps.dayRoll (hs : Keeps σ s) : Keeps σ s.dayRoll := .ite hs hs.frame.unlatch

theorem Keeps.dailyReport (hs : Keeps σ s) {h} : Keeps σ (s.dailyReport h) :=
  .ite hs.dayRoll (.ite hs.dayRoll.frame hs.dayRoll.frame.raiseOnce)

theorem Keeps.execDailyCountReport (hs : Keeps σ s) {half} {ok} : Runs σ ok (execDailyCountReport half s) := .next hs.dailyReport

end Sys2Proof.Machine
end

section
/-! What the operations of Machine/Assist leave follows the state that they are given. -/

namespace Sys2Proof.Machine
set_option Elab.async false

variable {σ s t u : State}

theorem Keeps.dropExch (hs : Keeps σ s) {x} : Keeps σ (s.dropExch x) := hs.frame

theorem Keeps.putRows (hs : Keeps σ s) {t n b l} : KeepsOk σ (s.putRows t n b l) := by
  induction l generalizing s b with
  | nil => exact .ok hs
  | cons i l ih =>
    unfold State.putRows
    split
    · exact ih (hs.setNow _ ‹_›)
    · exact .error

theorem Keeps.requantReply (hs : Keeps σ s) {x b} : Keeps σ (s.requantReply x b) := by
  unfold State.requantReply
  split
  · exact hs
  · extract_lets +onlyGivenNames first rest q1 n _ s0
    have hs0 : Keeps σ s0 := hs.frame
    refine .ite hs.frame (.ite hs0.embDone ?_)
    clear_value s0
    extract_lets +onlyGivenNames f
    split
    · exact (hs0.putRows _ ‹_›).embDone
    · exact hs0.sideFull.embDone

theorem Keeps.applyReply (hs : Keeps σ s) {x b} : Keeps σ (s.applyReply x b) := by
  unfold State.applyReply
  split
  · exact hs.updReq.promptReady
  · exact hs.updReq.detokDrain
  · exact hs.afterMask
  · exact hs.pickToken
  · exact hs.vecReply
  · exact hs.requantReply

theorem Keeps.replyCmd (hs : Keeps σ s) {c p d reply} : Keeps σ (s.replyCmd c p d reply) := by
  unfold State.replyCmd
  extract_lets +onlyGivenNames len
  split
  · exact hs.count.send
  · refine .ite hs.refuse ?_
    split
    · exact hs.refuse
    · exact .ite hs.refuse (.ite hs.refuse hs.dropExch.applyReply.send)

theorem Keeps.execAssistReply (hs : Keeps σ s) {fn sq d reply} {ok} : Runs σ ok (execAssistReply fn sq d reply s) :=
  .next (.ite (hs.dmaFrom.take (fun _ _ => hs.dmaFrom.replyCmd)) (hs.dmaFrom.takeSessC (fun _ _ _ => hs.dmaFrom.replyCmd)))

end Sys2Proof.Machine
end

section
/-! What the operations of Machine/Margin leave follows the state that they are given. -/

namespace Sys2Proof.Machine
set_option Elab.async false

variable {σ s t u : State}

theorem Keeps.setIsland (hs : Keeps σ s) {i x} : Keeps σ (s.setIsland i x) := hs.frame

theorem Keeps.replan {s0 : State} (hs0 : Keeps σ s0) {i} : Keeps σ (s0.replan i) := by
  unfold State.replan
  extract_lets +onlyGivenNames s x k c vp
  have hs : Keeps σ s := hs0.count
  clear_value s
  exact .ite hs.setIsland (.ite hs.frame.raise hs.frame.count.raise)

theorem Keeps.replanAll (hs : Keeps σ s) {f} : Keeps σ (s.replanAll f) := hs.foldl (fun _ _ hu => hu.replan)

theorem Keeps.stageOf (hs : Keeps σ s) {i} : Keeps σ (s.stageOf i) := hs.setIsland.dsetN.count.raise

theorem Keeps.quiesce (hs : Keeps σ s) : Keeps σ s.quiesce := hs.foldl (fun _ _ hu => hu.stageOf)

theorem Keeps.slackRead (hs : Keeps σ s) {i slack ring} : Keeps σ (s.slackRead i slack ring) :=
  .ite (.ite hs.setIsland.raise.stageOf hs.setIsland.raise) hs.setIsland

theorem Keeps.lifeTold (hs : Keeps σ s) : Keeps σ s.lifeTold := hs.foldl (fun _ _ hu => hu.frame.raise)

theorem Keeps.lifetime (hs : Keeps σ s) {temps} : Keeps σ (s.lifetime temps) := hs.frame.lifeTold

theorem Keeps.lifeSave (hs : Keeps σ s) : Keeps σ s.lifeSave := hs.frame

theorem Keeps.execLifetimeUpdate (hs : Keeps σ s) {temps} {ok} : Runs σ ok (execLifetimeUpdate temps s) := .next hs.lifetime

theorem Keeps.execLifetimePersist (hs : Keeps σ s) {ok} : Runs σ ok (execLifetimePersist s) := .next hs.lifeSave

theorem Keeps.execReplanPeriod (hs : Keeps σ s) {ok} : Runs σ ok (execReplanPeriod s) := .next hs.replanAll

theorem Keeps.execReplanNow (hs : Keeps σ s) {o v} {ok} : Runs σ ok (execReplanNow o v s) :=
  .next (hs.writeRow (fun _ hu => .ok hu.replanAll))

theorem Keeps.marginWrite (hs : Keeps σ s) {k sub v} : KeepsOk σ (s.marginWrite k sub v) := by
  unfold State.marginWrite
  split
  · exact .error
  · exact .ok (.ite hs.dset hs.dset.replanAll)

theorem Keeps.execMarginCurveWrite (hs : Keeps σ s) {o kind sub v} : Runs σ (¬ (17 ≤ kind)) (execMarginCurveWrite o kind sub v s) :=
  .beyond (hs.writeRow (fun _ hu => hu.marginWrite))

theorem Keeps.execSlackRead (hs : Keeps σ s) {island slack ring} : Runs σ (¬ (100 ≤ island)) (execSlackRead island slack ring s) :=
  .beyond hs.slackRead

theorem Keeps.planWrite (hs : Keeps σ s) {i n} : KeepsOk σ (s.planWrite i n) :=
  .ite (.ok hs.setIsland) (.ite (.ok hs) (.ite (.ok hs.setIsland) .error))

theorem Keeps.execPlanApprove (hs : Keeps σ s) {o island v} : Runs σ (¬ (100 ≤ island)) (execPlanApprove o island v s) :=
  .beyond (hs.writeRow (fun _ hu => hu.planWrite))

end Sys2Proof.Machine
end

section
/-! What the operations of Machine/Checkpoint leave follows the state that they are given. -/

namespace Sys2Proof.Machine
set_option Elab.async false

variable {σ s t u : State}

theorem Keeps.bathQuiet (hs : Keeps σ s) : Keeps σ s.bathQuiet := by
  unfold State.bathQuiet
  extract_lets +onlyGivenNames b
  refine .ite hs ?_
  extract_lets +onlyGivenNames _ s1 s2
  have hs2 : Keeps σ s2 := hs.frame.count.raise
  clear_value s2
  exact .ite hs2.quiesce hs2

theorem Keeps.execStopBathQuiet (hs : Keeps σ s) {ok} : Runs σ ok (execStopBathQuiet s) := .next hs.bathQuiet

theorem Keeps.fixerWrite (hs : Keeps σ s) {a b} : Keeps σ (s.fixerWrite a b) := hs.frame (hm := wf_writeN)

theorem Keeps.zeroSlot (hs : Keeps σ s) {k} : Keeps σ (s.zeroSlot k) := by
  unfold State.zeroSlot
  extract_lets +onlyGivenNames s1
  have hs1 : Keeps σ s1 := hs.fixerWrite
  clear_value s1
  exact hs1.frame

theorem Keeps.setCkpt (hs : Keeps σ s) {r} : Keeps σ (s.setCkpt r) := hs.frame

theorem Keeps.ckptFails (hs : Keeps σ s) {st} : Keeps σ (s.ckptFails st) := by
  unfold State.ckptFails
  split
  · exact hs
  · extract_lets +onlyGivenNames _ s1 s2 s3
    have hs3 : Keeps σ s3 := (Keeps.ite hs.frame.endBath hs.frame).count.raise
    clear_value s3
    split
    · exact hs3.refuse
    · exact hs3

theorem Keeps.ckptCheck (hs : Keeps σ s) : Keeps σ s.ckptCheck := by
  unfold State.ckptCheck
  split
  · exact hs
  · exact .ite hs.ckptFails (.ite hs.ckptFails hs)

theorem Keeps.execExtentLeaseLapse (hs : Keeps σ s) {part id} {ok} : Runs σ ok (execExtentLeaseLapse part id s) :=
  .next hs.lapseExtent.ckptCheck

theorem Keeps.execPoolLeaseLapse (hs : Keeps σ s) {lent peer ext} {ok} : Runs σ ok (execPoolLeaseLapse lent peer ext s) :=
  .next (.ite hs.freeLent hs.borrowLapse.lapsedDevs.ckptCheck)

theorem Keeps.execFlopiryStackLost (hs : Keeps σ s) {stack} : Runs σ (¬ (16 ≤ stack)) (execFlopiryStackLost stack s) :=
  .beyond hs.flashLost.ckptCheck

theorem Keeps.startCkpt (hs : Keeps σ s) {cmd double} : KeepsOk σ (s.startCkpt cmd double) :=
  .ite .error (.ite .error (.ite .error (.ite .error (.ok hs.zeroSlot.setCkpt))))

theorem Keeps.ckptCmd (hs : Keeps σ s) {c p double} : Keeps σ (s.ckptCmd c p double) := by
  unfold State.ckptCmd
  refine .ite hs.refuseX ?_
  split
  · exact hs.refuse
  · exact hs.startCkpt _ ‹_›

theorem Keeps.execCkpt (hs : Keeps σ s) {fn sq d} {ok} : Runs σ ok (execCkpt fn sq d s) := .next (hs.take (fun _ _ => hs.ckptCmd))

theorem Keeps.execCkptDouble (hs : Keeps σ s) {fn sq d} {ok} : Runs σ ok (execCkptDouble fn sq d s) :=
  .next (hs.take (fun _ _ => hs.ckptCmd))

theorem Keeps.zeroDurable (hs : Keeps σ s) : Keeps σ s.zeroDurable := by
  unfold State.zeroDurable
  split
  · exact hs
  · exact .ite hs (.ite hs.setCkpt (.ite hs.ckptFails (.ite hs.ckptFails hs.setCkpt.setBath)))

theorem Keeps.execCkptZeroDurable (hs : Keeps σ s) {ok} : Runs σ ok (execCkptZeroDurable s) := .next hs.zeroDurable

theorem Keeps.takeCut (hs : Keeps σ s) : Keeps σ s.takeCut := by
  unfold State.takeCut
  split
  · exact hs
  · exact .ite hs (.ite hs.setCkpt hs.setCkpt.endBath)

theorem Keeps.execCkptCut (hs : Keeps σ s) {ok} : Runs σ ok (execCkptCut s) := .next hs.takeCut

theorem Keeps.execCkptQuiesceTimeout (hs : Keeps σ s) {ok} : Runs σ ok (execCkptQuiesceTimeout s) := by
  unfold Machine.execCkptQuiesceTimeout
  refine .next ?_
  split
  · exact .ite hs.ckptFails hs
  · exact hs

theorem Keeps.slotWritten (hs : Keeps σ s) {k n} : Keeps σ (s.slotWritten k n) := .ite hs.frame hs

theorem Keeps.drained (hs : Keeps σ s) {h} : Keeps σ (s.drained h) := by
  unfold State.drained
  split
  · exact hs
  · split
    · exact hs
    · exact .ite hs (.ite hs.setCkpt (.ite hs.ckptFails hs.slotWritten.fixerWrite.setCkpt))

theorem Keeps.execDrainComplete (hs : Keeps σ s) {half} {ok} : Runs σ ok (execDrainComplete half s) := .next hs.ckptCheck.drained

theorem Keeps.execSheetDurable (hs : Keeps σ s) {ok} : Runs σ ok (execSheetDurable s) := by
  unfold Machine.execSheetDurable
  refine .next ?_
  extract_lets +onlyGivenNames s0
  split
  · split
    · exact .ite hs.ckptCheck.fixerWrite.setCkpt hs.ckptCheck
    · exact hs.ckptCheck
  · exact hs.ckptCheck

theorem Keeps.committed (hs : Keeps σ s) {r x} : Keeps σ (s.committed r x) := by
  unfold State.committed
  extract_lets +onlyGivenNames y _ s1 s2
  have hs2 : Keeps σ s2 := hs.frame.count.countUnits.raise
  clear_value s2
  refine .ite hs2.zeroSlot.setCkpt ?_
  extract_lets +onlyGivenNames _ s3 s4
  have hs4 : Keeps σ s4 := .ite hs2.frame.endBath hs2.frame
  clear_value s4
  split
  · exact hs4.done
  · exact hs4

theorem Keeps.execCommitDurable (hs : Keeps σ s) {ok} : Runs σ ok (execCommitDurable s) := by
  unfold Machine.execCommitDurable
  refine .next ?_
  extract_lets +onlyGivenNames s0
  split
  · split
    · exact .ite hs.ckptCheck.committed hs.ckptCheck
    · exact hs.ckptCheck
  · exact hs.ckptCheck

theorem Keeps.ckptAbortCmd (hs : Keeps σ s) {c p} : Keeps σ (s.ckptAbortCmd c p) :=
  .ite hs.refuseX (.ite hs.ckptFails.done hs.done)

theorem Keeps.execCkptAbort (hs : Keeps σ s) {fn sq d} {ok} : Runs σ ok (execCkptAbort fn sq d s) :=
  .next (hs.take (fun _ _ => hs.ckptAbortCmd))

theorem Keeps.releaseAll (hs : Keeps σ s) : Keeps σ s.releaseAll := by
  unfold State.releaseAll
  extract_lets +onlyGivenNames s1 s2 s3
  have hs1 : Keeps σ s1 := hs.foldl (fun _ _ hu => .ite hu hu.dropAll)
  clear_value s1
  have hs2 : Keeps σ s2 := hs1.foldl (fun _ _ hu => .ite hu hu.unmapOne)
  clear_value s2
  have hs3 : Keeps σ s3 := hs2.foldl (fun _ _ hu => hu.scrubT1.scrubT1)
  clear_value s3
  exact hs3.frame

theorem Keeps.startRestore (hs : Keeps σ s) {cmd n resume} : KeepsOk σ (s.startRestore cmd n resume) := by
  unfold State.startRestore
  refine .ite .error (.ite .error ?_)
  split
  · exact .error
  · exact .ite .error (.ok hs.releaseAll.frame)

theorem Keeps.execRestore (hs : Keeps σ s) {fn sq d} {ok} : Runs σ ok (execRestore fn sq d s) := by
  unfold Machine.execRestore
  refine .next (hs.take (fun _ _ => .ite hs.refuse (.ite hs.refuseX ?_)))
  split
  · exact hs.refuse
  · exact hs.startRestore _ ‹_›

theorem Keeps.loadSettings (hs : Keeps σ s) {x} : Keeps σ (s.loadSettings x) := by
  unfold State.loadSettings
  extract_lets +onlyGivenNames _ s1 s2
  have hs1 : Keeps σ s1 := hs.frame
  clear_value s1
  exact hs1.frame.reloadProfiles

theorem Keeps.placeAgain (hs : Keeps σ s) {pid p} : KeepsIn σ (s.placeAgain pid p) :=
  .ite
    (.ite (.ite .none (.some hs.allocT1.addMember.updPage)) (.ite .none (.some hs.allocPair.updPage)))
    (.bind fun _ _ => .ite .none (.some hs.putLow.updPage))

theorem Keeps.tablesAgain (hs : Keeps σ s) {i t} : KeepsIn σ (s.tablesAgain i t) := by
  have hblocks : Keeps σ (t.blocks.foldl (fun u b => u.addBlock i b.layer (b.kind, b.n))
      (s.setTable i { t with blocks := [], low := 0 })) :=
    hs.setTable.foldl (fun _ _ hu => hu.addBlock)
  exact .ite (.ite .none (.some hblocks.setRoot)) (.bind fun _ _ => .ite .none (.some hs.putLow.setTable.setRoot))

theorem Keeps.blkAgain (hs : Keeps σ s) {k b} : KeepsIn σ (s.blkAgain k b) := by
  unfold State.blkAgain
  extract_lets +onlyGivenNames r
  have hr : Keeps σ r.1 := hs.allocPair
  clear_value r
  exact .ite .none (.some hr.frame)

theorem Keeps.granAgain (hs : Keeps σ s) {g x} : KeepsIn σ (s.granAgain g x) := by
  unfold State.granAgain
  split
  · exact .some (hs.mapOne _ ‹_›)
  · exact hs.mapOne

theorem Keeps.foldSome {α : Type} (hs : Keeps σ s) {f : State → α → Option State} (hf : ∀ u a, Keeps σ u → KeepsIn σ (f u a)) {l} :
    KeepsIn σ (foldSome f s l) := by
  induction l generalizing s with
  | nil => exact .some hs
  | cons a l ih => exact .bind fun u hu => ih (hf _ _ hs u hu)

theorem Keeps.loadPages (hs : Keeps σ s) {x} : KeepsIn σ (s.loadPages x) := by
  unfold State.loadPages
  extract_lets +onlyGivenNames _ s1
  have hs1 : Keeps σ s1 := hs.frame
  clear_value s1
  exact .bind fun s2 h2 => .bind fun s3 h3 =>
    have hs2 : Keeps σ s2 := hs1.foldSome (fun _ _ hu => hu.placeAgain) s2 h2
    have hs3 : Keeps σ s3 := hs2.foldSome (fun _ _ hu => hu.tablesAgain) s3 h3
    hs3.foldSome (fun _ _ hu => hu.blkAgain)

theorem Keeps.loadGrans (hs : Keeps σ s) {x} : KeepsIn σ (s.loadGrans x) :=
  .map (hs.foldSome (fun _ _ hu => hu.granAgain)) fun _ hu =>
    hu.frame (hm := fun h => List.foldlRecOn (motive := fun m : Mem => m.wf = true) _ _ h fun _ hm _ _ => wf_write hm)

theorem Keeps.closeItems (hs : Keeps σ s) {i} : Keeps σ (s.closeItems i) := by
  unfold State.closeItems
  split
  · exact hs
  · exact hs.foldl (fun _ _ hu => hu.foldl (fun _ _ hv => .ite (hv.frame (hm := wf_writeN)) hv))

theorem Keeps.loadSessions (hs : Keeps σ s) {x} : Keeps σ (s.loadSessions x) := hs.frame

theorem Keeps.resend (hs : Keeps σ s) {x} : Keeps σ (s.resend x) := by
  unfold State.resend
  refine hs.foldl (fun _ _ hu => ?_)
  extract_lets +onlyGivenNames k r _ t1 seq w
  have ht1 : Keeps σ t1 := .ite hu.newExch hu
  clear_value t1
  have hw : Keeps σ w.1 := by
    unfold w
    refine (Keeps.fst ht1).foldl_fst (fun _ _ hv => ?_)
    split
    · exact .fst hv
    · exact .fst hv.newExch
  clear_value w
  exact hw.updReq

theorem Keeps.restart (hs : Keeps σ s) {x} : Keeps σ (s.restart x) := by
  unfold State.restart
  refine hs.foldl (fun _ _ hu => ?_)
  extract_lets +onlyGivenNames i
  split
  · exact hu.frame.developed
  · exact hu.frame
  · exact hu

theorem Keeps.abandonQuiet (hs : Keeps σ s) {h n st} : Keeps σ (s.abandonQuiet h n st) := by
  unfold State.abandonQuiet
  extract_lets +onlyGivenNames outs s1 l s2 _ s3 s4
  have hs2 : Keeps σ s2 := (hs.foldl (fun _ _ hu => hu.settleReq)).setLane
  clear_value s2
  exact hs2.frame.count.count.foldl (fun _ _ hu => hu.reportReq)

theorem Keeps.loadLane (hs : Keeps σ s) {k l resume} : Keeps σ (s.loadLane k l resume) := by
  unfold State.loadLane
  extract_lets +onlyGivenNames h n base
  split
  · exact hs.setLane
  · extract_lets +onlyGivenNames st1 s1
    refine .ite ?_ hs.setLane.abandonQuiet
    extract_lets +onlyGivenNames s2
    have hs2 : Keeps σ s2 := by
      unfold s2
      refine hs.setLane.foldl (fun _ _ hu => ?_)
      split
      · exact .ite hu.maskList hu
      · exact hu
    clear_value s2
    exact hs2.frame

theorem Keeps.loadImage (hs : Keeps σ s) {k x resume} : KeepsOk σ (s.loadImage k x resume) := by
  unfold State.loadImage
  split
  · exact .error
  · exact .error
  · extract_lets +onlyGivenNames s1
    have hs1 : Keeps σ s1 := hs.loadSettings.loadSessions
    clear_value s1
    split
    · exact .error
    · split
      · exact .error
      · rename_i s2 h2 _ s3 h3
        have hs3 : Keeps σ s3 := (hs1.loadPages s2 h2).loadGrans s3 h3
        extract_lets +onlyGivenNames _ s4 s5 s6 s7
        have hs4 : Keeps σ s4 := hs3.frame
        clear_value s4
        have hs6 : Keeps σ s6 := hs4.vecReload.foldl (fun _ _ hu => hu.dsetN.closeItems)
        clear_value s6
        exact .ok (hs6.restart.resend.foldl (fun _ _ hu => hu.loadLane))

theorem Keeps.execRestoreComplete (hs : Keeps σ s) {ok} : Runs σ ok (execRestoreComplete s) := by
  unfold Machine.execRestoreComplete
  refine .next ?_
  split
  · exact hs
  · extract_lets +onlyGivenNames _ s0
    have hs0 : Keeps σ s0 := hs.frame
    clear_value s0
    split
    · exact hs0
    · split
      · extract_lets +onlyGivenNames s1
        have hs1 : Keeps σ s1 := hs0.releaseAll.raise
        clear_value s1
        split
        · exact hs1.refuse
        · exact hs1
      · rename_i s1 h1
        have hs1 : Keeps σ s1 := hs0.loadImage s1 h1
        extract_lets +onlyGivenNames _ _ s2 s3
        have hs2 : Keeps σ s2 := hs1.frame
        clear_value s2
        have hs3 : Keeps σ s3 := hs2.count.raise
        clear_value s3
        split
        · exact hs3.done
        · exact hs3

theorem Keeps.ckptWrite (hs : Keeps σ s) {v} : KeepsOk σ (s.ckptWrite v) := .ite (.ok hs.ckptFails) (.ite hs.startCkpt .error)

theorem Keeps.restoreWrite (hs : Keeps σ s) {v} : KeepsOk σ (s.restoreWrite v) := .ite .error hs.startRestore

end Sys2Proof.Machine
end

section
/-! What the operations of Machine/Rings leave follows the state that they are given. -/

namespace Sys2Proof.Machine
set_option Elab.async false

variable {σ s t u : State}

theorem Keeps.updRing (hs : Keeps σ s) {k f} : Keeps σ (s.updRing k f) := hs.frame

theorem Keeps.fetch (hs : Keeps σ s) {k} : Keeps σ (s.fetch k) := by
  unfold State.fetch
  split
  · exact hs
  · extract_lets +onlyGivenNames n
    refine .ite hs (.ite hs.updRing.raise (.ite hs ?_))
    extract_lets +onlyGivenNames s1
    have hs1 : Keeps σ s1 := hs.updRing.count.countUnits
    clear_value s1
    exact .ite hs1 hs1.dmaTo

theorem Keeps.drain (hs : Keeps σ s) {k n} : Keeps σ (s.drain k n) := by
  induction n generalizing s with
  | zero => exact hs
  | succ n ih =>
    unfold State.drain
    split
    · exact hs
    · split
      · exact hs
      · exact .ite hs (ih hs.updRing.post.updRing)

theorem Keeps.drainRing (hs : Keeps σ s) {k} : Keeps σ (s.drainRing k) := by
  unfold State.drainRing
  split
  · exact hs
  · exact .ite (.ite hs.drain.unlatch (.ite (hs.drain.foldl (fun _ _ hu => hu.fetch)) hs.drain)) hs.drain

theorem Keeps.hostIndex (hs : Keeps σ s) {k v} : Keeps σ (s.hostIndex k v) := by
  unfold State.hostIndex
  split
  · exact hs
  · exact .ite hs.updRing.fetch hs.updRing.drainRing

theorem Keeps.execTailPoll (hs : Keeps σ s) {port fn id tail} : Runs σ (¬ (4 ≤ port)) (execTailPoll port fn id tail s) := by
  unfold Machine.execTailPoll
  refine .beyond ?_
  split
  · exact hs
  · exact .ite hs hs.count.hostIndex

theorem Keeps.execRingHeadUpdate (hs : Keeps σ s) {fn kind id head} {ok} : Runs σ ok (execRingHeadUpdate fn kind id head s) :=
  .next (.ite hs.hostIndex hs)

theorem Keeps.signal (hs : Keeps σ s) {fn vector} : Keeps σ (s.signal fn vector) := .ite hs.frame hs.frame.count

theorem Keeps.execMsixTimer (hs : Keeps σ s) {fn kind id} {ok} : Runs σ ok (execMsixTimer fn kind id s) := by
  unfold Machine.execMsixTimer
  refine .next ?_
  split
  · exact hs
  · exact .ite hs hs.updRing.signal

theorem Keeps.execMsixVectorUnmask (hs : Keeps σ s) {fn vector} : Runs σ (¬ (256 ≤ fn ∨ 2048 ≤ vector))
    (execMsixVectorUnmask fn vector s) :=
  .beyond (.ite hs.frame.signal hs.frame)

theorem Keeps.recheckStops (hs : Keeps σ s) : Keeps σ s.recheckStops := by
  unfold State.recheckStops
  extract_lets +onlyGivenNames st _ s1 s2 back s3
  have hs3 : Keeps σ s3 := (hs.frame.foldl (fun _ _ hu => hu.dmaTo)).foldl (fun _ _ hu => .ite hu hu.drainRing)
  clear_value s3
  exact hs3.foldl (fun _ _ hu => hu.fetch)

theorem Keeps.addRing (hs : Keeps σ s) {r n} : Keeps σ (s.addRing r n) := hs.frame

theorem Keeps.ringCreateCmd (hs : Keeps σ s) {c p d} : Keeps σ (s.ringCreateCmd c p d) :=
  .ite hs.refuse (.ite hs.refuse hs.addRing.done)

theorem Keeps.execRingCreate (hs : Keeps σ s) {fn sq d} {ok} : Runs σ ok (execRingCreate fn sq d s) :=
  .next (hs.take (fun _ _ => hs.ringCreateCmd))

theorem Keeps.dropRing (hs : Keeps σ s) {k} : Keeps σ (s.dropRing k) := by
  unfold State.dropRing
  split
  · exact hs
  · extract_lets +onlyGivenNames _ s1
    refine .ite ?_ hs.frame
    extract_lets +onlyGivenNames s2
    have hs2 : Keeps σ s2 := hs.frame.unlatch
    clear_value s2
    exact .ite hs2.frame hs2

theorem Keeps.ringDeleteCmd (hs : Keeps σ s) {c d} : Keeps σ (s.ringDeleteCmd c d) :=
  .ite hs.refuse (.ite hs.refuse hs.dropRing.done)

theorem Keeps.execRingDelete (hs : Keeps σ s) {fn sq d} {ok} : Runs σ ok (execRingDelete fn sq d s) :=
  .next (hs.take (fun _ _ => hs.ringDeleteCmd))

theorem Keeps.makeZero (hs : Keeps σ s) {fn p} : KeepsOk σ (s.makeZero fn p) := .ite .error (.ite .error (.ok hs.addRing.addRing))

theorem Keeps.dropZero (hs : Keeps σ s) {fn} : KeepsOk σ (s.dropZero fn) := .ite .error (.ok hs.dropRing.dropRing)

theorem Keeps.ring0Write (hs : Keeps σ s) {o v} : KeepsOk σ (s.ring0Write o v) := by
  unfold State.ring0Write
  split
  · split
    · exact .error
    · exact .ite hs.makeZero hs.dropZero
  · exact .error

theorem Keeps.execRing0Create (hs : Keeps σ s) {o v} {ok} : Runs σ ok (execRing0Create o v s) :=
  .next (hs.writeRow (fun _ hu => hu.ring0Write))

theorem Keeps.execRing0Delete (hs : Keeps σ s) {o v} {ok} : Runs σ ok (execRing0Delete o v s) :=
  .next (hs.writeRow (fun _ hu => hu.ring0Write))

end Sys2Proof.Machine
end

section
/-! What the operations of Machine/Cxl leave follows the state that they are given. -/

namespace Sys2Proof.Machine
set_option Elab.async false

variable {σ s t u : State}

theorem Keeps.observe (hs : Keeps σ s) {p l} : Keeps σ (s.observe p l) := hs.foldl (fun _ _ hu => hu.hostIndex)

theorem Keeps.lineWrite (hs : Keeps σ s) {p l b mask} : Keeps σ (s.lineWrite p l b mask) := hs.memWrite.observe

theorem Keeps.heldWrite (hs : Keeps σ s) {p l b mask} : Keeps σ (s.heldWrite p l b mask) := by
  unfold State.heldWrite
  extract_lets +onlyGivenNames s1
  have hs1 : Keeps σ s1 := hs.count
  clear_value s1
  exact .ite hs1 (.ite hs1.frame.raiseOnce hs1.frame)

theorem Keeps.outside (hs : Keeps σ s) {p hoff read} : Keeps σ (s.outside p hoff read) := hs.count.raiseSec.emit

theorem Keeps.wait (hs : Keeps σ s) {a} : Keeps σ (s.wait a) := hs.frame

/-- A line entered, or the recall that a full tracker begins, follows `σ`. -/
theorem Keeps.grant (hs : Keeps σ s) {p l own} :
    (∀ u, s.grant p l own = .error u → Keeps σ u) ∧ ∀ u, s.grant p l own = .ok u → Keeps σ u := by
  unfold State.grant
  extract_lets +onlyGivenNames q
  split
  · exact ⟨fun _ hu => (nomatch hu), fun _ hu => Except.ok.inj hu ▸ hs.updPort⟩
  · split
    · exact ⟨fun _ hu => Except.error.inj hu ▸ hs.getD_map (fun _ => hs.snoopLine), fun _ hu => nomatch hu⟩
    · exact ⟨fun _ hu => (nomatch hu), fun _ hu => Except.ok.inj hu ▸ hs.updPort⟩

theorem Keeps.serve (hs : Keeps σ s) {a} : Keeps σ (s.serve a) := by
  unfold State.serve
  split
  · exact hs.outside
  · extract_lets +onlyGivenNames l g ro
    refine .ite hs.wait (.ite hs.outside (.ite hs.wait (.ite hs.wait (.ite ?_ ?_))))
    · split
      · exact hs.heldWrite.emit
      · exact hs.count.emit
    · extract_lets +onlyGivenNames own holders
      refine .ite (hs.foldl (fun _ _ hu => hu.snoopLine)).wait ?_
      split
      · exact hs.touch.lineWrite.emit
      · split
        · exact (hs.grant.1 _ ‹_›).wait
        · exact (hs.grant.2 _ ‹_›).touch.emit

theorem Keeps.closings (hs : Keeps σ s) : Keeps σ s.closings := by
  unfold State.closings
  refine hs.foldl (fun _ _ hu => hu.foldl (fun _ _ hv => ?_))
  extract_lets +onlyGivenNames v1
  split
  · exact hv.updPort.done
  · exact hv.updPort

theorem Keeps.startClose (hs : Keeps σ s) {p k w c} : Keeps σ (s.startClose p k w c) :=
  hs.updPort.foldl (fun _ _ hu => hu.snoopLine)

theorem Keeps.closeOver (hs : Keeps σ s) {g n} : Keeps σ (s.closeOver g n) :=
  (hs.foldl (fun _ _ hu => hu.foldl (fun _ _ hv => hv.startClose))).closings

theorem Keeps.swap (hs : Keeps σ s) {x r} : Keeps σ (s.swap x r) := by
  unfold State.swap
  extract_lets +onlyGivenNames v r1 s1 _ s2 s3
  have hs1 : Keeps σ s1 := hs.closeOver
  clear_value s1
  exact (hs1.frame.foldl (fun _ _ hu => hu.unmapOne)).reanchor.count.done

theorem Keeps.pubStep (hs : Keeps σ s) {x} : Keeps σ (s.pubStep x) := by
  unfold State.pubStep
  extract_lets +onlyGivenNames _ gone
  split
  · exact hs.frame.refuse
  · exact .ite (.ite hs.swap hs) (.ite hs.frame.refuseX (.ite hs.frame.refuse (.ite hs.frame.count.done (.ite hs.frame.swap
        (hs.frame.foldl (fun _ _ hu => hu.snoopLine))))))

theorem Keeps.pubsOn (hs : Keeps σ s) {n} : Keeps σ (s.pubsOn n) := by
  induction n generalizing s with
  | zero => exact hs
  | succ n ih =>
    unfold State.pubsOn
    extract_lets +onlyGivenNames s1
    have hs1 : Keeps σ s1 := hs.foldl (fun _ _ hu => .ite hu.pubStep hu)
    exact .ite (ih hs1) hs1

theorem Keeps.cxlAgain (hs : Keeps σ s) : Keeps σ s.cxlAgain := by
  unfold State.cxlAgain
  extract_lets +onlyGivenNames s1 s2
  have hs2 : Keeps σ s2 := hs.closings.pubsOn.atomsAgain
  clear_value s2
  exact hs2.frame.foldl (fun _ _ hu => hu.serve)

theorem Keeps.withPort (hs : Keeps σ s) {p} : Runs σ (p < 4) (withPort p s) := (Runs.beyond hs).mono Nat.not_le.mpr

theorem Keeps.execCxlMemAccess (hs : Keeps σ s) {port hoff excl data mask} : Runs σ (port < 4)
    (execCxlMemAccess port hoff excl data mask s) :=
  (Keeps.ite hs.serve hs).withPort

theorem Keeps.execSqTailWrite (hs : Keeps σ s) {port fn id tail owned} : Runs σ (port < 4) (execSqTailWrite port fn id tail owned s) := by
  unfold Machine.execSqTailWrite
  refine Keeps.withPort ?_
  split
  · exact hs
  · split
    · exact hs
    · exact .ite hs hs.serve

theorem Keeps.execTailSnoopDelay (hs : Keeps σ s) {port fn id} : Runs σ (port < 4) (execTailSnoopDelay port fn id s) := by
  unfold Machine.execTailSnoopDelay
  refine Keeps.withPort ?_
  split
  · exact hs
  · exact .ite hs.snoopLine hs

theorem Keeps.lateBack (hs : Keeps σ s) {p l} : Keeps σ (s.lateBack p l) := hs.count.raiseSec

theorem Keeps.lineBack (hs : Keeps σ s) {p l b} : Keeps σ (s.lineBack p l b) := by
  unfold State.lineBack
  split
  · exact hs.lineWrite
  · exact .ite hs.count.raiseSec (.ite hs.heldWrite hs.lineWrite)

theorem Keeps.unhold (hs : Keeps σ s) {p l} : Keeps σ (s.unhold p l) := hs.updPort

theorem Keeps.execSnoopResponse (hs : Keeps σ s) {port line data keepShared} : Runs σ (port < 4)
    (execSnoopResponse port line data keepShared s) := by
  unfold Machine.execSnoopResponse
  refine Keeps.withPort ?_
  split
  · exact .ite hs.lateBack hs
  · extract_lets +onlyGivenNames s1 s2
    have hs1 : Keeps σ s1 := by
      unfold s1
      split
      · exact .ite hs.lineBack hs
      · exact hs
    clear_value s1
    exact (Keeps.ite hs1.updPort hs1.unhold).cxlAgain

theorem Keeps.execDirtyWriteback (hs : Keeps σ s) {port line data} : Runs σ (port < 4) (execDirtyWriteback port line data s) :=
  (Keeps.ite hs.lineBack.unhold.cxlAgain hs.lateBack).withPort

theorem Keeps.poisonLines (hs : Keeps σ s) {p} : Keeps σ (s.poisonLines p) := by
  unfold State.poisonLines
  extract_lets +onlyGivenNames ls bs s1
  have hs1 : Keeps σ s1 := (hs.foldl (fun _ _ hu => hu.poisonBlock)).updPort
  clear_value s1
  exact .ite hs1 hs1.count.raise

theorem Keeps.reclaim (hs : Keeps σ s) {p} : Keeps σ (s.reclaim p) := .ite hs.updPort hs.updPort.count.raise

theorem Keeps.lapseFns (hs : Keeps σ s) {f} : Keeps σ (s.lapseFns f) := (hs.foldl (fun _ _ hu => hu.lapseExtent)).ckptCheck

theorem Keeps.grantLease (hs : Keeps σ s) {p} : Keeps σ (s.grantLease p) := hs.updPort

theorem Keeps.execHostLeaseEnd (hs : Keeps σ s) {port} : Runs σ (port < 4) (execHostLeaseEnd port s) := by
  unfold Machine.execHostLeaseEnd
  refine Keeps.withPort (.ite hs ?_)
  extract_lets +onlyGivenNames s1 s2
  have hs1 : Keeps σ s1 := hs.updPort.raise
  clear_value s1
  exact (Keeps.ite hs1.poisonLines hs1.reclaim).lapseFns.cxlAgain

theorem Keeps.execRenew (hs : Keeps σ s) {fn sq d} {ok} : Runs σ ok (execRenew fn sq d s) :=
  .next (hs.take (fun _ _ => hs.grantLease.done))

theorem Keeps.windowOpenCmd (hs : Keeps σ s) {c p d} : Keeps σ (s.windowOpenCmd c p d) :=
  .ite hs.refuse (.ite hs.refuseX (.ite hs.refuse (.ite hs.refuseX (.ite hs.refuse (.ite hs.refuse (.ite hs.refuse
      (.ite hs.refuse hs.updPort.done)))))))

theorem Keeps.execWindowOpen (hs : Keeps σ s) {fn sq d} {ok} : Runs σ ok (execWindowOpen fn sq d s) :=
  .next (hs.take (fun _ _ => hs.windowOpenCmd))

theorem Keeps.windowCloseCmd (hs : Keeps σ s) {c p d} : Keeps σ (s.windowCloseCmd c p d) := by
  unfold State.windowCloseCmd
  split
  · exact hs.refuse
  · exact .ite hs.refuseX (.ite hs.refuse hs.startClose.cxlAgain)

theorem Keeps.execWindowClose (hs : Keeps σ s) {fn sq d} {ok} : Runs σ ok (execWindowClose fn sq d s) :=
  .next (hs.take (fun _ _ => hs.windowCloseCmd))

theorem Keeps.regionCreateCmd (hs : Keeps σ s) {c p d} : Keeps σ (s.regionCreateCmd c p d) :=
  .ite hs.refuse (hs.withAddr (.ite hs.refuse (.ite hs.refuse hs.frame.done)))

theorem Keeps.execRegionCreate (hs : Keeps σ s) {fn sq d} {ok} : Runs σ ok (execRegionCreate fn sq d s) :=
  .next (hs.take (fun _ _ => hs.regionCreateCmd))

theorem Keeps.regionDeleteCmd (hs : Keeps σ s) {c p d} : Keeps σ (s.regionDeleteCmd c p d) := by
  unfold State.regionDeleteCmd
  extract_lets +onlyGivenNames r
  split
  · exact hs.refuse
  · exact .ite hs.refuseX (.ite hs.refuse hs.frame.done)

theorem Keeps.execRegionDelete (hs : Keeps σ s) {fn sq d} {ok} : Runs σ ok (execRegionDelete fn sq d s) :=
  .next (hs.take (fun _ _ => hs.regionDeleteCmd))

theorem Keeps.regionQueryCmd (hs : Keeps σ s) {c p d} : Keeps σ (s.regionQueryCmd c p d) := by
  unfold State.regionQueryCmd
  extract_lets +onlyGivenNames r
  refine .ite hs.refuse ?_
  split
  · exact hs.refuse
  · exact .ite hs.refuseX hs.dmaTo.done

theorem Keeps.execRegionQuery (hs : Keeps σ s) {fn sq d} {ok} : Runs σ ok (execRegionQuery fn sq d s) :=
  .next (hs.take (fun _ _ => hs.regionQueryCmd))

theorem Keeps.publishCmd (hs : Keeps σ s) {c p d} : Keeps σ (s.publishCmd c p d) := by
  unfold State.publishCmd
  extract_lets +onlyGivenNames r
  split
  · exact hs.refuse
  · exact .ite hs.refuseX (.ite hs.refuse hs.frame.cxlAgain)

theorem Keeps.execPublish (hs : Keeps σ s) {fn sq d} {ok} : Runs σ ok (execPublish fn sq d s) :=
  .next (hs.take (fun _ _ => hs.publishCmd))

theorem Keeps.execBridgeDown (hs : Keeps σ s) {ok} : Runs σ ok (execBridgeDown s) := .next hs.frame

theorem Keeps.unparkOne (hs : Keeps σ s) {w} : Keeps σ (s.unparkOne w) := by
  unfold State.unparkOne
  split
  · exact hs.gatherMsg
  · exact hs.embGatherCmd
  · exact hs.embAddCmd
  · exact hs.embSetCmd
  · exact hs.requantCmd
  · exact hs.embFlushCmd
  · exact hs.vecAgain (fun _ => hs.vsQueryCmd)
  · exact hs.vecAgain (fun _ => hs.insertCmd)
  · exact hs.vecAgain (fun _ => hs.deleteCmd)
  · exact hs

theorem Keeps.unpark (hs : Keeps σ s) {l} : Keeps σ (State.unpark l s) := by
  induction l generalizing s with
  | nil => exact hs
  | cons w l ih => exact ih hs.frame.unparkOne

theorem Keeps.bridgeReturns (hs : Keeps σ s) : Keeps σ s.bridgeReturns := by
  unfold State.bridgeReturns
  extract_lets +onlyGivenNames _ _ s1 s2 s3 s4
  have hs3 : Keeps σ s3 := (hs.frame.foldl (fun _ _ hu => hu.poisonBlock)).foldl (fun _ _ hu => hu.memWrite.foldl
      (fun _ _ hv => hv.observe))
  clear_value s3
  exact hs3.unlatch.deliverOwed.forwardWaiting.bridgeBack.unpark.inputsBack.cxlAgain

theorem Keeps.execBridgeUp (hs : Keeps σ s) {ok} : Runs σ ok (execBridgeUp s) := .next hs.bridgeReturns

end Sys2Proof.Machine
end

section
/-! What the operations of Machine/Clocks leave follows the state that they are given. -/

namespace Sys2Proof.Machine
set_option Elab.async false

variable {σ s t u : State}

theorem Keeps.timeSample (hs : Keeps σ s) {p h} : KeepsOk σ (s.timeSample p h) := by
  unfold State.timeSample
  extract_lets +onlyGivenNames m0 m1
  refine .ite .error ?_
  extract_lets +onlyGivenNames a b _ s1 s2
  have hs2 : Keeps σ s2 := hs.frame.count.unlatch.unlatch.mapTold
  clear_value s2
  exact .ok (.ite hs2.count.raise hs2)

theorem Keeps.execTimeMapSample (hs : Keeps σ s) {o port v t} : Runs σ (port < 4) (execTimeMapSample o port v t s) :=
  (hs.at.writeRow (fun _ hu => hu.timeSample)).withPort

theorem Keeps.mapInvalid (hs : Keeps σ s) {p h} : Keeps σ (s.mapInvalid p h) := .ite hs hs.frame.raiseOnce

theorem Keeps.mapEmpty (hs : Keeps σ s) {p} : Keeps σ (s.mapEmpty p) := by
  unfold State.mapEmpty
  extract_lets +onlyGivenNames s1
  have hs1 : Keeps σ s1 := hs.mapInvalid.mapInvalid
  clear_value s1
  exact hs1.frame

theorem Keeps.execTimeMapEmpty (hs : Keeps σ s) {o port v} : Runs σ (port < 4) (execTimeMapEmpty o port v s) :=
  (hs.writeRow (fun _ hu => .ok hu.mapEmpty)).withPort

theorem Keeps.execTimeMapInvalid (hs : Keeps σ s) {port half} : Runs σ (port < 4) (execTimeMapInvalid port half s) :=
  hs.mapInvalid.withPort

theorem Keeps.shiftLeases (hs : Keeps σ s) {d} : Keeps σ (s.shiftLeases d) := hs.frame

theorem Keeps.calReach (hs : Keeps σ s) {n} : Keeps σ (s.calReach n) := hs.frame

theorem Keeps.calStep (hs : Keeps σ s) {n} : Keeps σ (s.calStep n) := hs.frame.shiftLeases.calReach.dayRoll.count.raise

theorem Keeps.calSlew (hs : Keeps σ s) {d} : Keeps σ (s.calSlew d) := hs.frame.count.raise

theorem Keeps.calSet (hs : Keeps σ s) {n} : KeepsOk σ (s.calSet n) :=
  .ite (.ok hs.calStep) (.ite (.ok hs.calSlew) (.ite (.ok hs.calStep) .error))

theorem Keeps.execCalendarSet (hs : Keeps σ s) {o v} {ok} : Runs σ ok (execCalendarSet o v s) :=
  .next (hs.writeRow (fun _ hu => hu.calSet))

theorem Keeps.calSend (hs : Keeps σ s) : Keeps σ s.calSend := (Keeps.ite hs.frame hs.frame.unlatch).dayRoll

theorem Keeps.execCalendarDistribute (hs : Keeps σ s) {ok} : Runs σ ok (execCalendarDistribute s) := .next hs.calSend

theorem Keeps.freeRun (hs : Keeps σ s) {h} : Keeps σ (s.freeRun h) := .ite hs hs.frame.raiseOnce

theorem Keeps.execCalendarFreeRun (hs : Keeps σ s) {half} {ok} : Runs σ ok (execCalendarFreeRun half s) := .next hs.freeRun

theorem Keeps.execCalendarPersist (hs : Keeps σ s) {ok} : Runs σ ok (execCalendarPersist s) := .next hs.frame

theorem Keeps.updLease (hs : Keeps σ s) {h f} : Keeps σ (s.updLease h f) := hs.frame

theorem Keeps.passLead (hs : Keeps σ s) {h} : Keeps σ (s.passLead h) := by
  unfold State.passLead
  extract_lets +onlyGivenNames e _ s1
  have hs1 : Keeps σ s1 := hs.frame
  clear_value s1
  exact hs1.frame

theorem Keeps.noLead (hs : Keeps σ s) : Keeps σ s.noLead := hs.frame

theorem Keeps.sendGrant (hs : Keeps σ s) {h} : Keeps σ (s.sendGrant h) := hs.updLease.emit

theorem Keeps.rotAsked (hs : Keeps σ s) {h} : Keeps σ (s.rotAsked h) := .ite hs ((Keeps.ite hs.passLead hs).sendGrant)

theorem Keeps.askRenew (hs : Keeps σ s) {h} : Keeps σ (s.askRenew h) := hs.updLease.emit.rotAsked

theorem Keeps.execLeaseRenewRequest (hs : Keeps σ s) {half t} {ok} : Runs σ ok (execLeaseRenewRequest half t s) :=
  .next hs.at.askRenew

theorem Keeps.granted (hs : Keeps σ s) {h epoch lead} : Keeps σ (s.granted h epoch lead) := by
  unfold State.granted
  extract_lets +onlyGivenNames l s1 s2
  have hs2 : Keeps σ s2 := .ite hs.updLease.count.raise hs.updLease
  clear_value s2
  exact .ite hs2.raise.afterHold hs2

theorem Keeps.execLeaseGrant (hs : Keeps σ s) {half epoch lead t} {ok} : Runs σ ok (execLeaseGrant half epoch lead t s) :=
  .next hs.at.granted

theorem Keeps.leaseOver (hs : Keeps σ s) {h} : Keeps σ (s.leaseOver h) := .ite hs hs.updLease.count.raise

theorem Keeps.execHalfLeaseEnd (hs : Keeps σ s) {half} {ok} : Runs σ ok (execHalfLeaseEnd half s) := .next hs.leaseOver

theorem Keeps.rotEnd (hs : Keeps σ s) {h} : Keeps σ (s.rotEnd h) :=
  .ite hs.updLease (.ite hs.updLease.passLead.sendGrant hs.updLease.noLead)

theorem Keeps.execRotGrantEnd (hs : Keeps σ s) {half} {ok} : Runs σ ok (execRotGrantEnd half s) := .next hs.rotEnd

theorem Keeps.leadMove (hs : Keeps σ s) {h} : KeepsOk σ (s.leadMove h) := by
  unfold State.leadMove
  extract_lets +onlyGivenNames l
  refine .ite (.ok hs) (.ite .error ?_)
  split
  · exact .ok hs.passLead.sendGrant
  · exact .ok hs.frame.sendGrant

theorem Keeps.execLeadMoveWrite (hs : Keeps σ s) {o v} {ok} : Runs σ ok (execLeadMoveWrite o v s) :=
  .next (hs.writeRow (fun _ hu => hu.leadMove))

theorem Keeps.leadDropped (hs : Keeps σ s) : Keeps σ s.leadDropped := by
  unfold State.leadDropped
  split
  · exact hs
  · exact .ite hs.passLead.sendGrant hs.noLead

theorem Keeps.execLeadDropAck (hs : Keeps σ s) {ok} : Runs σ ok (execLeadDropAck s) := .next hs.leadDropped

theorem Keeps.leadMsg (hs : Keeps σ s) {h e} : Keeps σ (s.leadMsg h e) := .ite hs.count.raise.emit (.ite hs.updLease.askRenew hs)

theorem Keeps.execLeadMessage (hs : Keeps σ s) {half epoch} {ok} : Runs σ ok (execLeadMessage half epoch s) := .next hs.leadMsg

theorem Keeps.execRefclkLoss (hs : Keeps σ s) {ok} : Runs σ ok (execRefclkLoss s) :=
  .next (.ite hs (.ite hs.frame hs.frame.count.raise))

theorem Keeps.execRefclkReturn (hs : Keeps σ s) {ok} : Runs σ ok (execRefclkReturn s) :=
  .next (.ite hs (.ite hs.frame hs.frame.raise.afterHold))

end Sys2Proof.Machine
end

section
/-! What the operations of Machine/HostFn leave follows the state that they are given. -/

namespace Sys2Proof.Machine
set_option Elab.async false

variable {σ s t u : State}

theorem Keeps.endSessions (hs : Keeps σ s) {f} : Keeps σ (s.endSessions f) := hs.frame

theorem Keeps.endSpdm (hs : Keeps σ s) {f} : Keeps σ (s.endSpdm f) := by
  unfold State.endSpdm
  extract_lets +onlyGivenNames s1
  have hs1 : Keeps σ s1 := hs.endSessions
  clear_value s1
  exact hs1.frame

theorem Keeps.cancelFn (hs : Keeps σ s) {fn} : Keeps σ (s.cancelFn fn) :=
  hs.foldl (fun _ _ hu => .ite hu (.ite hu.updEnt.atBoundary hu.endNow))

theorem Keeps.fnReset (hs : Keeps σ s) {fn cause} : Keeps σ (s.fnReset fn cause) := by
  unfold State.fnReset
  extract_lets +onlyGivenNames mine _ _ _ _ s1 s2 s3 s4
  have hs1 : Keeps σ s1 := hs.frame
  clear_value s1
  have hs3 : Keeps σ s3 := hs1.cancelFn.foldl (fun _ _ hu => hu.startClose)
  clear_value s3
  exact hs3.lapseFns.endSpdm.cxlAgain.raise

theorem Keeps.execFunctionReset (hs : Keeps σ s) {fn cause} : Runs σ (¬ (256 ≤ fn)) (execFunctionReset fn cause s) :=
  .beyond hs.fnReset

theorem Keeps.portDown (hs : Keeps σ s) {p} : Keeps σ (s.portDown p) := by
  unfold State.portDown
  refine .ite hs ?_
  extract_lets +onlyGivenNames s1 _ s2 s3
  have hs1 : Keeps σ s1 := hs.updPort.raise
  clear_value s1
  exact .ite hs1.frame.endSpdm.poisonLines.cxlAgain hs1.frame.endSpdm

theorem Keeps.execPcieLinkDown (hs : Keeps σ s) {port} : Runs σ (port < 4) (execPcieLinkDown port s) := hs.portDown.withPort

theorem Keeps.execPcieLinkUp (hs : Keeps σ s) {port lanes rate cxl} : Runs σ (port < 4) (execPcieLinkUp port lanes rate cxl s) :=
  (Keeps.ite hs hs.updPort.raise.grantLease.cxlAgain).withPort

theorem Keeps.setStreams (hs : Keeps σ s) {l} : Keeps σ (s.setStreams l) := hs.frame.foldl (fun _ _ hu => .ite hu hu.updPort)

theorem Keeps.execPerst (hs : Keeps σ s) {port} : Runs σ (port < 4) (execPerst port s) := by
  unfold Machine.execPerst
  refine Keeps.withPort (.ite hs ?_)
  extract_lets +onlyGivenNames s1 _ s2 s3
  have hs1 : Keeps σ s1 := hs.portDown.updPort
  clear_value s1
  exact (hs1.frame.setStreams.foldl (fun _ _ hu => hu.fnReset)).recheckStops

theorem Keeps.execPerstDeassert (hs : Keeps σ s) {port} : Runs σ (port < 4) (execPerstDeassert port s) :=
  (Keeps.ite hs.updPort hs).withPort

theorem Keeps.execIdeFailure (hs : Keeps σ s) {port stream fn} : Runs σ (port < 4) (execIdeFailure port stream fn s) := by
  unfold Machine.execIdeFailure
  refine Keeps.withPort ?_
  extract_lets +onlyGivenNames key s1 _ s2
  have hs1 : Keeps σ s1 := hs.setStreams
  clear_value s1
  exact hs1.frame.count.raise.recheckStops

theorem Keeps.execIdeKm (hs : Keeps σ s) {port stream sid install} : Runs σ (port < 4) (execIdeKm port stream sid install s) := by
  unfold Machine.execIdeKm
  refine Keeps.withPort (.ite hs ?_)
  extract_lets +onlyGivenNames key rest s1 _ s2
  have hs1 : Keeps σ s1 := hs.setStreams
  clear_value s1
  exact (Keeps.ite hs1.frame hs1).recheckStops.emit

theorem Keeps.setTdi (hs : Keeps σ s) {fn x} : Keeps σ (s.setTdi fn x) := hs.frame

theorem Keeps.tdiError (hs : Keeps σ s) {fn} : Keeps σ (s.tdiError fn) := hs.setTdi.raise.recheckStops

theorem Keeps.execTdispMessage (hs : Keeps σ s) {fn code sid} : Runs σ (¬ (256 ≤ fn)) (execTdispMessage fn code sid s) := by
  unfold Machine.execTdispMessage
  split
  · exact .stop (not_not_intro ‹_›)
  · extract_lets +onlyGivenNames st err
    have herr : Keeps σ err := hs.emit
    refine .next (.ite hs (.ite herr ?_))
    split
    · exact hs.emit
    · exact hs.emit
    · exact .ite hs.setTdi.emit herr
    · exact .ite hs.emit herr
    · exact hs.emit
    · exact .ite hs.setTdi.emit herr
    · exact (Keeps.ite hs hs.setTdi.fnReset.recheckStops).emit
    · exact herr

end Sys2Proof.Machine
end

section
/-! What the operations of Machine/Spdm leave follows the state that they are given. -/

namespace Sys2Proof.Machine
set_option Elab.async false

variable {σ s t u : State}

theorem Keeps.setConn (hs : Keeps σ s) {c} : Keeps σ (s.setConn c) := hs.frame

theorem Keeps.spdmOut (hs : Keeps σ s) {via sid b} : Keeps σ (s.spdmOut via sid b) := hs.emit

theorem Keeps.spdmErr (hs : Keeps σ s) {via sid e d} : Keeps σ (s.spdmErr via sid e d) := hs.spdmOut

theorem Keeps.spdmAns (hs : Keeps σ s) {via sid code p1 p2 b} : Keeps σ (s.spdmAns via sid code p1 p2 b) :=
  .ite hs.setConn.spdmOut hs.setConn.spdmOut

theorem Keeps.spdmIn {s0 : State} (hs0 : Keeps σ s0) {k : State → State} (hk : ∀ u, Keeps σ u → Keeps σ
    (k u)) {via sid msg t code need where_} : Keeps σ (s0.spdmIn via sid msg t code need where_ k) := by
  unfold State.spdmIn
  extract_lets +onlyGivenNames s
  have hs : Keeps σ s := hs0.at
  clear_value s
  refine .ite hs (.ite hs.spdmErr (.ite hs.spdmErr ?_))
  split
  · split
    · exact hs.spdmErr
    · exact .ite hs.spdmErr (.ite hs.spdmErr (hk _ hs.frame))
  · exact .ite hs.spdmErr (.ite hs.spdmErr (hk _ hs.setConn))

theorem Keeps.draw (hs : Keeps σ s) {n} : Keeps σ (s.draw n).2 := .snd hs.frame

theorem Keeps.sign (hs : Keeps σ s) {b} : Keeps σ (s.sign b).2 := .snd hs.draw

theorem Keeps.getVersion (hs : Keeps σ s) {via sid msg t} : Keeps σ (s.getVersion via sid msg t) :=
  hs.spdmIn (fun _ hu => hu.setConn.spdmAns)

theorem Keeps.stageTo (hs : Keeps σ s) {via n} : Keeps σ (s.stageTo via n) := hs.setConn

theorem Keeps.getCapabilities (hs : Keeps σ s) {via sid msg t} : Keeps σ (s.getCapabilities via sid msg t) :=
  hs.spdmIn (fun _ hu => hu.stageTo.spdmAns)

theorem Keeps.negotiate (hs : Keeps σ s) {via sid msg t} : Keeps σ (s.negotiate via sid msg t) :=
  hs.spdmIn (fun _ hu => .ite hu.spdmErr hu.stageTo.spdmAns)

theorem Keeps.getDigests (hs : Keeps σ s) {via sid msg t} : Keeps σ (s.getDigests via sid msg t) :=
  hs.spdmIn (fun _ hu => hu.spdmAns)

theorem Keeps.getCertificate (hs : Keeps σ s) {via sid msg t} : Keeps σ (s.getCertificate via sid msg t) :=
  hs.spdmIn (fun _ hu => .ite hu.spdmErr hu.spdmAns)

theorem Keeps.challenge (hs : Keeps σ s) {via sid msg t} : Keeps σ (s.challenge via sid msg t) :=
  hs.spdmIn (fun _ hu => .ite hu.spdmErr (.ite hu.spdmErr hu.draw.sign.spdmAns))

theorem Keeps.getMeasurements (hs : Keeps σ s) {via sid msg t} : Keeps σ (s.getMeasurements via sid msg t) :=
  hs.spdmIn (fun _ hu => .ite hu.spdmErr (.ite hu.spdmErr (.ite hu.draw.sign.spdmAns hu.draw.spdmAns)))

theorem Keeps.authFails (hs : Keeps σ s) {via} : Keeps σ (s.authFails via) := hs.count.raise

theorem Keeps.keyExchange (hs : Keeps σ s) {via sid msg t} : Keeps σ (s.keyExchange via sid msg t) :=
  hs.spdmIn (fun _ hu => .ite hu.spdmErr (.ite hu.spdmErr.raise (.ite hu.spdmErr hu.frame.draw.sign.spdmAns)))

theorem Keeps.updSess (hs : Keeps σ s) {n f} : Keeps σ (s.updSess n f) := hs.frame

theorem Keeps.finishSess (hs : Keeps σ s) {via sid msg t} : Keeps σ (s.finishSess via sid msg t) := by
  unfold State.finishSess
  refine hs.spdmIn (fun _ hu => ?_)
  extract_lets +onlyGivenNames n
  split
  · exact hu
  · exact .ite hu.spdmErr (.ite hu.endSessions.spdmErr.authFails hu.updSess.count.spdmAns)

theorem Keeps.heartbeat (hs : Keeps σ s) {via sid msg t} : Keeps σ (s.heartbeat via sid msg t) :=
  hs.spdmIn (fun _ hu => hu.spdmAns)

theorem Keeps.keyUpdate (hs : Keeps σ s) {via sid msg t} : Keeps σ (s.keyUpdate via sid msg t) :=
  hs.spdmIn (fun _ hu => .ite hu.spdmErr ((Keeps.ite hu hu.updSess).spdmAns))

theorem Keeps.endSession (hs : Keeps σ s) {via sid msg t} : Keeps σ (s.endSession via sid msg t) :=
  hs.spdmIn (fun _ hu => hu.spdmAns.endSessions)

theorem Keeps.setChain1 (hs : Keeps σ s) {c} : Keeps σ (s.setChain1 c).1 := by
  unfold State.setChain1
  refine .ite_fst ?_ ?_
  · extract_lets +onlyGivenNames s1
    have hs1 : Keeps σ s1 := hs.dset
    clear_value s1
    exact .fst hs1.frame
  · exact .fst hs

theorem Keeps.chainRow (hs : Keeps σ s) {o v} : Keeps σ (s.chainRow o v) :=
  (Keeps.ite hs.count.raise hs).writeRow (fun _ hu => .ite (.ok hu.setChain1) .error)

theorem Keeps.setCertificate (hs : Keeps σ s) {via sid msg t} : Keeps σ (s.setCertificate via sid msg t) :=
  hs.spdmIn (fun _ hu => .ite hu.spdmErr (.ite hu.setChain1.spdmAns hu.authFails.spdmErr))

theorem Keeps.getEncap (hs : Keeps σ s) {via sid msg t} : Keeps σ (s.getEncap via sid msg t) := by
  unfold State.getEncap
  refine hs.spdmIn (fun _ hu => ?_)
  split
  · exact hu
  · exact .ite hu.spdmErr hu.spdmAns

theorem Keeps.deliverEncap (hs : Keeps σ s) {via sid msg t} : Keeps σ (s.deliverEncap via sid msg t) := by
  unfold State.deliverEncap
  refine hs.spdmIn (fun _ hu => ?_)
  extract_lets +onlyGivenNames n
  split
  · exact hu
  · exact .ite hu.spdmErr (.ite hu.updSess.spdmAns (.ite hu.spdmErr (.ite hu.updSess.spdmAns
        (.ite hu.updSess.spdmAns hu.endSessions.spdmErr.authFails))))

theorem Keeps.chunkGet (hs : Keeps σ s) {via sid msg t} : Keeps σ (s.chunkGet via sid msg t) :=
  hs.spdmIn (fun _ hu => .ite hu.spdmErr hu.setConn.spdmOut)

theorem Keeps.spdmDo (hs : Keeps σ s) {via sid m t} : Keeps σ (s.spdmDo via sid m t) := by
  unfold State.spdmDo
  split
  · exact hs.getVersion
  · exact hs.getCapabilities
  · exact hs.negotiate
  · exact hs.getDigests
  · exact hs.getCertificate
  · exact hs.challenge
  · exact hs.getMeasurements
  · exact hs.keyExchange
  · exact hs.finishSess
  · exact hs.heartbeat
  · exact hs.keyUpdate
  · exact hs.endSession
  · exact hs.setCertificate
  · exact hs.getEncap
  · exact hs.deliverEncap
  · exact hs.chunkGet
  · exact hs.spdmErr

theorem Keeps.chunkSend (hs : Keeps σ s) {via sid msg t} : Keeps σ (s.chunkSend via sid msg t) :=
  hs.spdmIn (fun _ hu => .ite hu.setConn.spdmErr (.ite hu.setConn.spdmOut.spdmDo hu.setConn.spdmOut))

theorem Keeps.execGetVersion (hs : Keeps σ s) {via sid msg t} {ok} : Runs σ ok (execGetVersion via sid msg t s) :=
  .next hs.getVersion

theorem Keeps.execGetCapabilities (hs : Keeps σ s) {via sid msg t} {ok} : Runs σ ok (execGetCapabilities via sid msg t s) :=
  .next hs.getCapabilities

theorem Keeps.execNegotiateAlgorithms (hs : Keeps σ s) {via sid msg t} {ok} : Runs σ ok (execNegotiateAlgorithms via sid msg t s) :=
  .next hs.negotiate

theorem Keeps.execGetDigests (hs : Keeps σ s) {via sid msg t} {ok} : Runs σ ok (execGetDigests via sid msg t s) :=
  .next hs.getDigests

theorem Keeps.execGetCertificate (hs : Keeps σ s) {via sid msg t} {ok} : Runs σ ok (execGetCertificate via sid msg t s) :=
  .next hs.getCertificate

theorem Keeps.execChallenge (hs : Keeps σ s) {via sid msg t} {ok} : Runs σ ok (execChallenge via sid msg t s) :=
  .next hs.challenge

theorem Keeps.execGetMeasurements (hs : Keeps σ s) {via sid msg t} {ok} : Runs σ ok (execGetMeasurements via sid msg t s) :=
  .next hs.getMeasurements

theorem Keeps.execKeyExchange (hs : Keeps σ s) {via sid msg t} {ok} : Runs σ ok (execKeyExchange via sid msg t s) :=
  .next hs.keyExchange

theorem Keeps.execFinish (hs : Keeps σ s) {via sid msg t} {ok} : Runs σ ok (execFinish via sid msg t s) := .next hs.finishSess

theorem Keeps.execHeartbeat (hs : Keeps σ s) {via sid msg t} {ok} : Runs σ ok (execHeartbeat via sid msg t s) :=
  .next hs.heartbeat

theorem Keeps.execKeyUpdate (hs : Keeps σ s) {via sid msg t} {ok} : Runs σ ok (execKeyUpdate via sid msg t s) :=
  .next hs.keyUpdate

theorem Keeps.execEndSession (hs : Keeps σ s) {via sid msg t} {ok} : Runs σ ok (execEndSession via sid msg t s) :=
  .next hs.endSession

theorem Keeps.execSetCertificate (hs : Keeps σ s) {via sid msg t} {ok} : Runs σ ok (execSetCertificate via sid msg t s) :=
  .next hs.setCertificate

theorem Keeps.execChunkSend (hs : Keeps σ s) {via sid msg t} {ok} : Runs σ ok (execChunkSend via sid msg t s) :=
  .next hs.chunkSend

theorem Keeps.execChunkGet (hs : Keeps σ s) {via sid msg t} {ok} : Runs σ ok (execChunkGet via sid msg t s) := .next hs.chunkGet

theorem Keeps.execGetEncapsulatedRequest (hs : Keeps σ s) {via sid msg t} {ok} : Runs σ ok (execGetEncapsulatedRequest via sid msg t s) :=
  .next hs.getEncap

theorem Keeps.execDeliverEncapsulatedResponse (hs : Keeps σ s) {via sid msg t} {ok} : Runs σ ok
    (execDeliverEncapsulatedResponse via sid msg t s) :=
  .next hs.deliverEncap

theorem Keeps.execSpdmSessionTimeout (hs : Keeps σ s) {sid} {ok} : Runs σ ok (execSpdmSessionTimeout sid s) :=
  .next hs.endSessions

theorem Keeps.execDrbgReseed (hs : Keeps σ s) {ok} {good : Prop} : Runs σ good (execDrbgReseed ok s) := by
  have hs1 : Keeps σ { s with sec := { s.sec with entropyBad := !ok, draws := s.sec.draws + 1 } } := hs.frame
  exact .next (.ite hs1 hs1.raise)

end Sys2Proof.Machine
end

section
/-! What the operations of Machine/Security leave follows the state that they are given. -/

namespace Sys2Proof.Machine
set_option Elab.async false

variable {σ s t u : State}

theorem Keeps.enablePart (hs : Keeps σ s) {p} : KeepsOk σ (s.enablePart p) := by
  unfold State.enablePart
  refine .ite (.ok hs) (.ite .error (.ite .error ?_))
  extract_lets +onlyGivenNames s1
  have hs1 : Keeps σ s1 := hs.dsetN
  clear_value s1
  exact .ite .error (.ok hs1.frame.raise)

theorem Keeps.disablePart (hs : Keeps σ s) {p} : KeepsOk σ (s.disablePart p) := by
  unfold State.disablePart
  refine .ite .error (.ite (.ok hs) (.ite .error ?_))
  extract_lets +onlyGivenNames mine s1 _ _ _ _ s2
  have hs1 : Keeps σ s1 := hs.dsetN.dsetN
  clear_value s1
  have hs2 : Keeps σ s2 := hs1.frame (hc := fun h x hx => h x (List.mem_filter.mp hx).1)
  exact .ok hs2.raise

theorem Keeps.partWrite (hs : Keeps σ s) {p v} : KeepsOk σ (s.partWrite p v) := .ite hs.enablePart hs.disablePart

theorem Keeps.execPartitionEnable (hs : Keeps σ s) {o p v} {ok} : Runs σ ok (execPartitionEnable o p v s) :=
  .next (hs.writeRow (fun _ hu => hu.partWrite))

theorem Keeps.execPartitionDisable (hs : Keeps σ s) {o p v} {ok} : Runs σ ok (execPartitionDisable o p v s) :=
  .next (hs.writeRow (fun _ hu => hu.partWrite))

theorem Keeps.ownerKey (hs : Keeps σ s) {p v} : KeepsOk σ (s.ownerKey p v) := .ite .error (.ite .error (.ok hs.dset))

theorem Keeps.execOwnerKeyWrite (hs : Keeps σ s) {o p v} {ok} : Runs σ ok (execOwnerKeyWrite o p v s) :=
  .next (hs.writeRow (fun _ hu => hu.ownerKey))

theorem Keeps.bindFn (hs : Keeps σ s) {port f v} : KeepsOk σ (s.bindFn port f v) := by
  unfold State.bindFn
  extract_lets +onlyGivenNames fn
  refine .ite .error ?_
  extract_lets +onlyGivenNames st s1
  have hs1 : Keeps σ s1 := hs.fnReset.dsetN
  clear_value s1
  exact .ok (.ite hs1.tdiError hs1.recheckStops)

theorem Keeps.execFunctionBindingWrite (hs : Keeps σ s) {o port sub v} {ok} : Runs σ ok (execFunctionBindingWrite o port sub v s) :=
  .next (hs.writeRow (fun _ hu => hu.bindFn))

theorem Keeps.ideBit (hs : Keeps σ s) {port f v} : KeepsOk σ (s.ideBit port f v) := .ite .error (.ok hs.dsetN.recheckStops)

theorem Keeps.linkKey (hs : Keeps σ s) {p v} : Keeps σ (s.linkKey p v) := .ite hs.frame hs.frame.unlatch

theorem Keeps.execLinkKeyWrite (hs : Keeps σ s) {o p v} {ok} : Runs σ ok (execLinkKeyWrite o p v s) :=
  .next (hs.writeRow (fun _ hu => .ok hu.linkKey))

theorem Keeps.exportKey (hs : Keeps σ s) {p v} : KeepsOk σ (s.exportKey p v) :=
  .ite .error (.ite .error (.ok hs.draw.dset.count.raise))

theorem Keeps.execKeyExportRequest (hs : Keeps σ s) {o p v} {ok} : Runs σ ok (execKeyExportRequest o p v s) :=
  .next (hs.writeRow (fun _ hu => hu.exportKey))

theorem Keeps.importPackage (hs : Keeps σ s) {p v} : KeepsOk σ (s.importPackage p v) := .ite .error (.ok hs.frame.count.raise)

theorem Keeps.packageRow (hs : Keeps σ s) {o p v} : Keeps σ (s.packageRow o p v) :=
  (Keeps.ite hs.count.raise hs).writeRow (fun _ hu => hu.importPackage)

theorem Keeps.execKeyPackageImport (hs : Keeps σ s) {o p v} {ok} : Runs σ ok (execKeyPackageImport o p v s) := .next hs.packageRow

theorem Keeps.confidentialTo (hs : Keeps σ s) {v} : KeepsOk σ (s.confidentialTo v) :=
  .ite .error (.ite (.ok hs) (.ite .error (.ok hs.dsetN.raise.recheckStops)))

theorem Keeps.execConfidentialModeWrite (hs : Keeps σ s) {o v} {ok} : Runs σ ok (execConfidentialModeWrite o v s) :=
  .next (hs.writeRow (fun _ hu => hu.confidentialTo))

theorem Keeps.execSafelightUpdate (hs : Keeps σ s) {ok} : Runs σ ok (execSafelightUpdate s) :=
  .next (hs.foldl (fun _ _ hu => hu.foldl (fun _ _ hv => .ite hv hv.frame.count)))

end Sys2Proof.Machine
end

section
/-! What the operations of Machine/Apply leave follows the state that they are given. -/

namespace Sys2Proof.Machine
set_option Elab.async false

variable {σ s t u : State}

theorem Keeps.writeLow (hs : Keeps σ s) {o idx sub v} : KeepsOk σ (s.writeLow o idx sub v) := by
  unfold State.writeLow
  extract_lets +onlyGivenNames n plain
  have hplain : Keeps σ plain := hs.dset
  clear_value plain
  refine .ite ?_ (.ite (.ok hplain.relatch) (.ite hs.bathWrite (.ite (.ite (.ok hplain) .error) (.ite (.ite hs.laneWrite (.ite .error
      (.ok hplain))) (.ite hs.coreSetWrite (.ite hs.profileWrite (.ite hs.tabWrite (.ite hs.curveWrite (.ite .error (.ite .error
          (.ite .error (.ite .error (.ite hs.restoreWrite (.ite hs.ckptWrite (.ite (.ite .error (.ite (.ok hplain)
              (.ok hplain.frame.reanchor))) (.ok hplain))))))))))))))))
  split
  · exact .ite hs.ring0Write (.ite .error (.ite .error (.ok hs.frame)))
  · exact .error

theorem Keeps.refill (hs : Keeps σ s) {hit} : Keeps σ (s.refill hit) := hs.frame

theorem Keeps.writeFabric (hs : Keeps σ s) {idx sub v} : KeepsOk σ (s.writeFabric idx sub v) := by
  unfold State.writeFabric
  extract_lets +onlyGivenNames plain
  have hplain : Keeps σ plain := hs.dset
  clear_value plain
  exact .ite (.ok hs.clearMarks) (.ite (.ok hplain.frame) (.ite (.ok hplain.refill) (.ite hs.policerWrite (.ite hs.scheduleWrite (.ite
      (.ok hplain.refill) (.ite (.ok hplain.setLink) (.ok hplain)))))))

theorem Keeps.writeDesc (hs : Keeps σ s) {idx sub osub loaded v} : KeepsOk σ (s.writeDesc idx sub osub loaded v) :=
  .ite .error (.ok (.ite hs.dset.dsetN hs.dset))

theorem Keeps.writeUnits (hs : Keeps σ s) {o idx sub v} : KeepsOk σ (s.writeUnits o idx sub v) :=
  .ite hs.textTable (.ite hs.textTable (.ite hs.textTable (.ite (.ite hs.embControl hs.writeDesc) (.ite .error (.ite (.ite hs.vecControl
      (.ite hs.holdEpoch hs.writeDesc)) (.ite hs.patternWrite (.ok hs.dset)))))))

theorem Keeps.writeSec (hs : Keeps σ s) {idx sub v} : KeepsOk σ (s.writeSec idx sub v) := by
  unfold State.writeSec
  extract_lets +onlyGivenNames n
  refine .ite hs.confidentialTo (.ite (.ite (.ok hs.setChain1) .error) (.ite ?_ (.ite hs.bindFn (.ite hs.ideBit (.ok hs.dset)))))
  extract_lets +onlyGivenNames p
  split
  · exact hs.partWrite
  · exact hs.ownerKey
  · exact .ok hs.linkKey
  · exact hs.exportKey
  · exact hs.importPackage
  · exact .ok hs.dset

theorem Keeps.writeHigh (hs : Keeps σ s) {idx sub v} : KeepsOk σ (s.writeHigh idx sub v) :=
  .ite (.ok (hs.frame (hc := fun h => h.clear _ _))) (.ite hs.leadMove (.ite hs.calSet (.ite hs.timeSample (.ite (.ok hs.mapEmpty)
    (.ite (.ok hs.replanAll) (.ite hs.marginWrite (.ite hs.planWrite (.ok hs.dset))))))))

theorem Keeps.writeBy (hs : Keeps σ s) {o idx sub v} : KeepsOk σ (s.writeBy o idx sub v) :=
  .ite hs.writeLow (.ite hs.writeFabric (.ite hs.writeUnits (.ite hs.writeSec hs.writeHigh)))

theorem Keeps.applyWrite (hs : Keeps σ s) {o idx sub v} : KeepsOk σ (s.applyWrite o idx sub v) := by
  unfold State.applyWrite
  split
  · exact .error
  · exact .error
  · exact .ok (hs.writeBy _ ‹_›)

theorem Keeps.loadStore (hs : Keeps σ s) : Keeps σ s.loadStore := by
  unfold State.loadStore
  extract_lets +onlyGivenNames known store bad vals _ s1 out _ s2
  have hs1 : Keeps σ s1 := hs.frame
  clear_value s1
  exact .ite hs1.frame hs1.frame.count.raise

end Sys2Proof.Machine
end

section
/-! What the operations of Machine/Maint leave follows the state that they are given. -/

namespace Sys2Proof.Machine
set_option Elab.async false

variable {σ s t u : State}

theorem Keeps.setMaint (hs : Keeps σ s) {st w} : Keeps σ (s.setMaint st w) := hs.frame

theorem Keeps.maintWrite (hs : Keeps σ s) {o v} : KeepsOk σ (s.maintWrite o v) := by
  unfold State.maintWrite
  split
  · exact .ite (.ok hs.setMaint.unlatch.raise) (.ok hs.setMaint)
  · exact .ite (.ok hs.setMaint) (.ok hs.setMaint.raise)
  · exact .ite (.ok hs.setMaint) (.ite .error (.ok hs.setMaint))
  · exact .error

theorem Keeps.execMaintenanceEnter (hs : Keeps σ s) {o v} {ok} : Runs σ ok (execMaintenanceEnter o v s) :=
  .next (hs.writeRow (fun _ hu => hu.maintWrite))

theorem Keeps.execMaintenanceLeave (hs : Keeps σ s) {o v} {ok} : Runs σ ok (execMaintenanceLeave o v s) :=
  .next (hs.writeRow (fun _ hu => hu.maintWrite))

theorem Keeps.maintReached (hs : Keeps σ s) : Keeps σ s.maintReached := .ite hs.setMaint.raise.quiesce hs

theorem Keeps.execMaintenanceReached (hs : Keeps σ s) {ok} : Runs σ ok (execMaintenanceReached s) := .next hs.maintReached

theorem Keeps.execMaintenanceEntryLate (hs : Keeps σ s) {ok} : Runs σ ok (execMaintenanceEntryLate s) :=
  .next (.ite hs.raiseOnce hs)

theorem Keeps.startRestoredTimers (hs : Keeps σ s) : Keeps σ s.startRestoredTimers := hs.frame

theorem Keeps.execMapCheckDone (hs : Keeps σ s) {ok} : Runs σ ok (execMapCheckDone s) :=
  .next (.ite hs.checkMap.setMaint.startRestoredTimers.raise hs)

end Sys2Proof.Machine
end

section
/-! What the operations of Machine/Startup leave follows the state that they are given. -/

namespace Sys2Proof.Machine
set_option Elab.async false

variable {σ s t u : State}

theorem Keeps.rom (hs : Keeps σ s) : Keeps σ s.rom := hs.frame (hb := Boot.tryAll_mode)

theorem Keeps.settle0 (hs : Keeps σ s) : Keeps σ s.settle0 := hs.loadStore.frame

theorem Keeps.renewAnchors (hs : Keeps σ s) : Keeps σ s.renewAnchors := hs.foldl (fun _ _ hu => hu.poolAsk)

theorem Keeps.fresh (hs : Keeps σ s) {warm last} : Keeps σ (s.fresh warm last) :=
  hs.frame (hm := wf_filter) (hb := fun _ => Nat.zero_le 3) (hc := fun _ _ hx => nomatch hx)

theorem Keeps.start {s0 : State} (hs0 : Keeps σ s0) {last} : Keeps σ (s0.start last) := by
  unfold State.start
  extract_lets +onlyGivenNames warm s f freed s1 s2 s3
  have hs1 : Keeps σ s1 := (Keeps.ite hs0.lifeSave hs0).fresh.settle0.keepImages
  clear_value s1
  have hs2 : Keeps σ s2 := (Keeps.ite hs1.count hs1).lifeTold
  clear_value s2
  have hs3 : Keeps σ s3 := .ite hs2 hs2.rom
  clear_value s3
  refine .ite hs3 ?_
  extract_lets +onlyGivenNames s4 s5
  have hs4 : Keeps σ s4 := hs3.reloadProfiles.embReload.vecReload.raise
  clear_value s4
  exact (Keeps.ite hs4.raise hs4).renewAnchors

theorem Keeps.powerOn (hs : Keeps σ s) {straps refclk} : Keeps σ (s.powerOn straps refclk) := .ite hs hs.frame.start

theorem Keeps.execPowerOn (hs : Keeps σ s) {straps refclk} {ok} : Runs σ ok (execPowerOn straps refclk s) := .next hs.powerOn

theorem Keeps.chainKept (hs : Keeps σ s) : Keeps σ s.chainKept := .ite hs hs.frame

theorem Keeps.startDone (hs : Keeps σ s) : Keeps σ s.startDone := by
  unfold State.startDone
  extract_lets +onlyGivenNames b s1 s2 s3
  have hs1 : Keeps σ s1 := hs.frame (hb := fun _ => (by decide : 1 ≤ 3))
  have hs2 : Keeps σ s2 := hs1.raise
  have hs3 : Keeps σ s3 := by
    unfold s3
    split
    · exact hs2.count.raise
    · exact hs2
  exact (Keeps.ite hs3.setMaint.raise hs3).chainKept.checkMap.quiesce

theorem Keeps.startupEnd (hs : Keeps σ s) : Keeps σ s.startupEnd := by
  unfold State.startupEnd
  refine .ite hs ?_
  extract_lets +onlyGivenNames s1
  have hs1 : Keeps σ s1 := .ite hs.rom hs
  clear_value s1
  exact .ite hs1 hs1.startDone

theorem Keeps.execStartupEnd (hs : Keeps σ s) {ok} : Runs σ ok (execStartupEnd s) := .next hs.startupEnd

theorem Keeps.execStartupReadyTimeout (hs : Keeps σ s) {ok} : Runs σ ok (execStartupReadyTimeout s) :=
  .next (.ite hs hs.frame.start)

theorem Keeps.halfLinks (hs : Keeps σ s) {h} : Keeps σ (s.halfLinks h) := by
  unfold State.halfLinks
  extract_lets +onlyGivenNames s1
  have hs1 : Keeps σ s1 := hs.foldl (fun _ _ hu => hu.linkDown)
  clear_value s1
  exact hs1.frame

theorem Keeps.halfCoresStop (hs : Keeps σ s) {h} : Keeps σ (s.halfCoresStop h) := hs.frame.foldl (fun _ _ hu => hu.setQueue)

theorem Keeps.halfReset (hs : Keeps σ s) {h} : Keeps σ (s.halfReset h) := by
  unfold State.halfReset
  extract_lets +onlyGivenNames s1 s2 _ s3 s4
  have hs2 : Keeps σ s2 := hs.leaseOver.rotEnd.halfLinks
  clear_value s2
  have hs4 : Keeps σ s4 := hs2.frame.ckptFails.halfCoresStop
  clear_value s4
  exact hs4.frame.count

theorem Keeps.resetRow (hs : Keeps σ s) {o v} : Keeps σ (s.resetRow o v) := by
  unfold State.resetRow
  extract_lets +onlyGivenNames n
  refine .ite hs ?_
  split
  · exact hs.answerW
  · exact .ite hs.answerW (.ite hs.answerW (.ite hs.answerW.start hs.answerW.halfReset))

theorem Keeps.execWarmReset (hs : Keeps σ s) {o v} {ok} : Runs σ ok (execWarmReset o v s) := .next hs.resetRow

theorem Keeps.execHalfReset (hs : Keeps σ s) {o v} {ok} : Runs σ ok (execHalfReset o v s) := .next hs.resetRow

theorem Keeps.exchAgain (hs : Keeps σ s) {h} : Keeps σ (s.exchAgain h) := by
  unfold State.exchAgain
  refine hs.foldl (fun _ _ hu => ?_)
  extract_lets +onlyGivenNames _ t1 e u
  have he : Keeps σ e.1 := hu.frame.newExch
  clear_value e
  exact .ite he.updReq (.ite he.frame (.ite he.frame he))

theorem Keeps.halfDone (hs : Keeps σ s) {h} : Keeps σ (s.halfDone h) :=
  .ite hs (((hs.frame.foldl (fun _ _ hu => hu.commitStep)).exchAgain.foldl (fun _ _ hu => hu.settle)).applySets.kick.askRenew.raise)

theorem Keeps.execHalfStartupEnd (hs : Keeps σ s) {half} {ok} : Runs σ ok (execHalfStartupEnd half s) := .next hs.halfDone

theorem Keeps.heartbeatMiss (hs : Keeps σ s) {h} : Keeps σ (s.heartbeatMiss h) := .ite hs hs.updLease.count.raise

theorem Keeps.execHeartbeatMiss (hs : Keeps σ s) {half} {ok} : Runs σ ok (execHeartbeatMiss half s) := .next hs.heartbeatMiss

theorem Keeps.setMode (hs : Keeps σ s) {m} (hm : m ≤ 3) : Keeps σ (s.setMode m) := by
  have hs1 : Keeps σ { s with boot := { s.boot with mode := m } } := hs.frame (hb := fun _ => hm)
  exact hs1.raise

theorem Keeps.devModeWrite (hs : Keeps σ s) {v} : KeepsOk σ (s.devModeWrite v) := by
  unfold State.devModeWrite
  split
  · exact .error
  · exact .ite (.ite (.ok (hs.setMode (by decide))) .error) (.ok hs)
  · exact .ite (.ok (hs.frame.setMode (by decide))) (.ok hs)
  · exact .error

theorem Keeps.execTestModeEnter (hs : Keeps σ s) {o v} {ok} : Runs σ ok (execTestModeEnter o v s) :=
  .next (hs.writeRow (fun _ hu => hu.devModeWrite))

theorem Keeps.execTestModeLeave (hs : Keeps σ s) {o v} {ok} : Runs σ ok (execTestModeLeave o v s) :=
  .next (hs.writeRow (fun _ hu => hu.devModeWrite))

theorem Keeps.raiseFloors (hs : Keeps σ s) : Keeps σ s.raiseFloors := hs.dsetN.dsetN.dsetN

theorem Keeps.execRaiseFloors (hs : Keeps σ s) {o v} {ok} : Runs σ ok (execRaiseFloors o v s) :=
  .next (hs.writeRow (fun _ hu => .ok hu.raiseFloors))

theorem Keeps.alertFree (hs : Keeps σ s) : Keeps σ s.alertFree := hs.frame

theorem Keeps.execAlertRelease (hs : Keeps σ s) {o v} {ok} : Runs σ ok (execAlertRelease o v s) :=
  .next (hs.writeRow (fun _ hu => .ok hu.alertFree))

end Sys2Proof.Machine
end

section
/-! What the operations of Machine/Service leave follows the state that they are given. -/

namespace Sys2Proof.Machine
set_option Elab.async false

variable {σ s t u : State}

theorem Keeps.updServ (hs : Keeps σ s) {f} : Keeps σ (s.updServ f) := hs.frame

theorem Keeps.svc (hs : Keeps σ s) {r} : Keeps σ (s.svc r) := hs.updServ

theorem Keeps.svcIn (hs : Keeps σ s) {k : Nat → List Byte → State} (hk : ∀ a b, Keeps σ (k a b)) {op b} : Keeps σ (s.svcIn op b k) :=
  .ite hs (.ite hs.svc (.ite hs.svc (hk _ _)))

theorem Keeps.setSlot (hs : Keeps σ s) {k x} : Keeps σ (s.setSlot k x) := hs.frame

theorem Keeps.svcRefuse (hs : Keeps σ s) {r} : Keeps σ (s.svcRefuse r) := hs.count.svc

theorem Keeps.svcBegin (hs : Keeps σ s) {d} : Keeps σ (s.svcBegin d) :=
  .ite hs.svcRefuse (.ite hs.svcRefuse (.ite hs.svcRefuse hs.setSlot.updServ))

theorem Keeps.execServiceBegin (hs : Keeps σ s) {frame} {ok} : Runs σ ok (execServiceBegin frame s) :=
  .next (hs.svcIn (fun _ _ => hs.svcBegin))

theorem Keeps.svcPut (hs : Keeps σ s) {off d} : Keeps σ (s.svcPut off d) :=
  .ite hs.svc (.ite (.ite hs.svc hs.setSlot.updServ) (.ite hs.svc hs.svc))

theorem Keeps.execServiceData (hs : Keeps σ s) {frame} {ok} : Runs σ ok (execServiceData frame s) :=
  .next (hs.svcIn (fun _ _ => hs.svcPut))

theorem Keeps.svcFails (hs : Keeps σ s) {r} : Keeps σ (s.svcFails r) := hs.setSlot.updServ.count.raise

theorem Keeps.svcEnd (hs : Keeps σ s) : Keeps σ s.svcEnd := .ite hs.svc (.ite hs.svcFails hs.setSlot.updServ.count.raise)

theorem Keeps.execServiceEnd (hs : Keeps σ s) {frame} {ok} : Runs σ ok (execServiceEnd frame s) :=
  .next (hs.svcIn (fun _ _ => hs.svcEnd))

theorem Keeps.execServiceAbort (hs : Keeps σ s) {frame} {ok} : Runs σ ok (execServiceAbort frame s) :=
  .next (hs.svcIn (fun _ _ => .ite hs.svcFails hs.svc))

theorem Keeps.execServiceActivate (hs : Keeps σ s) {frame} {ok} : Runs σ ok (execServiceActivate frame s) :=
  .next (hs.svcIn (fun _ _ => .ite hs.start hs.svc))

theorem Keeps.execDeliveryTimeout (hs : Keeps σ s) {ok} : Runs σ ok (execDeliveryTimeout s) := .next (.ite hs.svcFails hs)

theorem Keeps.execServiceStatusRead (hs : Keeps σ s) {ok} : Runs σ ok (execServiceStatusRead s) := .next (.ite hs hs.emit)

theorem Keeps.ccc (hs : Keeps σ s) {c d} : Keeps σ (s.ccc c d) := by
  unfold State.ccc
  extract_lets +onlyGivenNames v two byte word
  refine .ite hs ?_
  split
  · exact hs.updServ
  · exact hs.updServ
  · exact hs.updServ
  · exact hs.updServ
  · exact hs.updServ
  · exact .ite hs hs.emit.updServ
  · exact .ite hs hs.updServ
  · exact .ite hs.updServ hs
  · exact hs.updServ
  · exact hs.updServ
  · exact hs.updServ
  · exact hs.updServ
  · exact hs.emit
  · exact hs.emit
  · exact hs.emit
  · exact hs.emit
  · exact hs.emit
  · exact hs.emit
  · exact .ite hs.updServ hs
  · exact .ite hs.updServ hs
  · exact hs

theorem Keeps.execI3cCcc (hs : Keeps σ s) {ccc data} {ok} : Runs σ ok (execI3cCcc ccc data s) := .next hs.ccc

theorem Keeps.execFeedUndervoltage (hs : Keeps σ s) {mv} {ok} : Runs σ ok (execFeedUndervoltage mv s) := .next (.ite hs.frame hs)

theorem Keeps.shutdown (hs : Keeps σ s) : Keeps σ s.shutdown := hs.frame

theorem Keeps.execFeedOvervoltage (hs : Keeps σ s) {ok} : Runs σ ok (execFeedOvervoltage s) := .next (.ite hs hs.shutdown)

theorem Keeps.execPowerSample (hs : Keeps σ s) {watts feedMv} {ok} : Runs σ ok (execPowerSample watts feedMv s) :=
  .next (.ite hs hs.frame)

theorem Keeps.thermal (hs : Keeps σ s) {temps} : Keeps σ (s.thermal temps) := by
  unfold State.thermal
  extract_lets +onlyGivenNames hot s1
  have hs1 : Keeps σ s1 := by
    unfold s1
    refine hs.foldl (fun _ _ hu => ?_)
    split
    · exact hu.setIsland
    · exact hu
  clear_value s1
  exact .ite hs1.shutdown hs1

theorem Keeps.execThermalSample (hs : Keeps σ s) {temps} {ok} : Runs σ ok (execThermalSample temps s) :=
  .next (.ite hs hs.thermal)

end Sys2Proof.Machine
end

section
/-! What the operations of Machine/DictTx leave follows the state that they are given. -/

namespace Sys2Proof.Machine
set_option Elab.async false

variable {σ s t u : State}

theorem Keeps.inFlight (hs : Keeps σ s) {o pdu} : Keeps σ (s.inFlight o pdu) := hs.frame

theorem Keeps.answerD (hs : Keeps σ s) {o pdu idx sub offset total st dt value} : Keeps σ
    (s.answerD o pdu idx sub offset total st dt value) :=
  (Keeps.ite hs.count.count hs.count).respond

theorem Keeps.refuseD (hs : Keeps σ s) {o pdu st dt} : Keeps σ (s.refuseD o pdu st dt) := hs.answerD

theorem Keeps.request (hs : Keeps σ s) {k : State → Nat → Nat → State} (hk : ∀ u b c, Keeps σ u → Keeps σ (k u b c)) {o pdu op} : Keeps σ
    (s.request o pdu op k) := by
  unfold State.request
  refine .ite hs ?_
  split
  · exact hs.refuseD
  · exact hk _ _ _ hs

theorem Keeps.keepSnap (hs : Keeps σ s) {o k v} : Keeps σ (s.keepSnap o k v) := hs.frame

theorem Keeps.readOut (hs : Keeps σ s) {o pdu idx sub v} : Keeps σ (s.readOut o pdu idx sub v) := by
  unfold State.readOut
  extract_lets +onlyGivenNames off want rest
  refine .ite hs.refuseD ?_
  split
  · exact .ite hs.dmaTo.answerD hs.answerD
  · exact hs.answerD

theorem Keeps.readTx (hs : Keeps σ s) {o pdu} : Keeps σ (s.readTx o pdu) := by
  unfold State.readTx
  refine hs.request (fun _ _ _ hu => ?_)
  extract_lets +onlyGivenNames k
  refine .ite hu.refuseD (.ite hu.refuseD (.ite hu.keepSnap.readOut ?_))
  split
  · exact hu.refuseD
  · exact hu.keepSnap.readOut

theorem Keeps.execRead (hs : Keeps σ s) {o pdu t} {ok} : Runs σ ok (execRead o pdu t s) := .next hs.at.readTx

theorem Keeps.describeTx (hs : Keeps σ s) {o pdu} : Keeps σ (s.describeTx o pdu) :=
  hs.request (fun _ _ _ hu => .ite hu.refuseD (.ite hu.refuseD hu.answerD))

theorem Keeps.execDescribe (hs : Keeps σ s) {o pdu t} {ok} : Runs σ ok (execDescribe o pdu t s) := .next hs.at.describeTx

theorem Keeps.nextTx (hs : Keeps σ s) {o pdu} : Keeps σ (s.nextTx o pdu) := by
  unfold State.nextTx
  refine hs.request (fun _ _ _ hu => ?_)
  extract_lets +onlyGivenNames w
  refine .ite hu.refuseD ?_
  split
  · exact hu.refuseD
  · exact .ite hu.refuseD hu.answerD

theorem Keeps.execNext (hs : Keeps σ s) {o pdu t} {ok} : Runs σ ok (execNext o pdu t s) := .next hs.at.nextTx

theorem Keeps.writeAny (hs : Keeps σ s) {o idx sub v} : KeepsOk σ (s.writeAny o idx sub v) :=
  .ite hs.maintWrite (.ite hs.devModeWrite (.ite (.ok hs.alertFree) (.ite (.ok hs.raiseFloors) hs.applyWrite)))

theorem Keeps.writeWhole (hs : Keeps σ s) {o idx sub v} : Keeps σ (s.writeWhole o idx sub v) :=
  .ite hs.resetRow (.ite hs.profileRow (.ite hs.textTableRow (.ite hs.textTableRow (.ite hs.textTableRow (.ite hs.embControlRow
      (.ite hs.vecControlRow (.ite hs.chainRow (.ite hs.packageRow (hs.writeRow (fun _ hu => hu.writeAny))))))))))

theorem Keeps.unstage (hs : Keeps σ s) {o} : Keeps σ (s.unstage o) := hs.frame

theorem Keeps.stage (hs : Keeps σ s) {x} : Keeps σ (s.stage x) := hs.frame

theorem Keeps.segment (hs : Keeps σ s) {o pdu idx sub d} : Keeps σ (s.segment o pdu idx sub d) := by
  unfold State.segment
  extract_lets +onlyGivenNames off total last bad held
  refine .ite hs.refuseD (.ite ?_ ?_)
  · extract_lets +onlyGivenNames s1
    refine .ite hs.unstage.unstage.refuseD (.ite hs.unstage.writeWhole ?_)
    split
    · exact hs.unstage.refuseD
    · exact .ite hs.unstage.refuseD hs.unstage.stage.answerD
  · split
    · exact hs.unstage.refuseD
    · extract_lets +onlyGivenNames v
      refine .ite hs.unstage.refuseD (.ite ?_ hs.stage.answerD)
      extract_lets +onlyGivenNames u
      have hu : Keeps σ u := hs.unstage.writeWhole
      clear_value u
      exact .ite hu.stage hu

theorem Keeps.bulkWrite (hs : Keeps σ s) {fn pdu idx sub} : Keeps σ (s.bulkWrite fn pdu idx sub) := by
  unfold State.bulkWrite
  extract_lets +onlyGivenNames o
  split
  · exact hs.refuseD
  · refine .ite hs.unstage.writeWhole ?_
    extract_lets +onlyGivenNames u
    have hu : Keeps σ u := hs.unstage
    clear_value u
    exact hu.frame

theorem Keeps.writeTx (hs : Keeps σ s) {o pdu data} : Keeps σ (s.writeTx o pdu data) := by
  unfold State.writeTx
  refine hs.inFlight.request (fun _ _ _ hu => .ite ?_ (.ite hu.refuseD hu.segment))
  split
  · exact hu.bulkWrite
  · exact hu

theorem Keeps.execWrite (hs : Keeps σ s) {o pdu data t} {ok} : Runs σ ok (execWrite o pdu data t s) :=
  .next (.ite hs.at.writeTx hs)

theorem Keeps.dmaEnded (hs : Keeps σ s) {fn id v} : Keeps σ (s.dmaEnded fn id v) := by
  unfold State.dmaEnded
  split
  · exact hs
  · extract_lets +onlyGivenNames _ s1 pdu
    split
    · exact .ite hs.frame.dmaFrom.writeWhole hs.frame.refuseD
    · exact hs.frame.refuseD

theorem Keeps.execDmaCompletion (hs : Keeps σ s) {fn id ok data} {good : Prop} : Runs σ good (execDmaCompletion fn id ok data s) :=
  .next hs.dmaEnded

theorem Keeps.execDmaTimeout (hs : Keeps σ s) {fn id} {ok} : Runs σ ok (execDmaTimeout fn id s) := .next hs.dmaEnded

theorem Keeps.pendTx (hs : Keeps σ s) {o} : Keeps σ (s.pendTx o) := by
  unfold State.pendTx
  split
  · exact hs
  · extract_lets +onlyGivenNames q pdu s1
    have hs1 : Keeps σ s1 := hs.emit
    clear_value s1
    split
    · exact hs1.frame
    · exact hs1.count.emit
    · exact hs1

theorem Keeps.execPendTimer (hs : Keeps σ s) {o} {ok} : Runs σ ok (execPendTimer o s) := .next (.ite hs.pendTx hs)

theorem Keeps.execSnapshotExpiry (hs : Keeps σ s) {o t} {ok} : Runs σ ok (execSnapshotExpiry o t s) := by
  unfold Machine.execSnapshotExpiry
  extract_lets +onlyGivenNames u _ d
  have hu : Keeps σ u := hs.at
  clear_value u
  exact .next hu.frame

theorem Keeps.execStagedWriteExpiry (hs : Keeps σ s) {o t} {ok} : Runs σ ok (execStagedWriteExpiry o t s) := by
  unfold Machine.execStagedWriteExpiry
  extract_lets +onlyGivenNames u _ d
  have hu : Keeps σ u := hs.at
  clear_value u
  exact .next hu.frame

theorem Keeps.pollBox (hs : Keeps σ s) {fn mreq req} : Keeps σ (s.pollBox fn mreq req) := .ite hs hs.frame.count.inFlight

theorem Keeps.execMailboxPoll (hs : Keeps σ s) {fn mreq req} : Runs σ (¬ (256 ≤ fn)) (execMailboxPoll fn mreq req s) :=
  .beyond hs.pollBox

end Sys2Proof.Machine
end

section
/-! What the operations of Machine/FieldNet leave follows the state that they are given. -/

namespace Sys2Proof.Machine
set_option Elab.async false

variable {σ s t u : State}

theorem Keeps.sendFrame (hs : Keeps σ s) {dst kind hdr b} : Keeps σ (s.sendFrame dst kind hdr b) := hs.count.emit

theorem Keeps.execFnFrameReceive (hs : Keeps σ s) {dst _src ethertype hdr payload} {ok} : Runs σ ok
    (execFnFrameReceive dst _src ethertype hdr payload s) :=
  .next (.ite hs (.ite hs.count.count hs.count))

theorem Keeps.denyFrame (hs : Keeps σ s) {o pdu} : Keeps σ (s.denyFrame o pdu) := hs.refuseD

theorem Keeps.dictFrame (hs : Keeps σ s) {src hdr payload} : Keeps σ (s.dictFrame src hdr payload) := by
  unfold State.dictFrame
  extract_lets +onlyGivenNames fseq o pdu
  refine .ite hs ?_
  split
  · exact hs.count.sendFrame
  · exact .ite hs (.ite hs.denyFrame hs.inFlight)

theorem Keeps.execDictFrame (hs : Keeps σ s) {src hdr payload} {ok} : Runs σ ok (execDictFrame src hdr payload s) :=
  .next hs.dictFrame

theorem Keeps.flushNet (hs : Keeps σ s) {n} : Keeps σ (State.flushNet n s) := by
  induction n generalizing s with
  | zero => exact hs
  | succ n ih => exact .ite hs (ih hs.frame.count.count)

theorem Keeps.eventAck (hs : Keeps σ s) {hdr} : Keeps σ (s.eventAck hdr) := .ite hs hs.frame.flushNet

theorem Keeps.execEventAck (hs : Keeps σ s) {_src hdr} {ok} : Runs σ ok (execEventAck _src hdr s) := .next hs.eventAck

theorem Keeps.eventResend (hs : Keeps σ s) : Keeps σ s.eventResend := .ite hs (hs.foldl (fun _ _ hu => hu.count.sendFrame))

theorem Keeps.execEventResendTimer (hs : Keeps σ s) {ok} : Runs σ ok (execEventResendTimer s) := .next hs.eventResend

theorem Keeps.setAsm (hs : Keeps σ s) {src x} : Keeps σ (s.setAsm src x) := hs.frame

theorem Keeps.spdmFrag (hs : Keeps σ s) {src b} : Keeps σ (s.spdmFrag src b) :=
  .ite hs.setAsm (.ite hs.setAsm.emit (.ite hs.setAsm hs.setAsm))

theorem Keeps.execSpdmFrame (hs : Keeps σ s) {src hdr payload} {ok} : Runs σ ok (execSpdmFrame src hdr payload s) :=
  .next (.ite hs (.ite hs.denyFrame hs.spdmFrag))

theorem Keeps.announce (hs : Keeps σ s) : Keeps σ s.announce := hs.frame.sendFrame

theorem Keeps.execDiscover (hs : Keeps σ s) {_src hdr} {ok} : Runs σ ok (execDiscover _src hdr s) := .next (.ite hs hs.announce)

theorem Keeps.netUp (hs : Keeps σ s) {plca} : Keeps σ (s.netUp plca) := .ite hs hs.frame.announce.flushNet

theorem Keeps.execFnLinkUp (hs : Keeps σ s) {plca} {ok} : Runs σ ok (execFnLinkUp plca s) := .next hs.netUp

theorem Keeps.execFnLinkDown (hs : Keeps σ s) {ok} : Runs σ ok (execFnLinkDown s) := .next hs.frame.endSpdm

end Sys2Proof.Machine
end

section
/-!
Every command, by its own row: each follows the state that it is given, and a row that stops names a unit that the device does not have.
-/

namespace Sys2Proof.Machine

/-- The first operand of two is in range. -/
theorem left_of_and {p : Prop} [Decidable p] {b : Bool} (h : (decide p && b) = true) : p := of_decide_eq_true (Bool.and_elim_left h)

/-- The second operand of two is in range. -/
theorem right_of_and {p : Prop} [Decidable p] {b : Bool} (h : (b && decide p) = true) : p := of_decide_eq_true (Bool.and_elim_right h)

/-- Both operands are in range. -/
theorem both_of_and {p q : Prop} [Decidable p] [Decidable q] (h : (decide p && decide q) = true) : p ∧ q :=
  ⟨left_of_and h, right_of_and h⟩

variable {σ s : State}

/-- What a command may answer: a state that follows `σ`, or, where it is not well-formed, the stop by name. -/
theorem Keeps.exec (hs : Keeps σ s) (c : Instr) : Runs σ (c.wellFormed = true) (exec c s) :=
  match c with
  | .openCmd .. => hs.execOpen
  | .submit .. => hs.execSubmit
  | .cancel .. => hs.execCancel
  | .pause .. => hs.execPause
  | .park .. => hs.execPark
  | .revive .. => hs.execRevive
  | .fork .. => hs.execFork
  | .close .. => hs.execClose
  | .setTtl .. => hs.execSetTtl
  | .query .. => hs.execQuery
  | .ttlScan .. => hs.execTtlScan
  | .entryFree .. => hs.execEntryFree
  | .functionSplitWrite .. => hs.execFunctionSplitWrite
  | .quotaWrite .. => hs.execQuotaWrite
  | .t1QuotaWrite .. => hs.execT1QuotaWrite
  | .sealDone .. => hs.execSealDone
  | .scrubDone .. => hs.execScrubDone.mono both_of_and
  | .stackLost .. => hs.execStackLost.mono both_of_and
  | .lysingAccessTimeout .. => hs.execLysingAccessTimeout.mono both_of_and
  | .rebuildRowDone .. => hs.execRebuildRowDone
  | .t2BufferWrite .. => hs.execT2BufferWrite
  | .t2ShareAck .. => hs.execT2ShareAck
  | .t2Compaction .. => hs.execT2Compaction
  | .flopiryStackLost .. => hs.execFlopiryStackLost.mono (fun h => Nat.not_le.mpr (of_decide_eq_true h))
  | .wearRead .. => hs.execWearRead.mono (fun h => Nat.not_le.mpr (of_decide_eq_true h))
  | .demotionPassStart .. => hs.execDemotionPassStart
  | .idleDemotion .. => hs.execIdleDemotion
  | .demotionPageDurable .. => hs.execDemotionPageDurable
  | .t2LowStripesMove .. => hs.execT2LowStripesMove
  | .granulePieceMoved .. => hs.execGranulePieceMoved
  | .extentLeaseLapse .. => hs.execExtentLeaseLapse
  | .poolLeaseLapse .. => hs.execPoolLeaseLapse
  | .extentAdd .. => hs.execExtentAdd
  | .extentRemove .. => hs.execExtentRemove
  | .map .. => hs.execMap
  | .unmap .. => hs.execUnmap
  | .place .. => hs.execPlace
  | .rebuild .. => hs.execRebuild
  | .atomic .. => hs.execAtomic
  | .developerPageFetched .. => hs.execDeveloperPageFetched
  | .ownRead .. => hs.execOwnRead
  | .ownRenew .. => hs.execOwnRenew
  | .ownOffer .. => hs.execOwnOffer
  | .ownAccept .. => hs.execOwnAccept
  | .ownRecall .. => hs.execOwnRecall
  | .ownClaim .. => hs.execOwnClaim
  | .ownRelease .. => hs.execOwnRelease
  | .ownNote .. => hs.execOwnNote
  | .ownLeaseScan .. => hs.execOwnLeaseScan
  | .ownRenewTimer .. => hs.execOwnRenewTimer
  | .ownReplyTimeout .. => hs.execOwnReplyTimeout
  | .frozenEnd .. => hs.execFrozenEnd
  | .stagedHoldExpiry .. => hs.execStagedHoldExpiry
  | .migrate .. => hs.execMigrate
  | .moveEnds .. => hs.execMoveEnds
  | .recall .. => hs.execRecall
  | .claim .. => hs.execClaim
  | .whereCmd .. => hs.execWhere
  | .discard .. => hs.execDiscard
  | .moveFields .. => hs.execMoveFields
  | .moveObject .. => hs.execMoveObject
  | .moveResend .. => hs.execMoveResend
  | .moveRefuse .. => hs.execMoveRefuse
  | .moveGuest .. => hs.execMoveGuest
  | .moveRelay .. => hs.execMoveRelay
  | .moveRelayAck _ part _ => hs.execMoveRelayAck (_part := part)
  | .relayResendTimer .. => hs.execRelayResendTimer
  | .laneEnableWrite .. => hs.execLaneEnableWrite
  | .roundOpen .. => hs.execRoundOpen
  | .roundOpenAbandon .. => hs.execRoundOpenAbandon
  | .qkv .. => hs.execQkv.mono (fun h => left_of_and (Bool.and_elim_left h))
  | .roundTimerExpiry .. => hs.execRoundTimerExpiry
  | .splitFinish .. => hs.execSplitFinish.mono (fun h => Nat.not_le.mpr (of_decide_eq_true h))
  | .select .. => hs.execSelect.mono (fun h => left_of_and (Bool.and_elim_left h))
  | .hostAssistWaitExpiry .. => hs.execHostAssistWaitExpiry
  | .stepCommit .. => hs.execStepCommit
  | .stopBathStart .. => hs.execStopBathStart
  | .stopBathLevelChange .. => hs.execStopBathLevelChange
  | .stopBathEnd .. => hs.execStopBathEnd
  | .stopBathQuiet .. => hs.execStopBathQuiet
  | .stopBathLate .. => hs.execStopBathLate
  | .coreSetWrite .. => hs.execCoreSetWrite
  | .profileLoad .. => hs.execProfileLoad
  | .profileUnload .. => hs.execProfileUnload
  | .curveWrite .. => hs.execCurveWrite
  | .decodeTableWrite .. => hs.execDecodeTableWrite
  | .textTableWrite .. => hs.execTextTableWrite
  | .textMore .. => hs.execTextMore
  | .assistPost .. => hs.execAssistPost
  | .assistExchange .. => hs.execAssistExchange
  | .assistReply .. => hs.execAssistReply
  | .gather .. => hs.execGather
  | .add .. => hs.execAdd
  | .set .. => hs.execSet
  | .fillSwitch .. => hs.execFillSwitch
  | .evictionSwitch .. => hs.execEvictionSwitch
  | .sketchHalving .. => hs.execSketchHalving
  | .embTableLoad .. => hs.execEmbTableLoad
  | .embTableUnload .. => hs.execEmbTableUnload
  | .embGather .. => hs.execEmbGather
  | .embAdd .. => hs.execEmbAdd
  | .embSet .. => hs.execEmbSet
  | .embRequant .. => hs.execEmbRequant
  | .embFlush .. => hs.execEmbFlush
  | .vsQuery .. => hs.execVsQuery
  | .scanTaskFinish .. => hs.execScanTaskFinish.mono (fun h => Nat.not_le.mpr (of_decide_eq_true h))
  | .vsInsert .. => hs.execVsInsert
  | .vsDelete .. => hs.execVsDelete
  | .indexLoad .. => hs.execIndexLoad
  | .indexUnload .. => hs.execIndexUnload
  | .holdEpochWrite .. => hs.execHoldEpochWrite
  | .proofRunFinish .. => hs.execProofRunFinish.mono (fun h => Nat.not_le.mpr (of_decide_eq_true h))
  | .katPeriod .. => hs.execKatPeriod
  | .katRunFinish .. => hs.execKatRunFinish.mono (fun h => Nat.not_le.mpr (of_decide_eq_true h))
  | .patternWrite .. => hs.execPatternWrite
  | .exclude .. => hs.execExclude
  | .admitUnit .. => hs.execAdmit
  | .test .. => hs.execTest
  | .forgo .. => hs.execForgo
  | .counterClear .. => hs.execCounterClear
  | .ckpt .. => hs.execCkpt
  | .ckptDouble .. => hs.execCkptDouble
  | .ckptZeroDurable .. => hs.execCkptZeroDurable
  | .ckptCut .. => hs.execCkptCut
  | .ckptQuiesceTimeout .. => hs.execCkptQuiesceTimeout
  | .drainComplete .. => hs.execDrainComplete
  | .sheetDurable .. => hs.execSheetDurable
  | .commitDurable .. => hs.execCommitDurable
  | .ckptAbort .. => hs.execCkptAbort
  | .restore .. => hs.execRestore
  | .cap .. => hs.execCap.mono of_decide_eq_true
  | .capAck .. => hs.execCapAck.mono of_decide_eq_true
  | .capSendTimer .. => hs.execCapSendTimer.mono of_decide_eq_true
  | .trainingTimeout .. => hs.execTrainingTimeout.mono of_decide_eq_true
  | .linkRetryTimer .. => hs.execLinkRetryTimer.mono of_decide_eq_true
  | .signalDetect .. => hs.execSignalDetect.mono of_decide_eq_true
  | .wavelengthLoss .. => hs.execWavelengthLoss.mono left_of_and
  | .narrowingRetrainDone .. => hs.execNarrowingRetrainDone.mono of_decide_eq_true
  | .linkSilence .. => hs.execLinkSilence.mono of_decide_eq_true
  | .laserSourceFail .. => hs.execLaserSourceFail.mono both_of_and
  | .flitReceive .. => hs.execFlitReceive.mono of_decide_eq_true
  | .nakReceive .. => hs.execNakReceive.mono of_decide_eq_true
  | .replayTimer .. => hs.execReplayTimer.mono of_decide_eq_true
  | .messageReceive .. => hs.execMessageReceive.mono of_decide_eq_true
  | .cutThroughForward .. => hs.execCutThroughForward.mono of_decide_eq_true
  | .spillDeparture .. => hs.execSpillDeparture.mono left_of_and
  | .wfqStart .. => hs.execWfqStart.mono left_of_and
  | .timeGateEntry .. => hs.execTimeGateEntry.mono of_decide_eq_true
  | .helloTimer .. => hs.execHelloTimer.mono of_decide_eq_true
  | .hello .. => hs.execHello.mono of_decide_eq_true
  | .policerProfileWrite .. => hs.execPolicerProfileWrite
  | .scheduleWrite .. => hs.execScheduleWrite
  | .markClear .. => hs.execMarkClear
  | .poolGrantReq .. => hs.execPoolGrantReq
  | .poolGrant .. => hs.execPoolGrant
  | .poolRenew .. => hs.execPoolRenew
  | .poolWrite .. => hs.execPoolWrite
  | .poolRead .. => hs.execPoolRead
  | .poolData _ part _ _ _ => hs.execPoolData (_part := part)
  | .poolAck _ part _ => hs.execPoolAck (_part := part)
  | .poolFree .. => hs.execPoolFree
  | .poolRetryTimer .. => hs.execPoolRetryTimer
  | .sqTailWrite .. => hs.execSqTailWrite.mono left_of_and
  | .tailSnoopDelay .. => hs.execTailSnoopDelay.mono left_of_and
  | .tailPoll .. => hs.execTailPoll.mono (fun h => Nat.not_le.mpr (left_of_and h))
  | .ringHeadUpdate .. => hs.execRingHeadUpdate
  | .msixTimer .. => hs.execMsixTimer
  | .functionReset .. => hs.execFunctionReset.mono (fun h => Nat.not_le.mpr (of_decide_eq_true h))
  | .perst .. => hs.execPerst.mono of_decide_eq_true
  | .pcieLinkUp .. => hs.execPcieLinkUp.mono of_decide_eq_true
  | .pcieLinkDown .. => hs.execPcieLinkDown.mono of_decide_eq_true
  | .hostLeaseEnd .. => hs.execHostLeaseEnd.mono of_decide_eq_true
  | .cxlMemAccess .. => hs.execCxlMemAccess.mono of_decide_eq_true
  | .snoopResponse .. => hs.execSnoopResponse.mono of_decide_eq_true
  | .dirtyWriteback .. => hs.execDirtyWriteback.mono of_decide_eq_true
  | .dmaCompletion .. => hs.execDmaCompletion
  | .dmaTimeout .. => hs.execDmaTimeout
  | .ideFailure .. => hs.execIdeFailure.mono left_of_and
  | .ideKm .. => hs.execIdeKm.mono of_decide_eq_true
  | .tdispMessage .. => hs.execTdispMessage.mono (fun h => Nat.not_le.mpr (of_decide_eq_true h))
  | .ringCreate .. => hs.execRingCreate
  | .ringDelete .. => hs.execRingDelete
  | .ring0Create .. => hs.execRing0Create
  | .ring0Delete .. => hs.execRing0Delete
  | .renew .. => hs.execRenew
  | .regionCreate .. => hs.execRegionCreate
  | .regionDelete .. => hs.execRegionDelete
  | .windowOpen .. => hs.execWindowOpen
  | .windowClose .. => hs.execWindowClose
  | .publish .. => hs.execPublish
  | .regionQuery .. => hs.execRegionQuery
  | .bridgeDown .. => hs.execBridgeDown
  | .bridgeUp .. => hs.execBridgeUp
  | .drbgReseed .. => hs.execDrbgReseed
  | .getVersion .. => hs.execGetVersion
  | .getCapabilities .. => hs.execGetCapabilities
  | .negotiateAlgorithms .. => hs.execNegotiateAlgorithms
  | .getDigests .. => hs.execGetDigests
  | .getCertificate .. => hs.execGetCertificate
  | .challenge .. => hs.execChallenge
  | .getMeasurements .. => hs.execGetMeasurements
  | .keyExchange .. => hs.execKeyExchange
  | .finish .. => hs.execFinish
  | .heartbeat .. => hs.execHeartbeat
  | .keyUpdate .. => hs.execKeyUpdate
  | .endSession .. => hs.execEndSession
  | .setCertificate .. => hs.execSetCertificate
  | .chunkSend .. => hs.execChunkSend
  | .chunkGet .. => hs.execChunkGet
  | .getEncapsulatedRequest .. => hs.execGetEncapsulatedRequest
  | .deliverEncapsulatedResponse .. => hs.execDeliverEncapsulatedResponse
  | .spdmSessionTimeout .. => hs.execSpdmSessionTimeout
  | .partitionEnable .. => hs.execPartitionEnable
  | .partitionDisable .. => hs.execPartitionDisable
  | .ownerKeyWrite .. => hs.execOwnerKeyWrite
  | .functionBindingWrite .. => hs.execFunctionBindingWrite
  | .linkKeyWrite .. => hs.execLinkKeyWrite
  | .keyExportRequest .. => hs.execKeyExportRequest
  | .keyPackageImport .. => hs.execKeyPackageImport
  | .confidentialModeWrite .. => hs.execConfidentialModeWrite
  | .safelightUpdate .. => hs.execSafelightUpdate
  | .read .. => hs.execRead
  | .write .. => hs.execWrite
  | .describe .. => hs.execDescribe
  | .next .. => hs.execNext
  | .pendTimer .. => hs.execPendTimer
  | .snapshotExpiry .. => hs.execSnapshotExpiry
  | .stagedWriteExpiry .. => hs.execStagedWriteExpiry
  | .mailboxPoll .. => hs.execMailboxPoll.mono (fun h => Nat.not_le.mpr (of_decide_eq_true h))
  | .fnFrameReceive _ src _ _ _ => hs.execFnFrameReceive (_src := src)
  | .dictFrame .. => hs.execDictFrame
  | .eventAck src _ => hs.execEventAck (_src := src)
  | .spdmFrame .. => hs.execSpdmFrame
  | .discover src _ => hs.execDiscover (_src := src)
  | .fnLinkUp .. => hs.execFnLinkUp
  | .eventResendTimer .. => hs.execEventResendTimer
  | .maintenanceEnter .. => hs.execMaintenanceEnter
  | .maintenanceLeave .. => hs.execMaintenanceLeave
  | .maintenanceReached .. => hs.execMaintenanceReached
  | .maintenanceEntryLate .. => hs.execMaintenanceEntryLate
  | .timeMapSample .. => hs.execTimeMapSample.mono right_of_and
  | .timeMapEmpty .. => hs.execTimeMapEmpty.mono right_of_and
  | .timeMapInvalid .. => hs.execTimeMapInvalid.mono left_of_and
  | .calendarSet .. => hs.execCalendarSet
  | .calendarDistribute .. => hs.execCalendarDistribute
  | .calendarFreeRun .. => hs.execCalendarFreeRun
  | .calendarPersist .. => hs.execCalendarPersist
  | .lifetimeUpdate .. => hs.execLifetimeUpdate
  | .lifetimePersist .. => hs.execLifetimePersist
  | .replanPeriod .. => hs.execReplanPeriod
  | .replanNow .. => hs.execReplanNow
  | .marginCurveWrite .. => hs.execMarginCurveWrite.mono (fun h => Nat.not_le.mpr (right_of_and h))
  | .slackRead .. => hs.execSlackRead.mono (fun h => Nat.not_le.mpr (of_decide_eq_true h))
  | .planApprove .. => hs.execPlanApprove.mono (fun h => Nat.not_le.mpr (right_of_and h))
  | .leaseRenewRequest .. => hs.execLeaseRenewRequest
  | .leaseGrant .. => hs.execLeaseGrant
  | .halfLeaseEnd .. => hs.execHalfLeaseEnd
  | .rotGrantEnd .. => hs.execRotGrantEnd
  | .leadMoveWrite .. => hs.execLeadMoveWrite
  | .leadMessage .. => hs.execLeadMessage
  | .refclkLoss .. => hs.execRefclkLoss
  | .refclkReturn .. => hs.execRefclkReturn
  | .powerOn .. => hs.execPowerOn
  | .startupEnd .. => hs.execStartupEnd
  | .warmReset .. => hs.execWarmReset
  | .halfReset .. => hs.execHalfReset
  | .halfStartupEnd .. => hs.execHalfStartupEnd
  | .heartbeatMiss .. => hs.execHeartbeatMiss
  | .startupReadyTimeout .. => hs.execStartupReadyTimeout
  | .testModeEnter .. => hs.execTestModeEnter
  | .testModeLeave .. => hs.execTestModeLeave
  | .raiseFloors .. => hs.execRaiseFloors
  | .alertRelease .. => hs.execAlertRelease
  | .serviceBegin .. => hs.execServiceBegin
  | .serviceData .. => hs.execServiceData
  | .serviceEnd .. => hs.execServiceEnd
  | .serviceAbort .. => hs.execServiceAbort
  | .serviceActivate .. => hs.execServiceActivate
  | .deliveryTimeout .. => hs.execDeliveryTimeout
  | .serviceStatusRead .. => hs.execServiceStatusRead
  | .i3cCcc .. => hs.execI3cCcc
  | .feedUndervoltage .. => hs.execFeedUndervoltage
  | .feedOvervoltage .. => hs.execFeedOvervoltage
  | .powerSample .. => hs.execPowerSample
  | .thermalSample .. => hs.execThermalSample
  | .perstDeassert .. => hs.execPerstDeassert.mono of_decide_eq_true
  | .fnLinkDown .. => hs.execFnLinkDown
  | .restoreComplete .. => hs.execRestoreComplete
  | .mapCheckDone .. => hs.execMapCheckDone
  | .leadDropAck .. => hs.execLeadDropAck
  | .dailyCountReport .. => hs.execDailyCountReport
  | .stackAnswersAgain .. => hs.execStackAnswersAgain.mono both_of_and
  | .msixVectorUnmask .. => hs.execMsixVectorUnmask.mono (fun h => not_or.mpr ((both_of_and h).imp Nat.not_le.mpr Nat.not_le.mpr))
  | .poolLeaseRenewal .. => hs.execPoolLeaseRenewal

theorem Runs.complete {ok : Prop} {a : Host.Outcome State Fault Refusal} (ha : Runs σ ok a) (h : ok) : ∃ u, a = .next u := by
  cases ha with
  | next hu => exact ⟨_, rfl⟩
  | stop hn => exact absurd h hn

theorem Runs.keeps {ok : Prop} {u : State} (ha : Runs σ ok (.next u)) : Keeps σ u := by
  cases ha with
  | next hu => exact hu

theorem Runs.names_unit {ok : Prop} {f : Fault} (ha : Runs σ ok (.fault f)) : ¬ ok ∧ ∃ unit n, f = .noSuchUnit unit n := by
  cases ha with
  | stop hn => exact ⟨hn, _, _, rfl⟩

theorem Runs.ne_refused {ok : Prop} {a : Host.Outcome State Fault Refusal} (ha : Runs σ ok a) (r : Refusal) : a ≠ .refused r := by
  cases ha <;> exact nofun

/-- What `exec` makes of a command follows the state that it is given. -/
theorem keeps_of_exec {c : Instr} {u : State} (h : exec c s = .next u) : Keeps s u := (h ▸ Keeps.refl.exec c).keeps

/-- Settles O58: no command changes the queue, as each of its operations follows the state that it is given. -/
theorem queueUntouched : Obligations.QueueUntouched := by
  unfold Obligations.QueueUntouched
  exact fun _ _ _ h => (keeps_of_exec h).queue

/-- Settles O60: every row answers a next state or, outside the units that the device has, the stop by name. -/
theorem commandsComplete : Obligations.CommandsComplete := by
  unfold Obligations.CommandsComplete
  refine ⟨fun c s h => ((Keeps.refl (s := s)).exec c).complete h, fun c s => ⟨fun f hf => ?_, ((Keeps.refl (s := s)).exec c).ne_refused⟩⟩
  obtain ⟨hn, hu⟩ := (hf ▸ (Keeps.refl (s := s)).exec c).names_unit
  exact ⟨Bool.eq_false_iff.mpr hn, hu⟩

/-- Settles O59: a step idles or runs the front command, and what that leaves follows the state with the rest of the queue. -/
theorem everyStepKeeps : Obligations.EveryStepKeeps := by
  unfold Obligations.EveryStepKeeps
  intro s u hk h
  unfold step at h
  split at h
  · cases h
    exact hk
  · exact (keeps_of_exec h).kept hk

end Sys2Proof.Machine
end

section
/-!
The session commands of chapter 2: what CANCEL, PAUSE, CLOSE, QUERY and SET_TTL answer once their handle passes, a TTL visit, the freeing
of an entry, and the stream slot of a request.
-/

namespace Sys2Proof.Machine

variable {s : State} {fn sq i p : Nat} {d : Desc}

/-! ### CANCEL and PAUSE -/

theorem exec_cancel (h : TakenSess s 0x03 fn d false false p) :
    exec (.cancel fn sq d) s = .next (s.cancelCmd (s.cmdOf fn sq d false) (hIdx (dHnd d)) d) :=
  congrArg Host.Outcome.next (takeSessC_eq h)

theorem exec_pause (h : TakenSess s 0x04 fn d false false p) :
    exec (.pause fn sq d) s = .next (s.pauseCmd (s.cmdOf fn sq d false) (hIdx (dHnd d))) :=
  congrArg Host.Outcome.next (takeSessC_eq h)

theorem cancelLive_holds : Claim.cancelLive := by
  intro s fn sq d p i ht hst hcl hsv hsl hhas
  subst i
  rw [exec_cancel ht]
  simp_all [State.cancelCmd, b2n]

theorem cancelMisses_holds : Claim.cancelMisses := by
  intro s fn sq d p i ht hst hcl hmiss
  have hhit : ((s.ent i).sv && (s.ent i).slot == dFld d 141 128) = false := by
    rcases hmiss with h | h <;> simp [h]
  subst i
  rw [exec_cancel ht]
  simp [State.cancelCmd, hst, hcl, hhit, b2n]

theorem cancelEnds_holds : Claim.cancelEnds := by
  intro s fn sq d p i e ht hx hl hcl hsv hsl hhas
  subst e i
  rw [exec_cancel ht]
  simp_all [State.cancelCmd, b2n]

theorem cancelCloses_holds : Claim.cancelCloses := by
  intro s fn sq d p i e ht hcl
  subst e i
  rw [exec_cancel ht]
  refine ⟨fun hst hsv => ?_, fun hst hsv hsl hhas => ?_, fun hst => ?_⟩ <;> simp_all [State.cancelCmd, b2n]

theorem pauseLive_holds : Claim.pauseLive := by
  intro s fn sq d p i ht hst hsv hhas
  subst i
  rw [exec_pause ht]
  simp [State.pauseCmd, hst, hsv, hhas, b2n]

theorem pauseOthers_holds : Claim.pauseOthers := by
  intro s fn sq d p i e ht hx hl
  subst e i
  rw [exec_pause ht]
  refine ⟨fun hsv hhas => ?_, fun hsv => ?_⟩ <;> simp_all [State.pauseCmd, b2n]

/-! ### CLOSE, QUERY and SET_TTL -/

theorem exec_close (h : TakenSess s 0x08 fn d true false p) :
    exec (.close fn sq d) s = .next (if (s.ent (hIdx (dHnd d))).state = .moving then s.busy (s.cmdOf fn sq d false)
      else s.closeSess (hIdx (dHnd d)) [s.cmdOf fn sq d false]) :=
  congrArg Host.Outcome.next (takeSessC_eq h)

theorem State.closeSess_live (h : (s.ent i).state = .live) (cs : List Cmd) :
    let s1 := s.updEnt i (fun x => { x with cp := true, cl := true })
    s.closeSess i cs =
      State.atBoundary { s1 with sess := { s1.sess with closes := s1.sess.closes.put i (s1.sess.closes.getD i [] ++ cs) } } i := by
  simp only [State.closeSess, h]

theorem closeNow_holds : Claim.closeNow := by
  intro s fn sq d p i ht hst
  subst i
  rw [exec_close ht]
  rcases hst with hst | hst <;> simp [State.closeSess, hst]

theorem closeOthers_holds : Claim.closeOthers := by
  intro s fn sq d p i e c ht
  subst c e i
  rw [exec_close ht]
  refine ⟨fun hst => ?_, fun hst => ?_, fun hst => ?_, fun hst => ?_⟩
  · rw [if_neg (by simp [hst]), State.closeSess_live hst]
  · rw [if_neg (by simp [hst])]
    simp [State.closeSess, hst]
  · rw [if_neg (by simp [hst])]
    simp [State.closeSess, hst]
  · rw [if_pos hst]

theorem queryReads_holds : Claim.queryReads :=
  fun _ _ _ _ _ ht => congrArg Host.Outcome.next (takeSessC_eq ht)

/-- Settles O2: each state of Table 2-2 picks one branch of the command. -/
theorem sessionCancelPauseClose : Obligations.SessionCancelPauseClose :=
  ⟨cancelLive_holds, cancelMisses_holds, cancelEnds_holds, cancelCloses_holds, pauseLive_holds, pauseOthers_holds, closeNow_holds,
    closeOthers_holds, queryReads_holds⟩

theorem exec_setTtl (h : TakenSess s 0x09 fn d true false p) (hb : s.ttlBad (dFld d 191 160) = false) :
    exec (.setTtl fn sq d) s = .next (s.setTtlCmd (s.cmdOf fn sq d false) (hIdx (dHnd d)) (dFld d 191 160)) := by
  show execSetTtl fn sq d s = _
  rw [execSetTtl, hb, takeSessC_eq h]

theorem setTtlStores_holds : Claim.setTtlStores := by
  intro s fn sq d p i ht hb hx hm hp
  subst i
  rw [exec_setTtl ht hb]
  simp [State.setTtlCmd, hp]

theorem setTtlParked_holds : Claim.setTtlParked := by
  intro s fn sq d p i ht hb hst
  subst i
  rw [exec_setTtl ht hb]
  simp [State.setTtlCmd, hst]

theorem setTtlMoving_holds : Claim.setTtlMoving := by
  intro s fn sq d p ht hb hst
  rw [exec_setTtl ht hb]
  simp [State.setTtlCmd, hst]

/-! ### TTL visits (R39) -/

theorem State.entryRead_of_good (h : (s.ent i).copyBad = false) : s.entryRead i = s := by
  simp [State.entryRead, h]

theorem State.ttlVisit_of_not_due (hb : (s.ent i).copyBad = false)
    (h : (s.ent i).state ≠ .parked ∨ (s.ent i).ton = false ∨ (s.ent i).ttl = 0xFFFFFFFF ∨ s.nowMs (idxHalf i) < (s.ent i).expires) :
    s.ttlVisit i = s := by
  simp only [State.ttlVisit, State.entryRead_of_good hb]
  exact if_pos (by simpa using h)

theorem State.ttlVisit_of_due (hb : (s.ent i).copyBad = false) (hp : (s.ent i).state = .parked) (ht : (s.ent i).ton = true)
    (hn : (s.ent i).ttl ≠ 0xFFFFFFFF) (he : (s.ent i).expires ≤ s.nowMs (idxHalf i)) :
    s.ttlVisit i =
      if s.split (s.ent i).part 8 then
        ((((s.count 0x8200 3 1).stopDemotion i stCANCELLED 0 true).toState i .expired).stopTtl i).raise 0x2001 (s.ent i).part (idxHalf i)
          (w2 (s.handleOf i))
      else (s.count 0x8200 3 1).closeEntry i true true := by
  simp only [State.ttlVisit, State.entryRead_of_good hb]
  exact if_neg (by simp [hp, ht, hn, he])

theorem ttlExpires_holds : Claim.ttlExpires := by
  refine fun s => ⟨fun _ _ _ => rfl, fun i hb => ⟨fun hp ht hn he => ?_, State.ttlVisit_of_not_due hb⟩⟩
  rw [State.ttlVisit_of_due hb hp ht hn he]
  exact ⟨fun h => if_neg (Bool.eq_false_iff.mp h), fun h => if_pos h⟩

/-- A scan whose visits each leave the state leaves it. -/
theorem ttlKeeps_holds : Claim.ttlKeeps := by
  intro s half first last hgood hlate
  refine congrArg Host.Outcome.next (List.foldlRecOn (motive := (· = s)) _ _ rfl fun t ht i hi => ?_)
  obtain ⟨ie, hie, rfl⟩ := List.mem_map.mp (List.mem_filter.mp hi).1
  rw [ht]
  refine State.ttlVisit_of_not_due (hgood ie hie) ?_
  by_cases hp : (s.ent ie.1).state = .parked
  · exact .inr (.inr (.inr (hlate ie hie hp)))
  · exact .inl hp

/-! ### Entries freed, settings written -/

theorem entryFrees_holds : Claim.entryFrees := by
  refine fun s i => ⟨fun hc hr hp hg => congrArg Host.Outcome.next ?_, fun h => congrArg Host.Outcome.next (if_pos (by simpa using h))⟩
  unfold State.freeEntry
  rw [if_neg (by simp [hc, hr, hp]), if_neg (by omega)]

theorem entryRetires_holds : Claim.entryRetires := by
  intro s i hc hr hp hg
  refine congrArg Host.Outcome.next ?_
  unfold State.freeEntry
  rw [if_neg (by simp [hc, hr, hp]), if_pos hg]

theorem sessionWrites_holds : Claim.sessionWrites := by
  intro s o p sub v hp
  have hm := Nat.mod_eq_of_lt hp
  refine ⟨fun hw => ?_, fun hw => ?_, fun hw => ?_⟩
  · show execFunctionSplitWrite o p sub v s = _
    rw [execFunctionSplitWrite, hm]
    exact congrArg Host.Outcome.next (writeRow_eq hw rfl)
  · show execQuotaWrite o p sub v s = _
    rw [execQuotaWrite, hm]
    exact congrArg Host.Outcome.next (writeRow_eq hw rfl)
  · show execT1QuotaWrite o p sub v s = _
    rw [execT1QuotaWrite, hm]
    exact congrArg Host.Outcome.next (writeRow_eq hw rfl)

/-- Settles O4: SET_TTL by the session's state, a TTL visit by whether the time has come, an entry by its generation. -/
theorem sessionTimesAndQuotas : Obligations.SessionTimesAndQuotas :=
  ⟨setTtlStores_holds, setTtlParked_holds, setTtlMoving_holds, ttlExpires_holds, ttlKeeps_holds, entryFrees_holds, entryRetires_holds,
    sessionWrites_holds⟩

/-! ### Stream slots (R20, R41) -/

@[simp] theorem State.raise_sess (s : State) (code part half : Nat) (ws : List Nat) : (s.raise code part half ws).sess = s.sess :=
  raise_keeps State.sess (fun _ _ _ _ _ => rfl) (fun _ _ => rfl) s code part half ws

@[simp] theorem State.raiseOnce_sess (s : State) (code k part half : Nat) (ws : List Nat) :
    (s.raiseOnce code k part half ws).sess = s.sess := by
  unfold State.raiseOnce
  split
  · rfl
  · rw [State.raise_sess]

@[simp] theorem State.count_sess (s : State) (idx sub n : Nat) : (s.count idx sub n).sess = s.sess := by
  unfold State.count
  dsimp only
  split
  · rw [State.raise_sess]
  · rfl

@[simp] theorem State.satTell_sess (s : State) (n : Nat) : (s.satTell n).sess = s.sess :=
  List.foldlRecOn (motive := fun t : State => t.sess = s.sess) _ _ rfl fun _ ht _ _ => (State.raise_sess _ _ _ _ _).trans ht

@[simp] theorem State.send_sess (s : State) (c : Cmd) (x : Completion) : (s.send c x).sess = s.sess := by
  unfold State.send
  split
  · rw [State.post, State.satTell_sess]
  · rfl

@[simp] theorem State.refuseA_sess (s : State) (c : Cmd) (st dt aux : Nat) : (s.refuseA c st dt aux).sess = s.sess := by
  unfold State.refuseA State.countRefusal
  split <;> simp

theorem State.freeSlot_of_takeSlot {h k : Nat} (hk : s.takeSlot p h = .ok k) : s.freeSlot h = some k := by
  unfold State.takeSlot at hk
  split at hk
  · cases hk
  · split at hk <;> cases hk
    assumption

theorem State.freeSlot_lowest {h k : Nat} (hk : s.freeSlot h = some k) :
    8192 * h ≤ k ∧ k < 8192 * h + 8192 ∧ s.slotBusy k = false ∧ ∀ j, 8192 * h ≤ j → j < k → s.slotBusy j = true := by
  obtain ⟨hlo, hhi, hfree, hbelow⟩ := firstFrom_some _ _ _ _ hk
  exact ⟨hlo, hhi, by simpa using hfree, fun j h1 h2 => by simpa using hbelow j h1 h2⟩

theorem State.submitCmd_taken (ht : TakenSess s 0x02 fn d false false p) (hb : s.submitBad fn d = false)
    (hst : (s.ent (hIdx (dHnd d))).state = .idle ∨ (s.ent (hIdx (dHnd d))).state = .parked) (input : Option (List Byte)) :
    s.submitCmd fn sq d input = s.submitOn (s.cmdOf fn sq d (dFlag d 24)) p (hIdx (dHnd d)) d input := by
  rw [State.submitCmd, hb, takeSessC_eq ht]
  rcases hst with hst | hst <;> simp [hst]

theorem slotsOfHalf_holds : Claim.slotsOfHalf := by
  refine ⟨fun s p h k hk => State.freeSlot_lowest (State.freeSlot_of_takeSlot hk), ?_⟩
  intro s fn sq d input t p ps b s1 i h ht hb hst hlane htext hps hlen hmax hsplit hin hquota hfree
  refine ⟨_, congrArg Host.Outcome.next ((State.submitCmd_taken ht hb hst input).trans ?_), rfl, by simp⟩
  have htake : s1.takeSlot p h = .error (s1.raiseOnce 0x2005 h p h [h], 0) := by
    simp [State.takeSlot, Nat.not_le.mpr hquota, hfree]
  have hon : s1.submitOn (s1.cmdOf fn sq d (dFlag d 24)) p i d input = s1.submitTake (s1.cmdOf fn sq d (dFlag d 24)) p i d ps b := by
    simp [State.submitOn, i, h, hlane, htext, hps, hlen.ne', Nat.not_lt.mpr hmax, hsplit, hin]
  rw [hon, State.submitTake, htake]
  rfl

/-- Settles O49: a slot is the first free one of its half, and where none is free the raised event and the refusal leave the sessions. -/
theorem slotsOfAHalf : Obligations.SlotsOfAHalf := slotsOfHalf_holds

end Sys2Proof.Machine
end

section
/-!
T2 and Flopiry stacks (R83 to R88): stripes written, acknowledged and compacted, stacks lost and worn.
-/

namespace Sys2Proof.Machine

variable {s : State} {h : Nat}

theorem exec_t2BufferWrite (hh : h < 2) : exec (.t2BufferWrite h) s = .next (s.t2Write h) := by
  show execT2BufferWrite h s = _
  rw [execT2BufferWrite, Nat.mod_eq_of_lt hh]

theorem exec_t2Compaction (hh : h < 2) : exec (.t2Compaction h) s = .next (s.compact h) := by
  show execT2Compaction h s = _
  rw [execT2Compaction, Nat.mod_eq_of_lt hh]

theorem t2Written_holds : Claim.t2Written := by
  intro s h hh hf t t1 s1 s3
  have hrow : exec (.t2BufferWrite h) s = .next (if s3.t2Free h < s3.compactMark ∧ s3.compactMark ≤ s.t2Free h + 1 then
      s3.raiseOnce 0x300B h 0 h [h, s3.t2Free h] else s3) := by
    rw [exec_t2BufferWrite hh, State.t2Write, if_neg hf]
    simp only [List.isEmpty_iff]
    rfl
  rw [hrow]
  exact ⟨fun hge => by rw [if_neg (by omega)], fun hlt hge => by rw [if_pos ⟨hlt, hge⟩]⟩

theorem t2Empty_holds : Claim.t2Empty := by
  intro s h hh hf
  rw [exec_t2BufferWrite hh, State.t2Write, if_pos hf]

theorem shareAcked_holds : Claim.shareAcked := by
  intro s n f x hn hf h hx
  subst h
  have hh : n / t2Stripes % 2 = n / t2Stripes := Nat.mod_eq_of_lt (Nat.div_lt_of_lt_mul (by omega))
  have hrow : exec (.t2ShareAck n f) s = .next (s.shareAck n f) := rfl
  simp only [hrow, State.shareAck, hx, hh, Nat.mod_eq_of_lt hf]
  exact ⟨fun hb => by rw [if_neg (by rcases hb with hb | hb <;> simp [hb])], fun hb hn => by rw [if_pos ⟨hb, hn⟩]⟩

theorem compacts_holds : Claim.compacts := by
  intro s h hh hon s0 s1
  have hgate : ¬ ((!decide (s.t2Free h < s.compactMark)) = true
      ∧ (!(s.tiers.compact.get h && decide (s.t2Free h ≤ 2 * s.compactMark))) = true) := by
    rcases hon with h1 | ⟨h1, h2⟩
    · simp [h1]
    · simp [h1, h2]
  rw [exec_t2Compaction hh, State.compact, if_neg hgate]
  simp only [decide_eq_true_eq]
  subst s1 s0
  refine ⟨fun n x hx => ?_, fun hx => by rw [hx]⟩
  rw [hx]
  exact ⟨fun hle => congrArg Host.Outcome.next (if_neg (Nat.not_lt.mpr hle)), fun hlt => congrArg Host.Outcome.next (if_pos hlt)⟩

theorem compactsNot_holds : Claim.compactsNot := by
  intro s h hh hge hoff
  rw [exec_t2Compaction hh, State.compact, if_pos]
  refine ⟨by simpa using hge, ?_⟩
  rcases hoff with h1 | h1
  · simp [h1]
  · simp [Nat.not_le.mpr h1]

theorem flopiryLost_holds : Claim.flopiryLost := by
  intro s f hf
  have hrow : exec (.flopiryStackLost f) s = .next (s.flashLost f).ckptCheck := if_neg (by omega)
  rw [hrow, State.flashLost]
  exact ⟨fun h => by rw [if_neg (by simp [h])], fun h => by rw [if_pos h]⟩

theorem wear_holds : Claim.wear := by
  intro s f n hf x y t u
  refine (if_neg (by omega)).trans (congrArg Host.Outcome.next ?_)
  simp [u, t, y, x]

/-- Settles O7: each row takes the branch that its buffer, its free stripes, or its stack's condition picks. -/
theorem flopiryStripes : Obligations.FlopiryStripes :=
  ⟨t2Written_holds, t2Empty_holds, shareAcked_holds, compacts_holds, compactsNot_holds, flopiryLost_holds, wear_holds⟩

end Sys2Proof.Machine
end

section
/-!
Demotion and the extents below T2 (R93 to R102).
-/

namespace Sys2Proof.Machine

variable {s : State}

theorem passStarts_holds : Claim.passStarts := by
  intro s h hh
  have hrow : exec (.demotionPassStart h) s = .next (s.passStart h) := by
    show execDemotionPassStart h s = _
    rw [execDemotionPassStart, Nat.mod_eq_of_lt hh]
  rw [hrow, State.passStart]
  refine ⟨fun hoff => by rw [if_pos hoff.symm], fun hlt hrun => ?_⟩
  rw [if_neg (by simp [hrun, Nat.not_le.mpr hlt])]

theorem idleDemoted_holds : Claim.idleDemoted := by
  intro s i e n
  refine ⟨fun h5 hst how => ?_, fun hoff => congrArg Host.Outcome.next (if_pos hoff)⟩
  have hrow : exec (.idleDemotion i) s = .next (s.policyDemote i false false).1 :=
    congrArg Host.Outcome.next (if_neg (not_or.mpr ⟨h5, not_or.mpr ⟨not_not_intro hst, not_not_intro how⟩⟩))
  subst n e
  simp only [hrow, State.policyDemote]
  exact ⟨fun t ht => by rw [ht], fun hnone => by rw [hnone]; rfl⟩

theorem State.demotedPage_of_page {i pid : Nat} (hp : pid ≠ 0) (hc : s.tiers.gcmds.any (fun c => c.left.contains (pageCode pid)) = false) :
    s.demotedPage i pid = s.demoDurable i pid := by
  unfold State.demotedPage
  rw [if_neg hp, if_neg (Bool.eq_false_iff.mp hc)]

theorem pageDurable_holds : Claim.pageDurable := by
  intro s0 i pid t d p s hp hc hd hg
  have hrow : exec (.demotionPageDurable i pid t) s0 = .next (s.demoDurable i pid) :=
    congrArg Host.Outcome.next (State.demotedPage_of_page hp hc)
  rw [hrow]
  refine ⟨fun hl hn hdur => congrArg Host.Outcome.next ?_, fun hno => congrArg Host.Outcome.next ?_⟩
  · simp [State.demoDurable, hd, hg, hp, hl, hn, hdur]
  · simp only [State.demoDurable, hd, hg, if_neg hp]
    exact if_pos (by simpa using hno)

theorem lowStripes_holds : Claim.lowStripes := by
  intro s h hh
  have hrow : exec (.t2LowStripesMove h) s = .next (s.lowStripes h) := by
    show execT2LowStripesMove h s = _
    rw [execT2LowStripesMove, Nat.mod_eq_of_lt hh]
  rw [hrow]
  refine ⟨fun hhi => congrArg Host.Outcome.next (if_pos ?_), fun i t hlo => ?_⟩
  · have hge : ¬ s.t2Free h < t2Stripes / 32 := by
      unfold t2Stripes at *
      omega
    simp [hge, Nat.not_le.mpr hhi]
  · intro s0 l tabs hi ht
    have hon : (!(decide (s.t2Free h < t2Stripes / 32)
        || (s.ev.latch.has (latchKey 0x13000 h) && decide (s.t2Free h ≤ t2Stripes / 16)))) = false := by
      simp [hlo]
    refine congrArg Host.Outcome.next ((if_neg (Bool.eq_false_iff.mp hon)).trans ?_)
    subst tabs l s0
    simp only [hi, ht]

theorem State.pieceMoved_of_move {g : Nat} {x : Granule} {m : GranMove} (hx : s.gran g = some x) (hm : x.mv = some m) :
    s.pieceMoved g =
      if s.boot.bridge = true ∧ (m.tier = 2 ∨ x.tier = 2) then s
      else if m.pieces + 1 < 32 then s.updGran g (fun y => { y with mv := some { m with pieces := m.pieces + 1 } })
      else if !s.durable (m.tier * 2 ^ 45 + m.loc) (.granule g) then s
      else s.switchGran g x m := by
  simp only [State.pieceMoved, hx, hm]

theorem pieces_holds : Claim.pieces := by
  intro s g x m hx hm
  have hrow : exec (.granulePieceMoved g) s = .next (s.pieceMoved g) := rfl
  rw [hrow, State.pieceMoved_of_move hx hm]
  refine ⟨fun hb ht => by rw [if_pos ⟨hb, ht⟩], fun hgo => ?_⟩
  have hfree : ¬ (s.boot.bridge = true ∧ (m.tier = 2 ∨ x.tier = 2)) := by
    rcases hgo with hb | ⟨h1, h2⟩
    · simp [hb]
    · simp [h1, h2]
  rw [if_neg hfree]
  refine ⟨fun hlt => ?_, fun hge hdur => ?_, fun hge hdur => ?_⟩
  · rw [if_pos (by omega)]
  · rw [if_neg (by omega), if_neg (by rw [hdur]; decide)]
  · rw [if_neg (by omega), if_pos (by rw [hdur]; rfl)]

theorem extentLapses_holds : Claim.extentLapses := by
  intro s p id x hid hx hl s1
  show execExtentLeaseLapse p id s = _
  rw [execExtentLeaseLapse, Nat.mod_eq_of_lt hid]
  simp [State.lapseExtent, hx, hl, s1]

theorem poolLapses_holds : Claim.poolLapses := by
  refine fun s peer ext b => ⟨rfl, fun hb => ?_⟩
  show execPoolLeaseLapse false peer ext s = _
  simp [execPoolLeaseLapse, State.borrowLapse, hb]

section
variable {fn sq p : Nat} {d : Desc}

theorem exec_extentAdd (h : Taken s 0x20 fn d p) : exec (.extentAdd fn sq d) s = .next (s.extentAdd (s.cmdOf fn sq d false) p d) :=
  congrArg Host.Outcome.next (take_eq h)

theorem exec_extentRemove (h : Taken s 0x21 fn d p) :
    exec (.extentRemove fn sq d) s = .next (s.extentRemove (s.cmdOf fn sq d false) p d) :=
  congrArg Host.Outcome.next (take_eq h)

end

theorem extentAdded_holds : Claim.extentAdded := by
  intro s fn sq d p ht id key c haddr hpos hmax
  have hfields : ¬ (dFld d 191 128 % 2 ^ 21 ≠ 0 ∨ dFld d 223 192 = 0 ∨ 131072 < dFld d 223 192) := by omega
  rw [exec_extentAdd ht]
  unfold State.extentAdd
  rw [if_neg hfields]
  refine ⟨fun hnone => ?_, fun x hx => ?_⟩
  · simp only [key, id] at hnone
    rw [hnone]
    exact ⟨fun hf => by simp [hf]; rfl, fun hf => by simp [hf]; rfl⟩
  · simp only [key, id] at hx
    rw [hx]
    refine ⟨fun hf hlen => by simp [hf, hlen]; rfl, fun hf => by simp [hf]; rfl⟩

theorem extentRemoved_holds : Claim.extentRemoved := by
  intro s fn sq d p x ht id c hx
  subst c id
  rw [exec_extentRemove ht]
  simp only [State.extentRemove, hx]
  refine ⟨fun he => ?_, fun hne => ⟨fun hf => ?_, fun hf hl => ?_, fun hf hl => ?_⟩⟩ <;> simp_all

/-- Settles O8: each row takes the branch that its marks, its tier's room or its lease picks. -/
theorem demotionAndExtents : Obligations.DemotionAndExtents :=
  ⟨passStarts_holds, idleDemoted_holds, pageDurable_holds, lowStripes_holds, pieces_holds, extentLapses_holds, poolLapses_holds,
    extentAdded_holds, extentRemoved_holds⟩

end Sys2Proof.Machine
end

section
/-!
MAP, UNMAP, PLACE, REBUILD and ATOMIC on granules (R78, R103, R104).
-/

namespace Sys2Proof.Machine

variable {s : State} {fn sq p : Nat} {d : Desc} {c : Cmd}

theorem State.refuseX_denied (s : State) (c : Cmd) : s.refuseX c stDENIED 0 = (s.count 0x8700 3 1).refuse c stDENIED 0 :=
  congrArg (State.refuse · c stDENIED 0) (if_pos ⟨rfl, rfl⟩)

theorem exec_map (h : Taken s 0x22 fn d p) : exec (.map fn sq d) s = .next (s.mapCmd (s.cmdOf fn sq d false) p d) :=
  congrArg Host.Outcome.next (take_eq h)

theorem maps_holds : Claim.maps := by
  intro s fn sq d p ht hf hg r
  have hpart : (granList d).any (fun g => !s.partOn (granPart g) || (p != 0 && granPart g != p)) = false := by
    refine List.any_eq_false.mpr fun g h => ?_
    obtain ⟨hon, hown, -⟩ := hg g h
    rw [hon, hown]
    simp
  have hrange : (granList d).any (fun g => decide (2 ^ 35 ≤ g)) = false := by
    refine List.any_eq_false.mpr fun g h => ?_
    obtain ⟨-, -, hlt, -⟩ := hg g h
    simpa using hlt
  have hdeny : (granList d).any (fun g => s.mapDenied g (dFlag d 24)) = false := by
    simp +contextual [List.any_eq_false, hg]
  have hbusy : (granList d).any (fun g => (s.gran g).isSome) = false := by
    simp +contextual [List.any_eq_false, hg]
  rw [exec_map ht, State.mapCmd]
  simp only [hf, hpart, hrange, hdeny, hbusy]
  rfl

theorem mapDenies_holds : Claim.mapDenies := by
  intro s fn sq d p ht hf hp hg
  obtain ⟨g, hmem, hother⟩ := hg
  have hpart : (granList d).any (fun g => !s.partOn (granPart g) || (p != 0 && granPart g != p)) = true :=
    List.any_eq_true.mpr ⟨g, hmem, by simp [hp, hother]⟩
  rw [exec_map ht]
  unfold State.mapCmd
  rw [if_neg (by simp [hf]), if_pos hpart, State.refuseX_denied]

theorem unmaps_holds : Claim.unmaps := by
  intro s fn sq d p ht hf ha hg
  have hdeny : (granList d).any (fun g => s.mapDenied g false) = false := by
    simp +contextual [List.any_eq_false, hg]
  refine congrArg Host.Outcome.next ((take_eq ht).trans ?_)
  rw [State.unmapCmd, withAddr_ok ha]
  simp only [hf, hdeny]
  rfl

theorem exec_place (h : Taken s 0x24 fn d p) (hf : granFields d true = true)
    (ha : s.addrCheck p (dFld d 183 128) (dFld d 223 192 * 2097152) = none) :
    exec (.place fn sq d) s = .next (s.placeAll (s.cmdOf fn sq d false) (dFld d 226 224) (dFlag d 24) (granList d)) := by
  refine congrArg Host.Outcome.next ((take_eq h).trans ?_)
  rw [State.placeCmd, withAddr_ok ha]
  simp [hf]

/-- The lease of the tier that holds granule `g` is gone (R101, R102). -/
def State.leaseGone (s : State) (g : Nat) : Bool :=
  match s.gran g with
  | some x => s.lapsed (granPart g) x.handle
  | none => false

theorem State.placeAll_of_lapsed {t g : Nat} {pin : Bool} {gs : List Nat} {x : Granule}
    (hd : gs.any (fun g => s.placeDenied g t pin) = false) (hg : gs.find? s.leaseGone = some g) (hx : s.gran g = some x) :
    s.placeAll c t pin gs = (s.lapseEvent (granPart g) 0 x.handle).refuse c stLEASE 0 := by
  unfold State.placeAll
  rw [if_neg (Bool.eq_false_iff.mp hd)]
  split
  · next g' hg' =>
    obtain rfl : g = g' := Option.some.inj (hg.symm.trans hg')
    rw [hx]
    rfl
  · next hg' => cases hg.symm.trans hg'

theorem State.placeAll_of_leased {t : Nat} {pin : Bool} {gs : List Nat} (hd : gs.any (fun g => s.placeDenied g t pin) = false)
    (hg : gs.find? s.leaseGone = none) :
    let s1 := gs.foldl (fun u g => u.updGran g (fun x => { x with pin })) s
    let r := s1.moveAll t gs []
    s.placeAll c t pin gs =
      if t = 0 then s1.granEnd c 0 true
      else if r.2.1.isEmpty then r.1.granEnd c 0 r.2.2
      else { r.1 with tiers := { r.1.tiers with
        gcmds := r.1.tiers.gcmds ++ [{ cmd := c, kind := 0x24, left := r.2.1, done := 0, arg := 0, short := !r.2.2 }] } } := by
  intro s1 r
  unfold State.placeAll
  rw [if_neg (Bool.eq_false_iff.mp hd)]
  split
  · next hg' => cases hg.symm.trans hg'
  · rfl

theorem placesPin_holds : Claim.placesPin := by
  intro s fn sq d p ht hf ha c t away s1
  rw [exec_place ht hf ha]
  refine ⟨fun hd => congrArg Host.Outcome.next (if_pos hd), fun hd => ⟨fun g x hg hx => ?_, fun hg => ?_⟩⟩
  · rw [State.placeAll_of_lapsed hd hg hx]
  · rw [State.placeAll_of_leased hd hg]
    refine ⟨fun h0 => by rw [if_pos h0]; rfl, fun h0 => ?_⟩
    rw [if_neg h0]
    exact ⟨fun hr => congrArg Host.Outcome.next (if_pos (List.isEmpty_iff.mpr hr)),
      fun hr => congrArg Host.Outcome.next (if_neg (mt List.isEmpty_iff.mp hr))⟩

theorem exec_rebuild (h : Taken s 0x25 fn d p) : exec (.rebuild fn sq d) s = .next (s.rebuildCmd (s.cmdOf fn sq d false) p d) :=
  congrArg Host.Outcome.next (take_eq h)

theorem rebuildNames_holds : Claim.rebuildNames := by
  intro s fn sq d p ht c a b k
  rw [exec_rebuild ht]
  unfold State.rebuildCmd
  refine ⟨fun h4 h767 hab => ?_, fun hbad => by rw [if_pos hbad]⟩
  have hrows : ¬ (a < 4 ∨ 767 < b ∨ b < a) := by omega
  rw [if_neg hrows]
  refine ⟨fun r hp hr => ?_, fun hp hnone => ?_, fun hp => ?_⟩
  · rw [if_neg (not_not_intro hp)]
    simp only [k] at hr
    rw [hr]
    intro rows
    exact ⟨fun hne => congrArg Host.Outcome.next (if_neg (mt List.isEmpty_iff.mp hne)),
      fun he => congrArg Host.Outcome.next (if_pos (List.isEmpty_iff.mpr he))⟩
  · rw [if_neg (not_not_intro hp)]
    simp only [k] at hnone
    rw [hnone]
  · rw [if_pos hp, State.refuseX_denied]

theorem exec_atomic (h : Taken s 0x26 fn d p) (hop : dFld d 258 256 ≤ 3) (hal : dFld d 183 128 % atomicWidth (dFld d 258 256) = 0)
    (ha : s.addrCheck p (dFld d 183 128) (atomicWidth (dFld d 258 256)) = none) :
    exec (.atomic fn sq d) s = .next ((s.access (dFld d 183 128) (atomicWidth (dFld d 258 256))).atomicAt (s.cmdOf fn sq d false) p
      (granOf (dFld d 183 128)) (dFld d 183 128) (dFld d 258 256) (dFld d 255 192)) := by
  refine congrArg Host.Outcome.next ((take_eq h).trans ?_)
  rw [State.atomicCmd, withAddr_ok ha, if_neg (by omega)]

/-- An ATOMIC on a granule whose lease stands: applied in T1, else held and waited for. -/
theorem State.atomicAt_of_leased {g addr op v : Nat} {x : Granule} (hx : s.gran g = some x) (hl : s.lapsed (granPart g) x.handle = false) :
    s.atomicAt c p g addr op v =
      if x.tier = 1 ∧ x.mv.isNone ∧ !s.stackLost x.handle then s.atomicLine c p addr op v
      else
        let s1 := s.updGran g (fun y => { y with adds := y.adds ++ [(addr, op, v)] })
        State.pushUp { s1 with tiers := { s1.tiers with
          gcmds := s1.tiers.gcmds ++ [{ cmd := c, kind := 0x26, left := [g], done := 0, arg := addr, short := false }] } } g := by
  simp [State.atomicAt, hx, hl]

theorem State.atomicLine_free {addr op v : Nat} (h : s.holders 4 (addr / 64) true = []) :
    s.atomicLine c p addr op v = s.atomicNow c p addr op v := by
  simp [State.atomicLine, h]

theorem State.atomicLine_held {addr op v : Nat} (h : s.holders 4 (addr / 64) true ≠ []) :
    let s1 := (s.holders 4 (addr / 64) true).foldl (fun u q => u.snoopLine (addr / 64) q) s
    s.atomicLine c p addr op v = { s1 with host := { s1.host with atoms := s1.host.atoms ++ [{ cmd := c, part := p, addr, op, v }] } } := by
  simp [State.atomicLine, h]

theorem atomicAdds_holds : Claim.atomicAdds := by
  intro s fn sq d p x addr op w g c s0 ht hop hal ha hx hl
  subst s0 c g w op addr
  rw [exec_atomic ht hop hal ha, State.atomicAt_of_leased hx hl]
  refine ⟨fun ht1 hm hs hh => ?_, fun ht1 hm hs hh => ?_, fun hout => ?_⟩
  · rw [if_pos ⟨ht1, by simp [hm], by simp [hs]⟩, State.atomicLine_free hh]
    refine ⟨fun hp => ?_, fun hp => ?_⟩ <;> simp [State.atomicNow, State.atomicAdd, hp]
  · rw [if_pos ⟨ht1, by simp [hm], by simp [hs]⟩, State.atomicLine_held hh]
  · rw [if_neg]
    rcases hout with h | h | h <;> simp [h]

/-- Settles O9: a command over granules whose checks pass takes the branch that the granules, or the rows it names, pick. -/
theorem granuleCommands : Obligations.GranuleCommands :=
  ⟨maps_holds, mapDenies_holds, unmaps_holds, placesPin_holds, rebuildNames_holds, atomicAdds_holds⟩

end Sys2Proof.Machine
end

section
/-!
Regions, windows, PUBLISH and the bridge (R24, R343 to R351).
-/

namespace Sys2Proof.Machine

variable {s : State} {fn sq p : Nat} {d : Desc}

theorem regionCreates_holds : Claim.regionCreates := by
  intro s fn sq d p ht c r g n hz hn ha hw hr x
  subst x n g r c
  have hrow : exec (.regionCreate fn sq d) s = .next (s.regionCreateCmd (s.cmdOf fn sq d false) p d) :=
    congrArg Host.Outcome.next (take_eq ht)
  rw [hrow]
  simp only [State.regionCreateCmd]
  rw [withAddr_ok ha, if_neg (by simp [hz, hn]), if_neg (by simp [hw, hr])]
  exact ⟨fun h => by rw [if_neg (Bool.eq_false_iff.mp h)], fun h => by rw [if_pos h]⟩

theorem exec_regionDelete (h : Taken s 0x84 fn d p) :
    exec (.regionDelete fn sq d) s = .next (s.regionDeleteCmd (s.cmdOf fn sq d false) p d) :=
  congrArg Host.Outcome.next (take_eq h)

theorem exec_regionQuery (h : Taken s 0x88 fn d p) :
    exec (.regionQuery fn sq d) s = .next (s.regionQueryCmd (s.cmdOf fn sq d false) p d) :=
  congrArg Host.Outcome.next (take_eq h)

theorem regionEnds_holds : Claim.regionEnds := by
  intro s fn sq d p c r
  subst r c
  refine ⟨fun x ht hx hp hw hpub => ?_, fun x ht hx hp ha => ?_, fun ht hnone => ?_⟩
  · rw [exec_regionDelete ht]
    simp only [State.regionDeleteCmd, hx]
    rw [if_neg (not_not_intro hp), if_neg (by simp [hw, hpub])]
  · rw [exec_regionQuery ht]
    simp only [State.regionQueryCmd, hx]
    rw [if_neg (not_not_intro ha), if_neg (not_not_intro hp)]
  · rw [exec_regionDelete ht]
    simp only [State.regionDeleteCmd, hnone]

/-- A window over granules, not over a region, spans what it names. -/
theorem State.winRange_of_granules {w : Window} (h : w.reg = false) : s.winRange w = (w.gran, w.count) :=
  if_neg (Bool.eq_false_iff.mp h)

theorem windowOpens_holds : Claim.windowOpens := by
  intro s fn sq d p ht c w hoff port n win denied hreg hn hz hlim
  subst denied win n port hoff w c
  have hrow : exec (.windowOpen fn sq d) s = .next (s.windowOpenCmd (s.cmdOf fn sq d false) p d) := congrArg Host.Outcome.next (take_eq ht)
  rw [hrow]
  simp only [State.windowOpenCmd, hreg, State.winRange_of_granules, Bool.false_eq_true, Bool.not_false, false_and, true_and, false_or, if_false]
  have hfields : ¬ (8388608 ≤ dFld d 287 256 ∨ dFld d 223 192 = 0 ∨ dFld d 148 128 ≠ 0) := by omega
  rw [if_neg hfields]
  refine ⟨fun hd => ?_, fun hd hend hwin hclear hlink hnew hseal => ?_⟩
  · rw [if_pos hd]
  · rw [if_neg (Bool.eq_false_iff.mp hd), if_neg (by simp [hwin]),
      if_neg (not_or.mpr ⟨Nat.not_lt.mpr hend, Bool.eq_false_iff.mp hclear⟩), if_neg (not_not_intro hlink),
      if_neg (Bool.eq_false_iff.mp hnew), if_neg (Bool.eq_false_iff.mp hseal)]

theorem windowCloses_holds : Claim.windowCloses := by
  intro s fn sq d p w ht c k hw hp
  subst k c
  have hrow : exec (.windowClose fn sq d) s = .next (s.windowCloseCmd (s.cmdOf fn sq d false) p d) :=
    congrArg Host.Outcome.next (take_eq ht)
  rw [hrow]
  simp only [State.windowCloseCmd, hw]
  rw [if_neg (not_not_intro hp)]
  exact ⟨fun h => by rw [if_neg (Bool.eq_false_iff.mp h)], fun h => by rw [if_pos h]⟩

theorem publishes_holds : Claim.publishes := by
  intro s fn sq d p x ht c r hx hp hz he y
  subst y r c
  refine congrArg Host.Outcome.next ((take_eq ht).trans ?_)
  simp only [State.publishCmd, hx]
  rw [if_neg (not_not_intro hp), if_neg (not_or.mpr ⟨not_not_intro hz, he⟩)]

theorem publishConflicts_holds : Claim.publishConflicts := by
  intro s x r hr ha hd hw hin he hv gone
  have hrange : ¬ ((!s.windowable r.part x.gran r.count) = true ∨ s.inRegion x.gran r.count = true ∨ x.expect = 2 ^ 64 - 1) :=
    not_or.mpr ⟨by simp [hw], not_or.mpr ⟨by simp [hin], he⟩⟩
  simp only [State.pubStep, hr]
  rw [if_neg (Bool.eq_false_iff.mp ha), if_neg (Bool.eq_false_iff.mp hd), if_neg hrange, if_pos hv]

theorem bridges_holds : Claim.bridges := fun _ => ⟨rfl, rfl⟩

/-- Settles O33: each command passes its checks one by one; the bridge's return is its own definition. -/
theorem regionsAndWindows : Obligations.RegionsAndWindows :=
  ⟨regionCreates_holds, regionEnds_holds, windowOpens_holds, windowCloses_holds, publishes_holds, publishConflicts_holds, bridges_holds⟩

end Sys2Proof.Machine
end

section
/-!
The rest of the session commands of chapter 2: what refuses a command before its session is looked at, and what OPEN, SUBMIT, PARK, REVIVE
and FORK answer once their fields pass.
-/

namespace Sys2Proof.Machine

variable {s : State} {fn sq p : Nat} {d : Desc} {c : Cmd} {b : List Byte} {input : Option (List Byte)} {ps : SelParams}

/-! ### Refusals before the session's own state counts (R24, R34, R427, Table 2-2) -/

theorem take_starting {op : Nat} {lc : Bool} {k : Cmd → Nat → State} (hd : s.dark = false) (hs : fn ∉ s.host.stops)
    (hp : s.fnPart fn = some p) (hm : s.boot.mode = 0) : s.take op fn sq d lc k = s.refuse (s.cmdOf fn sq d lc) stHELD 0 := by
  simp [State.take, hd, hs, hp, hm]

theorem takeSessC_denied {op aux : Nat} {lc any remote hold : Bool} {k : Cmd → Nat → Nat → State} (ht : Taken s op fn d p)
    (hb : s.boot.bridge = false) (hh : s.handleCheck p (dHnd d) any remote = some (stDENIED, 0, aux)) :
    s.takeSessC op fn sq d lc any remote false hold k = (s.count 0x8700 3 1).refuseA (s.cmdOf fn sq d lc) stDENIED 0 aux := by
  simp [State.takeSessC, take_eq ht, hb, hh]

theorem takeSessC_expired {op : Nat} {lc any remote hold : Bool} {k : Cmd → Nat → Nat → State} (ht : Taken s op fn d p)
    (hb : s.boot.bridge = false) (hh : s.handleCheck p (dHnd d) any remote = none) (hx : (s.ent (hIdx (dHnd d))).state = .expired)
    (h1 : s.inHold (s.ent (hIdx (dHnd d))).shalf = false) (h2 : s.inHold (idxHalf (hIdx (dHnd d))) = false)
    (hclose : op ≠ 0x08) (hquery : op ≠ 0x0A) :
    s.takeSessC op fn sq d lc any remote false hold k = s.refuse (s.cmdOf fn sq d lc) stTTL 0 := by
  simp [State.takeSessC, take_eq ht, hb, hh, hx, h1, h2, hclose, hquery]

theorem heldInStarting_holds : Claim.heldInStarting := by
  intro s fn sq d p i hd hs hp hm hi
  simp only [List.mem_cons, List.not_mem_nil, or_false] at hi
  rcases hi with rfl | rfl | rfl | rfl | rfl | rfl | rfl | rfl | rfl | rfl | rfl | rfl | rfl | rfl <;>
    exact congrArg Host.Outcome.next (take_starting hd hs hp hm)

theorem handleDenied_holds : Claim.handleDenied := by
  intro s fn sq d p aux i op ht hb hh hi
  simp only [List.mem_cons, Prod.mk.injEq, List.not_mem_nil, or_false] at hi
  rcases hi with ⟨rfl, rfl⟩ | ⟨rfl, rfl⟩ | ⟨rfl, rfl⟩ <;> exact congrArg Host.Outcome.next (takeSessC_denied ht hb hh)

/-! ### The fields of PARK and FORK -/

theorem parkFields_good (hb : s.ttlBad (dFld d 191 160) = false) (h1 : dFld d 159 152 ≠ 1) (h4 : dFld d 159 152 ≤ 4) :
    (s.ttlBad (dFld d 191 160) || dFld d 159 152 == 1 || decide (4 < dFld d 159 152)) = false := by
  simp [hb, h1, h4]

theorem forkFields_good (hb : s.ttlBad (dFld d 159 128) = false) (h0 : 0 < dFld d 191 160) :
    (s.ttlBad (dFld d 159 128) || dFld d 191 160 == 0) = false := by
  simp [hb, h0.ne']

theorem expiredRefuses_holds : Claim.expiredRefuses := by
  intro s fn sq d p i op any ht hb hh hx h1 h2 httl hpark hfork hi
  simp only [List.mem_cons, Prod.mk.injEq, List.not_mem_nil, or_false] at hi
  have hop : op ≠ 0x08 ∧ op ≠ 0x0A := by omega
  have hrefuse (hold : Bool) (k : Cmd → Nat → Nat → State) :
      s.takeSessC op fn sq d false any false false hold k = s.refuse (s.cmdOf fn sq d false) stTTL 0 :=
    takeSessC_expired ht hb hh hx h1 h2 hop.1 hop.2
  rcases hi with ⟨rfl, rfl, rfl⟩ | ⟨rfl, rfl, rfl⟩ | ⟨rfl, rfl, rfl⟩ | ⟨rfl, rfl, rfl⟩ | ⟨rfl, rfl, rfl⟩ | ⟨rfl, rfl, rfl⟩ <;>
    refine congrArg Host.Outcome.next ?_
  · exact hrefuse _ _
  · exact hrefuse _ _
  · obtain ⟨ht1, ht4⟩ := hpark rfl
    rw [parkFields_good (httl (.inl rfl)) ht1 ht4, hrefuse]
  · exact hrefuse _ _
  · obtain ⟨hbad, hn⟩ := hfork rfl
    rw [forkFields_good hbad hn, hrefuse]
  · rw [httl (.inr rfl), hrefuse]

/-! ### OPEN (R35, R49) -/

theorem exec_openCmd (h : Taken s 0x01 fn d p) : exec (.openCmd fn sq d) s = .next (s.openSess (s.cmdOf fn sq d false) p d) :=
  congrArg Host.Outcome.next (take_eq h)

theorem State.homeFor_of_named {n : Nat} (hn : n < 2) : s.homeFor n = n := if_neg (by omega)

theorem State.homeFor_of_lt {n : Nat} (hn : n < 3) :
    s.homeFor n = if n < 2 then n else if s.entriesUsed 1 < s.entriesUsed 0 then 1 else 0 := by
  rcases Nat.lt_or_ge n 2 with h | h
  · rw [State.homeFor_of_named h, if_pos h]
  · rw [if_neg (by omega), State.homeFor, if_pos (by omega)]

theorem openMakes_holds : Claim.openMakes := by
  intro s fn sq d p h i pr ht hpr httl hhome hh hbridge hquota hfree hroom
  rw [← State.homeFor_of_lt hhome] at hh
  subst hh
  have hfields : ¬ (s.ttlBad (dFld d 191 160) = true ∨ dFld d 153 152 = 3) := not_or.mpr ⟨by simp [httl], by omega⟩
  rw [exec_openCmd ht]
  simp only [State.openSess, hpr, hfree]
  rw [if_neg hfields, if_neg (by simpa using hbridge), if_neg (by omega), if_neg (by omega)]

theorem openAtQuota_holds : Claim.openAtQuota := by
  intro s fn sq d p pr ht hpr httl hhome hbridge hquota
  have hfields : ¬ (s.ttlBad (dFld d 191 160) = true ∨ dFld d 153 152 = 3) := not_or.mpr ⟨by simp [httl], by omega⟩
  rw [exec_openCmd ht]
  simp only [State.openSess, hpr]
  rw [if_neg hfields, State.homeFor_of_named hhome, if_neg (by simpa using hbridge), if_pos hquota]

/-! ### SUBMIT (R41, R107) -/

theorem State.submitOn_of_submittable {k : Nat} (h : Claim.Submittable s fn d input p k ps b) :
    s.submitOn c p (hIdx (dHnd d)) d input = s.submitTake c p (hIdx (dHnd d)) d ps b := by
  obtain ⟨-, -, hlane, htext, hps, hlen, hmax, hin, -⟩ := h
  have hlen' : ¬ ((dFld d 255 224 = 0 ∧ (!dFlag d 26) = true ∧ (!(s.ent (hIdx (dHnd d))).tv) = true) ∨ s.dval 0x5000 3 < dFld d 255 224) := by
    rintro (⟨h0, hc, hv⟩ | hlt)
    · rcases hlen with h | h | h
      · omega
      · simp [h] at hc
      · simp [h] at hv
    · omega
  have hin' : (if (decide (dFld d 255 224 = 0) || (s.splitAt p (s.ent (hIdx (dHnd d))).shalf (dFld d 399 392) 1 && !dFlag d 25)) = true
      then some [] else input) = some b := by
    simpa only [Bool.or_eq_true, decide_eq_true_eq] using hin
  simp only [State.submitOn, htext, hps, hin']
  rw [if_neg (not_not_intro hlane), if_neg hlen']

/-- Table 2-2 keeps a SUBMIT off session `i`: it is LIVE, or a request is attached. -/
def State.takesNone (s : State) (i : Nat) : Prop :=
  (s.ent i).state = .live ∨ ((s.ent i).state = .developing ∧ (s.ent i).sv = true)
    ∨ ((s.ent i).state = .moving ∧ (s.ent i).sv = true ∧ s.sess.slots.has (s.ent i).slot = true)

theorem State.submitCmd_busy (ht : TakenSess s 0x02 fn d false false p) (hb : s.submitBad fn d = false)
    (hn : s.takesNone (hIdx (dHnd d))) : s.submitCmd fn sq d input = s.busy (s.cmdOf fn sq d (dFlag d 24)) := by
  rw [State.submitCmd, hb, takeSessC_eq ht]
  rcases hn with hst | ⟨hst, hsv⟩ | ⟨hst, hsv, hslot⟩
  · simp [hst]
  · simp [hst, hsv]
  · simp [hst, hsv, hslot]

theorem State.submitCmd_takes {k : Nat} (h : Claim.Submittable s fn d input p k ps b) (hn : ¬ s.takesNone (hIdx (dHnd d))) :
    s.submitCmd fn sq d input = s.submitTake (s.cmdOf fn sq d (dFlag d 24)) p (hIdx (dHnd d)) d ps b := by
  have hon := s.submitOn_of_submittable (c := s.cmdOf fn sq d (dFlag d 24)) h
  obtain ⟨ht, hbad, -⟩ := h
  have ⟨_, _, _, _, _, hexp⟩ := ht
  rw [State.submitCmd, hbad, takeSessC_eq ht, ← hon]
  cases hst : (s.ent (hIdx (dHnd d))).state with
  | expired => exact absurd (hexp hst) (by decide)
  | live => exact absurd (.inl hst) hn
  | developing => simp [hst, show ¬ (s.ent (hIdx (dHnd d))).sv = true from fun hsv => hn (.inr (.inl ⟨hst, hsv⟩))]
  | moving =>
    simp only [hst]
    exact if_neg fun hslot => hn (.inr (.inr ⟨hst, hslot⟩))
  | _ => simp only [hst]

theorem State.submitTake_resident {i k : Nat} (hk : s.takeSlot p (s.ent i).shalf = .ok k) (hst : (s.ent i).state ≠ .parked) :
    s.submitTake c p i d ps b = s.attach i k 0 (s.newRequest c p i d ps) d b := by
  simp [State.submitTake, hk, hst]

theorem State.submitTake_parked {i k : Nat} (hk : s.takeSlot p (s.ent i).shalf = .ok k) (hst : (s.ent i).state = .parked)
    (hl : s.lapsedNeed i = none) (hr : s.noRoom (s.ent i).part (s.ent i).shalf (s.revivalKib i) = none) :
    s.submitTake c p i d ps b = s.attach i k (s.revivalKib i) (s.newRequest c p i d ps) d b := by
  simp [State.submitTake, hk, hst, hl, hr]

theorem submitAttaches_holds : Claim.submitAttaches := by
  intro s fn sq d input t p k ps b s1 i e q h
  have ⟨ht, hbad, _, _, _, _, _, _, hk⟩ := h
  have hrow : exec (.submit fn sq d input t) s = .next (s1.submitCmd fn sq d input) := rfl
  subst e
  rw [hrow]
  refine ⟨fun hst => ?_, fun hst hl hr => ?_, fun hn => by rw [State.submitCmd_busy ht hbad hn]⟩
  · have hfree : ¬ s1.takesNone i ∧ (s1.ent i).state ≠ .parked := by
      rcases hst with hst | ⟨hst, hsv⟩ | ⟨hst, hsv | hslot⟩
      · simp [State.takesNone, hst]
      · simp [State.takesNone, hst, hsv]
      · simp [State.takesNone, hst, hsv]
      · simp [State.takesNone, hst, hslot]
    rw [State.submitCmd_takes h hfree.1, State.submitTake_resident hk hfree.2]
  · have hn : ¬ s1.takesNone i := by simp [State.takesNone, hst]
    rw [State.submitCmd_takes h hn, State.submitTake_parked hk hst hl hr]

/-- Settles O1: each refusal comes before the session's own state counts; OPEN passes its tests one by one, and a SUBMIT is taken, or
BUSY, by the session's state. -/
theorem sessionOpenAndSubmit : Obligations.SessionOpenAndSubmit :=
  ⟨openMakes_holds, openAtQuota_holds, submitAttaches_holds, heldInStarting_holds, handleDenied_holds, expiredRefuses_holds⟩

/-! ### PARK (R94, R95, R109) -/

theorem exec_park (h : TakenSess s 0x05 fn d true false p) (hb : s.ttlBad (dFld d 191 160) = false) (h1 : dFld d 159 152 ≠ 1)
    (h4 : dFld d 159 152 ≤ 4) : exec (.park fn sq d) s = .next (s.parkCmd (s.cmdOf fn sq d false) (hIdx (dHnd d)) d) := by
  refine congrArg Host.Outcome.next ?_
  rw [parkFields_good hb h1 h4, takeSessC_eq h]

theorem parkIdle_holds : Claim.parkIdle := by
  intro s fn sq d p x i ht hb h1 h4 hst hx
  subst i
  rw [exec_park ht hb h1 h4]
  simp only [State.parkCmd, hst, hx]

theorem parkNoRoom_holds : Claim.parkNoRoom := by
  intro s fn sq d p i ht hb h1 h4 hst hx
  subst i
  rw [exec_park ht hb h1 h4]
  simp only [State.parkCmd, hst, hx]

theorem parkOthers_holds : Claim.parkOthers := by
  intro s fn sq d p x i e t c withTtl ht hb h1 h4
  subst withTtl c t e i
  rw [exec_park ht hb h1 h4]
  refine ⟨fun hst hm hx => ?_, fun m hst hm hroom => ?_, fun hst hx => ?_, fun hst => ?_⟩
  · simp only [State.parkCmd, hst, hm, hx]
  · have hgoes : ¬ (dFld d 159 152 ≠ 0 ∧ dFld d 159 152 ≠ m.tier ∧ (s.parkTier (hIdx (dHnd d)) (dFld d 159 152)).isNone = true) := by
      rintro ⟨h0, hne, hnone⟩
      rcases hroom with h | h | h
      · exact h0 h
      · exact hne h
      · simp [Option.isNone_iff_eq_none.mp hnone] at h
    simp only [State.parkCmd, hst, hm]
    rw [if_neg hgoes]
  · simp only [State.parkCmd, hst, hx]
  · rcases hst with hst | hst <;> simp only [State.parkCmd, hst]

/-! ### REVIVE (R101, R107, R110) -/

theorem exec_revive (h : TakenSess s 0x06 fn d false false p) :
    exec (.revive fn sq d) s = .next (s.reviveCmd (s.cmdOf fn sq d false) (hIdx (dHnd d)) (dFld d 135 128)) :=
  congrArg Host.Outcome.next (takeSessC_eq h)

theorem reviveParked_holds : Claim.reviveParked := by
  intro s fn sq d p i ht hst hl hr
  subst i
  rw [exec_revive ht]
  simp [State.reviveCmd, hst, hl, hr]

theorem reviveResident_holds : Claim.reviveResident := by
  intro s fn sq d p i ht hst
  subst i
  rw [exec_revive ht]
  rcases hst with hst | hst <;> simp only [State.reviveCmd, hst]

theorem reviveOthers_holds : Claim.reviveOthers := by
  intro s fn sq d p i e c ht
  subst c e i
  rw [exec_revive ht]
  refine ⟨fun hst hl => ?_, fun quota hst hl hr => ?_, fun hst => ?_, fun hst => ?_⟩
  · simp [State.reviveCmd, hst, hl]
  · simp [State.reviveCmd, hst, hl, hr]
  · simp only [State.reviveCmd, hst]
  · simp only [State.reviveCmd, hst]

/-! ### FORK (R40, R62) -/

/-- A FORK whose fields pass (R40) of an IDLE or PARKED session is made or refused by `State.forkOn`. -/
theorem exec_fork (h : TakenSess s 0x07 fn d false false p) (hb : s.ttlBad (dFld d 159 128) = false) (h0 : 0 < dFld d 191 160)
    (hst : (s.ent (hIdx (dHnd d))).state = .idle ∨ (s.ent (hIdx (dHnd d))).state = .parked) :
    exec (.fork fn sq d) s = .next (s.forkOn (s.cmdOf fn sq d false) (hIdx (dHnd d)) d) := by
  refine congrArg Host.Outcome.next ?_
  rw [forkFields_good hb h0, takeSessC_eq h]
  rcases hst with hst | hst <;> simp only [hst]

theorem exec_fork_busy (h : TakenSess s 0x07 fn d false false p) (hb : s.ttlBad (dFld d 159 128) = false) (h0 : 0 < dFld d 191 160)
    (hst : (s.ent (hIdx (dHnd d))).state = .live ∨ (s.ent (hIdx (dHnd d))).state = .developing
      ∨ (s.ent (hIdx (dHnd d))).state = .moving) :
    exec (.fork fn sq d) s = .next (s.busy (s.cmdOf fn sq d false)) := by
  refine congrArg Host.Outcome.next ?_
  rw [forkFields_good hb h0, takeSessC_eq h]
  rcases hst with hst | hst | hst <;> simp only [hst]

/-- The tokens that a FORK names are there (R40). -/
theorem forkTokens_there {all : Bool} {n count : Nat} (h : all = true ∨ n ≤ count) : ¬ ((!all) = true ∧ count < n) := by
  rintro ⟨hall, hlt⟩
  rcases h with h | h
  · simp [h] at hall
  · omega

theorem forkIdle_holds : Claim.forkIdle := by
  intro s fn sq d p j i e all n ht hb hst h0 hn hchild hquota hfree hroom hshare
  subst n all e i
  rw [exec_fork ht hb h0 hst]
  simp only [State.forkOn, hfree]
  rw [if_neg (forkTokens_there hn), if_neg (by omega), if_neg (by omega), if_neg (by omega), if_neg (by omega)]

theorem forkRefused_holds : Claim.forkRefused := by
  intro s fn sq d p j i e c all n ht hb h0
  subst n all c e i
  refine ⟨exec_fork_busy ht hb h0, fun hst => ?_⟩
  rw [exec_fork ht hb h0 hst]
  refine ⟨fun hall hlt => ?_, fun hn => ⟨fun hchild => ?_, fun hchild hquota hfree hshare hroom => ?_⟩⟩
  · simp only [State.forkOn]
    rw [if_pos ⟨by simp [hall], hlt⟩]
  · simp only [State.forkOn]
    rw [if_neg (forkTokens_there hn), if_pos hchild]
  · simp only [State.forkOn, hfree]
    rw [if_neg (forkTokens_there hn), if_neg (by omega), if_neg (by omega), if_neg (by omega), if_pos hroom]

/-- Settles O3: the session's state, and then each test of room in the order of the rules, picks the branch. -/
theorem sessionParkReviveFork : Obligations.SessionParkReviveFork :=
  ⟨parkIdle_holds, parkNoRoom_holds, parkOthers_holds, reviveParked_holds, reviveResident_holds, reviveOthers_holds, forkIdle_holds,
    forkRefused_holds⟩

end Sys2Proof.Machine
end

section
/-!
Pages of T1 (R60, R67, R108, R115): a page sealed, a slot scrubbed, a page brought up.
-/

namespace Sys2Proof.Machine

variable {s : State} {pid : Nat} {p : Page}

/-! ### SEAL_DONE (R60, Table 4-4) -/

theorem exec_sealDone (s : State) (pid : Nat) :
    exec (.sealDone pid) s = .next ((s.sealPage pid (fun _ t _ => t)).demosGo) := rfl

/-- Only a page in SEALING is sealed. -/
theorem State.sealPage_other (hp : s.pages.pages.get? pid = some p) (h : p.st ≠ .sealing) (low : Nat → State → Page → State) :
    s.sealPage pid low = s := by
  simp only [State.sealPage, hp]
  exact if_pos h

theorem sealDone_holds : Claim.sealDone := by
  intro s pid p hp fromB keep other s1 s2
  simp only [exec_sealDone]
  refine ⟨fun hst hrel => ?_, fun i hst hrel => ?_, fun hst => ?_⟩
  · simp only [State.sealPage, hp, hrel]
    rw [if_neg (not_not_intro hst)]
  · simp only [State.sealPage, hp, hrel]
    rw [if_neg (not_not_intro hst)]
  · rw [State.sealPage_other hp hst]

/-! ### SCRUB_DONE (R67) -/

theorem exec_scrubDone {h st : Nat} (hh : h < 2) (hst : st < 16) : exec (.scrubDone h st) s =
    .next ((s.tiers.grans.map (·.1)).foldl (fun t g => t.pushUp g) (s.scrubDone (16 * h + st))) :=
  if_pos ⟨hh, hst⟩

theorem scrubFrees_holds : Claim.scrubFrees := by
  intro s h st x l b hh hst hq hx hb hr hlost left s1
  have hrow (sc : Tab (List Scrub)) : ({ s with tiers := { s.tiers with scrub := sc } } : State).row (locKey x.loc) = b := by
    simp only [State.row, Tab.getD, hb, Option.getD_some]
  have hdone : s.scrubDone (16 * h + st) = s1.countUnits 0x8210 5 4096 (1024 * x.kib) := by
    simp only [State.scrubDone, Tab.getD, hq, Option.getD_some, hrow, if_neg (Nat.not_le.mpr hx)]
    by_cases hleft : left = []
    · simp [s1, left, hleft, hr, hlost]
    · simp [s1, left, hleft]
  rw [exec_scrubDone hh hst, hdone]

/-! ### DEVELOPER_PAGE_FETCHED (R108, R115, R257) -/

theorem exec_developerPageFetched (s : State) (i pid : Nat) (reachable : Bool) (chk : Nat) :
    exec (.developerPageFetched i pid reachable chk) s = .next (s.pageFetched i pid reachable chk) := rfl

theorem pageFetched_holds : Claim.pageFetched := by
  intro s i pid l pidx v p hdev hmiss hp h0 ht1 hbr hlap hgood hlost
  refine congrArg Host.Outcome.next ?_
  have hbridge : ¬ (s.boot.bridge = true ∧ hdTier p.low = 2) := fun h => hbr h.1 h.2
  have hsound : ((0 : Nat) == 1 || p.lowChk == .poisoned) = false := by rw [hgood]; rfl
  simp only [State.pageFetched, hdev, hmiss, hp]
  rw [if_neg h0, if_neg (by simp [ht1]), if_neg hbridge, if_neg (by simp [hlap]), if_neg (by simp [hgood, hlost]), hsound]

theorem pageUncorrectable_holds : Claim.pageUncorrectable := by
  intro s i pid l pidx v p hdev hmiss hp h0 ht1 hbr hlap hchk
  refine congrArg Host.Outcome.next ?_
  have hbridge : ¬ (s.boot.bridge = true ∧ hdTier p.low = 2) := fun h => hbr h.1 h.2
  simp only [State.pageFetched, hdev, hmiss, hp]
  rw [if_neg h0, if_neg (by simp [ht1]), if_neg hbridge, if_neg (by simp [hlap]), if_pos (by simp), if_neg hchk]

/-- Settles O5: the page's state, the slot's row and the object's check pick the branch of each command. -/
theorem pagesSealedAndFetched : Obligations.PagesSealedAndFetched :=
  ⟨sealDone_holds, scrubFrees_holds, pageFetched_holds, pageUncorrectable_holds⟩

end Sys2Proof.Machine
end

section
/-!
The work of a round (R140 to R148, R203): QKV and SELECT on their serving half, round timers, splits, host waits and step commits.
-/

namespace Sys2Proof.Machine

variable {s : State} {link src n h k : Nat} {data : List Byte} {st : Step} {r : InReq} {p : Profile}

/-! ### Messages on a link of the serving half (R24) -/

theorem State.crossBridge_same {bytes : Nat} {c : Crossing} {f : State → State} (hh : linkHalf link = h) :
    s.crossBridge link h bytes c f = f s := if_pos hh

theorem exec_qkv {hdr : BitVec 128} {crc t : Nat} (hl : link < 96) (hn : n < 8) (hh : linkHalf link = bitsN hdr.toNat 55 42 / 8192) :
    exec (.qkv link src n hdr data crc t) s =
      .next ((s.at t).qkvArrives (bitsN hdr.toNat 55 42 / 8192) src n hdr.toNat data crc t) := by
  show execQkv link src n hdr data crc t s = _
  simp only [execQkv, bits, withLink_lt hl, State.crossBridge_same hh, Nat.mod_eq_of_lt hn]

theorem exec_select {hdr : BitVec 192} {crc : Nat} (hl : link < 96) (hn : n < 8)
    (hh : linkHalf link = bitsN hdr.toNat 127 114 / 8192) :
    exec (.select link src n hdr data crc) s =
      .next (s.selArrives (bitsN hdr.toNat 127 114 / 8192) src n hdr.toNat data crc) := by
  show execSelect link src n hdr data crc s = _
  simp only [execSelect, bits, withLink_lt hl, State.crossBridge_same hh, Nat.mod_eq_of_lt hn]

/-! ### QKV (R58, R140, R141, R143) -/

/-- A QKV with good finite data that its request waits for: rows stored, query kept, splits placed. -/
theorem State.qkvArrives_store {hdr : BitVec 128} {crc t : Nat} {qb kb vb : List Byte} (hq : Claim.QkvTaken s h src n k hdr st r p)
    (hdrop : bitN hdr.toNat 29 = false)
    (hlen : data.length = (p.qkvBytes r.ntok).1 + (p.qkvBytes r.ntok).2.1 + (p.qkvBytes r.ntok).2.2) (hv : verify data crc = .good)
    (hqb : data.take (p.qkvBytes r.ntok).1 = qb) (hkb : slice data (p.qkvBytes r.ntok).1 (p.qkvBytes r.ntok).2.1 = kb)
    (hvb : slice data ((p.qkvBytes r.ntok).1 + (p.qkvBytes r.ntok).2.1) (p.qkvBytes r.ntok).2.2 = vb)
    (hfq : allFinite p.qfmt qb = true) (hfk : allFinite p.kvin kb = true) (hfv : allFinite p.kvin vb = true) :
    s.qkvArrives h src n hdr.toNat data crc t =
      (((((((s.unlatch 0x2046 (256 * n + 3)).updStep h n (fun a => a.upd k (fun y => { y with arrived := true, sender := src }))).unlatch
        0x2050 (8 * h + n)).storeRows h n r p (bitsN hdr.toNat 63 56) kb vb).updStep h n (fun a => a.upd k (fun y => { y with q := qb }))).placeSplits
          h n t r p (bitsN hdr.toNat 63 56)).restTimer h n) := by
  obtain ⟨hk, hst, hp, hr, hpar, hz, hmask, hseq, hopen, hsel, hlayer, hntok, hmark, harr⟩ := hq
  simp only [State.qkvArrives, hst, hp, hk, hr, hdrop, hv, hqb, hkb, hvb]
  rw [if_neg (by simp [hpar, hz, hmask]), if_neg (by simp [hseq, hopen, hsel, hlayer]), if_neg (by simp [hntok, hmark, harr]),
    if_neg (by simp [hlen])]
  simp [hfq, hfk, hfv]

/-- A QKV with DROP that its request waits for carries no data (R141). -/
theorem State.qkvArrives_drop {hdr : BitVec 128} {crc t : Nat} (hq : Claim.QkvTaken s h src n k hdr st r p)
    (hdrop : bitN hdr.toNat 29 = true) :
    s.qkvArrives h src n hdr.toNat [] crc t =
      (((((s.unlatch 0x2046 (256 * n + 3)).updStep h n (fun a => a.upd k (fun y => { y with arrived := true, sender := src }))).dropOut
        h n k).restTimer h n).advanceRound h n t) := by
  obtain ⟨hk, hst, hp, hr, hpar, hz, hmask, hseq, hopen, hsel, hlayer, hntok, hmark, harr⟩ := hq
  simp only [State.qkvArrives, hst, hp, hk, hr, hdrop]
  rw [if_neg (by simp [hpar, hz, hmask]), if_neg (by simp [hseq, hopen, hsel, hlayer]), if_neg (by simp [hntok, hmark, harr]),
    if_neg (by simp)]
  exact if_pos trivial

theorem qkvStores_holds : Claim.qkvStores := by
  intro s link src n t crc hdr data st r p x k h s0 z qb kb vb hl hn hh hq hdrop hlen hv hfq hfk hfv s1
  rw [exec_qkv hl hn hh, State.qkvArrives_store hq hdrop hlen hv rfl rfl rfl hfq hfk hfv]

theorem qkvDrops_holds : Claim.qkvDrops := by
  intro s link src n t crc hdr st r p x k h s0 hl hn hh hq hdrop s1
  rw [exec_qkv hl hn hh, State.qkvArrives_drop hq hdrop]

/-! ### ROUND_TIMER_EXPIRY (R141) -/

theorem exec_roundTimerExpiry {t : Nat} (hh : h < 2) (hn : n < 8) :
    exec (.roundTimerExpiry h n t) s = .next ((s.at t).roundExpiry h n t) := by
  show execRoundTimerExpiry h n t s = _
  rw [execRoundTimerExpiry, Nat.mod_eq_of_lt hh, Nat.mod_eq_of_lt hn]

theorem State.roundExpiry_idle {t : Nat} (hst : (s.laneH h n).step = some st)
    (hoff : (s.laneH h n).timer = false ∨ s.timerHeld h n = true) : s.roundExpiry h n t = s := by
  simp only [State.roundExpiry, hst]
  exact if_pos (by simpa using hoff)

theorem State.roundExpiry_between {t : Nat} (hst : (s.laneH h n).step = some st) (htimer : (s.laneH h n).timer = true)
    (hheld : s.timerHeld h n = false) (hopen : st.roundOpen = false) :
    s.roundExpiry h n t = (s.commitStep h n true).raise 0x2044 0 h ([n, h] ++ w2 st.seq) := by
  simp only [State.roundExpiry, hst]
  rw [if_neg (by simp [htimer, hheld]), if_neg (by simp [hopen])]

theorem State.roundExpiry_open {t : Nat} (hst : (s.laneH h n).step = some st) (htimer : (s.laneH h n).timer = true)
    (hheld : s.timerHeld h n = false) (hopen : st.roundOpen = true) :
    s.roundExpiry h n t = ((st.reqs.filter (s.owes st)).foldl (fun u r => u.dropOut h n r.slot)
      (s.setLane h n { s.laneH h n with timer := false })).advanceRound h n t := by
  simp only [State.roundExpiry, hst]
  rw [if_neg (by simp [htimer, hheld]), if_pos hopen]

theorem roundExpires_holds : Claim.roundExpires := by
  intro s h n t st hh hn s0 l hst
  simp only [exec_roundTimerExpiry hh hn]
  exact ⟨fun htimer hheld hopen => congrArg Host.Outcome.next (State.roundExpiry_open hst htimer hheld hopen),
    fun htimer hheld hopen => congrArg Host.Outcome.next (State.roundExpiry_between hst htimer hheld hopen),
    fun hoff => congrArg Host.Outcome.next (State.roundExpiry_idle hst hoff)⟩

/-! ### SPLIT_FINISH (R145, R166, R263) -/

theorem exec_splitFinish {c t x : Nat} (hc : c < 256) : exec (.splitFinish c t x) s = .next ((s.at t).splitEnds c t x) :=
  if_neg (Nat.not_le.mpr hc)

/-- The end of a split that its request still waits for (R145), where no row was poisoned and no check failed. -/
theorem State.splitEnds_good {s1 s2 : State} {c t x layer j : Nat} {w : SplitWork} {runs : List PartRun} {v : Nat × Nat × Nat}
    (hw : { idx := r.idx, layer, j, pos := r.pos, ntok := r.ntok } = w)
    (hrun : (s.core c).run = some (.split h n k layer j)) (hst : s.stepOf h n = some st) (hp : s.laneProf n = some p)
    (hr : st.req k = some r) (hmark : r.mark = .data) (hlayer : st.layer = layer) (hj : r.splits.get? j = some (.running c))
    (hread : s.readSplit p w = (s1, none)) (hs2 : (s1.oddCodes p w).count 0x8230 1 1 = s2) (hruns : s2.runSplit p w r.q x = runs)
    (hjudge : s2.judge p w runs x = v) (hsound : v.2.2 = 0) :
    s.splitEnds c t x = (((s2.countRun runs v).setSplit h n k j (.done (runs.map (·.part)))).finishRequest h n k t).nextWork c t := by
  have hwaits : ¬ (r.mark ≠ .data ∨ st.layer ≠ layer ∨ r.splits.get? j ≠ some (.running c)) := by simp [hmark, hlayer, hj]
  simp only [State.splitEnds, hrun, hst, hp, hr, if_neg hwaits, hw, hread, hs2, hruns, hjudge]
  rw [if_neg (not_not_intro hsound)]

theorem splitGood_holds : Claim.splitGood := by
  intro s s1 c t h n k layer j st r p v s0 w hc hrun hst hp hr hmark hlayer hj hread s2 runs hjudge
  rw [exec_splitFinish hc, State.splitEnds_good rfl hrun hst hp hr hmark hlayer hj hread rfl rfl hjudge rfl]

theorem splitNone_holds : Claim.splitNone := by
  intro s c t x hc hrun
  rw [exec_splitFinish hc]
  simp only [State.splitEnds, hrun]

/-! ### SELECT (R203) -/

/-- The first shard of a slot is kept while others are still to come (R203). -/
theorem State.selArrives_first {hdr crc nshard shard m base : Nat} {full : Bool} {a : Shard}
    (hk : bitsN hdr 127 114 = k) (hshd : bitsN hdr 113 110 = shard) (hnsh : bitsN hdr 109 106 = nshard) (hfull : bitN hdr 105 = full)
    (hbase : bitsN hdr 104 84 = base) (hm : bitsN hdr 83 63 = m) (ha : shardOf full base m data = a)
    (hst : s.stepOf h n = some st) (hp : s.laneProf n = some p) (hr : st.req k = some r)
    (hpar : parOk hdr 3 2 0 = true) (hz : bitsN hdr 62 3 = 0) (hmask : s.inMask n src = true)
    (hlen : data.length = (if full then 4 * m else 8 + 8 * m)) (hv : verify data crc = .good)
    (hseq : bitsN hdr 191 128 = st.seq) (hphase : st.selPhase = true) (hsel : r.sel = true) (hmark : r.mark = .data)
    (hdead : r.dead = false) (htoken : r.token = none) (hnew : s.sess.selIn.get? k = none)
    (hvalid : ¬ (nshard < shard ∨ m = 0 ∨ (full = true ∧ p.vocab < base + m) ∨ a.bad full p.vocab = true)) (hmore : nshard ≠ 0) :
    s.selArrives h src n hdr data crc = (s.unlatch 0x2046 (256 * n + 7)).putSel k
      { full, nshard, shards := [(shard, a)], senders := [src], trip := false, complete := false, list := [], rho := 0 } := by
  simp only [State.selArrives, hk, hshd, hnsh, hfull, hbase, hm, ha, hst, hp, hr, hv, hnew]
  rw [if_neg (by simp [hpar, hz, hmask]), if_neg (by simp [hlen]), if_neg (by simp [hseq, hphase, hsel, hmark, hdead, htoken]),
    if_neg (by simp), if_neg (by simpa using hvalid), if_neg (by simp), if_neg hmore]

theorem selectKeeps_holds : Claim.selectKeeps := by
  intro s link src n crc hdr data st r p x k h full m a hl hn hh hst hp hr hpar hz hmask hlen hv hseq hphase hsel hmark hdead htoken
    hm hvocab hnew hshard hmore hgood
  rw [exec_select hl hn hh]
  refine congrArg Host.Outcome.next (State.selArrives_first rfl rfl rfl rfl rfl rfl rfl hst hp hr hpar hz hmask hlen hv hseq hphase
    hsel hmark hdead htoken hnew ?_ hmore.ne')
  rintro (hlt | h0 | ⟨hf, hover⟩ | hbad)
  · exact Nat.not_lt.mpr hshard hlt
  · exact hm.ne' h0
  · exact Nat.not_lt.mpr (hvocab hf) hover
  · exact Bool.false_ne_true (hgood.symm.trans hbad)

/-! ### HOST_ASSIST_WAIT_EXPIRY (R146) -/

theorem exec_hostAssistWaitExpiry (hh : h < 2) (hn : n < 8) : exec (.hostAssistWaitExpiry h n) s = .next (s.assistExpiry h n) := by
  show execHostAssistWaitExpiry h n s = _
  rw [execHostAssistWaitExpiry, Nat.mod_eq_of_lt hh, Nat.mod_eq_of_lt hn]

theorem assistLate_holds : Claim.assistLate := by
  intro s h n st r hh hn hst hopen hwaits
  rw [exec_hostAssistWaitExpiry hh hn]
  refine congrArg Host.Outcome.next ?_
  simp only [State.assistExpiry, hst, hopen]
  exact if_neg (by simp [hwaits])

/-! ### STEP_COMMIT (R147, R148) -/

theorem exec_stepCommit {t : Nat} (hh : h < 2) (hn : n < 8) : exec (.stepCommit h n t) s =
    .next (if !(s.at t).roundHeld n && (s.at t).stepReady h n then (s.at t).commitStep h n false else s.at t) := by
  show execStepCommit h n t s = _
  rw [execStepCommit, Nat.mod_eq_of_lt hh, Nat.mod_eq_of_lt hn]

theorem stepCommits_holds : Claim.stepCommits := by
  intro s h n t hh hn
  rw [exec_stepCommit hh hn]
  refine ⟨fun hready hfree => ?_, fun hwait => ?_⟩
  · rw [if_pos (by simp [hready, hfree])]
  · rw [if_neg (by rcases hwait with h | h <;> simp [h])]

/-- Settles O18: the step, the request and the message's own fields pick the branch of each command. -/
theorem roundWork : Obligations.RoundWork :=
  ⟨qkvStores_holds, qkvDrops_holds, roundExpires_holds, splitGood_holds, splitNone_holds, selectKeeps_holds, assistLate_holds,
    stepCommits_holds⟩

end Sys2Proof.Machine
end

section
/-!
Lysing stacks (R76 to R80): lost, timed out, answering again, and the rows of a rebuild.
-/

namespace Sys2Proof.Machine

variable {s : State} {h g r st : Nat} {rb : Rebuild}

/-! ### STACK_LOST, LYSING_ACCESS_TIMEOUT and STACK_ANSWERS_AGAIN (R76, Table 4-3) -/

theorem exec_stackLost (hh : h < 2) (hst : st < 16) (s : State) : exec (.stackLost h st) s = .next (s.loseStack h st) :=
  if_pos ⟨hh, hst⟩

theorem exec_lysingAccessTimeout (hh : h < 2) (hst : st < 16) (s : State) : exec (.lysingAccessTimeout h st) s =
    .next (if 2 ≤ (s.lys (16 * h + st)).tries then s.loseStack h st
      else s.updLys (16 * h + st) (fun x => { x with tries := x.tries + 1 })) :=
  if_pos ⟨hh, hst⟩

theorem stackLostOk_holds : Claim.stackLostOk := by
  intro s h st hh hst hok s1 s2 s3 aid s4
  rw [exec_stackLost hh hst]
  exact congrArg Host.Outcome.next (if_neg (not_not_intro hok))

theorem stackLostAgain_holds : Claim.stackLostAgain := by
  intro s h st hh hst hout
  rw [exec_stackLost hh hst]
  exact congrArg Host.Outcome.next (if_pos hout)

theorem lysingTries_holds : Claim.lysingTries := by
  refine fun s h st hh hst => ⟨fun hfew => ?_, if_pos ⟨hh, hst⟩⟩
  rw [exec_lysingAccessTimeout hh hst, if_neg (Nat.not_le.mpr hfew)]

theorem lysingThird_holds : Claim.lysingThird := by
  intro s h st hh hst hthird
  rw [exec_lysingAccessTimeout hh hst, exec_stackLost hh hst, if_pos hthird]

/-! ### REBUILD_ROW_DONE (R78) -/

theorem exec_rebuildRowDone (hh : h < 2) (hg : g < 2) : exec (.rebuildRowDone h g r) s = .next (s.rebuildRow h g r) := by
  show execRebuildRowDone h g r s = _
  rw [execRebuildRowDone, Nat.mod_eq_of_lt hh, Nat.mod_eq_of_lt hg]

/-- A rebuild in hardware mode may take up every row that it has left (R78). -/
theorem Rebuild.open_of_hardware (h : rb.assisted = false) : rb.open_ = rb.rows := if_neg (Bool.eq_false_iff.mp h)

@[simp] theorem State.moveMembers_nil (s : State) (h g r kib : Nat) : s.moveMembers h g r kib [] = (s, 0, true) := rfl

/-- A row without members moves nothing: with its parity position in service it is normal, off the list, and the next is marked. -/
theorem State.rebuildRow_memberless (hrb : s.tiers.rebuilds.get? (2 * h + g) = some rb) (hopen : r ∈ rb.open_)
    (hleft : rb.rows.filter (fun x => x != r) ≠ []) (hcmds : rb.cmds = []) (hmem : (s.row (rowKey h g r)).members = [])
    (hpar : (s.outPos h g).contains (r % 8) = false) :
    let s1 := s.updRow (rowKey h g r) (fun x => { x with rstate := 0 })
    s.rebuildRow h g r = State.markRow { s1 with tiers := { s1.tiers with
      rebuilds := s1.tiers.rebuilds.put (2 * h + g) { rb with rows := rb.rows.filter (fun x => x != r) } } } h g := by
  have hin : r % 8 ∉ s.outPos h g := by simpa using hpar
  simp [State.rebuildRow, hrb, hopen, hleft, hcmds, hmem, hin]

theorem rowRebuilt_holds : Claim.rowRebuilt := by
  intro s h g r rb hh hg hrb hhard hr hleft hcmds hmem hpar s1
  rw [exec_rebuildRowDone hh hg,
    State.rebuildRow_memberless hrb (Rebuild.open_of_hardware hhard ▸ hr) hleft hcmds hmem hpar]

/-- Settles O6: the stack's condition, its tries, or the row's members pick the branch of each command. -/
theorem lysingStacks : Obligations.LysingStacks :=
  ⟨stackLostOk_holds, stackLostAgain_holds, lysingTries_holds, lysingThird_holds, rowRebuilt_holds⟩

end Sys2Proof.Machine
end

section
/-!
The pool (R102, Table 14-9): extents lent and borrowed, their data, and the timers of their requests and leases.
-/

namespace Sys2Proof.Machine

variable {s : State} {src part : Nat} {hdr : BitVec 256} {g : Lent}

/-- A valid header passes the first test of every message (R136). -/
theorem poolOk_tested {op : Nat} (h : poolOk hdr op = true) : ¬ (!poolOk hdr op) = true := by simp [h]

/-! ### GRANT_REQ and RENEW, at the lender -/

/-- A request whose extent has a grant that lives is answered with that grant. -/
theorem State.poolGrantReq_live (hok : poolOk hdr 1 = true) (hg : s.liveGrant src part (bits hdr 247 241) = some g) :
    s.poolGrantReq src part hdr = s.poolReply src part 2 (bits hdr 247 241) 0 g.kib 0 (g.leaseEnd - s.nowMs 0) [] := by
  simp only [State.poolGrantReq, if_neg (poolOk_tested hok), hg]

/-- A request for an extent with no grant that lives: refused of nothing or of more than is left to lend, else granted. -/
theorem State.poolGrantReq_new (hok : poolOk hdr 1 = true) (hg : s.liveGrant src part (bits hdr 247 241) = none) :
    let n := bits hdr 208 177
    let g : Lent := { borrower := src, part, kib := n, leaseEnd := s.nowMs 0 + s.dval 0x3040 2, data := [], bad := [] }
    s.poolGrantReq src part hdr =
      if s.dval 0x3040 1 * 2 ^ 20 < s.lentKib + n ∨ n = 0 then s.poolReply src part 2 (bits hdr 247 241) 0 n 1 0 []
      else
        ({ s with tiers := { s.tiers with lent := s.tiers.lent.put (poolKey src (bits hdr 247 241)) g } } : State).poolReply src part 2
          (bits hdr 247 241) 0 n 0 (s.dval 0x3040 2) [] := by
  simp only [State.poolGrantReq, if_neg (poolOk_tested hok), hg]

theorem poolGrants_holds : Claim.poolGrants := by
  intro s src part hdr hok hg hpos hroom g
  refine congrArg Host.Outcome.next ?_
  rw [State.poolGrantReq_new hok hg, if_neg (by omega)]

theorem poolRefuses_holds : Claim.poolRefuses := by
  intro s src part hdr hok hg hover
  refine congrArg Host.Outcome.next ?_
  rw [State.poolGrantReq_new hok hg, if_pos (.inl hover)]

theorem poolAsked_holds : Claim.poolAsked := by
  refine fun s src part hdr => ⟨fun g hok hg => congrArg Host.Outcome.next (State.poolGrantReq_live hok hg),
    fun hok hg => congrArg Host.Outcome.next ?_⟩
  simp only [State.poolRenew, if_neg (poolOk_tested hok), hg]

theorem poolRenewed_holds : Claim.poolRenewed := by
  intro s src part hdr g hok hg
  refine congrArg Host.Outcome.next ?_
  simp only [State.poolRenew, if_neg (poolOk_tested hok), hg]

/-! ### GRANT and the timers, at the borrower -/

theorem poolGranted_holds : Claim.poolGranted := by
  intro s src part hdr hok hst hasked hnew s1 b
  refine congrArg Host.Outcome.next ?_
  simp only [State.poolGrant, if_neg (poolOk_tested hok), if_neg (not_not_intro hst), hasked, hnew]
  rfl

theorem poolGrantRefused_holds : Claim.poolGrantRefused := by
  intro s src part hdr hok hst asked s1
  have hrow : exec (.poolGrant src part hdr) s = .next (if asked then s1 else s1.borrowLapse src (bits hdr 247 241)) := by
    refine congrArg Host.Outcome.next ?_
    simp only [State.poolGrant, if_neg (poolOk_tested hok), if_pos hst]
    rfl
  rw [hrow]
  exact ⟨fun h => congrArg Host.Outcome.next (if_pos h), fun h => congrArg Host.Outcome.next (if_neg (Bool.eq_false_iff.mp h))⟩

theorem poolRetries_holds : Claim.poolRetries := by
  intro s q r hr
  have hrow (late : Bool) : exec (.poolRetryTimer q late) s = execPoolRetryTimer q late s := rfl
  simp only [hrow, execPoolRetryTimer, hr]
  exact ⟨rfl, rfl⟩

theorem poolRenewal_holds : Claim.poolRenewal := by
  intro s part holder ext b hb hlive hpart
  refine congrArg Host.Outcome.next ?_
  simp only [hb]
  exact if_neg (by simp [hlive, hpart])

/-! ### FREE -/

/-- A FREE is acknowledged; it releases the extent where it comes from the partition that the extent is lent to. -/
theorem exec_poolFree (hok : poolOk hdr 8 = true) (hg : s.tiers.lent.get? (poolKey src (bits hdr 247 241)) = some g) :
    exec (.poolFree src part hdr) s = .next ((if g.part = part then s.freeLent src (bits hdr 247 241) else s).poolReply src part 7
      (bits hdr 247 241) (bits hdr 240 209) 0 0 0 []) := by
  refine congrArg Host.Outcome.next ?_
  simp only [if_neg (poolOk_tested hok), hg, Option.map_some, Option.getD_some, beq_iff_eq]

theorem poolFrees_holds : Claim.poolFrees := by
  intro s src part hdr g hok hg hpart
  rw [exec_poolFree hok hg, if_pos hpart]

/-- Settles O10: the header's operation, the grant that lives and the request that waits pick the branch of each message. -/
theorem poolLending : Obligations.PoolLending :=
  ⟨poolGrants_holds, poolRefuses_holds, poolAsked_holds, poolGranted_holds, poolGrantRefused_holds, poolRenewed_holds, poolFrees_holds,
    poolRetries_holds, poolRenewal_holds⟩

/-! ### WRITE (R102, R136, R306) -/

theorem exec_poolWrite {data : List Byte} {crc : Nat} (hv : verify data crc ≠ .failed) :
    exec (.poolWrite src part hdr data crc) s = .next (s.poolWrite src part hdr data (verify data crc == .poisoned)) :=
  congrArg Host.Outcome.next (if_neg hv)

theorem poolWrite_tested {data : List Byte} (hok : poolOk hdr 4 = true) (hlen : data.length = 1024 * bits hdr 208 177) :
    ¬ (!poolOk hdr 4 || data.length != 1024 * bits hdr 208 177) = true := by simp [hok, hlen]

theorem poolWritten_holds : Claim.poolWritten := by
  intro s s1 src part crc x hdr data g ext kib n hok hlen hv hg hpos hfits hput hx
  have hinside : ¬ (g.kib < kib + n ∨ n = 0) := by omega
  subst n kib ext
  rw [exec_poolWrite hv]
  simp only [State.poolWrite, if_neg (poolWrite_tested hok hlen), hg, if_neg hinside, hput, if_neg hx]

theorem poolWriteRefused_holds : Claim.poolWriteRefused := by
  intro s src part crc hdr data ext kib n hok hlen hv
  subst n kib ext
  simp only [exec_poolWrite hv, State.poolWrite, if_neg (poolWrite_tested hok hlen)]
  refine ⟨fun hg => ?_, fun g hg hout => ?_⟩
  · rw [hg]
  · simp only [hg, if_pos hout]

theorem poolWriteDiscards_holds : Claim.poolWriteDiscards :=
  fun _ _ _ _ _ _ hv => congrArg Host.Outcome.next (if_pos hv)

/-! ### READ (R86, R102) -/

theorem poolReads_holds : Claim.poolReads := by
  intro s src part hdr ext kib n hok
  have hrow : exec (.poolRead src part hdr) s = .next (s.poolRead src part hdr) := rfl
  subst n kib ext
  simp only [hrow, State.poolRead, if_neg (poolOk_tested hok)]
  refine ⟨fun g hg hpos hfits => ?_, fun g hg hover => ?_, fun hg => ?_⟩
  · have hinside : ¬ (g.kib < bits hdr 240 209 + bits hdr 208 177 ∨ bits hdr 208 177 = 0) := by omega
    simp only [hg, if_neg hinside, Bool.or_eq_true]
  · simp only [hg, if_pos (Or.inl hover)]
  · rw [hg]

/-! ### DATA and ACK (R102) -/

/-- DATA of another status carries none; one of status 0 is taken where its length and its check value are good. -/
theorem exec_poolData {data : List Byte} {crc : Nat} (hok : poolOk hdr 6 = true)
    (hdata : bits hdr 176 173 = 0 → data.length = 1024 * bits hdr 208 177 ∧ verify data crc ≠ .failed) :
    let s1 := s.poolAnswered src (bits hdr 247 241) [5] (some (bits hdr 240 209))
    exec (.poolData src part hdr data crc) s = .next (if bits hdr 176 173 = 2 then s1.borrowLapse src (bits hdr 247 241) else s1) := by
  refine congrArg Host.Outcome.next (if_neg ?_)
  by_cases hst : bits hdr 176 173 = 0
  · obtain ⟨hlen, hv⟩ := hdata hst
    simp [hok, hlen, hv]
  · simp [hok, hst]

theorem exec_poolAck (hok : poolOk hdr 7 = true) :
    let s1 := s.poolAnswered src (bits hdr 247 241) [4, 8] (some (bits hdr 240 209))
    exec (.poolAck src part hdr) s = .next (if bits hdr 176 173 = 2 then s1.borrowLapse src (bits hdr 247 241) else s1) :=
  congrArg Host.Outcome.next (if_neg (poolOk_tested hok))

theorem poolAnswers_holds : Claim.poolAnswers := by
  intro s src part crc hdr data hst
  have hkept : ¬ bits hdr 176 173 = 2 := by omega
  refine ⟨fun hok hlen hv => ?_, fun hok => ?_⟩
  · rw [exec_poolData hok fun _ => ⟨hlen, hv⟩, if_neg hkept]
  · rw [exec_poolAck hok, if_neg hkept]

theorem poolLeaseOver_holds : Claim.poolLeaseOver := by
  intro s src part crc hdr data ext
  refine ⟨fun hok hst => ?_, fun hok hst => ?_, fun g hok hg hother => ?_⟩
  · rw [exec_poolData hok (by omega), if_pos hst]
  · rw [exec_poolAck hok, if_pos hst]
  · rw [exec_poolFree hok hg, if_neg hother]

/-- Settles O11: the header, the check value, the grant that lives and the extent's length pick the branch of each message. -/
theorem poolData : Obligations.PoolData :=
  ⟨poolWritten_holds, poolWriteRefused_holds, poolWriteDiscards_holds, poolReads_holds, poolAnswers_holds, poolLeaseOver_holds⟩

end Sys2Proof.Machine
end

section
/-!
Units excluded and admitted (R271, R272), FORGO (R257, R275), the daily report (R88) and a quiet bath (R148).
-/

namespace Sys2Proof.Machine

variable {s : State} {fn sq p k u : Nat} {d : Desc} {c : Cmd}

/-! ### EXCLUDE and ADMIT (R271, R272) -/

theorem exec_exclude (h : Taken s 0x60 fn d p) : exec (.exclude fn sq d) s = .next (s.excludeCmd (s.cmdOf fn sq d false) p d) :=
  congrArg Host.Outcome.next (take_eq h)

/-- EXCLUDE by partition 0 of a unit that the device has. -/
theorem State.excludeCmd_unit (hu : unitOk (dFld d 131 128) (dFld d 139 132) = true) :
    let k := dFld d 131 128
    let u := dFld d 139 132
    s.excludeCmd c 0 d =
      if s.unitOut k u then s.done c stOK 0 0
      else if k = 3 ∧ 2 ≤ ((List.range 16).filter (fun f => f != u && (s.flash f).cond != 0)).length then s.refuse c stDENIED 0
      else (((s.excludeUnit k u).count 0x8600 0xF 1).raise 0x6040 0 0 [k, u]).done c stOK 0 1 := by
  simp only [State.excludeCmd, hu]
  rfl

theorem excludes_holds : Claim.excludes := by
  intro s fn sq d c k u others ht hu
  rw [exec_exclude ht, State.excludeCmd_unit hu]
  refine ⟨fun hin hroom => ?_, fun hout => ?_, fun hin h3 hthird => ?_⟩ <;> refine congrArg Host.Outcome.next ?_
  · rw [if_neg (Bool.eq_false_iff.mp hin), if_neg fun h => Nat.not_le.mpr (hroom h.1) h.2]
  · rw [if_pos hout]
  · rw [if_neg (Bool.eq_false_iff.mp hin), if_pos ⟨h3, hthird⟩]

theorem admits_holds : Claim.admits := by
  intro s fn sq d k u ht hu hmay hout
  have hunit : ¬ (!unitOk k u) = true := by simp [hu]
  refine congrArg Host.Outcome.next ((take_eq ht).trans ?_)
  unfold State.admitCmd
  rw [if_neg hunit, if_neg (not_not_intro rfl), if_neg (Bool.eq_false_iff.mp hmay), if_neg (Bool.eq_false_iff.mp hout)]

/-! ### FORGO (R257, R275) -/

theorem exec_forgo (h : TakenSess s 0x63 fn d true false p) :
    exec (.forgo fn sq d) s = .next (s.forgoCmd (s.cmdOf fn sq d false) (hIdx (dHnd d)) d) :=
  congrArg Host.Outcome.next (takeSessC_eq h)

theorem forgoes_holds : Claim.forgoes := by
  intro s fn sq d p pid g i c ht hpid hg
  subst c i
  rw [exec_forgo ht]
  simp only [State.forgoCmd, hpid, hg]
  exact ⟨fun hin hbad => congrArg Host.Outcome.next (if_neg (by simp [hin, hbad])),
    fun hreads => congrArg Host.Outcome.next (if_pos hreads)⟩

/-! ### DAILY_COUNT_REPORT (R88) and STOP_BATH_QUIET (R148, R414) -/

theorem dailyReports_holds : Claim.dailyReports := by
  intro s h hh s0 s1 hreach
  have hlead : ¬ (s0.boot.bridge = true ∧ s0.clk.lead.half ≠ some h) := by
    rintro ⟨hup, hother⟩
    rcases hreach with hdown | hlead
    · exact Bool.false_ne_true (hdown.symm.trans hup)
    · exact hother hlead
  have hrow : exec (.dailyCountReport h) s = .next (if s1.withinBudget then s1
      else s1.raiseOnce 0x3008 0 0 h [(s1.tiers.t2rep.w + s1.tiers.t2rep.e) / 2 ^ 30]) := by
    show execDailyCountReport h s = _
    rw [execDailyCountReport, Nat.mod_eq_of_lt hh]
    exact congrArg Host.Outcome.next (if_neg hlead)
  rw [hrow]
  exact ⟨fun hw => by rw [if_pos hw], fun hw => by rw [if_neg (Bool.eq_false_iff.mp hw)]⟩

theorem bathQuiets_holds : Claim.bathQuiets := by
  intro s b
  subst b
  have hrow : exec .stopBathQuiet s = .next s.bathQuiet := rfl
  rw [hrow]
  unfold State.bathQuiet
  refine ⟨fun hlevel hloud hrests hsubset => ?_, fun hoff => ?_⟩ <;> refine congrArg Host.Outcome.next ?_
  · rw [if_neg (by simp [hlevel, hloud, hrests]), if_neg hsubset]
  · rw [if_pos (hoff.imp_right .inl)]

/-- Settles O24: the unit's condition, the page's check, the day's count and the bath's state pick the branch of each command. -/
theorem unitsExcluded : Obligations.UnitsExcluded :=
  ⟨excludes_holds, admits_holds, forgoes_holds, dailyReports_holds, bathQuiets_holds⟩

end Sys2Proof.Machine
end

section
/-!
Device memory (R104): what a run of bytes or a blanked range reads, and the canonical form.
-/

namespace Sys2Proof.Machine

variable {m m' : Mem}

theorem Mem.read_clear (m : Mem) (a n b : Nat) : (m.clear a n).read b = if b < a ∨ a + n ≤ b then m.read b else 0#8 := by
  have hget : Tab.get? (m.clear a n) b = if b < a ∨ a + n ≤ b then Tab.get? m b else none := by
    simpa [Mem.clear] using get_filter m (fun k => decide (k < a) || decide (a + n ≤ k)) b
  unfold Mem.read
  rw [hget]
  split <;> rfl

/-- Settles O53: a write and a run of bytes by the laws of a table, a blanked range by those of a filtered one. -/
theorem memoryReadsBack : Obligations.MemoryReadsBack := by
  refine fun m a v => ⟨read_write_same m a v, fun b hb => read_write_other m a b v hb, fun l j x hx => writeN_in l m a j x hx,
    fun l b hb => writeN_out l m a b hb, fun n b hlo hhi => ?_, fun n b hout => ?_⟩
  · rw [Mem.read_clear, if_neg (by omega)]
  · rw [Mem.read_clear, if_pos hout]

/-- Canonical memories that read alike at every address are equal: they list the same cells, in the order of their addresses. -/
theorem Mem.eq_of_read (hm : m.wf = true) (hm' : m'.wf = true) (hread : ∀ b, m.read b = m'.read b) : m = m' := by
  have hcells (c : Host.Cell) : c ∈ m ↔ c ∈ m' := by rw [mem_read hm, mem_read hm', hread]
  have hrise {x : Mem} (hx : x.wf = true) : x.Pairwise (fun a b => a.1 < b.1) := (tab_rises x).mp ((wf_iff x).mp hx).1
  have : Std.Irrefl (fun a b : Host.Cell => a.1 < b.1) := ⟨fun a => Nat.lt_irrefl a.1⟩
  have : Std.Asymm (fun a b : Host.Cell => a.1 < b.1) := ⟨fun a b => Nat.lt_asymm⟩
  exact (hrise hm).eq_of_mem_iff (hrise hm') hcells

/-- Settles O54: a write, a run of bytes and a blanked range keep the form, and the form makes equal contents equal data. -/
theorem memoryStaysCanonical : Obligations.MemoryStaysCanonical :=
  fun _ _ hm => ⟨fun _ => wf_write hm, fun _ => wf_writeN hm, fun _ => wf_filter hm, fun _ hm' => Mem.eq_of_read hm hm'⟩

end Sys2Proof.Machine
end

section
/-!
The ownership record (R116 to R122, Table 5-1): what the home answers to each request, and a NOTE read by a guest.
-/

namespace Sys2Proof.Machine

variable {s u : State} {i src sp part op : Nat} {m : OwnMsg} {hdr : BitVec 256}

theorem State.isHome_of_home (h : s.guestOf i = none) : s.isHome i = true := by simp [State.isHome, h]

theorem State.isHome_of_guest {l : LinkRec} (h : s.guestOf i = some l) : s.isHome i = false := by simp [State.isHome, h]

/-! ### The rows of Table 5-1 -/

/-- A record whose lease runs is as it stands. -/
theorem State.leaseEnds_of_running (h : s.nowMs (idxHalf i) < (s.ent i).olease) : s.leaseEnds i = s := by
  simp only [State.leaseEnds, if_pos h, ite_self]

/-- A record that has lapsed does not lapse again. -/
theorem State.leaseEnds_of_lapsed (ho : (s.ent i).offered = false) (h : s.own.lapsed.contains i = true) : s.leaseEnds i = s := by
  simp only [State.leaseEnds, ho, h, Bool.false_eq_true, if_false, if_true, ite_self]

section
variable (hl : s.leaseEnds i = s) (hf : s.frozen i = false)
include hl

theorem State.homeDoes_read (hop : m.op = 1) : s.homeDoes i src sp m = (s, 0) := by
  simp only [State.homeDoes, hl, if_pos hop]

include hf

theorem State.homeDoes_renew (hop : m.op = 2) (ho : (s.ent i).offered = false) (he : m.epoch = (s.ent i).epoch)
    (hs : src = (s.ent i).owner) :
    s.homeDoes i src sp m =
      ((s.updEnt i (fun x => { x with olease := s.nowMs (idxHalf i) + s.ownerLease })).unlapse i, 0) := by
  simp [State.homeDoes, hl, hf, hop, ho, he, hs]

theorem State.homeDoes_offer (hop : m.op = 3) (ho : (s.ent i).offered = false) (he : m.epoch = (s.ent i).epoch)
    (hs : src = (s.ent i).owner) (hroom : (s.ent i).epoch ≤ 0xFFFFFFFD) :
    s.homeDoes i src sp m =
      ((s.writeRec i (fun x => { x with
        offered := true, target := m.target, thalf := m.thalf, olease := s.nowMs (idxHalf i) + s.offerLease })).unlapse i, 0) := by
  simp [State.homeDoes, hl, hf, hop, ho, he, hs, Nat.not_lt.mpr hroom]

theorem State.homeDoes_accept (hop : m.op = 4) (ho : (s.ent i).offered = true) (he : m.epoch = (s.ent i).epoch)
    (hs : src = (s.ent i).target) (hroom : s.epochFull i = false) :
    s.homeDoes i src sp m =
      (((((s.writeRec i (fun x => { x with
        offered := false, owner := (s.ent i).target, olease := s.nowMs (idxHalf i) + s.ownerLease })).setRecHalf i
          (s.ent i).thalf).unlapse i).setRemote i (s.ent i).target m.guestHandle).notes i (s.ent i).owner (s.ent i).target, 0) := by
  simp [State.homeDoes, hl, hf, hop, ho, he, hs, hroom]

theorem State.homeDoes_recall (hop : m.op = 5) (ho : (s.ent i).offered = true) (he : m.epoch = (s.ent i).epoch)
    (hs : src = (s.ent i).owner) (hroom : s.epochFull i = false) :
    s.homeDoes i src sp m =
      (((s.writeRec i (fun x => { x with offered := false })).notes i (s.ent i).owner (s.ent i).target).recalled i, 0) := by
  simp [State.homeDoes, hl, hf, hop, ho, he, hs, hroom]

theorem State.homeDoes_claim (hop : m.op = 6) (ho : (s.ent i).offered = false) (hlap : s.own.lapsed.contains i = true)
    (hc : m.clm = true) (hd : m.drop = false) (he : m.epoch = (s.ent i).epoch) (hroom : s.epochFull i = false) :
    s.homeDoes i src 0 m =
      ((((((s.writeRec i (fun x => { x with owner := src, olease := s.nowMs (idxHalf i) + s.ownerLease })).setRecHalf i
        m.shalf).unlapse i).setRemote i src m.guestHandle).notes i (s.ent i).owner (s.ent i).target).count 0x8310 9 1, 0) := by
  simp [State.homeDoes, hl, hf, hop, ho, List.contains_iff_mem.mp hlap, hc, hd, he, hroom]

theorem State.homeDoes_release (hop : m.op = 7) (ho : (s.ent i).offered = false) (he : m.epoch = (s.ent i).epoch)
    (hs : src = (s.ent i).owner) (hroom : s.epochFull i = false) :
    s.homeDoes i src sp m = ((s.writeRec i id).unlapse i, 0) := by
  simp [State.homeDoes, hl, hf, hop, ho, he, hs, hroom]

/-- RENEW, OFFER and RELEASE of another epoch, or not from the owner: STALE_EPOCH, and nothing is written. -/
theorem State.homeDoes_stale (hop : m.op = 2 ∨ m.op = 3 ∨ m.op = 7) (ho : (s.ent i).offered = false)
    (hbad : m.epoch ≠ (s.ent i).epoch ∨ src ≠ (s.ent i).owner) : s.homeDoes i src sp m = (s, 1) := by
  have hmatch : (m.epoch == (s.ent i).epoch && src == (s.ent i).owner) = false := by
    rcases hbad with h | h <;> simp [h]
  rcases hop with h | h | h <;> simp [State.homeDoes, hl, hf, h, ho, hmatch]

end

theorem State.epochFull_eq_false (h : (s.ent i).epoch < 0xFFFFFFFF) : s.epochFull i = false := by
  simpa [State.epochFull] using h

/-! ### A request reaches its home -/

theorem settled_self (s : State) (i : Nat) : Claim.Settled s s i = s := by
  simp [Claim.Settled]

/-- A request about an open session that this device is home to, by a stream that may name it (R122) and that no HOLD keeps waiting (R420), is
answered with what the home does; a RELEASE that is granted closes the session. -/
theorem State.ownRequest_at_home {n : Nat}
    (hstream : if (m.op == 6 && m.clm) = true then part = 0 else hPart m.handle = part)
    (hfree : (s.ent (hIdx m.handle)).state ≠ .free) (hclosed : (s.ent (hIdx m.handle)).state ≠ .closed)
    (hgen : (s.ent (hIdx m.handle)).gen = hGen m.handle) (hpart : (s.ent (hIdx m.handle)).part = hPart m.handle)
    (hhome : s.guestOf (hIdx m.handle) = none) (hhold : m.op = 3 ∨ m.op = 4 → s.inHold (idxHalf (hIdx m.handle)) = false)
    (hother : m.sender ≠ s.self) (hdoes : s.homeDoes (hIdx m.handle) m.sender part m = (u, n)) :
    let i := hIdx m.handle
    let v := Claim.Settled s u i
    let w := v.sendOwn m.sender part (v.image i m.op n m.seq)
    s.ownRequest src part m = if m.op = 7 ∧ n = 0 then w.closeEntry i false false else w.settleHome i := by
  have hmay : ¬ ((m.op == 6 && m.clm) = true ∧ part ≠ 0 ∨ (!(m.op == 6 && m.clm)) = true ∧ hPart m.handle ≠ part) := by
    split at hstream <;> simp [*]
  have hwaits : ¬ ((m.op = 3 ∨ m.op = 4) ∧ s.inHold (idxHalf (hIdx m.handle)) = true) := fun h => by simp [hhold h.1] at h
  have hnamed : ¬ ((s.ent (hIdx m.handle)).state = .free ∨ (s.ent (hIdx m.handle)).state = .closed
      ∨ (s.ent (hIdx m.handle)).gen ≠ hGen m.handle ∨ (s.ent (hIdx m.handle)).part ≠ hPart m.handle) := by
    simp [hfree, hclosed, hgen, hpart]
  simp only [State.ownRequest, if_neg hmay, if_neg hnamed, hhome, if_neg hwaits, State.homeTakes, hdoes, if_neg hother]

/-- A message with good fields (R136) that answers no request of this device's own is a request (R120). -/
theorem State.ownArrives_request (hok : ownOk hdr op = true) (hnew : s.answered src (OwnMsg.parse hdr) = none)
    (hres : (OwnMsg.parse hdr).result = 0) (hlease : (OwnMsg.parse hdr).lease = 0)
    (hflags : op ≠ 6 → (OwnMsg.parse hdr).clm = false ∧ (OwnMsg.parse hdr).drop = false) :
    s.ownArrives op src part hdr = s.ownRequest src part (OwnMsg.parse hdr) := by
  have hgood : ¬ ((OwnMsg.parse hdr).result ≠ 0 ∨ (OwnMsg.parse hdr).lease ≠ 0
      ∨ (op ≠ 6 ∧ ((OwnMsg.parse hdr).clm = true ∨ (OwnMsg.parse hdr).drop = true))) := by
    rintro (h | h | ⟨hop, h | h⟩)
    · exact h hres
    · exact h hlease
    · simp [hflags hop] at h
    · simp [hflags hop] at h
  have hpasses : ¬ (!ownOk hdr op) = true := by simp [hok]
  simp only [State.ownArrives, if_neg hpasses, hnew, if_neg hgood]

/-- Request `op` that `HomeAsked` describes is answered with what the home does. -/
theorem State.ownArrives_at_home {n : Nat} (h : Claim.HomeAsked s op src part hdr)
    (hdoes : s.homeDoes (hIdx (OwnMsg.parse hdr).handle) (OwnMsg.parse hdr).sender part (OwnMsg.parse hdr) = (u, n)) :
    let m := OwnMsg.parse hdr
    let i := hIdx m.handle
    let v := Claim.Settled s u i
    let w := v.sendOwn m.sender part (v.image i op n m.seq)
    s.ownArrives op src part hdr = if op = 7 ∧ n = 0 then w.closeEntry i false false else w.settleHome i := by
  obtain ⟨hok, hop, hnew, hres, hlease, hclm, hdrop, hstream, hfree, hclosed, hgen, hpart, hhome, -, hhold, -, hother⟩ := h
  rw [State.ownArrives_request hok hnew hres hlease fun _ => ⟨hclm, hdrop⟩, State.ownRequest_at_home (by simp [hclm, hstream]) hfree
    hclosed hgen (hpart.trans hstream.symm) hhome (fun _ => hhold) hother hdoes, hop]

/-- Any request but a RELEASE that is granted leaves the session open. -/
theorem State.ownArrives_answers {n : Nat} (h : Claim.HomeAsked s op src part hdr)
    (hdoes : s.homeDoes (hIdx (OwnMsg.parse hdr).handle) (OwnMsg.parse hdr).sender part (OwnMsg.parse hdr) = (u, n))
    (hopen : op ≠ 7 ∨ n ≠ 0) :
    let m := OwnMsg.parse hdr
    let i := hIdx m.handle
    let v := Claim.Settled s u i
    s.ownArrives op src part hdr = (v.sendOwn m.sender part (v.image i op n m.seq)).settleHome i :=
  (State.ownArrives_at_home h hdoes).trans (if_neg (by omega))

/-- The record that `HomeAsked` describes is neither past its lease nor frozen. -/
theorem homeAsked_row (h : Claim.HomeAsked s op src part hdr) :
    let i := hIdx (OwnMsg.parse hdr).handle
    (OwnMsg.parse hdr).op = op ∧ s.leaseEnds i = s ∧ s.frozen i = false := by
  obtain ⟨-, hop, -, -, -, -, -, -, -, -, -, -, -, hf, -, hruns, -⟩ := h
  exact ⟨hop, State.leaseEnds_of_running hruns, hf⟩

theorem ownReads_holds : Claim.ownReads := by
  intro s src part hdr h m i
  obtain ⟨hop, hl, -⟩ := homeAsked_row h
  refine congrArg Host.Outcome.next ((State.ownArrives_answers h (State.homeDoes_read hl hop) (by decide)).trans ?_)
  rw [settled_self]

theorem ownRenews_holds : Claim.ownRenews := by
  intro s src part hdr h m i ho he hs u
  obtain ⟨hop, hl, hf⟩ := homeAsked_row h
  exact congrArg Host.Outcome.next (State.ownArrives_answers h (State.homeDoes_renew hl hf hop ho he hs) (by decide))

theorem ownOffers_holds : Claim.ownOffers := by
  intro s src part hdr h m i ho he hs hroom u
  obtain ⟨hop, hl, hf⟩ := homeAsked_row h
  exact congrArg Host.Outcome.next (State.ownArrives_answers h (State.homeDoes_offer hl hf hop ho he hs hroom) (by decide))

theorem ownAccepts_holds : Claim.ownAccepts := by
  intro s src part hdr h m i e ho he hs hroom u
  obtain ⟨hop, hl, hf⟩ := homeAsked_row h
  exact congrArg Host.Outcome.next
    (State.ownArrives_answers h (State.homeDoes_accept hl hf hop ho he hs (State.epochFull_eq_false hroom)) (by decide))

theorem ownRecalls_holds : Claim.ownRecalls := by
  intro s src part hdr h m i e ho he hs hroom u
  obtain ⟨hop, hl, hf⟩ := homeAsked_row h
  exact congrArg Host.Outcome.next
    (State.ownArrives_answers h (State.homeDoes_recall hl hf hop ho he hs (State.epochFull_eq_false hroom)) (by decide))

theorem ownReleases_holds : Claim.ownReleases := by
  intro s src part hdr h m i ho he hs hroom u
  obtain ⟨hop, hl, hf⟩ := homeAsked_row h
  exact congrArg Host.Outcome.next
    ((State.ownArrives_at_home h (State.homeDoes_release hl hf hop ho he hs (State.epochFull_eq_false hroom))).trans (if_pos ⟨rfl, rfl⟩))

theorem ownStale_holds : Claim.ownStale := by
  intro s src part hdr m i ho hbad
  have hanswer {op : Nat} (hop : op = 2 ∨ op = 3 ∨ op = 7) (h : Claim.HomeAsked s op src part hdr) :
      s.ownArrives op src part hdr = (s.sendOwn m.sender part (s.image i op 1 m.seq)).settleHome i := by
    obtain ⟨hm, hl, hf⟩ := homeAsked_row h
    refine (State.ownArrives_answers h (State.homeDoes_stale hl hf (hm.symm ▸ hop) ho hbad) (.inr (by decide))).trans ?_
    rw [settled_self]
  exact ⟨fun h => congrArg Host.Outcome.next (hanswer (by decide) h), fun h => congrArg Host.Outcome.next (hanswer (by decide) h),
    fun h => congrArg Host.Outcome.next (hanswer (by decide) h)⟩

theorem ownClaims_holds : Claim.ownClaims := by
  intro s src hdr m i e hok hop hnew hres hlease hclm hdrop hfree hclosed hgen hpart hhome hf ho hlap he hroom hother u
  have hdoes := State.homeDoes_claim (src := m.sender) (State.leaseEnds_of_lapsed ho hlap) hf hop ho hlap hclm hdrop he
    (State.epochFull_eq_false hroom)
  refine congrArg Host.Outcome.next ((State.ownArrives_request hok hnew hres hlease (absurd rfl)).trans ?_)
  rw [State.ownRequest_at_home (by simp [hop, hclm]) hfree hclosed hgen hpart hhome (by omega) hother hdoes, if_neg (by omega), hop]

/-! ### What is discarded, and NOTE (R118, R136) -/

theorem ownDiscards_holds : Claim.ownDiscards := by
  intro s src part hdr n i hbad hi
  have hfails : (!ownOk hdr n) = true := by simp [hbad]
  simp only [List.mem_cons, Prod.mk.injEq, List.not_mem_nil, or_false] at hi
  rcases hi with ⟨rfl, rfl⟩ | ⟨rfl, rfl⟩ | ⟨rfl, rfl⟩ | ⟨rfl, rfl⟩ | ⟨rfl, rfl⟩ | ⟨rfl, rfl⟩ | ⟨rfl, rfl⟩
      | ⟨rfl, rfl⟩ <;>
    exact congrArg Host.Outcome.next (if_pos hfails)

/-- A guest whose entry no move and no copy concerns yields to the owner that a record no older than its own names. -/
theorem State.recordSays_other {noted : Bool} (hmove : s.own.moves.get? i = none) (hcopy : s.own.staged.get? i = none)
    {l : LinkRec} (hguest : s.guestOf i = some l) (howner : m.owner ≠ s.self) (he : (s.ent i).epoch ≤ m.epoch) :
    s.recordSays i m noted = s.yields i m.owner := by
  simp only [State.recordSays, hmove, hcopy]
  exact if_pos ⟨by simp [State.isHome_of_guest hguest], howner, he⟩

theorem ownNoted_holds : Claim.ownNoted := by
  intro s src part i hdr l m hok hlinks hkind hpeer hhandle hpart hmove hcopy howner he
  subst m
  have hguest : s.guestOf i = some l := by simp [State.guestOf, hlinks, Tab.get?, hkind]
  have hfound : s.own.links.find? (fun l => l.2.kind == 0 && l.2.peer == src && l.2.handle == (OwnMsg.parse hdr).handle
      && (s.ent l.1).part == part) = some (i, l) := by simp [hlinks, hkind, hpeer, hhandle, hpart]
  refine congrArg Host.Outcome.next ?_
  simp only [if_neg (show ¬ (!ownOk hdr 8) = true by simp [hok]), hfound]
  exact State.recordSays_other hmove hcopy hguest howner he

/-- Settles O12: an open record at home takes the row of Table 5-1 that its request, its offer and its epoch pick. -/
theorem ownershipTable : Obligations.OwnershipTable :=
  ⟨ownReads_holds, ownRenews_holds, ownOffers_holds, ownAccepts_holds, ownRecalls_holds, ownReleases_holds, ownStale_holds,
    ownClaims_holds, ownDiscards_holds, ownNoted_holds⟩

end Sys2Proof.Machine
end

section
/-!
MIGRATE, RECALL, CLAIM, WHERE and DISCARD, and the end of a half move (R118 to R132, Table 5-5).
-/

namespace Sys2Proof.Machine

variable {s : State} {fn sq i p : Nat} {d : Desc} {c : Cmd}

/-! ### MIGRATE (R123, R124, R132) -/

/-- A session command with a field out of range is refused before its handle is looked at (R34, R47). -/
theorem takeSessC_badField {op : Nat} {lc any remote hold : Bool} {k : Cmd → Nat → Nat → State} (ht : Taken s op fn d p) :
    s.takeSessC op fn sq d lc any remote true hold k = s.refuse (s.cmdOf fn sq d lc) stBAD dRANGE :=
  (take_eq ht).trans (if_pos rfl)

/-- MIGRATE passes its field check (R123): it names the other half, or another session peer. -/
theorem exec_migrate (ht : TakenSess s 0x10 fn d true false p) (h1 : s.maint.st ≠ 1) (h2 : s.maint.st ≠ 2)
    (hgoes : dFlag d 24 = true ∨ (dFld d 133 128 ≠ s.self ∧ s.epKind (dFld d 133 128) = 1)) :
    exec (.migrate fn sq d) s = .next (s.migrateCmd (s.cmdOf fn sq d false) (hIdx (dHnd d)) d) := by
  have hfields : (!dFlag d 24 && (dFld d 133 128 == s.self || s.epKind (dFld d 133 128) != 1)) = false := by
    rcases hgoes with h | ⟨hs, hk⟩
    · simp [h]
    · simp [hs, hk]
  show execMigrate fn sq d s = _
  rw [execMigrate, hfields, takeSessC_eq ht, if_neg (not_or.mpr ⟨h1, h2⟩)]

/-- A half move that starts at the session's home, where its OFFER is written and its space is reserved (R124, R126). -/
theorem State.startMove_half {m : MoveRun} {r x : State} {k : Option Nat} (hhold : s.inHold (idxHalf i) = false)
    (hhold' : s.inHold (s.ent i).shalf = false) (hhome : s.guestOf i = none) (hhalf : m.half = true)
    (hoffer : s.homeDoes i s.self (s.ent i).part
      { s.ownReq i 3 with target := s.self, thalf := otherHalf (s.ent i).shalf, offered := true } = (r, 0))
    (hroom : r.reserveHalf i (otherHalf (s.ent i).shalf) = .ok (x, k)) :
    s.startMove i m = x.enterMoving i { m with
      before := (s.ent i).state, ttlLeft := if (s.ent i).ton then (s.ent i).expires - s.nowMs (idxHalf i) else 1000 * (s.ent i).ttl
      started := true, target := otherHalf (s.ent i).shalf, offerEpoch := (s.ent i).epoch + 1, offered := true, slot := k } := by
  simp [State.startMove, State.isHome_of_home hhome, hhold, hhold', hhalf, hoffer, hroom]

theorem migrateHalf_holds : Claim.migrateHalf := by
  intro s r x fn sq d p k i e rq ht h1 h2 hhalf hst hhome hoffer hroom
  have ⟨_, _, _, hserv, hhold, _⟩ := ht
  rw [exec_migrate ht h1 h2 (.inl hhalf)]
  have hcmd (c : Cmd) : s.migrateCmd c i d = s.startMove i
      { cmd := c, half := dFlag d 24, target := dFld d 133 128, before := e.state, ttlLeft := 0, offerEpoch := 0, offered := false
        fails := [], guest := 0, started := false, after := dFlag d 25, reason := 0, slot := none } := by
    simp only [State.migrateCmd, e, hst]
  rw [hcmd, State.startMove_half hhold hserv hhome hhalf hoffer hroom]
  simp only [show (s.ent (hIdx (dHnd d))).state = .idle from hst, hhalf, e, i]

theorem migrateRange_holds : Claim.migrateRange := by
  intro s fn sq d p ht hhalf hkind
  have hfields : (!dFlag d 24 && (dFld d 133 128 == s.self || s.epKind (dFld d 133 128) != 1)) = true := by simp [hhalf, hkind]
  show execMigrate fn sq d s = _
  rw [execMigrate, hfields, takeSessC_badField ht]

theorem migrateOthers_holds : Claim.migrateOthers := by
  intro s fn sq d p i e m ht h1 h2 hgoes
  rw [exec_migrate ht h1 h2 hgoes]
  subst m e i
  refine ⟨fun hst => ?_, fun hst hnone hafter => ?_, fun hst => ?_⟩ <;> refine congrArg Host.Outcome.next ?_
  · rcases hst with hst | hst <;> simp only [State.migrateCmd, hst]
  · simp only [State.migrateCmd, hst, if_neg (Bool.eq_false_iff.mp hnone), if_pos hafter]
  · rcases hst with ⟨hst, hmoves⟩ | hst | hst
    · simp only [State.migrateCmd, hst, if_pos hmoves]
    · simp only [State.migrateCmd, hst]
    · simp only [State.migrateCmd, hst]

/-! ### MOVE_ENDS (R127) -/

theorem moveEnds_holds : Claim.moveEnds := by
  intro s i hdr r hr hhalf hoff hbridge hhold hhold' hhome
  refine congrArg Host.Outcome.next ?_
  simp [hr, hhalf, hoff, hbridge, hhold, hhold', State.isHome_of_home hhome]

/-! ### RECALL (R122, R132) -/

theorem recalls_holds : Claim.recalls := by
  intro s fn sq d p i c ht hx
  have hrow : exec (.recall fn sq d) s = execRecall fn sq d s := rfl
  subst c i
  rw [hrow, execRecall, takeSessC_eq ht, if_neg hx]
  refine ⟨fun hnone => ?_, fun r hr hwaits => ?_⟩ <;> refine congrArg Host.Outcome.next ?_
  · simp only [hnone]
  · have hearly : (!r.started) = true := by simp [hwaits]
    simp only [hr, if_pos hearly]

/-! ### CLAIM (R131) -/

theorem exec_claim (h : TakenSess s 0x12 fn d true (dFlag d 24) p) :
    exec (.claim fn sq d) s = .next (s.claimCmd (s.cmdOf fn sq d false) p (hIdx (dHnd d)) d) :=
  congrArg Host.Outcome.next (takeSessC_eq h)

/-- CLAIM with DROP of a lapsed record at its home, the epoch current (Table 5-1). -/
theorem State.claimDrop_of_lapsed {epoch : Nat} (hhome : s.guestOf i = none) (hf : s.frozen i = false) (ho : (s.ent i).offered = false)
    (hlap : s.own.lapsed.contains i = true) (he : epoch = (s.ent i).epoch) (hroom : s.epochFull i = false) :
    let s1 := s.writeRec i (fun x => { x with owner := s.self })
    s.claimDrop c i epoch =
      ((((s1.notes i (s.ent i).owner (s.ent i).target).unlapse i).count 0x8310 9 1).doneSess c i stOK 0 (s1.ent i).epoch).closeEntry i
        false false := by
  have hhere : ¬ (!s.isHome i) = true := by simp [State.isHome_of_home hhome]
  have hlapsed : ¬ ((s.ent i).offered = true ∨ (!s.own.lapsed.contains i) = true) := by rw [ho, hlap]; decide
  have hcurrent : ¬ (epoch ≠ (s.ent i).epoch ∨ s.epochFull i = true) := by simp [he, hroom]
  simp only [State.claimDrop, State.leaseEnds_of_lapsed ho hlap, if_neg hhere, if_neg (Bool.eq_false_iff.mp hf), if_neg hlapsed,
    if_neg hcurrent]

theorem claims_holds : Claim.claims := by
  intro s fn sq d p i e c ht
  rw [exec_claim ht]
  refine ⟨fun hp hdrop hx hself hhome hf ho hlap he hroom => ?_, fun hp => ?_⟩ <;> refine congrArg Host.Outcome.next ?_
  · rw [← State.claimDrop_of_lapsed hhome hf ho hlap he (State.epochFull_eq_false hroom), State.claimCmd, if_neg (not_not_intro hp),
      if_neg hx, if_pos hdrop, if_neg (not_not_intro hself)]
  · rw [State.claimCmd, if_pos hp, State.refuseX, if_pos ⟨rfl, rfl⟩]

theorem claimOthers_holds : Claim.claimOthers := by
  intro s fn sq d i c ht hdrop hx
  subst c i
  rw [exec_claim (hdrop.symm ▸ ht)]
  simp only [State.claimCmd, if_neg (not_not_intro (rfl : (0 : Nat) = 0)), if_neg hx, if_neg (Bool.eq_false_iff.mp hdrop)]
  refine ⟨fun l hguest hwhole => ?_, fun hhome hcopy howner hself => ?_, fun x hcopy hpart => ?_⟩
  · have haway := State.isHome_of_guest hguest
    cases hcopy : s.own.staged.get? (hIdx (dHnd d)) with
    | none => simp [haway]
    | some x => simp [haway, hwhole x hcopy]
  · simp [hcopy, State.isHome_of_home hhome, howner, hself]
  · simp [hcopy, hpart]

/-! ### WHERE (R128) and DISCARD (R118, R126, R132) -/

theorem whereReads_holds : Claim.whereReads :=
  fun _ _ _ _ _ ht hx => congrArg Host.Outcome.next ((takeSessC_eq ht).trans (if_neg hx))

theorem exec_discard (h : TakenSess s 0x14 fn d true false 0) (hx : (s.ent (hIdx (dHnd d))).state ≠ .expired) :
    let i := hIdx (dHnd d)
    let c := s.cmdOf fn sq d false
    exec (.discard fn sq d) s = .next (if (!s.own.staged.has i) = true then s.busy c
      else if s.isHome i then s.goalRead i 1 0 c (s.image i 1 0 0) s.self
      else s.ownAsk i (s.homeRef i).1 (s.ent i).part (s.ownReq i 1) (some c) 1) :=
  congrArg Host.Outcome.next (((takeSessC_eq h).trans (if_neg (not_not_intro rfl))).trans (if_neg hx))

theorem discards_holds : Claim.discards := by
  intro s fn sq d i c ht hx
  subst c i
  rw [exec_discard ht hx]
  refine ⟨fun hcopy hhome howner => ?_, fun l hcopy hguest => ?_, fun hcopy => ?_⟩
  · simp [hcopy, State.isHome_of_home hhome, State.goalRead, State.image, howner]
  · simp [hcopy, State.isHome_of_guest hguest, State.homeRef, hguest]
  · simp [hcopy]

/-- Settles O14: the session's state, its move and copy, and whether its record is at home pick the branch of each command. -/
theorem moveCommands : Obligations.MoveCommands :=
  ⟨migrateHalf_holds, migrateOthers_holds, migrateRange_holds, moveEnds_holds, recalls_holds, claims_holds, claimOthers_holds,
    whereReads_holds, discards_holds⟩

end Sys2Proof.Machine
end

section
/-!
The MOVE messages (R126, R129, Table 14-8) at the target and at the source of a device move.
-/

namespace Sys2Proof.Machine

variable {s : State} {src part crc : Nat} {hdr : BitVec 256} {data : List Byte} {r : MoveRun}

/-- A valid header passes the first test of every message (R136). -/
theorem moveOk_tested {op : Nat} (h : moveOk hdr op = true) : ¬ (!moveOk hdr op) = true := by simp [h]

/-! ### FIELDS and OBJECT, at the target (R126) -/

/-- FIELDS that pass every check, and that no copy kept here answers, are taken in. -/
theorem exec_moveFields_new (hok : moveOk hdr 1 = true) (hlen : data.length = 72) (hv : verify data crc ≠ .failed)
    (hword : entryWordOk (leAt data 0 64) = true) (hpart : hPart (bits hdr 255 192) = part)
    (hnew : s.own.staged.find? (fun x => x.2.source == src && x.2.srcHandle == bits hdr 255 192) = none) :
    exec (.moveFields src part hdr data crc) s = .next
      (s.stageSession src part (bits hdr 255 192) (DirEntry.ofWord (leAt data 0 64)) (leAt data 64 8)) := by
  have hgood : ¬ (!moveOk hdr 1 || data.length != 72 || verify data crc == .failed || !entryWordOk (leAt data 0 64)
      || hPart (bits hdr 255 192) != part) = true := by simp [hok, hlen, hv, hword, hpart]
  refine congrArg Host.Outcome.next ?_
  simp only [if_neg hgood, hnew]

theorem moveFieldsStages_holds : Claim.moveFieldsStages := by
  intro s src part crc i k hdr data pr h e hf kib hok hlen hv hword hpart hnew hhome hpr hfree hroom hslot e1 x s1 s2
  have hfits : ¬ (s.noRoom part hf kib).isSome = true := by simp [hroom]
  subst s2 s1 x e1 kib hf e h
  rw [exec_moveFields_new hok hlen hv hword hpart hnew]
  simp only [State.stageSession, hhome, hpr, hfree, if_neg hfits, hslot]
  rfl

theorem moveObjects_holds : Claim.moveObjects := by
  intro s src part crc hdr data x pr i l q cnt asked hok hps hx hpr hname hsrc hpartial hl hq hnew
  have hgood : ¬ (!moveOk hdr 2 || (bits hdr 91 90 != 1 && bits hdr 91 90 != 2)) = true := by
    rcases hps with h | h <;> simp [hok, h]
  have hwanted : ¬ ((!s.names i (bits hdr 191 128) part) = true ∨ x.source ≠ src ∨ x.complete = true ∨ pr.layers ≤ l
      ∨ cdiv cnt 16 ≤ q ∨ (s.pidAt i l q).isSome = true) := by
    simp [hname, hsrc, hpartial, hl, hq, hnew]
  have hrow : exec (.moveObject src part hdr data crc) s = execMoveObject src part hdr data crc s := rfl
  subst asked cnt q l i
  simp only [hrow, execMoveObject, if_neg hgood, hx, hpr, if_neg hwanted]
  refine ⟨fun hv hfew => ?_, fun hv hthird => ?_, fun p s1 hv hobj hstage => ?_⟩
  · simp only [if_pos (beq_iff_eq.mpr hv), if_neg (Nat.not_le.mpr hfew)]
  · simp only [if_pos (beq_iff_eq.mpr hv), if_pos hthird]
  · simp only [if_neg (fun h => hv (beq_iff_eq.mp h)), hobj, hstage]

/-! ### RESEND, REFUSE and GUEST, at the source (R126) -/

/-- A message that answers the move is not passed over. -/
theorem moveAsked_tested {op : Nat} (h : Claim.MoveAsked s op src part hdr r) :
    ¬ ((!s.names (hIdx (bits hdr 255 192)) (bits hdr 255 192) part) = true ∨ r.half = true ∨ r.target ≠ src ∨ (!r.offered) = true) := by
  obtain ⟨-, -, hname, hhalf, htarget, hoffered⟩ := h
  simp [hname, hhalf, htarget, hoffered]

theorem moveResends_holds : Claim.moveResends := by
  intro s src part hdr r h i k r1
  have ⟨hok, hmove, _⟩ := h
  have hrow : exec (.moveResend src part hdr) s = .next (
      if 3 ≤ r.fails.getD k 0 + 1 then s.withdrawOffer i stCHECK none
      else ({ s with own := { s.own with moves := s.own.moves.put i r1 } } : State).sendObject i r1 (bits hdr 119 112)
        (bits hdr 111 92)) := by
    refine congrArg Host.Outcome.next ?_
    simp only [if_neg (moveOk_tested hok), hmove, if_neg (moveAsked_tested h)]
    rfl
  rw [hrow]
  exact ⟨fun hfew => by rw [if_neg (by omega)], fun hthird => by rw [if_pos (by omega)]⟩

theorem moveRefused_holds : Claim.moveRefused := by
  intro s src part hdr r h
  have ⟨hok, hmove, _⟩ := h
  refine congrArg Host.Outcome.next ?_
  simp only [if_neg (moveOk_tested hok), hmove, if_neg (moveAsked_tested h)]

theorem moveGuests_holds : Claim.moveGuests := by
  intro s src part hdr r h hfirst i r1 s1
  obtain ⟨hok, hmove, hname, hhalf, htarget, hoffered⟩ := h
  have hfresh : ¬ ((!s.names (hIdx (bits hdr 255 192)) (bits hdr 255 192) part) = true ∨ r.half = true ∨ r.target ≠ src
      ∨ (!r.offered) = true ∨ r.guest ≠ 0) := by
    simp [hname, hhalf, htarget, hoffered, hfirst]
  refine congrArg Host.Outcome.next ?_
  simp only [if_neg (moveOk_tested hok), hmove, if_neg hfresh]
  rfl

/-! ### RELAY and RELAY_ACK (R129) -/

theorem moveRelays_holds : Claim.moveRelays := by
  intro s src part crc ring hdr data c h q hok hv hrec hlen hfwd hpart
  have hgood : ¬ (!moveOk hdr 6 || verify data crc == .failed || !relayOk data) = true := by simp [hok, hv, hrec]
  have hrow : exec (.moveRelay src part hdr data crc) s = execMoveRelay src part hdr data crc s := rfl
  subst q h
  simp only [hrow, execMoveRelay, if_neg hgood, hfwd]
  refine ⟨fun hnext => ?_, fun hseen => ?_⟩
  · rw [if_neg (by omega), if_neg (by omega), if_pos hlen]
  · rw [if_neg (by omega), if_pos hseen]

theorem relayAcked_holds : Claim.relayAcked := by
  refine fun s src part hdr => ⟨fun hok => congrArg Host.Outcome.next (if_neg (moveOk_tested hok)), fun h q r hr => ?_⟩
  refine congrArg Host.Outcome.next ?_
  simp only [hr]

theorem moveDiscards_holds : Claim.moveDiscards := by
  intro s src part crc hdr data n i hbad hi
  simp only [List.mem_cons, Prod.mk.injEq, List.not_mem_nil, or_false] at hi
  rcases hi with ⟨rfl, rfl⟩ | ⟨rfl, rfl⟩ | ⟨rfl, rfl⟩ | ⟨rfl, rfl⟩ | ⟨rfl, rfl⟩ | ⟨rfl, rfl⟩ | ⟨rfl, rfl⟩ <;>
    exact congrArg Host.Outcome.next (if_pos (by simp [hbad]))

/-- Settles O15: the header, the copy kept here and the move under way pick the branch of each message. -/
theorem moveMessages : Obligations.MoveMessages :=
  ⟨moveFieldsStages_holds, moveObjects_holds, moveResends_holds, moveRefused_holds, moveGuests_holds, moveRelays_holds, relayAcked_holds,
    moveDiscards_holds⟩

end Sys2Proof.Machine
end

section
/-!
Round opens (R136 to R140), lane enables (R134), core sets (R151) and the Stop bath (R148, R149).
-/

namespace Sys2Proof.Machine

variable {s : State} {o : Origin} {src n h t hdr : Nat} {v : List Byte} {st : Step}

/-! ### ROUND_OPEN as it arrives (R136, R148) -/

theorem exec_roundOpen {hdr : BitVec 256} (hh : h < 2) : exec (.roundOpen h src hdr t) s = .next ((s.at t).openArrives h src hdr t) := by
  show execRoundOpen h src hdr t s = _
  rw [execRoundOpen, Nat.mod_eq_of_lt hh]

theorem exec_roundOpenAbandon {hdr : BitVec 256} (hh : h < 2) :
    exec (.roundOpenAbandon h src hdr t) s = .next ((s.at t).openArrives h src hdr t) := by
  show execRoundOpenAbandon h src hdr t s = _
  rw [execRoundOpenAbandon, Nat.mod_eq_of_lt hh]

theorem openTaken_lane {hdr : BitVec 256} (hopen : Claim.OpenTaken s h src n hdr) : bitsN hdr.toNat 181 179 = n := by
  obtain ⟨-, hlane, -⟩ := hopen
  exact hlane

/-- An open that nothing discards and no bath holds is taken under R137. -/
theorem State.openArrives_taken {hdr : BitVec 256} (hopen : Claim.OpenTaken s h src n hdr) :
    s.openArrives h src hdr t = (s.unlatch 0x2046 (256 * n + 1)).takeOpen h src hdr.toNat t := by
  obtain ⟨hok, hlane, hmask, hnew, hfree⟩ := hopen
  simp only [State.openArrives, hlane]
  rw [if_neg (by simp [hok]), if_neg (by simp [hmask]), if_neg (by simp [hnew]), if_neg (by simp [hfree])]

theorem State.openArrives_bad {hdr : BitVec 256} (hbad : openOk hdr = false) (hn : bitsN hdr.toNat 181 179 = n) :
    s.openArrives h src hdr t = if (s.discard 1 n src h).laneRests h n then s.discard 1 n src h
      else (s.discard 1 n src h).sendClose h n (bitsN hdr.toNat 255 192) (bitsN hdr.toNat 191 184) (bitsN hdr.toNat 183 182) 0 0 5 := by
  simp only [State.openArrives, hn]
  exact if_pos (by simp [hbad])

/-! ### The branches of R137 -/

/-- An enabled lane passes the first test of R137, whatever its step. -/
theorem laneOn_tested {stops : Prop} (hon : s.laneF n 1 = 1) : ¬ (s.laneF n 1 ≠ 1 ∧ stops) := fun hoff => hoff.1 hon

theorem State.takeOpen_otherProfile (hn : bitsN hdr 181 179 = n) (hon : s.laneF n 1 = 1) (hprof : bitsN hdr 178 173 ≠ s.laneF n 2) :
    s.takeOpen h src hdr t = s.refuseOpen h n (bitsN hdr 255 192) (bitsN hdr 191 184) (bitsN hdr 183 182) 3 := by
  simp only [State.takeOpen, hn]
  rw [if_neg (laneOn_tested hon), if_pos hprof]

/-- With no step in flight, an open of layer 0 above the last seq admits one (R139). -/
theorem State.takeOpen_admits (hn : bitsN hdr 181 179 = n) (hon : s.laneF n 1 = 1) (hprof : bitsN hdr 178 173 = s.laneF n 2)
    (hkind : bitsN hdr 183 182 = 0) (hlayer : bitsN hdr 191 184 = 0) (hstep : s.stepOf h n = none) (hfree : s.lanesHeld h = false)
    (hseq : ∀ y, (s.laneH h n).last = some y → y < bitsN hdr 255 192) :
    s.takeOpen h src hdr t = s.admitStep h n src t (bitsN hdr 255 192) (bitsN hdr 172 159) (bitsN hdr 158 135) := by
  have hnone : (s.laneH h n).step = none := hstep
  simp only [State.takeOpen, hn, hnone, hkind, hlayer]
  rw [if_neg (laneOn_tested hon), if_neg (not_not_intro hprof), if_neg (by decide), if_neg (by simp), if_neg (by simp [hfree])]
  cases hlast : (s.laneH h n).last with
  | none => simp
  | some y => exact if_neg (by simpa using hseq y hlast)

/-- An open of the next layer of the step in flight (R137, R140): held while its round is open or the bath holds rounds, else its
round begins. -/
theorem State.takeOpen_nextLayer (hn : bitsN hdr 181 179 = n) (hon : s.laneF n 1 = 1) (hprof : bitsN hdr 178 173 = s.laneF n 2)
    (hkind : bitsN hdr 183 182 = 0) (hst : (s.laneH h n).step = some st) (hseq : bitsN hdr 255 192 = st.seq)
    (hlayer : bitsN hdr 191 184 = st.layer + 1) (hmore : st.layer + 1 < s.laneLayers n) (hphase : st.selPhase = false)
    (hheld : (s.laneH h n).held = none) :
    s.takeOpen h src hdr t = if st.roundOpen ∨ s.roundHeld n then
        s.setLane h n { s.laneH h n with held := some { half := h, lane := n, src, hdr } }
      else s.startRound h n src t (st.layer + 1) false := by
  simp only [State.takeOpen, hn, hst, hkind, hlayer]
  rw [if_neg (laneOn_tested hon), if_neg (not_not_intro hprof), if_neg (by decide), if_neg (not_not_intro hseq), if_neg (by decide),
    if_neg (by simp [hheld]), if_neg (by simp [hphase, hmore])]
  rfl

/-- An open of kind 0b10 with the seq of the step in flight abandons it (R138). -/
theorem State.takeOpen_abandons (hn : bitsN hdr 181 179 = n) (hon : s.laneF n 1 = 1) (hprof : bitsN hdr 178 173 = s.laneF n 2)
    (hkind : bitsN hdr 183 182 = 2) (hst : (s.laneH h n).step = some st) (hseq : bitsN hdr 255 192 = st.seq) :
    s.takeOpen h src hdr t = s.commitStep h n true := by
  simp only [State.takeOpen, hn, hst, hkind]
  rw [if_neg (laneOn_tested hon), if_neg (not_not_intro hprof), if_neg (by decide), if_neg (not_not_intro hseq), if_pos trivial]

/-! ### The clauses of O17 -/

theorem openFirst_holds : Claim.openFirst := by
  intro s h src n t hdr hh x s1 hopen hon hprof hkind hlayer hstep hfree hseq
  rw [exec_roundOpen hh, State.openArrives_taken hopen,
    State.takeOpen_admits (openTaken_lane hopen) hon hprof hkind hlayer hstep hfree hseq]

theorem openNext_holds : Claim.openNext := by
  intro s h src n t hdr st hh x s1 hopen hon hprof hkind hst hseq hlayer hmore hphase hclosed hheld hrounds
  rw [exec_roundOpen hh, State.openArrives_taken hopen,
    State.takeOpen_nextLayer (openTaken_lane hopen) hon hprof hkind hst hseq hlayer hmore hphase hheld,
    if_neg (by simp [s1, hclosed, hrounds])]

theorem openHeld_holds : Claim.openHeld := by
  intro s h src n t hdr st hh x s1 hopen hon hprof hkind hst hseq hlayer hmore hphase hround hheld
  rw [exec_roundOpen hh, State.openArrives_taken hopen,
    State.takeOpen_nextLayer (openTaken_lane hopen) hon hprof hkind hst hseq hlayer hmore hphase hheld, if_pos (.inl hround)]

theorem openRefused_holds : Claim.openRefused := by
  intro s h src n t hdr hh x s1 hopen hon hprof
  rw [exec_roundOpen hh, State.openArrives_taken hopen, State.takeOpen_otherProfile (openTaken_lane hopen) hon hprof]

theorem openBad_holds : Claim.openBad := by
  intro s h src t hdr hh hbad x n d
  rw [exec_roundOpen hh, State.openArrives_bad hbad rfl]

theorem openAbandons_holds : Claim.openAbandons := by
  intro s h src n t hdr st hh x s1 hopen hon hprof hkind hst hseq
  rw [exec_roundOpenAbandon hh, State.openArrives_taken hopen, State.takeOpen_abandons (openTaken_lane hopen) hon hprof hkind hst hseq]

/-- Settles O17: the header, the lane and its step in flight pick the branch of R137. -/
theorem roundOpens : Obligations.RoundOpens :=
  ⟨openFirst_holds, openNext_holds, openHeld_holds, openRefused_holds, openBad_holds, openAbandons_holds⟩

/-! ### LANE_ENABLE_WRITE (R134) -/

theorem exec_laneEnableWrite (hn : n < 8) :
    exec (.laneEnableWrite o n v) s = .next (s.writeRow o (0x2210 + n) 1 v (fun s => s.laneWrite n v)) := by
  show execLaneEnableWrite o n v s = _
  rw [execLaneEnableWrite, Nat.mod_eq_of_lt hn]

theorem State.laneWrite_enables (hv : leNat v = 1) (hoff : s.laneF n 1 ≠ 1) (hmask : s.laneF n 3 ≠ 0)
    (hprof : (s.laneProf n).isSome = true) : s.laneWrite n v = .ok ((s.dset (0x2210 + n) 1 v).startLane n) := by
  rw [State.laneWrite, if_pos hv, if_neg hoff, if_neg (by simp [hmask, Option.isSome_iff_ne_none.mp hprof])]

theorem State.laneWrite_disables (hv : leNat v ≠ 1) (hon : s.laneF n 1 ≠ 0) :
    s.laneWrite n v = .ok ((s.dset (0x2210 + n) 1 v).stopLane n) := by
  rw [State.laneWrite, if_neg hv, if_neg hon]

theorem State.laneWrite_refuses (hv : leNat v = 1) (hoff : s.laneF n 1 ≠ 1) (hbare : s.laneF n 3 = 0 ∨ s.laneProf n = none) :
    s.laneWrite n v = .error wRefused := by
  rw [State.laneWrite, if_pos hv, if_neg hoff, if_pos (by simpa using hbare)]

theorem laneWrites_holds : Claim.laneWrites := by
  intro s o n v hn
  rw [exec_laneEnableWrite hn]
  refine ⟨fun hw hv hoff hmask hprof => ?_, fun hw hv hon => ?_, fun ⟨hawake, hmode, hcheck⟩ hv hoff hbare => ?_⟩
  · exact congrArg Host.Outcome.next (writeRow_eq hw (State.laneWrite_enables hv hoff hmask hprof))
  · exact congrArg Host.Outcome.next (writeRow_eq hw (State.laneWrite_disables hv hon))
  · exact congrArg Host.Outcome.next (writeRow_err hawake hmode hcheck (State.laneWrite_refuses hv hoff hbare))

/-! ### The Stop bath (R148, R149, R283) -/

/-- What lets a write to 0x2200.03 through: lanes named, and neither a checkpoint nor maintenance state holding the bath. -/
abbrev State.BathFree (s : State) : Prop :=
  s.dval 0x2200 4 ≠ 0 ∧ s.sched.bath.ckpt = false ∧ s.maint.st ≠ 1 ∧ s.maint.st ≠ 2

/-- A write of a valid level to a free bath passes the refusal of R148. -/
theorem State.BathFree.tested (hfree : s.BathFree) (hv : leNat v ≤ 2) :
    ¬ (2 < leNat v ∨ s.dval 0x2200 4 = 0 ∨ s.sched.bath.ckpt = true ∨ s.maint.st = 1 ∨ s.maint.st = 2) := by
  obtain ⟨hlanes, hckpt, hmaint1, hmaint2⟩ := hfree
  simp [hlanes, hckpt, hmaint1, hmaint2, hv]

theorem State.bathWrite_starts (hfree : s.BathFree) (hlevel : s.sched.bath.level = 0) (hv : leNat v = 1 ∨ leNat v = 2) :
    s.bathWrite v = .ok ((s.dset 0x2200 3 v).setBath (leNat v) (s.dval 0x2200 4) false) := by
  rw [State.bathWrite, if_neg (hfree.tested (by omega)), if_neg (by omega), if_pos hlevel]

theorem State.bathWrite_toStep (hfree : s.BathFree) (hlevel : s.sched.bath.level = 1) (hv : leNat v = 2) :
    s.bathWrite v = .ok (s.dset 0x2200 3 v).bathToStep := by
  rw [State.bathWrite, if_neg (hfree.tested hv.le), if_neg (by omega), if_neg (by omega), if_neg (by omega), if_pos hv]

theorem State.bathWrite_toRound (hfree : s.BathFree) (hlevel : s.sched.bath.level = 2) (hv : leNat v = 1) :
    s.bathWrite v = .ok { s.dset 0x2200 3 v with sched := { (s.dset 0x2200 3 v).sched with
      bath := { (s.dset 0x2200 3 v).sched.bath with level := 1, quiet := false } } } := by
  rw [State.bathWrite, if_neg (hfree.tested (by omega)), if_neg (by omega), if_neg (by omega), if_neg (by omega), if_neg (by omega)]

theorem State.bathWrite_ends (hfree : s.BathFree) (hlevel : s.sched.bath.level ≠ 0) (hv : leNat v = 0) :
    s.bathWrite v = .ok (s.dset 0x2200 3 v).endBath := by
  rw [State.bathWrite, if_neg (hfree.tested (by omega)), if_pos hv, if_neg hlevel]

theorem State.bathWrite_refuses (hheld : s.dval 0x2200 4 = 0 ∨ s.sched.bath.ckpt = true) : s.bathWrite v = .error wRefused := by
  rw [State.bathWrite, if_pos (by tauto)]

theorem bathWrites_holds : Claim.bathWrites := by
  intro s o v b s1 hw hlanes hckpt hmaint1 hmaint2
  have hfree : s.BathFree := ⟨hlanes, hckpt, hmaint1, hmaint2⟩
  exact ⟨fun hlevel hv => congrArg Host.Outcome.next (writeRow_eq hw (State.bathWrite_starts hfree hlevel hv)),
    fun hlevel hv => congrArg Host.Outcome.next (writeRow_eq hw (State.bathWrite_toStep hfree hlevel hv)),
    fun hlevel hv => congrArg Host.Outcome.next (writeRow_eq hw (State.bathWrite_toRound hfree hlevel hv)),
    fun hlevel hv => congrArg Host.Outcome.next (writeRow_eq hw (State.bathWrite_ends hfree hlevel hv))⟩

theorem bathRefused_holds : Claim.bathRefused := fun _ _ _ ⟨hawake, hmode, hcheck⟩ hheld =>
  congrArg Host.Outcome.next (writeRow_err hawake hmode hcheck (State.bathWrite_refuses hheld))

theorem bathLate_holds : Claim.bathLate := fun _ =>
  ⟨fun hlevel hbusy => congrArg Host.Outcome.next (if_neg (by simp [hlevel, hbusy])),
    fun hquiet => congrArg Host.Outcome.next (if_pos (.inr hquiet))⟩

/-! ### CORE_SET_WRITE (R151, R366) -/

theorem exec_coreSetWrite {p sub : Nat} (hp : p < 64) :
    exec (.coreSetWrite o p sub v) s = .next (s.writeRow o (0x2240 + p) sub v (fun s => s.coreSetWrite p sub v)) := by
  show execCoreSetWrite o p sub v s = _
  rw [execCoreSetWrite, Nat.mod_eq_of_lt hp]

theorem coreSets_holds : Claim.coreSets := by
  intro s o p sub v hp s1
  rw [exec_coreSetWrite hp]
  refine ⟨fun hw happart => ?_, fun ⟨hawake, hmode, hcheck⟩ hshared => ?_⟩
  · have hown : s.coreSetWrite p sub v = .ok ((s1.coreSetsTold.kick 0 s.ns).kick 1 s.ns) :=
      if_neg (by simpa [Bool.and_eq_false_imp] using happart)
    exact congrArg Host.Outcome.next (writeRow_eq hw hown)
  · have hown : s.coreSetWrite p sub v = .error wRefused := if_pos (Bool.and_eq_true_iff.mp hshared)
    exact congrArg Host.Outcome.next (writeRow_err hawake hmode hcheck hown)

/-- Settles O16: the value written and what the lane, the bath or the core sets hold pick the branch of each write. -/
theorem lanesAndBath : Obligations.LanesAndBath :=
  ⟨laneWrites_holds, bathWrites_holds, bathRefused_holds, bathLate_holds, coreSets_holds⟩

end Sys2Proof.Machine
end

section
/-!
Profile, curve, decode and grammar table writes (R165, R173 to R175, R193, R194), text input (R182), host assists (R197, R198) and the hold
epoch of an index (R246).
-/

namespace Sys2Proof.Machine

variable {s : State} {o : Origin} {fn sq p i k id : Nat} {d : Desc} {c : Cmd} {v b : List Byte}

/-! ### PROFILE_LOAD and PROFILE_UNLOAD (R173, R174) -/

theorem exec_profileLoad (hp : p < 64) : exec (.profileLoad o p v) s = .next (s.profileRow o p v) := by
  show execProfileLoad o p v s = _
  rw [execProfileLoad, Nat.mod_eq_of_lt hp]

theorem exec_profileUnload (hp : p < 64) : exec (.profileUnload o p v) s = .next (s.profileRow o p v) := by
  show execProfileUnload o p v s = _
  rw [execProfileUnload, Nat.mod_eq_of_lt hp]

theorem State.profileWrite_loads (hv : leNat v = 1) (huse : s.profInUse p = false) (hgood : s.loadFault p = none) :
    s.profileWrite p v = .ok ((s.dset (0x2340 + p) 1 [1#8]).install p) := by
  simp [State.profileWrite, hv, huse, hgood]

theorem State.profileWrite_badCopy (hv : leNat v = 1) (huse : s.profInUse p = false) (hbad : s.loadFault p = some k) :
    s.profileWrite p v = .error (stTABLE, 0) := by
  simp [State.profileWrite, hv, huse, hbad]

theorem State.profileWrite_inUse (hv : leNat v = 1) (huse : s.profInUse p = true) : s.profileWrite p v = .error wDenied := by
  simp [State.profileWrite, hv, huse]

theorem State.profileWrite_unloads (hv : leNat v = 2) (huse : s.profInUse p = false) :
    s.profileWrite p v = .ok { s.dset (0x2340 + p) 1 [0#8] with profs := s.profs.del p } := by
  simp [State.profileWrite, hv, huse]

/-- Only a load that answers TABLE_INVALID raises event 0x2051 before it is answered. -/
theorem State.profileRow_quiet (htable : s.profileWrite p v ≠ .error (stTABLE, 0)) :
    s.profileRow o p v = s.writeRow o (0x2340 + p) 1 v (fun s => s.profileWrite p v) := by
  cases hown : s.profileWrite p v with
  | ok s1 => simp [State.profileRow, hown]
  | error e =>
    have he : e ≠ (stTABLE, 0) := fun he => htable (he ▸ hown)
    simp [State.profileRow, hown, he]

theorem State.profileRow_raises (hcheck : s.writeCheck o (0x2340 + p) 1 v = none) (htable : s.profileWrite p v = .error (stTABLE, 0))
    (hbad : s.loadFault p = some k) :
    s.profileRow o p v = (s.raise 0x2051 0 0 [p, k]).writeRow o (0x2340 + p) 1 v (fun s => s.profileWrite p v) := by
  simp [State.profileRow, hcheck, htable, hbad]

theorem profileWrites_holds : Claim.profileWrites := by
  intro s o p v hp
  rw [exec_profileLoad hp, exec_profileUnload hp]
  refine ⟨fun hw hv huse hgood => ?_, fun k hc hv huse hbad hc1 herr => ?_, fun hc hv huse => ?_, fun hw hv huse => ?_⟩
  · have hown := State.profileWrite_loads hv huse hgood
    rw [State.profileRow_quiet (by simp [hown]), writeRow_eq hw hown]
  · obtain ⟨_, _, hcheck⟩ := hc
    obtain ⟨hawake, hmode, hcheck1⟩ := hc1
    rw [State.profileRow_raises hcheck (State.profileWrite_badCopy hv huse hbad) hbad, writeRow_err hawake hmode hcheck1 herr]
  · obtain ⟨hawake, hmode, hcheck⟩ := hc
    have hown := State.profileWrite_inUse hv huse
    have hdenied : wDenied ≠ (stTABLE, 0) := by decide
    rw [State.profileRow_quiet (by simpa [hown] using hdenied)]
    exact congrArg Host.Outcome.next (writeRow_err hawake hmode hcheck hown)
  · have hown := State.profileWrite_unloads hv huse
    rw [State.profileRow_quiet (by simp [hown]), writeRow_eq hw hown]

/-! ### CURVE_WRITE and DECODE_TABLE_WRITE (R165, R175) -/

theorem exec_curveWrite (hid : id < 16) :
    exec (.curveWrite o id v) s = .next (s.writeRow o 0x2390 (1 + id) v (fun s => s.curveWrite id v)) := by
  show execCurveWrite o id v s = _
  rw [execCurveWrite, Nat.mod_eq_of_lt hid]

theorem exec_decodeTableWrite (hid : id < 16) :
    exec (.decodeTableWrite o id v) s = .next (s.writeRow o 0x2380 (1 + id) v (fun s => s.tabWrite id v)) := by
  show execDecodeTableWrite o id v s = _
  rw [execDecodeTableWrite, Nat.mod_eq_of_lt hid]

/-- A value that is empty, or that passes its test, is not a faulty one. -/
theorem not_faulty {good : Bool} (hgood : v.isEmpty = true ∨ good = true) : ¬ ((!v.isEmpty) = true ∧ (!good) = true) := by
  rcases hgood with h | h <;> simp [h]

theorem State.curveWrite_stores (hfree : s.curveNamed id = false) (hgood : v.isEmpty = true ∨ curveOk v = true) :
    s.curveWrite id v = .ok (s.dset 0x2390 (1 + id) v) := by
  rw [State.curveWrite, if_neg (by simp [hfree]), if_neg (not_faulty hgood)]

theorem State.tabWrite_stores (hfree : s.tabNamed id = false) (hgood : v.isEmpty = true ∨ tabOk 512 v = true) :
    s.tabWrite id v = .ok (s.dset 0x2380 (1 + id) v) := by
  rw [State.tabWrite, if_neg (by simp [hfree]), if_neg (not_faulty hgood)]

theorem curveStores_holds : Claim.curveStores := by
  intro s o id v hid hw hfree hgood
  rw [exec_curveWrite hid, writeRow_eq hw (State.curveWrite_stores hfree hgood)]

theorem decodeTableStores_holds : Claim.decodeTableStores := by
  intro s o id v hid hw hfree hgood
  rw [exec_decodeTableWrite hid, writeRow_eq hw (State.tabWrite_stores hfree hgood)]

/-! ### TEXT_TABLE_WRITE of a grammar (R193, R194) -/

theorem tableIndex_grammar (hid : id < 64) : tableIndex 1 id = 0x5040 + id := by
  rw [tableIndex, if_neg (by decide), if_pos rfl, Nat.mod_eq_of_lt hid]

/-- A good grammar for an empty entry that no request names is stored with its owner. -/
theorem State.textTable_grammar (hid : id < 64) (hempty : s.dbytes (0x5040 + id) 1 = []) (hfree : s.naming 1 id = 0) (hv : v ≠ [])
    (hgood : grammarCheck v = none) :
    s.textTable o 1 id v = .ok ((s.dset (0x5040 + id) 1 v).dset (0x5040 + id) 4 (leBytes 1 (s.whoOf o).owner)) := by
  have hcheck : textCheck 1 v = none := hgood
  simp [State.textTable, tableIndex_grammar hid, hempty, hfree, hv, hcheck]

/-- A table that its own rule takes is neither counted as refused nor raised. -/
theorem State.textTableRow_ok {kind : Nat} {s1 : State} (hown : s.textTable o kind id v = .ok s1) :
    s.textTableRow o kind id v = s.writeRow o (tableIndex kind id) 1 v (fun s => s.textTable o kind id v) := by
  simp [State.textTableRow, hown]

theorem grammarStores_holds : Claim.grammarStores := by
  intro s o id v hid hw hempty hfree hv hgood
  have hown := State.textTable_grammar (o := o) hid hempty hfree hv hgood
  show execTextTableWrite o 1 id v s = _
  rw [execTextTableWrite, State.textTableRow_ok hown, tableIndex_grammar hid, writeRow_eq hw hown]

/-! ### TEXT_MORE (R182) -/

theorem exec_textMore {input : Option (List Byte)} (ht : TakenSess (s.dmaFrom fn input) 0x30 fn d false false p)
    (hst : ((s.dmaFrom fn input).ent (hIdx (dHnd d))).state ≠ .expired) (hpos : 0 < dFld d 223 192) (hmax : dFld d 223 192 ≤ 16777216) :
    exec (.textMore fn sq d input) s = .next ((s.dmaFrom fn input).textMoreCmd ((s.dmaFrom fn input).cmdOf fn sq d false)
      (hIdx (dHnd d)) d input) := by
  have hfields : (decide (16777216 < dFld d 223 192) || (dFld d 223 192 == 0 && dFlag d 24)) = false := by
    simp [hmax, hpos.ne']
  show execTextMore fn sq d input s = _
  simp only [execTextMore, hfields, takeSessC_eq ht]

/-- A request that collects text in the SC2 takes a read buffer that still fits its input. -/
theorem State.textMoreCmd_takes {r : Request} (hcol : s.collecting i = some (k, r))
    (hwait : s.sess.exs.any (fun x => x.slot == k && x.func == 1) = false) (hpos : 0 < dFld d 223 192)
    (hmax : r.inBytes + dFld d 223 192 ≤ s.dval 0x5000 3) (htok : r.tok = false) (hhost : r.tokHost = false) :
    s.textMoreCmd c i d (some b) = (s.doneSess c i stOK 0 (dFld d 223 192)).takeInput k (dFld d 191 128) (dFld d 223 192)
      (fitBytes (dFld d 223 192) b) (!dFlag d 24) := by
  simp only [State.textMoreCmd, hcol, hwait, htok, hhost]
  rw [if_neg (by simpa using hmax), if_neg (by omega)]
  rfl

theorem State.textMoreCmd_idle {input : Option (List Byte)} (hcol : s.collecting i = none) :
    s.textMoreCmd c i d input = s.refuse c stBAD dRANGE := by
  simp only [State.textMoreCmd, hcol]

theorem textMoreTakes_holds : Claim.textMoreTakes := by
  intro s fn sq d input p s1 c i n ht hst hpos hmax
  rw [exec_textMore ht hst hpos hmax]
  refine ⟨fun k r b hcol hwait hroom htok hhost hin => ?_, fun hcol => congrArg Host.Outcome.next (State.textMoreCmd_idle hcol)⟩
  subst hin
  exact congrArg Host.Outcome.next (State.textMoreCmd_takes hcol hwait hpos hroom htok hhost)

/-! ### ASSIST_POST and ASSIST_EXCHANGE (R197, R198) -/

theorem assistPosts_holds : Claim.assistPosts := by
  intro s fn sq d p ht halign hmin hmax
  show execAssistPost fn sq d s = _
  rw [execAssistPost, take_eq ht, State.assistPostCmd, if_neg (by omega)]

theorem exec_assistExchange_none {xid : Nat} (hnone : s.sess.exs.find? (fun x => x.xid == xid && !x.sent) = none) :
    exec (.assistExchange xid) s = .next s := by
  show execAssistExchange xid s = _
  simp only [execAssistExchange, hnone]

theorem exec_assistExchange_some {xid : Nat} {x : Exch} (hsome : s.sess.exs.find? (fun x => x.xid == xid && !x.sent) = some x) :
    exec (.assistExchange xid) s = .next (s.writeExch x s.sess.bufs) := by
  show execAssistExchange xid s = _
  simp only [execAssistExchange, hsome]

theorem assistWrites_holds : Claim.assistWrites := by
  intro s xid found
  refine ⟨fun hnone => exec_assistExchange_none hnone, fun x a t hsome hbufs hpart hfits => ?_⟩
  have htaken : s.sess.bufs.erase a = t := by rw [hbufs, List.erase_cons_head]
  rw [exec_assistExchange_some hsome, hbufs]
  simp only [State.writeExch, htaken]
  rw [if_neg (not_not_intro hpart), if_neg (by omega)]

/-! ### ASSIST_REPLY (R198) -/

theorem exec_assistReply {reply : Option (List Byte)} (ht : dHnd d = 0 ∧ Taken (s.dmaFrom fn reply) 0x32 fn d p
      ∨ dHnd d ≠ 0 ∧ TakenSess (s.dmaFrom fn reply) 0x32 fn d false false p) :
    exec (.assistReply fn sq d reply) s =
      .next ((s.dmaFrom fn reply).replyCmd ((s.dmaFrom fn reply).cmdOf fn sq d false) p d reply) := by
  show execAssistReply fn sq d reply s = _
  rcases ht with ⟨hnone, ht⟩ | ⟨hsess, ht⟩
  · rw [execAssistReply, if_pos hnone, take_eq ht]
  · rw [execAssistReply, if_neg hsess, takeSessC_eq ht]

/-- The exchange that a reply of partition `p` answers. -/
abbrev State.awaitedExch (s : State) (p : Nat) (d : Desc) : Option Exch :=
  s.sess.exs.find? (fun x => x.xid == dFld d 255 224 && x.handle == dHnd d && x.part == p && x.sent)

theorem State.replyCmd_none {reply : Option (List Byte)} (hnone : s.awaitedExch p d = none) :
    s.replyCmd c p d reply = (s.count 0x8500 9 1).send c ((s.count 0x8500 9 1).seenComp c stOK 0 0) := by
  simp only [State.replyCmd, hnone]

theorem State.replyCmd_applies {x : Exch} (hsome : s.awaitedExch p d = some x) (hlen : s.replyShort x (dFld d 223 192) = false)
    (hcrc : crc32c (fitBytes (dFld d 223 192) b) = dFld d 287 256) (hrange : s.replyRange x (fitBytes (dFld d 223 192) b) = false) :
    s.replyCmd c p d (some b) = State.send ((s.dropExch x).applyReply x (fitBytes (dFld d 223 192) b)) c
      (((s.dropExch x).applyReply x (fitBytes (dFld d 223 192) b)).seenComp c stOK 0 1) := by
  simp only [State.replyCmd, hsome]
  rw [if_neg (by simp [hlen]), if_neg (not_not_intro hcrc), if_neg (by simp [hrange])]

theorem assistReplies_holds : Claim.assistReplies := by
  intro s fn sq d reply p s1 c found ht
  rw [exec_assistReply ht]
  refine ⟨fun hnone => congrArg Host.Outcome.next (State.replyCmd_none hnone), ?_⟩
  rintro x b0 hsome hlen rfl b hcrc hrange
  exact congrArg Host.Outcome.next (State.replyCmd_applies hsome hlen hcrc hrange)

/-! ### HOLD_EPOCH_WRITE (R246) -/

theorem exec_holdEpochWrite (hi : i < 64) :
    exec (.holdEpochWrite o i v) s = .next (s.writeRow o (0x5340 + i) 8 v (fun s => s.holdEpoch i v)) := by
  show execHoldEpochWrite o i v s = _
  rw [execHoldEpochWrite, Nat.mod_eq_of_lt hi]

theorem State.holdEpoch_takes {y : VIndex} (hy : s.vec.idx.get? i = some y) (hv : leNat v = noEpoch
      ∨ s.vecF i 8 = noEpoch ∧ leNat v = y.epoch ∨ s.vecF i 8 ≠ noEpoch ∧ s.vecF i 8 ≤ leNat v ∧ leNat v ≤ y.epoch) :
    s.holdEpoch i v = .ok (s.dset (0x5340 + i) 8 v) := by
  rcases hv with hend | ⟨hfree, hnew⟩ | ⟨hheld, hlow, hhigh⟩
  · simp [State.holdEpoch, hend]
  · simp [State.holdEpoch, hy, hfree, hnew]
  · simp [State.holdEpoch, hy, hheld, hlow, hhigh]

theorem State.holdEpoch_refuses {y : VIndex} (hy : s.vec.idx.get? i = some y) (hv : leNat v ≠ noEpoch) (hheld : s.vecF i 8 ≠ noEpoch)
    (hback : leNat v < s.vecF i 8) : s.holdEpoch i v = .error wRefused := by
  simp [State.holdEpoch, hy, hv, hheld, hback]

theorem holdWrites_holds : Claim.holdWrites := by
  intro s o i v y hi hy
  rw [exec_holdEpochWrite hi]
  refine ⟨fun hw hv => ?_, fun ⟨hawake, hmode, hcheck⟩ hv hheld hback => ?_⟩
  · rw [writeRow_eq hw (State.holdEpoch_takes hy hv)]
  · exact congrArg Host.Outcome.next (writeRow_err hawake hmode hcheck (State.holdEpoch_refuses hy hv hheld hback))

/-- Settles O19: each table's own rule, the request that collects input, the buffers posted and the exchange that a reply names pick the
branch of each command. -/
theorem tablesAndText : Obligations.TablesAndText :=
  ⟨profileWrites_holds, curveStores_holds, decodeTableStores_holds, grammarStores_holds, textMoreTakes_holds, assistPosts_holds,
    assistReplies_holds, holdWrites_holds, assistWrites_holds⟩

end Sys2Proof.Machine
end

section
/-!
The embedding messages of peers (R226, R227, R229, R230), fills, evictions and sketch halving (R221, R223, R224), and the embedding commands of
the host (R218, R219, R231, R233).
-/

namespace Sys2Proof.Machine

variable {s : State} {o : Origin} {src part t i k crc kind w msub fn sq p op : Nat} {g : EmbTag} {hdr : BitVec 192}
  {data v b : List Byte} {d : Desc} {c : Cmd} {idx : List Nat}

/-! ### What an embedding message or command passes before it is served (R226, R233) -/

/-- The position of the first of the indices `idx` that table `t` does not have. -/
abbrev State.firstOutOfRange (s : State) (t : Nat) (idx : List Nat) : Option Nat := idx.findIdx? (fun i => decide (s.embF t 3 ≤ i))

/-- The position of the first of the rows `idx` of table `t` that has no slot and whose tail's lease has lapsed. -/
abbrev State.firstLapsed (s : State) (t : Nat) (idx : List Nat) : Option Nat :=
  idx.findIdx? (fun i => (s.embSlot t i).isNone && (granSpan (s.tailAt t i) (s.embStride t)).any (fun g =>
    ((s.gran g).map (fun x => s.lapsed (granPart g) x.handle)).getD false))

theorem embTaken_table (htaken : Claim.EmbTaken s src part t hdr data crc kind w msub) : bits hdr 91 86 = t := by
  obtain ⟨htable, -⟩ := htaken
  exact htable

theorem embTaken_good (htaken : Claim.EmbTaken s src part t hdr data crc kind w msub) : verify data crc = .good := by
  obtain ⟨-, -, hgood, -⟩ := htaken
  exact hgood

/-- A message that passes every test of R226 is served by its own rule. -/
theorem State.embMsg_taken {serve : State → Nat → Nat → State} (htaken : Claim.EmbTaken s src part t hdr data crc kind w msub) :
    s.embMsg src part hdr data crc kind w msub serve = serve s t (bits hdr 85 70) := by
  obtain ⟨htable, hok, hgood, hload, hpart, hsender⟩ := htaken
  simp only [State.embMsg, htable]
  rw [if_neg (by simp [hok, hgood]), if_neg (by simp [hload]), if_neg (by simp [← hpart, hsender])]

theorem embCmd_taken (hcmd : Claim.EmbCmd s op fn d p t) : Taken s op fn d p := by
  obtain ⟨ht, -⟩ := hcmd
  exact ht

/-- A command that passes every test of R233, its fields good, is served by its own rule. -/
theorem State.embTake_taken {bad : Bool} {wait : Instr} {serve : Nat → State} (hcmd : Claim.EmbCmd s op fn d p t) (hfields : bad = false) :
    s.embTake c p d bad wait serve = serve t := by
  obtain ⟨-, htable, hpart, hdesc, hload, hbridge⟩ := hcmd
  simp only [State.embTake, htable]
  rw [if_neg (by simp [hfields]), if_neg (by simp [hpart, hdesc]), if_neg (by simp [hload]), if_neg (by simp [hbridge])]

/-! ### GATHER (R227) -/

/-- The rows of indices in range that fit one data block and need no bridge are gathered into one ROWS message. -/
theorem State.gatherMsg_reads (htaken : Claim.EmbTaken s src part t hdr data crc 1 4 0xC) (hfit : bits hdr 85 70 ≤ s.rowsMax t)
    (hidx : recIdx (bits hdr 85 70) 4 data = idx) (hwait : idx.any (s.readWaits t) = false) (hrange : s.firstOutOfRange t idx = none)
    (hread : (s.gatherRows t idx 0 Gathered.none_).2.failed = none) (hclean : (s.gatherRows t idx 0 Gathered.none_).2.poison = none) :
    s.gatherMsg src part hdr data crc = (s.gatherRows t idx 0 Gathered.none_).1.embAnswer src part 2 t (bits hdr 127 96) (bits hdr 85 70) 0 0
      (s.gatherRows t idx 0 Gathered.none_).2.data false := by
  rw [State.gatherMsg, State.embMsg_taken htaken]
  simp only [hidx, hrange, hread, hclean]
  rw [if_neg (by simp [embTaken_good htaken]), if_neg (by omega), if_neg (by simp [hwait])]

/-- An index out of range answers RANGE before any row is read. -/
theorem State.gatherMsg_outOfRange (htaken : Claim.EmbTaken s src part t hdr data crc 1 4 0xC)
    (hrange : s.firstOutOfRange t (recIdx (bits hdr 85 70) 4 data) = some k) :
    s.gatherMsg src part hdr data crc = s.embAnswer src part 2 t (bits hdr 127 96) 0 1 k [] false := by
  rw [State.gatherMsg, State.embMsg_taken htaken]
  simp only [hrange]
  rw [if_neg (by simp [embTaken_good htaken])]

theorem gathers_holds : Claim.gathers := fun _ _ _ _ _ _ _ htaken hfit hwait =>
  ⟨fun hrange hread hclean => congrArg Host.Outcome.next (State.gatherMsg_reads htaken hfit rfl hwait hrange hread hclean),
    fun _ hrange => congrArg Host.Outcome.next (State.gatherMsg_outOfRange htaken hrange)⟩

/-! ### ADD and SET (R229, R230) -/

theorem adds_holds : Claim.adds := by
  intro s src part t crc hdr data r htaken
  obtain rfl := embTaken_table htaken
  refine congrArg Host.Outcome.next ?_
  rw [State.addMsg, State.embMsg_taken htaken]
  exact if_neg (by simp [embTaken_good htaken])

/-- What R230 answers a set whose table is written and whose lane is enabled, the seq above the last committed. -/
def State.bufferSet (s : State) (src part t : Nat) (hdr : BitVec 192) (data : List Byte) : State :=
  let r := s.embSet t (bits hdr 85 70) (bits hdr 191 128) src data
  (if r.2.1 = 0 then r.1.unlatch 0x5023 src else r.1).embAnswer src part 5 t (bits hdr 127 96) (bits hdr 85 70) r.2.1 r.2.2 [] false

theorem State.bufferSet_taken (hroom : (s.embSet t (bits hdr 85 70) (bits hdr 191 128) src data).2.1 = 0) :
    s.bufferSet src part t hdr data =
      ((s.embSet t (bits hdr 85 70) (bits hdr 191 128) src data).1.unlatch 0x5023 src).embAnswer src part 5 t (bits hdr 127 96)
        (bits hdr 85 70) 0 (s.embSet t (bits hdr 85 70) (bits hdr 191 128) src data).2.2 [] false := by
  simp only [State.bufferSet, hroom, if_true]

/-- A set at or below the last committed seq is LATE. -/
theorem State.setMsg_late {m : Nat} (htaken : Claim.EmbTaken s src part t hdr data crc 4 (s.setRec t) 0xD) (hwr : s.embWr t = true)
    (hlane : s.embLane t = true) (hlast : s.lastSeq (s.embHome t) (s.embF t 0xB) = some m) (hlate : bits hdr 191 128 ≤ m) :
    s.setMsg src part hdr data crc = (s.raiseOnce 0x5023 src part (s.embHome t) ([t, src] ++ w2 (bits hdr 191 128))).embAnswer src part 5 t
      (bits hdr 127 96) 0 5 0 [] false := by
  obtain rfl := embTaken_table htaken
  rw [State.setMsg, State.embMsg_taken htaken]
  simp only [hlast]
  rw [if_neg (by simp [embTaken_good htaken]), if_neg (by simp [hwr]), if_neg (by simp [hlane]), if_pos hlate]

/-- A set above the last committed seq, or before the first commit, is buffered. -/
theorem State.setMsg_buffers (htaken : Claim.EmbTaken s src part t hdr data crc 4 (s.setRec t) 0xD) (hwr : s.embWr t = true)
    (hlane : s.embLane t = true) (hnew : ∀ m, s.lastSeq (s.embHome t) (s.embF t 0xB) = some m → m < bits hdr 191 128) :
    s.setMsg src part hdr data crc = s.bufferSet src part t hdr data := by
  obtain rfl := embTaken_table htaken
  rw [State.setMsg, State.embMsg_taken htaken, if_neg (by simp [embTaken_good htaken]), if_neg (by simp [hwr]), if_neg (by simp [hlane])]
  cases hlast : s.lastSeq (s.embHome (bits hdr 91 86)) (s.embF (bits hdr 91 86) 0xB) with
  | none => rfl
  | some m => exact if_neg (hnew m hlast).not_ge

theorem sets_holds : Claim.sets := fun _ _ _ _ _ _ _ htaken hwr hlane =>
  ⟨fun _ hlast hlate => congrArg Host.Outcome.next (State.setMsg_late htaken hwr hlane hlast hlate),
    fun hnew hroom => congrArg Host.Outcome.next ((State.setMsg_buffers htaken hwr hlane hnew).trans (State.bufferSet_taken hroom))⟩

/-! ### FILL_SWITCH, EVICTION_SWITCH and SKETCH_HALVING (R221, R223, R224) -/

/-- The row of a way being filled is copied from a tail that reads, and then takes the updates held for it. -/
theorem State.fillSwitch_fills (hslot : s.embSlot t i = some (k, g)) (hfilling : g.st = 1)
    (hreads : s.unreadable (s.tailAt t i) (s.embStride t) = false) (hbridge : (s.boot.bridge && s.tailInT2 t i) = false) :
    s.fillSwitch t i = ((s.heldFor t i).foldl (fun v u => v.applyAt u (v.slotAt t k))
      (((s.copyRow (s.tailAt t i) (s.slotAt t k) (s.embStride t)).dropHeld t i).setTag t k
        { g with st := 2, dirty := !(s.heldFor t i).isEmpty })).retryHeld t := by
  simp only [State.fillSwitch, hslot]
  rw [if_neg (not_not_intro hfilling), if_neg (by simpa using hbridge), if_neg (by simp [hreads])]

/-- A row that leaves its way: a DIRTY one is in its tail first, counted at 0x8520.04. -/
def State.evictRow (s : State) (t i k : Nat) (g : EmbTag) : State :=
  if g.dirty then (s.copyRow (s.slotAt t k) (s.tailAt t i) (s.embStride t)).count 0x8520 4 1 else s

/-- A way whose row made way for none is EMPTY after its eviction; the updates held stay while the tail is not in T1. -/
theorem State.evictionSwitch_empties (hslot : s.embSlot t i = some (k, g)) (hleaving : g.st = 3) (hnext : g.next = none)
    (houtside : ((s.evictRow t i k g).clearTag t k).wholeT1 (((s.evictRow t i k g).clearTag t k).tailAt t i)
      (((s.evictRow t i k g).clearTag t k).embStride t) = false) :
    s.evictionSwitch t i = ((s.evictRow t i k g).clearTag t k).retryHeld t := by
  simp only [State.evictRow] at houtside ⊢
  simp only [State.evictionSwitch, hslot, hnext]
  rw [if_neg (not_not_intro hleaving), if_neg (by simp [houtside])]

theorem fillSwitches_holds : Claim.fillSwitches := by
  intro s t i k g ht hslot hfilling hreads hbridge us s1
  show execFillSwitch t i s = _
  rw [execFillSwitch, Nat.mod_eq_of_lt ht, State.fillSwitch_fills hslot hfilling hreads hbridge]

theorem evictionSwitches_holds : Claim.evictionSwitches := by
  intro s t i k g ht hslot hleaving hnext s1 s2 houtside
  show execEvictionSwitch t i s = _
  rw [execEvictionSwitch, Nat.mod_eq_of_lt ht, State.evictionSwitch_empties hslot hleaving hnext houtside]
  rfl

theorem sketchHalves_holds : Claim.sketchHalves := by
  intro s h hh
  show execSketchHalving h s = _
  rw [execSketchHalving, Nat.mod_eq_of_lt hh, State.sketchHalving]

/-- Settles O20: what the message passes, the seq last committed and the state of the row's way pick the branch of each. -/
theorem embeddingMessages : Obligations.EmbeddingMessages :=
  ⟨gathers_holds, adds_holds, sets_holds, fillSwitches_holds, evictionSwitches_holds, sketchHalves_holds⟩

/-! ### EMB_TABLE_LOAD and EMB_TABLE_UNLOAD (R218, R219) -/

/-- Only a load that fails a check raises event 0x5020 before it is answered. -/
theorem State.embControlRow_quiet (hgood : leNat v = 1 → s.embLoadCheck t = none) :
    s.embControlRow o t v = s.writeRow o (0x5240 + t) 1 v (fun s => s.embControl t v) := by
  have hquiet : ((s.writeCheck o (0x5240 + t) 1 v).isNone && leNat v == 1 && !s.embLoaded t && (s.embLoadCheck t).isSome) = false := by
    by_cases hv : leNat v = 1
    · simp [hgood hv]
    · simp [hv]
  simp only [State.embControlRow, hquiet]
  rfl

theorem State.embControl_loads (hv : leNat v = 1) (hnew : s.embLoaded t = false) (hgood : s.embLoadCheck t = none) :
    s.embControl t v = .ok ((s.embLoadIt t).dsetN (0x5240 + t) 1 1) := by
  rw [State.embControl, if_pos hv, if_neg (by simp [hnew]), if_neg (by simp [hgood])]

theorem State.embControl_unloads (hv : leNat v ≠ 1) (hload : s.embLoaded t = true) :
    s.embControl t v = .ok ((s.embUnloadIt t).dsetN (0x5240 + t) 1 0) := by
  rw [State.embControl, if_neg hv, if_pos hload]

theorem exec_embTableLoad (ht : t < 64) : exec (.embTableLoad o t v) s = .next (s.embControlRow o t v) := by
  show execEmbTableLoad o t v s = _
  rw [execEmbTableLoad, Nat.mod_eq_of_lt ht]

theorem exec_embTableUnload (ht : t < 64) : exec (.embTableUnload o t v) s = .next (s.embControlRow o t v) := by
  show execEmbTableUnload o t v s = _
  rw [execEmbTableUnload, Nat.mod_eq_of_lt ht]

theorem embControls_holds : Claim.embControls := by
  intro s o t v ht hw
  rw [exec_embTableLoad ht, exec_embTableUnload ht]
  refine ⟨fun hv hnew hgood => ?_, fun hv hload => ?_⟩
  · rw [State.embControlRow_quiet (fun _ => hgood), writeRow_eq hw (State.embControl_loads hv hnew hgood)]
  · rw [State.embControlRow_quiet (fun hv1 => absurd hv1 hv), writeRow_eq hw (State.embControl_unloads hv hload)]

/-! ### EMB_GATHER (R233) -/

theorem exec_embGather {input : Option (List Byte)} (ht : Taken (s.dmaFrom fn input) 0x40 fn d p) : exec (.embGather fn sq d input) s =
    .next ((s.dmaFrom fn input).embGatherCmd ((s.dmaFrom fn input).cmdOf fn sq d false) p sq d input) := by
  show execEmbGather fn sq d input s = _
  rw [execEmbGather, take_eq ht]

theorem State.embGatherCmd_outOfRange (hcmd : Claim.EmbCmd s 0x40 fn d p t) (hfields : embBadN d = false)
    (hrange : s.firstOutOfRange t (recIdx (dFld d 284 272) 4 b) = some k) : s.embGatherCmd c p sq d (some b) = s.embDone c 1 k 0 := by
  rw [State.embGatherCmd, State.embTake_taken hcmd hfields]
  simp only [hrange]

/-- The rows of indices in range, their leases held and no bridge needed, are written to the host as one. -/
theorem State.embGatherCmd_writes (hcmd : Claim.EmbCmd s 0x40 fn d p t) (hfields : embBadN d = false) (hidx : recIdx (dFld d 284 272) 4 b = idx)
    (hrange : s.firstOutOfRange t idx = none) (hleased : s.firstLapsed t idx = none) (hwait : idx.any (s.readWaits t) = false)
    (hread : (s.gatherRows t idx 0 Gathered.none_).2.failed = none) (hclean : (s.gatherRows t idx 0 Gathered.none_).2.poison = none) :
    s.embGatherCmd c p sq d (some b) = ((s.gatherRows t idx 0 Gathered.none_).1.dmaTo c.fn c.gen (dFld d 255 192)
      (s.gatherRows t idx 0 Gathered.none_).2.data).embDone c 0 0 (dFld d 284 272) := by
  rw [State.embGatherCmd, State.embTake_taken hcmd hfields]
  simp only [hidx, hrange, hleased, hread, hclean]
  rw [if_neg (by simp [hwait])]

theorem embGathers_holds : Claim.embGathers := by
  intro s fn sq d b p t s1 c n idx r hcmd hfields
  rw [exec_embGather (embCmd_taken hcmd)]
  exact ⟨fun k hrange => congrArg Host.Outcome.next (State.embGatherCmd_outOfRange hcmd hfields hrange),
    fun hrange hleased hwait hread hclean =>
      congrArg Host.Outcome.next (State.embGatherCmd_writes hcmd hfields rfl hrange hleased hwait hread hclean)⟩

/-! ### EMB_ADD and EMB_SET (R229, R230, R233) -/

theorem exec_embAdd {input : Option (List Byte)} (ht : Taken (s.dmaFrom fn input) 0x41 fn d p) : exec (.embAdd fn sq d input) s =
    .next ((s.dmaFrom fn input).embAddCmd ((s.dmaFrom fn input).cmdOf fn sq d false) p sq d input) := by
  show execEmbAdd fn sq d input s = _
  rw [execEmbAdd, take_eq ht]

theorem exec_embSet {input : Option (List Byte)} (ht : Taken (s.dmaFrom fn input) 0x42 fn d p) : exec (.embSet fn sq d input) s =
    .next ((s.dmaFrom fn input).embSetCmd ((s.dmaFrom fn input).cmdOf fn sq d false) p sq d input) := by
  show execEmbSet fn sq d input s = _
  rw [execEmbSet, take_eq ht]

theorem State.embSetCmd_takes (hcmd : Claim.EmbCmd s 0x42 fn d p t) (hfields : embBadN d = false) (hwr : s.embWr t = true)
    (hlane : s.embLane t = true) : s.embSetCmd c p sq d (some b) = (s.embSet t (dFld d 284 272) 0 64 b).1.embDone c
      (s.embSet t (dFld d 284 272) 0 64 b).2.1 (s.embSet t (dFld d 284 272) 0 64 b).2.2 (dFld d 284 272) := by
  rw [State.embSetCmd, State.embTake_taken hcmd hfields]
  simp only [hwr, hlane]
  rfl

theorem embUpdates_holds : Claim.embUpdates := by
  intro s fn sq d b p t s1 c n hfields
  refine ⟨fun hcmd => ?_, fun hcmd hwr hlane => ?_⟩
  · rw [exec_embAdd (embCmd_taken hcmd), State.embAddCmd, State.embTake_taken hcmd hfields]
  · rw [exec_embSet (embCmd_taken hcmd), State.embSetCmd_takes hcmd hfields hwr hlane]

/-! ### EMB_REQUANT and EMB_FLUSH (R231, R233) -/

/-- Table `src` can be requantized into table `dst` for partition `p`, as R231 and R233 ask of the two. -/
structure State.RequantPair (s : State) (p src dst : Nat) : Prop where
  srcLoaded : s.embLoaded src = true
  dstLoaded : s.embLoaded dst = true
  srcOwner : s.embF src 0x11 = p
  dstOwner : s.embF dst 0x11 = p
  written : s.embWr dst = true
  srcFloats : s.embF src 5 ≤ 2
  dstCodes : 3 ≤ s.embF dst 5
  sameRows : s.embF src 3 = s.embF dst 3
  sameWidth : s.embF src 4 = s.embF dst 4

/-- A requantizing of rows that the pair has, on the chip and needing no bridge, recomputes them. -/
theorem State.requantCmd_recomputes (hn : dFld d 351 320 ≠ 0) (hpair : s.RequantPair p (dFld d 261 256) (dFld d 357 352))
    (hrows : dFld d 319 288 + dFld d 351 320 ≤ s.embF (dFld d 261 256) 3) (hchip : s.dval (0xA000 + p) 6 ≠ 1)
    {l : List Nat} (hl : (List.range (dFld d 351 320)).map (· + dFld d 319 288) = l)
    (hbridge : (s.boot.bridge && (s.embHome (dFld d 261 256) == 1 || s.embHome (dFld d 357 352) == 1 ||
      l.any (s.readWaits (dFld d 261 256)))) = false) :
    s.requantCmd c p sq d = (s.requantAll (dFld d 261 256) (dFld d 357 352) l).1.embDone c
      (s.requantAll (dFld d 261 256) (dFld d 357 352) l).2.1 (s.requantAll (dFld d 261 256) (dFld d 357 352) l).2.2 (dFld d 351 320) := by
  have hfit : ¬ (2 < s.embF (dFld d 261 256) 5 ∨ s.embF (dFld d 357 352) 5 < 3 ∨ s.embF (dFld d 261 256) 3 ≠ s.embF (dFld d 357 352) 3
      ∨ s.embF (dFld d 261 256) 4 ≠ s.embF (dFld d 357 352) 4 ∨ s.embF (dFld d 261 256) 3 < dFld d 319 288 + dFld d 351 320) := by
    have hfloats := hpair.srcFloats
    have hcodes := hpair.dstCodes
    simp only [← hpair.sameRows, ← hpair.sameWidth]
    omega
  simp only [State.requantCmd, hl]
  rw [if_neg hn, if_neg (by simp [hpair.srcLoaded, hpair.dstLoaded, hpair.srcOwner, hpair.dstOwner, hpair.written]), if_neg hfit,
    if_neg (by simp [hbridge]), if_neg hchip]

theorem embRequants_holds : Claim.embRequants := by
  intro s fn sq d p first n dst src ht hn hsrc hdst hsrcOwn hdstOwn hwr hfloats hcodes hrows hwidth hlast hchip hbridge
  have hpair : s.RequantPair p src dst := ⟨hsrc, hdst, hsrcOwn, hdstOwn, hwr, hfloats, hcodes, hrows, hwidth⟩
  show execEmbRequant fn sq d s = _
  rw [execEmbRequant, take_eq ht, State.requantCmd_recomputes hn hpair hlast hchip rfl hbridge]

theorem embFlushes_holds : Claim.embFlushes := by
  intro s fn sq d p t hcmd
  show execEmbFlush fn sq d s = _
  rw [execEmbFlush, take_eq (embCmd_taken hcmd), State.embFlushCmd, State.embTake_taken hcmd rfl]

/-- Settles O21: the table's checks, the indices and the two tables of a requantizing pick the branch of each command. -/
theorem embeddingCommands : Obligations.EmbeddingCommands :=
  ⟨embControls_holds, embGathers_holds, embUpdates_holds, embRequants_holds, embFlushes_holds⟩

end Sys2Proof.Machine
end

section
/-!
Agent memory search (R237, R244 to R247, R249, R252): what a vector command passes before it is served, queries and the ends of their scan
tasks, insertions, deletions, and the loads and unloads of an index.
-/

namespace Sys2Proof.Machine

variable {s : State} {o : Origin} {fn sq op p i e k core task : Nat} {d : Desc} {v b : List Byte} {c : Cmd} {y : VIndex}

/-! ### What a vector command passes before it is served (R252) -/

/-- A command that passes every test of R252, its fields good, is served by its own rule. -/
theorem State.vecTake_taken {lc bad : Bool} {w : Instr} {serve : Cmd → Nat → VIndex → State} (hcmd : Claim.VecCmd s op fn d p i y)
    (hfields : bad = false) : s.vecTake op fn sq d lc bad i w serve = serve (s.cmdOf fn sq d lc) p y := by
  obtain ⟨ht, hdesc, hpart, hindex, hloaded, hbridge⟩ := hcmd
  rw [State.vecTake, take_eq ht, if_neg (by simp [hfields]), if_neg (by simp [hdesc, hpart])]
  simp only [hindex]
  rw [if_neg (by simp [hloaded]), if_neg (by simp [hbridge])]

/-! ### VS_QUERY (R246, R247) -/

theorem exec_vsQuery {input : Option (List Byte)} (hcmd : Claim.VecCmd (s.dmaFrom fn input) 0x50 fn d p (dFld d 485 480) y)
    (hq : dFld d 191 128 % 8 = 0) (hr : dFld d 255 192 % 8 = 0) (hnum : dFlag d 26 = false) : exec (.vsQuery fn sq d input) s =
    .next ((s.dmaFrom fn input).vsQueryCmd ((s.dmaFrom fn input).cmdOf fn sq d (dFlag d 25)) p (dFld d 485 480) y d input) := by
  show execVsQuery fn sq d input s = _
  rw [execVsQuery, State.vecTake_taken hcmd (by simp [hq, hr, hnum])]

/-- The vector that a query of an index of descriptor `x` searches with (R239): normalised under cosine. -/
def VDesc.queryVector (x : VDesc) (b : List Byte) : List Nat :=
  if x.metric = 1 then vecNorm (elems 4 x.d b) else elems 4 x.d b

/-- The query that a VS_QUERY of epoch `e` admits (R240): every list ranked, none probed. -/
def State.newQuery (s : State) (c : Cmd) (p i e : Nat) (y : VIndex) (d : Desc) (b : List Byte) : VQuery :=
  { cmd := c, index := i, desc := d, half := y.home, part := p, q := (s.vdesc i).queryVector b, qe := e,
    ranking := s.rankLists (s.vdesc i) ((s.vdesc i).queryVector b), probed := 0, left := [], found := [], hostMode := s.split p 5, xid := none }

/-- Query `q` enters the index's sequence under the next number. -/
def State.admitQuery (s : State) (q : VQuery) : State :=
  { s with vec := { s.vec with queries := s.vec.queries.put s.vec.next q, next := s.vec.next + 1 } }

/-- A query of a finite vector, at an epoch it may name and over clean centroids, is admitted and probes its first lists. -/
theorem State.vsQueryCmd_probes (hlists : dFld d 511 496 + 1 ≤ (s.vdesc i).nlist) (hepoch : s.queryEpoch i y (dFld d 479 448) = some e)
    (hfinite : (elems 4 (s.vdesc i).d b).any (fun a => !ffinite a) = false)
    (hlength : (s.vdesc i).metric = 1 → vecSq (elems 4 (s.vdesc i).d b) % 2 ^ 31 ≠ 0)
    (hclean : s.poisoned (s.vdesc i).base (vecCent (s.vdesc i).nlist + 4 * (s.vdesc i).d * (s.vdesc i).nlist) = false) :
    s.vsQueryCmd c p i y d (some b) =
      (((s.admitQuery (s.newQuery c p i e y d b)).probe s.vec.next (s.newQuery c p i e y d b) (dFld d 511 496 + 1)).1.probed s.vec.next
        (s.vdesc i).nlist ((s.admitQuery (s.newQuery c p i e y d b)).probe s.vec.next (s.newQuery c p i e y d b) (dFld d 511 496 + 1)).2) := by
  have hvector : ¬ ((elems 4 (s.vdesc i).d b).any (fun a => !ffinite a) = true
      ∨ (s.vdesc i).metric = 1 ∧ vecSq (elems 4 (s.vdesc i).d b) % 2 ^ 31 = 0) := by
    rintro (hbad | ⟨hcosine, hzero⟩)
    · simp [hfinite] at hbad
    · exact hlength hcosine hzero
  simp only [State.vsQueryCmd, hepoch]
  rw [if_neg hlists.not_gt, if_neg hvector, if_neg (by simp [hclean])]
  rfl

theorem queries_holds : Claim.queries := by
  intro s fn sq d b p e y s1 i x v qv hcmd hq hr hnum hlists hepoch hfinite hlength hclean
  rw [exec_vsQuery hcmd hq hr hnum]
  exact congrArg Host.Outcome.next (State.vsQueryCmd_probes hlists hepoch hfinite hlength hclean)

/-! ### SCAN_TASK_FINISH (R249, R250) -/

theorem exec_scanTaskFinish (hcore : core < 256) : exec (.scanTaskFinish core task) s =
    .next (if (s.core core).run = some (.scan task) then (s.scanDone task).nextWork core s.ns else s) := by
  show execScanTaskFinish core task s = _
  rw [execScanTaskFinish, if_neg hcore.not_ge]

/-- The written slots that task `t` of query `q` covers (R249). -/
abbrev State.taskSlots (s : State) (t : VTask) (q : VQuery) : List Nat :=
  (List.range (min 1024 ((s.listRec (s.vdesc q.index) t.list).1 - t.first))).map (· + t.first)

/-- A task whose slots all read well is over: its slots are counted and its matches are the query's. -/
theorem State.scanDone_joins {t : VTask} {q : VQuery} {ms : List VMatch} (htask : s.vec.tasks.get? task = some t)
    (hquery : s.vec.queries.get? t.query = some q) (hscan : s.scanSlots q (s.vdesc q.index) t.list (s.taskSlots t q) [] = .ok ms) :
    s.scanDone task = (State.count { s with vec := { s.vec with tasks := s.vec.tasks.del task } } 0x8530 5 (s.taskSlots t q).length).probed
      t.query (s.vdesc q.index).nlist { q with left := q.left.filter (fun k => k != task), found := q.found ++ ms } := by
  simp only [State.scanDone, htask, hquery, hscan]

theorem scanEnds_holds : Claim.scanEnds := by
  intro s core task hcore
  rw [exec_scanTaskFinish hcore]
  refine ⟨fun hother => ?_, fun t q ms hrun htask hquery hscan => ?_⟩
  · rw [if_neg hother]
  · rw [if_pos hrun, State.scanDone_joins htask hquery hscan]

/-! ### VS_INSERT (R244) -/

theorem exec_vsInsert {input : Option (List Byte)} (hcmd : Claim.VecCmd (s.dmaFrom fn input) 0x51 fn d p (dFld d 261 256) y)
    (hpos : 0 < dFld d 284 272) (hmax : dFld d 284 272 ≤ 4096) (hsrc : dFld d 191 128 % 8 = 0) (hdst : dFld d 255 192 % 8 = 0) :
    exec (.vsInsert fn sq d input) s =
      .next ((s.dmaFrom fn input).insertCmd ((s.dmaFrom fn input).cmdOf fn sq d false) p (dFld d 261 256) y d input) := by
  show execVsInsert fn sq d input s = _
  rw [execVsInsert, State.vecTake_taken hcmd (by simp [hpos.ne', hmax, hsrc, hdst])]

/-- The records of a VS_INSERT's bytes `b`, those whose fields are in range. -/
abbrev State.insertRecs (s : State) (i n : Nat) (b : List Byte) : List VRec := ((List.range n).map (s.vecRecord (s.vdesc i) b)).filterMap id

/-- The records written in the slots `places` with insert epoch `e`, and that epoch published and counted. -/
def State.insertAt (s : State) (i n e : Nat) (b : List Byte) (places : List (Nat × Nat)) : State :=
  (((((s.insertRecs i n b).zip places).foldl (fun t r => t.writeItem (s.vdesc i) e r.1 r.2.2) s).publish i (s.vdesc i) e).count 0x8530 6 n).unlatch
    0x5032 i

/-- Records that are all in range and all find a slot are written, and their slots go to the host. -/
theorem State.insertCmd_writes {places : List (Nat × Nat)} (hepochs : y.epoch + 1 ≠ noEpoch)
    (hclean : s.poisoned (s.vdesc i).base ((s.vdesc i).headBytes b (dFld d 284 272)) = false)
    (hgood : ((List.range (dFld d 284 272)).map (s.vecRecord (s.vdesc i) b)).any (·.isNone) = false)
    (hplaces : s.placeRecs (s.vdesc i) (s.oldestEpoch i y) (s.insertRecs i (dFld d 284 272) b) 0 [] = .ok places) :
    s.insertCmd c p i y d (some b) = ((s.insertAt i (dFld d 284 272) (y.epoch + 1) b places).dmaTo c.fn c.gen (dFld d 255 192)
      (places.flatMap (fun a => leBytes 8 (a.1 * 2 ^ 32 + a.2)))).done c stOK 0 (y.epoch + 1) := by
  simp only [State.insertCmd, hplaces]
  rw [if_neg hepochs, if_neg (by simp [hclean]), if_neg (by simp [hgood])]
  rfl

theorem inserts_holds : Claim.inserts := by
  intro s fn sq d b p y places s1 c i n x rs hcmd hpos hmax hsrc hdst hepochs hclean hgood hplaces
  rw [exec_vsInsert hcmd hpos hmax hsrc hdst]
  exact congrArg Host.Outcome.next (State.insertCmd_writes hepochs hclean hgood hplaces)

/-! ### VS_DELETE (R245) -/

theorem exec_vsDelete {input : Option (List Byte)} (hcmd : Claim.VecCmd (s.dmaFrom fn input) 0x52 fn d p (dFld d 261 256) y)
    (hpos : 0 < dFld d 284 272) (hmax : dFld d 284 272 ≤ 4096) (hsrc : dFld d 191 128 % 8 = 0) : exec (.vsDelete fn sq d input) s =
      .next ((s.dmaFrom fn input).deleteCmd ((s.dmaFrom fn input).cmdOf fn sq d false) p (dFld d 261 256) y d input) := by
  show execVsDelete fn sq d input s = _
  rw [execVsDelete, State.vecTake_taken hcmd (by simp [hpos.ne', hmax, hsrc])]

/-- The `n` records of a VS_DELETE's bytes: id, list and slot. -/
abbrev deleteRecs (n : Nat) (b : List Byte) : List (Nat × Nat × Nat) :=
  (List.range n).map (fun k => (leAt b (16 * k) 8, leAt b (16 * k + 8) 4, leAt b (16 * k + 12) 4))

/-- Records that all name a live item of their own delete it at the next epoch. -/
theorem State.deleteCmd_deletes (hepochs : y.epoch + 1 ≠ noEpoch) (hclean : s.poisoned (s.vdesc i).base (vecCent (s.vdesc i).nlist) = false)
    (hgood : s.firstBad (s.vdesc i) (deleteRecs (dFld d 284 272) b) 0 [] = none) :
    s.deleteCmd c p i y d (some b) = ((((deleteRecs (dFld d 284 272) b).foldl (fun t r => t.deleteItem (s.vdesc i) (y.epoch + 1) r) s).publish i
      (s.vdesc i) (y.epoch + 1)).count 0x8530 7 (dFld d 284 272)).done c stOK 0 (y.epoch + 1) := by
  simp only [State.deleteCmd, hgood]
  rw [if_neg hepochs, if_neg (by simp [hclean])]

/-- A record out of range refuses the whole command at its position, before any item is deleted. -/
theorem State.deleteCmd_refuses (hepochs : y.epoch + 1 ≠ noEpoch) (hclean : s.poisoned (s.vdesc i).base (vecCent (s.vdesc i).nlist) = false)
    (hbad : s.firstBad (s.vdesc i) (deleteRecs (dFld d 284 272) b) 0 [] = some (k, 1)) :
    s.deleteCmd c p i y d (some b) = (s.count 0x8200 7 1).done c stBAD dRANGE k := by
  simp only [State.deleteCmd, hbad]
  rw [if_neg hepochs, if_neg (by simp [hclean])]

theorem deletes_holds : Claim.deletes := by
  intro s fn sq d b p y s1 c i n x rs hcmd hpos hmax hsrc hepochs hclean
  rw [exec_vsDelete hcmd hpos hmax hsrc]
  exact ⟨fun hgood => congrArg Host.Outcome.next (State.deleteCmd_deletes hepochs hclean hgood),
    fun k hbad => congrArg Host.Outcome.next (State.deleteCmd_refuses hepochs hclean hbad)⟩

/-! ### INDEX_LOAD and INDEX_UNLOAD (R237) -/

/-- Only a load that fails a check raises event 0x5030 before it is answered. -/
theorem State.vecControlRow_quiet (hgood : leNat v = 1 → s.vecLoadCheck i = none) :
    s.vecControlRow o i v = s.writeRow o (0x5340 + i) 1 v (fun s => s.vecControl i v) := by
  have hquiet : ((s.writeCheck o (0x5340 + i) 1 v).isNone && leNat v == 1 && !s.vec.idx.has i && (s.vecLoadCheck i).isSome) = false := by
    by_cases hv : leNat v = 1
    · simp [hgood hv]
    · simp [hv]
  simp only [State.vecControlRow, hquiet]
  rfl

theorem State.vecControl_loads (hv : leNat v = 1) (hnew : s.vec.idx.has i = false) (hgood : s.vecLoadCheck i = none) :
    s.vecControl i v = .ok (s.vecLoadIt i) := by
  simp only [State.vecControl, hgood]
  rw [if_pos hv, if_neg (by simp [hnew])]

theorem State.vecControl_unloads (hv : leNat v ≠ 1) (hloaded : s.vec.idx.has i = true) : s.vecControl i v = .ok (s.vecUnloadIt i) := by
  rw [State.vecControl, if_neg hv, if_pos hloaded]

theorem exec_indexLoad (hi : i < 64) : exec (.indexLoad o i v) s = .next (s.vecControlRow o i v) := by
  show execIndexLoad o i v s = _
  rw [execIndexLoad, Nat.mod_eq_of_lt hi]

theorem exec_indexUnload (hi : i < 64) : exec (.indexUnload o i v) s = .next (s.vecControlRow o i v) := by
  show execIndexUnload o i v s = _
  rw [execIndexUnload, Nat.mod_eq_of_lt hi]

theorem indexControls_holds : Claim.indexControls := by
  intro s o i v hi hw
  rw [exec_indexLoad hi, exec_indexUnload hi]
  refine ⟨fun hv hnew hgood => ?_, fun hv hloaded => ?_⟩
  · rw [State.vecControlRow_quiet (fun _ => hgood), writeRow_eq hw (State.vecControl_loads hv hnew hgood)]
  · rw [State.vecControlRow_quiet (fun hv1 => absurd hv1 hv), writeRow_eq hw (State.vecControl_unloads hv hloaded)]

/-- Settles O22: the index's checks, the record that fails, the task that the core runs and the index's load pick the branch of each. -/
theorem vectorSearch : Obligations.VectorSearch :=
  ⟨queries_holds, scanEnds_holds, inserts_holds, deletes_holds, indexControls_holds⟩

end Sys2Proof.Machine
end

section
/-!
Proof runs (R264, R265, Table 12-3), known-answer tests (R267, R269), the writes of their patterns (R268) and TEST (R270).
-/

namespace Sys2Proof.Machine

variable {s s1 : State} {o : Origin} {fn sq c h id n x t : Nat} {d : Desc} {v : List Byte} {cmd : Cmd} {byTest : Bool}

/-! ### PROOF_RUN_FINISH (R264, R265) -/

theorem exec_proofRunFinish (hc : c < 256) : exec (.proofRunFinish c x) s = .next (s.proofEnds c s.ns x) := by
  show execProofRunFinish c x s = _
  rw [execProofRunFinish, if_neg hc.not_ge]

/-- The split that a Proof runs again. -/
abbrev Proof.work (pr : Proof) : SplitWork := { idx := pr.idx, layer := pr.layer, j := pr.j, pos := pr.pos, ntok := pr.ntok }

/-- The first row of Table 12-3: a second run whose partials are the first run's. -/
theorem State.proofRun_agrees {pr : Proof} {ok : Bool} (hsecond : pr.run = 2) :
    s.proofRun id pr c t pr.orig ok = (s.checkerFault pr (if ok then 0 else 1)).decideProof id pr t pr.orig := by
  rw [State.proofRun, if_pos hsecond, if_pos rfl]

/-- A run whose rows read without poison is judged, counted and set against the Proof. -/
theorem State.proofEnds_judged {pr : Proof} {p : Profile} (hrun : (s.core c).run = some (.proof id n))
    (hproof : s.integ.proofs.get? id = some pr) (hprof : s.profOf pr.idx = some p) (hread : s.readSplit p pr.work = (s1, none)) :
    let s2 := s1.oddCodes p pr.work
    let runs := s2.runSplit p pr.work pr.q x
    let v := s2.judge p pr.work runs x
    s.proofEnds c t x =
      ((s2.countRun runs v).proofRun id pr c t (runs.map (·.part)) (v.1 == 0 && v.2.2 == 0)).nextWork c t := by
  simp only [State.proofEnds, hrun, hproof, hprof, hread]

theorem State.proofEnds_idle (hidle : (s.core c).run = none) : s.proofEnds c t x = s := by
  simp only [State.proofEnds, hidle]

theorem proofAgrees_holds : Claim.proofAgrees := by
  intro s s1 c id n pr p w hc hrun hproof hprof hsecond hread s2 runs v hagree
  have hdecided := State.proofRun_agrees (s := s2.countRun runs v) (id := id) (c := c) (t := s.ns) (ok := v.1 == 0 && v.2.2 == 0) hsecond
  rw [exec_proofRunFinish hc, State.proofEnds_judged hrun hproof hprof hread, ← hdecided, ← hagree]

theorem proofNone_holds : Claim.proofNone := by
  intro s c x hc hidle
  rw [exec_proofRunFinish hc, State.proofEnds_idle hidle]

/-! ### KAT_PERIOD (R269) -/

theorem exec_katPeriod (hh : h < 2) : exec (.katPeriod h) s = .next (s.katStart h) := by
  show execKatPeriod h s = _
  rw [execKatPeriod, Nat.mod_eq_of_lt hh]

/-- Half `h` once its last period is over: the runs left over are counted, and no core is in one. -/
abbrev State.katOver (s : State) (h : Nat) : State :=
  (halfCores h).foldl State.dropAuto (s.count 0x8600 0xE (s.integ.kat.get h).length)

/-- `runs` are the ones due on half `h` in its period. -/
abbrev State.katDueOf (s : State) (h : Nat) (runs : List Nat) : State :=
  { s with integ := { s.integ with kat := s.integ.kat.set h runs } }

/-- Half `h` with `runs` due, and every free core of it at its next test. -/
abbrev State.katDue (s : State) (h : Nat) (runs : List Nat) : State := (halfCores h).foldl State.kickTest (s.katDueOf h runs)

/-- The patterns that a period skips: their curve is no longer a valid one of kind EXP. -/
abbrev State.katSkipped (s : State) : List Nat :=
  s.patterns.filter (fun n => n != 0 && !s.expValid (PatHead.read (s.pattern n)).curve)

/-- Pattern by pattern, one run on each core of half `h` in service. -/
abbrev State.katRuns (s : State) (h : Nat) : List Nat :=
  s.patterns.flatMap (fun n => ((halfCores h).filter (fun c => !(s.core c).excluded)).map (fun c => 64 * c + n))

theorem State.katStart_off (hoff : (s.katOver h).dval 0x6000 2 ≠ 1) : s.katStart h = (s.katOver h).katDue h [] := by
  unfold State.katStart
  extract_lets s1 s2 on skip runs integ s3 s4
  have hon : ¬ on = true := mt eq_of_beq hoff
  have hruns : runs = [] := if_neg hon
  have hquiet : s4 = s2.katDueOf h runs := if_neg hon
  rw [hquiet, hruns]

/-- With every pattern valid nothing is skipped, and no event 0x6031 is raised. -/
theorem State.katStart_on (hon : (s.katOver h).dval 0x6000 2 = 1) (hvalid : (s.katOver h).katSkipped = []) :
    s.katStart h = (s.katOver h).katDue h ((s.katOver h).katRuns h) := by
  unfold State.katStart
  extract_lets s1 s2 on skip runs integ s3 s4
  have htest : on = true := beq_of_eq hon
  have hskip : skip = [] := hvalid
  have hall : s2.patterns.filter (fun n => !skip.contains n) = s2.patterns :=
    List.filter_eq_self.mpr fun n _ => by simp [hskip]
  have hruns : runs = s2.katRuns h := (if_pos htest).trans (congrArg (List.flatMap _) hall)
  have hquiet : s4 = s2.katDueOf h runs := (if_pos htest).trans (by rw [hskip, List.foldl_nil])
  rw [hquiet, hruns]

theorem katOff_holds : Claim.katOff := by
  intro s h hh s2 hoff
  rw [exec_katPeriod hh, State.katStart_off hoff]

theorem katOn_holds : Claim.katOn := by
  intro s h hh s2 hon hvalid runs
  rw [exec_katPeriod hh, State.katStart_on hon hvalid]

/-! ### KAT_RUN_FINISH (R269) -/

theorem exec_katRunFinish (hc : c < 256) : exec (.katRunFinish c x) s = .next (s.katEnds c x) := by
  show execKatRunFinish c x s = _
  rw [execKatRunFinish, if_neg hc.not_ge]

/-- The checks of a run's pattern pass the built-in one whatever they read of it. -/
theorem not_badPattern {bad : Bool} (hgood : n = 0 ∨ bad = false) : ¬ (n ≠ 0 ∧ bad = true) := fun ⟨hwritten, hbad⟩ =>
  Bool.false_ne_true ((hgood.resolve_left hwritten).symm.trans hbad)

/-- The built-in pattern, and one that is still written with a valid curve, gives a verdict; then the core goes on. -/
theorem State.katEnds_verdict (hrun : (s.core c).run = some (.kat n byTest))
    (hgood : n = 0 ∨ (s.pattern n).isEmpty = false ∧ s.expValid (PatHead.read (s.pattern n)).curve = true) :
    let s1 := (s.katVerdict c n (s.katResult n x)).katLeaves c n byTest (some (s.katResult n x)) stOK 0
    s.katEnds c x = s1.nextWork c s1.ns := by
  have hwritten := not_badPattern (hgood.imp_right And.left)
  have hcurve := not_badPattern (hgood.imp_right fun h => congrArg not h.2)
  simp only [State.katEnds, hrun, if_neg hwritten, if_neg hcurve]

theorem katEnds_holds : Claim.katEnds := by
  intro s c n x byTest hc hrun hgood r s1
  rw [exec_katRunFinish hc, State.katEnds_verdict hrun hgood]

/-! ### PATTERN_WRITE (R268) -/

theorem exec_patternWrite (hid : id < 16) :
    exec (.patternWrite o id v) s = .next (s.writeRow o 0x6040 (1 + id) v (fun s => s.patternWrite id v)) := by
  show execPatternWrite o id v s = _
  rw [execPatternWrite, Nat.mod_eq_of_lt hid]

theorem State.patternWrite_stores (hgood : v.isEmpty = true ∨ s.patternOk v = true) :
    s.patternWrite id v = .ok (s.dset 0x6040 (1 + id) v) := by
  rw [State.patternWrite, if_neg (not_faulty hgood)]

theorem State.patternWrite_refuses (hwritten : v.isEmpty = false) (hbad : s.patternOk v = false) :
    s.patternWrite id v = .error (stTABLE, 0) := by
  rw [State.patternWrite, if_pos (by simp [hwritten, hbad])]

theorem patternWrites_holds : Claim.patternWrites := by
  intro s o id v hid
  rw [exec_patternWrite hid]
  refine ⟨fun hw hgood => ?_, fun ⟨hawake, hmode, hcheck⟩ hwritten hbad => ?_⟩
  · rw [writeRow_eq hw (State.patternWrite_stores hgood)]
  · rw [writeRow_err hawake hmode hcheck (State.patternWrite_refuses hwritten hbad)]

/-! ### TEST (R270) -/

theorem exec_test {p : Nat} (ht : Taken s 0x62 fn d p) : exec (.test fn sq d) s = .next (s.testCmd (s.cmdOf fn sq d false) p d) :=
  congrArg Host.Outcome.next (take_eq ht)

/-- A TEST by partition 0 of a pattern that is written waits for its core, which takes it at once where it is free. -/
theorem State.testCmd_waits (hwritten : dFld d 139 136 = 0 ∨ (s.pattern (dFld d 139 136)).isEmpty = false) :
    s.testCmd cmd 0 d = State.kickTest { s with integ := { s.integ with
      tests := s.integ.tests ++ [{ cmd, core := dFld d 135 128, pattern := dFld d 139 136, addr := dFld d 255 192 }] } } (dFld d 135 128) := by
  simp only [State.testCmd]
  rw [if_neg (not_badPattern hwritten), if_neg (not_not_intro rfl)]

theorem tests_holds : Claim.tests := by
  intro s fn sq d k n ht hwritten
  rw [exec_test ht, State.testCmd_waits hwritten]

/-- Settles O23: the core's run, the Proof's partials, the automatic test's switch and the pattern's checks pick the branch of each. -/
theorem proofsAndKats : Obligations.ProofsAndKats :=
  ⟨proofAgrees_holds, proofNone_holds, katOff_holds, katOn_holds, katEnds_holds, patternWrites_holds, tests_holds⟩

end Sys2Proof.Machine
end

section
/-!
Checkpoints: CKPT and its slot, the cut, the drain, the contact sheet, the commit record, and RESTORE (ch 13).
-/

namespace Sys2Proof.Machine

variable {s s1 : State} {fn sq p h k n st dt g : Nat} {d : Desc} {c : Cmd} {cmd : Option Cmd} {double resume : Bool} {r : CkptRun} {x : Image}

/-! ### CKPT and CKPT_DOUBLE (R283, R287, R293) -/

theorem exec_ckpt (ht : Taken s 0x70 fn d p) :
    exec (.ckpt fn sq d) s = .next (s.ckptCmd (s.cmdOf fn sq d false) p (dFlag d 24)) := by
  show execCkpt fn sq d s = _
  rw [execCkpt, take_eq ht]

theorem exec_ckptDouble (ht : Taken s 0x70 fn d p) :
    exec (.ckptDouble fn sq d) s = .next (s.ckptCmd (s.cmdOf fn sq d false) p (dFlag d 24)) := by
  show execCkptDouble fn sq d s = _
  rw [execCkptDouble, take_eq ht]

theorem State.ckptCmd_starts (hstart : s.startCkpt (some c) double = .ok s1) : s.ckptCmd c 0 double = s1 := by
  simp [State.ckptCmd, hstart]

theorem State.ckptCmd_refuses (hstart : s.startCkpt (some c) double = .error (st, dt)) : s.ckptCmd c 0 double = s.refuse c st dt := by
  simp [State.ckptCmd, hstart]

theorem State.ckptCmd_denies (hp : p ≠ 0) : s.ckptCmd c p double = s.refuseX c stDENIED 0 := if_pos hp

theorem ckptStarts_holds : Claim.ckptStarts := by
  intro s fn sq d p ht c
  rw [exec_ckpt ht, exec_ckptDouble ht]
  refine ⟨?_, ?_, fun hp => congrArg _ (State.ckptCmd_denies hp)⟩
  · rintro s1 rfl hstart
    exact ⟨congrArg _ (State.ckptCmd_starts hstart), congrArg _ (State.ckptCmd_starts hstart)⟩
  · rintro st dt rfl hstart
    exact ⟨congrArg _ (State.ckptCmd_refuses hstart), congrArg _ (State.ckptCmd_refuses hstart)⟩

/-- The run of a checkpoint that `startCkpt` opens on the slot that is not current (R279, R283). -/
def State.openedRun (s : State) (cmd : Option Cmd) (double : Bool) : CkptRun :=
  { phase := 1, cmd, target := s.nextSlot, double, second := false, seq := s.curSeq + 1, zeroed := false, img := none
    drained := { w := false, e := false }, todo := [], buf := { w := 0, e := 0 }, full := { w := false, e := false } }

/-- A checkpoint that starts found none open, no restore and no bath, and zeroed its slot's record (R283, R293). -/
theorem State.startCkpt_ok (hstart : s.startCkpt cmd double = .ok s1) :
    s.ckpt.run = none ∧ s.ckpt.restore = none ∧ s.sched.bath.level = 0
      ∧ s1 = (s.zeroSlot s.nextSlot).setCkpt (s.openedRun cmd double) := by
  unfold State.startCkpt at hstart
  dsimp only at hstart
  split_ifs at hstart with hbusy
  simp only [not_or, Option.not_isSome_iff_eq_none, ne_eq, not_not] at hbusy
  obtain ⟨hrun, hrestore, hbath, -⟩ := hbusy
  exact ⟨hrun, hrestore, hbath, (Except.ok.inj hstart).symm⟩

theorem ckptOpened_holds : Claim.ckptOpened := by
  intro s s1 cmd double hstart
  obtain ⟨hrun, hrestore, hbath, rfl⟩ := State.startCkpt_ok hstart
  exact ⟨hrun, hrestore, hbath, rfl, s.openedRun cmd double, rfl, rfl, rfl, rfl, rfl, rfl⟩

/-! ### The zeros durable, the cut and its time-out (R277, R283) -/

theorem ckptZeroes_holds : Claim.ckptZeroes := by
  intro s r hrun hzeroed himg hroom hbath
  have hbuffers : ¬ ((!r.double) = true ∧ s.noBuffers = true) := by
    rcases hroom with h | h <;> simp [h]
  refine congrArg Host.Outcome.next ?_
  simp only [State.zeroDurable, hrun]
  rw [if_neg (by simp [hzeroed]), if_neg (by simp [himg]), if_neg hbuffers, if_neg (by simp [hbath])]

/-- The cut of a Negative, while the bath is quiet and the bridge up. -/
theorem State.takeCut_negative (hrun : s.ckpt.run = some r) (hphase : r.phase = 1) (hzeroed : r.zeroed = true)
    (hquiet : s.sched.bath.quiet = true) (hbridge : s.boot.bridge = false) (hnegative : r.double = false) :
    s.takeCut = (s.setCkpt { r with
      phase := 2, img := some (s.capture r.seq 1)
      todo := (s.capture r.seq 1).pages.pages.map (·.1) ++ (s.capture r.seq 1).grans.map (fun g => granObj g.1) }).endBath := by
  simp only [State.takeCut, hrun]
  rw [if_neg (by simp [hphase, hzeroed, hquiet, hbridge])]
  simp [hnegative]

theorem State.takeCut_waits (hquiet : s.sched.bath.quiet = false) : s.takeCut = s := by
  cases hrun : s.ckpt.run with
  | none => simp only [State.takeCut, hrun]
  | some r =>
    simp only [State.takeCut, hrun]
    exact if_pos (by simp [hquiet])

theorem ckptCuts_holds : Claim.ckptCuts := fun _ _ hrun hphase hzeroed hquiet hbridge hnegative =>
  congrArg Host.Outcome.next (State.takeCut_negative hrun hphase hzeroed hquiet hbridge hnegative)

theorem ckptWaits_holds : Claim.ckptWaits := fun _ hquiet => congrArg Host.Outcome.next (State.takeCut_waits hquiet)

theorem ckptTimesOut_holds : Claim.ckptTimesOut := by
  intro s r hrun hphase hzeroed
  show (_ → execCkptQuiesceTimeout s = _) ∧ (_ → execCkptQuiesceTimeout s = _)
  simp only [execCkptQuiesceTimeout, hrun]
  refine ⟨fun hquiet => ?_, fun hquiet => ?_⟩
  · rw [if_pos ⟨hphase, hzeroed, by simp [hquiet]⟩]
  · rw [if_neg (by simp [hquiet])]

/-- Settles O25: what is open, the bath's quiet and the image's method pick the branch of each. -/
theorem checkpointCut : Obligations.CheckpointCut :=
  ⟨ckptStarts_holds, ckptOpened_holds, ckptZeroes_holds, ckptCuts_holds, ckptWaits_holds, ckptTimesOut_holds⟩

/-! ### DRAIN_COMPLETE, SHEET_DURABLE and COMMIT_DURABLE (R285, R287) -/

theorem both_drained {dr : Two Bool} (hh : h < 2) (hother : dr.get (1 - h) = true) :
    ((dr.set h true).w && (dr.set h true).e) = true := by
  obtain rfl | rfl : h = 0 ∨ h = 1 := by omega
  · simpa [Two.get, Two.set] using hother
  · simpa [Two.get, Two.set] using hother

theorem drains_holds : Claim.drains := by
  intro s h r x hh hcheck hrun himg hphase hzeroed hbridge hother hfit ofHalf y
  show execDrainComplete h s = _
  rw [execDrainComplete, hcheck, Nat.mod_eq_of_lt hh]
  simp only [State.drained, hrun, himg]
  rw [if_neg (by simp [hphase, hzeroed, hbridge]), if_neg (by simp only [both_drained hh hother]; decide), if_neg (Nat.not_lt.mpr hfit)]

theorem sheets_holds : Claim.sheets := by
  intro s r x hcheck hrun himg hphase y
  show execSheetDurable s = _
  simp only [execSheetDurable, hcheck, hrun, himg]
  rw [if_pos hphase]

theorem commits_holds : Claim.commits := by
  intro s r x c hcheck hrun himg hphase hnegative hcmd hbath y s2 hquiet
  show execCommitDurable s = _
  simp only [execCommitDurable, hcheck, hrun, himg]
  rw [if_pos hphase, State.committed]
  dsimp only
  rw [if_neg (by simp [hnegative]), if_neg (Bool.eq_false_iff.mp hquiet)]
  simp only [hcmd]
  rfl

/-! ### CKPT_ABORT (R293) -/

theorem exec_ckptAbort (ht : Taken s 0x71 fn d p) :
    exec (.ckptAbort fn sq d) s = .next (s.ckptAbortCmd (s.cmdOf fn sq d false) p) := congrArg Host.Outcome.next (take_eq ht)

theorem ckptAborts_holds : Claim.ckptAborts := by
  intro s fn sq d ht c
  rw [exec_ckptAbort ht, State.ckptAbortCmd, if_neg (not_not_intro rfl)]
  refine ⟨fun hopen => ?_, fun hnone => ?_⟩
  · rw [if_pos hopen]
  · rw [if_neg (by simp [hnone])]

/-! ### RESTORE and RESTORE_COMPLETE (R288 to R292) -/

theorem State.startRestore_starts (hn : n ≤ 2) (hmaint : s.inMaint = true) (hrun : s.ckpt.run = none) (hrestore : s.ckpt.restore = none)
    (hslot : s.selected n = some (k, x)) (hwhole : x.step = 0xB0) :
    s.startRestore cmd n resume = .ok { s.releaseAll with
      ckpt := { s.releaseAll.ckpt with mark := true, restore := some (cmd, k, resume), resumed := [] } } := by
  rw [State.startRestore, if_neg (Nat.not_lt.mpr hn), if_neg (by simp [hmaint, hrun, hrestore])]
  simp only [hslot]
  rw [if_neg (not_not_intro hwhole)]

theorem State.startRestore_denies (hn : n ≤ 2) (hmaint : s.inMaint = false) : s.startRestore cmd n resume = .error (stDENIED, 0) := by
  rw [State.startRestore, if_neg (Nat.not_lt.mpr hn), if_pos (by simp [hmaint])]

theorem State.startRestore_refuses (hn : n ≤ 2) (hmaint : s.inMaint = true) (hrun : s.ckpt.run = none) (hrestore : s.ckpt.restore = none)
    (hslot : s.selected n = none) : s.startRestore cmd n resume = .error (stBAD, dRANGE) := by
  rw [State.startRestore, if_neg (Nat.not_lt.mpr hn), if_neg (by simp [hmaint, hrun, hrestore])]
  simp only [hslot]

/-- A RESTORE by partition 0 that selects slot 0 (the current one), 1 or 2 is what `startRestore` answers (R288). -/
theorem exec_restore (ht : Taken s 0x72 fn d 0) (hn : dFld d 129 128 ≤ 2) :
    exec (.restore fn sq d) s = .next (
      match s.startRestore (some (s.cmdOf fn sq d false)) (dFld d 129 128) (dFlag d 24) with
      | .error (st, dt) => s.refuse (s.cmdOf fn sq d false) st dt
      | .ok s1 => s1) := by
  refine congrArg Host.Outcome.next ((take_eq ht).trans ((if_neg ?_).trans (if_neg (not_not_intro rfl))))
  omega

theorem restores_holds : Claim.restores := by
  intro s fn sq d ht c n hn
  rw [exec_restore ht hn]
  refine ⟨?_, fun hmaint => ?_, fun hmaint hrun hrestore hslot => ?_⟩
  · intro k x hmaint hrun hrestore hslot hwhole s1
    rw [State.startRestore_starts hn hmaint hrun hrestore hslot hwhole]
  · rw [State.startRestore_denies hn hmaint]
  · rw [State.startRestore_refuses hn hmaint hrun hrestore hslot]

theorem restoreEnds_holds : Claim.restoreEnds := by
  intro s c k resume x s0 hrestore hslot
  refine ⟨?_, ?_⟩
  · intro s1 hload s2
    show execRestoreComplete s = _
    simp only [execRestoreComplete, hrestore, hslot]
    rw [hload]
  · intro g st hload
    show execRestoreComplete s = _
    simp only [execRestoreComplete, hrestore, hslot]
    rw [hload]

/-- Settles O26: the run's phase, the maintenance mode and what the load of the image answers pick the branch of each. -/
theorem checkpointDrain : Obligations.CheckpointDrain :=
  ⟨drains_holds, sheets_holds, commits_holds, ckptAborts_holds, restores_holds, restoreEnds_holds⟩

end Sys2Proof.Machine
end

section
/-!
Links (ch 14) and the board fabric (ch 15): training, wavelengths, the writes of policers, schedules and marks, and the route of a message.
-/

namespace Sys2Proof.Machine

variable {s : State} {o : Origin} {k w id sub idx port wave n a b x y : Nat} {v : List Byte} {rec : BitVec 256} {m : Msg}

/-! ### Training (R298, Table 14-3) -/

theorem capReceives_holds : Claim.capReceives := by
  intro s k rec hk
  have hrow := fun t : State => withLink_lt hk t
  refine ⟨fun htrain hcap hbad => ?_, fun htrain hcap hgood hvalid => ?_, fun hidle => ?_⟩ <;> refine (hrow _).trans (congrArg _ ?_)
  · rw [if_neg (by simp [htrain, hcap]), if_pos hbad]
  · rw [if_neg (by simp [htrain, hcap]), if_neg (by simp [hgood]), if_neg (by simp [hvalid])]
  · exact if_pos (Or.inl hidle)

theorem capAckReceives_holds : Claim.capAckReceives := fun _ _ _ hk htrain hack hgood hvalid =>
  (withLink_lt hk _).trans (congrArg _ (if_neg (by simp [htrain, hack, hgood, hvalid])))

theorem trainTimers_holds : Claim.trainTimers := fun _ _ hk htrain =>
  ⟨(withLink_lt hk _).trans (congrArg _ (if_pos htrain)), (withLink_lt hk _).trans (congrArg _ (if_pos htrain))⟩

theorem linkTrains_holds : Claim.linkTrains := fun _ _ hk =>
  ⟨fun hdown => ⟨(withLink_lt hk _).trans (congrArg _ (if_pos hdown)), (withLink_lt hk _).trans (congrArg _ (if_pos hdown))⟩,
    fun hother => ⟨(withLink_lt hk _).trans (congrArg _ (if_neg hother)), (withLink_lt hk _).trans (congrArg _ (if_neg hother))⟩⟩

/-! ### Wavelengths, silence and lasers (R299, R461, Table 14-3) -/

/-- The wavelengths that link `k` lacks once `w` is lost. -/
abbrev State.lostWith (s : State) (k w : Nat) : Nat := Nat.lor (s.link k).lost (2 ^ w)

theorem State.loseWave_up (hw : w < 4) (hup : (s.link k).st = 2) : s.loseWave k w =
    if widthOf (15 - s.lostWith k w) = 0 then s.linkDown k 0
    else (s.setLink k { (s.link k) with st := 3, used := widthOf (15 - s.lostWith k w), lost := s.lostWith k w, narrowing := true }).raise
      0x4003 0 (linkHalf k) [k, w] := by
  simp only [State.loseWave, Nat.mod_eq_of_lt hw]
  exact if_pos hup

theorem State.loseWave_half (hw : w < 4) (hhalf : (s.link k).st = 3) : s.loseWave k w =
    if bitN (s.link k).used w then s.linkDown k 0 else s.setLink k { (s.link k) with lost := s.lostWith k w } := by
  simp only [State.loseWave, Nat.mod_eq_of_lt hw]
  rw [if_neg (by omega), if_pos hhalf]

theorem waveLoses_holds : Claim.waveLoses := by
  intro s k w hk hw l lost
  have hrow : exec (.wavelengthLoss k w) s = .next (s.loseWave k w) := withLink_lt hk _
  rw [hrow]
  refine ⟨fun hup hleft => ?_, fun hup hnone => ?_, fun hhalf hused => ?_, fun hhalf hspare => ?_⟩
  · rw [State.loseWave_up hw hup, if_neg hleft]
  · rw [State.loseWave_up hw hup, if_pos hnone]
  · rw [State.loseWave_half hw hhalf, if_pos hused]
  · rw [State.loseWave_half hw hhalf, if_neg (by simp [l, hspare])]

theorem narrowed_holds : Claim.narrowed := fun _ _ hk => withLink_lt hk _

theorem silences_holds : Claim.silences := fun _ _ hk hserves => (withLink_lt hk _).trans (congrArg _ (if_pos hserves))

theorem laserFails_holds : Claim.laserFails := by
  intro s port wave hport hwave hsound
  show execLaserSourceFail port wave s = _
  rw [execLaserSourceFail, if_pos ⟨hport, hwave⟩, if_neg (Bool.eq_false_iff.mp hsound)]

/-- Settles O27: the link's state, its wavelengths and the record's checks pick the branch of each row. -/
theorem linkTraining : Obligations.LinkTraining :=
  ⟨capReceives_holds, capAckReceives_holds, trainTimers_holds, linkTrains_holds, waveLoses_holds, narrowed_holds, silences_holds,
    laserFails_holds⟩

/-! ### SCHEDULE_WRITE, MARK_CLEAR and POLICER_PROFILE_WRITE (R322, R323, R325) -/

/-- A checked write that its row refuses is answered with the row's status and detail. -/
theorem writeRow_refused {own : State → Except (Nat × Nat) State} {r : Nat × Nat} (hc : Claim.Checked s o idx sub v) (hown : own s = .error r) :
    s.writeRow o idx sub v own = s.answerW o idx sub v.length r.1 r.2 := by
  obtain ⟨hawake, hmode, hcheck⟩ := hc
  exact writeRow_err hawake hmode hcheck hown

theorem exec_scheduleWrite (hid : id < 16) :
    exec (.scheduleWrite o id v) s = .next (s.writeRow o 0x41A0 (1 + id) v (fun s => s.scheduleWrite id v)) := by
  show execScheduleWrite o id v s = _
  rw [execScheduleWrite, Nat.mod_eq_of_lt hid]

/-- A link names schedule `id` in its entry. -/
abbrev State.scheduleNamed (s : State) (id : Nat) : Bool := (List.range 96).any (fun k => s.dval (0x41B0 + k / 4) (0x11 + k % 4) == id)

theorem State.scheduleWrite_stores (hunnamed : s.scheduleNamed id = false) (hvalid : scheduleOk v = true) :
    s.scheduleWrite id v = .ok (s.dset 0x41A0 (1 + id) v) := by
  rw [State.scheduleWrite, if_neg (Bool.eq_false_iff.mp hunnamed), if_neg (by simp [hvalid])]

theorem State.scheduleWrite_denies (hnamed : s.scheduleNamed id = true) : s.scheduleWrite id v = .error wDenied := if_pos hnamed

theorem scheduleWrites_holds : Claim.scheduleWrites := by
  intro s o id v hid named
  rw [exec_scheduleWrite hid]
  refine ⟨fun hw hunnamed hvalid => ?_, fun hc hnamed => ?_⟩
  · rw [writeRow_eq hw (State.scheduleWrite_stores hunnamed hvalid)]
  · rw [writeRow_refused hc (State.scheduleWrite_denies hnamed)]

theorem markClears_holds : Claim.markClears := fun _ _ _ _ hw => congrArg Host.Outcome.next (writeRow_eq hw rfl)

/-- Settles O29: the links that name the schedule decide its write, and the clear is the row's own. -/
theorem linkSchedules : Obligations.LinkSchedules := ⟨scheduleWrites_holds, markClears_holds⟩

theorem exec_policerProfileWrite (hid : id < 16) : exec (.policerProfileWrite o id sub v) s =
    .next (s.writeRow o (0x4190 + id) sub v (fun s => s.policerWrite id sub v)) := by
  show execPolicerProfileWrite o id sub v s = _
  rw [execPolicerProfileWrite, Nat.mod_eq_of_lt hid]

theorem policerWrites_holds : Claim.policerWrites := by
  intro s o id sub v hid s1 p bad
  rw [exec_policerProfileWrite hid]
  refine ⟨fun hw hgood => ?_, fun hc hbad => ?_⟩
  · rw [writeRow_eq hw (if_neg hgood)]
  · rw [writeRow_refused hc (if_pos hbad)]

/-- Settles O51: the profile that the write would leave decides. -/
theorem policerProfiles : Obligations.PolicerProfiles := policerWrites_holds

/-! ### The route of a message (R312) -/

/-- The way up from `a` to `b` in a dimension of size `n`. -/
theorem wayUp_eq (ha : a < n) (hb : b < n) : ((b : Int) - a) % n = if b < a then (b : Int) - a + n else (b : Int) - a := by
  split
  · rw [← Int.add_emod_right]
    exact Int.emod_eq_of_lt (by omega) (by omega)
  · exact Int.emod_eq_of_lt (by omega) (by omega)

theorem stepUp_eq (ha : a < n) : ((a : Int) + 1) % n = if a + 1 = n then 0 else (a : Int) + 1 := by
  split
  next hlast => rw [← hlast]; push_cast; exact Int.emod_self
  · exact Int.emod_eq_of_lt (by omega) (by omega)

theorem stepDown_eq (ha : a < n) : ((a : Int) - 1) % n = if a = 0 then (n : Int) - 1 else (a : Int) - 1 := by
  split
  next hfirst =>
    rw [← Int.add_emod_right, Int.emod_eq_of_lt (by omega) (by omega)]
    omega
  · exact Int.emod_eq_of_lt (by omega) (by omega)

/-- The steps left from `a` to `b`: the shorter of the two ways round. -/
theorem hop_steps (ha : a < n) (hb : b < n) :
    (hop n a b).1 = if a < b then min (b - a) (n - (b - a)) else if b < a then min (b + n - a) (a - b) else 0 := by
  by_cases hab : a = b
  · subst hab
    simp [hop_self n a ha]
  · rw [hop_eq n a b ha hb hab]
    split_ifs <;> simp only <;> omega

theorem dimensionOrder_holds : Claim.dimensionOrder := by
  intro n a b ha hb hab d
  have hnext : (hop n a b).2 < n := by
    rw [hop_eq n a b ha hb hab]
    split_ifs <;> simp only <;> omega
  have hway : d = if b < a then (b : Int) - a + n else (b : Int) - a := wayUp_eq ha hb
  refine ⟨?_, ?_, ?_⟩
  · rw [stepUp_eq ha, stepDown_eq ha, hop_eq n a b ha hb hab]
    split_ifs at hway ⊢ <;> simp only <;> omega
  · rw [hop_steps ha hb]
    split_ifs at hway ⊢ <;> omega
  · rw [hop_steps hnext hb, hop_steps ha hb, hop_eq n a b ha hb hab]
    split_ifs <;> simp only at * <;> omega

/-- The link of a non-empty list that the address picks. -/
theorem nth_mod_mem {ls : List Nat} (hne : ls ≠ []) (i : Nat) : nth ls (i % ls.length) 0 ∈ ls := by
  have hlt : i % ls.length < ls.length := Nat.mod_lt _ (List.length_pos_iff.mpr hne)
  simp [nth, List.getElem?_eq_getElem hlt]

/-- A dimension with no step left is one whose coordinate is the target's. -/
theorem hop_steps_eq_zero (ha : a < n) (hb : b < n) : (hop n a b).1 = 0 ↔ a = b := by
  rw [hop_steps ha hb]
  split_ifs <;> omega

/-- The neighbour a message goes to next: along X until x is the target's, then along Y (R312). -/
theorem State.route_towards (hdst : m.dst % 4 = 0) (hmap : s.fab.mapOk = true) (hkind : s.epKind m.dst = 1)
    (hx : s.dval 0x4100 2 = x) (hy : s.dval 0x4100 3 = y) (hme : s.boot.bslot < x * y) (ht : m.dst / 4 < x * y)
    (hother : s.boot.bslot ≠ m.dst / 4) :
    s.route m false =
      let me := s.boot.bslot
      let t := m.dst / 4
      let ls := s.linksTo (4 * if me % x ≠ t % x then (hop x (me % x) (t % x)).2 + x * (me / x)
        else me % x + x * (hop y (me / x) (t / x)).2) m.src m.dst
      if ls.isEmpty then .error 2 else .ok (nth ls ((m.src + 3 * m.dst + 5 * m.part) % ls.length) 0) := by
  have hx0 : 0 < x := Nat.pos_of_ne_zero (by rintro rfl; simp at hme)
  have hxs : (hop x (s.boot.bslot % x) (m.dst / 4 % x)).1 = 0 ↔ s.boot.bslot % x = m.dst / 4 % x :=
    hop_steps_eq_zero (Nat.mod_lt _ hx0) (Nat.mod_lt _ hx0)
  have hys : (hop y (s.boot.bslot / x) (m.dst / 4 / x)).1 = 0 ↔ s.boot.bslot / x = m.dst / 4 / x :=
    hop_steps_eq_zero (Nat.div_lt_of_lt_mul hme) (Nat.div_lt_of_lt_mul ht)
  have hleft : ¬ ((hop x (s.boot.bslot % x) (m.dst / 4 % x)).1 + (hop y (s.boot.bslot / x) (m.dst / 4 / x)).1 = 0) := by
    rw [Nat.add_eq_zero_iff, hxs, hys]
    rintro ⟨hmod, hdiv⟩
    exact hother (by rw [← Nat.mod_add_div s.boot.bslot x, ← Nat.mod_add_div (m.dst / 4) x, hmod, hdiv])
  simp only [State.route, hdst, hmap, hkind, hx, hy, ne_eq, hxs, List.isEmpty_nil, Bool.not_true, Bool.false_eq_true, if_false, if_true]
  rw [if_neg hleft, if_neg (by simp)]

theorem routesByX_holds : Claim.routesByX := by
  intro s m hdst hmap hkind x y me t hme ht hother nxt
  rw [State.route_towards hdst hmap hkind rfl rfl hme ht hother]
  refine ⟨fun hnone => if_pos (List.isEmpty_iff.mpr hnone), fun hsome => ?_⟩
  exact ⟨_, if_neg (by rwa [List.isEmpty_iff]), nth_mod_mem hsome _⟩

/-- Settles O50: the two ways round are compared as integers, and the coordinates' differences pick the dimension. -/
theorem dimensionOrder : Obligations.DimensionOrder := ⟨dimensionOrder_holds, routesByX_holds⟩

end Sys2Proof.Machine
end

section
/-!
The host port (ch 16): rings and their fetching, MSI-X, ports and functions, IDE and TDISP, and CXL.mem.
-/

namespace Sys2Proof.Machine

variable {s : State} {fn sq p k id kind port v hoff mask sid x line : Nat} {d : Desc} {c : Cmd} {r : Ring} {w : Window}
  {b : List Byte} {a : Access}

/-! ### Host indices and fetching (R336 to R338) -/

theorem State.hostIndex_posts {head : Nat} (hring : s.ring k = some r) (hkind : r.kind ≠ 1) :
    s.hostIndex k head = (s.updRing k (fun q => { q with hostIdx := head % 2 ^ 32 })).drainRing k := by
  simp only [State.hostIndex, hring]
  exact if_neg hkind

theorem tailPolls_holds : Claim.tailPolls := by
  intro s port fn id tail hport
  show (∀ r, _ → _ → _ → execTailPoll port fn id tail s = _) ∧ (_ → execTailPoll port fn id tail s = _)
  rw [execTailPoll, if_neg hport.not_ge]
  refine ⟨fun r hring hcoh hfn => ?_, fun hnone => ?_⟩
  · simp only [hring]
    rw [if_neg (by simp [hcoh, hfn])]
  · simp only [hnone]

/-- An SQ with descriptors waiting that may fetch: as many as fit are fetched, more stop it. -/
theorem fetches_holds : Claim.fetches := by
  intro s k r n hring hkind hstopped hn hstops
  have hmay : ¬ (r.kind ≠ 1 ∨ r.stopped = true ∨ n = 0 ∨ s.host.stops.contains r.fn = true) := by
    simp only [hkind, hstopped, hstops]
    simp [hn]
  simp only [State.fetch, hring]
  rw [if_neg hmay]
  refine ⟨fun hmore => ?_, fun hfit hcq hdidx => ?_⟩
  · rw [if_pos hmore]
  · rw [if_neg hfit.not_gt, if_neg (by simp [hcq]), if_pos hdidx]

theorem headUpdates_holds : Claim.headUpdates := by
  intro s fn kind id head r hlow hhigh hring hkind
  show execRingHeadUpdate fn kind id head s = _
  rw [execRingHeadUpdate, if_pos (by omega), State.hostIndex_posts hring (by omega)]

/-! ### MSI-X (R339) -/

theorem msixTimes_holds : Claim.msixTimes := by
  intro s fn kind id r hring hkind hiv
  show (_ → execMsixTimer fn kind id s = _) ∧ (_ → execMsixTimer fn kind id s = _)
  simp only [execMsixTimer, hring]
  refine ⟨fun hcounted => ?_, fun hnone => ?_⟩
  · rw [if_neg (by simp [hiv, hcounted, hkind.not_gt])]
  · rw [if_pos (by simp [hnone])]

theorem msixUnmasks_holds : Claim.msixUnmasks := by
  intro s fn v hfn hv hmasked s1
  show (_ → execMsixVectorUnmask fn v s = _) ∧ (_ → execMsixVectorUnmask fn v s = _)
  rw [execMsixVectorUnmask, if_neg (by omega)]
  simp only [hmasked]
  exact ⟨fun hpending => congrArg _ (if_pos hpending), fun hnone => congrArg _ (if_neg (Bool.eq_false_iff.mp hnone))⟩

/-! ### Creation and deletion (R331, R332, R334, R341) -/

theorem exec_ringCreate (ht : Taken s 0x80 fn d p) :
    exec (.ringCreate fn sq d) s = .next (s.ringCreateCmd (s.cmdOf fn sq d false) p d) := by
  show execRingCreate fn sq d s = _
  rw [execRingCreate, take_eq ht]

theorem exec_ringDelete (ht : Taken s 0x81 fn d p) :
    exec (.ringDelete fn sq d) s = .next (s.ringDeleteCmd (s.cmdOf fn sq d false) d) := by
  show execRingDelete fn sq d s = _
  rw [execRingDelete, take_eq ht]

theorem ringCreates_holds : Claim.ringCreates := by
  intro s fn sq d p ht c r hid hkind hlast hsize hthr
  have hgood : ¬ (r.id = 0 ∨ r.kind = 0 ∨ 4 < r.kind ∨ 12 < r.lgsz ∨ (r.iv = true ∧ r.cthr = 0)) := by
    rintro (h | h | h | h | ⟨hiv, h⟩)
    exacts [hid h, hkind h, hlast.not_gt h, hsize.not_gt h, hthr hiv h]
  rw [exec_ringCreate ht, State.ringCreateCmd]
  refine ⟨fun hsound => ?_, fun hfault => ?_⟩ <;> refine congrArg _ ((if_neg hgood).trans ?_)
  · exact if_neg (Bool.eq_false_iff.mp hsound)
  · exact if_pos hfault

theorem ringDeletes_holds : Claim.ringDeletes := by
  intro s fn sq d p ht c id kind hid hkind hlast hthere
  have hgood : ¬ (id = 0 ∨ kind = 0 ∨ 4 < kind ∨ (s.ring (ringKey c.fn kind id)).isNone = true) := by
    rintro (h | h | h | h)
    exacts [hid h, hkind h, hlast.not_gt h, by simp_all]
  rw [exec_ringDelete ht, State.ringDeleteCmd]
  refine ⟨fun hfree => ?_, fun hcq hbound => ?_⟩ <;> refine congrArg _ ((if_neg hgood).trans ?_)
  · refine if_neg (fun ⟨hcq, hbound⟩ => ?_)
    rcases hfree with h | h
    · exact h hcq
    · simp [c, id, h] at hbound
  · exact if_pos ⟨hcq, by simpa using hbound⟩

theorem State.makeZero_makes (hcq : s.ringFault p (s.ringZero fn 2) = false)
    (hsq : (s.addRing (s.ringZero fn 2) (s.ringStart fn 2 0)).ringFault p (s.ringZero fn 1) = false) :
    s.makeZero fn p = .ok ((s.addRing (s.ringZero fn 2) (s.ringStart fn 2 0)).addRing (s.ringZero fn 1) 0) := by
  simp only [State.makeZero, hcq, hsq]
  rfl

theorem ringZeros_holds : Claim.ringZeros := by
  intro s fn p v hw hpart
  refine ⟨fun hv hcq hsq => ?_, fun hv hfree => ?_⟩ <;> refine congrArg Host.Outcome.next (writeRow_eq hw ?_)
  · simp only [State.ring0Write, hpart]
    rw [if_pos hv, State.makeZero_makes hcq hsq]
  · simp only [State.ring0Write, hpart]
    rw [if_neg hv, State.dropZero, if_neg (Bool.eq_false_iff.mp hfree)]

/-! ### Coherent tails (R335) -/

theorem withPort_lt (hp : p < 4) (s : State) : withPort p s = .next s := if_neg hp.not_ge

theorem tailWrites_holds : Claim.tailWrites := by
  intro s p fn id tail hoff owned r w hp hring hwin hcoh hfn hlink
  refine (withPort_lt hp _).trans (congrArg _ ?_)
  simp only [hring, hwin]
  rw [if_neg (by simp [hcoh, hfn, hlink])]

theorem tailSnoops_holds : Claim.tailSnoops := by
  intro s p fn id r hp hring hcoh hfn owned
  refine ⟨fun howned => ?_, fun hshared => ?_⟩ <;> refine (withPort_lt hp _).trans (congrArg _ ?_) <;> simp only [hring]
  · exact if_pos ⟨hcoh, hfn, howned⟩
  · exact if_neg (fun ⟨_, _, h⟩ => Bool.false_ne_true (hshared.symm.trans h))

/-- Settles O30: the ring's kind, its counts and the checks of its write or command pick the branch of each. -/
theorem rings : Obligations.Rings :=
  ⟨tailPolls_holds, fetches_holds, headUpdates_holds, msixTimes_holds, msixUnmasks_holds, ringCreates_holds, ringDeletes_holds,
    ringZeros_holds, tailWrites_holds, tailSnoops_holds⟩

/-! ### Functions and ports (R340, R344, R362, R432) -/

theorem fnResets_holds : Claim.fnResets := fun _ _ _ hfn => if_neg hfn.not_ge

theorem pcieDowns_holds : Claim.pcieDowns := fun _ _ hp =>
  ⟨fun hdown => (withPort_lt hp _).trans (congrArg _ (if_pos hdown)), fun _ => withPort_lt hp _⟩

theorem pcieUps_holds : Claim.pcieUps := fun _ _ _ _ _ hp =>
  ⟨fun hformed hfree hmode hawake => (withPort_lt hp _).trans (congrArg _ (if_neg (by simp [hformed, hfree, hmode, hawake]))),
    fun hperst => (withPort_lt hp _).trans (congrArg _ (if_pos (Or.inr (Or.inl hperst))))⟩

theorem persts_holds : Claim.persts := fun _ _ hp hformed =>
  ⟨(withPort_lt hp _).trans (congrArg _ (if_neg (by simp [hformed]))), (withPort_lt hp _).trans (congrArg _ (if_pos hformed))⟩

/-! ### IDE and TDISP (R352, R353) -/

theorem ideFails_holds : Claim.ideFails := by
  intro s p x fn hp hx s1 s2
  show execIdeFailure p x fn s = _
  simp only [execIdeFailure, withPort_lt hp, Nat.mod_eq_of_lt hx, s2, s1]

/-- Keys of a stream set or stopped in a secured session over function 0's mailbox. -/
theorem exec_ideKm {install : Bool} (hp : p < 4) (hsess : s.doeSession sid (fun f => f == 64 * p) = true) (hx : x ≤ 5) :
    exec (.ideKm p x sid install) s = .next (
      let rest := s.host.ideStreams.filter (fun y => y != 256 * p + x)
      let s1 := s.setStreams (if install then rest ++ [256 * p + x] else rest)
      let s2 : State := if install then { s1 with host := { s1.host with ideDown := s1.host.ideDown.keep (fun _ v => v != 256 * p + x) } } else s1
      (s2.recheckStops).emit (.tdisp (64 * p) (if install then 3 else 6))) := by
  show execIdeKm p x sid install s = _
  rw [execIdeKm, withPort_lt hp, if_neg (by simp [hsess, hx])]

theorem ideKeys_holds : Claim.ideKeys := by
  intro s p x sid hp rest
  refine ⟨?_, ?_⟩
  · intro hsess hx s1 s2
    simp only [exec_ideKm hp hsess hx, if_true, Bool.false_eq_true, if_false, s2, s1, rest, and_self]
  · intro hnone install
    show execIdeKm p x sid install s = _
    rw [execIdeKm, withPort_lt hp, if_pos (by simp [hnone])]

theorem tdisps_holds : Claim.tdisps := by
  intro s fn sid hfn hvirtual hsess
  have hrow : ∀ code, exec (.tdispMessage fn code sid) s = execTdispMessage fn code sid s := fun _ => rfl
  simp only [hrow, execTdispMessage, hsess]
  rw [if_neg hfn.not_ge]
  refine ⟨fun h => ?_, fun h => ?_, fun h => ?_, fun h => ?_⟩ <;> simp [h, hvirtual, hfn]

/-- Settles O31: the port's link, the session and the TDI's state pick the branch of each. -/
theorem hostFunctions : Obligations.HostFunctions :=
  ⟨fnResets_holds, pcieDowns_holds, pcieUps_holds, persts_holds, ideFails_holds, ideKeys_holds, tdisps_holds⟩

/-! ### Leases and lines (R344, R345, R348) -/

theorem hostLeaseEnds_holds : Claim.hostLeaseEnds := fun _ _ hp =>
  ⟨fun hlease => (withPort_lt hp _).trans (congrArg _ (if_neg (by simp [hlease]))),
    fun hnone => (withPort_lt hp _).trans (congrArg _ (if_pos (by simp [hnone])))⟩

theorem snoopAnswers_holds : Claim.snoopAnswers := by
  intro s p line b hp
  refine ⟨fun x hheld howned => ?_, fun hnone => ?_⟩ <;> refine (withPort_lt hp _).trans (congrArg _ ?_)
  · simp only [hheld, howned]
    rfl
  · simp only [hnone]
    rfl

theorem writebacks_holds : Claim.writebacks := fun _ _ _ _ hp =>
  ⟨fun howned => (withPort_lt hp _).trans (congrArg _ (if_pos howned)),
    fun hother => (withPort_lt hp _).trans (congrArg _ (if_neg (Bool.eq_false_iff.mp hother)))⟩

theorem renews_holds : Claim.renews := by
  intro s fn sq d p ht
  show execRenew fn sq d s = _
  rw [execRenew, take_eq ht]

/-! ### CXL.mem accesses (R347) -/

theorem exec_cxlMemAccess {excl : Bool} {data : Option (List Byte)} (hp : p < 4) (hlink : (s.port p).link = 2) :
    exec (.cxlMemAccess p hoff excl data mask) s = .next (s.serve { port := p, hoff, excl, data, mask }) := by
  show execCxlMemAccess p hoff excl data mask s = _
  rw [execCxlMemAccess, withPort_lt hp, if_pos hlink]

theorem State.serve_outside (hout : s.windowAt a.port a.hoff = none) : s.serve a = s.outside a.port a.hoff a.data.isNone := by
  simp only [State.serve, hout]

/-- What lets a write of line `addr / 64` in window `w` be stored at once (R347, R348): the window and the granule are not held, the granule is
mapped and may be written, no earlier access waits for the line, no other port holds it, and the bridge is up. -/
structure State.WriteFree (s : State) (p : Nat) (w : Window) (addr : Nat) : Prop where
  opened : w.closing = false
  settled : s.granHeld (addr / 2097152) = false
  mapped : (s.gran (addr / 2097152)).isNone = false
  sealed : s.unsealed p w.part = false
  written : w.ro = false
  unprotected : s.protectedGran (addr / 2097152) = false
  first : s.lineBusy (addr / 64) = false
  bridge : s.boot.bridge = false
  unheld : s.holders p (addr / 64) true = []

theorem State.serve_stores {addr : Nat} (hwin : s.windowAt a.port a.hoff = some (w, addr)) (hdata : a.data = some b)
    (hfree : s.WriteFree a.port w addr) : s.serve a =
      ((s.touch (addr / 2097152)).lineWrite a.port (addr / 64) b a.mask).emit (.cxl a.port a.hoff [] false false) := by
  obtain ⟨hopen, hsettled, hmapped, hsealed, hro, hprot, hfirst, hbridge, hunheld⟩ := hfree
  simp only [State.serve, hwin, hdata, hopen, hsettled, hmapped, hsealed, hro, hprot, hfirst, hbridge]
  simp [hunheld]

theorem cxlAccesses_holds : Claim.cxlAccesses := by
  intro s p hoff mask excl data hp a
  refine ⟨fun hlink => ?_, fun hlink hout => ?_, ?_⟩
  · show execCxlMemAccess p hoff excl data mask s = _
    rw [execCxlMemAccess, withPort_lt hp, if_neg hlink]
  · rw [exec_cxlMemAccess hp hlink, State.serve_outside hout]
  · intro w addr b hlink hwin hdata hopen hsettled hmapped hsealed hro hprot hfirst hbridge hunheld
    have hfree : s.WriteFree p w addr := ⟨hopen, hsettled, hmapped, hsealed, hro, hprot, hfirst, hbridge, hunheld⟩
    rw [exec_cxlMemAccess hp hlink, State.serve_stores (a := a) hwin hdata hfree]

/-- Settles O32: the port's lease, the window and the tracked line pick the branch of each. -/
theorem cxlLines : Obligations.CxlLines :=
  ⟨hostLeaseEnds_holds, cxlAccesses_holds, snoopAnswers_holds, writebacks_holds, renews_holds⟩

end Sys2Proof.Machine
end

section
/-!
Dictionary transactions (R381 to R387), a value written and read back (R377), and the field network (R388 to R398).
-/

namespace Sys2Proof.Machine

variable {s : State} {o : Origin} {pdu : BitVec 256} {idx sub t op fn id src : Nat} {d v b : List Byte} {hdr : BitVec 128}

/-! ### Requests (R382) -/

/-- A request that passes steps 1 to 5 is served by its own rule. -/
theorem State.request_served {serve : State → Nat → Nat → State} (hreq : Claim.Request s o pdu op idx sub) :
    s.request o pdu op serve = serve s idx sub := by
  obtain ⟨hserved, hgood, hidx, hsub⟩ := hreq
  simp only [State.request, hserved, hgood, hidx, hsub]
  rfl

/-- A request that fails one of steps 1 to 5 is answered with its detail. -/
theorem State.request_faulty {serve : State → Nat → Nat → State} {dt : Nat} (hserved : s.served = true)
    (hbad : requestFault o pdu op = some dt) : s.request o pdu op serve = s.refuseD o pdu stBAD dt := by
  simp only [State.request, hserved, hbad]
  rfl

/-! ### READ, DESCRIBE and NEXT (R383) -/

theorem State.readTx_denies (hreq : Claim.Request s o pdu 1 idx sub) (hmay : s.mayRead o idx sub = false) :
    s.readTx o pdu = s.refuseD o pdu stDENIED dORIGIN := by
  rw [State.readTx, State.request_served hreq]
  exact if_pos (by simp [hmay])

/-- A read that may be made and reaches its islands: the value as it is now from offset 0, else the origin's snapshot. -/
theorem State.readTx_reads (hreq : Claim.Request s o pdu 1 idx sub) (hmay : s.mayRead o idx sub = true)
    (hreach : s.unreachable o idx sub false = false) : s.readTx o pdu =
      if bits pdu 191 160 = 0 then
        (s.keepSnap o (dkey idx sub) (s.readValue (s.fnOf o) idx sub)).readOut o pdu idx sub (s.readValue (s.fnOf o) idx sub)
      else ((s.snapOf o (dkey idx sub)).map (fun x => (s.keepSnap o (dkey idx sub) x.value).readOut o pdu idx sub x.value)).getD
        (s.refuseD o pdu stBAD dSEQ) := by
  rw [State.readTx, State.request_served hreq]
  simp only [hmay, hreach]
  cases s.snapOf o (dkey idx sub) <;> rfl

theorem reads_holds : Claim.reads := by
  intro s o pdu t idx sub u
  have hrow : exec (.read o pdu t) s = .next (u.readTx o pdu) := rfl
  simp only [hrow]
  refine ⟨fun d hserved hbad => ?_, fun hreq hmay => ?_, fun hreq hmay hreach hfirst => ?_, fun hreq hmay hreach hlater => ?_⟩
  · rw [State.readTx, State.request_faulty hserved hbad]
  · rw [State.readTx_denies hreq hmay]
  · rw [State.readTx_reads hreq hmay hreach, if_pos hfirst]
  · rw [State.readTx_reads hreq hmay hreach, if_neg hlater]
    exact ⟨fun x hsnap => by rw [hsnap]; rfl, fun hnone => by rw [hnone]; rfl⟩

theorem describes_holds : Claim.describes := by
  intro s o pdu t idx sub u hreq hmay hreach
  refine congrArg Host.Outcome.next ((State.request_served hreq).trans ?_)
  simp only [hmay, hreach]
  rfl

theorem nexts_holds : Claim.nexts := by
  intro s o pdu t idx sub u hreq hwho
  have hsomebody : ¬ (!((u.whoOf o).bm || (u.whoOf o).part.isSome)) = true := by
    rcases hwho with h | h <;> simp [h]
  refine ⟨fun i j hnext hreach hmay => ?_, fun hlast => ?_⟩ <;>
    refine congrArg Host.Outcome.next ((State.request_served hreq).trans ((if_neg hsomebody).trans ?_))
  · simp only [hnext, hreach, hmay]
    rfl
  · simp only [hlast]

/-! ### WRITE (R384, R393) -/

/-- A segment of the length it names, within its path's limit and not BULK, is taken as one. -/
theorem exec_write_segment (hserved : s.served = true) (hreq : Claim.Request ((s.at t).inFlight o pdu) o pdu 2 idx sub)
    (hbulk : bit pdu 78 = false) (hlen : d.length = bits pdu 127 112) (hlimit : d.length ≤ pathLimit o) :
    exec (.write o pdu d t) s = .next (((s.at t).inFlight o pdu).segment o pdu idx sub d) := by
  show execWrite o pdu d t s = _
  rw [execWrite, if_pos hserved, State.writeTx, State.request_served hreq, if_neg (by simp [hbulk]), if_neg (by omega)]

theorem State.segment_held (hmore : bit pdu 79 = false) (hbridge : s.boot.bridge = true) (hhost : s.byHost o = true) :
    s.segment o pdu idx sub d = s.refuseD o pdu stHELD 0 := by
  rw [State.segment]
  exact if_pos (by simp [hmore, hbridge, hhost])

theorem State.segment_whole (hfirst : bits pdu 191 160 = 0) (hlast : bit pdu 79 = true) (hlen : d.length = bits pdu 159 128) :
    s.segment o pdu idx sub d = (s.unstage o).writeWhole o idx sub d := by
  rw [State.segment]
  simp only [hlast, hfirst, ← hlen]
  simp

theorem State.segment_outOfOrder (hlater : bits pdu 191 160 ≠ 0) (hnone : s.stagedOf o = none)
    (htaken : bit pdu 79 = true ∨ s.boot.bridge = false ∨ s.byHost o = false) :
    s.segment o pdu idx sub d = (s.unstage o).refuseD o pdu stBAD dSEQ := by
  have hnotHeld : ¬ ((!bit pdu 79) = true ∧ s.boot.bridge = true ∧ s.byHost o = true) := by
    rcases htaken with h | h | h <;> simp [h]
  rw [State.segment]
  simp only [hnone]
  rw [if_neg hnotHeld, if_neg hlater]

theorem writes_holds : Claim.writes := by
  intro s o pdu d t idx sub u hserved hreq hbulk hlen hlimit
  rw [exec_write_segment hserved hreq hbulk hlen hlimit]
  exact ⟨fun hfirst hlast htotal => congrArg _ (State.segment_whole hfirst hlast htotal),
    fun hlater hnone htaken => congrArg _ (State.segment_outOfOrder hlater hnone htaken),
    fun hmore hbridge hhost => congrArg _ (State.segment_held hmore hbridge hhost)⟩

/-! ### Reads of host memory, and time (R342, R383 to R387) -/

/-- `s` with the reads of host memory that function `fn` has under `id` answered. -/
abbrev State.dmaTaken (s : State) (fn id : Nat) : State :=
  { s with host := { s.host with dma := s.host.dma.filter (fun x => !(x.fn == fn && x.id == id)) } }

theorem State.dmaEnded_failed {r : DmaRead} (hfound : s.host.dma.find? (fun r => r.fn == fn && r.id == id) = some r) :
    s.dmaEnded fn id none = (s.dmaTaken fn id).refuseD r.o (BitVec.ofNat 256 r.pdu) stBAD dPARITY := by
  simp only [State.dmaEnded, hfound]

theorem State.dmaEnded_whole {r : DmaRead} (hfound : s.host.dma.find? (fun r => r.fn == fn && r.id == id) = some r)
    (hall : b.length = r.len) : s.dmaEnded fn id (some b) =
      ((s.dmaTaken fn id).dmaFrom fn (some b)).writeWhole r.o (bits (BitVec.ofNat 256 r.pdu) 223 208)
        (bits (BitVec.ofNat 256 r.pdu) 207 200) b := by
  simp only [State.dmaEnded, hfound]
  exact if_pos hall

theorem State.dmaEnded_none {found : Option (List Byte)} (hnone : s.host.dma.find? (fun r => r.fn == fn && r.id == id) = none) :
    s.dmaEnded fn id found = s := by
  simp only [State.dmaEnded, hnone]

theorem dmaEnds_holds : Claim.dmaEnds := by
  intro s fn id b found s1
  refine ⟨?_, ?_⟩
  · intro r hfound pdu
    exact ⟨fun hall => congrArg Host.Outcome.next (State.dmaEnded_whole hfound hall),
      congrArg Host.Outcome.next (State.dmaEnded_failed hfound), congrArg Host.Outcome.next (State.dmaEnded_failed hfound)⟩
  · exact fun hnone => ⟨congrArg Host.Outcome.next (State.dmaEnded_none hnone), congrArg Host.Outcome.next (State.dmaEnded_none hnone)⟩

theorem pends_holds : Claim.pends := by
  intro s sid hserved
  have hrow : exec (.pendTimer (.session sid)) s = .next (s.pendTx (.session sid)) := congrArg _ (if_pos hserved)
  rw [hrow]
  refine ⟨fun q hq => ?_, fun hnone => ?_⟩
  · simp only [State.pendTx, hq]
  · simp only [State.pendTx, hnone]

theorem expiries_holds : Claim.expiries := fun _ _ _ => ⟨rfl, rfl⟩

theorem polls_holds : Claim.polls := by
  intro s fn mreq req hfn hserved box
  have hrow : exec (.mailboxPoll fn mreq req) s = .next (s.pollBox fn mreq req) := if_neg hfn.not_ge
  rw [hrow]
  refine ⟨?_, ?_⟩
  · intro hidle hnew s1
    exact congrArg _ (if_neg (by simp [hserved, hidle, hnew, box]))
  · intro hnothing
    exact congrArg _ (if_pos (Or.inr (by simpa [box] using hnothing)))

/-- Settles O34: the request's checks, its offset and what the origin left pick the branch of each. -/
theorem dictionaryRequests : Obligations.DictionaryRequests :=
  ⟨reads_holds, writes_holds, describes_holds, nexts_holds, dmaEnds_holds, pends_holds, expiries_holds, polls_holds⟩

/-! ### A value written reads back (R377) -/

theorem dkey_inj {idx' sub' : Nat} (hsub : sub < 256) (hsub' : sub' < 256) (h : dkey idx' sub' = dkey idx sub) : idx' = idx ∧ sub' = sub := by
  simp only [dkey] at h
  omega

theorem State.dbytes_dset_same : (s.dset idx sub v).dbytes idx sub = v := by
  simp only [State.dbytes, State.dset, Dict.set, get_put_same]

theorem State.dbytes_dset_other {idx' sub' : Nat} (hkey : dkey idx' sub' ≠ dkey idx sub) :
    (s.dset idx sub v).dbytes idx' sub' = s.dbytes idx' sub' := by
  simp only [State.dbytes, State.dset, Dict.set, get_put_other _ _ _ _ hkey]

/-- Settles O55: the store is a map from keys, and two entries with subindices in a byte have keys of their own. -/
theorem dictionaryReadsBack : Obligations.DictionaryReadsBack := fun _ _ _ _ hsub =>
  ⟨State.dbytes_dset_same, fun _ _ hsub' hother => State.dbytes_dset_other fun hkey =>
    have ⟨hidx, hsubs⟩ := dkey_inj hsub hsub' hkey
    hother.elim (· hidx) (· hsubs)⟩

/-! ### Frames (R389 to R392) -/

theorem frames_holds : Claim.frames := by
  intro s dst src et hdr b hserved hlink
  refine ⟨fun het hdst hgood => ?_, fun het hdst hbad => ?_, fun het => congrArg Host.Outcome.next (if_pos (by simp [het]))⟩ <;>
    refine congrArg Host.Outcome.next ((if_neg ?_).trans ?_)
  · simp only [hserved, hlink, het]; tauto
  · exact if_neg (by simp [hgood])
  · simp only [hserved, hlink, het]; tauto
  · exact if_pos hbad

/-- A good DICT_FRAME is served unless its fseq has a response kept or a transaction in flight (R391). -/
theorem State.dictFrame_good (hserved : s.served = true) (hlink : s.fnet.link ≠ 0) (hgood : headerBad hdr b = false)
    (htype : bits hdr 119 112 = 1) : s.dictFrame src hdr b =
      match s.fnet.kept.find? (fun r => r.mac == src && r.fseq == bits hdr 95 80) with
      | some r => (s.count 0x8100 6 1).sendFrame src 2 (fnHeader 2 (32 + r.value.length) (bits hdr 95 80) (s.netCfg 3) 0 0)
          (leBytes 32 r.pdu ++ r.value)
      | none =>
        if s.dict.pend.any (fun p => p.1 = Origin.net src (bits hdr 95 80)) then s
        else if s.foreign src then
          s.refuseD (.net src (bits hdr 95 80)) (BitVec.ofNat 256 (leAt b 0 32)) stDENIED dORIGIN
        else s.inFlight (.net src (bits hdr 95 80)) (BitVec.ofNat 256 (leAt b 0 32)) := by
  rw [State.dictFrame]
  exact if_neg (by simp [hserved, hlink, hgood, htype])

theorem dictFrames_holds : Claim.dictFrames := by
  intro s src hdr b hserved hlink hgood htype fseq pdu kept
  have hrow : exec (.dictFrame src hdr b) s = .next (s.dictFrame src hdr b) := rfl
  rw [hrow, State.dictFrame_good hserved hlink hgood htype]
  refine ⟨fun r hkept => ?_, fun hnew hidle => ⟨fun hhome => ?_, fun hforeign => ?_⟩⟩
  · simp only [show s.fnet.kept.find? (fun r => r.mac == src && r.fseq == bits hdr 95 80) = some r from hkept]
    rfl
  · simp only [show s.fnet.kept.find? (fun r => r.mac == src && r.fseq == bits hdr 95 80) = none from hnew]
    rw [if_neg (Bool.eq_false_iff.mp hidle), if_neg (Bool.eq_false_iff.mp hhome)]
  · simp only [show s.fnet.kept.find? (fun r => r.mac == src && r.fseq == bits hdr 95 80) = none from hnew]
    rw [if_neg (Bool.eq_false_iff.mp hidle), if_pos hforeign]

theorem eventAcks_holds : Claim.eventAcks := by
  intro s src hdr hawake
  refine ⟨fun hgood htype => ?_, fun hlink => ?_, fun hlink => ?_⟩ <;> refine congrArg Host.Outcome.next ?_
  · exact if_neg (by simp [hawake, hgood, htype])
  · exact if_neg (by simp [hawake, hlink])
  · exact if_pos (Or.inr hlink)

theorem spdmFrames_holds : Claim.spdmFrames := by
  intro s src hdr b hserved hlink hgood htype
  have htaken : ¬ ((!s.served) = true ∨ s.fnet.link = 0 ∨ headerBad hdr b = true ∨ bits hdr 119 112 ≠ 5) := by
    simp [hserved, hlink, hgood, htype]
  refine ⟨fun hhome => ?_, fun hforeign => ?_⟩ <;> refine congrArg Host.Outcome.next ((if_neg htaken).trans ?_)
  · exact if_neg (Bool.eq_false_iff.mp hhome)
  · exact if_pos hforeign

theorem fnLinks_holds : Claim.fnLinks := by
  intro s src hdr plca
  refine ⟨fun hserved hlink hgood htype => ?_, fun hserved => ?_, rfl⟩ <;> refine congrArg Host.Outcome.next (if_neg ?_)
  · simp [hserved, hlink, hgood, htype]
  · simp [hserved]

/-- Settles O35: the frame's header, its source and what is kept pick the branch of each. -/
theorem fieldNetwork : Obligations.FieldNetwork := ⟨frames_holds, dictFrames_holds, eventAcks_holds, spdmFrames_holds, fnLinks_holds⟩

end Sys2Proof.Machine
end

section
/-!
Maintenance state (R397), partitions and their keys (R364 to R372), confidential mode (R374) and the Safelight set (R375).
-/

namespace Sys2Proof.Machine

variable {s : State} {o : Origin} {p port f : Nat} {v : List Byte}

/-! ### Maintenance state (R397, Table 18-10) -/

theorem exec_maintenanceEnter : exec (.maintenanceEnter o v) s = .next (s.writeRow o 0xF000 1 v (fun t => t.maintWrite o (leNat v))) := rfl

theorem exec_maintenanceLeave : exec (.maintenanceLeave o v) s = .next (s.writeRow o 0xF000 1 v (fun t => t.maintWrite o (leNat v))) := rfl

theorem maintWrites_holds : Claim.maintWrites := by
  intro s o v
  rw [exec_maintenanceEnter, exec_maintenanceLeave]
  refine ⟨fun hw hst hv => ?_, fun hw hst hv => ?_, fun hw hst hv hidle => ?_, fun hc hst hv hbusy => ?_⟩
  · exact congrArg _ (writeRow_eq hw (by simp only [State.maintWrite, hst, hv]; rfl))
  · exact congrArg _ (writeRow_eq hw (by simp only [State.maintWrite, hst, hv]; rfl))
  · exact congrArg _ (writeRow_eq hw (by simp only [State.maintWrite, hst, hv, hidle]; rfl))
  · rw [writeRow_refused (r := (stDENIED, dBUSY)) hc (by simp [State.maintWrite, hst, hv, hbusy])]

theorem maintCourse_holds : Claim.maintCourse := fun _ =>
  ⟨fun hst hquiet => congrArg Host.Outcome.next (if_pos ⟨hst, hquiet⟩),
    fun hflying => congrArg Host.Outcome.next (if_neg fun ⟨_, hquiet⟩ => hflying hquiet),
    fun hst hflying => congrArg Host.Outcome.next (if_pos ⟨hst, hflying⟩),
    fun hst => congrArg Host.Outcome.next (if_pos hst)⟩

/-! ### PARTITION_ENABLE and PARTITION_DISABLE (R364, R366) -/

theorem exec_partitionEnable (hp : p < 64) :
    exec (.partitionEnable o p v) s = .next (s.writeRow o (0x7040 + p) 1 v (fun s => s.partWrite p (leNat v))) := by
  show execPartitionEnable o p v s = _
  rw [execPartitionEnable, Nat.mod_eq_of_lt hp]

theorem exec_partitionDisable (hp : p < 64) :
    exec (.partitionDisable o p v) s = .next (s.writeRow o (0x7040 + p) 1 v (fun s => s.partWrite p (leNat v))) := by
  show execPartitionDisable o p v s = _
  rw [execPartitionDisable, Nat.mod_eq_of_lt hp]

/-- Partition `p` with its enable bit set and a memory key of its own, drawn afresh (R357). -/
def State.keyedPart (s : State) (p : Nat) : State :=
  let s1 := s.dsetN (0x7040 + p) 1 1
  { s1 with sec := { s1.sec with memKeys := s1.sec.memKeys.put p s1.sec.draws, draws := s1.sec.draws + 4 } }

theorem State.enablePart_enables (hoff : s.partOn p = false) (howner : (s.dbytes (0x7040 + p) 2).isEmpty = false)
    (hentropy : s.sec.entropyBad = false)
    (hcores : ((s.dsetN (0x7040 + p) 1 1).confidential && (s.dsetN (0x7040 + p) 1 1).coresShared) = false) :
    s.enablePart p = .ok ((s.keyedPart p).raise 0x7001 p 0 [p]) := by
  rw [State.enablePart, if_neg (by simp [hoff]), if_neg (by simp [howner]), if_neg (by simp [hentropy])]
  exact if_neg (by simpa using hcores)

theorem State.enablePart_ownerless (hoff : s.partOn p = false) (howner : (s.dbytes (0x7040 + p) 2).isEmpty = true) :
    s.enablePart p = .error wRefused := by
  rw [State.enablePart, if_neg (by simp [hoff]), if_pos howner]

theorem State.disablePart_holding (hp : p ≠ 0) (hon : s.partOn p = true) (hholds : s.holdsObjects p = true) :
    s.disablePart p = .error wDenied := by
  rw [State.disablePart, if_neg hp, if_neg (by simp [hon]), if_pos (Or.inl hholds)]

theorem partWrites_holds : Claim.partWrites := by
  intro s o p v hp
  rw [exec_partitionEnable hp, exec_partitionDisable hp]
  refine ⟨?_, ?_, ?_, ?_⟩
  · intro hw hv hoff howner hentropy s1 hcores s2
    rw [writeRow_eq hw ((if_pos hv).trans (State.enablePart_enables hoff howner hentropy hcores))]
    rfl
  · intro hc hv hoff howner
    rw [writeRow_refused hc ((if_pos hv).trans (State.enablePart_ownerless hoff howner))]
  · intro hc hv hp0 hon hholds
    rw [writeRow_refused hc ((if_neg (by omega)).trans (State.disablePart_holding hp0 hon hholds))]
  · intro s1 hw hv _ _ _ _ hdisabled
    rw [writeRow_eq hw ((if_neg (by omega)).trans hdisabled)]

/-- The partition's keys, its leave to be exported and its Safelight counters destroyed (R364). -/
def State.unkeyedPart (s : State) (p : Nat) : State :=
  let mine := fun k : Nat => k / 256 == 0x8780 + p
  let s1 := (s.dsetN (0x7040 + p) 1 0).dsetN (0x7040 + p) 6 0
  { s1 with
    sec := { s1.sec with
      memKeys := s1.sec.memKeys.del p, imported := s1.sec.imported.del p, linkKeys := s1.sec.linkKeys.del p }
    fab := { s1.fab with keys := s1.fab.keys.filter (fun q => q != p) }
    dict := { s1.dict with store := s1.dict.store.del (dkey (0x7040 + p) 4) }
    ctr := { s1.ctr with
      val := s1.ctr.val.keep (fun k _ => !mine k), rest := s1.ctr.rest.keep (fun k _ => !mine k)
      sat := s1.ctr.sat.filter (fun k => !mine k) } }

/-- A partition that is enabled and gets disabled loses its keys, and event 0x7002 comes last. -/
theorem State.disablePart_ok {s1 : State} (hp : p ≠ 0) (hon : s.partOn p = true) (hok : s.disablePart p = .ok s1) :
    s1 = (s.unkeyedPart p).raise 0x7002 p 0 [p] := by
  rw [State.disablePart, if_neg hp, if_neg (by simp [hon])] at hok
  split at hok
  · exact nomatch hok
  · exact (Except.ok.inj hok).symm

theorem partDisabled_holds : Claim.partDisabled := fun s _ p hp hon hok =>
  ⟨s.unkeyedPart p, State.disablePart_ok hp hon hok, rfl, rfl, rfl, rfl, rfl⟩

/-! ### Owner keys and bindings (R364, R365) -/

theorem exec_ownerKeyWrite (hp : p < 64) :
    exec (.ownerKeyWrite o p v) s = .next (s.writeRow o (0x7040 + p) 2 v (fun s => s.ownerKey p v)) := by
  show execOwnerKeyWrite o p v s = _
  rw [execOwnerKeyWrite, Nat.mod_eq_of_lt hp]

theorem ownerWrites_holds : Claim.ownerWrites := by
  intro s o p v hp
  rw [exec_ownerKeyWrite hp]
  refine ⟨fun hw hoff hnew => ?_, fun hc hp0 hon => ?_⟩ <;> refine congrArg _ ?_
  · have hmay : ¬ (p ≠ 0 ∧ s.partOn p = true) := fun ⟨hp0, hon⟩ =>
      hoff.elim hp0 fun h => Bool.false_ne_true (h.symm.trans hon)
    exact writeRow_eq hw ((if_neg hmay).trans (if_neg (Bool.eq_false_iff.mp hnew)))
  · exact writeRow_refused hc (if_pos ⟨hp0, hon⟩)

theorem State.bindFn_binds {q : Nat} (hf : f ≠ 0) (hq : q < 64) (hon : s.partOn q = true) (htdi : s.host.tdi.getD (64 * port + f) 0 = 0) :
    s.bindFn port f q = .ok (((s.fnReset (64 * port + f) 2).dsetN (0x7080 + port) (1 + f) q).recheckStops) := by
  simp only [State.bindFn, htdi]
  rw [if_neg (by simp [hf, hon, hq.not_ge]), if_neg (by omega)]

theorem bindings_holds : Claim.bindings := by
  intro s o port f v hport hfn hf hv hon htdi hw
  show execFunctionBindingWrite o port (1 + f) v s = _
  rw [execFunctionBindingWrite, Nat.mod_eq_of_lt hport, Nat.add_sub_cancel_left, writeRow_eq hw (State.bindFn_binds hf hv hon htdi)]

/-- Settles O36: the maintenance state, the partition's own state and the function's TDI pick the branch of each. -/
theorem maintenanceAndPartitions : Obligations.MaintenanceAndPartitions :=
  ⟨maintWrites_holds, maintCourse_holds, partWrites_holds, partDisabled_holds, ownerWrites_holds, bindings_holds⟩

/-! ### Link keys and key packages (R370 to R372) -/

theorem linkKeys_holds : Claim.linkKeys := by
  intro s o p v hp hw
  show execLinkKeyWrite o p v s = _
  rw [execLinkKeyWrite, Nat.mod_eq_of_lt hp]
  exact congrArg _ (writeRow_eq hw rfl)

theorem exec_keyExportRequest (hp : p < 64) :
    exec (.keyExportRequest o p v) s = .next (s.writeRow o (0x7040 + p) 7 v (fun s => s.exportKey p v)) := by
  show execKeyExportRequest o p v s = _
  rw [execKeyExportRequest, Nat.mod_eq_of_lt hp]

theorem State.exportKey_exports (hmay : s.dval (0x7040 + p) 6 ≠ 0) (hkey : s.sec.memKeys.has p = true) (hentropy : s.sec.entropyBad = false)
    (hpoint : onP384 v = true) : s.exportKey p v = .ok (((((s.draw 5).2.dset (0x7040 + p) 8 (s.package p v)).count 0x8700 4 1).raise
      0x7006 p 0 (p :: w2 (leNat ((sha384 v).take 8))))) := by
  rw [State.exportKey, if_neg (by simp [hmay, hkey, hentropy]), if_neg (by simp [hpoint])]

theorem keyExports_holds : Claim.keyExports := by
  intro s o p v hp
  rw [exec_keyExportRequest hp]
  refine ⟨?_, fun hc hnot => ?_⟩
  · intro hw hmay hkey hentropy hpoint s1
    rw [writeRow_eq hw (State.exportKey_exports hmay hkey hentropy hpoint)]
  · rw [writeRow_refused hc (if_pos (Or.inl hnot))]

/-- Only a package that fails a check raises event 0x7004 before it is answered. -/
theorem State.packageRow_quiet (hgood : badPackage p v = false) :
    s.packageRow o p v = s.writeRow o (0x7040 + p) 9 v (fun s => s.importPackage p v) := by
  have hquiet : ((s.writeCheck o (0x7040 + p) 9 v).isNone && s.mayImport p && badPackage p v) = false := by simp [hgood]
  simp only [State.packageRow, hquiet]
  rfl

theorem imports_holds : Claim.imports := by
  intro s o p v hp hw hmay hgood s1
  show execKeyPackageImport o p v s = _
  rw [execKeyPackageImport, Nat.mod_eq_of_lt hp, State.packageRow_quiet hgood, writeRow_eq hw (if_neg (by simp [hmay, hgood]))]

/-! ### Confidential mode and the Safelight set (R374, R375) -/

theorem exec_confidentialModeWrite :
    exec (.confidentialModeWrite o v) s = .next (s.writeRow o 0x7000 2 v (fun s => s.confidentialTo (leNat v))) := rfl

theorem State.confidentialTo_changes {n : Nat} (hmaint : s.inMaint = true) (hnew : n ≠ s.dval 0x7000 2) (hon : n = 1 → s.coresShared = false)
    (hoff : n = 0 → (List.range 64).any (fun p => decide (0 < p) && s.partOn p) = false) :
    s.confidentialTo n = .ok (((s.dsetN 0x7000 2 n).raise 0x7003 0 0 [n]).recheckStops) := by
  have hfree : ¬ ((n = 1 ∧ s.coresShared = true) ∨ (n = 0 ∧ (List.range 64).any (fun p => decide (0 < p) && s.partOn p) = true)) := by
    rintro (⟨hn, h⟩ | ⟨hn, h⟩)
    · exact Bool.false_ne_true ((hon hn).symm.trans h)
    · exact Bool.false_ne_true ((hoff hn).symm.trans h)
  rw [State.confidentialTo, if_neg (by simp [hmaint]), if_neg hnew, if_neg hfree]

theorem confidentials_holds : Claim.confidentials := by
  intro s o v
  rw [exec_confidentialModeWrite]
  refine ⟨fun hw hmaint hnew hon hoff => ?_, fun hc hout => ?_⟩
  · rw [writeRow_eq hw (State.confidentialTo_changes hmaint hnew hon hoff)]
  · rw [writeRow_refused hc (if_pos (by simp [hout]))]

theorem safeUnit_pos (sub : Nat) : 0 < safeUnit sub := by
  unfold safeUnit
  split_ifs <;> omega

theorem safelights_holds : Claim.safelights := by
  intro s
  show execSafelightUpdate s = _
  rw [execSafelightUpdate]

/-- Aggregate `1 + i` of partition `p` takes what was counted, in whole units (R375). -/
def State.takeUnits (s : State) (p i : Nat) : State :=
  let k := dkey (0x8780 + p) (1 + i)
  let n := s.ctr.rest.getD k 0
  if n < safeUnit (1 + i) then s
  else
    State.count { s with ctr := { s.ctr with rest := s.ctr.rest.put k (n % safeUnit (1 + i)) } } (0x8780 + p) (1 + i) (n / safeUnit (1 + i))

theorem State.takeUnits_rests {i : Nat} (hrest : s.ctr.rest = []) : s.takeUnits p i = s := by
  have hnone : s.ctr.rest.getD (dkey (0x8780 + p) (1 + i)) 0 = 0 := by simp [hrest, Tab.getD, Tab.get?]
  exact if_pos (by rw [hnone]; exact safeUnit_pos _)

theorem exec_safelightUpdate :
    exec .safelightUpdate s = .next ((List.range 64).foldl (fun u p => (List.range 5).foldl (fun v i => v.takeUnits p i) u) s) := by
  show execSafelightUpdate s = _
  simp only [execSafelightUpdate, State.takeUnits]

/-- With nothing counted no aggregate has a whole unit to take. -/
theorem safelightRests_holds : Claim.safelightRests := by
  intro s hrest
  have hpart : ∀ p (l : List Nat), l.foldl (fun v i => v.takeUnits p i) s = s := fun p l =>
    List.foldl_fixed' (f := fun (v : State) i => v.takeUnits p i) (fun i => State.takeUnits_rests hrest) l
  have hall : ∀ l : List Nat, l.foldl (fun u p => (List.range 5).foldl (fun v i => v.takeUnits p i) u) s = s := fun l =>
    List.foldl_fixed' (f := fun (u : State) p => (List.range 5).foldl (fun v i => v.takeUnits p i) u) (fun p => hpart p _) l
  rw [exec_safelightUpdate, hall]

/-- Settles O37: the partition's flags and key, the mode and what was counted pick the branch of each. -/
theorem keysAndConfidence : Obligations.KeysAndConfidence :=
  ⟨linkKeys_holds, keyExports_holds, imports_holds, confidentials_holds, safelightRests_holds, safelights_holds⟩

end Sys2Proof.Machine
end

section
/-!
SPDM (R357, R359 to R363): what a request passes before it is served, and the answers of each.
-/

namespace Sys2Proof.Machine

variable {s u : State} {via : Via} {n t code need place sid : Nat} {x : SpdmSess} {msg : List Byte} {hs : Bool}

/-! ### What a request passes before it is served (R361, R362) -/

/-- SPDM answers while the mode is not RECOVERY and the rails are up (R444). -/
theorem State.spdmAnswers (hmode : s.boot.mode ≠ 3) (hpower : s.boot.off = false) : ¬ (s.boot.mode = 3 ∨ s.boot.off = true) :=
  not_or.mpr ⟨hmode, Bool.eq_false_iff.mp hpower⟩

/-- A message with a whole header and its code is a request of that code. -/
theorem spdmShape (hlen : 4 ≤ msg.length) (hcode : msgB msg 1 = code) : ¬ (msg.length < 4 ∨ msgB msg 1 ≠ code) :=
  not_or.mpr ⟨hlen.not_gt, not_not_intro hcode⟩

/-- A plain request that is heard, of a code served outside sessions, is served with the request in the transcript. -/
theorem State.spdmIn_plain {serve : State → State} (hheard : Claim.Plain (s.at t) via msg code need) (hplace : place < 2) :
    s.spdmIn via none msg t code need place serve = serve (Claim.heard (s.at t) via msg) := by
  obtain ⟨hmode, hpower, hlen, hcode, hversion, hstage⟩ := hheard
  simp only [State.spdmIn]
  rw [if_neg (State.spdmAnswers hmode hpower), if_neg (spdmShape hlen hcode), if_neg (not_not_intro hversion), if_neg hplace.not_ge,
    if_neg hstage.not_gt]

/-- A plain request before its stage is answered UnexpectedRequest. -/
theorem State.spdmIn_early {serve : State → State} (hheard : Claim.Plain (s.at t) via msg code 0) (hplace : place < 2)
    (hstage : (s.conn via).stage < need) :
    s.spdmIn via none msg t code need place serve = (s.at t).spdmErr via none eUnexpected 0 := by
  obtain ⟨hmode, hpower, hlen, hcode, hversion, -⟩ := hheard
  simp only [State.spdmIn]
  rw [if_neg (State.spdmAnswers hmode hpower), if_neg (spdmShape hlen hcode), if_neg (not_not_intro hversion), if_neg hplace.not_ge]
  exact if_pos hstage

/-- A plain request of a code served in sessions alone is answered SessionRequired. -/
theorem State.spdmIn_outside {serve : State → State} (hheard : Claim.Plain (s.at t) via msg code 0) (hplace : 2 ≤ place) :
    s.spdmIn via none msg t code need place serve = (s.at t).spdmErr via none eSession 0 := by
  obtain ⟨hmode, hpower, hlen, hcode, hversion, -⟩ := hheard
  simp only [State.spdmIn]
  rw [if_neg (State.spdmAnswers hmode hpower), if_neg (spdmShape hlen hcode), if_neg (not_not_intro hversion), if_pos hplace]

/-- A request in its session is served with the session heard of: in an open one, and during the handshake where its code may come then. -/
theorem State.spdmIn_inside {serve : State → State} (hin : Claim.Inside (s.at t) via n x msg code hs) (hplace : place ≠ 0)
    (hhandshake : hs = true → place = 3) :
    s.spdmIn via (some n) msg t code need place serve = serve (Claim.fresh (s.at t) n x) := by
  obtain ⟨hmode, hpower, hlen, hcode, hother, hversion, hsess, hvia, hopen⟩ := hin
  have hserved : ¬ (place = 0 ∨ ((!x.open_) = true ∧ place ≠ 3)) := by
    rintro (h | ⟨hclosed, h⟩)
    · exact hplace h
    · exact h (hhandshake (by simpa [hopen] using hclosed))
  simp only [State.spdmIn, hsess]
  rw [if_neg (State.spdmAnswers hmode hpower), if_neg (spdmShape hlen hcode), if_neg (by simp [hother, hversion]),
    if_neg (not_not_intro hvia), if_neg hserved]

/-! ### Set-up (Table 17-3) -/

theorem spdmSetups_holds : Claim.spdmSetups := by
  intro s via msg t u
  refine ⟨fun hheard => ?_, fun hheard => ?_, fun hheard hsign hhash => ?_, fun hheard hstage => ?_⟩ <;>
    refine congrArg Host.Outcome.next ?_
  · exact State.spdmIn_plain hheard (by decide)
  · exact State.spdmIn_plain hheard (by decide)
  · exact (State.spdmIn_plain hheard (by decide)).trans (if_neg (by simp [hsign, hhash]))
  · exact State.spdmIn_early hheard (by decide) (by omega)

/-! ### Certificates, challenge and measurements (R357, R359 to R361) -/

theorem spdmCerts_holds : Claim.spdmCerts := by
  intro s via msg t u
  refine ⟨fun hheard => congrArg Host.Outcome.next (State.spdmIn_plain hheard (by decide)), ?_⟩
  intro hheard c off hoff portion
  have hportion : ¬ (c.isEmpty = true ∨ c.length ≤ off) := by
    rintro (hempty | hend)
    · simp [List.isEmpty_iff.mp hempty] at hoff
    · exact hend.not_gt hoff
  exact congrArg Host.Outcome.next ((State.spdmIn_plain hheard (by decide)).trans (if_neg hportion))

theorem spdmChallenges_holds : Claim.spdmChallenges := by
  intro s via msg t u k hheard hchain hlen
  have hgood : ¬ ((u.chainOf k).isEmpty = true ∨ msg.length < 36) := by simp [hchain, hlen.not_gt]
  refine ⟨fun hbad => ?_, fun hentropy hsum => ?_⟩ <;>
    refine congrArg Host.Outcome.next ((State.spdmIn_plain hheard (by decide)).trans ((if_neg hgood).trans ?_))
  · exact if_pos hbad
  · refine (if_neg (by simp [u, hentropy])).trans ?_
    simp only [hsum]
    rfl

theorem spdmMeasures_holds : Claim.spdmMeasures := by
  intro s via msg t u n hheard hn hone
  refine ⟨fun x hx hentropy hplain => ?_, fun hnone => ?_⟩ <;>
    refine congrArg Host.Outcome.next ((State.spdmIn_plain hheard (by decide)).trans ?_)
  · simp only [n] at hx hn hone
    simp [hn, hone, hx, hentropy, hplain, u, n]
  · simp only [n] at hnone hn hone
    simp [hn, hone, hnone, u]

/-! ### Sessions (R361 to R363) -/

theorem spdmExchanges_holds : Claim.spdmExchanges := by
  intro s via msg t u hheard hchain hlen
  have hgood : ¬ ((u.chainOf (msgB msg 3)).isEmpty = true ∨ msg.length < 136) := by simp [hchain, hlen.not_gt]
  refine ⟨fun hfull => ?_, fun hroom hentropy => ?_⟩ <;>
    refine congrArg Host.Outcome.next ((State.spdmIn_plain hheard (by decide)).trans ((if_neg hgood).trans ?_))
  · exact if_pos hfull
  · exact (if_neg (by rw [hroom]; decide)).trans (if_neg (by rw [hentropy]; decide))

theorem spdmFinishes_holds : Claim.spdmFinishes := by
  intro s via n x msg t u good hin
  obtain ⟨-, -, -, -, -, -, -, -, hclosed⟩ := id hin
  have hfails : (!Config.cryptoOk 4 (leBytes 4 n) msg) = true
      ∨ ((!x.chain.isEmpty) = true ∧ (!(bitN (msgB msg 2) 0 && Config.cryptoOk 5 x.chain msg)) = true) ↔ good = false := by
    simp only [good, Bool.not_eq_true', Bool.and_eq_false_iff, Bool.or_eq_false_iff]
  refine ⟨fun hgood => ?_, fun hbad => ?_⟩ <;>
    refine congrArg Host.Outcome.next ((State.spdmIn_inside hin (by decide) (fun _ => rfl)).trans ?_) <;>
    simp only [Option.getD_some, get_put_same] <;> refine (if_neg (by simp [hclosed])).trans ?_
  · exact if_neg fun h => Bool.false_ne_true ((hfails.mp h).symm.trans hgood)
  · exact if_pos (hfails.mpr hbad)

theorem spdmSessions_holds : Claim.spdmSessions := by
  intro s via n x msg t u
  refine ⟨fun hin => ?_, fun hin hop => ?_, fun hin => ?_, fun hheard => ?_⟩ <;> refine congrArg Host.Outcome.next ?_
  · exact State.spdmIn_inside hin (by decide) (by decide)
  · refine (State.spdmIn_inside hin (by decide) (by decide)).trans ((if_neg (by omega)).trans ?_)
    rw [if_neg (by omega)]
    rfl
  · exact State.spdmIn_inside hin (by decide) (by decide)
  · exact State.spdmIn_outside hheard (by decide)

theorem spdmEncaps_holds : Claim.spdmEncaps := by
  intro s via n x msg t u hasked
  refine ⟨fun hin => ?_, fun hin herror => ?_⟩ <;> obtain ⟨-, -, -, -, -, -, -, -, hclosed⟩ := id hin <;>
    refine congrArg Host.Outcome.next ((State.spdmIn_inside hin (by decide) (fun _ => rfl)).trans ?_) <;>
    simp only [Option.getD_some, get_put_same] <;> refine (if_neg (by simp [hclosed, hasked])).trans ?_
  · rfl
  · exact if_pos herror

/-! ### SET_CERTIFICATE and large messages (R359, R361) -/

theorem spdmSetCerts_holds : Claim.spdmSetCerts := by
  intro s via n x msg t u hin hprincipal hslot
  have hmay : ¬ (msgB msg 2 % 16 ≠ 1 ∨ (((u.sec.sess.get? n).map (·.principal)).getD 0) ≠ 1) := by
    simp only [u, get_put_same]
    simp [hslot, hprincipal]
  refine ⟨fun hgood => ?_, fun hbad => ?_⟩ <;>
    refine congrArg Host.Outcome.next ((State.spdmIn_inside hin (by decide) (by decide)).trans ((if_neg hmay).trans ?_))
  · exact if_pos hgood
  · exact if_neg (Bool.eq_false_iff.mp hbad)

/-- A first chunk that is not the last is kept (R361). -/
theorem State.chunkSend_keeps (hheard : Claim.Plain (s.at t) via msg 0x85 3) (hfirst : leAt msg 4 2 = 0)
    (hlen : (slice msg 16 (leAt msg 8 4)).length ≤ 65536) (hmore : bitN (msgB msg 2) 0 = false) :
    s.chunkSend via none msg t =
      let u := Claim.heard (s.at t) via msg
      (u.setConn { u.conn via with chunkIn := slice msg 16 (leAt msg 8 4), chunkHandle := msgB msg 3, chunkNext := 1 }).spdmOut via none
        (leBytes 1 0x13 ++ leBytes 1 5 ++ leBytes 1 0 ++ leBytes 1 (msgB msg 3) ++ leBytes 2 0) := by
  rw [State.chunkSend, State.spdmIn_plain hheard (by decide)]
  simp [hfirst, hlen.not_gt, hmore]

theorem spdmChunks_holds : Claim.spdmChunks := by
  intro s via msg t u c b
  refine ⟨fun hheard hfirst hlen hmore => congrArg Host.Outcome.next (State.chunkSend_keeps hheard hfirst hlen hmore), fun hheard hnone => ?_,
    fun hheard hsome hhandle hnum hnext hlong => ?_⟩ <;>
    refine congrArg Host.Outcome.next ((State.spdmIn_plain hheard (by decide)).trans ?_)
  · exact if_pos (Or.inl (List.isEmpty_iff.mpr hnone))
  · have hgood : ¬ (c.chunkOut.isEmpty = true ∨ msgB msg 3 ≠ c.outHandle ∨ leAt msg 4 2 ≠ c.outNext) := by
      simp [hsome, hhandle, hnum, hnext]
    have hsize : (slice c.chunkOut 0 4080).length = 4080 := by simp [slice]; omega
    refine (if_neg hgood).trans ?_
    simp only [show ((Claim.heard (s.at t) via msg).conn via) = c from rfl, hnext, if_true, hsize, hlong.not_ge, decide_false]
    rfl

/-- Settles O38: each request passes the checks before it, then its own, and the answer is the served one. -/
theorem spdmRequests : Obligations.SpdmRequests :=
  ⟨spdmSetups_holds, spdmCerts_holds, spdmChallenges_holds, spdmMeasures_holds, spdmSetCerts_holds, spdmChunks_holds⟩

theorem spdmTimes_holds : Claim.spdmTimes := fun _ _ => ⟨rfl, rfl, rfl⟩

/-- Settles O39: the session's number, its handshake and the tag and signature of FINISH pick the branch of each. -/
theorem spdmSessions : Obligations.SpdmSessions :=
  ⟨spdmExchanges_holds, spdmFinishes_holds, spdmSessions_holds, spdmEncaps_holds, spdmTimes_holds⟩

end Sys2Proof.Machine
end

section
/-!
Clocks and margins (ch 19): time maps, the device calendar, the lead lease, the refclk, the lifetime counters, and margin plans.
-/

namespace Sys2Proof.Machine

variable {s u : State} {o : Origin} {p h k n i t e sub : Nat} {v : List Byte} {m : TimeMap} {c : Calendar} {x : Island}

/-! ### Time maps (R404 to R406) -/

/-- The map that a sample leaves (R405). -/
theorem TimeMap.sample_map : (m.sample h t).1 =
    if m.have_ = false then { h, s := t, e := 0, have_ := true, valid := true }
    else if m.s + 100000000 ≤ t then { h, s := t, e := clampRate (rateOf m.h m.s h t), have_ := true, valid := true }
    else { h, s := t, e := m.e, have_ := true, valid := true } := by
  cases hhave : m.have_ with
  | false => simp [TimeMap.sample, hhave]
  | true =>
    by_cases hlater : m.s + 100000000 ≤ t <;> simp [TimeMap.sample, hhave, hlater]

/-- The clamp changes a rate that is found from two samples (R405). -/
theorem TimeMap.sample_clamped : (m.sample h t).2 = true ↔
    (m.have_ = true ∧ m.s + 100000000 ≤ t) ∧ clampRate (rateOf m.h m.s h t) ≠ rateOf m.h m.s h t := by
  cases hhave : m.have_ with
  | false => simp [TimeMap.sample, hhave]
  | true =>
    by_cases hlater : m.s + 100000000 ≤ t <;> simp [TimeMap.sample, hhave, hlater]

/-- The state with a host time `h` taken by the maps of port `p` on both halves. -/
def State.sampled (s : State) (p h : Nat) : State :=
  let s1 : State := { s with clk := { s.clk with
    maps := (s.clk.maps.put (2 * p) ((s.timeMap p 0).sample h s.ns).1).put (2 * p + 1) ((s.timeMap p 1).sample h s.ns).1 } }
  (((s1.count 0x8900 2 1).unlatch 0x9005 (2 * p)).unlatch 0x9005 (2 * p + 1)).mapTold

theorem State.timeSample_takes (habove : ∀ k, k < 2 → (s.timeMap p k).have_ = true → (s.timeMap p k).h < h) :
    s.timeSample p h = .ok (if ((s.timeMap p 0).sample h s.ns).2 || ((s.timeMap p 1).sample h s.ns).2 then
      ((s.sampled p h).count 0x8900 3 1).raise 0x9004 0 0 [p] else s.sampled p h) := by
  have hrises : ¬ (((s.timeMap p 0).have_ = true ∧ h ≤ (s.timeMap p 0).h) ∨ ((s.timeMap p 1).have_ = true ∧ h ≤ (s.timeMap p 1).h)) := by
    rintro (⟨hthere, hle⟩ | ⟨hthere, hle⟩)
    · exact (habove 0 (by decide) hthere).not_ge hle
    · exact (habove 1 (by decide) hthere).not_ge hle
  exact if_neg hrises

theorem State.timeSample_refuses (hbelow : ∃ k, k < 2 ∧ (s.timeMap p k).have_ = true ∧ h ≤ (s.timeMap p k).h) :
    s.timeSample p h = .error wRefused := by
  obtain ⟨k, hk, hthere, hle⟩ := hbelow
  obtain rfl | rfl : k = 0 ∨ k = 1 := by omega
  · exact if_pos (Or.inl ⟨hthere, hle⟩)
  · exact if_pos (Or.inr ⟨hthere, hle⟩)

theorem exec_timeMapSample (hp : p < 4) :
    exec (.timeMapSample o p v t) s = .next ((s.at t).writeRow o (0x9020 + p) 1 v (fun u => u.timeSample p (leNat v))) := if_neg hp.not_ge

theorem timeSamples_holds : Claim.timeSamples := by
  intro s o p t v hp u h m rate later n s1 s2
  have hs2 : s2 = u.sampled p h := by simp only [State.sampled, TimeMap.sample_map, s2, s1, n, rate, m]
  have hclamped : ∀ k, ((u.timeMap p k).sample h u.ns).2 = true ↔ later k ∧ clampRate (rate k) ≠ rate k := fun k =>
    TimeMap.sample_clamped
  rw [exec_timeMapSample hp, hs2]
  refine ⟨fun hw habove => ⟨fun hnone => ?_, fun ⟨k, hk, hclamp⟩ => ?_⟩, fun hc hbelow => ?_⟩
  · have hfree : (((u.timeMap p 0).sample h u.ns).2 || ((u.timeMap p 1).sample h u.ns).2) = false := by
      rw [Bool.eq_false_iff, ne_eq, Bool.or_eq_true, hclamped, hclamped]
      rintro (⟨hlater, hclamp⟩ | ⟨hlater, hclamp⟩)
      · exact hclamp (hnone 0 (by decide) hlater)
      · exact hclamp (hnone 1 (by decide) hlater)
    rw [writeRow_eq hw (State.timeSample_takes habove), if_neg (Bool.eq_false_iff.mp hfree)]
  · have hone : (((u.timeMap p 0).sample h u.ns).2 || ((u.timeMap p 1).sample h u.ns).2) = true := by
      rw [Bool.or_eq_true, hclamped, hclamped]
      obtain rfl | rfl : k = 0 ∨ k = 1 := by omega
      · exact Or.inl hclamp
      · exact Or.inr hclamp
    rw [writeRow_eq hw (State.timeSample_takes habove), if_pos hone]
  · exact congrArg _ (writeRow_refused (r := wRefused) hc (State.timeSample_refuses hbelow))

theorem mapsEnd_holds : Claim.mapsEnd := by
  intro s p h hp hh
  have hinvalid : exec (.timeMapInvalid p h) s = .next (s.mapInvalid p h) := by
    show execTimeMapInvalid p h s = _
    rw [execTimeMapInvalid, Nat.mod_eq_of_lt hh, withPort, if_neg hp.not_ge]
  rw [hinvalid]
  refine ⟨?_, ?_, fun hgone => ?_⟩
  · intro o v hw s1
    show execTimeMapEmpty o p v s = _
    rw [execTimeMapEmpty, withPort, if_neg hp.not_ge]
    exact congrArg _ (writeRow_eq hw rfl)
  · intro hthere hvalid s1
    exact congrArg _ (if_neg (by simp [hthere, hvalid]))
  · exact congrArg _ (if_pos (by simpa using hgone))

/-- Settles O40: the maps' samples decide whether a host time is taken, and the rate whether it is clamped. -/
theorem timeMaps : Obligations.TimeMaps := ⟨timeSamples_holds, mapsEnd_holds⟩

/-! ### The device calendar (R407 to R410) -/

theorem exec_calendarSet : exec (.calendarSet o v) s = .next (s.writeRow o 0x9010 1 v (fun t => t.calSet (leNat v))) := rfl

theorem calendarSets_holds : Claim.calendarSets := by
  intro s o v n d lim
  rw [exec_calendarSet]
  refine ⟨fun hw => ⟨fun hunset => ?_, ?_, fun hset hlim habove => ?_⟩, fun hc hset hbelow hlim hout => ?_⟩
  · rw [writeRow_eq hw (if_pos hunset)]
  · intro hset hlow hhigh s1
    exact congrArg _ (writeRow_eq hw ((if_neg (not_not_intro hset)).trans (if_pos ⟨hlow, hhigh⟩)))
  · have hbeyond : ¬ (-lim ≤ d ∧ d ≤ lim) := fun ⟨_, hle⟩ => hle.not_gt habove
    exact congrArg _ (writeRow_eq hw ((if_neg (not_not_intro hset)).trans ((if_neg hbeyond).trans (if_pos (Or.inl habove)))))
  · have hbeyond : ¬ (-lim ≤ d ∧ d ≤ lim) := fun ⟨hle, _⟩ => hle.not_gt hbelow
    have hrefused : ¬ (lim < d ∨ s.inMaint = true) := by
      rintro (habove | hmaint)
      · omega
      · exact Bool.false_ne_true (hout.symm.trans hmaint)
    exact congrArg _ (writeRow_refused (r := wRefused) hc ((if_neg (not_not_intro hset)).trans ((if_neg hbeyond).trans (if_neg hrefused))))

/-- Without a slew a millisecond is one more. -/
theorem Calendar.tick_even {ppm : Nat} (heven : c.slew = 0) : c.tick ppm = { c with now := c.now + 1, frac := 0 } := if_pos heven

/-- The rate has not yet made a whole millisecond. -/
theorem Calendar.tick_gathers {ppm : Nat} (hslew : c.slew ≠ 0) (hpart : c.frac + ppm < 1000000) :
    c.tick ppm = { c with now := c.now + 1, frac := c.frac + ppm } := (if_neg hslew).trans (if_pos hpart)

theorem Calendar.tick_gains {ppm : Nat} (hslew : 0 < c.slew) (hwhole : 1000000 ≤ c.frac + ppm) : c.tick ppm =
    { c with now := c.now + 2, slew := c.slew - 1, frac := if c.slew = 1 then 0 else c.frac + ppm - 1000000 } :=
  (if_neg hslew.ne').trans ((if_neg hwhole.not_gt).trans (if_pos hslew))

theorem Calendar.tick_loses {ppm : Nat} (hslew : c.slew < 0) (hwhole : 1000000 ≤ c.frac + ppm) : c.tick ppm =
    { c with slew := c.slew + 1, frac := if c.slew = -1 then 0 else c.frac + ppm - 1000000 } :=
  (if_neg hslew.ne).trans ((if_neg hwhole.not_gt).trans (if_neg hslew.not_gt))

theorem calendarTicks_holds : Claim.calendarTicks := by
  intro s heven hbridge c n s1
  show execCalendarDistribute s = _
  simp only [execCalendarDistribute, State.calSend, Calendar.tick_even heven, hbridge]
  rfl

theorem calendarSlews_holds : Claim.calendarSlews := by
  intro c ppm
  have hnow : (c.tick ppm).now = c.now ∨ (c.tick ppm).now = c.now + 1 ∨ (c.tick ppm).now = c.now + 2 := by
    by_cases heven : c.slew = 0
    · simp [Calendar.tick_even heven]
    by_cases hpart : c.frac + ppm < 1000000
    · simp [Calendar.tick_gathers heven hpart]
    rcases lt_or_gt_of_ne heven with hslew | hslew
    · simp [Calendar.tick_loses hslew (not_lt.mp hpart)]
    · simp [Calendar.tick_gains hslew (not_lt.mp hpart)]
  refine ⟨by omega, by omega, fun heven => ?_, fun hslew hpart => ?_, fun hslew hwhole => ?_, fun hslew hwhole => ?_⟩
  · rw [Calendar.tick_even heven]
  · rw [Calendar.tick_gathers hslew hpart]
    exact ⟨rfl, rfl⟩
  · rw [Calendar.tick_gains hslew hwhole]
    exact ⟨rfl, rfl⟩
  · rw [Calendar.tick_loses hslew hwhole]
    exact ⟨rfl, rfl⟩

theorem calendarKeeps_holds : Claim.calendarKeeps := by
  intro s h hh
  have hrow : exec (.calendarFreeRun h) s = .next (s.freeRun h) := by
    show execCalendarFreeRun h s = _
    rw [execCalendarFreeRun, Nat.mod_eq_of_lt hh]
  rw [hrow]
  refine ⟨?_, fun hwaits => ?_, rfl⟩
  · intro hheld hold s1
    exact congrArg _ (if_neg (by simp [hheld, hold]))
  · exact congrArg _ (if_pos hwaits)

/-- Settles O41: the calendar's state and the difference decide a set, the slew a tick, and the copy's age its free run. -/
theorem deviceCalendar : Obligations.DeviceCalendar := ⟨calendarSets_holds, calendarTicks_holds, calendarSlews_holds, calendarKeeps_holds⟩

/-! ### The lead lease (R416 to R418) -/

theorem leasesAsk_holds : Claim.leasesAsk := by
  intro s h t hh u v
  have hrow : exec (.leaseRenewRequest h t) s = .next (v.rotAsked h) := by
    show execLeaseRenewRequest h t s = _
    rw [execLeaseRenewRequest, Nat.mod_eq_of_lt hh, State.askRenew]
  rw [hrow]
  refine ⟨fun hruns hreach => ?_, fun hstalled => congrArg _ (if_pos (Or.inl hstalled))⟩
  have hheard : ¬ ((v.clk.lease.get h).stalled = true ∨ (h = 1 ∧ v.boot.bridge = true)) := by
    rintro (hstalled | ⟨hone, hdown⟩)
    · exact Bool.false_ne_true (hruns.symm.trans hstalled)
    · exact hreach.elim (by omega) fun hup => Bool.false_ne_true (hup.symm.trans hdown)
  rw [State.rotAsked, if_neg hheard]
  exact ⟨fun hleads => by rw [if_neg (Bool.eq_false_iff.mp hleads)], fun hnobody => by rw [if_pos hnobody]⟩

theorem leasesGranted_holds : Claim.leasesGranted := by
  intro s h epoch t lead hh hepoch u l s1 hown
  have htakes : ¬ (lead && !l.lead && decide (l.epoch ≠ 0) && decide (l.epoch < epoch)) = true := by
    rcases hown with hflag | hleads | hfirst | hold
    · simp [hflag]
    · simp [hleads]
    · simp [hfirst]
    · simp [hold.not_gt]
  show (_ → execLeaseGrant h epoch lead t s = _) ∧ (_ → execLeaseGrant h epoch lead t s = _)
  simp only [execLeaseGrant, Nat.mod_eq_of_lt hh, Nat.mod_eq_of_lt hepoch, State.granted]
  rw [if_neg htakes]
  exact ⟨fun hruns => congrArg _ (if_neg (Bool.eq_false_iff.mp hruns)), fun hheld => congrArg _ (if_pos hheld)⟩

theorem leasesEnd_holds : Claim.leasesEnd := by
  intro s h hh
  have hrow : exec (.halfLeaseEnd h) s = .next (s.leaseOver h) := by
    show execHalfLeaseEnd h s = _
    rw [execHalfLeaseEnd, Nat.mod_eq_of_lt hh]
  rw [hrow]
  exact ⟨fun hruns => congrArg _ (if_neg (Bool.eq_false_iff.mp hruns)), fun hheld => congrArg _ (if_pos hheld)⟩

theorem grantsEnd_holds : Claim.grantsEnd := by
  intro s h hh s1
  have hrow : exec (.rotGrantEnd h) s = .next (s.rotEnd h) := by
    show execRotGrantEnd h s = _
    rw [execRotGrantEnd, Nat.mod_eq_of_lt hh]
  rw [hrow]
  refine ⟨fun hother => congrArg _ (if_pos hother), fun hleads hruns => ?_, fun hleads hruns => ?_⟩ <;>
    refine congrArg _ ((if_neg (not_not_intro hleads)).trans ?_)
  · exact if_pos hruns
  · exact if_neg (Bool.eq_false_iff.mp hruns)

theorem exec_leadMoveWrite : exec (.leadMoveWrite o v) s = .next (s.writeRow o 0x9000 6 v (fun t => t.leadMove (leNat v))) := rfl

theorem State.leadMove_tells (hleads : s.clk.lead.half = some p) (hother : p ≠ h) (hruns : (s.clk.lease.get h).rotRuns = true) :
    s.leadMove h = .ok (State.sendGrant { s with clk := { s.clk with lead := { s.clk.lead with moving := some h } } } p) := by
  simp only [State.leadMove, hleads]
  rw [if_neg (by simpa using hother), if_neg (by simp [hruns])]

theorem leadsMove_holds : Claim.leadsMove := by
  intro s o v h
  rw [exec_leadMoveWrite]
  refine ⟨fun hw => ⟨fun hleads => ?_, ?_⟩, fun hc hother hruns => ?_, fun hnone => ?_, fun k hmoving hruns => ?_⟩
  · rw [writeRow_eq hw (if_pos hleads)]
  · intro p hleads hother hruns s1
    exact congrArg _ (writeRow_eq hw (State.leadMove_tells hleads hother hruns))
  · exact congrArg _ (writeRow_refused (r := wRefused) hc ((if_neg hother).trans (if_pos (by rw [hruns]; rfl))))
  · refine congrArg Host.Outcome.next ?_
    simp only [State.leadDropped, hnone]
  · refine congrArg Host.Outcome.next ?_
    simp only [State.leadDropped, hmoving]
    exact if_pos hruns

theorem leadPasses_holds : Claim.leadPasses := fun _ _ => ⟨rfl, rfl, rfl⟩

theorem leadMessages_holds : Claim.leadMessages := by
  intro s h e hh l
  have hrow : exec (.leadMessage h e) s = .next (s.leadMsg h e) := by
    show execLeadMessage h e s = _
    rw [execLeadMessage, Nat.mod_eq_of_lt hh]
  rw [hrow]
  refine ⟨fun hold => congrArg _ (if_pos hold), fun hnew hruns => ?_, fun hsame => ?_⟩
  · exact congrArg _ ((if_neg hnew.not_gt).trans (if_pos ⟨hnew, by simp [hruns, l]⟩))
  · exact congrArg _ ((if_neg hsame.le.not_gt).trans (if_neg fun ⟨hnew, _⟩ => hsame.not_lt hnew))

/-- Settles O42: the lease's hold and epochs, the grants and who leads pick the branch of each. -/
theorem leasesAndLead : Obligations.LeasesAndLead :=
  ⟨leasesAsk_holds, leasesGranted_holds, leasesEnd_holds, grantsEnd_holds, leadsMove_holds, leadPasses_holds, leadMessages_holds⟩

/-! ### The refclk and the lifetime counters (R411, R425) -/

theorem refclks_holds : Claim.refclks := fun _ hmode =>
  ⟨fun hthere => congrArg Host.Outcome.next ((if_neg (Bool.eq_false_iff.mp hthere)).trans (if_neg hmode)),
    fun hlost => congrArg Host.Outcome.next (if_pos hlost),
    fun hlost => congrArg Host.Outcome.next ((if_neg (by simp [hlost])).trans (if_neg hmode)),
    fun hthere => congrArg Host.Outcome.next (if_pos (by simp [hthere]))⟩

theorem lifetimes_holds : Claim.lifetimes := fun _ _ => ⟨rfl, rfl⟩

theorem islandSeconds_holds : Claim.islandSeconds := fun _ _ _ => ⟨rfl, rfl, rfl, rfl, rfl, rfl, rfl, rfl, rfl, rfl⟩

/-- Settles O43: the refclk's state picks the branch, and a second is what `Island.second` says. -/
theorem refclkAndLifetimes : Obligations.RefclkAndLifetimes := ⟨refclks_holds, lifetimes_holds, islandSeconds_holds⟩

/-! ### Margin plans (R412 to R415) -/

theorem State.replanAll_all : s.replanAll (fun _ => true) = (List.range 100).foldl (fun t i => t.replan i) s := by
  rw [State.replanAll, List.filter_eq_self.mpr fun _ _ => rfl]

theorem exec_replanNow (hw : Writable s o 0x9040 2 v) :
    exec (.replanNow o v) s = .next ((s.replanAll (fun _ => true)).answerW o 0x9040 2 v.length stOK 0) :=
  congrArg Host.Outcome.next (writeRow_eq hw rfl)

theorem replans_holds : Claim.replans := by
  intro s o v all
  refine ⟨congrArg Host.Outcome.next State.replanAll_all, fun hw => ?_⟩
  rw [exec_replanNow hw, State.replanAll_all]

/-- Does the target `vp` of an island of kind `k` lie inside the kind's envelope, and within its step of `volt` (R413)? -/
def State.inEnvelope (s : State) (k vp volt : Nat) : Bool :=
  decide (s.dval (0x9050 + k) 2 ≤ vp) && decide (vp ≤ s.dval (0x9050 + k) 3) && decide (voltGap vp volt ≤ s.dval (0x9050 + k) 4)

theorem State.inEnvelope_iff {vp volt : Nat} : s.inEnvelope k vp volt = true ↔
    s.dval (0x9050 + k) 2 ≤ vp ∧ vp ≤ s.dval (0x9050 + k) 3 ∧ (vp - volt) + (volt - vp) ≤ s.dval (0x9050 + k) 4 := by
  simp only [State.inEnvelope, Bool.and_eq_true, decide_eq_true_eq, and_assoc]
  rfl

/-- The state with the plan of island `i` anew: of kind `plan`, to voltage `vp`, under the next sequence number. -/
abbrev State.planned (s : State) (i plan vp : Nat) (x : Island) : State :=
  { s with clk := { s.clk with
    islands := s.clk.islands.put i { x with plan, vp, seq := (s.clk.planSeq + 1) % 2 ^ 32 }, planSeq := (s.clk.planSeq + 1) % 2 ^ 32 } }

/-- The voltage that a re-plan of island `i` aims at (R413). -/
abbrev State.planTarget (s : State) (i : Nat) (x : Island) : Nat :=
  planVolt (s.curveAt (islandKind i)).1 (s.curveAt (islandKind i)).2 x.volt (s.dval (0x9050 + islandKind i) 5) x.slack

theorem State.replan_rests {vp : Nat} (hu : s.count 0x8900 6 1 = u) (hx : u.island i = x) (hvp : u.planTarget i x = vp) (hsame : vp = x.volt) :
    s.replan i = u.setIsland i x.noPlan := by
  simp only [State.replan, hu, hx, hvp, if_pos hsame]

theorem State.replan_pending {vp : Nat} (hu : s.count 0x8900 6 1 = u) (hx : u.island i = x) (hvp : u.planTarget i x = vp) (hnew : vp ≠ x.volt)
    (hinside : u.inEnvelope (islandKind i) vp x.volt = true) :
    s.replan i = (u.planned i 1 vp x).raise 0x9020 0 0 [i, (u.clk.planSeq + 1) % 2 ^ 32, vp] := by
  rw [State.inEnvelope] at hinside
  simp only [State.replan, hu, hx, hvp, if_neg hnew, hinside, if_true]

theorem State.replan_awaits {vp : Nat} (hu : s.count 0x8900 6 1 = u) (hx : u.island i = x) (hvp : u.planTarget i x = vp) (hnew : vp ≠ x.volt)
    (houtside : u.inEnvelope (islandKind i) vp x.volt = false) :
    s.replan i = ((u.planned i 2 vp x).count 0x8900 8 1).raise 0x9021 0 0 [i, (u.clk.planSeq + 1) % 2 ^ 32, vp] := by
  rw [State.inEnvelope] at houtside
  simp only [State.replan, hu, hx, hvp, if_neg hnew, houtside, Bool.false_eq_true, if_false]

theorem replansOne_holds : Claim.replansOne := by
  intro s i vp x u k seq ok hx hvp
  refine ⟨State.replan_rests rfl hx hvp, ?_, ?_⟩
  · intro hnew hok s1
    exact State.replan_pending rfl hx hvp hnew (State.inEnvelope_iff.mpr hok)
  · intro hnew hnot s1
    exact State.replan_awaits rfl hx hvp hnew (Bool.eq_false_iff.mpr fun h => hnot (State.inEnvelope_iff.mp h))

theorem Island.stage_volt : x.stage.volt = stageVolt x.volt x.vp := by
  rw [Island.stage]
  split_ifs <;> rfl

theorem stages_holds : Claim.stages := by
  intro x hmoves y
  have hvolt : y.volt = stageVolt x.volt x.vp := Island.stage_volt
  refine ⟨fun hup => ?_, fun hdown => ?_, fun hthere => ?_, fun hshort => ?_⟩
  · rw [hvolt, stageVolt, if_pos hup]
  · rw [hvolt, stageVolt, if_neg hdown.not_gt]
  · have hy : y = { x with volt := stageVolt x.volt x.vp, plan := 0, vp := 0, seq := 0 } := if_pos (hvolt ▸ hthere)
    rw [hy]
    exact ⟨rfl, rfl, rfl⟩
  · have hy : y = { x with volt := stageVolt x.volt x.vp } := if_neg (hvolt ▸ hshort)
    rw [hy]
    exact ⟨rfl, rfl, rfl⟩

theorem exec_marginCurveWrite (hk : k < 17) : exec (.marginCurveWrite o k sub v) s =
    .next (s.writeRow o (0x9050 + k) sub v (fun t => t.marginWrite k sub v)) := if_neg hk.not_ge

theorem State.marginWrite_stores (hrule : s.marginRule k sub v = none) : s.marginWrite k sub v =
    .ok (if sub = 5 then s.dset (0x9050 + k) sub v else (s.dset (0x9050 + k) sub v).replanAll (fun i => islandKind i == k)) := by
  simp only [State.marginWrite, hrule]

theorem State.marginWrite_refuses {r : Nat × Nat} (hrule : s.marginRule k sub v = some r) : s.marginWrite k sub v = .error r := by
  simp only [State.marginWrite, hrule]

theorem marginWrites_holds : Claim.marginWrites := by
  intro s o k sub v
  refine ⟨fun hk hw hrule => ?_, fun hk hc hbad => ?_, fun hk hc habove => ?_, fun hk => if_pos hk⟩ <;> rw [exec_marginCurveWrite hk]
  · rw [writeRow_eq hw (State.marginWrite_stores hrule)]
    exact ⟨fun hsub => by rw [if_pos hsub], fun hsub => by rw [if_neg hsub]⟩
  · exact congrArg _ (writeRow_refused (r := (stTABLE, 0)) hc (State.marginWrite_refuses (if_pos ⟨rfl, hbad⟩)))
  · have hrule : s.marginRule k 2 v = some wRefused := (if_neg fun h => absurd h.1 (by decide)).trans (if_pos ⟨rfl, habove⟩)
    exact congrArg _ (writeRow_refused (r := wRefused) hc (State.marginWrite_refuses hrule))

theorem slacks_holds : Claim.slacks := by
  intro s i slack ring hi hslack hring x s1
  have hrow : exec (.slackRead i slack ring) s = .next (s.slackRead i slack ring) := if_neg hi.not_ge
  rw [hrow]
  simp only [State.slackRead, Nat.mod_eq_of_lt hslack, Nat.mod_eq_of_lt hring]
  refine ⟨fun hgood => ?_, fun hlow hwas => ?_, fun hlow hwas hplan => ?_, fun hlow hwas hplan hraises => ?_⟩
  · simp [hgood.not_gt, s1, x]
  · simp [hlow, show (s.island i).low = true from hwas, s1, x]
  · simp [hlow, show (s.island i).low = false from hwas, show (s.island i).plan ≠ 1 from hplan, s1, x]
  · simp [hlow, show (s.island i).low = false from hwas, show (s.island i).plan = 1 from hplan,
      show (s.island i).volt < (s.island i).vp from hraises, s1, x]

theorem exec_planApprove (hi : i < 100) :
    exec (.planApprove o i v) s = .next (s.writeRow o (0x9080 + i) 9 v (fun t => t.planWrite i (leNat v))) := if_neg hi.not_ge

theorem approves_holds : Claim.approves := by
  intro s o i v hi x
  rw [exec_planApprove hi]
  refine ⟨fun hw hawaits => ⟨fun hseq => ?_, fun hzero hseq => ?_⟩, fun hc hnot2 hnot3 => ?_⟩
  · exact congrArg _ (writeRow_eq hw (if_pos ⟨hawaits, hseq⟩))
  · have hother : leNat v ≠ x.seq := by omega
    exact congrArg _ (writeRow_eq hw ((if_neg fun ⟨_, h⟩ => hother h).trans
      ((if_neg fun ⟨_, h⟩ => hother h).trans (if_pos ⟨Or.inl hawaits, hzero⟩))))
  · exact congrArg _ (writeRow_refused (r := wRefused) hc ((if_neg fun ⟨h, _⟩ => hnot2 h).trans
      ((if_neg fun ⟨h, _⟩ => hnot3 h).trans (if_neg fun ⟨h, _⟩ => h.elim hnot2 hnot3))))

/-- Settles O44: the target against the envelope, the stage against Vp, the slack against its floor and the plan's state pick the branch of each. -/
theorem marginPlans : Obligations.MarginPlans :=
  ⟨replans_holds, replansOne_holds, stages_holds, marginWrites_holds, slacks_holds, approves_holds⟩

end Sys2Proof.Machine
end

section
/-!
Start-ups and resets, the service port, the feed and thermal pacing (ch 20, 21), and what the power-on reset leaves.
-/

namespace Sys2Proof.Machine

variable {s : State} {o : Origin} {k h op off sub t : Nat} {v b d : List Byte} {c : Calendar} {x : Island}

/-! ### Power-on and what a start-up keeps (R410, R428 to R431) -/

theorem powerOns_holds : Claim.powerOns := by
  intro s straps ref
  refine ⟨fun hfree => ?_, fun hshut hoff => ?_⟩
  · have hstarts : ¬ (s.boot.shut = true ∧ (!s.boot.off) = true) := by
      rcases hfree with h | h <;> simp [h]
    exact congrArg Host.Outcome.next (if_neg hstarts)
  · exact congrArg Host.Outcome.next (if_pos ⟨hshut, by rw [hoff]; rfl⟩)

/-- A granule that a start-up maps is pinned (R429). -/
theorem State.bootGrans_pinned {g : Nat} {a : Granule} (hmem : (g, a) ∈ s.bootGrans) : a.pin = true := by
  obtain ⟨kg, -, hmap⟩ := List.mem_filterMap.mp hmem
  obtain ⟨r, -, heq⟩ := Option.map_eq_some_iff.mp hmap
  rw [← (Prod.mk.inj heq).2]

theorem startKeeps_holds : Claim.startKeeps := fun _ _ _ =>
  ⟨rfl, rfl, rfl, rfl, rfl, rfl, rfl, rfl, rfl, rfl, rfl, rfl, rfl, rfl, rfl, rfl, rfl, rfl, rfl, rfl, rfl, rfl, rfl,
    fun _ _ => State.bootGrans_pinned⟩

theorem calendarKept_holds : Claim.calendarKept := by
  intro c
  refine ⟨⟨rfl, rfl⟩, fun hset => ?_, fun hunset => ?_⟩
  · simp [Calendar.boot, hset]
  · simp [Calendar.boot, hunset]

/-! ### The ROM's choice and the end of a start-up (R438, R439, R444) -/

theorem Boot.tryAll_passes {b : Boot} {fl t : List Nat} (hpass : bundleFault fl (b.slots.get k).bytes = none) : b.tryAll fl (k :: t) =
    { b with
      use := k
      secver := [leAt (b.slots.get k).bytes 144 4, leAt (b.slots.get k).bytes 400 4, leAt (b.slots.get k).bytes 656 4]
      version := [leAt (b.slots.get k).bytes 148 4, leAt (b.slots.get k).bytes 404 4, leAt (b.slots.get k).bytes 660 4] } := by
  rw [Boot.tryAll, hpass]

theorem Boot.tryAll_fails {b : Boot} {fl t : List Nat} {r : Nat} (hfault : bundleFault fl (b.slots.get k).bytes = some r) :
    b.tryAll fl (k :: t) = Boot.tryAll { b.fail k with fellBack := some (b.fellBack.getD (k, r)) } fl t := by
  rw [Boot.tryAll, hfault]

theorem romTries_holds : Claim.romTries := by
  intro b fl k t
  refine ⟨rfl, rfl, fun hpass => ?_, ?_⟩
  · rw [Boot.tryAll_passes hpass]
    exact ⟨rfl, rfl, rfl⟩
  · intro r hfault b1
    exact Boot.tryAll_fails hfault

theorem startupEnds_holds : Claim.startupEnds := by
  intro s
  have hrow : exec .startupEnd s = .next s.startupEnd := rfl
  rw [hrow]
  refine ⟨fun hmode href hdark huse => ?_, fun hmode href hdark huse hrom => ?_, fun hwaits => congrArg _ (if_pos hwaits)⟩ <;>
    rw [State.startupEnd, if_neg (by simp [hmode, href, hdark])]
  · simp only [if_neg huse]
    rw [if_neg (by omega)]
  · simp only [if_pos huse]
    rw [if_pos hrom]

theorem Two.get_upd_same {α : Type} {p : Two α} {f : α → α} (hk : k < 2) : (p.upd k f).get k = f (p.get k) := by
  obtain rfl | rfl : k = 0 ∨ k = 1 := by omega
  · rfl
  · rfl

theorem Two.get_upd_other {α : Type} {p : Two α} {f : α → α} (hk : k < 2) : (p.upd k f).get (1 - k) = p.get (1 - k) := by
  obtain rfl | rfl : k = 0 ∨ k = 1 := by omega
  · rfl
  · rfl

theorem Two.get_upd_back {α : Type} {p : Two α} {f : α → α} (hk : k < 2) : (p.upd (1 - k) f).get k = p.get k := by
  obtain rfl | rfl : k = 0 ∨ k = 1 := by omega
  · rfl
  · rfl

theorem slotsCome_holds : Claim.slotsCome := by
  intro b k hk
  have hcame : (b.came k).slots.get (1 - k) =
      { b.slots.get (1 - k) with st := if (b.slots.get (1 - k)).st = 3 then 4 else (b.slots.get (1 - k)).st } := by
    rw [Boot.came, Two.get_upd_same (by omega), Two.get_upd_other hk]
  refine ⟨?_, fun hactive => ?_, fun hother => ?_⟩
  · rw [Boot.came, Two.get_upd_back hk, Two.get_upd_same hk]
  · rw [hcame]
    exact if_pos hactive
  · rw [hcame]
    exact if_neg hother

theorem readyTimeouts_holds : Claim.readyTimeouts := fun s =>
  ⟨fun hmode huse hdark => congrArg Host.Outcome.next (if_neg (by simp [hmode, huse, hdark])),
    fun hwaits => congrArg Host.Outcome.next (if_pos hwaits)⟩

/-! ### Resets, half start-ups and heartbeats (R422, R423, R433, R434) -/

/-- A checked write to 0xF001.01 is BUSY for a half that may not be reset now, HELD where it cannot reach it, and else answered before its reset. -/
theorem State.resetRow_checked (hc : Claim.Checked s o 0xF001 1 v) : s.resetRow o v =
    if leNat v ≠ 1 ∧ s.halfBusy (leNat v - 2) = true then s.answerW o 0xF001 1 v.length stBAD dBUSY
    else if s.unreachable o 0xF001 1 true then s.answerW o 0xF001 1 v.length stHELD 0
    else if leNat v = 1 then (s.answerW o 0xF001 1 v.length stOK 0).start 1
    else (s.answerW o 0xF001 1 v.length stOK 0).halfReset (leNat v - 2) := by
  obtain ⟨hawake, hmode, hcheck⟩ := hc
  simp only [State.resetRow, hawake, hmode, hcheck]
  rfl

theorem resets_holds : Claim.resets := by
  intro s o v hc n
  have hwarm : exec (.warmReset o v) s = .next (s.resetRow o v) := rfl
  have hhalf : exec (.halfReset o v) s = .next (s.resetRow o v) := rfl
  rw [hwarm, hhalf, State.resetRow_checked hc]
  refine ⟨fun hn hreach => ?_, fun hn hfree hreach => ?_, fun hn hbusy => congrArg _ (if_pos ⟨hn, hbusy⟩), fun hn hfar => ?_⟩
  · rw [if_neg (fun h => h.1 hn), if_neg (Bool.eq_false_iff.mp hreach), if_pos hn]
  · rw [if_neg (fun h => Bool.false_ne_true (hfree.symm.trans h.2)), if_neg (Bool.eq_false_iff.mp hreach), if_neg hn]
  · rw [if_neg (fun h => h.1 hn), if_pos hfar]

theorem halfStartsEnd_holds : Claim.halfStartsEnd := by
  intro s h hh
  have hrow : exec (.halfStartupEnd h) s = .next (s.halfDone h) := by
    show execHalfStartupEnd h s = _
    rw [execHalfStartupEnd, Nat.mod_eq_of_lt hh]
  rw [hrow]
  refine ⟨?_, fun hnone => congrArg _ (if_pos (by rw [hnone]; rfl))⟩
  intro hstarts s1 s3 s4 s5
  rw [State.halfDone, if_neg (by rw [hstarts]; decide)]

theorem heartbeats_holds : Claim.heartbeats := by
  intro s h hh
  have hrow : exec (.heartbeatMiss h) s = .next (s.heartbeatMiss h) := by
    show execHeartbeatMiss h s = _
    rw [execHeartbeatMiss, Nat.mod_eq_of_lt hh]
  rw [hrow]
  exact ⟨fun hruns => congrArg _ (if_neg (Bool.eq_false_iff.mp hruns)), fun hstalled => congrArg _ (if_pos hstalled)⟩

/-! ### TEST, floors and ALERT_N (R440, R445, R447) -/

theorem testModes_holds : Claim.testModes := by
  intro s o v
  have henter : exec (.testModeEnter o v) s = .next (s.writeRow o 0xF000 8 v (fun t => t.devModeWrite (leNat v))) := rfl
  have hleave : exec (.testModeLeave o v) s = .next (s.writeRow o 0xF000 8 v (fun t => t.devModeWrite (leNat v))) := rfl
  rw [henter, hleave]
  refine ⟨fun hw hmode hv hready => ?_, fun hc hmode hv hnot => ?_, ?_⟩
  · refine congrArg _ (writeRow_eq hw ?_)
    simp only [State.devModeWrite, hmode, hv, hready]
    rfl
  · refine congrArg _ (writeRow_refused (r := wDenied) hc ?_)
    simp only [State.devModeWrite, hmode, hv, hnot]
    rfl
  · intro hw hmode hv t
    refine congrArg _ (writeRow_eq hw ?_)
    simp only [State.devModeWrite, hmode, hv]
    rfl

theorem floorsAlert_holds : Claim.floorsAlert := fun _ _ _ =>
  ⟨fun hw => congrArg Host.Outcome.next (writeRow_eq hw rfl), fun hw => congrArg Host.Outcome.next (writeRow_eq hw rfl)⟩

/-- Settles O45: the mode, the slots and their faults, and what stands in a reset's way pick the branch of each. -/
theorem startUpCourse : Obligations.StartUpCourse :=
  ⟨powerOns_holds, startKeeps_holds, calendarKept_holds, romTries_holds, startupEnds_holds, slotsCome_holds, readyTimeouts_holds, resets_holds,
    halfStartsEnd_holds, heartbeats_holds, testModes_holds, floorsAlert_holds⟩

/-! ### The service port (R442, R443) -/

/-- A frame that passes its checks is served with its offset and data. -/
theorem State.svcIn_taken {serve : Nat → List Byte → State} (hf : Claim.FrameTaken s op off b d) : s.svcIn op b serve = serve off d := by
  obtain ⟨hawake, hmin, hmax, hcrc, hop, hzero, hlen, hdata, hoff, hfirst, hbegin, rfl⟩ := hf
  have hgood : ¬ (bitsN (leAt b 0 8) 63 56 ≠ op ∨ bitsN (leAt b 0 8) 19 0 ≠ 0 ∨ b.length ≠ 12 + bitsN (leAt b 0 8) 31 20
      ∨ 1024 < bitsN (leAt b 0 8) 31 20 ∨ (op ≠ 2 ∧ bitsN (leAt b 0 8) 55 32 ≠ 0) ∨ (op = 1 ∧ bitsN (leAt b 0 8) 31 20 ≠ 8)) := by
    rintro (h | h | h | h | ⟨h2, h⟩ | ⟨h1, h⟩)
    exacts [h hop, h hzero, h hlen, hdata.not_gt h, h (hoff.trans (hfirst h2)), h (hbegin h1)]
  simp only [State.svcIn]
  rw [if_neg (by simp [hawake, hmin.not_gt, hmax.not_gt]), if_neg (not_not_intro hcrc), if_neg hgood, hoff]
  rfl

/-- A frame that fails its CRC is answered so, and changes no more. -/
theorem State.svcIn_garbled {serve : Nat → List Byte → State} (hawake : s.dark = false) (hmin : 12 ≤ b.length) (hmax : b.length ≤ 1036)
    (hcrc : crc32c (b.take (b.length - 4)) ≠ leAt b (b.length - 4) 4) : s.svcIn op b serve = s.svc 1 := by
  simp only [State.svcIn]
  rw [if_neg (by simp [hawake, hmin.not_gt, hmax.not_gt]), if_pos hcrc]

theorem serviceBegins_holds : Claim.serviceBegins := by
  intro s b d
  refine ⟨fun hf => ?_, fun hawake hmin hmax hcrc => congrArg Host.Outcome.next (State.svcIn_garbled hawake hmin hmax hcrc)⟩
  have hrow : exec (.serviceBegin b) s = .next (s.svcBegin d) := congrArg Host.Outcome.next (State.svcIn_taken hf)
  rw [hrow]
  refine ⟨?_, fun hoff => congrArg _ (if_pos hoff), fun hon hopen => ?_, fun hon hidle hlong => ?_⟩
  · intro hon hidle hfits sl v
    exact congrArg _ ((if_neg hon).trans ((if_neg hidle).trans (if_neg hfits.not_gt)))
  · exact congrArg _ ((if_neg hon).trans (if_pos hopen))
  · exact congrArg _ ((if_neg hon).trans ((if_neg hidle).trans (if_pos hlong)))

theorem serviceTakes_holds : Claim.serviceTakes := by
  intro s off b d hf v x
  have hrow : exec (.serviceData b) s = .next (s.svcPut off d) := congrArg Host.Outcome.next (State.svcIn_taken hf)
  rw [hrow]
  refine ⟨?_, fun hopen hlast hlen hoff hsame => ?_, fun hopen hnext hrepeat => ?_, fun hidle => congrArg _ (if_pos hidle)⟩
  · intro hopen hnext hfits sl
    exact congrArg _ ((if_neg (not_not_intro hopen)).trans ((if_pos hnext).trans (if_neg hfits.not_gt)))
  · have hother : off ≠ v.recv := by omega
    exact congrArg _ ((if_neg (not_not_intro hopen)).trans ((if_neg hother).trans (if_pos ⟨hlast, hlen, hoff, hsame⟩)))
  · exact congrArg _ ((if_neg (not_not_intro hopen)).trans ((if_neg hnext).trans (if_neg fun ⟨_, _, h, _⟩ => hrepeat h)))

theorem servicesEnd_holds : Claim.servicesEnd := by
  intro s b d v x ended
  refine ⟨fun hf => ?_, fun hf => ?_, fun hopen => congrArg Host.Outcome.next (if_pos hopen),
    fun hidle => congrArg Host.Outcome.next (if_neg hidle)⟩
  · have hrow : exec (.serviceEnd b) s = .next s.svcEnd := congrArg Host.Outcome.next (State.svcIn_taken hf)
    rw [hrow]
    refine ⟨?_, fun hopen hshort => ?_, fun hidle => congrArg _ (if_pos hidle)⟩
    · intro hopen hwhole hshape s1
      have hgood : ¬ (v.recv ≠ v.blen ∨ (!bundleShape x.bytes) = true) := by simp [hwhole, hshape]
      exact congrArg _ ((if_neg (not_not_intro hopen)).trans (if_neg hgood))
    · exact congrArg _ ((if_neg (not_not_intro hopen)).trans (if_pos (Or.inl hshort)))
  · have hrow : exec (.serviceAbort b) s = .next (if s.boot.serv.st = 1 then s.svcFails 0 else s.svc 2) :=
      congrArg Host.Outcome.next (State.svcIn_taken hf)
    rw [hrow]
    exact ⟨fun hopen => congrArg _ (if_pos hopen), fun hidle => congrArg _ (if_neg hidle)⟩

theorem serviceActs_holds : Claim.serviceActs := by
  intro s b d
  refine ⟨fun hf => ?_, fun hawake => congrArg Host.Outcome.next (if_neg (Bool.eq_false_iff.mp hawake)),
    fun hdark => congrArg Host.Outcome.next (if_pos hdark)⟩
  have hrow : exec (.serviceActivate b) s = .next (if s.dval 0xF001 2 = 1 ∨ s.boot.mode = 3 then s.start 1 else s.svc 6) :=
    congrArg Host.Outcome.next (State.svcIn_taken hf)
  rw [hrow]
  exact ⟨fun hmay => congrArg _ (if_pos hmay), fun hnot hmode => congrArg _ (if_neg (not_or.mpr ⟨hnot, hmode⟩))⟩

theorem i3cTakes_holds : Claim.i3cTakes := by
  intro s d hawake v w
  have hrow : ∀ c, exec (.i3cCcc c d) s = .next (s.ccc c d) := fun _ => rfl
  simp only [hrow, State.ccc, hawake]
  refine ⟨fun hfree => ?_, fun haddressed => ?_, rfl, rfl, rfl⟩
  · exact congrArg _ (if_neg (Bool.eq_false_iff.mp hfree))
  · exact congrArg _ (if_pos haddressed)

/-- Settles O46: the frame's checks, and whether a delivery is allowed and open, pick the branch of each. -/
theorem servicePort : Obligations.ServicePort :=
  ⟨serviceBegins_holds, serviceTakes_holds, servicesEnd_holds, serviceActs_holds, i3cTakes_holds⟩

/-! ### The feed, power samples and thermal duty (R452, R454, R455) -/

theorem feeds_holds : Claim.feeds := fun _ _ =>
  ⟨fun hlow => congrArg Host.Outcome.next (if_pos hlow), fun hgood => congrArg Host.Outcome.next (if_neg hgood.not_gt),
    fun hon => congrArg Host.Outcome.next (if_neg (Bool.eq_false_iff.mp hon)), fun hoff => congrArg Host.Outcome.next (if_pos hoff)⟩

theorem powers_holds : Claim.powers := by
  intro s w mv hawake l sum lim
  have hrow : exec (.powerSample w mv) s = .next { s with power := s.power.sample w mv } :=
    congrArg Host.Outcome.next (if_neg (Bool.eq_false_iff.mp hawake))
  rw [hrow]
  refine ⟨fun hfew => ?_, fun hfull habove => ?_, fun hfull hbelow hlast => ?_, fun hfull hbelow hearly => ?_, fun hfull hle hnear => ?_⟩ <;>
    refine congrArg (fun p => Host.Outcome.next { s with power := p }) ?_
  · exact if_pos hfew
  · exact (if_neg hfull.not_gt).trans (if_pos habove)
  · have hnot : ¬ lim < sum := by omega
    exact (if_neg hfull.not_gt).trans ((if_neg hnot).trans ((if_pos hbelow).trans (if_neg (by omega))))
  · have hnot : ¬ lim < sum := by omega
    exact (if_neg hfull.not_gt).trans ((if_neg hnot).trans ((if_pos hbelow).trans (if_pos (by omega))))
  · exact (if_neg hfull.not_gt).trans ((if_neg hle.not_gt).trans (if_neg hnear.not_gt))

theorem paces_holds : Claim.paces := by
  refine ⟨fun _ => rfl, fun _ => rfl, fun _ => rfl, fun d t hfull => ?_, fun d t hpaced => if_pos hpaced⟩
  have hnone : ¬ t.any (fun x => decide (x < 100)) = true := by
    simpa using hfull
  exact if_neg hnone

theorem thermals_holds : Claim.thermals := by
  intro s temps hawake hot s1
  have hrow : exec (.thermalSample temps) s = .next (s.thermal temps) := congrArg Host.Outcome.next (if_neg (Bool.eq_false_iff.mp hawake))
  rw [hrow]
  exact ⟨fun hcool => congrArg _ (if_neg (Bool.eq_false_iff.mp hcool)), fun hhot => congrArg _ (if_pos hhot)⟩

theorem islandHeats_holds : Claim.islandHeats := by
  intro i x t
  refine ⟨rfl, fun hfree => if_pos (Or.inl (by rw [hfree]; rfl)), fun hpaced => ?_⟩
  have hkind : ¬ (!kindPaced (islandKind i)) = true := by rw [hpaced]; decide
  have hwarm : 10000 ≤ t → ¬ ((!kindPaced (islandKind i)) = true ∨ t < 10000) := fun hle => not_or.mpr ⟨hkind, hle.not_gt⟩
  refine ⟨fun hhot => ?_, fun hlow hhigh => ?_, fun hlow hhigh => ?_, fun hcool => if_pos (Or.inr hcool)⟩
  · exact (if_neg (hwarm (by omega))).trans (if_pos hhot)
  · exact (if_neg (hwarm (by omega))).trans ((if_neg hhigh.not_ge).trans (if_pos hlow))
  · exact (if_neg (hwarm hlow)).trans ((if_neg (by omega)).trans (if_neg hhigh.not_ge))

/-- Settles O47: the voltage, the sum of the samples against the limit and the temperatures pick the branch of each. -/
theorem feedAndThermals : Obligations.FeedAndThermals := ⟨feeds_holds, powers_holds, paces_holds, thermals_holds, islandHeats_holds⟩

/-! ### The power-on reset (R407, R426, R428, R431) -/

theorem State.reset_kept : State.reset.kept := by
  refine ⟨rfl, by decide, ?_⟩
  exact fun _ hmem => nomatch hmem

/-- Settles O56: each field of the reset state as its definition gives it, and the run's invariant on an empty memory and no counter. -/
theorem resetState : Obligations.ResetState :=
  ⟨rfl, rfl, rfl, rfl, rfl, rfl, rfl, rfl, rfl, rfl, rfl, rfl, rfl, State.reset_kept⟩

end Sys2Proof.Machine
end
